-- ==== Sys2Proof/Word.lean ====
section
/-! DEFINITION. The word types of the manual and their plainest readings: bytes, little-endian words, bit slices. -/

namespace Sys2Proof

/-- One byte. -/
abbrev Byte := BitVec 8

/-- A 20-bit fabric node ID (R218). -/
abbrev Node := Nat

/-- The bits [hi:lo] of a number. -/
def slice (v hi lo : Nat) : Nat := v / 2 ^ lo % 2 ^ (hi + 1 - lo)

/-- Bit i of a number. -/
def bitAt (v i : Nat) : Bool := v / 2 ^ i % 2 == 1

/-- A Bool as 0 or 1. -/
def b2n (b : Bool) : Nat := if b then 1 else 0

/-- The little-endian number a list of bytes holds (R88). -/
def leNat : List Byte → Nat
  | [] => 0
  | b :: bs => b.toNat + 256 * leNat bs

/-- The n little-endian bytes of a number (R88). -/
def leBytes : Nat → Nat → List Byte
  | 0, _ => []
  | n + 1, v => BitVec.ofNat 8 v :: leBytes n (v / 256)

/-- The signed reading of the low w bits of a number. -/
def signed (w v : Nat) : Int :=
  let u := v % 2 ^ w
  if 2 * u < 2 ^ w then (u : Int) else (u : Int) - (2 ^ w : Nat)

/-- The low w bits of an integer, two's complement. -/
def unsigned (w : Nat) (v : Int) : Nat := (v % ((2 ^ w : Nat) : Int)).toNat

/-- A value held between two bounds. -/
def clampN (lo hi v : Nat) : Nat := max lo (min hi v)

/-- Count up, saturating at the largest value of w bits. -/
def satAdd (w v n : Nat) : Nat := min (v + n) (2 ^ w - 1)

/-- The quotient rounded up. -/
def ceilDiv (a b : Nat) : Nat := (a + b - 1) / b

end Sys2Proof
end

