-- ==== Sys2Proof/Machine/SMap.lean ====
section
/-! DEFINITION. Sparse maps as plain data: a list of (key, value) pairs in one canonical form, keys strictly rising
and no entry equal to what an unlisted key reads as. Every memory and every register group of the machine is one. -/

namespace Sys2Proof

/-- A sparse map from numbers to values: sorted association list (canonical form: SMap.wf). -/
abbrev SMap (α : Type) := List (Nat × α)

namespace SMap

variable {α : Type}

/-- What key k reads as; an unlisted key reads as d. -/
def get (d : α) : SMap α → Nat → α
  | [], _ => d
  | (k', v) :: m, k => if k = k' then v else get d m k

/-- Remove key k. -/
def erase : SMap α → Nat → SMap α
  | [], _ => []
  | (k', v) :: m, k => if k = k' then erase m k else (k', v) :: erase m k

/-- List key k with value v. -/
def insert : SMap α → Nat → α → SMap α
  | [], k, v => [(k, v)]
  | (k', v') :: m, k, v =>
    if k = k' then (k, v) :: m else if k < k' then (k, v) :: (k', v') :: m else (k', v') :: insert m k v

/-- Write v at k, keeping the canonical form: writing what an unlisted key reads as removes the entry. -/
def set [DecidableEq α] (d : α) (m : SMap α) (k : Nat) (v : α) : SMap α :=
  if v = d then erase m k else insert m k v

/-- Keys strictly rising from b. -/
def sortedFrom : Nat → SMap α → Bool
  | _, [] => true
  | b, (k, _) :: m => decide (b ≤ k) && sortedFrom (k + 1) m

/-- The canonical form: keys strictly rising, no entry equal to d. -/
def wf [DecidableEq α] (d : α) (m : SMap α) : Bool :=
  sortedFrom 0 m && m.all fun e => !decide (e.2 = d)

/-- Write a run of values at k, k+1, … -/
def setRun [DecidableEq α] (d : α) : SMap α → Nat → List α → SMap α
  | m, _, [] => m
  | m, k, v :: vs => setRun d (set d m k v) (k + 1) vs

/-- Read n values at k, k+1, … -/
def getRun (d : α) (m : SMap α) : Nat → Nat → List α
  | _, 0 => []
  | k, n + 1 => get d m k :: getRun d m (k + 1) n

/-- Drop every entry whose key satisfies p. -/
def drop (m : SMap α) (p : Nat → Bool) : SMap α := m.filter fun e => !p e.1

end SMap
end Sys2Proof
end

