-- ==== Sys2Proof/Machine/Regs.lean ====
section
/-! DEFINITION. The register tables of the manual as data: one definition per field (bits, access code of Table 0.4, reset value,
whether Table 12.2 keeps it through a chip reset), and per register its width, its number of instances and its fields. Reserved
bits hold nothing: they read as 0 and ignore writes (R13). A shadow field has its live field's code plus 512. -/

namespace Sys2Proof.Machine

/-- The access codes of Table 0.4 (R12). -/
inductive Acc where
  | RO | RW | WO | W1C | RWS | RWL
  deriving DecidableEq, Repr

/-- One field of a register table: its code in the store, bits [hi:lo], access, reset value, and whether a chip reset keeps it. -/
structure Fld where
  code : Nat
  hi : Nat
  lo : Nat
  acc : Acc
  reset : Nat
  keep : Bool
  deriving DecidableEq, Repr

/-- The field's width in bits. -/
def Fld.width (f : Fld) : Nat := f.hi + 1 - f.lo

/-- Where instance i of a field stands in the register store. -/
def Fld.key (f : Fld) (i : Nat) : Nat := f.code + 1024 * i

namespace F

/-! HUB_D2D_BUNDLE_STAT: 01_package_and_bringup.md, Table 1.3 -/
def HUB_D2D_BUNDLE_STAT_swap_count : Fld := ⟨0, 23, 16, .RO, 0, true⟩
def HUB_D2D_BUNDLE_STAT_healthy_lanes : Fld := ⟨1, 15, 9, .RO, 0, true⟩
def HUB_D2D_BUNDLE_STAT_spares_used : Fld := ⟨2, 8, 7, .RO, 0, true⟩
def HUB_D2D_BUNDLE_STAT_width : Fld := ⟨3, 6, 5, .RO, 0, true⟩
def HUB_D2D_BUNDLE_STAT_degraded_evt : Fld := ⟨4, 0, 0, .W1C, 0, false⟩
/-! HUB_BOOT_STATUS: 01_package_and_bringup.md, Table 1.6 -/
def HUB_BOOT_STATUS_ready : Fld := ⟨5, 31, 31, .RO, 0, true⟩
def HUB_BOOT_STATUS_hold : Fld := ⟨6, 30, 30, .RO, 0, true⟩
def HUB_BOOT_STATUS_step : Fld := ⟨7, 23, 20, .RO, 0, true⟩
def HUB_BOOT_STATUS_cause : Fld := ⟨8, 19, 12, .RO, 0, true⟩
def HUB_BOOT_STATUS_cause_unit : Fld := ⟨9, 11, 0, .RO, 0, true⟩
/-! HUB_ARRAY_CLK: 02_clocks_time_latency.md, Table 2.2 -/
def HUB_ARRAY_CLK_current_mhz : Fld := ⟨10, 27, 16, .RO, 0, false⟩
def HUB_ARRAY_CLK_ceiling_mhz : Fld := ⟨11, 11, 0, .RW, 2000, false⟩
/-! HUB_DEVICE_TIME: 02_clocks_time_latency.md, Table 2.3 -/
def HUB_DEVICE_TIME_device_time : Fld := ⟨12, 63, 0, .RO, 0, true⟩
/-! HUB_CALENDAR: 02_clocks_time_latency.md, Table 2.4 -/
def HUB_CALENDAR_valid : Fld := ⟨13, 63, 63, .RO, 0, true⟩
def HUB_CALENDAR_seconds : Fld := ⟨14, 62, 15, .RO, 0, true⟩
def HUB_CALENDAR_fraction : Fld := ⟨15, 14, 0, .RO, 0, true⟩
/-! HUB_CALENDAR_SET: 02_clocks_time_latency.md, Table 2.5 -/
def HUB_CALENDAR_SET_seconds : Fld := ⟨16, 62, 15, .WO, 0, false⟩
def HUB_CALENDAR_SET_fraction : Fld := ⟨17, 14, 0, .WO, 0, false⟩
/-! QD_ARRAY_STAT: 03_matrix_arrays.md, Table 3.6 -/
def QD_ARRAY_STAT_operation : Fld := ⟨18, 31, 30, .RO, 0, false⟩
def QD_ARRAY_STAT_active_rows : Fld := ⟨19, 29, 24, .RO, 0, false⟩
def QD_ARRAY_STAT_credits_free : Fld := ⟨20, 23, 16, .RO, 128, false⟩
def QD_ARRAY_STAT_buf_valid : Fld := ⟨21, 15, 14, .RO, 0, false⟩
def QD_ARRAY_STAT_lamp_active : Fld := ⟨22, 13, 13, .RO, 0, false⟩
def QD_ARRAY_STAT_poison_evt : Fld := ⟨23, 12, 12, .W1C, 0, false⟩
def QD_ARRAY_STAT_acc_corr_evt : Fld := ⟨24, 11, 11, .W1C, 0, false⟩
def QD_ARRAY_STAT_acc_uncorr_evt : Fld := ⟨25, 10, 10, .W1C, 0, false⟩
/-! QD_ARRAY_CNT: 03_matrix_arrays.md, Table 3.8 -/
def QD_ARRAY_CNT_count : Fld := ⟨26, 63, 0, .RO, 0, false⟩
/-! QD_SR_SEED: 04_number_formats.md, Table 4.6 -/
def QD_SR_SEED_seed : Fld := ⟨27, 63, 0, .RW, 0, false⟩
/-! QD_SR_CTR: 04_number_formats.md, Table 4.7 -/
def QD_SR_CTR_counter : Fld := ⟨28, 63, 0, .RW, 0, false⟩
/-! QD_CVT_EVT: 04_number_formats.md, Table 4.8 -/
def QD_CVT_EVT_bad_record_evt : Fld := ⟨29, 4, 4, .W1C, 0, false⟩
def QD_CVT_EVT_nonfinite_evt : Fld := ⟨30, 3, 3, .W1C, 0, false⟩
def QD_CVT_EVT_nan_int_evt : Fld := ⟨31, 2, 2, .W1C, 0, false⟩
def QD_CVT_EVT_ovf_evt : Fld := ⟨32, 1, 1, .W1C, 0, false⟩
/-! HUB_GRAPH_STORE: 05_stream_programs_and_graphs.md, Table 5.22 -/
def HUB_GRAPH_STORE_base_mib : Fld := ⟨33, 7, 0, .RWL, 0, false⟩
/-! HUB_GRAPH_STAT: 05_stream_programs_and_graphs.md, Table 5.18 -/
def HUB_GRAPH_STAT_state : Fld := ⟨34, 63, 62, .RO, 0, false⟩
def HUB_GRAPH_STAT_last_status : Fld := ⟨35, 61, 54, .RO, 0, false⟩
def HUB_GRAPH_STAT_node : Fld := ⟨36, 53, 44, .RO, 0, false⟩
def HUB_GRAPH_STAT_iteration : Fld := ⟨37, 31, 0, .RO, 0, false⟩
/-! QD_SEQ_STAT: 05_stream_programs_and_graphs.md, Table 5.19 -/
def QD_SEQ_STAT_state : Fld := ⟨38, 63, 62, .RO, 0, false⟩
def QD_SEQ_STAT_last_status : Fld := ⟨39, 61, 54, .RO, 0, false⟩
def QD_SEQ_STAT_fault_pc : Fld := ⟨40, 53, 42, .RO, 0, false⟩
def QD_SEQ_STAT_pc : Fld := ⟨41, 41, 30, .RO, 0, false⟩
def QD_SEQ_STAT_loop_depth : Fld := ⟨42, 29, 27, .RO, 0, false⟩
def QD_SEQ_STAT_fault_evt : Fld := ⟨43, 26, 26, .W1C, 0, false⟩
def QD_SEQ_STAT_launches : Fld := ⟨44, 15, 0, .RO, 0, false⟩
/-! MEM_MAP: 06_stacked_memory.md, Table 6.2 -/
def MEM_MAP_valid : Fld := ⟨45, 63, 63, .RO, 0, true⟩
def MEM_MAP_spread : Fld := ⟨46, 62, 62, .RO, 0, true⟩
def MEM_MAP_parity : Fld := ⟨47, 61, 61, .RO, 0, true⟩
def MEM_MAP_stack : Fld := ⟨48, 60, 57, .RO, 0, true⟩
def MEM_MAP_media_first : Fld := ⟨49, 56, 41, .RO, 0, true⟩
def MEM_MAP_base : Fld := ⟨50, 40, 21, .RO, 0, true⟩
def MEM_MAP_size : Fld := ⟨51, 20, 1, .RO, 0, true⟩
/-! MEM_MAP_SHADOW: 06_stacked_memory.md, Table 6.2 -/
def MEM_MAP_SHADOW_valid : Fld := ⟨557, 63, 63, .RWS, 0, true⟩
def MEM_MAP_SHADOW_spread : Fld := ⟨558, 62, 62, .RWS, 0, true⟩
def MEM_MAP_SHADOW_parity : Fld := ⟨559, 61, 61, .RWS, 0, true⟩
def MEM_MAP_SHADOW_stack : Fld := ⟨560, 60, 57, .RWS, 0, true⟩
def MEM_MAP_SHADOW_media_first : Fld := ⟨561, 56, 41, .RWS, 0, true⟩
def MEM_MAP_SHADOW_base : Fld := ⟨562, 40, 21, .RWS, 0, true⟩
def MEM_MAP_SHADOW_size : Fld := ⟨563, 20, 1, .RWS, 0, true⟩
/-! MEM_CH_STAT: 06_stacked_memory.md, Table 6.9 -/
def MEM_CH_STAT_state : Fld := ⟨52, 63, 61, .RO, 0, true⟩
def MEM_CH_STAT_logical : Fld := ⟨53, 60, 55, .RO, 63, true⟩
def MEM_CH_STAT_spare_lanes_used : Fld := ⟨54, 54, 51, .RO, 0, true⟩
def MEM_CH_STAT_pointer : Fld := ⟨55, 50, 30, .RO, 0, true⟩
def MEM_CH_STAT_corr_count : Fld := ⟨56, 29, 14, .RO, 0, false⟩
def MEM_CH_STAT_uncorr_count : Fld := ⟨57, 13, 6, .RO, 0, false⟩
def MEM_CH_STAT_lane_evt : Fld := ⟨58, 2, 2, .W1C, 0, false⟩
def MEM_CH_STAT_loss_evt : Fld := ⟨59, 1, 1, .W1C, 0, false⟩
def MEM_CH_STAT_repair_evt : Fld := ⟨60, 0, 0, .W1C, 0, false⟩
/-! MEM_CH_CFG: 06_stacked_memory.md, Table 6.10 -/
def MEM_CH_CFG_retrain_req : Fld := ⟨61, 2, 2, .WO, 0, false⟩
def MEM_CH_CFG_evacuate_req : Fld := ⟨62, 1, 1, .WO, 0, false⟩
def MEM_CH_CFG_scrub_dis : Fld := ⟨63, 0, 0, .RW, 0, false⟩
/-! MEM_REPAIR_CFG: 06_stacked_memory.md, Table 6.11 -/
def MEM_REPAIR_CFG_remap_mode : Fld := ⟨64, 29, 29, .RW, 0, false⟩
def MEM_REPAIR_CFG_repair_share : Fld := ⟨65, 28, 24, .RW, 8, false⟩
def MEM_REPAIR_CFG_retrain_period : Fld := ⟨66, 23, 16, .RW, 60, false⟩
def MEM_REPAIR_CFG_retrain_temp : Fld := ⟨67, 15, 8, .RW, 10, false⟩
def MEM_REPAIR_CFG_scrub_hours : Fld := ⟨68, 7, 0, .RW, 24, false⟩
/-! HUB_BAR4_BASE: 07_host_port_and_queues.md, Table 7.4 -/
def HUB_BAR4_BASE_base : Fld := ⟨69, 47, 30, .RWL, 0, false⟩
/-! HUB_Q_BASE: 07_host_port_and_queues.md, Table 7.6 -/
def HUB_Q_BASE_base : Fld := ⟨70, 63, 12, .RW, 0, false⟩
/-! HUB_CQ_BASE: 07_host_port_and_queues.md, Table 7.6 -/
def HUB_CQ_BASE_base : Fld := ⟨71, 63, 12, .RW, 0, false⟩
/-! HUB_Q_CFG: 07_host_port_and_queues.md, Table 7.7 -/
def HUB_Q_CFG_enable : Fld := ⟨72, 63, 63, .RW, 0, false⟩
def HUB_Q_CFG_priority : Fld := ⟨73, 62, 61, .RW, 0, false⟩
def HUB_Q_CFG_log2_entries : Fld := ⟨74, 56, 52, .RW, 6, false⟩
def HUB_Q_CFG_context : Fld := ⟨75, 51, 40, .RW, 0, false⟩
def HUB_Q_CFG_function : Fld := ⟨76, 39, 36, .RW, 0, false⟩
def HUB_Q_CFG_cq : Fld := ⟨77, 31, 16, .RW, 0, false⟩
/-! HUB_Q_STAT: 07_host_port_and_queues.md, Table 7.8 -/
def HUB_Q_STAT_state : Fld := ⟨78, 63, 62, .RO, 0, false⟩
def HUB_Q_STAT_halt_status : Fld := ⟨79, 61, 54, .RO, 0, false⟩
def HUB_Q_STAT_error_cause : Fld := ⟨80, 53, 50, .RO, 0, false⟩
def HUB_Q_STAT_head : Fld := ⟨81, 47, 32, .RO, 0, false⟩
def HUB_Q_STAT_tail : Fld := ⟨82, 31, 16, .RO, 0, false⟩
def HUB_Q_STAT_halt_index : Fld := ⟨83, 15, 0, .RO, 0, false⟩
/-! HUB_Q_CTRL: 07_host_port_and_queues.md, Table 7.9 -/
def HUB_Q_CTRL_new_head : Fld := ⟨84, 17, 2, .WO, 0, false⟩
def HUB_Q_CTRL_set_head : Fld := ⟨85, 1, 1, .WO, 0, false⟩
def HUB_Q_CTRL_resume : Fld := ⟨86, 0, 0, .WO, 0, false⟩
/-! HUB_EARLY_DOORBELLS: 07_host_port_and_queues.md, Table 7.10 -/
def HUB_EARLY_DOORBELLS_count : Fld := ⟨87, 15, 0, .RO, 0, true⟩
/-! HUB_CQ_CFG: 07_host_port_and_queues.md, Table 7.15 -/
def HUB_CQ_CFG_enable : Fld := ⟨88, 63, 63, .RW, 0, false⟩
def HUB_CQ_CFG_int_en : Fld := ⟨89, 62, 62, .RW, 0, false⟩
def HUB_CQ_CFG_log2_entries : Fld := ⟨90, 61, 57, .RW, 6, false⟩
def HUB_CQ_CFG_vector : Fld := ⟨91, 56, 46, .RW, 0, false⟩
def HUB_CQ_CFG_function : Fld := ⟨92, 45, 42, .RW, 0, false⟩
def HUB_CQ_CFG_mod_us : Fld := ⟨93, 31, 24, .RW, 0, false⟩
def HUB_CQ_CFG_mod_count : Fld := ⟨94, 23, 16, .RW, 0, false⟩
/-! HUB_CQ_STAT: 07_host_port_and_queues.md, Table 7.16 -/
def HUB_CQ_STAT_dropped : Fld := ⟨95, 63, 48, .RO, 0, false⟩
def HUB_CQ_STAT_head : Fld := ⟨96, 47, 32, .RO, 0, false⟩
def HUB_CQ_STAT_position : Fld := ⟨97, 31, 16, .RO, 0, false⟩
def HUB_CQ_STAT_enable_refused : Fld := ⟨98, 1, 1, .RO, 0, false⟩
def HUB_CQ_STAT_stalled : Fld := ⟨99, 0, 0, .W1C, 0, false⟩
/-! HUB_PART_MAP: 07_host_port_and_queues.md, Table 7.21 -/
def HUB_PART_MAP_c3_functions : Fld := ⟨100, 63, 48, .RO, 1, true⟩
def HUB_PART_MAP_c2_functions : Fld := ⟨101, 47, 32, .RO, 1, true⟩
def HUB_PART_MAP_c1_functions : Fld := ⟨102, 31, 16, .RO, 1, true⟩
def HUB_PART_MAP_c0_functions : Fld := ⟨103, 15, 0, .RO, 1, true⟩
/-! HUB_PART_MAP_SHADOW: 07_host_port_and_queues.md, Table 7.21 -/
def HUB_PART_MAP_SHADOW_c3_functions : Fld := ⟨612, 63, 48, .RWS, 1, true⟩
def HUB_PART_MAP_SHADOW_c2_functions : Fld := ⟨613, 47, 32, .RWS, 1, true⟩
def HUB_PART_MAP_SHADOW_c1_functions : Fld := ⟨614, 31, 16, .RWS, 1, true⟩
def HUB_PART_MAP_SHADOW_c0_functions : Fld := ⟨615, 15, 0, .RWS, 1, true⟩
/-! HUB_CFG_EPOCH: 07_host_port_and_queues.md, Table 7.22 -/
def HUB_CFG_EPOCH_highest : Fld := ⟨104, 63, 32, .RO, 0, true⟩
def HUB_CFG_EPOCH_committed : Fld := ⟨105, 31, 0, .RO, 0, true⟩
/-! HUB_CFG_STATUS: 07_host_port_and_queues.md, Table 7.23 -/
def HUB_CFG_STATUS_state : Fld := ⟨106, 63, 62, .RO, 0, true⟩
def HUB_CFG_STATUS_done_evt : Fld := ⟨107, 61, 61, .W1C, 0, false⟩
def HUB_CFG_STATUS_missed : Fld := ⟨108, 60, 57, .RO, 0, true⟩
def HUB_CFG_STATUS_from_revert : Fld := ⟨109, 56, 56, .RO, 0, true⟩
def HUB_CFG_STATUS_switched : Fld := ⟨110, 47, 32, .RO, 0, true⟩
def HUB_CFG_STATUS_blocked : Fld := ⟨111, 31, 16, .RO, 0, false⟩
/-! HUB_CFG_CTRL: 07_host_port_and_queues.md, Table 7.24 -/
def HUB_CFG_CTRL_quiesce_ms : Fld := ⟨112, 13, 0, .RWL, 100, false⟩
/-! HUB_SETUP_LOCK: 07_host_port_and_queues.md, Table 7.25 -/
def HUB_SETUP_LOCK_bad_accesses : Fld := ⟨113, 47, 32, .RO, 0, false⟩
def HUB_SETUP_LOCK_blocked_writes : Fld := ⟨114, 31, 16, .RO, 0, false⟩
def HUB_SETUP_LOCK_locked : Fld := ⟨115, 0, 0, .RW, 0, false⟩
/-! FAB_NODE_ID: 08_fabric_memory.md, Table 8.1 -/
def FAB_NODE_ID_slot : Fld := ⟨116, 23, 21, .RO, 0, true⟩
def FAB_NODE_ID_assigned : Fld := ⟨117, 20, 20, .RO, 0, false⟩
def FAB_NODE_ID_node : Fld := ⟨118, 19, 0, .RWL, 0, false⟩
/-! FAB_CFG: 08_fabric_memory.md, Table 8.2 -/
def FAB_CFG_enable : Fld := ⟨119, 63, 63, .RW, 0, false⟩
def FAB_CFG_bad_base : Fld := ⟨120, 62, 62, .RO, 0, false⟩
def FAB_CFG_unassigned : Fld := ⟨121, 61, 61, .RO, 0, false⟩
def FAB_CFG_flow_base : Fld := ⟨122, 47, 26, .RWL, 0, false⟩
/-! FAB_BOARD: 08_fabric_memory.md, Table 8.3 -/
def FAB_BOARD_valid : Fld := ⟨123, 63, 63, .RO, 0, true⟩
def FAB_BOARD_node : Fld := ⟨124, 51, 32, .RO, 0, true⟩
def FAB_BOARD_key : Fld := ⟨125, 31, 0, .RO, 0, true⟩
/-! FAB_BOARD_SHADOW: 08_fabric_memory.md, Table 8.3 -/
def FAB_BOARD_SHADOW_valid : Fld := ⟨635, 63, 63, .RWS, 0, true⟩
def FAB_BOARD_SHADOW_node : Fld := ⟨636, 51, 32, .RWS, 0, true⟩
def FAB_BOARD_SHADOW_key : Fld := ⟨637, 31, 0, .RWS, 0, true⟩
/-! FAB_ROUTE: 08_fabric_memory.md, Table 8.7a -/
def FAB_ROUTE_valid : Fld := ⟨126, 127, 127, .RO, 0, true⟩
def FAB_ROUTE_prefix_len : Fld := ⟨127, 126, 122, .RO, 0, true⟩
def FAB_ROUTE_hops : Fld := ⟨128, 121, 119, .RO, 0, true⟩
def FAB_ROUTE_prefix : Fld := ⟨129, 83, 64, .RO, 0, true⟩
def FAB_ROUTE_ports : Fld := ⟨130, 63, 0, .RO, 0, true⟩
/-! FAB_ROUTE_SHADOW: 08_fabric_memory.md, Table 8.7a -/
def FAB_ROUTE_SHADOW_valid : Fld := ⟨638, 127, 127, .RWS, 0, true⟩
def FAB_ROUTE_SHADOW_prefix_len : Fld := ⟨639, 126, 122, .RWS, 0, true⟩
def FAB_ROUTE_SHADOW_hops : Fld := ⟨640, 121, 119, .RWS, 0, true⟩
def FAB_ROUTE_SHADOW_prefix : Fld := ⟨641, 83, 64, .RWS, 0, true⟩
def FAB_ROUTE_SHADOW_ports : Fld := ⟨642, 63, 0, .RWS, 0, true⟩
/-! FAB_REGION: 08_fabric_memory.md, Table 8.9 -/
def FAB_REGION_valid : Fld := ⟨131, 127, 127, .RO, 0, false⟩
def FAB_REGION_read : Fld := ⟨132, 126, 126, .RO, 0, false⟩
def FAB_REGION_write : Fld := ⟨133, 125, 125, .RO, 0, false⟩
def FAB_REGION_atomic : Fld := ⟨134, 124, 124, .RO, 0, false⟩
def FAB_REGION_src_node : Fld := ⟨135, 123, 104, .RO, 0, false⟩
def FAB_REGION_src_mask : Fld := ⟨136, 103, 84, .RO, 0, false⟩
def FAB_REGION_size : Fld := ⟨137, 83, 64, .RO, 0, false⟩
def FAB_REGION_key : Fld := ⟨138, 63, 32, .RO, 0, false⟩
def FAB_REGION_base : Fld := ⟨139, 31, 9, .RO, 0, false⟩
/-! FAB_REGION_SHADOW: 08_fabric_memory.md, Table 8.9 -/
def FAB_REGION_SHADOW_valid : Fld := ⟨643, 127, 127, .RW, 0, false⟩
def FAB_REGION_SHADOW_read : Fld := ⟨644, 126, 126, .RW, 0, false⟩
def FAB_REGION_SHADOW_write : Fld := ⟨645, 125, 125, .RW, 0, false⟩
def FAB_REGION_SHADOW_atomic : Fld := ⟨646, 124, 124, .RW, 0, false⟩
def FAB_REGION_SHADOW_src_node : Fld := ⟨647, 123, 104, .RW, 0, false⟩
def FAB_REGION_SHADOW_src_mask : Fld := ⟨648, 103, 84, .RW, 0, false⟩
def FAB_REGION_SHADOW_size : Fld := ⟨649, 83, 64, .RW, 0, false⟩
def FAB_REGION_SHADOW_key : Fld := ⟨650, 63, 32, .RW, 0, false⟩
def FAB_REGION_SHADOW_base : Fld := ⟨651, 31, 9, .RW, 0, false⟩
/-! FAB_RXQ_CFG: 08_fabric_memory.md, Table 8.9a -/
def FAB_RXQ_CFG_enable : Fld := ⟨140, 127, 127, .RW, 0, false⟩
def FAB_RXQ_CFG_log2_slots : Fld := ⟨141, 126, 123, .RWS, 4, true⟩
def FAB_RXQ_CFG_log2_slot_size : Fld := ⟨142, 122, 119, .RWS, 6, true⟩
def FAB_RXQ_CFG_sig_en : Fld := ⟨143, 118, 118, .RWS, 0, true⟩
def FAB_RXQ_CFG_sync_obj : Fld := ⟨144, 113, 96, .RWS, 0, true⟩
def FAB_RXQ_CFG_key : Fld := ⟨145, 95, 64, .RWS, 0, true⟩
def FAB_RXQ_CFG_base : Fld := ⟨146, 47, 11, .RWS, 0, true⟩
/-! FAB_RXQ_PTR: 08_fabric_memory.md, Table 8.9b -/
def FAB_RXQ_PTR_head : Fld := ⟨147, 47, 32, .RW, 0, false⟩
def FAB_RXQ_PTR_tail : Fld := ⟨148, 15, 0, .RO, 0, false⟩
/-! FAB_EVT_CNT: 08_fabric_memory.md, Table 8.12 -/
def FAB_EVT_CNT_count : Fld := ⟨149, 31, 0, .RO, 0, false⟩
/-! WIN_PORT_CFG: 09_window_dies.md, Table 9.14 -/
def WIN_PORT_CFG_enable : Fld := ⟨150, 31, 31, .RO, 1, true⟩
def WIN_PORT_CFG_fec_long : Fld := ⟨151, 30, 30, .RO, 0, true⟩
def WIN_PORT_CFG_min_width : Fld := ⟨152, 29, 25, .RO, 8, true⟩
def WIN_PORT_CFG_ff_en : Fld := ⟨153, 24, 24, .RO, 1, true⟩
/-! WIN_PORT_CFG_SHADOW: 09_window_dies.md, Table 9.14 -/
def WIN_PORT_CFG_SHADOW_enable : Fld := ⟨662, 31, 31, .RWS, 1, true⟩
def WIN_PORT_CFG_SHADOW_fec_long : Fld := ⟨663, 30, 30, .RWS, 0, true⟩
def WIN_PORT_CFG_SHADOW_min_width : Fld := ⟨664, 29, 25, .RWS, 8, true⟩
def WIN_PORT_CFG_SHADOW_ff_en : Fld := ⟨665, 24, 24, .RWS, 1, true⟩
/-! WIN_PORT_STAT: 09_window_dies.md, Table 9.15 -/
def WIN_PORT_STAT_state : Fld := ⟨154, 63, 61, .RO, 0, true⟩
def WIN_PORT_STAT_keeper : Fld := ⟨155, 60, 60, .RO, 0, true⟩
def WIN_PORT_STAT_fec_long_active : Fld := ⟨156, 59, 59, .RO, 0, true⟩
def WIN_PORT_STAT_fec_mismatch : Fld := ⟨157, 58, 58, .RO, 0, true⟩
def WIN_PORT_STAT_width : Fld := ⟨158, 57, 53, .RO, 0, true⟩
def WIN_PORT_STAT_spares_used : Fld := ⟨159, 52, 51, .RO, 0, true⟩
def WIN_PORT_STAT_map_gen_rx : Fld := ⟨160, 50, 43, .RO, 0, true⟩
def WIN_PORT_STAT_map_gen_tx : Fld := ⟨161, 42, 35, .RO, 0, true⟩
def WIN_PORT_STAT_rtt_ns : Fld := ⟨162, 34, 19, .RO, 0, true⟩
def WIN_PORT_STAT_retrains : Fld := ⟨163, 18, 3, .RO, 0, true⟩
def WIN_PORT_STAT_lane_evt : Fld := ⟨164, 2, 2, .W1C, 0, false⟩
def WIN_PORT_STAT_down_evt : Fld := ⟨165, 1, 1, .W1C, 0, false⟩
def WIN_PORT_STAT_loss_evt : Fld := ⟨166, 0, 0, .W1C, 0, false⟩
/-! WIN_LANE_STAT: 09_window_dies.md, Table 9.16 -/
def WIN_LANE_STAT_logical : Fld := ⟨167, 63, 59, .RO, 31, true⟩
def WIN_LANE_STAT_lock : Fld := ⟨168, 58, 56, .RO, 0, true⟩
def WIN_LANE_STAT_tx_heater : Fld := ⟨169, 55, 46, .RO, 0, true⟩
def WIN_LANE_STAT_rx_heater : Fld := ⟨170, 45, 36, .RO, 0, true⟩
def WIN_LANE_STAT_rx_power : Fld := ⟨171, 35, 24, .RO, 0, true⟩
def WIN_LANE_STAT_corrected : Fld := ⟨172, 23, 8, .RO, 0, true⟩
def WIN_LANE_STAT_aliases : Fld := ⟨173, 7, 4, .RO, 0, true⟩
def WIN_LANE_STAT_fault_evt : Fld := ⟨174, 3, 3, .W1C, 0, false⟩
/-! WIN_FF_CFG: 09_window_dies.md, Table 9.17 -/
def WIN_FF_CFG_tau_us : Fld := ⟨175, 31, 16, .RWS, 200, true⟩
def WIN_FF_CFG_gain : Fld := ⟨176, 15, 0, .RWS, 0, true⟩
/-! WIN_PORT_CTRL: 09_window_dies.md, Table 9.18 -/
def WIN_PORT_CTRL_recal_req : Fld := ⟨177, 2, 2, .WO, 0, false⟩
def WIN_PORT_CTRL_retrain_req : Fld := ⟨178, 1, 1, .WO, 0, false⟩
/-! WIN_LOSS_STAT: 09_window_dies.md, Table 9.19 -/
def WIN_LOSS_STAT_stage : Fld := ⟨179, 31, 28, .RO, 0, true⟩
def WIN_LOSS_STAT_wavelength : Fld := ⟨180, 27, 23, .RO, 31, true⟩
def WIN_LOSS_STAT_excess : Fld := ⟨181, 22, 12, .RO, 0, true⟩
def WIN_LOSS_STAT_failed : Fld := ⟨182, 11, 11, .RO, 0, true⟩
/-! WIN_EVT_CNT: 09_window_dies.md, Table 9.20 -/
def WIN_EVT_CNT_count : Fld := ⟨183, 31, 0, .RO, 0, true⟩
/-! COL_POOL: 10_tree_collectives.md, Table 10.7 -/
def COL_POOL_free_units : Fld := ⟨184, 50, 40, .RO, 768, false⟩
def COL_POOL_size_mib : Fld := ⟨185, 39, 32, .RWL, 96, false⟩
def COL_POOL_base_mib : Fld := ⟨186, 31, 24, .RWL, 32, false⟩
/-! COL_DEFAULTS: 10_tree_collectives.md, Table 10.8 -/
def COL_DEFAULTS_timeout : Fld := ⟨187, 47, 32, .RO, 20, true⟩
def COL_DEFAULTS_slots : Fld := ⟨188, 23, 16, .RO, 32, true⟩
def COL_DEFAULTS_chunk_kib : Fld := ⟨189, 10, 0, .RO, 256, true⟩
/-! COL_DEFAULTS_SHADOW: 10_tree_collectives.md, Table 10.8 -/
def COL_DEFAULTS_SHADOW_timeout : Fld := ⟨699, 47, 32, .RWS, 20, true⟩
def COL_DEFAULTS_SHADOW_slots : Fld := ⟨700, 23, 16, .RWS, 32, true⟩
def COL_DEFAULTS_SHADOW_chunk_kib : Fld := ⟨701, 10, 0, .RWS, 256, true⟩
/-! COL_SESSION_STAT: 10_tree_collectives.md, Table 10.9 -/
def COL_SESSION_STAT_state : Fld := ⟨190, 63, 61, .RO, 0, false⟩
def COL_SESSION_STAT_cause : Fld := ⟨191, 60, 57, .RO, 0, false⟩
def COL_SESSION_STAT_lost_node : Fld := ⟨192, 56, 37, .RO, 0, false⟩
def COL_SESSION_STAT_generation : Fld := ⟨193, 36, 21, .RO, 0, false⟩
def COL_SESSION_STAT_run : Fld := ⟨194, 20, 5, .RO, 0, false⟩
def COL_SESSION_STAT_abort_evt : Fld := ⟨195, 0, 0, .W1C, 0, false⟩
/-! COL_ENGINE: 10_tree_collectives.md, Table 10.10 -/
def COL_ENGINE_window_ms : Fld := ⟨196, 63, 48, .RW, 1000, false⟩
def COL_ENGINE_spares_used : Fld := ⟨197, 47, 43, .RO, 0, true⟩
def COL_ENGINE_half : Fld := ⟨198, 42, 42, .RO, 0, true⟩
def COL_ENGINE_healthy : Fld := ⟨199, 41, 32, .RO, 528, true⟩
def COL_ENGINE_mismatches : Fld := ⟨200, 31, 16, .RO, 0, true⟩
def COL_ENGINE_discards : Fld := ⟨201, 15, 0, .RO, 0, false⟩
/-! PWR_CAP: 11_power_slope_and_heat.md, Table 11.8 -/
def PWR_CAP_cap_w : Fld := ⟨202, 12, 0, .RO, 4200, true⟩
/-! PWR_CAP_SHADOW: 11_power_slope_and_heat.md, Table 11.8 -/
def PWR_CAP_SHADOW_cap_w : Fld := ⟨714, 12, 0, .RWS, 4200, true⟩
/-! PWR_LAMP_CFG: 11_power_slope_and_heat.md, Table 11.9 -/
def PWR_LAMP_CFG_lamp_en : Fld := ⟨203, 8, 8, .RO, 1, true⟩
def PWR_LAMP_CFG_gap_us : Fld := ⟨204, 7, 0, .RO, 8, true⟩
/-! PWR_LAMP_CFG_SHADOW: 11_power_slope_and_heat.md, Table 11.9 -/
def PWR_LAMP_CFG_SHADOW_lamp_en : Fld := ⟨715, 8, 8, .RWS, 1, true⟩
def PWR_LAMP_CFG_SHADOW_gap_us : Fld := ⟨716, 7, 0, .RWS, 8, true⟩
/-! PWR_STAT: 11_power_slope_and_heat.md, Table 11.10 -/
def PWR_STAT_feed : Fld := ⟨205, 63, 62, .RO, 0, true⟩
def PWR_STAT_allowance : Fld := ⟨206, 55, 48, .RO, 0, true⟩
def PWR_STAT_activity : Fld := ⟨207, 47, 40, .RO, 0, true⟩
def PWR_STAT_measured_w : Fld := ⟨208, 39, 26, .RO, 0, true⟩
def PWR_STAT_estimate_w : Fld := ⟨209, 25, 12, .RO, 0, true⟩
/-! PWR_FEED_STAT: 11_power_slope_and_heat.md, Table 11.11 -/
def PWR_FEED_STAT_feed_a : Fld := ⟨210, 63, 51, .RO, 0, true⟩
def PWR_FEED_STAT_feed_b : Fld := ⟨211, 50, 38, .RO, 0, true⟩
def PWR_FEED_STAT_switches : Fld := ⟨212, 37, 22, .RWS, 0, true⟩
def PWR_FEED_STAT_switch_evt : Fld := ⟨213, 2, 2, .W1C, 0, false⟩
def PWR_FEED_STAT_mismatch_evt : Fld := ⟨214, 1, 1, .W1C, 0, false⟩
def PWR_FEED_STAT_meas_lost_evt : Fld := ⟨215, 0, 0, .W1C, 0, false⟩
/-! THM_TEMP: 11_power_slope_and_heat.md, Table 11.12 -/
def THM_TEMP_temp : Fld := ⟨216, 23, 12, .RO, 0, true⟩
def THM_TEMP_rate : Fld := ⟨217, 11, 4, .RO, 0, true⟩
def THM_TEMP_throttle : Fld := ⟨218, 3, 3, .RO, 0, true⟩
def THM_TEMP_fault : Fld := ⟨219, 2, 2, .RO, 0, true⟩
def THM_TEMP_throttle_evt : Fld := ⟨220, 0, 0, .W1C, 0, false⟩
/-! THM_STOP_STAT: 11_power_slope_and_heat.md, Table 11.13 -/
def THM_STOP_STAT_state : Fld := ⟨221, 63, 61, .RO, 0, true⟩
def THM_STOP_STAT_cause : Fld := ⟨222, 56, 49, .RWS, 0, true⟩
def THM_STOP_STAT_second_cause : Fld := ⟨223, 48, 41, .RWS, 0, true⟩
def THM_STOP_STAT_unit : Fld := ⟨224, 40, 36, .RWS, 31, true⟩
def THM_STOP_STAT_anomaly : Fld := ⟨225, 35, 35, .RWS, 0, true⟩
def THM_STOP_STAT_uncorroborated : Fld := ⟨226, 34, 34, .RWS, 0, true⟩
def THM_STOP_STAT_saved : Fld := ⟨227, 33, 33, .RWS, 0, true⟩
def THM_STOP_STAT_stop_evt : Fld := ⟨228, 32, 32, .W1C, 0, false⟩
def THM_STOP_STAT_start : Fld := ⟨229, 31, 0, .RWS, 0, true⟩
/-! THM_STOP_SAVE: 11_power_slope_and_heat.md, Table 11.14 -/
def THM_STOP_SAVE_base : Fld := ⟨230, 47, 30, .RW, 0, false⟩
def THM_STOP_SAVE_en : Fld := ⟨231, 0, 0, .RW, 0, false⟩
/-! HUB_RESET_CTRL: 12_hangs_resets_recovery.md, Table 12.4 -/
def HUB_RESET_CTRL_target : Fld := ⟨232, 27, 16, .WO, 0, false⟩
def HUB_RESET_CTRL_dump_first : Fld := ⟨233, 5, 5, .WO, 0, false⟩
def HUB_RESET_CTRL_escalate : Fld := ⟨234, 4, 4, .WO, 0, false⟩
def HUB_RESET_CTRL_kind : Fld := ⟨235, 3, 0, .WO, 0, false⟩
/-! HUB_RESET_STAT: 12_hangs_resets_recovery.md, Table 12.5 -/
def HUB_RESET_STAT_state : Fld := ⟨236, 63, 61, .RO, 0, true⟩
def HUB_RESET_STAT_last_kind : Fld := ⟨237, 60, 57, .RO, 0, true⟩
def HUB_RESET_STAT_last_result : Fld := ⟨238, 56, 55, .RO, 0, true⟩
def HUB_RESET_STAT_flush_incomplete : Fld := ⟨239, 54, 54, .RO, 0, true⟩
def HUB_RESET_STAT_done_evt : Fld := ⟨240, 53, 53, .W1C, 0, false⟩
def HUB_RESET_STAT_dropped : Fld := ⟨241, 52, 48, .RO, 0, true⟩
def HUB_RESET_STAT_last_target : Fld := ⟨242, 47, 36, .RO, 0, true⟩
def HUB_RESET_STAT_chip_resets : Fld := ⟨243, 31, 16, .RO, 0, true⟩
def HUB_RESET_STAT_epoch : Fld := ⟨244, 15, 0, .RO, 0, true⟩
/-! HUB_PROGRESS: 12_hangs_resets_recovery.md, Table 12.9 -/
def HUB_PROGRESS_busy : Fld := ⟨245, 63, 63, .RO, 0, false⟩
def HUB_PROGRESS_waiting : Fld := ⟨246, 62, 62, .RO, 0, false⟩
def HUB_PROGRESS_context : Fld := ⟨247, 59, 48, .RO, 0, false⟩
def HUB_PROGRESS_count : Fld := ⟨248, 47, 0, .RO, 0, false⟩
/-! HUB_CTX_REPLAY: 12_hangs_resets_recovery.md, Table 12.10 -/
def HUB_CTX_REPLAY_valid : Fld := ⟨249, 63, 63, .RO, 0, true⟩
def HUB_CTX_REPLAY_frozen : Fld := ⟨250, 62, 62, .RO, 0, true⟩
def HUB_CTX_REPLAY_queue : Fld := ⟨251, 47, 32, .RO, 0, true⟩
def HUB_CTX_REPLAY_index : Fld := ⟨252, 31, 16, .RO, 0, true⟩
/-! HUB_SUSPECT: 12_hangs_resets_recovery.md, Table 12.11 -/
def HUB_SUSPECT_valid : Fld := ⟨253, 31, 31, .RO, 0, true⟩
def HUB_SUSPECT_context : Fld := ⟨254, 11, 0, .RO, 0, true⟩
/-! HUB_ENGINE_GATE: 12_hangs_resets_recovery.md, Table 12.12 -/
def HUB_ENGINE_GATE_en : Fld := ⟨255, 31, 31, .RW, 0, false⟩
def HUB_ENGINE_GATE_context : Fld := ⟨256, 11, 0, .RW, 0, false⟩
/-! HUB_DUMP_ADDR: 12_hangs_resets_recovery.md, Table 12.14 -/
def HUB_DUMP_ADDR_addr : Fld := ⟨257, 63, 12, .RW, 0, false⟩
/-! HUB_DUMP_CTRL: 12_hangs_resets_recovery.md, Table 12.15 -/
def HUB_DUMP_CTRL_start : Fld := ⟨258, 31, 31, .WO, 0, false⟩
def HUB_DUMP_CTRL_allow_freeze : Fld := ⟨259, 30, 30, .RW, 0, false⟩
def HUB_DUMP_CTRL_size_4k : Fld := ⟨260, 15, 0, .RW, 24576, false⟩
/-! HUB_DUMP_STAT: 12_hangs_resets_recovery.md, Table 12.16 -/
def HUB_DUMP_STAT_state : Fld := ⟨261, 63, 62, .RO, 0, true⟩
def HUB_DUMP_STAT_unresponsive : Fld := ⟨262, 61, 56, .RO, 0, true⟩
def HUB_DUMP_STAT_frozen : Fld := ⟨263, 55, 50, .RO, 0, true⟩
def HUB_DUMP_STAT_done_evt : Fld := ⟨264, 49, 49, .W1C, 0, false⟩
def HUB_DUMP_STAT_written : Fld := ⟨265, 31, 0, .RO, 0, true⟩
/-! FAB_HELLO_STAT: 13_acting_as_one.md, Table 13.3 -/
def FAB_HELLO_STAT_outcome : Fld := ⟨266, 63, 61, .RO, 0, true⟩
def FAB_HELLO_STAT_node : Fld := ⟨267, 60, 41, .RO, 0, true⟩
def FAB_HELLO_STAT_epoch : Fld := ⟨268, 40, 25, .RO, 0, true⟩
def FAB_HELLO_STAT_firmware : Fld := ⟨269, 24, 9, .RO, 0, true⟩
def FAB_HELLO_STAT_version_diff : Fld := ⟨270, 8, 8, .RO, 0, true⟩
def FAB_HELLO_STAT_digest_diff : Fld := ⟨271, 7, 7, .RO, 0, true⟩
def FAB_HELLO_STAT_gen_diff : Fld := ⟨272, 6, 6, .RO, 0, true⟩
def FAB_HELLO_STAT_calendar_skew : Fld := ⟨273, 5, 5, .RO, 0, true⟩
def FAB_HELLO_STAT_stepping_diff : Fld := ⟨274, 4, 4, .RO, 0, true⟩
def FAB_HELLO_STAT_excluded : Fld := ⟨275, 3, 3, .RO, 0, true⟩
def FAB_HELLO_STAT_unassigned : Fld := ⟨276, 2, 2, .RO, 0, true⟩
def FAB_HELLO_STAT_hello_evt : Fld := ⟨277, 0, 0, .W1C, 0, false⟩
/-! SEC_JOB_CTRL: 13_acting_as_one.md, Table 13.5 -/
def SEC_JOB_CTRL_addr : Fld := ⟨278, 63, 12, .RW, 0, false⟩
def SEC_JOB_CTRL_clear : Fld := ⟨279, 1, 1, .WO, 0, false⟩
def SEC_JOB_CTRL_install : Fld := ⟨280, 0, 0, .WO, 0, false⟩
/-! SEC_JOB_STAT: 13_acting_as_one.md, Table 13.6 -/
def SEC_JOB_STAT_installed : Fld := ⟨281, 63, 63, .RO, 0, true⟩
def SEC_JOB_STAT_result : Fld := ⟨282, 62, 60, .RO, 0, true⟩
def SEC_JOB_STAT_k : Fld := ⟨283, 59, 57, .RO, 0, true⟩
def SEC_JOB_STAT_n : Fld := ⟨284, 56, 54, .RO, 0, true⟩
/-! SEC_CFG_DIGEST: 13_acting_as_one.md, Table 13.7 -/
def SEC_CFG_DIGEST_digest : Fld := ⟨285, 63, 0, .RO, 0, true⟩
/-! SEC_NOTICE_SUBMIT: 13_acting_as_one.md, Table 13.11 -/
def SEC_NOTICE_SUBMIT_addr : Fld := ⟨286, 63, 12, .WO, 0, false⟩
/-! SEC_EXCL_STAT: 13_acting_as_one.md, Table 13.12 -/
def SEC_EXCL_STAT_generation : Fld := ⟨287, 63, 32, .RO, 0, true⟩
def SEC_EXCL_STAT_entries : Fld := ⟨288, 31, 19, .RO, 0, true⟩
def SEC_EXCL_STAT_pending : Fld := ⟨289, 18, 12, .RO, 0, true⟩
def SEC_EXCL_STAT_shutter : Fld := ⟨290, 11, 11, .RO, 0, true⟩
def SEC_EXCL_STAT_full : Fld := ⟨291, 10, 10, .RO, 0, true⟩
def SEC_EXCL_STAT_excl_evt : Fld := ⟨292, 8, 8, .W1C, 0, false⟩
def SEC_EXCL_STAT_last_result : Fld := ⟨293, 7, 0, .RO, 0, true⟩
/-! FAB_REFLECT_STAT: 13_acting_as_one.md, Table 13.16 -/
def FAB_REFLECT_STAT_state : Fld := ⟨294, 63, 61, .RO, 0, true⟩
def FAB_REFLECT_STAT_shadow : Fld := ⟨295, 60, 59, .RO, 0, true⟩
def FAB_REFLECT_STAT_cause : Fld := ⟨296, 58, 55, .RO, 0, true⟩
def FAB_REFLECT_STAT_partner : Fld := ⟨297, 54, 35, .RO, 0, true⟩
def FAB_REFLECT_STAT_overflow : Fld := ⟨298, 34, 34, .RO, 0, true⟩
def FAB_REFLECT_STAT_lost_evt : Fld := ⟨299, 33, 33, .W1C, 0, true⟩
def FAB_REFLECT_STAT_shadow_gen : Fld := ⟨300, 31, 0, .RO, 0, true⟩
/-! FAB_REFLECT_GEN: 13_acting_as_one.md, Table 13.17 -/
def FAB_REFLECT_GEN_created : Fld := ⟨301, 63, 32, .RO, 0, true⟩
def FAB_REFLECT_GEN_durable : Fld := ⟨302, 31, 0, .RO, 0, true⟩
/-! FAB_REFLECT_COPIED: 13_acting_as_one.md, Table 13.18 -/
def FAB_REFLECT_COPIED_bytes : Fld := ⟨303, 38, 0, .RO, 0, true⟩
/-! TEL_MON_CFG: 14_monitors_margins_trust.md, Table 14.2 -/
def TEL_MON_CFG_en : Fld := ⟨304, 127, 127, .RO, 0, true⟩
def TEL_MON_CFG_log2 : Fld := ⟨305, 126, 126, .RO, 0, true⟩
def TEL_MON_CFG_alarm_en : Fld := ⟨306, 125, 125, .RO, 0, true⟩
def TEL_MON_CFG_probe : Fld := ⟨307, 123, 116, .RO, 0, true⟩
def TEL_MON_CFG_instance : Fld := ⟨308, 115, 100, .RO, 0, true⟩
def TEL_MON_CFG_decimate : Fld := ⟨309, 99, 96, .RO, 0, true⟩
def TEL_MON_CFG_shift : Fld := ⟨310, 95, 91, .RO, 0, true⟩
def TEL_MON_CFG_window_us : Fld := ⟨311, 90, 67, .RO, 1000000, true⟩
def TEL_MON_CFG_lo : Fld := ⟨312, 63, 32, .RO, 0, true⟩
def TEL_MON_CFG_limit : Fld := ⟨313, 31, 0, .RO, 2147483647, true⟩
/-! TEL_MON_CFG_SHADOW: 14_monitors_margins_trust.md, Table 14.2 -/
def TEL_MON_CFG_SHADOW_en : Fld := ⟨816, 127, 127, .RWS, 0, true⟩
def TEL_MON_CFG_SHADOW_log2 : Fld := ⟨817, 126, 126, .RWS, 0, true⟩
def TEL_MON_CFG_SHADOW_alarm_en : Fld := ⟨818, 125, 125, .RWS, 0, true⟩
def TEL_MON_CFG_SHADOW_probe : Fld := ⟨819, 123, 116, .RWS, 0, true⟩
def TEL_MON_CFG_SHADOW_instance : Fld := ⟨820, 115, 100, .RWS, 0, true⟩
def TEL_MON_CFG_SHADOW_decimate : Fld := ⟨821, 99, 96, .RWS, 0, true⟩
def TEL_MON_CFG_SHADOW_shift : Fld := ⟨822, 95, 91, .RWS, 0, true⟩
def TEL_MON_CFG_SHADOW_window_us : Fld := ⟨823, 90, 67, .RWS, 1000000, true⟩
def TEL_MON_CFG_SHADOW_lo : Fld := ⟨824, 63, 32, .RWS, 0, true⟩
def TEL_MON_CFG_SHADOW_limit : Fld := ⟨825, 31, 0, .RWS, 2147483647, true⟩
/-! TEL_MON_STAT: 14_monitors_margins_trust.md, Table 14.3 -/
def TEL_MON_STAT_seq : Fld := ⟨314, 63, 40, .RO, 0, false⟩
def TEL_MON_STAT_count : Fld := ⟨315, 39, 8, .RO, 0, false⟩
def TEL_MON_STAT_partial : Fld := ⟨316, 2, 2, .RO, 0, false⟩
def TEL_MON_STAT_saturated : Fld := ⟨317, 1, 1, .RO, 0, false⟩
def TEL_MON_STAT_alarm_evt : Fld := ⟨318, 0, 0, .W1C, 0, false⟩
/-! TEL_MON_MINMAX: 14_monitors_margins_trust.md, Table 14.4 -/
def TEL_MON_MINMAX_max : Fld := ⟨319, 63, 32, .RO, 2147483648, false⟩
def TEL_MON_MINMAX_min : Fld := ⟨320, 31, 0, .RO, 2147483647, false⟩
/-! TEL_MON_SUM: 14_monitors_margins_trust.md, Table 14.5 -/
def TEL_MON_SUM_sum : Fld := ⟨321, 63, 0, .RO, 0, false⟩
/-! TEL_MON_HIST: 14_monitors_margins_trust.md, Table 14.6 -/
def TEL_MON_HIST_count : Fld := ⟨322, 31, 0, .RO, 0, false⟩
/-! TEL_LOG_STAT: 14_monitors_margins_trust.md, Table 14.11 -/
def TEL_LOG_STAT_newest : Fld := ⟨323, 63, 32, .RO, 0, true⟩
def TEL_LOG_STAT_held : Fld := ⟨324, 31, 16, .RO, 0, true⟩
def TEL_LOG_STAT_dropped : Fld := ⟨325, 15, 0, .RO, 0, true⟩
/-! TEL_LOG_SEL: 14_monitors_margins_trust.md, Table 14.12 -/
def TEL_LOG_SEL_seq : Fld := ⟨326, 31, 0, .RW, 0, false⟩
/-! SEC_ROLLBACK_CTRL: 14_monitors_margins_trust.md, Table 14.14 -/
def SEC_ROLLBACK_CTRL_count : Fld := ⟨327, 31, 24, .RO, 0, true⟩
def SEC_ROLLBACK_CTRL_busy : Fld := ⟨328, 23, 23, .RO, 0, true⟩
def SEC_ROLLBACK_CTRL_target : Fld := ⟨329, 6, 0, .WO, 0, false⟩
/-! SEC_FW_STAT: 14_monitors_margins_trust.md, Table 14.16 -/
def SEC_FW_STAT_active : Fld := ⟨330, 31, 31, .RO, 0, true⟩
def SEC_FW_STAT_pending : Fld := ⟨331, 30, 30, .RO, 0, true⟩
def SEC_FW_STAT_valid : Fld := ⟨332, 29, 28, .RO, 0, true⟩
def SEC_FW_STAT_updating : Fld := ⟨333, 27, 27, .RO, 0, true⟩
def SEC_FW_STAT_sv_b : Fld := ⟨334, 13, 7, .RO, 0, true⟩
def SEC_FW_STAT_sv_a : Fld := ⟨335, 6, 0, .RO, 0, true⟩
/-! CTX: 07_host_port_and_queues.md, Table 7.5 -/
def CTX_valid : Fld := ⟨336, 0, 0, .RO, 0, true⟩
def CTX_admin : Fld := ⟨337, 1, 1, .RO, 0, true⟩
def CTX_fabric : Fld := ⟨338, 2, 2, .RO, 0, true⟩
def CTX_reflect : Fld := ⟨339, 3, 3, .RO, 0, true⟩
def CTX_function : Fld := ⟨340, 15, 8, .RO, 0, true⟩
def CTX_pasid : Fld := ⟨341, 51, 32, .RO, 0, true⟩
def CTX_pasid_en : Fld := ⟨342, 63, 63, .RO, 0, true⟩
def CTX_sync_first : Fld := ⟨343, 95, 64, .RO, 0, true⟩
def CTX_sync_count : Fld := ⟨344, 127, 96, .RO, 0, true⟩
def CTX_hubsp_base : Fld := ⟨345, 159, 128, .RO, 0, true⟩
def CTX_hubsp_size : Fld := ⟨346, 191, 160, .RO, 0, true⟩
def CTX_r0_base : Fld := ⟨347, 575, 512, .RO, 0, true⟩
def CTX_r0_size : Fld := ⟨348, 607, 576, .RO, 0, true⟩
def CTX_r0_read : Fld := ⟨349, 608, 608, .RO, 0, true⟩
def CTX_r0_write : Fld := ⟨350, 609, 609, .RO, 0, true⟩
def CTX_r1_base : Fld := ⟨351, 703, 640, .RO, 0, true⟩
def CTX_r1_size : Fld := ⟨352, 735, 704, .RO, 0, true⟩
def CTX_r1_read : Fld := ⟨353, 736, 736, .RO, 0, true⟩
def CTX_r1_write : Fld := ⟨354, 737, 737, .RO, 0, true⟩
def CTX_r2_base : Fld := ⟨355, 831, 768, .RO, 0, true⟩
def CTX_r2_size : Fld := ⟨356, 863, 832, .RO, 0, true⟩
def CTX_r2_read : Fld := ⟨357, 864, 864, .RO, 0, true⟩
def CTX_r2_write : Fld := ⟨358, 865, 865, .RO, 0, true⟩
def CTX_r3_base : Fld := ⟨359, 959, 896, .RO, 0, true⟩
def CTX_r3_size : Fld := ⟨360, 991, 960, .RO, 0, true⟩
def CTX_r3_read : Fld := ⟨361, 992, 992, .RO, 0, true⟩
def CTX_r3_write : Fld := ⟨362, 993, 993, .RO, 0, true⟩
def CTX_r4_base : Fld := ⟨363, 1087, 1024, .RO, 0, true⟩
def CTX_r4_size : Fld := ⟨364, 1119, 1088, .RO, 0, true⟩
def CTX_r4_read : Fld := ⟨365, 1120, 1120, .RO, 0, true⟩
def CTX_r4_write : Fld := ⟨366, 1121, 1121, .RO, 0, true⟩
def CTX_r5_base : Fld := ⟨367, 1215, 1152, .RO, 0, true⟩
def CTX_r5_size : Fld := ⟨368, 1247, 1216, .RO, 0, true⟩
def CTX_r5_read : Fld := ⟨369, 1248, 1248, .RO, 0, true⟩
def CTX_r5_write : Fld := ⟨370, 1249, 1249, .RO, 0, true⟩
def CTX_r6_base : Fld := ⟨371, 1343, 1280, .RO, 0, true⟩
def CTX_r6_size : Fld := ⟨372, 1375, 1344, .RO, 0, true⟩
def CTX_r6_read : Fld := ⟨373, 1376, 1376, .RO, 0, true⟩
def CTX_r6_write : Fld := ⟨374, 1377, 1377, .RO, 0, true⟩
def CTX_r7_base : Fld := ⟨375, 1471, 1408, .RO, 0, true⟩
def CTX_r7_size : Fld := ⟨376, 1503, 1472, .RO, 0, true⟩
def CTX_r7_read : Fld := ⟨377, 1504, 1504, .RO, 0, true⟩
def CTX_r7_write : Fld := ⟨378, 1505, 1505, .RO, 0, true⟩
def CTX_r8_base : Fld := ⟨379, 1599, 1536, .RO, 0, true⟩
def CTX_r8_size : Fld := ⟨380, 1631, 1600, .RO, 0, true⟩
def CTX_r8_read : Fld := ⟨381, 1632, 1632, .RO, 0, true⟩
def CTX_r8_write : Fld := ⟨382, 1633, 1633, .RO, 0, true⟩
def CTX_r9_base : Fld := ⟨383, 1727, 1664, .RO, 0, true⟩
def CTX_r9_size : Fld := ⟨384, 1759, 1728, .RO, 0, true⟩
def CTX_r9_read : Fld := ⟨385, 1760, 1760, .RO, 0, true⟩
def CTX_r9_write : Fld := ⟨386, 1761, 1761, .RO, 0, true⟩
def CTX_r10_base : Fld := ⟨387, 1855, 1792, .RO, 0, true⟩
def CTX_r10_size : Fld := ⟨388, 1887, 1856, .RO, 0, true⟩
def CTX_r10_read : Fld := ⟨389, 1888, 1888, .RO, 0, true⟩
def CTX_r10_write : Fld := ⟨390, 1889, 1889, .RO, 0, true⟩
def CTX_r11_base : Fld := ⟨391, 1983, 1920, .RO, 0, true⟩
def CTX_r11_size : Fld := ⟨392, 2015, 1984, .RO, 0, true⟩
def CTX_r11_read : Fld := ⟨393, 2016, 2016, .RO, 0, true⟩
def CTX_r11_write : Fld := ⟨394, 2017, 2017, .RO, 0, true⟩
/-! CTX_SHADOW: 07_host_port_and_queues.md, Table 7.5 -/
def CTX_SHADOW_valid : Fld := ⟨848, 0, 0, .RWS, 0, true⟩
def CTX_SHADOW_admin : Fld := ⟨849, 1, 1, .RWS, 0, true⟩
def CTX_SHADOW_fabric : Fld := ⟨850, 2, 2, .RWS, 0, true⟩
def CTX_SHADOW_reflect : Fld := ⟨851, 3, 3, .RWS, 0, true⟩
def CTX_SHADOW_function : Fld := ⟨852, 15, 8, .RWS, 0, true⟩
def CTX_SHADOW_pasid : Fld := ⟨853, 51, 32, .RWS, 0, true⟩
def CTX_SHADOW_pasid_en : Fld := ⟨854, 63, 63, .RWS, 0, true⟩
def CTX_SHADOW_sync_first : Fld := ⟨855, 95, 64, .RWS, 0, true⟩
def CTX_SHADOW_sync_count : Fld := ⟨856, 127, 96, .RWS, 0, true⟩
def CTX_SHADOW_hubsp_base : Fld := ⟨857, 159, 128, .RWS, 0, true⟩
def CTX_SHADOW_hubsp_size : Fld := ⟨858, 191, 160, .RWS, 0, true⟩
def CTX_SHADOW_r0_base : Fld := ⟨859, 575, 512, .RWS, 0, true⟩
def CTX_SHADOW_r0_size : Fld := ⟨860, 607, 576, .RWS, 0, true⟩
def CTX_SHADOW_r0_read : Fld := ⟨861, 608, 608, .RWS, 0, true⟩
def CTX_SHADOW_r0_write : Fld := ⟨862, 609, 609, .RWS, 0, true⟩
def CTX_SHADOW_r1_base : Fld := ⟨863, 703, 640, .RWS, 0, true⟩
def CTX_SHADOW_r1_size : Fld := ⟨864, 735, 704, .RWS, 0, true⟩
def CTX_SHADOW_r1_read : Fld := ⟨865, 736, 736, .RWS, 0, true⟩
def CTX_SHADOW_r1_write : Fld := ⟨866, 737, 737, .RWS, 0, true⟩
def CTX_SHADOW_r2_base : Fld := ⟨867, 831, 768, .RWS, 0, true⟩
def CTX_SHADOW_r2_size : Fld := ⟨868, 863, 832, .RWS, 0, true⟩
def CTX_SHADOW_r2_read : Fld := ⟨869, 864, 864, .RWS, 0, true⟩
def CTX_SHADOW_r2_write : Fld := ⟨870, 865, 865, .RWS, 0, true⟩
def CTX_SHADOW_r3_base : Fld := ⟨871, 959, 896, .RWS, 0, true⟩
def CTX_SHADOW_r3_size : Fld := ⟨872, 991, 960, .RWS, 0, true⟩
def CTX_SHADOW_r3_read : Fld := ⟨873, 992, 992, .RWS, 0, true⟩
def CTX_SHADOW_r3_write : Fld := ⟨874, 993, 993, .RWS, 0, true⟩
def CTX_SHADOW_r4_base : Fld := ⟨875, 1087, 1024, .RWS, 0, true⟩
def CTX_SHADOW_r4_size : Fld := ⟨876, 1119, 1088, .RWS, 0, true⟩
def CTX_SHADOW_r4_read : Fld := ⟨877, 1120, 1120, .RWS, 0, true⟩
def CTX_SHADOW_r4_write : Fld := ⟨878, 1121, 1121, .RWS, 0, true⟩
def CTX_SHADOW_r5_base : Fld := ⟨879, 1215, 1152, .RWS, 0, true⟩
def CTX_SHADOW_r5_size : Fld := ⟨880, 1247, 1216, .RWS, 0, true⟩
def CTX_SHADOW_r5_read : Fld := ⟨881, 1248, 1248, .RWS, 0, true⟩
def CTX_SHADOW_r5_write : Fld := ⟨882, 1249, 1249, .RWS, 0, true⟩
def CTX_SHADOW_r6_base : Fld := ⟨883, 1343, 1280, .RWS, 0, true⟩
def CTX_SHADOW_r6_size : Fld := ⟨884, 1375, 1344, .RWS, 0, true⟩
def CTX_SHADOW_r6_read : Fld := ⟨885, 1376, 1376, .RWS, 0, true⟩
def CTX_SHADOW_r6_write : Fld := ⟨886, 1377, 1377, .RWS, 0, true⟩
def CTX_SHADOW_r7_base : Fld := ⟨887, 1471, 1408, .RWS, 0, true⟩
def CTX_SHADOW_r7_size : Fld := ⟨888, 1503, 1472, .RWS, 0, true⟩
def CTX_SHADOW_r7_read : Fld := ⟨889, 1504, 1504, .RWS, 0, true⟩
def CTX_SHADOW_r7_write : Fld := ⟨890, 1505, 1505, .RWS, 0, true⟩
def CTX_SHADOW_r8_base : Fld := ⟨891, 1599, 1536, .RWS, 0, true⟩
def CTX_SHADOW_r8_size : Fld := ⟨892, 1631, 1600, .RWS, 0, true⟩
def CTX_SHADOW_r8_read : Fld := ⟨893, 1632, 1632, .RWS, 0, true⟩
def CTX_SHADOW_r8_write : Fld := ⟨894, 1633, 1633, .RWS, 0, true⟩
def CTX_SHADOW_r9_base : Fld := ⟨895, 1727, 1664, .RWS, 0, true⟩
def CTX_SHADOW_r9_size : Fld := ⟨896, 1759, 1728, .RWS, 0, true⟩
def CTX_SHADOW_r9_read : Fld := ⟨897, 1760, 1760, .RWS, 0, true⟩
def CTX_SHADOW_r9_write : Fld := ⟨898, 1761, 1761, .RWS, 0, true⟩
def CTX_SHADOW_r10_base : Fld := ⟨899, 1855, 1792, .RWS, 0, true⟩
def CTX_SHADOW_r10_size : Fld := ⟨900, 1887, 1856, .RWS, 0, true⟩
def CTX_SHADOW_r10_read : Fld := ⟨901, 1888, 1888, .RWS, 0, true⟩
def CTX_SHADOW_r10_write : Fld := ⟨902, 1889, 1889, .RWS, 0, true⟩
def CTX_SHADOW_r11_base : Fld := ⟨903, 1983, 1920, .RWS, 0, true⟩
def CTX_SHADOW_r11_size : Fld := ⟨904, 2015, 1984, .RWS, 0, true⟩
def CTX_SHADOW_r11_read : Fld := ⟨905, 2016, 2016, .RWS, 0, true⟩
def CTX_SHADOW_r11_write : Fld := ⟨906, 2017, 2017, .RWS, 0, true⟩
/-! TEL_LOG_DATA: 14_monitors_margins_trust.md, Table 14.11 -/
def TEL_LOG_DATA_data : Fld := ⟨395, 63, 0, .RO, 0, false⟩
/-! HUB_DEVICE_TIME_HI: 02_clocks_time_latency.md, Table 2.3 -/
def HUB_DEVICE_TIME_HI_high : Fld := ⟨396, 31, 0, .RO, 0, false⟩

end F

/-- The registers of the manual, by name (R11). -/
inductive RegName where
  | HUB_D2D_BUNDLE_STAT
  | HUB_BOOT_STATUS
  | HUB_ARRAY_CLK
  | HUB_DEVICE_TIME
  | HUB_CALENDAR
  | HUB_CALENDAR_SET
  | QD_ARRAY_STAT
  | QD_ARRAY_CNT
  | QD_SR_SEED
  | QD_SR_CTR
  | QD_CVT_EVT
  | HUB_GRAPH_STORE
  | HUB_GRAPH_STAT
  | QD_SEQ_STAT
  | MEM_MAP
  | MEM_MAP_SHADOW
  | MEM_CH_STAT
  | MEM_CH_CFG
  | MEM_REPAIR_CFG
  | HUB_BAR4_BASE
  | HUB_Q_BASE
  | HUB_CQ_BASE
  | HUB_Q_CFG
  | HUB_Q_STAT
  | HUB_Q_CTRL
  | HUB_EARLY_DOORBELLS
  | HUB_CQ_CFG
  | HUB_CQ_STAT
  | HUB_PART_MAP
  | HUB_PART_MAP_SHADOW
  | HUB_CFG_EPOCH
  | HUB_CFG_STATUS
  | HUB_CFG_CTRL
  | HUB_SETUP_LOCK
  | FAB_NODE_ID
  | FAB_CFG
  | FAB_BOARD
  | FAB_BOARD_SHADOW
  | FAB_ROUTE
  | FAB_ROUTE_SHADOW
  | FAB_REGION
  | FAB_REGION_SHADOW
  | FAB_RXQ_CFG
  | FAB_RXQ_PTR
  | FAB_EVT_CNT
  | WIN_PORT_CFG
  | WIN_PORT_CFG_SHADOW
  | WIN_PORT_STAT
  | WIN_LANE_STAT
  | WIN_FF_CFG
  | WIN_PORT_CTRL
  | WIN_LOSS_STAT
  | WIN_EVT_CNT
  | COL_POOL
  | COL_DEFAULTS
  | COL_DEFAULTS_SHADOW
  | COL_SESSION_STAT
  | COL_ENGINE
  | PWR_CAP
  | PWR_CAP_SHADOW
  | PWR_LAMP_CFG
  | PWR_LAMP_CFG_SHADOW
  | PWR_STAT
  | PWR_FEED_STAT
  | THM_TEMP
  | THM_STOP_STAT
  | THM_STOP_SAVE
  | HUB_RESET_CTRL
  | HUB_RESET_STAT
  | HUB_PROGRESS
  | HUB_CTX_REPLAY
  | HUB_SUSPECT
  | HUB_ENGINE_GATE
  | HUB_DUMP_ADDR
  | HUB_DUMP_CTRL
  | HUB_DUMP_STAT
  | FAB_HELLO_STAT
  | SEC_JOB_CTRL
  | SEC_JOB_STAT
  | SEC_CFG_DIGEST
  | SEC_NOTICE_SUBMIT
  | SEC_EXCL_STAT
  | FAB_REFLECT_STAT
  | FAB_REFLECT_GEN
  | FAB_REFLECT_COPIED
  | TEL_MON_CFG
  | TEL_MON_CFG_SHADOW
  | TEL_MON_STAT
  | TEL_MON_MINMAX
  | TEL_MON_SUM
  | TEL_MON_HIST
  | TEL_LOG_STAT
  | TEL_LOG_SEL
  | SEC_ROLLBACK_CTRL
  | SEC_FW_STAT
  | CTX
  | CTX_SHADOW
  | TEL_LOG_DATA
  | HUB_DEVICE_TIME_HI
  deriving DecidableEq, Repr

/-- The fields of a register, high to low. -/
def RegName.fields : RegName → List Fld
  | .HUB_D2D_BUNDLE_STAT => [F.HUB_D2D_BUNDLE_STAT_swap_count, F.HUB_D2D_BUNDLE_STAT_healthy_lanes, F.HUB_D2D_BUNDLE_STAT_spares_used, F.HUB_D2D_BUNDLE_STAT_width, F.HUB_D2D_BUNDLE_STAT_degraded_evt]
  | .HUB_BOOT_STATUS => [F.HUB_BOOT_STATUS_ready, F.HUB_BOOT_STATUS_hold, F.HUB_BOOT_STATUS_step, F.HUB_BOOT_STATUS_cause, F.HUB_BOOT_STATUS_cause_unit]
  | .HUB_ARRAY_CLK => [F.HUB_ARRAY_CLK_current_mhz, F.HUB_ARRAY_CLK_ceiling_mhz]
  | .HUB_DEVICE_TIME => [F.HUB_DEVICE_TIME_device_time]
  | .HUB_CALENDAR => [F.HUB_CALENDAR_valid, F.HUB_CALENDAR_seconds, F.HUB_CALENDAR_fraction]
  | .HUB_CALENDAR_SET => [F.HUB_CALENDAR_SET_seconds, F.HUB_CALENDAR_SET_fraction]
  | .QD_ARRAY_STAT => [F.QD_ARRAY_STAT_operation, F.QD_ARRAY_STAT_active_rows, F.QD_ARRAY_STAT_credits_free, F.QD_ARRAY_STAT_buf_valid, F.QD_ARRAY_STAT_lamp_active, F.QD_ARRAY_STAT_poison_evt, F.QD_ARRAY_STAT_acc_corr_evt, F.QD_ARRAY_STAT_acc_uncorr_evt]
  | .QD_ARRAY_CNT => [F.QD_ARRAY_CNT_count]
  | .QD_SR_SEED => [F.QD_SR_SEED_seed]
  | .QD_SR_CTR => [F.QD_SR_CTR_counter]
  | .QD_CVT_EVT => [F.QD_CVT_EVT_bad_record_evt, F.QD_CVT_EVT_nonfinite_evt, F.QD_CVT_EVT_nan_int_evt, F.QD_CVT_EVT_ovf_evt]
  | .HUB_GRAPH_STORE => [F.HUB_GRAPH_STORE_base_mib]
  | .HUB_GRAPH_STAT => [F.HUB_GRAPH_STAT_state, F.HUB_GRAPH_STAT_last_status, F.HUB_GRAPH_STAT_node, F.HUB_GRAPH_STAT_iteration]
  | .QD_SEQ_STAT => [F.QD_SEQ_STAT_state, F.QD_SEQ_STAT_last_status, F.QD_SEQ_STAT_fault_pc, F.QD_SEQ_STAT_pc, F.QD_SEQ_STAT_loop_depth, F.QD_SEQ_STAT_fault_evt, F.QD_SEQ_STAT_launches]
  | .MEM_MAP => [F.MEM_MAP_valid, F.MEM_MAP_spread, F.MEM_MAP_parity, F.MEM_MAP_stack, F.MEM_MAP_media_first, F.MEM_MAP_base, F.MEM_MAP_size]
  | .MEM_MAP_SHADOW => [F.MEM_MAP_SHADOW_valid, F.MEM_MAP_SHADOW_spread, F.MEM_MAP_SHADOW_parity, F.MEM_MAP_SHADOW_stack, F.MEM_MAP_SHADOW_media_first, F.MEM_MAP_SHADOW_base, F.MEM_MAP_SHADOW_size]
  | .MEM_CH_STAT => [F.MEM_CH_STAT_state, F.MEM_CH_STAT_logical, F.MEM_CH_STAT_spare_lanes_used, F.MEM_CH_STAT_pointer, F.MEM_CH_STAT_corr_count, F.MEM_CH_STAT_uncorr_count, F.MEM_CH_STAT_lane_evt, F.MEM_CH_STAT_loss_evt, F.MEM_CH_STAT_repair_evt]
  | .MEM_CH_CFG => [F.MEM_CH_CFG_retrain_req, F.MEM_CH_CFG_evacuate_req, F.MEM_CH_CFG_scrub_dis]
  | .MEM_REPAIR_CFG => [F.MEM_REPAIR_CFG_remap_mode, F.MEM_REPAIR_CFG_repair_share, F.MEM_REPAIR_CFG_retrain_period, F.MEM_REPAIR_CFG_retrain_temp, F.MEM_REPAIR_CFG_scrub_hours]
  | .HUB_BAR4_BASE => [F.HUB_BAR4_BASE_base]
  | .HUB_Q_BASE => [F.HUB_Q_BASE_base]
  | .HUB_CQ_BASE => [F.HUB_CQ_BASE_base]
  | .HUB_Q_CFG => [F.HUB_Q_CFG_enable, F.HUB_Q_CFG_priority, F.HUB_Q_CFG_log2_entries, F.HUB_Q_CFG_context, F.HUB_Q_CFG_function, F.HUB_Q_CFG_cq]
  | .HUB_Q_STAT => [F.HUB_Q_STAT_state, F.HUB_Q_STAT_halt_status, F.HUB_Q_STAT_error_cause, F.HUB_Q_STAT_head, F.HUB_Q_STAT_tail, F.HUB_Q_STAT_halt_index]
  | .HUB_Q_CTRL => [F.HUB_Q_CTRL_new_head, F.HUB_Q_CTRL_set_head, F.HUB_Q_CTRL_resume]
  | .HUB_EARLY_DOORBELLS => [F.HUB_EARLY_DOORBELLS_count]
  | .HUB_CQ_CFG => [F.HUB_CQ_CFG_enable, F.HUB_CQ_CFG_int_en, F.HUB_CQ_CFG_log2_entries, F.HUB_CQ_CFG_vector, F.HUB_CQ_CFG_function, F.HUB_CQ_CFG_mod_us, F.HUB_CQ_CFG_mod_count]
  | .HUB_CQ_STAT => [F.HUB_CQ_STAT_dropped, F.HUB_CQ_STAT_head, F.HUB_CQ_STAT_position, F.HUB_CQ_STAT_enable_refused, F.HUB_CQ_STAT_stalled]
  | .HUB_PART_MAP => [F.HUB_PART_MAP_c3_functions, F.HUB_PART_MAP_c2_functions, F.HUB_PART_MAP_c1_functions, F.HUB_PART_MAP_c0_functions]
  | .HUB_PART_MAP_SHADOW => [F.HUB_PART_MAP_SHADOW_c3_functions, F.HUB_PART_MAP_SHADOW_c2_functions, F.HUB_PART_MAP_SHADOW_c1_functions, F.HUB_PART_MAP_SHADOW_c0_functions]
  | .HUB_CFG_EPOCH => [F.HUB_CFG_EPOCH_highest, F.HUB_CFG_EPOCH_committed]
  | .HUB_CFG_STATUS => [F.HUB_CFG_STATUS_state, F.HUB_CFG_STATUS_done_evt, F.HUB_CFG_STATUS_missed, F.HUB_CFG_STATUS_from_revert, F.HUB_CFG_STATUS_switched, F.HUB_CFG_STATUS_blocked]
  | .HUB_CFG_CTRL => [F.HUB_CFG_CTRL_quiesce_ms]
  | .HUB_SETUP_LOCK => [F.HUB_SETUP_LOCK_bad_accesses, F.HUB_SETUP_LOCK_blocked_writes, F.HUB_SETUP_LOCK_locked]
  | .FAB_NODE_ID => [F.FAB_NODE_ID_slot, F.FAB_NODE_ID_assigned, F.FAB_NODE_ID_node]
  | .FAB_CFG => [F.FAB_CFG_enable, F.FAB_CFG_bad_base, F.FAB_CFG_unassigned, F.FAB_CFG_flow_base]
  | .FAB_BOARD => [F.FAB_BOARD_valid, F.FAB_BOARD_node, F.FAB_BOARD_key]
  | .FAB_BOARD_SHADOW => [F.FAB_BOARD_SHADOW_valid, F.FAB_BOARD_SHADOW_node, F.FAB_BOARD_SHADOW_key]
  | .FAB_ROUTE => [F.FAB_ROUTE_valid, F.FAB_ROUTE_prefix_len, F.FAB_ROUTE_hops, F.FAB_ROUTE_prefix, F.FAB_ROUTE_ports]
  | .FAB_ROUTE_SHADOW => [F.FAB_ROUTE_SHADOW_valid, F.FAB_ROUTE_SHADOW_prefix_len, F.FAB_ROUTE_SHADOW_hops, F.FAB_ROUTE_SHADOW_prefix, F.FAB_ROUTE_SHADOW_ports]
  | .FAB_REGION => [F.FAB_REGION_valid, F.FAB_REGION_read, F.FAB_REGION_write, F.FAB_REGION_atomic, F.FAB_REGION_src_node, F.FAB_REGION_src_mask, F.FAB_REGION_size, F.FAB_REGION_key, F.FAB_REGION_base]
  | .FAB_REGION_SHADOW => [F.FAB_REGION_SHADOW_valid, F.FAB_REGION_SHADOW_read, F.FAB_REGION_SHADOW_write, F.FAB_REGION_SHADOW_atomic, F.FAB_REGION_SHADOW_src_node, F.FAB_REGION_SHADOW_src_mask, F.FAB_REGION_SHADOW_size, F.FAB_REGION_SHADOW_key, F.FAB_REGION_SHADOW_base]
  | .FAB_RXQ_CFG => [F.FAB_RXQ_CFG_enable, F.FAB_RXQ_CFG_log2_slots, F.FAB_RXQ_CFG_log2_slot_size, F.FAB_RXQ_CFG_sig_en, F.FAB_RXQ_CFG_sync_obj, F.FAB_RXQ_CFG_key, F.FAB_RXQ_CFG_base]
  | .FAB_RXQ_PTR => [F.FAB_RXQ_PTR_head, F.FAB_RXQ_PTR_tail]
  | .FAB_EVT_CNT => [F.FAB_EVT_CNT_count]
  | .WIN_PORT_CFG => [F.WIN_PORT_CFG_enable, F.WIN_PORT_CFG_fec_long, F.WIN_PORT_CFG_min_width, F.WIN_PORT_CFG_ff_en]
  | .WIN_PORT_CFG_SHADOW => [F.WIN_PORT_CFG_SHADOW_enable, F.WIN_PORT_CFG_SHADOW_fec_long, F.WIN_PORT_CFG_SHADOW_min_width, F.WIN_PORT_CFG_SHADOW_ff_en]
  | .WIN_PORT_STAT => [F.WIN_PORT_STAT_state, F.WIN_PORT_STAT_keeper, F.WIN_PORT_STAT_fec_long_active, F.WIN_PORT_STAT_fec_mismatch, F.WIN_PORT_STAT_width, F.WIN_PORT_STAT_spares_used, F.WIN_PORT_STAT_map_gen_rx, F.WIN_PORT_STAT_map_gen_tx] ++
    [F.WIN_PORT_STAT_rtt_ns, F.WIN_PORT_STAT_retrains, F.WIN_PORT_STAT_lane_evt, F.WIN_PORT_STAT_down_evt, F.WIN_PORT_STAT_loss_evt]
  | .WIN_LANE_STAT => [F.WIN_LANE_STAT_logical, F.WIN_LANE_STAT_lock, F.WIN_LANE_STAT_tx_heater, F.WIN_LANE_STAT_rx_heater, F.WIN_LANE_STAT_rx_power, F.WIN_LANE_STAT_corrected, F.WIN_LANE_STAT_aliases, F.WIN_LANE_STAT_fault_evt]
  | .WIN_FF_CFG => [F.WIN_FF_CFG_tau_us, F.WIN_FF_CFG_gain]
  | .WIN_PORT_CTRL => [F.WIN_PORT_CTRL_recal_req, F.WIN_PORT_CTRL_retrain_req]
  | .WIN_LOSS_STAT => [F.WIN_LOSS_STAT_stage, F.WIN_LOSS_STAT_wavelength, F.WIN_LOSS_STAT_excess, F.WIN_LOSS_STAT_failed]
  | .WIN_EVT_CNT => [F.WIN_EVT_CNT_count]
  | .COL_POOL => [F.COL_POOL_free_units, F.COL_POOL_size_mib, F.COL_POOL_base_mib]
  | .COL_DEFAULTS => [F.COL_DEFAULTS_timeout, F.COL_DEFAULTS_slots, F.COL_DEFAULTS_chunk_kib]
  | .COL_DEFAULTS_SHADOW => [F.COL_DEFAULTS_SHADOW_timeout, F.COL_DEFAULTS_SHADOW_slots, F.COL_DEFAULTS_SHADOW_chunk_kib]
  | .COL_SESSION_STAT => [F.COL_SESSION_STAT_state, F.COL_SESSION_STAT_cause, F.COL_SESSION_STAT_lost_node, F.COL_SESSION_STAT_generation, F.COL_SESSION_STAT_run, F.COL_SESSION_STAT_abort_evt]
  | .COL_ENGINE => [F.COL_ENGINE_window_ms, F.COL_ENGINE_spares_used, F.COL_ENGINE_half, F.COL_ENGINE_healthy, F.COL_ENGINE_mismatches, F.COL_ENGINE_discards]
  | .PWR_CAP => [F.PWR_CAP_cap_w]
  | .PWR_CAP_SHADOW => [F.PWR_CAP_SHADOW_cap_w]
  | .PWR_LAMP_CFG => [F.PWR_LAMP_CFG_lamp_en, F.PWR_LAMP_CFG_gap_us]
  | .PWR_LAMP_CFG_SHADOW => [F.PWR_LAMP_CFG_SHADOW_lamp_en, F.PWR_LAMP_CFG_SHADOW_gap_us]
  | .PWR_STAT => [F.PWR_STAT_feed, F.PWR_STAT_allowance, F.PWR_STAT_activity, F.PWR_STAT_measured_w, F.PWR_STAT_estimate_w]
  | .PWR_FEED_STAT => [F.PWR_FEED_STAT_feed_a, F.PWR_FEED_STAT_feed_b, F.PWR_FEED_STAT_switches, F.PWR_FEED_STAT_switch_evt, F.PWR_FEED_STAT_mismatch_evt, F.PWR_FEED_STAT_meas_lost_evt]
  | .THM_TEMP => [F.THM_TEMP_temp, F.THM_TEMP_rate, F.THM_TEMP_throttle, F.THM_TEMP_fault, F.THM_TEMP_throttle_evt]
  | .THM_STOP_STAT => [F.THM_STOP_STAT_state, F.THM_STOP_STAT_cause, F.THM_STOP_STAT_second_cause, F.THM_STOP_STAT_unit, F.THM_STOP_STAT_anomaly, F.THM_STOP_STAT_uncorroborated, F.THM_STOP_STAT_saved, F.THM_STOP_STAT_stop_evt, F.THM_STOP_STAT_start]
  | .THM_STOP_SAVE => [F.THM_STOP_SAVE_base, F.THM_STOP_SAVE_en]
  | .HUB_RESET_CTRL => [F.HUB_RESET_CTRL_target, F.HUB_RESET_CTRL_dump_first, F.HUB_RESET_CTRL_escalate, F.HUB_RESET_CTRL_kind]
  | .HUB_RESET_STAT => [F.HUB_RESET_STAT_state, F.HUB_RESET_STAT_last_kind, F.HUB_RESET_STAT_last_result, F.HUB_RESET_STAT_flush_incomplete, F.HUB_RESET_STAT_done_evt, F.HUB_RESET_STAT_dropped, F.HUB_RESET_STAT_last_target, F.HUB_RESET_STAT_chip_resets, F.HUB_RESET_STAT_epoch]
  | .HUB_PROGRESS => [F.HUB_PROGRESS_busy, F.HUB_PROGRESS_waiting, F.HUB_PROGRESS_context, F.HUB_PROGRESS_count]
  | .HUB_CTX_REPLAY => [F.HUB_CTX_REPLAY_valid, F.HUB_CTX_REPLAY_frozen, F.HUB_CTX_REPLAY_queue, F.HUB_CTX_REPLAY_index]
  | .HUB_SUSPECT => [F.HUB_SUSPECT_valid, F.HUB_SUSPECT_context]
  | .HUB_ENGINE_GATE => [F.HUB_ENGINE_GATE_en, F.HUB_ENGINE_GATE_context]
  | .HUB_DUMP_ADDR => [F.HUB_DUMP_ADDR_addr]
  | .HUB_DUMP_CTRL => [F.HUB_DUMP_CTRL_start, F.HUB_DUMP_CTRL_allow_freeze, F.HUB_DUMP_CTRL_size_4k]
  | .HUB_DUMP_STAT => [F.HUB_DUMP_STAT_state, F.HUB_DUMP_STAT_unresponsive, F.HUB_DUMP_STAT_frozen, F.HUB_DUMP_STAT_done_evt, F.HUB_DUMP_STAT_written]
  | .FAB_HELLO_STAT => [F.FAB_HELLO_STAT_outcome, F.FAB_HELLO_STAT_node, F.FAB_HELLO_STAT_epoch, F.FAB_HELLO_STAT_firmware, F.FAB_HELLO_STAT_version_diff, F.FAB_HELLO_STAT_digest_diff, F.FAB_HELLO_STAT_gen_diff, F.FAB_HELLO_STAT_calendar_skew, F.FAB_HELLO_STAT_stepping_diff, F.FAB_HELLO_STAT_excluded, F.FAB_HELLO_STAT_unassigned, F.FAB_HELLO_STAT_hello_evt]
  | .SEC_JOB_CTRL => [F.SEC_JOB_CTRL_addr, F.SEC_JOB_CTRL_clear, F.SEC_JOB_CTRL_install]
  | .SEC_JOB_STAT => [F.SEC_JOB_STAT_installed, F.SEC_JOB_STAT_result, F.SEC_JOB_STAT_k, F.SEC_JOB_STAT_n]
  | .SEC_CFG_DIGEST => [F.SEC_CFG_DIGEST_digest]
  | .SEC_NOTICE_SUBMIT => [F.SEC_NOTICE_SUBMIT_addr]
  | .SEC_EXCL_STAT => [F.SEC_EXCL_STAT_generation, F.SEC_EXCL_STAT_entries, F.SEC_EXCL_STAT_pending, F.SEC_EXCL_STAT_shutter, F.SEC_EXCL_STAT_full, F.SEC_EXCL_STAT_excl_evt, F.SEC_EXCL_STAT_last_result]
  | .FAB_REFLECT_STAT => [F.FAB_REFLECT_STAT_state, F.FAB_REFLECT_STAT_shadow, F.FAB_REFLECT_STAT_cause, F.FAB_REFLECT_STAT_partner, F.FAB_REFLECT_STAT_overflow, F.FAB_REFLECT_STAT_lost_evt, F.FAB_REFLECT_STAT_shadow_gen]
  | .FAB_REFLECT_GEN => [F.FAB_REFLECT_GEN_created, F.FAB_REFLECT_GEN_durable]
  | .FAB_REFLECT_COPIED => [F.FAB_REFLECT_COPIED_bytes]
  | .TEL_MON_CFG => [F.TEL_MON_CFG_en, F.TEL_MON_CFG_log2, F.TEL_MON_CFG_alarm_en, F.TEL_MON_CFG_probe, F.TEL_MON_CFG_instance, F.TEL_MON_CFG_decimate, F.TEL_MON_CFG_shift, F.TEL_MON_CFG_window_us, F.TEL_MON_CFG_lo, F.TEL_MON_CFG_limit]
  | .TEL_MON_CFG_SHADOW => [F.TEL_MON_CFG_SHADOW_en, F.TEL_MON_CFG_SHADOW_log2, F.TEL_MON_CFG_SHADOW_alarm_en, F.TEL_MON_CFG_SHADOW_probe, F.TEL_MON_CFG_SHADOW_instance, F.TEL_MON_CFG_SHADOW_decimate, F.TEL_MON_CFG_SHADOW_shift, F.TEL_MON_CFG_SHADOW_window_us, F.TEL_MON_CFG_SHADOW_lo, F.TEL_MON_CFG_SHADOW_limit]
  | .TEL_MON_STAT => [F.TEL_MON_STAT_seq, F.TEL_MON_STAT_count, F.TEL_MON_STAT_partial, F.TEL_MON_STAT_saturated, F.TEL_MON_STAT_alarm_evt]
  | .TEL_MON_MINMAX => [F.TEL_MON_MINMAX_max, F.TEL_MON_MINMAX_min]
  | .TEL_MON_SUM => [F.TEL_MON_SUM_sum]
  | .TEL_MON_HIST => [F.TEL_MON_HIST_count]
  | .TEL_LOG_STAT => [F.TEL_LOG_STAT_newest, F.TEL_LOG_STAT_held, F.TEL_LOG_STAT_dropped]
  | .TEL_LOG_SEL => [F.TEL_LOG_SEL_seq]
  | .SEC_ROLLBACK_CTRL => [F.SEC_ROLLBACK_CTRL_count, F.SEC_ROLLBACK_CTRL_busy, F.SEC_ROLLBACK_CTRL_target]
  | .SEC_FW_STAT => [F.SEC_FW_STAT_active, F.SEC_FW_STAT_pending, F.SEC_FW_STAT_valid, F.SEC_FW_STAT_updating, F.SEC_FW_STAT_sv_b, F.SEC_FW_STAT_sv_a]
  | .CTX => [F.CTX_valid, F.CTX_admin, F.CTX_fabric, F.CTX_reflect, F.CTX_function, F.CTX_pasid, F.CTX_pasid_en, F.CTX_sync_first] ++
    [F.CTX_sync_count, F.CTX_hubsp_base, F.CTX_hubsp_size, F.CTX_r0_base, F.CTX_r0_size, F.CTX_r0_read, F.CTX_r0_write, F.CTX_r1_base] ++
    [F.CTX_r1_size, F.CTX_r1_read, F.CTX_r1_write, F.CTX_r2_base, F.CTX_r2_size, F.CTX_r2_read, F.CTX_r2_write, F.CTX_r3_base] ++
    [F.CTX_r3_size, F.CTX_r3_read, F.CTX_r3_write, F.CTX_r4_base, F.CTX_r4_size, F.CTX_r4_read, F.CTX_r4_write, F.CTX_r5_base] ++
    [F.CTX_r5_size, F.CTX_r5_read, F.CTX_r5_write, F.CTX_r6_base, F.CTX_r6_size, F.CTX_r6_read, F.CTX_r6_write, F.CTX_r7_base] ++
    [F.CTX_r7_size, F.CTX_r7_read, F.CTX_r7_write, F.CTX_r8_base, F.CTX_r8_size, F.CTX_r8_read, F.CTX_r8_write, F.CTX_r9_base] ++
    [F.CTX_r9_size, F.CTX_r9_read, F.CTX_r9_write, F.CTX_r10_base, F.CTX_r10_size, F.CTX_r10_read, F.CTX_r10_write, F.CTX_r11_base] ++
    [F.CTX_r11_size, F.CTX_r11_read, F.CTX_r11_write]
  | .CTX_SHADOW => [F.CTX_SHADOW_valid, F.CTX_SHADOW_admin, F.CTX_SHADOW_fabric, F.CTX_SHADOW_reflect, F.CTX_SHADOW_function, F.CTX_SHADOW_pasid, F.CTX_SHADOW_pasid_en, F.CTX_SHADOW_sync_first] ++
    [F.CTX_SHADOW_sync_count, F.CTX_SHADOW_hubsp_base, F.CTX_SHADOW_hubsp_size, F.CTX_SHADOW_r0_base, F.CTX_SHADOW_r0_size, F.CTX_SHADOW_r0_read, F.CTX_SHADOW_r0_write, F.CTX_SHADOW_r1_base] ++
    [F.CTX_SHADOW_r1_size, F.CTX_SHADOW_r1_read, F.CTX_SHADOW_r1_write, F.CTX_SHADOW_r2_base, F.CTX_SHADOW_r2_size, F.CTX_SHADOW_r2_read, F.CTX_SHADOW_r2_write, F.CTX_SHADOW_r3_base] ++
    [F.CTX_SHADOW_r3_size, F.CTX_SHADOW_r3_read, F.CTX_SHADOW_r3_write, F.CTX_SHADOW_r4_base, F.CTX_SHADOW_r4_size, F.CTX_SHADOW_r4_read, F.CTX_SHADOW_r4_write, F.CTX_SHADOW_r5_base] ++
    [F.CTX_SHADOW_r5_size, F.CTX_SHADOW_r5_read, F.CTX_SHADOW_r5_write, F.CTX_SHADOW_r6_base, F.CTX_SHADOW_r6_size, F.CTX_SHADOW_r6_read, F.CTX_SHADOW_r6_write, F.CTX_SHADOW_r7_base] ++
    [F.CTX_SHADOW_r7_size, F.CTX_SHADOW_r7_read, F.CTX_SHADOW_r7_write, F.CTX_SHADOW_r8_base, F.CTX_SHADOW_r8_size, F.CTX_SHADOW_r8_read, F.CTX_SHADOW_r8_write, F.CTX_SHADOW_r9_base] ++
    [F.CTX_SHADOW_r9_size, F.CTX_SHADOW_r9_read, F.CTX_SHADOW_r9_write, F.CTX_SHADOW_r10_base, F.CTX_SHADOW_r10_size, F.CTX_SHADOW_r10_read, F.CTX_SHADOW_r10_write, F.CTX_SHADOW_r11_base] ++
    [F.CTX_SHADOW_r11_size, F.CTX_SHADOW_r11_read, F.CTX_SHADOW_r11_write]
  | .TEL_LOG_DATA => [F.TEL_LOG_DATA_data]
  | .HUB_DEVICE_TIME_HI => [F.HUB_DEVICE_TIME_HI_high]

/-- How many instances a register has. -/
def RegName.count : RegName → Nat
  | .HUB_D2D_BUNDLE_STAT => 400
  | .HUB_BOOT_STATUS => 1
  | .HUB_ARRAY_CLK => 4
  | .HUB_DEVICE_TIME => 1
  | .HUB_CALENDAR => 1
  | .HUB_CALENDAR_SET => 1
  | .QD_ARRAY_STAT => 1024
  | .QD_ARRAY_CNT => 128
  | .QD_SR_SEED => 16
  | .QD_SR_CTR => 16
  | .QD_CVT_EVT => 16
  | .HUB_GRAPH_STORE => 1
  | .HUB_GRAPH_STAT => 64
  | .QD_SEQ_STAT => 16
  | .MEM_MAP => 4096
  | .MEM_MAP_SHADOW => 4096
  | .MEM_CH_STAT => 544
  | .MEM_CH_CFG => 544
  | .MEM_REPAIR_CFG => 1
  | .HUB_BAR4_BASE => 1
  | .HUB_Q_BASE => 65536
  | .HUB_CQ_BASE => 65536
  | .HUB_Q_CFG => 65536
  | .HUB_Q_STAT => 65536
  | .HUB_Q_CTRL => 65536
  | .HUB_EARLY_DOORBELLS => 1
  | .HUB_CQ_CFG => 65536
  | .HUB_CQ_STAT => 65536
  | .HUB_PART_MAP => 1
  | .HUB_PART_MAP_SHADOW => 1
  | .HUB_CFG_EPOCH => 1
  | .HUB_CFG_STATUS => 1
  | .HUB_CFG_CTRL => 1
  | .HUB_SETUP_LOCK => 1
  | .FAB_NODE_ID => 1
  | .FAB_CFG => 1
  | .FAB_BOARD => 8
  | .FAB_BOARD_SHADOW => 8
  | .FAB_ROUTE => 4096
  | .FAB_ROUTE_SHADOW => 4096
  | .FAB_REGION => 65536
  | .FAB_REGION_SHADOW => 65536
  | .FAB_RXQ_CFG => 1024
  | .FAB_RXQ_PTR => 1024
  | .FAB_EVT_CNT => 32
  | .WIN_PORT_CFG => 64
  | .WIN_PORT_CFG_SHADOW => 64
  | .WIN_PORT_STAT => 65
  | .WIN_LANE_STAT => 1170
  | .WIN_FF_CFG => 16
  | .WIN_PORT_CTRL => 65
  | .WIN_LOSS_STAT => 65
  | .WIN_EVT_CNT => 1040
  | .COL_POOL => 1
  | .COL_DEFAULTS => 1
  | .COL_DEFAULTS_SHADOW => 1
  | .COL_SESSION_STAT => 8
  | .COL_ENGINE => 1
  | .PWR_CAP => 1
  | .PWR_CAP_SHADOW => 1
  | .PWR_LAMP_CFG => 1
  | .PWR_LAMP_CFG_SHADOW => 1
  | .PWR_STAT => 1
  | .PWR_FEED_STAT => 1
  | .THM_TEMP => 25
  | .THM_STOP_STAT => 1
  | .THM_STOP_SAVE => 1
  | .HUB_RESET_CTRL => 1
  | .HUB_RESET_STAT => 1
  | .HUB_PROGRESS => 30
  | .HUB_CTX_REPLAY => 4096
  | .HUB_SUSPECT => 240
  | .HUB_ENGINE_GATE => 25
  | .HUB_DUMP_ADDR => 1
  | .HUB_DUMP_CTRL => 1
  | .HUB_DUMP_STAT => 1
  | .FAB_HELLO_STAT => 64
  | .SEC_JOB_CTRL => 1
  | .SEC_JOB_STAT => 1
  | .SEC_CFG_DIGEST => 1
  | .SEC_NOTICE_SUBMIT => 1
  | .SEC_EXCL_STAT => 1
  | .FAB_REFLECT_STAT => 1
  | .FAB_REFLECT_GEN => 1
  | .FAB_REFLECT_COPIED => 1
  | .TEL_MON_CFG => 128
  | .TEL_MON_CFG_SHADOW => 128
  | .TEL_MON_STAT => 128
  | .TEL_MON_MINMAX => 128
  | .TEL_MON_SUM => 128
  | .TEL_MON_HIST => 4096
  | .TEL_LOG_STAT => 1
  | .TEL_LOG_SEL => 1
  | .SEC_ROLLBACK_CTRL => 1
  | .SEC_FW_STAT => 1
  | .CTX => 4096
  | .CTX_SHADOW => 4096
  | .TEL_LOG_DATA => 8
  | .HUB_DEVICE_TIME_HI => 16

/-- A register's width in bits. -/
def RegName.width : RegName → Nat
  | .HUB_D2D_BUNDLE_STAT => 32
  | .HUB_BOOT_STATUS => 32
  | .HUB_ARRAY_CLK => 32
  | .HUB_DEVICE_TIME => 64
  | .HUB_CALENDAR => 64
  | .HUB_CALENDAR_SET => 64
  | .QD_ARRAY_STAT => 32
  | .QD_ARRAY_CNT => 64
  | .QD_SR_SEED => 64
  | .QD_SR_CTR => 64
  | .QD_CVT_EVT => 32
  | .HUB_GRAPH_STORE => 32
  | .HUB_GRAPH_STAT => 64
  | .QD_SEQ_STAT => 64
  | .MEM_MAP => 64
  | .MEM_MAP_SHADOW => 64
  | .MEM_CH_STAT => 64
  | .MEM_CH_CFG => 32
  | .MEM_REPAIR_CFG => 32
  | .HUB_BAR4_BASE => 64
  | .HUB_Q_BASE => 64
  | .HUB_CQ_BASE => 64
  | .HUB_Q_CFG => 64
  | .HUB_Q_STAT => 64
  | .HUB_Q_CTRL => 64
  | .HUB_EARLY_DOORBELLS => 32
  | .HUB_CQ_CFG => 64
  | .HUB_CQ_STAT => 64
  | .HUB_PART_MAP => 64
  | .HUB_PART_MAP_SHADOW => 64
  | .HUB_CFG_EPOCH => 64
  | .HUB_CFG_STATUS => 64
  | .HUB_CFG_CTRL => 32
  | .HUB_SETUP_LOCK => 64
  | .FAB_NODE_ID => 32
  | .FAB_CFG => 64
  | .FAB_BOARD => 64
  | .FAB_BOARD_SHADOW => 64
  | .FAB_ROUTE => 128
  | .FAB_ROUTE_SHADOW => 128
  | .FAB_REGION => 128
  | .FAB_REGION_SHADOW => 128
  | .FAB_RXQ_CFG => 128
  | .FAB_RXQ_PTR => 64
  | .FAB_EVT_CNT => 32
  | .WIN_PORT_CFG => 32
  | .WIN_PORT_CFG_SHADOW => 32
  | .WIN_PORT_STAT => 64
  | .WIN_LANE_STAT => 64
  | .WIN_FF_CFG => 32
  | .WIN_PORT_CTRL => 32
  | .WIN_LOSS_STAT => 32
  | .WIN_EVT_CNT => 32
  | .COL_POOL => 64
  | .COL_DEFAULTS => 64
  | .COL_DEFAULTS_SHADOW => 64
  | .COL_SESSION_STAT => 64
  | .COL_ENGINE => 64
  | .PWR_CAP => 32
  | .PWR_CAP_SHADOW => 32
  | .PWR_LAMP_CFG => 32
  | .PWR_LAMP_CFG_SHADOW => 32
  | .PWR_STAT => 64
  | .PWR_FEED_STAT => 64
  | .THM_TEMP => 32
  | .THM_STOP_STAT => 64
  | .THM_STOP_SAVE => 64
  | .HUB_RESET_CTRL => 32
  | .HUB_RESET_STAT => 64
  | .HUB_PROGRESS => 64
  | .HUB_CTX_REPLAY => 64
  | .HUB_SUSPECT => 32
  | .HUB_ENGINE_GATE => 32
  | .HUB_DUMP_ADDR => 64
  | .HUB_DUMP_CTRL => 32
  | .HUB_DUMP_STAT => 64
  | .FAB_HELLO_STAT => 64
  | .SEC_JOB_CTRL => 64
  | .SEC_JOB_STAT => 64
  | .SEC_CFG_DIGEST => 64
  | .SEC_NOTICE_SUBMIT => 64
  | .SEC_EXCL_STAT => 64
  | .FAB_REFLECT_STAT => 64
  | .FAB_REFLECT_GEN => 64
  | .FAB_REFLECT_COPIED => 64
  | .TEL_MON_CFG => 128
  | .TEL_MON_CFG_SHADOW => 128
  | .TEL_MON_STAT => 64
  | .TEL_MON_MINMAX => 64
  | .TEL_MON_SUM => 64
  | .TEL_MON_HIST => 32
  | .TEL_LOG_STAT => 64
  | .TEL_LOG_SEL => 32
  | .SEC_ROLLBACK_CTRL => 32
  | .SEC_FW_STAT => 32
  | .CTX => 2048
  | .CTX_SHADOW => 2048
  | .TEL_LOG_DATA => 64
  | .HUB_DEVICE_TIME_HI => 32

/-- Every register name, in table order. -/
def RegName.all : List RegName :=
  [RegName.HUB_D2D_BUNDLE_STAT, RegName.HUB_BOOT_STATUS, RegName.HUB_ARRAY_CLK, RegName.HUB_DEVICE_TIME, RegName.HUB_CALENDAR, RegName.HUB_CALENDAR_SET, RegName.QD_ARRAY_STAT, RegName.QD_ARRAY_CNT, RegName.QD_SR_SEED, RegName.QD_SR_CTR, RegName.QD_CVT_EVT, RegName.HUB_GRAPH_STORE] ++
  [RegName.HUB_GRAPH_STAT, RegName.QD_SEQ_STAT, RegName.MEM_MAP, RegName.MEM_MAP_SHADOW, RegName.MEM_CH_STAT, RegName.MEM_CH_CFG, RegName.MEM_REPAIR_CFG, RegName.HUB_BAR4_BASE, RegName.HUB_Q_BASE, RegName.HUB_CQ_BASE, RegName.HUB_Q_CFG, RegName.HUB_Q_STAT] ++
  [RegName.HUB_Q_CTRL, RegName.HUB_EARLY_DOORBELLS, RegName.HUB_CQ_CFG, RegName.HUB_CQ_STAT, RegName.HUB_PART_MAP, RegName.HUB_PART_MAP_SHADOW, RegName.HUB_CFG_EPOCH, RegName.HUB_CFG_STATUS, RegName.HUB_CFG_CTRL, RegName.HUB_SETUP_LOCK, RegName.FAB_NODE_ID, RegName.FAB_CFG] ++
  [RegName.FAB_BOARD, RegName.FAB_BOARD_SHADOW, RegName.FAB_ROUTE, RegName.FAB_ROUTE_SHADOW, RegName.FAB_REGION, RegName.FAB_REGION_SHADOW, RegName.FAB_RXQ_CFG, RegName.FAB_RXQ_PTR, RegName.FAB_EVT_CNT, RegName.WIN_PORT_CFG, RegName.WIN_PORT_CFG_SHADOW, RegName.WIN_PORT_STAT] ++
  [RegName.WIN_LANE_STAT, RegName.WIN_FF_CFG, RegName.WIN_PORT_CTRL, RegName.WIN_LOSS_STAT, RegName.WIN_EVT_CNT, RegName.COL_POOL, RegName.COL_DEFAULTS, RegName.COL_DEFAULTS_SHADOW, RegName.COL_SESSION_STAT, RegName.COL_ENGINE, RegName.PWR_CAP, RegName.PWR_CAP_SHADOW] ++
  [RegName.PWR_LAMP_CFG, RegName.PWR_LAMP_CFG_SHADOW, RegName.PWR_STAT, RegName.PWR_FEED_STAT, RegName.THM_TEMP, RegName.THM_STOP_STAT, RegName.THM_STOP_SAVE, RegName.HUB_RESET_CTRL, RegName.HUB_RESET_STAT, RegName.HUB_PROGRESS, RegName.HUB_CTX_REPLAY, RegName.HUB_SUSPECT] ++
  [RegName.HUB_ENGINE_GATE, RegName.HUB_DUMP_ADDR, RegName.HUB_DUMP_CTRL, RegName.HUB_DUMP_STAT, RegName.FAB_HELLO_STAT, RegName.SEC_JOB_CTRL, RegName.SEC_JOB_STAT, RegName.SEC_CFG_DIGEST, RegName.SEC_NOTICE_SUBMIT, RegName.SEC_EXCL_STAT, RegName.FAB_REFLECT_STAT, RegName.FAB_REFLECT_GEN] ++
  [RegName.FAB_REFLECT_COPIED, RegName.TEL_MON_CFG, RegName.TEL_MON_CFG_SHADOW, RegName.TEL_MON_STAT, RegName.TEL_MON_MINMAX, RegName.TEL_MON_SUM, RegName.TEL_MON_HIST, RegName.TEL_LOG_STAT, RegName.TEL_LOG_SEL, RegName.SEC_ROLLBACK_CTRL, RegName.SEC_FW_STAT, RegName.CTX] ++
  [RegName.CTX_SHADOW, RegName.TEL_LOG_DATA, RegName.HUB_DEVICE_TIME_HI]

/-- Every field that a chip reset keeps (Table 12.2 and the tables of the owning chapters). -/
def keptFields : List Fld := RegName.all.flatMap fun r => r.fields.filter (·.keep)

/-- The codes of the fields that a chip reset keeps. -/
def keptCodes : List Nat := keptFields.map (·.code)

end Sys2Proof.Machine
end

