-- ==== Sys2Proof/Machine/Types.lean ====
section
/-! DEFINITION. The data that commands carry and units exchange: status codes, packets, control messages, notices,
bring-up results, sensor readings. Plain data; each docstring names the table or rule of the manual it follows. -/

namespace Sys2Proof.Machine

/-- The device-wide status codes (Table 0.5, R17). -/
inductive Status where
  | ok | okCorrected | eKey | eNotExported | eBounds | eExcluded | eResetting | eEpoch | eStale | eOutcomeUnknown
  | ePoison | eUncorrectable | eAborted | eAbortTooLate | ePeerLost | eTimeout | eProtocol | eFormat
  | eThermalStop | ePowerStop | eCoolantStop | eConfigPartial
  deriving DecidableEq, Repr

/-- The 8-bit code of a status (Table 0.5). -/
def Status.code : Status → Nat
  | .ok => 0x00 | .okCorrected => 0x01 | .eKey => 0x10 | .eNotExported => 0x11 | .eBounds => 0x12 | .eExcluded => 0x13
  | .eResetting => 0x20 | .eEpoch => 0x21 | .eStale => 0x22 | .eOutcomeUnknown => 0x23 | .ePoison => 0x30
  | .eUncorrectable => 0x31 | .eAborted => 0x40 | .eAbortTooLate => 0x41 | .ePeerLost => 0x42 | .eTimeout => 0x43
  | .eProtocol => 0x50 | .eFormat => 0x51 | .eThermalStop => 0x60 | .ePowerStop => 0x61 | .eCoolantStop => 0x62
  | .eConfigPartial => 0x70

/-- Every status, in the order of Table 0.5. -/
def Status.all : List Status :=
  [.ok, .okCorrected, .eKey, .eNotExported, .eBounds, .eExcluded, .eResetting, .eEpoch, .eStale, .eOutcomeUnknown,
   .ePoison, .eUncorrectable, .eAborted, .eAbortTooLate, .ePeerLost, .eTimeout, .eProtocol, .eFormat,
   .eThermalStop, .ePowerStop, .eCoolantStop, .eConfigPartial]

/-- The status a code names; none for a reserved code (R17). -/
def Status.ofCode (c : Nat) : Option Status := Status.all.find? fun s => s.code == c

/-- OK or OK_CORRECTED: the success class. -/
def Status.good (s : Status) : Bool := s == .ok || s == .okCorrected

/-- The two feeds (R305). -/
inductive Feed where | A | B
  deriving DecidableEq, Repr

/-- Why the hub judges a die-to-die lane failed (R22). -/
inductive LaneFailCause where | crcErrors | eyeWidth | training
  deriving DecidableEq, Repr

/-- Calendar time: valid flag, 48-bit seconds, 15-bit fraction (R50). -/
structure Calendar where
  valid : Bool := false
  seconds : Nat := 0
  fraction : Nat := 0
  deriving DecidableEq, Repr

/-- What step 2 reads from outside: slot pins, the VBAT-backed counter and whether VBAT held (R50, R420),
and whether the epoch's flash write succeeds (R348). -/
structure IslandRead where
  slot : Fin 8
  vbatOk : Bool
  calendar : Calendar
  flashOk : Bool
  deriving DecidableEq, Repr

/-- What a position answers at step 6 (Table 1.5). -/
structure DieRead where
  strap : Nat
  present : Bool
  kind : Nat
  setId : Nat
  serial : Nat
  deriving DecidableEq, Repr

/-- The readings of the identity checks (Table 1.5): nine dies in the order C0..C3, H, W0..W3 and sixteen stack serials
(none: no serial within 2 ms). -/
structure IdentityRead where
  dies : List DieRead
  stackSerials : List (Option Nat)
  deriving DecidableEq, Repr

/-- Bundles that trained fewer than 66 lanes, each with the lanes that failed. -/
abbrev ShortLanes := List (Nat × List Nat)

/-- The result a bring-up step reports when it completes (Table 1.8, Table 1.10b). -/
inductive StepResult where
  /-- step 2 -/
  | island (r : IslandRead)
  /-- step 3 -/
  | hubRail
  /-- step 4: whether checks 1 and 2 of R406 passed -/
  | image (keyOk sigOk : Bool)
  /-- step 5 -/
  | mainRails
  /-- step 6 -/
  | identity (r : IdentityRead)
  /-- step 7: bundles that did not train all 66 lanes, with the lanes that failed -/
  | d2d (short : ShortLanes)
  /-- step 8 -/
  | hostPort (fast : Bool) (usable : List Nat)
  /-- step 9: position strap code of a die whose SRAM is beyond repair -/
  | selfTest (bad : Option Nat) (adderBad : List Nat)
  /-- step 10: ports whose rings fail calibration -/
  | ringCal (bad : List Nat)
  /-- step 11: stacks that fail training; physical channels that are not usable; lanes that fail training, with their channels -/
  | dram (badStacks : List Nat) (badChannels : List Nat) (badLanes : List (Nat × Nat))
  deriving DecidableEq, Repr

/-- What a sector of a read shows (R158, R159). -/
inductive EccFind where
  | clean
  | corrected (lane : Nat)
  | uncorrectable
  deriving DecidableEq, Repr

/-- What an accumulator entry shows when read (R68). -/
inductive AccEcc where | clean | single | double
  deriving DecidableEq, Repr

/-- Work of a unit: a dispatched descriptor of a queue, or a graph node instance (R141, R199). -/
inductive Work where
  | desc (queue index : Nat)
  | node (graph nodeIx iter : Nat)
  deriving DecidableEq, Repr

/-- Fabric packet: the 40-byte header of Table 8.6a and the data that follows. rsv: some reserved bit or field is set. -/
structure Packet where
  kind : Nat
  retrans : Bool := false
  poison : Bool := false
  ordered : Bool := false
  opn : Bool := false
  rsv : Bool := false
  tag : Nat := 0
  dst : Node := 0
  afnFn : Nat := 0
  afnWide : Bool := false
  afnSigned : Bool := false
  src : Node := 0
  status : Nat := 0
  dstEpoch : Nat := 0
  srcEpoch : Nat := 0
  fseq : Nat := 0
  aseq : Nat := 0
  length : Nat := 0
  key : Nat := 0
  offset : Nat := 0
  data : List Byte := []
  deriving DecidableEq, Repr

/-- Collective packet header of Table 10.5 and its data; a JOIN's data is the sender's digest (R373). -/
structure ColPacket where
  kind : Nat
  retrans : Bool := false
  down : Bool := false
  tree : Nat := 0
  poison : Bool := false
  rsv : Bool := false
  session : Nat := 0
  fmtCause : Nat := 0
  dst : Node := 0
  op : Nat := 0
  src : Node := 0
  dstEpoch : Nat := 0
  srcEpoch : Nat := 0
  generation : Nat := 0
  run : Nat := 0
  seq : Nat := 0
  piece : Nat := 0
  length : Nat := 0
  key : Nat := 0
  count : Nat := 0
  ack : Nat := 0
  limit : Nat := 0
  chunkKib : Nat := 0
  data : List Byte := []
  deriving DecidableEq, Repr

/-- HELLO body (Table 13.1). -/
structure Hello where
  version : Nat := 1
  rsv : Bool := false
  resetting : Bool := false
  shutter : Bool := false
  job : Bool := false
  ack : Bool := false
  switch : Bool := false
  unassigned : Bool := false
  fwMajor : Nat := 0
  fwMinor : Nat := 0
  stepping : Nat := 0
  node : Node := 0
  seen : Nat := 0xFFFFFF
  epoch : Nat := 0
  port : Nat := 0
  setId : Nat := 0
  exclGen : Nat := 0
  digest : Nat := 0
  calendar : Calendar := {}
  deriving DecidableEq, Repr

/-- ENDPOINT_NOTICE kinds (Table 12.7). -/
inductive NoticeKind where | resetting | ready | stopping | powerCycling
  deriving DecidableEq, Repr

/-- ENDPOINT_NOTICE body (Table 12.7). -/
structure EndNotice where
  kind : NoticeKind
  node : Node
  epoch : Nat
  prevEpoch : Nat := 0
  cause : Nat := 0
  expectMs : Nat := 0
  time : Nat := 0
  deriving DecidableEq, Repr

/-- A fragment of a signed notice (Table 13.10): rsv says that a reserved byte is set. -/
structure NoticeFrag where
  generation : Nat
  index : Nat
  count : Nat
  rsv : Bool := false
  data : List Byte
  deriving DecidableEq, Repr

/-- A lane map (Table 9.6 LANE_MAP): one entry per wavelength 0..17, 0..15 logical lane, 0xFE spare, 0xFF out. -/
abbrev LaneMap := List Nat

/-- Link control messages a port sends (Table 9.6). -/
inductive CtlMsg where
  | laneMap (gen : Nat) (entries : LaneMap)
  | laneFault (wavelength cause laneId : Nat)
  | fecMode (long : Bool)
  | launchPower (values : List Int)
  | drain (reason duration : Nat)
  | hello (h : Hello)
  | endpointNotice (n : EndNotice)
  | signedNotice (f : NoticeFrag)
  | retrain
  deriving DecidableEq, Repr

/-- Flit types (Table 9.4). -/
inductive FlitType where | data | idle | linkControl | reserved
  deriving DecidableEq, Repr

/-- Link flit (Table 9.4); crcOk is the verdict of its CRC-64 (R255). badCtl: a control message of reserved type or past byte 247. -/
structure Flit where
  typ : FlitType
  nak : Bool := false
  pause : Bool := false
  keeper : Bool := false
  rsvFlag : Bool := false
  seq : Nat := 0
  ack : Nat := 0
  first : Nat := 0xFF
  badCtl : Bool := false
  payload : List Byte := []
  crcOk : Bool := true
  /-- its rows carry the generation parity this end has proposed (R252, R261) -/
  newMap : Bool := false
  /-- wavelengths on which the decoder corrected a codeword (R253) -/
  corrected : List Nat := []
  deriving DecidableEq, Repr

/-- Lane fault causes (Table 9.7). -/
inductive LaneFault where
  | uncorrectable | errorRate | noCodewords | rxAlias | txAlias | badId | lowPower
  deriving DecidableEq, Repr

/-- The code of a lane fault cause (Table 9.7). -/
def LaneFault.code : LaneFault → Nat
  | .uncorrectable => 1 | .errorRate => 2 | .noCodewords => 3 | .rxAlias => 4 | .txAlias => 5 | .badId => 6 | .lowPower => 7

/-- Optical monitor readings of one port in 0.01 dBm (Table 9.8, R266). -/
structure OptRead where
  laser : Int := 0
  splitter : Int := 0
  bank : List Int := []
  drop : List Int := []
  deriving DecidableEq, Repr

/-- What a port training step reports (Table 9.10). -/
structure TrainRead where
  /-- wavelengths usable after the step -/
  usable : List Nat := []
  partnerLight : Bool := true
  rttNs : Nat := 0
  partnerLong : Bool := false
  monitors : OptRead := {}
  deriving DecidableEq, Repr

/-- Where a margin is measured (Table 14.7). -/
inductive MarginKind where
  | dramV | dramT | d2dEye | optRx | heater | laserTrend | coreSlack
  deriving DecidableEq, Repr

/-- The kind code of a margin (Table 14.7). -/
def MarginKind.code : MarginKind → Nat
  | .dramV => 1 | .dramT => 2 | .d2dEye => 3 | .optRx => 4 | .heater => 5 | .laserTrend => 6 | .coreSlack => 7

/-- Whether a kind measures at this unit and sub-index (Table 14.7). -/
def marginHas (kind : MarginKind) (unit sub : Nat) : Bool :=
  match kind with
  | .dramV => decide (unit < 544) && decide (sub < 296)
  | .dramT => decide (unit < 544) && decide (sub < 296)
  | .d2dEye => decide (unit < 400) && decide (sub < 66)
  | .optRx => decide (unit < 1170) && sub == 0
  | .heater => decide (unit < 2340) && sub == 0
  | .laserTrend => decide (unit < 16) && sub == 0
  | .coreSlack => decide (unit < 9) && sub == 0

/-- The items the tray controller reads over PLDM (Table 14.13). -/
inductive PldmItem where
  | bootStatus | temperature (i : Nat) | feedVolts (f : Feed) | powerMeas | powerEst
  deriving DecidableEq, Repr

/-- The two transports of the SPDM responder (R410). -/
inductive Transport where | i3c | doe
  deriving DecidableEq, Repr

/-- PLDM events (Table 14.13). -/
inductive PldmEvent where
  | hostDark | laserInput (window input : Nat) | coolingAnomaly | coolant | stop | dupNode (port : Nat) | conflict
  | resetStart (epoch cause : Nat) | resetDone (old new : Nat) | reflectLost | monitorAlarm (u : Nat) (v : Int)
  | marginFloor (kind unit sub : Nat) | portCalFail (port : Nat)
  deriving DecidableEq, Repr

/-- The SPDM requests the responder supports (R410). -/
inductive SpdmReq where
  | getVersion | getCapabilities | negotiateAlgorithms | getDigests | getCertificate | challenge | getMeasurements
  | keyExchange | finish | heartbeat | keyUpdate | endSession
  deriving DecidableEq, Repr

/-- One access through BAR0 or BAR2 (R189, R197): function, byte offset within the register or page, size in bytes, value. -/
structure BarAcc where
  fn : Fin 16 := 0
  off : Nat := 0
  size : Nat := 8
  value : BitVec 64
  deriving DecidableEq, Repr

/-- A memory access: a read of n bytes or a write of bytes. -/
inductive MemOp where
  | read (n : Nat)
  | write (data : List Byte)
  deriving DecidableEq, Repr

/-- What a stage of the chip reset sequence reports (Table 1.11). -/
inductive StageResult where
  /-- image re-verification: the digest agrees with measurement 2; the epoch's flash write succeeds -/
  | image (same flashOk : Bool)
  | identity (r : IdentityRead)
  | d2d (short : ShortLanes)
  /-- stack self-refresh exit: sectors, by media location / 64, whose dirty cache line fails its check -/
  | refreshExit (bad : List Nat)
  | sram
  deriving DecidableEq, Repr

/-- What leaves the device: host writes and messages, answers to reads, packets, control messages, management. -/
inductive Out where
  /-- a posted write to host memory (R201) -/
  | hostWrite (addr : Nat) (bytes : List Byte)
  /-- a read request to host memory: descriptor fetch (R199) -/
  | hostRead (queue : Nat) (addr : Nat) (bytes : Nat)
  /-- an MSI-X message of a function's vector (R204) -/
  | msix (function vector : Nat)
  /-- the data a register or BAR read returns; ep: the EP bit (R190) -/
  | readData (function : Nat) (value : Nat) (ep : Bool)
  | unsupportedRequest
  | packet (port : Nat) (p : Packet)
  | colPacket (port : Nat) (p : ColPacket)
  | ctl (port : Nat) (m : CtlMsg)
  /-- a link-layer NAK owed in the port's next flit (R256) -/
  | linkNak (port seq : Nat)
  /-- flits replayed by a port from a sequence number (R256) -/
  | replay (port seq : Nat)
  | pldm (e : PldmEvent)
  | pldmValue (v : Int)
  /-- the boot status: the image of HUB_BOOT_STATUS and every recorded failure, cause and unit (R31) -/
  | pldmBoot (image : Nat) (failures : List (Nat × Nat))
  | pldmRefused
  | spdm (t : Transport) (r : SpdmReq) (body : List Nat)
  | spdmError (t : Transport)
  /-- the end of an access through the board window or at a memory controller: status, bytes read, whether they are poisoned (R156,
  R222, R223) -/
  | accessEnd (st : Status) (bytes : List Byte) (bad : Bool)
  /-- a section of a crash dump written to host memory: its unit, flags, offset in the dump, bytes and the time its read began (R362,
  Table 12.18) -/
  | dumpSection (unit flags offset length time : Nat)
  deriving DecidableEq, Repr

end Sys2Proof.Machine
end

