-- ==== Sys2Proof/Syntax.lean ====
section
/-! DEFINITION. The commands: one constructor per row of the manual's table of operations and events, with the operands that
the row's rule names. Each docstring names the rule. -/

namespace Sys2Proof

open Sys2Proof.Machine

/-- The commands of the GD9. -/
inductive Instr where
  /-- REGISTER_WRITE (R12). -/
  | registerWrite (r : RegName) (i : Nat) (w : BarAcc)
  /-- SETUP_LOCK_WRITE (R14). -/
  | setupLockWrite (w : BarAcc)
  /-- D2D_FLIT_RECEIVE (R21). -/
  | d2dFlitReceive (b : Fin 400) (payload : BitVec 1024) (crcOk : Bool) (lane : Fin 66)
  /-- D2D_LANE_FAIL (R22). -/
  | d2dLaneFail (b : Fin 400) (lane : Fin 66) (cause : LaneFailCause)
  /-- BUNDLE_CHANGE_END (R26). -/
  | bundleChangeEnd (b : Fin 400)
  /-- FEED_QUALIFIED (R427). -/
  | feedQualified (f : Feed) (va : Fin 8192) (vb : Fin 8192)
  /-- FEED_UNDERVOLT_HOLD (R37). -/
  | feedUndervoltHold (r : IslandRead) (va : Fin 8192) (vb : Fin 8192)
  /-- BRINGUP_STEP_DONE (R34). -/
  | bringupStepDone (r : StepResult)
  /-- BRINGUP_STEP_TIMEOUT (R37). -/
  | bringupStepTimeout (step : Fin 12) (rail : Fin 7)
  /-- HOST_TRAIN_RETRY (R37). -/
  | hostTrainRetry (trained : Bool) (fast : Bool) (usable : List Nat)
  /-- BRINGUP_FEED_LOSS (R40). -/
  | bringupFeedLoss
  /-- LATCH_RELEASE (R427). -/
  | latchRelease
  /-- ARRAY_CLK_CEILING_WRITE (R46). -/
  | arrayClkCeilingWrite (c : Fin 4) (w : BarAcc)
  /-- ARRAY_CLOCK_STEP (R311). -/
  | arrayClockStep (c : Fin 4) (up : Bool)
  /-- DEVICE_TIME_LOW_READ (R49). -/
  | deviceTimeLowRead (fn : Fin 16)
  /-- CALENDAR_SET_WRITE (R51). -/
  | calendarSetWrite (w : BarAcc)
  /-- PLDM_CALENDAR_SET (R51). -/
  | pldmCalendarSet (seconds : BitVec 48) (fraction : BitVec 15)
  /-- CALENDAR_SET_APPLY (R51). -/
  | calendarSetApply
  /-- BEAT_ADMIT (R70). -/
  | beatAdmit (a : Fin 1024) (fed : Bool)
  /-- COLUMN_COMPLETE (R62). -/
  | columnComplete (a : Fin 1024) (bank : Fin 32) (ecc : AccEcc)
  /-- SLOAD_ROW_WRITE (R63). -/
  | sloadRowWrite (a : Fin 1024)
  /-- DRAIN_ENTRY_READ (R66). -/
  | drainEntryRead (a : Fin 1024) (credit : Bool) (bank : Fin 32) (ecc : AccEcc)
  /-- ACC_INIT_ENTRY (R65). -/
  | accInitEntry (a : Fin 1024)
  /-- SR_SEED_WRITE (R109). -/
  | srSeedWrite (q : Fin 16) (w : BarAcc)
  /-- SR_CTR_WRITE (R109). -/
  | srCtrWrite (q : Fin 16) (w : BarAcc)
  /-- PROGRAM_LAUNCH (R120). -/
  | programLaunch (q : Fin 16)
  /-- PROGRAM_END (R121). -/
  | programEnd (q : Fin 16)
  /-- NOP (R123). -/
  | nop (q : Fin 16)
  /-- END (R121). -/
  | endProgram (q : Fin 16)
  /-- BR (R129). -/
  | br (q : Fin 16)
  /-- LOOP (R130). -/
  | loop (q : Fin 16)
  /-- SLOAD (R125). -/
  | sload (q : Fin 16)
  /-- WSTREAM (R126). -/
  | wstream (q : Fin 16)
  /-- ACC_INIT (R127). -/
  | accInit (q : Fin 16)
  /-- ACC_DRAIN (R127). -/
  | accDrain (q : Fin 16)
  /-- VLOAD (R136). -/
  | vload (q : Fin 16)
  /-- VSTORE (R136). -/
  | vstore (q : Fin 16)
  /-- VOP (R136). -/
  | vop (q : Fin 16)
  /-- VRED (R136). -/
  | vred (q : Fin 16)
  /-- VTOPK (R137). -/
  | vtopk (q : Fin 16)
  /-- QCOPY (R128). -/
  | qcopy (q : Fin 16)
  /-- QCOPY_COMPLETE (R128). -/
  | qcopyComplete (q : Fin 16)
  /-- WAIT_OBJ (R135). -/
  | waitObj (q : Fin 16)
  /-- WAIT_OBJ_WAKE (R135). -/
  | waitObjWake (q : Fin 16)
  /-- WAIT_TIMEOUT (R135). -/
  | waitTimeout (q : Fin 16)
  /-- WAIT_EV (R133). -/
  | waitEv (q : Fin 16)
  /-- SIGNAL_SET (R134). -/
  | signalSet (q : Fin 16)
  /-- SIGNAL_ADD (R134). -/
  | signalAdd (q : Fin 16)
  /-- ALU (R129). -/
  | alu (q : Fin 16)
  /-- ALUI (R129). -/
  | alui (q : Fin 16)
  /-- LI (R129). -/
  | li (q : Fin 16)
  /-- LD (R129). -/
  | ld (q : Fin 16)
  /-- ST (R129). -/
  | st (q : Fin 16)
  /-- MOVLC (R130). -/
  | movlc (q : Fin 16)
  /-- LAMP (R131). -/
  | lamp (q : Fin 16)
  /-- GRAPH_STORE_BASE_WRITE (R139). -/
  | graphStoreBaseWrite (w : BarAcc)
  /-- GRAPH_NODE_READY (R141). -/
  | graphNodeReady (g : Fin 64) (node : Fin 1024)
  /-- GRAPH_NODE_COMPLETE (R141). -/
  | graphNodeComplete (g : Fin 64) (node : Fin 1024)
  /-- MEM_ACCESS (R156). -/
  | memAccess (addr : BitVec 48) (op : MemOp) (finds : List (Nat × EccFind))
  /-- PARITY_HOLD_EXPIRE (R154). -/
  | parityHoldExpire (stack : Fin 16) (group : Fin 2) (burst : Fin 1179648)
  /-- PATROL_SCRUB (R161). -/
  | patrolScrub (i : Fin 544) (finds : List (Nat × EccFind))
  /-- DRAM_LANE_DEGRADED (R163). -/
  | dramLaneDegraded (i : Fin 544) (lane : Fin 296) (margin : Bool)
  /-- SLICE_WINDOW (R179). -/
  | sliceWindow (ends : List (Nat × Bool))
  /-- RETRAIN_PERIOD_EXPIRE (R178). -/
  | retrainPeriodExpire (i : Fin 544)
  /-- CHANNEL_RETRAIN_REQ (R178). -/
  | channelRetrainReq (i : Fin 544) (w : BarAcc)
  /-- EVACUATE_REQ (R164). -/
  | evacuateReq (i : Fin 544) (w : BarAcc)
  /-- EVACUATION_STEP (R164). -/
  | evacuationStep (s : Fin 16) (finds : List (Nat × EccFind))
  /-- CHANNEL_LOST (R166). -/
  | channelLost (i : Fin 544) (silent : Bool)
  /-- REBUILD_LINE (R170). -/
  | rebuildLine (s : Fin 16)
  /-- ROW_REMAP_DONE (R174). -/
  | rowRemapDone (i : Fin 544)
  /-- REMAP_LIST_WRITE (R177). -/
  | remapListWrite
  /-- ENTRY_ZERO_FILL_DONE (R149). -/
  | entryZeroFillDone (i : Fin 4096)
  /-- PCIE_DL_DOWN (R187). -/
  | pcieDlDown
  /-- FUNCTION_LEVEL_RESET (R187). -/
  | functionLevelReset (fn : Fin 16)
  /-- BAR4_ACCESS (R190). -/
  | bar4Access (off : BitVec 48) (op : MemOp)
  /-- SYNC_OBJECT_WRITE (R195). -/
  | syncObjectWrite (fn : Fin 16) (obj : Fin 262144) (size : Nat) (v : BitVec 64)
  /-- QUEUE_ENABLE (R196). -/
  | queueEnable (n : Fin 65536) (w : BarAcc)
  /-- QUEUE_DISABLE (R196). -/
  | queueDisable (n : Fin 65536) (w : BarAcc)
  /-- QUEUE_RESUME (R202). -/
  | queueResume (n : Fin 65536) (w : BarAcc)
  /-- QUEUE_SET_HEAD (R202). -/
  | queueSetHead (n : Fin 65536) (w : BarAcc)
  /-- CQ_ENABLE (R428). -/
  | cqEnable (n : Fin 65536) (w : BarAcc)
  /-- CQ_DISABLE (R428). -/
  | cqDisable (n : Fin 65536) (w : BarAcc)
  /-- DOORBELL (R197). -/
  | doorbell (n : Fin 65536) (w : BarAcc)
  /-- CQ_HEAD_WRITE (R203). -/
  | cqHeadWrite (n : Fin 65536) (w : BarAcc)
  /-- DESCRIPTOR_FETCH (R199). -/
  | descriptorFetch
  /-- DESCRIPTOR_READ_DONE (R199). -/
  | descriptorReadDone (n : Fin 65536) (data : Option (List Byte))
  /-- DESCRIPTOR_DISPATCH (R199). -/
  | descriptorDispatch (n : Fin 65536)
  /-- DESCRIPTOR_COMPLETE (R201). -/
  | descriptorComplete (n : Fin 65536) (idx : Fin 65536)
  /-- CQ_STALL_TIMEOUT (R203). -/
  | cqStallTimeout (n : Fin 65536)
  /-- INTERRUPT_MODERATION_EXPIRE (R204). -/
  | interruptModerationExpire (n : Fin 65536)
  /-- RECORD_HINT_EXPIRE (R204). -/
  | recordHintExpire (n : Fin 65536)
  /-- EXEC_PROGRAM (R118). -/
  | execProgram (work : Work)
  /-- EXEC_GRAPH (R140). -/
  | execGraph (work : Work)
  /-- COPY (R206). -/
  | copy (work : Work) (hostData : List Byte)
  /-- FILL (R206). -/
  | fill (work : Work)
  /-- SYNC_SIGNAL (R195). -/
  | syncSignal (work : Work)
  /-- SYNC_WAIT (R205). -/
  | syncWait (work : Work)
  /-- SYNC_WAIT_TIMEOUT (R205). -/
  | syncWaitTimeout (work : Work)
  /-- POWER_HINT (R315). -/
  | powerHint (work : Work)
  /-- CONFIG_COMMIT (R213). -/
  | configCommit (work : Work)
  /-- COMMIT_UNIT_SWITCHED (R213). -/
  | commitUnitSwitched
  /-- COMMIT_LIMIT_MISSED (R214). -/
  | commitLimitMissed
  /-- CONFIG_REVERT (R216). -/
  | configRevert (work : Work)
  /-- EXPECT_DARK (R272). -/
  | expectDark (work : Work)
  /-- ABORT (R207). -/
  | abort (work : Work)
  /-- DUMP (R360). -/
  | dump (work : Work)
  /-- NODE_ID_WRITE (R220). -/
  | nodeIdWrite (w : BarAcc)
  /-- FABRIC_ENABLE (R219). -/
  | fabricEnable (w : BarAcc)
  /-- BOARD_WINDOW_ACCESS (R222). -/
  | boardWindowAccess (addr : BitVec 48) (op : MemOp)
  /-- FABRIC_READ (R225). -/
  | fabricRead (work : Work)
  /-- FABRIC_WRITE (R225). -/
  | fabricWrite (work : Work) (hostData : List Byte)
  /-- FABRIC_WRITE_POSTED (R225). -/
  | fabricWritePosted (work : Work) (hostData : List Byte)
  /-- FABRIC_ATOMIC (R224). -/
  | fabricAtomic (work : Work) (hostData : List Byte)
  /-- FABRIC_SEND (R239). -/
  | fabricSend (work : Work) (hostData : List Byte)
  /-- FABRIC_FENCE (R226). -/
  | fabricFence (work : Work)
  /-- FABRIC_REQUEST_ISSUE (R231). -/
  | fabricRequestIssue (dst : Fin 1048576)
  /-- READ_REQUEST (R236). -/
  | readRequest (port : Fin 64) (p : Packet)
  /-- WRITE_REQUEST (R236). -/
  | writeRequest (port : Fin 64) (p : Packet)
  /-- WRITE_POSTED_REQUEST (R236). -/
  | writePostedRequest (port : Fin 64) (p : Packet)
  /-- ATOMIC_REQUEST (R241). -/
  | atomicRequest (port : Fin 64) (p : Packet)
  /-- SEND_REQUEST (R239). -/
  | sendRequest (port : Fin 64) (p : Packet)
  /-- FENCE_REQUEST (R226). -/
  | fenceRequest (port : Fin 64) (p : Packet)
  /-- OPEN_REQUEST (R229). -/
  | openRequest (port : Fin 64) (p : Packet)
  /-- FABRIC_REPLY (R242). -/
  | fabricReply (port : Fin 64) (p : Packet)
  /-- FABRIC_NAK (R232). -/
  | fabricNak (port : Fin 64) (p : Packet)
  /-- FABRIC_RETRANSMIT_TIMEOUT (R232). -/
  | fabricRetransmitTimeout (tag : Fin 16384)
  /-- FABRIC_FINAL_TIMEOUT (R232). -/
  | fabricFinalTimeout (tag : Fin 16384)
  /-- ROUTE_WAIT_TIMEOUT (R234). -/
  | routeWaitTimeout (tag : Fin 16384)
  /-- FLOW_CONTEXT_RECLAIM (R233). -/
  | flowContextReclaim (source : Bool) (node : Fin 1048576)
  /-- FLOW_CONTEXT_FETCH_DONE (R235). -/
  | flowContextFetchDone (source : Bool) (node : Fin 1048576) (poisoned : Bool)
  /-- RESULT_CACHE_SWEEP (R241). -/
  | resultCacheSweep
  /-- RXQ_HEAD_WRITE (R239). -/
  | rxqHeadWrite (n : Fin 1024) (w : BarAcc)
  /-- RXQ_DISABLE (R239). -/
  | rxqDisable (n : Fin 1024) (w : BarAcc)
  /-- SOURCE_VIOLATION_FLOOD (R244). -/
  | sourceViolationFlood (node : Fin 1048576)
  /-- TUNING_LOOP_UPDATE (R249). -/
  | tuningLoopUpdate (ring : Fin 2340) (offset : Int)
  /-- ACTIVITY_INDEX (R250). -/
  | activityIndex (w : Fin 4) (a0 : BitVec 8) (a1 : BitVec 8) (a2 : BitVec 8) (a3 : BitVec 8)
  /-- ACTIVITY_INDEX_ABSENT (R250). -/
  | activityIndexAbsent (w : Fin 4)
  /-- LINK_FLIT_RECEIVE (R256). -/
  | linkFlitReceive (p : Fin 64) (f : Flit)
  /-- LINK_REPLAY_TIMEOUT (R256). -/
  | linkReplayTimeout (p : Fin 64)
  /-- LANE_MAP (R261). -/
  | laneMap (p : Fin 64) (gen : Fin 256) (entries : LaneMap)
  /-- LANE_MAP_TIMEOUT (R261). -/
  | laneMapTimeout (p : Fin 64)
  /-- LANE_FAULT (R260). -/
  | laneFault (p : Fin 64) (wavelength : Fin 18) (cause : LaneFault) (laneId : Fin 256)
  /-- FEC_MODE (R259). -/
  | fecMode (p : Fin 64) (long : Bool)
  /-- LAUNCH_POWER (R266). -/
  | launchPower (p : Fin 64) (values : List Int)
  /-- LAUNCH_POWER_TIMER (R260). -/
  | launchPowerTimer (p : Fin 64)
  /-- DRAIN (R260). -/
  | drain (p : Fin 64) (reason : Fin 3) (duration : BitVec 32)
  /-- RETRAIN (R269). -/
  | retrain (p : Fin 64)
  /-- LANE_FAIL_DETECT (R262). -/
  | laneFailDetect (p : Fin 65) (wavelength : Fin 18) (cause : LaneFault)
  /-- ALIAS_LOCK_DETECT (R264). -/
  | aliasLockDetect (p : Fin 65) (wavelength : Fin 18) (transmit : Bool) (laneId : Fin 256)
  /-- ALIAS_RECOVERY_END (R265). -/
  | aliasRecoveryEnd (p : Fin 65) (wavelength : Fin 18) (ok : Bool)
  /-- LOSS_LOCATION (R267). -/
  | lossLocation (p : Fin 65) (r : OptRead)
  /-- PARTNER_LIGHT_DETECT (R268). -/
  | partnerLightDetect (p : Fin 64)
  /-- TRAINING_STEP_DONE (R268). -/
  | trainingStepDone (p : Fin 64) (r : TrainRead)
  /-- TRAINING_STEP_TIMEOUT (R268). -/
  | trainingStepTimeout (p : Fin 64)
  /-- TRAINING_RETRY_TIMER (R268). -/
  | trainingRetryTimer (p : Fin 64)
  /-- PORT_DOWN (R269). -/
  | portDown (p : Fin 64)
  /-- PORT_RETRAIN_REQ (R269). -/
  | portRetrainReq (p : Fin 65) (w : BarAcc)
  /-- RECAL_REQ (R269). -/
  | recalReq (p : Fin 65) (w : BarAcc)
  /-- RING_CALIBRATION_DONE (R269). -/
  | ringCalibrationDone (p : Fin 65) (ok : Bool)
  /-- PORT_DRAINED (R271). -/
  | portDrained (p : Fin 64)
  /-- DARK_WAIT_TIMEOUT (R273). -/
  | darkWaitTimeout (p : Fin 64)
  /-- LINK_VIOLATION_FLOOD (R278). -/
  | linkViolationFlood (p : Fin 64)
  /-- PORT_HOLD_EXPIRE (R278). -/
  | portHoldExpire (p : Fin 64)
  /-- HOST_LINK_TRAINED (R270). -/
  | hostLinkTrained (fast : Bool) (usable : List Nat)
  /-- COLLECTIVE_SETUP (R284). -/
  | collectiveSetup (work : Work)
  /-- ALL_REDUCE (R286). -/
  | allReduce (work : Work)
  /-- REDUCE (R286). -/
  | reduce (work : Work)
  /-- BROADCAST (R286). -/
  | broadcast (work : Work)
  /-- BARRIER (R286). -/
  | barrier (work : Work)
  /-- TEARDOWN (R285). -/
  | teardown (work : Work)
  /-- COLLECTIVE_RUN_START (R287). -/
  | collectiveRunStart (session : Fin 8)
  /-- JOIN (R284). -/
  | join (port : Fin 64) (p : ColPacket)
  /-- JOIN_TIMER (R284). -/
  | joinTimer (session : Fin 8)
  /-- JOIN_LIMIT_EXPIRE (R284). -/
  | joinLimitExpire (session : Fin 8)
  /-- CHUNK (R293). -/
  | chunk (port : Fin 64) (p : ColPacket) (adder : List (List Nat))
  /-- CREDIT (R291). -/
  | credit (port : Fin 64) (p : ColPacket)
  /-- CREDIT_KEEPALIVE_TIMER (R291). -/
  | creditKeepaliveTimer (session : Fin 8)
  /-- CHUNK_RETRANSMIT_TIMEOUT (R293). -/
  | chunkRetransmitTimeout (session : Fin 8) (neighbour : Fin 1048576)
  /-- ABORT_CHUNK (R300). -/
  | abortChunk (port : Fin 64) (p : ColPacket)
  /-- SESSION_TIMEOUT (R299). -/
  | sessionTimeout (session : Fin 8) (neighbour : Fin 1048576)
  /-- COL_POOL_WRITE (R281). -/
  | colPoolWrite (w : BarAcc)
  /-- FEED_SWITCH (R305). -/
  | feedSwitch (va : Fin 8192) (vb : Fin 8192)
  /-- FEED_SWITCH_BACK (R305). -/
  | feedSwitchBack (va : Fin 8192) (vb : Fin 8192)
  /-- FEED_OVERVOLTAGE (R305). -/
  | feedOvervoltage (f : Feed) (va : Fin 8192) (vb : Fin 8192)
  /-- HOLD_UP (R307). -/
  | holdUp (va : Fin 8192) (vb : Fin 8192)
  /-- HOLD_UP_RAILS_OFF (R307). -/
  | holdUpRailsOff
  /-- RAIL_FAULT (R308). -/
  | railFault (rail : Fin 7)
  /-- HUB_RAIL_FAULT (R308). -/
  | hubRailFault
  /-- POWER_CONTROL_TICK (R313). -/
  | powerControlTick
  /-- POWER_EVALUATION (R318). -/
  | powerEvaluation (measured : Option Nat) (estimated : Nat) (va : Fin 8192) (vb : Fin 8192)
  /-- MEASUREMENT_LOST (R318). -/
  | measurementLost
  /-- CAP_UNREACHABLE (R319). -/
  | capUnreachable
  /-- ESTIMATE_MISMATCH (R321). -/
  | estimateMismatch
  /-- POWER_EXCESS (R321). -/
  | powerExcess
  /-- DIE_DIODE_SAMPLE (R324). -/
  | dieDiodeSample (die : Fin 9) (t : Option Int)
  /-- STACK_SENSOR_SAMPLE (R324). -/
  | stackSensorSample (s : Fin 16) (t : Option Int)
  /-- SENSOR_LOST (R322). -/
  | sensorLost (i : Fin 25)
  /-- STOP_STEP_DONE (R329). -/
  | stopStepDone
  /-- STOP_STEP_LIMIT (R329). -/
  | stopStepLimit
  /-- ANALOGUE_THERM_TRIP (R333). -/
  | analogueThermTrip (c : Fin 4)
  /-- PRE_RAMP_START (R315). -/
  | preRampStart (die : Fin 4)
  /-- PRE_RAMP_HOLD_END (R315). -/
  | preRampHoldEnd (die : Fin 4)
  /-- STOP_RESET_RELEASE (R331). -/
  | stopResetRelease
  /-- CONTEXT_RESET (R343). -/
  | contextReset (w : BarAcc)
  /-- ENGINE_RESET (R344). -/
  | engineReset (w : BarAcc)
  /-- PARTITION_RESET (R345). -/
  | partitionReset (w : BarAcc)
  /-- PARTITION_STAGE_DONE (R345). -/
  | partitionStageDone (c : Fin 4) (short : ShortLanes) (bad : List Nat)
  /-- CHIP_RESET (R346). -/
  | chipReset (w : BarAcc)
  /-- POWER_CYCLE (R355). -/
  | powerCycle (w : BarAcc)
  /-- PLDM_CHIP_RESET (R41). -/
  | pldmChipReset
  /-- PLDM_POWER_CYCLE (R355). -/
  | pldmPowerCycle
  /-- RESET_LIMIT_EXPIRE (R342). -/
  | resetLimitExpire
  /-- CHIP_RESET_TAKEOVER (R346). -/
  | chipResetTakeover
  /-- CHIP_RESET_STAGE_DONE (R42). -/
  | chipResetStageDone (r : StageResult)
  /-- WINDOW_HANDOVER (R347). -/
  | windowHandover
  /-- ENDPOINT_NOTICE_TIMER (R350). -/
  | endpointNoticeTimer
  /-- ENDPOINT_NOTICE (R352). -/
  | endpointNotice (port : Fin 64) (n : EndNotice)
  /-- DUMP_START (R360). -/
  | dumpStart (w : BarAcc)
  /-- DUMP_SECTION_DONE (R362). -/
  | dumpSectionDone (bytes : Nat) (ok : Bool)
  /-- DUMP_UNIT_UNRESPONSIVE (R361). -/
  | dumpUnitUnresponsive
  /-- DUMP_TIME_LIMIT (R363). -/
  | dumpTimeLimit
  /-- HELLO (R366). -/
  | hello (port : Fin 64) (h : Hello)
  /-- HELLO_TIMER (R365). -/
  | helloTimer (port : Fin 64)
  /-- JOB_INSTALL (R372). -/
  | jobInstall (w : BarAcc)
  /-- JOB_CLEAR (R372). -/
  | jobClear (w : BarAcc)
  /-- NOTICE_SUBMIT (R377). -/
  | noticeSubmit (w : BarAcc)
  /-- PLDM_NOTICE (R377). -/
  | pldmNotice (n : List Byte)
  /-- SIGNED_NOTICE (R377). -/
  | signedNotice (port : Fin 64) (f : NoticeFrag)
  /-- FRAGMENT_GAP_TIMEOUT (R377). -/
  | fragmentGapTimeout (port : Fin 64)
  /-- NOTICE_VERIFIED (R375). -/
  | noticeVerified (good : List Nat)
  /-- PENDING_NOTICE_EXPIRE (R376). -/
  | pendingNoticeExpire (generation : BitVec 32)
  /-- BIND (R383). -/
  | bind (work : Work)
  /-- MARK (R386). -/
  | mark (work : Work)
  /-- UNBIND (R392). -/
  | unbind (work : Work)
  /-- RBIND (R384). -/
  | rbind (port : Fin 64) (p : Packet)
  /-- RBIND_TIMER (R384). -/
  | rbindTimer
  /-- BIND_TIMEOUT (R384). -/
  | bindTimeout
  /-- RBURST (R387). -/
  | rburst (port : Fin 64) (p : Packet)
  /-- RMARK (R387). -/
  | rmark (port : Fin 64) (p : Packet)
  /-- RKEEP (R389). -/
  | rkeep (port : Fin 64) (p : Packet)
  /-- RKEEP_TIMER (R384). -/
  | rkeepTimer
  /-- RRESUME (R391). -/
  | rresume (port : Fin 64) (p : Packet)
  /-- REFLECT_BURST_SEND (R385). -/
  | reflectBurstSend
  /-- REFLECT_REPLY (R385). -/
  | reflectReply (port : Fin 64) (p : Packet)
  /-- PARTNER_LOSS_TIMEOUT (R389). -/
  | partnerLossTimeout
  /-- ROLLBACK_DONE (R390). -/
  | rollbackDone
  /-- MONITOR_SAMPLE (R395). -/
  | monitorSample (u : Fin 128) (v : BitVec 32)
  /-- MONITOR_WINDOW_END (R397). -/
  | monitorWindowEnd (u : Fin 128)
  /-- MARGIN_MEASUREMENT (R400). -/
  | marginMeasurement (kind : MarginKind) (unit : Nat) (sub : Nat) (value : Int)
  /-- LOG_FLUSH (R403). -/
  | logFlush
  /-- LOG_SELECT_WRITE (R403). -/
  | logSelectWrite (w : BarAcc)
  /-- PLDM_SENSOR_READ (R405). -/
  | pldmSensorRead (item : PldmItem)
  /-- FW_UPDATE_TRANSFER (R411). -/
  | fwUpdateTransfer (bytes : Nat) (sv : Fin 65) (last : Bool)
  /-- FW_VERIFY (R411). -/
  | fwVerify (keyOk : Bool) (sigOk : Bool)
  /-- ACTIVATE_FIRMWARE (R411). -/
  | activateFirmware
  /-- FIRMWARE_SLOT_SELECT (R411). -/
  | firmwareSlotSelect
  /-- ROLLBACK_ADVANCE (R407). -/
  | rollbackAdvance (v : Nat)
  /-- ROLLBACK_CTRL_WRITE (R407). -/
  | rollbackCtrlWrite (w : BarAcc)
  /-- FUSE_STEP_DONE (R407). -/
  | fuseStepDone
  /-- GET_VERSION (R410). -/
  | getVersion (t : Transport)
  /-- GET_CAPABILITIES (R410). -/
  | getCapabilities (t : Transport)
  /-- NEGOTIATE_ALGORITHMS (R410). -/
  | negotiateAlgorithms (t : Transport)
  /-- GET_DIGESTS (R410). -/
  | getDigests (t : Transport)
  /-- GET_CERTIFICATE (R410). -/
  | getCertificate (t : Transport)
  /-- CHALLENGE (R410). -/
  | challenge (t : Transport)
  /-- GET_MEASUREMENTS (R410). -/
  | getMeasurements (t : Transport)
  /-- KEY_EXCHANGE (R410). -/
  | keyExchange (t : Transport)
  /-- FINISH (R410). -/
  | finish (t : Transport) (session : Nat)
  /-- HEARTBEAT (R410). -/
  | heartbeat (t : Transport) (session : Nat)
  /-- KEY_UPDATE (R410). -/
  | keyUpdate (t : Transport) (session : Nat)
  /-- END_SESSION (R410). -/
  | endSession (t : Transport) (session : Nat)
  /-- COOLANT_FAULT_ASSERT (R334). -/
  | coolantFaultAssert
  /-- COOLANT_FAULT_DEASSERT_HELD (R38). -/
  | coolantFaultDeassertHeld
  /-- ENGINE_RESET_END (R344). -/
  | engineResetEnd
  /-- VECTOR_INSTRUCTION_COMPLETE (R133). -/
  | vectorInstructionComplete (q : Fin 16)
  /-- FLOW_CONTEXT_WAIT_TIMEOUT (R235). -/
  | flowContextWaitTimeout (node : Fin 1048576)
  /-- POISONED_CONTEXT_HOLD_END (R233). -/
  | poisonedContextHoldEnd (node : Fin 1048576)
  /-- VIOLATION_DISCARD_END (R244). -/
  | violationDiscardEnd (node : Fin 1048576)
  /-- D_STATE_CHANGE (R185). -/
  | dStateChange (d3 : Bool)
  /-- VF_ENABLE (R185). -/
  | vfEnable (n : Fin 16)
  deriving DecidableEq, Repr

end Sys2Proof
end

