-- ==== Sys2Proof/Config.lean ====
section
/-! DEFINITION. What the manual leaves to the part or does not state: opaque constants. Nothing in Lean can evaluate one, so a
statement proved here holds whatever their values are. -/

namespace Sys2Proof.Config

/-- The free values: the n-th value that the manual leaves open (log entry 1). -/
opaque freeValue : Nat → BitVec 64

/-- The certificate chain, digests and signatures of the SPDM responder: values fixed at manufacture (R410). -/
opaque spdmValue : Nat → List Nat → Nat

/-- The hash that chooses a port of a route's set for a destination and flow (R234). -/
opaque routeHash : Nat → Nat → Nat

/-- The hash that spreads a session's pieces over the ports of a route (R290). -/
opaque pieceHash : Nat → Nat → Nat

/-- The digest of the active image and of the hub ROM (Table 14.15). -/
opaque imageDigest : Nat → Nat

/-- The kind code that the maker fuses into the die of a position, in the order C0-C3, H, W0-W3 (Table 1.5). -/
opaque dieKind : Nat → Nat

/-- Firmware version and silicon stepping (Table 13.1). -/
opaque fwMajor : Nat
opaque fwMinor : Nat
opaque stepping : Nat

end Sys2Proof.Config
end

