-- ==== Sys2Proof/Machine/Parts.lean ====
section
/-! DEFINITION. The parts of the machine's state that are no register field: one structure per unit of the manual.
Plain data. Times are device time in nanoseconds (R47). -/

namespace Sys2Proof.Machine

/-! ## Package and bring-up (chapter 01) -/

/-- Where the module stands (Tables 1.8, 1.10b; R31, R427). -/
inductive Phase where | off | offLatched | bringup | hold | ready
  deriving DecidableEq, Repr

/-- One failure of the boot record (R28). -/
structure BootFail where
  cause : Nat
  unit : Nat
  deriving DecidableEq, Repr

/-- Bring-up state (R34-R42): steps done, rails on, the waits and retries that meet bring-up. -/
structure Boot where
  phase : Phase := .off
  /-- the always-on island runs -/
  island : Bool := false
  done : List Nat := []
  /-- t0 on the device-time scale, when the island ran at qualification -/
  t0 : Option Int := none
  retryUsed : Bool := false
  coolantWait : Bool := false
  resetPending : Bool := false
  /-- a restart at step 1 whose step 2 advances nothing (R41) -/
  keepEpoch : Bool := false
  /-- device time when bring-up last left its wait for the coolant, as a shift of the later limits (R38) -/
  shift : Nat := 0
  /-- rails on, by the numbers of Table 1.9 -/
  rails : List Nat := []
  w0Rails : Bool := false
  hostTrained : Bool := false
  hostDark : Bool := false
  record : List BootFail := []
  /-- the matched-set values the last identity checks read (R27) -/
  setId : Nat := 0
  deriving DecidableEq, Repr

/-- One die-to-die bundle beside its register (R21-R26): failed lanes; a swap or width change under way; lanes found failed meanwhile
with the time of each. -/
structure Bundle where
  failed : List Nat := []
  changing : Bool := false
  queued : List (Nat × Nat) := []
  /-- lanes found failed while the bundle trains (R26) -/
  found : List Nat := []
  /-- the flit owed by the replay buffer, and the last flit delivered -/
  replay : Option (BitVec 1024) := none
  last : Option (BitVec 1024) := none
  /-- CRC errors: lane and time -/
  errs : List (Nat × Nat) := []
  deriving DecidableEq, Repr

/-! ## Time (chapter 02) -/

/-- Where a calendar set came from (R51). -/
inductive CalSource where | i3c | register
  deriving DecidableEq, Repr

/-- The calendar counter: its value when last read or set, that moment, and the set waiting for the next tick. -/
structure CalState where
  value : Calendar := {}
  at_ : Nat := 0
  pending : Option (Calendar × CalSource) := none
  deriving DecidableEq, Repr

/-! ## Log, monitors, margins, management (chapter 14) -/

/-- Memory event record (Table 6.7). -/
structure MemEvent where
  event : Nat
  stack : Nat
  channel : Nat := 0xFF
  physical : Nat := 0xFF
  bank : Nat := 0xFF
  channel2 : Nat := 0xFF
  first : Nat := 0
  last : Nat := 0
  deriving DecidableEq, Repr

/-- The body of a log record: memory event, margin record or device event (Tables 6.7, 14.8, 14.10). -/
inductive LogBody where
  | mem (e : MemEvent)
  | margin (kind severity unit sub : Nat) (value threshold : Int)
  | event (code unit : Nat) (args : List Nat)
  deriving DecidableEq, Repr

/-- A log entry with its sequence number, time pair and epoch (Table 14.9, R52). -/
structure LogEntry where
  seq : Nat
  time : Nat
  cal : Calendar
  epoch : Nat
  body : LogBody
  deriving DecidableEq, Repr

/-- The error log: staged in the island, oldest first, and the ring in flash, oldest first (R403). -/
structure ErrorLog where
  staged : List LogEntry := []
  flash : List LogEntry := []
  nextSeq : Nat := 1
  deriving DecidableEq, Repr

/-- The accumulators of one monitor unit (R395-R398). -/
structure Mon where
  start : Nat := 0
  /-- probe samples seen since the unit last took one -/
  skipped : Nat := 0
  min : Int := 0x7FFFFFFF
  max : Int := -0x80000000
  count : Nat := 0
  sum : Int := 0
  hist : SMap Nat := []
  saturated : Bool := false
  alarmed : Bool := false
  cut : Bool := false
  deriving DecidableEq, Repr

/-- Severity of a margin: 0 none, 1 below warning, 2 below floor; last record; since when at or above warning (R402). -/
structure Margin where
  severity : Nat := 0
  recorded : Nat := 0
  okSince : Option Nat := none
  deriving DecidableEq, Repr

/-- Where a firmware update stands (R411). -/
inductive FwPhase where | idle | transferring | written | verified
  deriving DecidableEq, Repr

/-- One SPDM transport (R410): how far version, capabilities and algorithms have been agreed, its sessions
(identifier, established), the next session identifier. -/
structure Spdm where
  stage : Nat := 0
  sessions : List (Nat × Bool) := []
  nextId : Nat := 1
  deriving DecidableEq, Repr

/-- The management endpoint and trust state (R404-R413). -/
structure Mgmt where
  /-- the firmware image has been verified (R404) -/
  verified : Bool := false
  events : List PldmEvent := []
  eventDrops : Nat := 0
  fw : FwPhase := .idle
  /-- bytes of the update written so far -/
  fwBytes : Nat := 0
  /-- target of the rollback advance in progress (R407) -/
  advance : Option Nat := none
  /-- measurement index to the content it digests (Table 14.15) -/
  meas : SMap (List Nat) := []
  frozenReads : Nat := 0
  mcu : Spdm := {}
  doe : Spdm := {}
  deriving DecidableEq, Repr

/-! ## Contexts and work (chapter 07) -/

/-- A memory range of a context (Table 7.5): base and size in bytes. -/
structure MRange where
  base : Nat
  size : Nat
  read : Bool
  write : Bool
  deriving DecidableEq, Repr

/-- A context entry (Table 7.5). -/
structure Ctx where
  valid : Bool := false
  admin : Bool := false
  fabric : Bool := false
  reflect : Bool := false
  function : Nat := 0
  pasid : Nat := 0
  pasidEn : Bool := false
  syncFirst : Nat := 0
  syncCount : Nat := 0
  hubBase : Nat := 0
  hubSize : Nat := 0
  ranges : List MRange := []
  deriving DecidableEq, Repr

/-- How far a piece of work has come: taken by the queue engine and waiting (R199), dispatched, its unit working,
or its operation ended. -/
inductive WPhase where | fetched | waiting | dispatched | busy | ended
  deriving DecidableEq, Repr

/-- An outcome: status and detail field (Table 7.14). -/
structure Result where
  status : Status
  detail : Nat := 0
  deriving DecidableEq, Repr

/-- A descriptor the queue engine holds (R199-R202). committed: its outcome; order: its dispatch order; since: when it
was dispatched. -/
structure QEnt where
  idx : Nat
  bytes : List Byte
  phase : WPhase := .fetched
  ctx : Ctx := {}
  order : Nat := 0
  since : Nat := 0
  result : Option Result := none
  committed : Option Result := none
  commitTime : Nat := 0
  /-- targets of an ABORT whose records go first (R207): queue and order -/
  after : List (Nat × Nat) := []
  /-- an ABORT: descriptors its target queue had accepted when it was dispatched (R207) -/
  snap : Nat := 0
  deriving DecidableEq, Repr

/-- A queue beside its registers (R196-R202, R209): descriptors held, in ring order; a read under way (first index,
count); indices aborted before fetch; descriptors accepted since enable; disable asked for. -/
structure Queue where
  ents : List QEnt := []
  reading : Option (Nat × Nat) := none
  skip : List Nat := []
  accepted : Nat := 0
  closing : Bool := false
  /-- the queue was halted by a stop: the descriptor next to dispatch then (R202, R331) -/
  stopHalt : Option Nat := none
  deriving DecidableEq, Repr

/-- A completion ring beside its registers (R203, R204). -/
structure CRing where
  phase : Bool := true
  /-- records that made the vector pending, and the first one's time -/
  pendInt : Nat := 0
  pendSince : Nat := 0
  /-- records held under hint, with the first one's time -/
  held : List (Nat × List Byte) := []
  heldSince : Nat := 0
  stalledSince : Nat := 0
  deriving DecidableEq, Repr

/-- An engine of Table 12.3: contexts with work in progress, in order of first dispatch, the suspect list, and whether a reset
froze it (R358). -/
structure Eng where
  active : List Nat := []
  suspects : List Nat := []
  frozen : Bool := false
  deriving DecidableEq, Repr

/-- The commit or revert under way (R213-R217): its work, units still to switch in order, the unit switching and since
when, locked shadows. -/
structure Commit where
  work : Option Work := none
  todo : List Nat := []
  unit : Option Nat := none
  since : Nat := 0
  locks : List Nat := []
  /-- units of the last completed or partial commit, ascending, and whether it can be reverted -/
  units : List Nat := []
  revertible : Bool := false
  /-- epoch held before the last commit -/
  before : Nat := 0
  /-- units still on the later epoch of a revert -/
  later : List Nat := []
  deriving DecidableEq, Repr

/-- The PCI Express side (R185-R190). -/
structure HostLink where
  up : Bool := false
  fast : Bool := true
  wide : Bool := true
  d3 : Bool := false
  numVfs : Nat := 0
  vfEnabled : Bool := false
  refusedSuppressed : Nat := 0
  refusedLast : Option Nat := none
  deriving DecidableEq, Repr

/-! ## Matrix arrays (chapter 03) -/

/-- A loaded tile row: element bytes, scale bytes, poisoned (R69, R93). -/
structure TileRow where
  bytes : List Byte
  scales : List Byte
  bad : Bool
  deriving DecidableEq, Repr

/-- A stationary load and the tile it makes (R63, R125): rows per sub-tile (one entry in full shape, four in quarter), base
addresses of this array's element and scale regions, rows written so far of 32, tile rows by row (16k + m in quarter shape). -/
structure Tile where
  id : Nat
  bufB : Bool
  fmt : Nat
  quarter : Bool
  red : Nat
  rows : List Nat
  elemBase : Nat
  scaleBase : Nat
  rowStride : Nat
  loaded : Nat := 0
  data : SMap (Option TileRow) := []
  deriving DecidableEq, Repr

/-- A weight stream on one array (R65, R126): counts per sub-array (one entry in full shape), position and admitted columns,
the scale bytes of the group and the compression state. -/
structure Stream where
  id : Nat
  seq : Nat
  tile : Nat
  fmt : Nat
  cmp : Bool
  add : Bool
  colBase : Nat
  counts : List Nat
  base : Nat
  bursts : Nat
  quarter : Bool
  dual : Bool
  rows : List Nat
  /-- 64-byte beats taken -/
  beat : Nat := 0
  /-- columns admitted (per sub-array in quarter shape) -/
  cols : Nat := 0
  /-- scale bytes of the present group, whether each beat of them arrived poisoned -/
  scales : List Byte := []
  scaleBad : List Bool := []
  /-- element bytes fetched beyond the last column admitted, and whether a beat of theirs was poisoned -/
  spare : List Byte := []
  spareBad : Bool := false
  /-- kind beat of the segment, records left in it, whether it arrived poisoned -/
  kinds : Nat := 0
  records : Nat := 0
  kindBad : Bool := false
  /-- second column of a pair waiting for its own cycle (R77) -/
  carry : Option (List Byte × Bool) := none
  /-- read through the board window: the bytes once they have come, and which 64 of them came poisoned (R223) -/
  remote : Bool := false
  data : Option (List Byte × List Bool) := none
  deriving DecidableEq, Repr

/-- A column admitted and not yet written (R62, R72). bank: first row bank; cols of a quarter sub-array use 16 banks. -/
structure Col where
  id : Nat
  seq : Nat
  tile : Nat
  fmt : Nat
  add : Bool
  entry : Nat
  sub : Option Nat
  lower : Bool
  bytes : List Byte
  scales : List Byte
  bad : Bool
  /-- held in the skid buffer (R67) -/
  skid : Bool := false
  deriving DecidableEq, Repr

/-- A drain on one array (R66, R127): next entry index within the range, rows and their gating, destinations, and the values of
a block not yet converted. -/
structure DrainOp where
  id : Nat
  seq : Nat
  fmt : Nat
  stoch : Bool
  sat : Bool
  first : Nat
  count : Nat
  rowFirst : Nat
  rows : Nat
  dst : Nat
  scaleDst : Nat
  rowStride : Nat
  number : Nat
  seed : Nat
  /-- set when the drain starts: row banks that take part, dual-column operation -/
  active : List Nat := []
  dual : Bool := false
  next : Nat := 0
  hold : List (List (Nat × Bool)) := []
  deriving DecidableEq, Repr

/-- An accumulator init on one array (R65, R127). -/
structure InitOp where
  id : Nat
  seq : Nat
  first : Nat
  count : Nat
  next : Nat := 0
  deriving DecidableEq, Repr

/-- An instruction in an array's queue (R132). -/
inductive ArrOp where
  | load (t : Tile)
  | stream (s : Stream)
  | init (i : InitOp)
  | drain (d : DrainOp)
  | lamp (kind value : Nat)
  deriving DecidableEq, Repr

/-- What the sequencer has issued last into a buffer (R97). -/
structure LoadInfo where
  id : Nat
  fmt : Nat
  red : Nat
  quarter : Bool
  rows : List Nat
  deriving DecidableEq, Repr

/-- Operation of the top edge (R78). -/
inductive Shape where | full | dual | quarter
  deriving DecidableEq, Repr

/-- Where an announced heavy phase stands on an array (R315): waiting, pre-ramped, or past its hold. -/
inductive RampPhase where | waiting | ramped | past
  deriving DecidableEq, Repr

/-- An announced heavy phase on one array (R315, R317): its start T and end of hold, when it was announced, and whether a real
beat came since the pre-ramp began. -/
structure PreRamp where
  start : Nat
  stop : Nat
  since : Nat
  phase : RampPhase := .waiting
  met : Bool := false
  deriving DecidableEq, Repr

/-- One matrix array beside its register (R57-R82). -/
structure Arr where
  queue : List ArrOp := []
  bufA : Option Nat := none
  bufB : Option Nat := none
  tiles : List Tile := []
  infoA : Option LoadInfo := none
  infoB : Option LoadInfo := none
  /-- tile being loaded -/
  loading : Option Nat := none
  stream : Option Stream := none
  cols : List Col := []
  drains : List DrainOp := []
  inits : List InitOp := []
  shape : Shape := .full
  /-- order bubbles still owed to a shape change (R78) -/
  orderOwed : Nat := 0
  /-- row banks active in the last stream; none before any (R127) -/
  lastBanks : Option (List Nat) := none
  lastTile : Option Nat := none
  /-- a real beat has been admitted since the last reset (R79, R82) -/
  warm : Bool := false
  /-- cycles of the present gap -/
  gap : Nat := 0
  duty : Nat := 0
  /-- a lamplight hint for the gap after the stream in progress; for the gap in progress (R82, R131) -/
  longNext : Bool := false
  longNow : Bool := false
  /-- microseconds the present gap has lasted (R313) -/
  gapUs : Nat := 0
  /-- expected length in ns of a gap and whether that gap is in progress; whether its duty rises again (R131, R314) -/
  gapHint : Option (Nat × Bool) := none
  gapUp : Bool := false
  pre : Option PreRamp := none
  /-- the generator of synthetic operands: how often its fixed seed has been advanced (R80); its values reach no result (R81) -/
  drawn : Nat := 0
  deriving DecidableEq, Repr

/-! ## Quadrants (chapter 05) -/

/-- A launch block (Table 5.2). -/
structure Block where
  image : Nat
  qmask : Nat
  length : Nat
  loadAt : Nat
  entry : Nat
  reload : Bool
  arg1 : Nat
  arg2 : Nat
  deriving DecidableEq, Repr

/-- A launch in progress (R120, R121): quadrants still to start, running, and the outcomes of those ended. -/
structure Launch where
  id : Nat
  work : Work
  block : Block
  ctxId : Nat
  ctx : Ctx
  iter : Nat := 0
  garg : Nat := 0
  waiting : List Nat
  running : List Nat := []
  ended : List (Nat × Status) := []
  /-- an outcome that outranks every program status: abort, stop, reset (R121) -/
  outrank : Option Status := none
  deriving DecidableEq, Repr

/-- An active loop, innermost first (R130): indices of the first body instruction and of the end, iterations left after
the present one, and the iteration index. -/
structure LoopLevel where
  first : Nat
  last : Nat
  left : Nat
  index : Nat
  deriving DecidableEq, Repr

/-- What holds a sequencer (R133, R135). -/
inductive SeqWait where
  | none
  | obj (id value limitUs since : Nat)
  | ev (n target : Nat)
  deriving DecidableEq, Repr

/-- An issued instruction that has not completed (R121, R133): its number, event counter, and how many parts remain. -/
structure Issued where
  id : Nat
  ev : Option Nat := none
  left : Nat := 1
  deriving DecidableEq, Repr

/-- A residency tag (R119). -/
structure Tag where
  image : Nat
  loadAt : Nat
  length : Nat
  deriving DecidableEq, Repr

/-- Queued copy of a quadrant (R128): addresses resolved at issue. Spaces as Table 5.8. -/
structure QCopyOp where
  id : Nat
  srcSpace : Nat
  srcQ : Nat
  src : Nat
  dstSpace : Nat
  dstQ : Nat
  dst : Nat
  len : Nat
  /-- its fabric requests have begun; they have all ended (R223) -/
  started : Bool := false
  ended : Bool := false
  deriving DecidableEq, Repr

/-- A quadrant sequencer with its vector and copy engines (R116-R137). -/
structure Seq where
  launch : Option Nat := none
  base : Nat := 0
  len : Nat := 0
  pc : Nat := 0
  /-- scalar registers s1..s31 -/
  sr : SMap Nat := []
  loops : List LoopLevel := []
  ev : SMap Nat := []
  tags : List Tag := []
  wait : SeqWait := .none
  /-- END issued or a fault taken: issues nothing further (R121, R122) -/
  ending : Bool := false
  /-- statuses raised by this program (Table 5.3) -/
  causes : List Status := []
  issued : List Issued := []
  nextId : Nat := 0
  /-- vector instructions issued and not complete, oldest first (R132) -/
  vq : List Nat := []
  copies : List QCopyOp := []
  /-- top-k buffer: size and pairs, best first (R137) -/
  topkSize : Nat := 1
  topk : List (Nat × Nat) := []
  /-- the launch whose image is read through the board window, its bytes once they have come, whether any came poisoned (R119, R223) -/
  fetch : Option (Nat × Option (List (BitVec 8) × Bool)) := none
  deriving DecidableEq, Repr

/-- A read of a graph image through the board window: the fabric operation, the work it is for and when that was dispatched, from where,
how much, and what has come, with whether any of it came poisoned (R140, R223). -/
structure GraphFetch where
  op : Nat
  work : Work
  since : Nat
  image : Nat
  len : Nat
  data : Option (List (BitVec 8) × Bool) := none
  deriving DecidableEq, Repr

/-! ## Resident graphs (chapter 05) -/

/-- A node instance (R141). -/
structure GInst where
  node : Nat
  iter : Nat
  phase : WPhase := .fetched
  result : Option Result := none
  deriving DecidableEq, Repr

/-- A graph slot (R140-R143). places: where each node of the graph stands in the store. -/
structure GSlot where
  held : Bool := false
  image : Nat := 0
  nodes : Nat := 0
  places : List Nat := []
  iterLimit : Nat := 0
  garg : Nat := 0
  iter : Nat := 0
  ending : Bool := false
  corrected : Bool := false
  work : Option Work := none
  ctxId : Nat := 0
  ctx : Ctx := {}
  insts : List GInst := []
  /-- the status that ends the run: status, node, iteration -/
  fail : Option (Status × Nat × Nat) := none
  fetch : Option GraphFetch := none
  deriving DecidableEq, Repr

/-! ## Memory (chapter 06) -/

/-- A byte memory in canonical form with its poisoned 64-byte sectors (R160). -/
structure Mem where
  bytes : List (Nat × BitVec 8) := []
  poison : SMap Bool := []
  deriving DecidableEq, Repr

/-- Row states of Table 6.6. -/
inductive RowState where
  | original
  | once (spare : Nat)
  | twice (first second : Nat)
  | retired
  deriving DecidableEq, Repr

/-- A tracked row (R172): corrected sectors with their times, and when last updated. -/
structure RowTrack where
  row : Nat
  hits : List (Nat × Nat) := []
  updated : Nat := 0
  deriving DecidableEq, Repr

/-- A row copy in progress (R174): row key, spare row taken. -/
structure RowCopy where
  row : Nat
  spare : Nat
  deriving DecidableEq, Repr

/-- A physical channel beside MEM_CH_STAT (R162-R181). Row keys are bank * 36,864 + row. -/
structure Chan where
  /-- correction times per lane, newest first, at most 64 -/
  lanes : SMap (List Nat) := []
  degraded : List Nat := []
  track : List RowTrack := []
  rows : SMap RowState := []
  pendingRows : List Nat := []
  /-- spare rows in use: bank and spare number -/
  spareRows : List (Nat × Nat) := []
  copies : List RowCopy := []
  /-- uncorrectable finds: time, bank, sector -/
  uncorr : List (Nat × Nat × Nat) := []
  lastTrain : Nat := 0
  lastTemp : Int := 0
  /-- consecutive all-uncorrectable bursts met by an evacuation of it (R165) -/
  badRun : Nat := 0
  deriving DecidableEq, Repr

/-- A queued or running evacuation or rebuild (R164, R167, R170). base: the copy pointer of the evacuation it went on from (R166). -/
structure Repair where
  rebuild : Bool
  src : Nat
  dst : Nat := 0
  logical : Nat
  detected : Nat
  base : Nat := 0
  deriving DecidableEq, Repr

/-- A queued retrain (R178). -/
structure Retrain where
  phys : Nat
  error : Bool
  slices : Nat := 0
  deriving DecidableEq, Repr

/-- A stack (R162-R181). -/
structure Stack where
  repair : Option Repair := none
  repairQ : List Repair := []
  retrain : Option Retrain := none
  retrainQ : List Retrain := []
  retired : List Nat := []
  deriving DecidableEq, Repr

/-- Entries of the persistent remap list (R177). -/
inductive RemapEntry where
  | row (chan rowKey spare : Nat)
  | pendingRow (chan rowKey : Nat)
  | line (stack block : Nat)
  | channel (chan : Nat)
  | lane (chan lane : Nat)
  deriving DecidableEq, Repr

/-- A parity line whose whole-burst writes are held (R154): line, members present, since when. -/
structure PHold where
  stack : Nat
  group : Nat
  burst : Nat
  members : List Nat
  since : Nat
  deriving DecidableEq, Repr

/-- Stacked memory and its repair (R144-R184). -/
structure StackMem where
  /-- by media location: ((stack * 32 + logical channel) * 1,179,648 + burst) * 2,048 + byte -/
  dram : Mem := {}
  chans : SMap Chan := []
  stk : SMap Stack := []
  /-- runs of poisoned sectors that a rebuild left, as half-open intervals in the order of the poison store (R166, R171) -/
  holes : List (Nat × Nat) := []
  remapList : List RemapEntry := []
  remapToWrite : List RemapEntry := []
  holds : List PHold := []
  /-- new or changed map entries that a commit or revert is zero-filling (R149) -/
  filling : List Nat := []
  /-- addressable burst the scrub reads next, per physical channel -/
  scrubAt : SMap Nat := []
  /-- compute dies whose stacks are in self-refresh (R182) -/
  refresh : List Nat := []
  deriving DecidableEq, Repr

/-! ## Fabric (chapter 08) -/

/-- What a fabric request serves: a FABRIC_OP, a hub copy on its engine, a quadrant copy, or an access through the board window. -/
inductive FabOrigin where
  | work (w : Work)
  | copy (w : Work) (engine : Nat)
  | qcopy (q id : Nat)
  | window
  /-- a program image read by quadrant q for a launch, a weight stream of array i, a graph image read for slot g (R223) -/
  | image (q launch : Nat)
  | stream (i id : Nat)
  | graph (g : Nat)
  /-- its unit was reset: what comes back is dropped (R344) -/
  | dropped
  deriving DecidableEq, Repr

/-- The device's end of a transfer. stage: bytes bound for another slot of the board window (node, offset, key). -/
inductive LocalEnd where
  | mem (a : Nat)
  | host (a : Nat)
  | hub (a : Nat)
  | spad (q a : Nat)
  | stage (node off key : Nat)
  | none
  deriving DecidableEq, Repr

/-- A fabric operation under way (R224-R227): what it moves, how far it has issued, and what has become of it. bad: sectors of the
source that read poisoned; skew: the source address modulo 64. fail: position, status and detail of the lowest failed request. -/
structure FabOp where
  id : Nat
  origin : FabOrigin
  code : Nat
  node : Nat
  off : Nat := 0
  key : Nat := 0
  fn : Nat := 0
  wide : Bool := false
  sgn : Bool := false
  ordered : Bool := false
  allDst : Bool := false
  dest : LocalEnd := .none
  len : Nat := 0
  data : List (BitVec 8) := []
  bad : List Bool := []
  skew : Nat := 0
  operand : Nat := 0
  compare : Nat := 0
  next : Nat := 0
  stop : Bool := false
  fail : Option (Nat × Result) := none
  corrected : Bool := false
  poisoned : Bool := false
  /-- bytes a READ has gathered, by position -/
  got : SMap (BitVec 8) := []
  gotBad : List (Nat × Nat) := []
  /-- FENCE: nodes still to be asked, answers, serial numbers of READs that must end first -/
  nodes : List Nat := []
  answers : List (Nat × Status) := []
  reads : List Nat := []
  deriving DecidableEq, Repr

/-- An outstanding or waiting fabric request (R231, R232): attempts 0 while it waits to be sent. -/
structure FabReq where
  serial : Nat
  tag : Nat
  op : Option Nat
  node : Nat
  kind : Nat
  opn : Bool := false
  pos : Nat := 0
  off : Nat := 0
  key : Nat := 0
  len : Nat := 0
  fn : Nat := 0
  wide : Bool := false
  sgn : Bool := false
  ordered : Bool := false
  poison : Bool := false
  data : List (BitVec 8) := []
  fseq : Nat := 0
  aseq : Nat := 0
  attempts : Nat := 0
  first : Nat := 0
  last : Nat := 0
  port : Nat := 0
  resend : Bool := false
  deriving DecidableEq, Repr

/-- This device's side of a flow as source (R229-R233). -/
structure FlowSrc where
  opened : Bool := false
  opening : Bool := false
  epoch : Nat := 0
  nextF : Nat := 0
  nextA : Nat := 0
  /-- first failed posted write since the last FENCE; requests carried since it -/
  posted : Option Status := none
  carried : Bool := false
  lastUse : Nat := 0
  deriving DecidableEq, Repr

/-- This device's side of a flow as target (R230, R231, R241). -/
structure FlowTgt where
  epoch : Nat
  expected : Nat
  hwm : Nat
  window : List (Nat × Status) := []
  keyLog : Option Nat := none
  lastReq : Nat := 0
  deriving DecidableEq, Repr

/-- Where a flow context stands (R235). -/
inductive CtxPlace where | onDie | backing | fetching
  deriving DecidableEq, Repr

/-- A flow context: both directions of one peer. hold: since when no flow may be opened after a poisoned context (R233). -/
structure Flow where
  place : CtxPlace := .onDie
  src : Option FlowSrc := none
  tgt : Option FlowTgt := none
  hold : Option Nat := none
  touched : Nat := 0
  deriving DecidableEq, Repr

/-- An entry of the atomic result cache (R241). -/
structure CacheEnt where
  node : Nat
  epoch : Nat
  aseq : Nat
  status : Status
  value : Nat
  time : Nat
  deriving DecidableEq, Repr

/-- The fabric engine (R218-R245). held: packets that wait for a context, for memory or for earlier stores; opens: opens that wait
for a free context. -/
structure Fabric where
  ops : List FabOp := []
  reqs : List FabReq := []
  flows : SMap Flow := []
  cache : List CacheEnt := []
  nextOp : Nat := 1
  serial : Nat := 1
  held : List (Nat × Packet) := []
  opens : List (Nat × Nat × Packet) := []
  /-- nodes whose RESETTING, STOPPING or POWER_CYCLING notice is in force (R352, R369) -/
  noticed : List Nat := []
  /-- violation times per source within 1 ms; since when a source's violations are discarded (R244) -/
  viol : SMap (List Nat) := []
  discard : SMap (Option Nat) := []
  /-- key records: start of the present second and records in it (R237); the last one of a source is in its flow context (R235) -/
  keyStart : Nat := 0
  keyCount : Nat := 0
  /-- violation records at the same limit (R244): start of the present second, records in it, last record per source -/
  logStart : Nat := 0
  logCount : Nat := 0
  logLast : SMap (Option Nat) := []
  /-- board-window failure records per quadrant: time of the last and number suppressed (R223) -/
  winLog : SMap (Option Nat × Nat) := []
  deriving DecidableEq, Repr

/-! ## Collectives (chapter 10) -/

/-- One edge of a session's trees (R279, R284, R291): the neighbour, what it has said of itself, what this device may send to it and
has sent, what it holds of what the neighbour sends. Pieces are (sequence, piece). -/
structure ColEdge where
  tree : Nat
  node : Nat
  /-- the neighbour is this node's parent -/
  parent : Bool
  joined : Bool := false
  epoch : Nat := 0
  heard : Nat := 0
  /-- the latest CREDIT: its run, limit and ack -/
  credit : Option (Nat × Nat × Nat) := none
  limit : Nat := 0
  ack : Nat := 0
  sent : List (Nat × Nat) := []
  ackAt : Nat := 0
  held : List (Nat × Nat) := []
  rxAck : Nat := 0
  granted : Nat := 0
  deriving DecidableEq, Repr

/-- A staging slot in use (R288, R292): FP32 sums, and whether every contribution is in. -/
structure ColSlot where
  tree : Nat
  seq : Nat
  vals : List Nat
  full : Bool := false
  deriving DecidableEq, Repr

/-- A run of a session (R286, R287). Chunks are (tree, sequence): bad, poisoned; freed, slots given back; written, done at dst. -/
structure ColRun where
  work : Work
  ctxId : Nat
  op : Nat
  fmt : Nat
  stoch : Bool
  sat : Bool
  src : Nat
  dst : Nat
  count : Nat
  number : Nat := 0
  slots : List ColSlot := []
  freed : List (Nat × Nat) := []
  written : List (Nat × Nat) := []
  bad : List (Nat × Nat) := []
  wrotePoison : Bool := false
  corrected : Bool := false
  unstored : Bool := false
  deriving DecidableEq, Repr

/-- A session beside COL_SESSION_STAT (R279-R289). nextRun: the number the next run takes; lastOp: op of the last run started. -/
structure ColSession where
  edges : List ColEdge := []
  key : Nat := 0
  chunkKib : Nat := 0
  slots : Nat := 0
  timeout : Nat := 0
  seed : Nat := 0
  counter : Nat := 0
  nextRun : Nat := 0
  lastOp : Nat := 0
  setup : Option Work := none
  joinMs : Nat := 0
  since : Nat := 0
  lastJoin : Nat := 0
  lastKeep : Nat := 0
  run : Option ColRun := none
  waiting : List ColRun := []
  deriving DecidableEq, Repr

/-- The collective engine (R279-R304): sessions, retired adder lanes, mismatch times per lane. -/
structure ColEng where
  sessions : SMap ColSession := []
  retired : List Nat := []
  mism : SMap (List Nat) := []
  deriving DecidableEq, Repr

/-! ## Job and exclusion (chapter 13) -/

/-- The installed job beside its registers (R372-R382): bytes 0-3,903 of its block (identity, store address, configuration, manager
keys), the exclusion list, the notices held with their times, the verification queue, oldest first; a notice is its bytes (Table 13.8). -/
structure Job where
  block : List (BitVec 8) := []
  excl : List Nat := []
  held : List (List (BitVec 8) × Nat) := []
  queue : List (List (BitVec 8)) := []
  deriving DecidableEq, Repr

/-! ## Reflection (chapter 13) -/

/-- A generation of this device not yet durable (R386, R388): the MARK that asked for it, the bursts still to be sent before its
RMARK, whether that has gone. -/
structure ReflMark where
  gen : Nat
  work : Option Work := none
  left : List Nat := []
  sent : Bool := false
  deriving DecidableEq, Repr

/-- An entry of the undo log (R387): burst of the shadow and its old content. -/
structure Undo where
  burst : Nat
  bytes : List (BitVec 8)
  bad : List Bool
  deriving DecidableEq, Repr

/-- The reflection engine beside its registers (R383-R392). tracking: writes set dirty bits. dirty: per reflected burst, 0 clean,
1 dirty, 2 + n in flight under request serial n. took, given: each end has accepted the other's RBIND. copyAt: the initial copy's
next burst. quiet: since when a notice or an epoch change asks for an RRESUME. owe: an RRESUME is to be sent. rolling: the rollback's
loss cause and start. -/
structure Refl where
  work : Option Work := none
  since : Nat := 0
  timeout : Nat := 20
  ports : Nat := 0
  regions : List (Nat × Nat) := []
  shadow : Nat := 0
  shadowSize : Nat := 0
  undoAt : Nat := 0
  undoSize : Nat := 0
  track : Nat := 0
  took : Bool := false
  given : Bool := false
  epoch : Nat := 0
  tracking : Bool := false
  dirty : SMap Nat := []
  copyAt : Option Nat := none
  marks : List ReflMark := []
  log : List Undo := []
  lastSent : Nat := 0
  heard : Nat := 0
  quiet : Option Nat := none
  owe : Bool := false
  rolling : Option (Nat × Nat) := none
  deriving DecidableEq, Repr

/-! ## Ports (chapter 09) -/

/-- What a port has sent and not seen acknowledged (R256): its first sequence number, flits it takes, replays so far. -/
structure TxItem where
  seq : Nat
  n : Nat
  out : Out
  replays : Nat := 0
  deriving DecidableEq, Repr

/-- A dark wait (R272): the descriptor, its end, the node to check. -/
structure DarkWait where
  work : Work
  until_ : Nat
  node : Option Nat
  deriving DecidableEq, Repr

/-- A fabric port, or the host port's optics, beside its registers (R246-R278, R365-R371, R377). -/
structure Port where
  /-- the hello exchange is complete (R366) -/
  helloDone : Bool := false
  /-- the last HELLO accepted -/
  partner : Option Hello := none
  /-- the last body built (R370), when it was sent, the last skew record (R371) -/
  lastBody : Option Hello := none
  lastHello : Nat := 0
  skewAt : Option Nat := none
  /-- rings calibrated (R268, R269) -/
  calibrated : Bool := false
  /-- training step at work, 0 for none; when it began; when training is tried again; failures in a row; TRAIN_FAIL (R268) -/
  step : Nat := 0
  stepAt : Nat := 0
  retryAt : Nat := 0
  fails : Nat := 0
  trainFail : Bool := false
  /-- wavelengths the present training has found usable -/
  usable : List Nat := []
  /-- wavelengths whose margin fell below its floor: unusable at the next training (R400) -/
  optBad : List Nat := []
  rxMap : List Nat := []
  txMap : List Nat := []
  failed : List Nat := []
  /-- lanes in alias recovery, with the side (true: this end's transmit ring) -/
  recovering : List (Nat × Bool) := []
  /-- the map proposed and not adopted: map, sends, time of the last (R261) -/
  proposal : Option (List Nat × Nat × Nat) := none
  /-- changes that wait for it: wavelength, and 0 replace by a spare, 1 take out, 2 restore -/
  changes : List (Nat × Nat) := []
  /-- updates beyond the unlock limit in a row, by 2 * wavelength + side (Table 9.2) -/
  unlock : SMap Nat := []
  partnerLong : Bool := false
  /-- this end drains to adopt its shadow (R271) -/
  adopting : Bool := false
  dark : Option DarkWait := none
  darkEnd : Option (Work × Status) := none
  txNext : Nat := 0
  txItems : List TxItem := []
  txWait : List Out := []
  paused : Bool := false
  ackAt : Nat := 0
  rxNext : Nat := 0
  nakAt : Option Nat := none
  /-- violations within the last 1 ms, retrains for floods, since when the port is held for them (R278) -/
  viols : List Nat := []
  floods : List Nat := []
  heldSince : Option Nat := none
  /-- reference and last monitor readings, the partner's launch powers and their reference (R266) -/
  refr : OptRead := {}
  reading : OptRead := {}
  launch : List Int := []
  launchRef : List Int := []
  lastLaunch : Nat := 0
  /-- the notice being reassembled: bytes so far, next fragment, fragments, time of the last (R377) -/
  frag : Option (List (BitVec 8) × Nat × Nat × Nat) := none
  deriving DecidableEq, Repr

/-- The window dies' rings (R249, R250): feedback settings by ring, filtered activity as a fraction by 4w + c, time of the last
index by window die. -/
structure Win where
  fb : SMap Int := []
  y : SMap (Nat × Nat) := []
  indexAt : SMap Nat := []
  deriving DecidableEq, Repr

/-! ## Power and heat (chapter 11) -/

/-- The power controller beside its registers (R305-R321). overs: feeds treated as below 40 V, with the time since they read at or
below 60 V. allow: the ceiling on activity in 1/32; budget: beats allowed in this microsecond; shares: beats allowed per quadrant
when demand exceeds the budget. used, limit: P_used and the limit it is held to, in 10 mW. slow: dies that a throttle holds (none) or
whose clock climbs back, with the time since which they are clear of it; 0 where none has been. -/
structure Pwr where
  inUse : Option Feed := none
  overs : List (Feed × Option Nat) := []
  allow : Nat := 32
  budget : Nat := 64000
  beats : Nat := 0
  demand : SMap Nat := []
  taken : SMap Nat := []
  shares : List Nat := []
  tickAt : Nat := 0
  evalAt : Nat := 0
  used : Nat := 0
  limit : Nat := 120000
  lastMeas : Nat := 0
  measAt : Nat := 0
  lost : Bool := false
  capSince : Option Nat := none
  capRaised : Bool := false
  misSince : Option Nat := none
  misNext : Nat := 0
  excSince : Option Nat := none
  stepAt : SMap Nat := []
  slow : SMap (Option Nat) := []
  /-- clocks of dies stopped by a partition reset, taken up again at its stage 6 -/
  parked : SMap Nat := []
  deriving DecidableEq, Repr

/-- A temperature sensor (R322-R325): valid readings in 0.1 °C with their times, newest first; invalid samples in a row; whether its
absolute and its rate throttle conditions hold. -/
structure Sensor where
  hist : List (Int × Nat) := []
  bad : Nat := 0
  hot : Bool := false
  steep : Bool := false
  deriving DecidableEq, Repr

/-- Thermal supervision and stops beside THM_STOP_STAT (R322-R336): the stop's step and start, the faulted rail, dies cross-checked;
the coolant fault (asserted, or deasserted for less than 1 s); the two tray outputs. -/
structure Therm where
  sensors : SMap Sensor := []
  step : Nat := 0
  since : Nat := 0
  rail : Option Nat := none
  checked : List Nat := []
  coolant : Bool := false
  thermTrip : Bool := false
  cycleReq : Bool := false
  deriving DecidableEq, Repr

/-! ## Crash dump (R360-R364) -/

/-- An entry of a dump's section table (Table 12.18). -/
structure DumpEntry where
  unit : Nat
  flags : Nat
  offset : Nat
  length : Nat
  time : Nat
  deriving DecidableEq, Repr

/-- The dump engine beside HUB_DUMP_STAT. trigger as Table 12.17; next: the section being read, in the order of Table 12.19;
unresponsive, frozen_, during: flags of that section; frozen: unit codes whose clock a frozen read stopped (R361). -/
structure Dump where
  running : Bool := false
  trigger : Nat := 0
  work : Option Work := none
  buffer : Nat := 0
  size : Nat := 0
  freeze : Bool := false
  since : Nat := 0
  next : Nat := 0
  unresponsive : Bool := false
  frozenNow : Bool := false
  during : Bool := false
  written : Nat := 0
  /-- the calendar at the start, beside since; when the read of the present section began -/
  calendar : Nat := 0
  readAt : Nat := 0
  sections : List DumpEntry := []
  frozen : List Nat := []
  deriving DecidableEq, Repr

/-! ## Resets (chapter 12) -/

/-- A reset kind (Table 12.1). -/
inductive RKind where | context | engine | partition | chip | powerCycle
  deriving DecidableEq, Repr

/-- A reset request (R340, R341); cause as Table 12.7 codes it. -/
structure RReq where
  kind : RKind
  target : Nat := 0
  escalate : Bool := false
  dumpFirst : Bool := false
  cause : Nat := 1
  deriving DecidableEq, Repr

/-- A reset in progress: stage 0 while it waits (state 7) or is a context or engine reset at work; partition stages 1-6;
chip reset: 0 waiting, 1 quiesce, 2.. the stages of Table 1.11 after the takeover. -/
structure RRun where
  req : RReq
  stage : Nat := 0
  since : Nat := 0
  deriving DecidableEq, Repr

/-- Reset control (R337-R355). -/
structure ResetCtl where
  run : Option RRun := none
  queue : List RReq := []
  /-- requests absorbed by the reset in progress (R341) -/
  absorbed : List RReq := []
  /-- the link keepers hold the ports and the hub is stopped: takeover to handover (R346, R351) -/
  keepers : Bool := false
  /-- a chip reset failed without escalation: held with the keepers answering (R342) -/
  heldFailed : Bool := false
  /-- power cycle asked for: quiesced until power is removed (R355) -/
  cycleWait : Bool := false
  /-- READY is owed when FAB_CFG.enable is next set (R350) -/
  readyOwed : Bool := false
  /-- the link keepers answer while the hub is up: the shutter of a stop (R329, R331) -/
  shut : Bool := false
  /-- a stop cause holds the chip reset at its self-refresh exit (R331) -/
  causeHeld : Bool := false
  /-- the handover is done and the host link has yet to train (R349) -/
  linkWait : Bool := false
  /-- contexts whose work a link-down or function-level reset is ending (R187) -/
  ctxEnding : List Nat := []
  /-- engine resets still to come of an escalated context reset (R342) -/
  chain : List RReq := []
  cause : Nat := 0
  prevEpoch : Nat := 0
  lastNotice : Nat := 0
  /-- the two flash copies of the epoch: value if valid; which was written last (R348) -/
  flashA : Option Nat := none
  flashB : Option Nat := none
  lastB : Bool := false
  deriving DecidableEq, Repr

end Sys2Proof.Machine
end

