-- ==== Sys2Proof/Machine/PartOps.lean ====
section
/-! DEFINITION. Operations on the parts of the state that need no other part: calendar values, the event queue's order, a
context's permissions, byte memories. -/

namespace Sys2Proof.Machine

/-- The crystal ticks a calendar value counts (R50). -/
def Calendar.ticks (c : Calendar) : Nat := c.seconds * 32768 + c.fraction

/-- The calendar of a tick count. -/
def Calendar.ofTicks (valid : Bool) (n : Nat) : Calendar :=
  { valid := valid, seconds := n / 32768 % 2 ^ 48, fraction := n % 32768 }

/-- Table 2.4's layout of a calendar value. -/
def Calendar.word (c : Calendar) : Nat := b2n c.valid * 2 ^ 63 + c.seconds % 2 ^ 48 * 32768 + c.fraction % 32768

/-- Whether a full event queue keeps this event. -/
def PldmEvent.keeps : PldmEvent → Bool
  | .coolant => true
  | .stop => true
  | .resetStart _ _ => true
  | _ => false

/-- Remove the oldest event that may be dropped. -/
def dropOldest : List PldmEvent → List PldmEvent
  | [] => []
  | e :: es => if e.keeps then e :: dropOldest es else es

/-- Whether the 2 MiB granule g lies in a range of the context with the permission asked for. -/
def Ctx.granule (c : Ctx) (g : Nat) (write : Bool) : Bool :=
  c.ranges.any fun r => (if write then r.write else r.read) && decide (r.base ≤ g * 2 ^ 21) && decide (g * 2 ^ 21 < r.base + r.size)

/-- Whether every byte of an access lies within the union of the context's ranges (R193). -/
def Ctx.mayAccess (c : Ctx) (addr len : Nat) (write : Bool) : Bool :=
  len == 0 ||
  (List.range ((addr + len - 1) / 2 ^ 21 - addr / 2 ^ 21 + 1)).all fun k => c.granule (addr / 2 ^ 21 + k) write

/-- Whether an access lies within the context's hub scratchpad grant (R193). -/
def Ctx.mayHub (c : Ctx) (off len : Nat) : Bool :=
  decide (c.hubBase ≤ off) && decide (off + len ≤ c.hubBase + c.hubSize) && decide (off + len ≤ 2 ^ 27)

/-- Whether a sync object lies in the context's range (R193). -/
def Ctx.maySync (c : Ctx) (i : Nat) : Bool := decide (c.syncFirst ≤ i) && decide (i < c.syncFirst + c.syncCount)

/-! ## Byte memories -/

/-- The byte at an address; an unlisted byte is 0 (log entry 5). -/
def Mem.byte (m : Mem) (a : Nat) : Byte := SMap.get 0 m.bytes a

/-- n bytes from an address. -/
def Mem.read (m : Mem) (a n : Nat) : List Byte := SMap.getRun 0 m.bytes a n

/-- Whether a 64-byte sector is poisoned. -/
def Mem.bad (m : Mem) (sector : Nat) : Bool := SMap.get false m.poison sector

/-- Whether a poisoned sector lies under n bytes from an address. -/
def Mem.anyBad (m : Mem) (a n : Nat) : Bool :=
  n != 0 && m.poison.any fun e => e.2 && decide (a / 64 ≤ e.1) && decide (e.1 ≤ (a + n - 1) / 64)

/-- Mark or clear the poison of a sector. -/
def Mem.mark (m : Mem) (sector : Nat) (b : Bool) : Mem := { m with poison := SMap.set false m.poison sector b }

/-- Clear the poison of n sectors. -/
def Mem.clearSectors (m : Mem) (sector : Nat) : Nat → Mem
  | 0 => m
  | n + 1 => clearSectors (m.mark sector false) (sector + 1) n

/-- Poison n sectors. -/
def Mem.poisonSectors (m : Mem) (sector : Nat) : Nat → Mem
  | 0 => m
  | n + 1 => poisonSectors (m.mark sector true) (sector + 1) n

/-- Store bytes; sectors covered whole lose their poison, sectors covered in part keep it (R160). -/
def Mem.write (m : Mem) (a : Nat) (bs : List Byte) : Mem :=
  let first := (a + 63) / 64
  let past := (a + bs.length) / 64
  { m with bytes := SMap.setRun 0 m.bytes a bs }.clearSectors first (past - first)

/-- Clear everything. -/
def Mem.clear (_ : Mem) : Mem := {}

/-- Clear the bytes and poison of addresses lo to hi - 1; lo and hi are multiples of 64. -/
def Mem.clearRange (m : Mem) (lo hi : Nat) : Mem :=
  { bytes := SMap.drop m.bytes fun k => decide (lo ≤ k) && decide (k < hi)
    poison := SMap.drop m.poison fun k => decide (lo / 64 ≤ k) && decide (k < hi / 64) }

/-- The canonical form of a byte memory: addresses strictly rising, no entry an unlisted address reads as. -/
def Mem.wf (m : Mem) : Bool := SMap.wf (0 : BitVec 8) m.bytes && SMap.wf false m.poison

/-- Address of a byte of quadrant q's scratchpad in the common store. -/
def spadKey (q a : Nat) : Nat := q * 2 ^ 25 + a

end Sys2Proof.Machine
end

