-- ==== Sys2Proof/Machine/State.lean ====
section
/-! DEFINITION. The state of the machine, the reasons a step can stop, and the state after reset. -/

namespace Sys2Proof.Machine

/-- Why a step stops with a fault. The manual gives no command a fault: every failure is a status, a register or a log
record. -/
inductive Fault where
  /-- Raised by a meaning whose operand no event of the table can carry (WellFormed refuses it): safe. -/
  | illFormed
  deriving DecidableEq, Repr

/-- Why a step is refused. -/
inductive Refusal where
  /-- Raised by exec for a command that has no meaning yet: safe. -/
  | notModelled (mnemonic : String)
  deriving DecidableEq, Repr

/-- The device. Register fields live in regs (Machine/Regs.lean); everything else in the parts (Machine/Parts.lean). -/
structure State where
  /-- commands waiting, first in, first out (the model's own field) -/
  pending : List Instr := []
  /-- what has left the device, newest first (the model's own field) -/
  out : List Out := []
  /-- free values drawn so far (the model's own field, log entry 1) -/
  freeCtr : Nat := 0
  /-- device time in nanoseconds (R47) -/
  time : Nat := 0
  /-- every register field, by Fld.key -/
  regs : SMap Nat := []
  /-- previous banks of the banked units, by the live field's key (R213, R216) -/
  prevBank : SMap Nat := []
  boot : Boot := {}
  bundles : SMap Bundle := []
  cal : CalState := {}
  log : ErrorLog := {}
  mon : SMap Mon := []
  margins : SMap Margin := []
  mgmt : Mgmt := {}
  /-- sync object values (R195) -/
  sync : SMap Nat := []
  queues : SMap Queue := []
  rings : SMap CRing := []
  /-- the queue served last at each priority level (R199) -/
  served : SMap Nat := []
  /-- descriptors dispatched so far, launches accepted so far -/
  order : Nat := 0
  engines : SMap Eng := []
  host : HostLink := {}
  commit : Commit := {}
  launches : List Launch := []
  seqs : SMap Seq := []
  /-- instruction buffers: 128-bit words at q * 4,096 + index (R116) -/
  ibuf : SMap Nat := []
  /-- quadrant scratchpads: q * 2^25 + address; hub scratchpad by offset -/
  spad : Mem := {}
  hubsp : Mem := {}
  arrays : SMap Arr := []
  /-- accumulator entries (FP32 bits) and their poison, at (array * 32 + bank) * 1,024 + entry (R64) -/
  acc : SMap Nat := []
  accBad : SMap Bool := []
  /-- vector registers (FP32 bits), at (quadrant * 16 + register) * 1,024 + lane -/
  vreg : SMap Nat := []
  graphs : SMap GSlot := []
  mem : StackMem := {}
  fab : Fabric := {}
  col : ColEng := {}
  job : Job := {}
  refl : Refl := {}
  ports : SMap Port := []
  win : Win := {}
  pwr : Pwr := {}
  thm : Therm := {}
  dump : Dump := {}
  rst : ResetCtl := {}
  deriving DecidableEq, Repr

/-- Write a field of a register store, held to the field's width, in canonical form. -/
def putField (m : SMap Nat) (f : Fld) (v i : Nat) : SMap Nat :=
  SMap.set f.reset m (f.key i) (v % 2 ^ f.width)

/-- The register fields at power-on: Fld.reset everywhere, context 0 valid and admin in both banks (R192), and what
module flash and fuses of a new part hold (image slot A valid; log entry 4). -/
def powerOnRegs : SMap Nat :=
  let m := putField [] F.CTX_valid 1 0
  let m := putField m F.CTX_admin 1 0
  let m := putField m F.CTX_SHADOW_valid 1 0
  let m := putField m F.CTX_SHADOW_admin 1 0
  putField m F.SEC_FW_STAT_valid 1 0

/-- The module before a feed qualifies for the first time: off, nothing listed, every register at its reset value. -/
def State.reset : State := { regs := powerOnRegs }

end Sys2Proof.Machine
end

