-- ==== Sys2Proof/Machine/Ops.lean ====
section
/-! DEFINITION. The named operations every meaning is built from: register fields, free values, time and calendar, outputs, the
error log, management events, sync objects, contexts. -/

namespace Sys2Proof.Machine

/-- The three outcomes of a step of this machine. -/
abbrev Res := Host.Outcome State Fault Refusal

/-! ## Register fields -/

/-- The value of instance i of a field. -/
def State.get (s : State) (f : Fld) (i : Nat) : Nat := SMap.get f.reset s.regs (f.key i)

/-- Whether a one-bit field is set. -/
def State.isSet (s : State) (f : Fld) (i : Nat) : Bool := s.get f i != 0

/-- Write instance i of a field, held to its width. -/
def State.put (s : State) (f : Fld) (v i : Nat) : State := { s with regs := putField s.regs f v i }

/-- Write a one-bit field. -/
def State.putB (s : State) (f : Fld) (v : Bool) (i : Nat) : State := s.put f (b2n v) i

/-- Count n more in a field, saturating at its largest value. -/
def State.bump (s : State) (f : Fld) (n i : Nat) : State := s.put f (satAdd f.width (s.get f i) n) i

/-- Count one more in a field, wrapping. -/
def State.incr (s : State) (f : Fld) (i : Nat) : State := s.put f (s.get f i + 1) i

/-- A signed field's value. -/
def State.getI (s : State) (f : Fld) (i : Nat) : Int := signed f.width (s.get f i)

/-- Write a signed field. -/
def State.putI (s : State) (f : Fld) (v : Int) (i : Nat) : State := s.put f (unsigned f.width v) i

/-- Count an access the device ignores (R189). -/
def State.badAccess (s : State) : State := s.bump F.HUB_SETUP_LOCK_bad_accesses 1 0

/-- Count an ignored write to an RWL field (R14). -/
def State.blockedWrite (s : State) : State := s.bump F.HUB_SETUP_LOCK_blocked_writes 1 0

/-- Whether the set-up lock is set (R14). -/
def State.setupLocked (s : State) : Bool := s.isSet F.HUB_SETUP_LOCK_locked 0

/-! ## Free values -/

/-- Draw a free value: nothing constrains it, and the next draw is another one (log entry 1). -/
def State.draw (s : State) : Nat × State :=
  ((Config.freeValue s.freeCtr).toNat, { s with freeCtr := s.freeCtr + 1 })

/-! ## Outputs -/

/-- Whether it leaves through the host link. -/
def Out.toHost : Out → Bool
  | .hostWrite _ _ => true
  | .hostRead _ _ _ => true
  | .msix _ _ => true
  | _ => false

/-- Send something out of the device; nothing reaches the host while its link is down (R339). -/
def State.emit (s : State) (o : Out) : State := if o.toHost && !s.host.up then s else { s with out := o :: s.out }

/-- Send a list, in order. -/
def State.emitAll (s : State) (os : List Out) : State := os.foldl State.emit s

/-- Raise the PF's MSI-X vector 0 (R204). -/
def State.vec0 (s : State) : State := s.emit (.msix 0 0)

/-! ## Time -/

/-- The device is at the moment t, or past it: an event that is due at t has come (log entry 6). -/
def State.due (s : State) (t : Nat) : State := { s with time := max s.time t }

/-- The current device epoch (R15); 0 before bring-up step 2. -/
def State.epoch (s : State) : Nat := s.get F.HUB_RESET_STAT_epoch 0

/-- Calendar time now: the value last read or set, advanced by the crystal ticks passed (R50). -/
def State.calNow (s : State) : Calendar :=
  Calendar.ofTicks s.cal.value.valid (s.cal.value.ticks + (s.time - s.cal.at_) * 32768 / 1000000000)

/-! ## The error log (R403) -/

/-- Stage a log entry with the time pair and epoch; a full staging buffer drops it and counts it. -/
def State.logPut (s : State) (b : LogBody) : State :=
  if s.log.staged.length < 8192 then
    let e : LogEntry := { seq := s.log.nextSeq, time := s.time, cal := s.calNow, epoch := s.epoch, body := b }
    let s := { s with log := { s.log with staged := s.log.staged ++ [e], nextSeq := s.log.nextSeq + 1 } }
    (s.put F.TEL_LOG_STAT_newest e.seq 0).put F.TEL_LOG_STAT_held s.log.staged.length 0
  else s.bump F.TEL_LOG_STAT_dropped 1 0

/-- Write a device event record (Table 14.10). -/
def State.logEvent (s : State) (code unit : Nat) (args : List Nat) : State := s.logPut (.event code unit args)

/-- Write a memory event record (R183). -/
def State.logMem (s : State) (e : MemEvent) : State := s.logPut (.mem e)

/-! ## Management events (R405) -/

/-- Queue a PLDM event for the tray controller; a full queue drops its oldest droppable event and counts the drop. -/
def State.pldm (s : State) (e : PldmEvent) : State :=
  if s.mgmt.events.length < 64 then
    { s with mgmt := { s.mgmt with events := s.mgmt.events ++ [e] } }.emit (.pldm e)
  else
    { s with mgmt := { s.mgmt with events := dropOldest s.mgmt.events ++ [e], eventDrops := s.mgmt.eventDrops + 1 } }.emit
      (.pldm e)

/-- The tray controller's end takes an event off the queue once sent. -/
def State.pldmSent (s : State) : State := { s with mgmt := { s.mgmt with events := s.mgmt.events.drop 1 } }

/-- The link keepers answer for the device: in a chip reset from the takeover on, and behind the shutter of a stop (R275, R329). -/
def State.kept (s : State) : Bool := s.rst.keepers || s.rst.shut

/-- Whether a frozen dump read has stopped the clock of a unit of Table 12.19, until a reset covers it (R361). -/
def State.unitFrozen (s : State) (code : Nat) : Bool := s.dump.frozen.contains code

/-- Whether nothing moves in quadrant q: its die's array clock does not run (R43), or a frozen dump read has stopped it (R361). -/
def State.quadStopped (s : State) (q : Nat) : Bool := s.unitFrozen (0x20 + q) || s.get F.HUB_ARRAY_CLK_current_mhz (q / 4) == 0

/-! ## Ports and their links (R256-R258) -/

def State.port (s : State) (p : Nat) : Port := SMap.get {} s.ports p
def State.setPort (s : State) (p : Nat) (v : Port) : State := { s with ports := SMap.set {} s.ports p v }

/-- Whether flits leave port p: from training step 6 on, and while it is up, draining or held (Tables 9.10, 9.15). -/
def State.linkUp (s : State) (p : Nat) : Bool :=
  let st := s.get F.WIN_PORT_STAT_state p
  st == 3 || st == 4 || st == 6 || (st == 2 && decide (6 ≤ (s.port p).step))

/-- Flits that something takes: a packet's 40-byte header and data in 242-byte payloads; a control message one (log entry 29). -/
def Out.flits : Out → Nat
  | .packet _ p => ceilDiv (40 + p.data.length) 242
  | .colPacket _ p => ceilDiv (40 + p.data.length) 242
  | _ => 1

/-- Whether it travels in DATA flits. -/
def Out.isData : Out → Bool
  | .packet _ _ => true
  | .colPacket _ _ => true
  | _ => false

/-- Flits not yet acknowledged. -/
def Port.unacked (v : Port) : Nat := (v.txItems.map fun i => i.n).sum

/-- Whether the link may carry it now: fewer than 8,192 flits unacknowledged, no DATA under PAUSE (R257, R258). -/
def Port.maySend (v : Port) (o : Out) : Bool := decide (v.unacked + o.flits ≤ 8192) && !(v.paused && o.isData)

/-- Put it on the link. -/
def State.putOnLink (s : State) (p : Nat) (o : Out) : State :=
  let v := s.port p
  (s.setPort p { v with txItems := v.txItems ++ [{ seq := v.txNext, n := o.flits, out := o }], txNext := (v.txNext + o.flits) % 65536
                        ackAt := if v.txItems.isEmpty then s.time else v.ackAt }).emit o

/-- Send on port p; what the link may not carry yet waits, in order. -/
def State.tx (s : State) (p : Nat) (o : Out) : State :=
  let v := s.port p
  if !s.linkUp p then s
  else if !v.maySend o || (o.isData && v.txWait.any Out.isData) then s.setPort p { v with txWait := v.txWait ++ [o] }
  else s.putOnLink p o

/-- Send what has waited, while the link may carry it. -/
def State.txFlush (s : State) (p : Nat) : State :=
  let w := (s.port p).txWait
  w.foldl (fun s o => s.tx p o) (s.setPort p { s.port p with txWait := [] })

/-! ## Configuration digests (R373) -/

/-- The digest a node's last hello showed on a port without a switch between; none where no port has one (R373). -/
def State.helloDigest (s : State) (n : Nat) : Option Nat :=
  s.ports.findSome? fun e => match e.2.partner with
    | none => none
    | some h => if h.node = n ∧ !h.switch ∧ !h.unassigned ∧ e.2.helloDone then some h.digest else none

/-- The device's own configuration digest. -/
def State.ownDigest (s : State) : Nat := s.get F.SEC_CFG_DIGEST_digest 0

/-- Whether this device may join node n: both digests known and equal, neither 0 (R284, R373). -/
def State.mayJoin (s : State) (n : Nat) : Bool :=
  s.ownDigest != 0 && (match s.helloDigest n with | none => true | some d => d == s.ownDigest)

/-! ## Measurements (R408, R409) -/

/-- Take measurement i over a content; a change to 3, 5 or 6 is logged. -/
def State.measure (s : State) (i : Nat) (content : List Nat) : State :=
  let old := SMap.get [] s.mgmt.meas i
  let s := { s with mgmt := { s.mgmt with meas := SMap.set [] s.mgmt.meas i content } }
  if old ≠ content ∧ (i = 6 ∨ (old ≠ [] ∧ (i = 3 ∨ i = 5))) then s.logEvent 0x0014 0 [i] else s

/-- Measurement 5: the set-up lock and the frozen dump reads since power cycle. -/
def State.measureLock (s : State) : State := s.measure 5 [s.get F.HUB_SETUP_LOCK_locked 0, s.mgmt.frozenReads]

/-! ## Sync objects (R195) -/

/-- A sync object's value. -/
def State.syncVal (s : State) (i : Nat) : Nat := SMap.get 0 s.sync i

/-- A set operation: the larger of the current value and the operand. -/
def State.syncSet (s : State) (i v : Nat) : State :=
  { s with sync := SMap.set 0 s.sync i (max (s.syncVal i) v % 2 ^ 64) }

/-- An add operation, modulo 2^64. -/
def State.syncAdd (s : State) (i v : Nat) : State :=
  { s with sync := SMap.set 0 s.sync i ((s.syncVal i + v) % 2 ^ 64) }

/-! ## Contexts (R192, R193) -/

/-- Memory range r of a context entry in the live table. -/
def State.ctxRange (s : State) (x : Nat) (base size read write : Fld) : MRange :=
  { base := s.get base x / 2 ^ 21 * 2 ^ 21, size := s.get size x * 2 ^ 21, read := s.isSet read x, write := s.isSet write x }

/-- The live entry of context x (Table 7.5). -/
def State.ctxOf (s : State) (x : Nat) : Ctx :=
  { valid := s.isSet F.CTX_valid x, admin := s.isSet F.CTX_admin x, fabric := s.isSet F.CTX_fabric x
    reflect := s.isSet F.CTX_reflect x, function := s.get F.CTX_function x
    pasid := s.get F.CTX_pasid x, pasidEn := s.isSet F.CTX_pasid_en x
    syncFirst := s.get F.CTX_sync_first x, syncCount := s.get F.CTX_sync_count x
    hubBase := s.get F.CTX_hubsp_base x, hubSize := s.get F.CTX_hubsp_size x
    ranges :=
      [s.ctxRange x F.CTX_r0_base F.CTX_r0_size F.CTX_r0_read F.CTX_r0_write,
       s.ctxRange x F.CTX_r1_base F.CTX_r1_size F.CTX_r1_read F.CTX_r1_write,
       s.ctxRange x F.CTX_r2_base F.CTX_r2_size F.CTX_r2_read F.CTX_r2_write,
       s.ctxRange x F.CTX_r3_base F.CTX_r3_size F.CTX_r3_read F.CTX_r3_write,
       s.ctxRange x F.CTX_r4_base F.CTX_r4_size F.CTX_r4_read F.CTX_r4_write,
       s.ctxRange x F.CTX_r5_base F.CTX_r5_size F.CTX_r5_read F.CTX_r5_write,
       s.ctxRange x F.CTX_r6_base F.CTX_r6_size F.CTX_r6_read F.CTX_r6_write,
       s.ctxRange x F.CTX_r7_base F.CTX_r7_size F.CTX_r7_read F.CTX_r7_write,
       s.ctxRange x F.CTX_r8_base F.CTX_r8_size F.CTX_r8_read F.CTX_r8_write,
       s.ctxRange x F.CTX_r9_base F.CTX_r9_size F.CTX_r9_read F.CTX_r9_write,
       s.ctxRange x F.CTX_r10_base F.CTX_r10_size F.CTX_r10_read F.CTX_r10_write,
       s.ctxRange x F.CTX_r11_base F.CTX_r11_size F.CTX_r11_read F.CTX_r11_write] }

end Sys2Proof.Machine
end

