-- ==== Sys2Proof/Machine/Formats.lean ====
section
/-! DEFINITION. Number formats (chapter 04): exact values, the element encodings of Table 4.2, block scales, rounding and narrowing
(R87-R96, R103-R108). -/

namespace Sys2Proof.Machine

/-! ## Exact values -/

/-- An exact value: NaN, an infinity, or plus or minus m * 2^e; zero keeps its sign. -/
inductive Num where
  | nan
  | inf (neg : Bool)
  | fin (neg : Bool) (m : Nat) (e : Int)
  deriving DecidableEq, Repr

def Num.zero : Num := .fin false 0 0

/-- Whether the value is a NaN or an infinity. -/
def Num.nonfinite : Num → Bool
  | .fin _ _ _ => false
  | _ => true

def Num.neg? : Num → Bool
  | .nan => false
  | .inf n => n
  | .fin n _ _ => n

/-- The signed integer an exact value holds in units of 2^q, q at most its exponent. -/
def Num.units (q : Int) : Num → Int
  | .fin n m e => let v : Int := m * 2 ^ (e - q).toNat; if n then -v else v
  | _ => 0

/-- Exact product; infinity times zero is NaN (R100). -/
def Num.mul : Num → Num → Num
  | .fin n m e, .fin n' m' e' => .fin (n != n') (m * m') (e + e')
  | .inf n, .fin n' m' _ => if m' = 0 then .nan else .inf (n != n')
  | .fin n m _, .inf n' => if m = 0 then .nan else .inf (n != n')
  | .inf n, .inf n' => .inf (n != n')
  | _, _ => .nan

/-- Exact sum; infinities of opposite sign give NaN; an exact zero of two zeros of one sign keeps the sign, else it is +0. -/
def Num.add : Num → Num → Num
  | .fin n m e, .fin n' m' e' =>
    let q := min e e'
    let v := (Num.fin n m e).units q + (Num.fin n' m' e').units q
    if v = 0 then .fin (n && n') 0 0 else .fin (decide (v < 0)) v.natAbs q
  | .inf n, .inf n' => if n = n' then .inf n else .nan
  | .inf n, .fin _ _ _ => .inf n
  | .fin _ _ _, .inf n => .inf n
  | _, _ => .nan

/-- The value times 2^k. -/
def Num.scale (k : Int) : Num → Num
  | .fin n m e => .fin n m (e + k)
  | x => x

/-- Whether magnitude m * 2^e is above M * 2^E. -/
def magLt (M : Nat) (E : Int) (m : Nat) (e : Int) : Bool :=
  let q := min e E
  decide (M * 2 ^ (E - q).toNat < m * 2 ^ (e - q).toNat)

/-! ## Floating-point element formats -/

/-- A floating-point element format: exponent and mantissa bits, bias, largest finite magnitude lm * 2^le, whether it has
infinities and NaNs (Table 4.2). -/
structure FloatFmt where
  ebits : Nat
  mbits : Nat
  bias : Int
  lm : Nat
  le : Int
  hasInf : Bool
  hasNan : Bool
  nanCode : Nat
  deriving DecidableEq, Repr

def fp32 : FloatFmt := ⟨8, 23, 127, 2 ^ 24 - 1, 104, true, true, 0x7FC00000⟩
def bf16 : FloatFmt := ⟨8, 7, 127, 2 ^ 8 - 1, 120, true, true, 0x7FC0⟩
def fp16 : FloatFmt := ⟨5, 10, 15, 2 ^ 11 - 1, 5, true, true, 0x7E00⟩
def e4m3 : FloatFmt := ⟨4, 3, 7, 14, 5, false, true, 0x7F⟩
def e5m2 : FloatFmt := ⟨5, 2, 15, 7, 13, true, true, 0x7E⟩
def e3m2 : FloatFmt := ⟨3, 2, 3, 7, 2, false, false, 0⟩
def e2m3 : FloatFmt := ⟨2, 3, 1, 15, -1, false, false, 0⟩
def e2m1 : FloatFmt := ⟨2, 1, 1, 3, 1, false, false, 0⟩

def FloatFmt.width (f : FloatFmt) : Nat := 1 + f.ebits + f.mbits

/-- Decode an element (R89). E4M3 has only the NaNs 0x7F and 0xFF. -/
def FloatFmt.decode (f : FloatFmt) (c : Nat) : Num :=
  let neg := bitAt c (f.width - 1)
  let e := c / 2 ^ f.mbits % 2 ^ f.ebits
  let m := c % 2 ^ f.mbits
  if e = 2 ^ f.ebits - 1 ∧ f.hasInf then (if m = 0 then .inf neg else .nan)
  else if e = 2 ^ f.ebits - 1 ∧ f.hasNan ∧ m = 2 ^ f.mbits - 1 then .nan
  else if e = 0 then .fin neg m (1 - f.bias - f.mbits)
  else .fin neg (2 ^ f.mbits + m) (e - f.bias - f.mbits)

/-- The code of magnitude n * 2^q, on the format's grid and within its range. -/
def FloatFmt.codeOf (f : FloatFmt) (neg : Bool) (n : Nat) (q : Int) : Nat :=
  let s := b2n neg * 2 ^ (f.width - 1)
  if n < 2 ^ f.mbits then s + n
  else
    let n' := if n = 2 ^ (f.mbits + 1) then 2 ^ f.mbits else n
    let q' := if n = 2 ^ (f.mbits + 1) then q + 1 else q
    s + (q' + f.mbits + f.bias).toNat * 2 ^ f.mbits + (n' - 2 ^ f.mbits)

/-- How a conversion rounds (R106, R107): to nearest even, or stochastically with a 16-bit random value. -/
inductive Rounding where
  | nearest
  | stochastic (r : Nat)
  deriving DecidableEq, Repr

/-- Round m * 2^e to a whole number of units 2^q: the unit count taken. -/
def roundUnits (rd : Rounding) (m : Nat) (e q : Int) : Nat :=
  if q ≤ e then m * 2 ^ (e - q).toNat
  else
    let d := 2 ^ (q - e).toNat
    let n := m / d
    let r := m % d
    match rd with
    | .nearest => if 2 * r < d then n else if d < 2 * r then n + 1 else if n % 2 = 0 then n else n + 1
    | .stochastic v => if v < r * 65536 / d then n + 1 else n

/-- The exponent of the grid on which the format holds a magnitude m * 2^e, m not 0. -/
def FloatFmt.grid (f : FloatFmt) (m : Nat) (e : Int) : Int := max (Nat.log2 m + e) (1 - f.bias) - f.mbits

/-- The result of narrowing: code, and whether a finite value overflowed (Table 4.5). -/
structure Narrow where
  code : Nat
  ovf : Bool
  deriving DecidableEq, Repr

/-- The code an overflow gives (Table 4.5). -/
def FloatFmt.overflow (f : FloatFmt) (sat neg : Bool) : Nat :=
  let s := b2n neg * 2 ^ (f.width - 1)
  if sat || !(f.hasInf || f.hasNan) then f.codeOf neg f.lm f.le
  else if f.hasInf then s + (2 ^ f.ebits - 1) * 2 ^ f.mbits
  else f.nanCode

/-- Narrow an exact value into a floating-point element (R103, R106, R107). Above the largest finite magnitude L stochastic
rounding takes L's own spacing; saturated, it gives L. -/
def FloatFmt.narrow (f : FloatFmt) (rd : Rounding) (sat : Bool) (x : Num) : Narrow :=
  match x with
  | .nan => ⟨f.nanCode, false⟩
  | .inf neg =>
    if f.hasInf && !(sat && f.width == 8) then ⟨f.overflow false neg, false⟩ else ⟨f.overflow sat neg, false⟩
  | .fin neg m e =>
    if m = 0 then ⟨b2n neg * 2 ^ (f.width - 1), false⟩
    else
      let q := f.grid m e
      if magLt f.lm f.le m e then
        match rd with
        | .nearest =>
          let n := roundUnits .nearest m e q
          if magLt f.lm f.le n q then ⟨f.overflow sat neg, true⟩ else ⟨f.codeOf neg n q, false⟩
        | .stochastic r =>
          let lo := min e f.le
          let excess := m * 2 ^ (e - lo).toNat - f.lm * 2 ^ (f.le - lo).toNat
          let u := 2 ^ (f.le - lo).toNat
          if u ≤ excess ∨ r < excess * 65536 / u then ⟨f.overflow sat neg, true⟩ else ⟨f.codeOf neg f.lm f.le, false⟩
      else ⟨f.codeOf neg (roundUnits rd m e q) q, false⟩

/-! ## Integers -/

/-- Round to an integer in units 2^q and clamp: two's complement code of w bits, and whether it overflowed. -/
def narrowInt (rd : Rounding) (q lo hi : Int) (w : Nat) (x : Num) : Narrow :=
  match x with
  | .nan => ⟨0, false⟩
  | .inf neg => ⟨unsigned w (if neg then lo else hi), false⟩
  | .fin neg m e =>
    let n : Int := roundUnits rd m e q
    let v := if neg then -n else n
    ⟨unsigned w (max lo (min hi v)), decide (v < lo) || decide (hi < v)⟩

/-! ## Format codes (Table 4.1) -/

/-- Element bits of a format code. -/
def elemBits (c : Nat) : Nat :=
  if c = 0 then 32 else if c = 1 ∨ c = 2 then 16 else if c = 8 ∨ c = 9 then 6 else if c = 10 ∨ c = 12 then 4 else 8

/-- Whether a format is block-scaled (R91, R95). -/
def isBlock (c : Nat) : Bool := decide (6 ≤ c) && decide (c ≤ 12)

/-- Scale bytes per block (R93). -/
def scaleBytes (c : Nat) : Nat := if c = 12 then 2 else if isBlock c then 1 else 0

/-- Whether a code is a weight or stationary format. -/
def isTileFmt (c : Nat) : Bool := decide (1 ≤ c) && decide (c ≤ 12)

/-- Whether a code is a drain target or vector format. -/
def isTarget (c : Nat) : Bool := decide (c ≤ 12)

/-- The float format of a code's elements; none for the integers. -/
def floatOf (c : Nat) : Option FloatFmt :=
  match c with
  | 0 => some fp32
  | 1 => some bf16
  | 2 => some fp16
  | 3 => some e4m3
  | 4 => some e5m2
  | 6 => some e4m3
  | 7 => some e5m2
  | 8 => some e3m2
  | 9 => some e2m3
  | 10 => some e2m1
  | 12 => some e2m1
  | _ => none

/-- Decode an element, its block scale apart (R89, Table 4.2). -/
def decodeElem (c code : Nat) : Num :=
  match floatOf c with
  | some f => f.decode code
  | none =>
    let v := signed 8 code
    .fin (decide (v < 0)) v.natAbs (if c = 11 then -6 else 0)

/-- Apply a block's scale X and, for SS4, the step of element k (R91, R95). -/
def applyScale (c k : Nat) (scales : List Byte) (x : Num) : Num :=
  if !isBlock c then x
  else
    let b := k / 32
    let X := (scales.getD (b * scaleBytes c) 0).toNat
    if X = 255 then .nan
    else
      let t := if c = 12 then (scales.getD (2 * b + 1) 0).toNat / 4 ^ (k % 32 / 8) % 4 else 0
      x.scale ((X : Int) + t - 127)

/-- The w bits of a packed byte list from bit position p (R88). -/
def packedBits (bs : List Byte) (p w : Nat) : Nat := leNat ((bs.drop (p / 8)).take 5) / 2 ^ (p % 8) % 2 ^ w

/-- Element k of a packed row with its scales (R88, R93). -/
def rowElem (c : Nat) (bytes scales : List Byte) (k : Nat) : Num :=
  applyScale c k scales (decodeElem c (packedBits bytes (k * elemBits c) (elemBits c)))

/-- Round an exact value to FP32 bits, to nearest even (R98, R101). -/
def toF32 (x : Num) : Nat := (fp32.narrow .nearest false x).code

/-- The exact value of FP32 bits. -/
def ofF32 (b : Nat) : Num := fp32.decode b

/-! ## Block-scaled conversion (R96, R103, R104) -/

/-- Exponent of a non-zero magnitude: floor of log2. -/
def floorLog2 (m : Nat) (e : Int) : Int := Nat.log2 m + e

/-- The largest exponent among the non-zero magnitudes; none when all are zero. -/
def maxExp : List Num → Option Int
  | [] => none
  | .fin _ m e :: xs =>
    if m = 0 then maxExp xs
    else match maxExp xs with
      | none => some (floorLog2 m e)
      | some k => some (max k (floorLog2 m e))
  | _ :: xs => maxExp xs

/-- emax of R104. -/
def blockEmax (c : Nat) : Int :=
  if c = 6 then 8 else if c = 7 then 15 else if c = 8 then 4 else if c = 9 ∨ c = 10 then 2 else 0

/-- Narrow one scaled element of a block format; elements always saturate. -/
def narrowElem (c : Nat) (rd : Rounding) (x : Num) : Narrow :=
  match floatOf c with
  | some f => f.narrow rd true x
  | none => if c = 11 then narrowInt rd (-6) (-127) 127 8 x else narrowInt rd 0 (-128) 127 8 x

/-- The result of converting one block of up to 32 values: scale bytes, element codes, events overflow and nonfinite. -/
structure BlockOut where
  scales : List Nat
  codes : List Nat
  ovf : Bool
  nonfin : Bool
  deriving DecidableEq, Repr

/-- Convert a block into an MX format (R104). rd k is the rounding of element k. -/
def mxBlock (c : Nat) (rd : Nat → Rounding) (xs : List Num) : BlockOut :=
  if xs.any Num.nonfinite then ⟨[255], xs.map fun _ => 0, false, true⟩
  else match maxExp xs with
    | none => ⟨[0], xs.zipIdx.map fun p => (narrowElem c (rd p.2) p.1).code, false, false⟩
    | some k =>
      let X := max 0 (min 254 (k - blockEmax c + 127))
      let ys := xs.zipIdx.map fun p => narrowElem c (rd p.2) (p.1.scale (127 - X))
      ⟨[X.toNat], ys.map Narrow.code, ys.any Narrow.ovf, false⟩

/-- Convert a block into SS4 (R96). -/
def ss4Block (rd : Nat → Rounding) (xs : List Num) : BlockOut :=
  if xs.any Num.nonfinite then ⟨[255, 0], xs.map fun _ => 0, false, true⟩
  else
    let es := (List.range 4).map fun u => (maxExp ((xs.drop (8 * u)).take 8)).map fun k => max 0 (min 254 (k - 2 + 127))
    let have_ := es.filterMap id
    match have_.min?, have_.max? with
    | some lo, some hi =>
      let X := max lo (hi - 3)
      let t (u : Nat) : Int := match es.getD u none with
        | none => 0
        | some e => max 0 (min 3 (e - X))
      let ys := xs.zipIdx.map fun p => narrowElem 12 (rd p.2) (p.1.scale (127 - X - t (p.2 / 8)))
      let steps := t 0 + 4 * t 1 + 16 * t 2 + 64 * t 3
      ⟨[X.toNat, steps.toNat], ys.map Narrow.code, ys.any Narrow.ovf, false⟩
    | _, _ => ⟨[0, 0], xs.map fun _ => 0, false, false⟩

/-- Convert a block into format c. -/
def blockOut (c : Nat) (rd : Nat → Rounding) (xs : List Num) : BlockOut := if c = 12 then ss4Block rd xs else mxBlock c rd xs

/-- The bytes that pack codes of w bits each (R88). -/
def packCodes (w : Nat) (codes : List Nat) : List Byte :=
  leBytes ((codes.length * w + 7) / 8) (codes.foldr (fun c acc => c % 2 ^ w + 2 ^ w * acc) 0)

/-- Events of a conversion: finite overflow, NaN to INT8, a 0xFF scale (Table 4.8). -/
structure CvtEvt where
  ovf : Bool := false
  nanInt : Bool := false
  nonfin : Bool := false
  deriving DecidableEq, Repr

def CvtEvt.or (a b : CvtEvt) : CvtEvt := ⟨a.ovf || b.ovf, a.nanInt || b.nanInt, a.nonfin || b.nonfin⟩

/-- A converted row: element bytes, scale bytes, events. -/
structure RowOut where
  bytes : List Byte
  scales : List Byte
  evt : CvtEvt
  deriving DecidableEq, Repr

/-- Narrow one value into a format without blocks. -/
def narrowPlain (c : Nat) (rd : Rounding) (sat : Bool) (x : Num) : Narrow × CvtEvt :=
  match floatOf c with
  | some f => let n := f.narrow rd sat x; (n, { ovf := n.ovf })
  | none => let n := narrowInt rd 0 (-128) 127 8 x; (n, { ovf := n.ovf, nanInt := decide (x = .nan) })

/-- The blocks of 32 of a list. -/
def blocks32 (xs : List Num) : Nat → List (List Num)
  | 0 => []
  | k + 1 => xs.take 32 :: blocks32 (xs.drop 32) k

/-- Narrow a row of values into format c in row layout (R93, R103-R107). rd k is the rounding of element k. -/
def narrowRow (c : Nat) (rd : Nat → Rounding) (sat : Bool) (xs : List Num) : RowOut :=
  if isBlock c then
    let outs := (blocks32 xs (ceilDiv xs.length 32)).zipIdx.map fun p => blockOut c (fun k => rd (32 * p.2 + k)) p.1
    { bytes := packCodes (elemBits c) (outs.flatMap BlockOut.codes)
      scales := (outs.flatMap BlockOut.scales).map (BitVec.ofNat 8)
      evt := { ovf := outs.any BlockOut.ovf, nonfin := outs.any BlockOut.nonfin } }
  else
    let ys := xs.zipIdx.map fun p => narrowPlain c (rd p.2) sat p.1
    { bytes := packCodes (elemBits c) (ys.map fun y => y.1.code), scales := []
      evt := ys.foldl (fun a y => a.or y.2) {} }

/-! ## The stochastic generator (R108) -/

/-- One mixing step of rand16, on 64-bit values. -/
def mix64 (x sh mul : Nat) : Nat := (x ^^^ (x / 2 ^ sh)) * mul % 2 ^ 64

/-- The random value of element number n under a seed (R108). -/
def rand16 (seed n : Nat) : Nat :=
  let x := (seed + n * 0x9E3779B97F4A7C15) % 2 ^ 64
  let x := mix64 x 30 0xBF58476D1CE4E5B9
  let x := mix64 x 27 0x94D049BB133111EB
  let x := x ^^^ (x / 2 ^ 31)
  x / 2 ^ 48 % 2 ^ 16

end Sys2Proof.Machine
end

