-- ==== Sys2Proof/Machine/Arith.lean ====
section
/-! DEFINITION. Arithmetic: the cells and accumulators of the arrays (R97-R101), the vector engines' FP32 operations (R102, Table
4.4). Results that the manual states only within a bound are computed and then moved by a free value inside that bound. -/

namespace Sys2Proof.Machine

/-! ## FP32 on bit patterns -/

/-- FP32 addition, rounded to nearest even (R101). -/
def addF32 (a b : Nat) : Nat := toF32 ((ofF32 a).add (ofF32 b))

/-- Fused multiply-add with one rounding. An exact zero sum of opposite signs is +0; IEEE 754. -/
def fmaF32 (a b c : Nat) : Nat := toF32 (((ofF32 a).mul (ofF32 b)).add (ofF32 c))

def isNan (a : Nat) : Bool := ofF32 a == .nan

/-- The order of max on bit patterns: NaN below everything, -0 below +0 (Table 4.4). -/
def ordKey (a : Nat) : Int :=
  if isNan a then -(2 ^ 33)
  else if bitAt a 31 then -((a % 2 ^ 31 : Nat) : Int) - 1 else ((a % 2 ^ 31 : Nat) : Int)

/-- max: the larger operand; a NaN loses to a number; two NaNs give the canonical NaN. -/
def maxF32 (a b : Nat) : Nat :=
  if isNan a ∧ isNan b then 0x7FC00000 else if ordKey a < ordKey b then b else a

/-! ## One cell column by column (R98, R99) -/

/-- Elements per cell of a class, by the weight format (Table 3.1). -/
def perCell (w : Nat) : Nat := if elemBits w = 16 then 1 else if w = 10 ∨ w = 12 then 4 else 2

/-- Tile depth of a weight format's class (Table 3.1). -/
def classDepth (w : Nat) : Nat := 32 * perCell w

/-- Element bytes per column in full shape (Table 3.1). -/
def colBytes (w : Nat) : Nat := if w = 8 ∨ w = 9 then 48 else 64

/-- Scale bytes per column (Table 3.2). -/
def colScales (w : Nat) : Nat := if w = 12 then 8 else if w = 10 then 4 else if isBlock w then 2 else 0

/-- Whether a weight format may run against a stationary format (Table 4.3). -/
def pairOk (w s : Nat) : Bool :=
  if w = 1 ∨ w = 2 then s == 1 || s == 2
  else if w = 3 ∨ w = 4 ∨ w = 6 ∨ w = 7 then [3, 4, 6, 7].contains s
  else if w = 5 then s == 5
  else if w = 11 then s == 11 || s == 5
  else if w = 8 ∨ w = 9 then [3, 6, 8, 9].contains s
  else if w = 10 ∨ w = 12 then [3, 6, 10, 12].contains s
  else false

/-- Deepest tile a stationary format may hold; in quarter shape half, over the classes quarter shape accepts (R97, R125). -/
def deepest (s : Nat) (quarter : Bool) : Nat :=
  let ws := [1, 2, 3, 4, 5, 6, 7, 8, 9, 10, 11, 12].filter fun w => pairOk w s && (!quarter || decide (w ≤ 5))
  let d := ws.foldl (fun a w => max a (classDepth w)) 0
  if quarter then d / 2 else d

/-- The products of one cell added exactly to the arriving partial sum and rounded once to FP32 (R98). -/
def cellStep (p : Nat) (prods : List Num) : Nat := toF32 (prods.foldl Num.add (ofF32 p))

/-- The dot product of a tile row with a column: cells of k elements in order, tail positions forced to +0 (R73, R98, R100). An
INT8 stream against an INT8 tile sums exactly (R99). xs is the tile row, ws the column, red the reduction length. -/
def dotRow (w s cells : Nat) (red : Nat) (xs ws : Nat → Num) : Nat :=
  let k := perCell w
  let prod (i : Nat) : Num := if i < red then (xs i).mul (ws i) else Num.zero
  if w = 5 ∧ s = 5 then toF32 (((List.range (cells * k)).map prod).foldl Num.add Num.zero)
  else (List.range cells).foldl (fun p j => cellStep p ((List.range k).map fun t => prod (k * j + t))) 0

/-! ## Bounded functions of the vector engines -/

/-- Round a positive exact rational n / d * 2^e down to the FP32 grid: unit count, grid exponent, whether exact. -/
def floorGrid (n d : Nat) (e : Int) : Nat × Int × Bool :=
  let sh : Nat := 200
  let m := n * 2 ^ sh / d
  let ex := decide (n * 2 ^ sh % d = 0)
  let q := fp32.grid m (e - sh)
  if q ≤ e - sh then (m * 2 ^ (e - sh - q).toNat, q, ex)
  else
    let dd := 2 ^ (q - (e - sh)).toNat
    (m / dd, q, ex && decide (m % dd = 0))

/-- The magnitude code n * 2^q moved by k units in the last place, not below 0; past the range, infinity. -/
def gridCode (neg : Bool) (n : Nat) (q k : Int) : Nat :=
  toF32 (.fin neg ((n : Int) + k).toNat q)

/-- A result within u units in the last place of an exact value: the grid point below it moved by a free choice r. -/
def withinUlp (u : Nat) (neg : Bool) (g : Nat × Int × Bool) (r : Nat) : Nat :=
  if g.2.2 then gridCode neg g.1 g.2.1 ((r % (2 * u + 1) : Nat) - (u : Int))
  else gridCode neg g.1 g.2.1 ((r % (2 * u) : Nat) - (u : Int) + 1)

/-- 2^(1/2^i) in fixed point with 128 fraction bits, by repeated square roots. -/
def rootTwo : Nat → Nat
  | 0 => 2 ^ 129
  | i + 1 => Nat.sqrt (rootTwo i * 2 ^ 128)

/-- 2^f for a fraction f of 64 bits, with 128 fraction bits. -/
def powFrac (f : Nat) : Nat :=
  (List.range 64).foldl (fun acc i => if bitAt f (63 - i) then acc * rootTwo (i + 1) / 2 ^ 128 else acc) (2 ^ 128)

/-- exp2 within 2 ulp (Table 4.4); r chooses freely inside the bound. -/
def exp2F32 (r a : Nat) : Nat :=
  match ofF32 a with
  | .nan => 0x7FC00000
  | .inf neg => if neg then 0 else 0x7F800000
  | .fin neg m e =>
    if m = 0 then withinUlp 2 false (2 ^ 23, -23, true) r
    else
      let v := (Num.fin neg m e).units (-64 + min 0 (e + 64))
      let v64 := if e < -64 then v / 2 ^ (-64 - e).toNat else v
      let i := v64 / 2 ^ 64
      let f := (v64 % 2 ^ 64).toNat
      if 128 ≤ i then 0x7F800000
      else if i < -200 then withinUlp 2 false (0, -149, false) r
      else withinUlp 2 false (floorGrid (powFrac f) (2 ^ 128) i) r

/-- log2 of m / 2^200 in [1, 2) by repeated squaring: k fraction bits. -/
def logBits : Nat → Nat → Nat → Nat
  | 0, _, acc => acc
  | k + 1, x, acc =>
    let y := x * x / 2 ^ 200
    if 2 ^ 201 ≤ y then logBits k (y / 2) (2 * acc + 1) else logBits k y (2 * acc)

/-- log2 within 2 ulp (Table 4.4); r chooses freely inside the bound. -/
def log2F32 (r a : Nat) : Nat :=
  match ofF32 a with
  | .nan => 0x7FC00000
  | .inf neg => if neg then 0x7FC00000 else 0x7F800000
  | .fin neg m e =>
    if m = 0 then 0xFF800000
    else if neg then 0x7FC00000
    else
      let k := Nat.log2 m
      let f := logBits 96 (m * 2 ^ (200 - k)) 0
      let v : Int := (k + e) * 2 ^ 96 + f
      if v = 0 then withinUlp 2 false (0, -149, true) r
      else
        let g := floorGrid v.natAbs 1 (-96)
        withinUlp 2 (decide (v < 0)) (g.1, g.2.1, g.2.2 && decide (f = 0)) r

/-- rsqrt within 1 ulp (Table 4.4); r chooses freely inside the bound. -/
def rsqrtF32 (r a : Nat) : Nat :=
  match ofF32 a with
  | .nan => 0x7FC00000
  | .inf neg => if neg then 0x7FC00000 else 0
  | .fin neg m e =>
    if m = 0 then (if neg then 0xFF800000 else 0x7F800000)
    else if neg then 0x7FC00000
    else
      -- 1 / sqrt(m 2^e) = sqrt(2^(400 + s) / m) 2^(-(200 + (e + s) / 2)), e + s even
      let s : Int := e % 2
      let n := 2 ^ (400 + s).toNat / m
      let t := Nat.sqrt n
      let ex := decide (2 ^ (400 + s).toNat % m = 0) && decide (t * t = n)
      let g := floorGrid t 1 (-(200 + (e + s) / 2))
      withinUlp 1 false (g.1, g.2.1, g.2.2 && ex) r

/-- reciprocal within 1 ulp (Table 4.4); r chooses freely inside the bound. -/
def recipF32 (r a : Nat) : Nat :=
  match ofF32 a with
  | .nan => 0x7FC00000
  | .inf neg => b2n neg * 2 ^ 31
  | .fin neg m e =>
    if m = 0 then b2n neg * 2 ^ 31 + 0x7F800000 else withinUlp 1 neg (floorGrid 1 m (-e)) r

/-! ## Reductions (Table 4.4) -/

/-- One level of the pairwise tree: neighbours combined, an odd last one passes. -/
def pairUp (f : Nat → Nat → Nat) : List Nat → List Nat
  | a :: b :: xs => f a b :: pairUp f xs
  | xs => xs

/-- The pairwise tree over lanes in fixed order; n levels. -/
def treeFold (f : Nat → Nat → Nat) : Nat → List Nat → List Nat
  | 0, xs => xs
  | n + 1, xs => treeFold f n (pairUp f xs)

/-- Sum or maximum of up to 1,024 lanes in the order of Table 4.4. -/
def reduceLanes (f : Nat → Nat → Nat) (xs : List Nat) : Nat := (treeFold f 10 xs).headD 0

end Sys2Proof.Machine
end

