-- ==== Sys2Proof/Machine/RegIO.lean ====
section
/-! DEFINITION. Register access through BAR0: access codes, halves of wide registers, the set-up lock, locked shadows, and the
registers that no row of its own writes (R12-R14, R189). -/

namespace Sys2Proof.Machine

/-- The value a register's fields hold together; reserved bits are 0. -/
def State.regImage (s : State) (r : RegName) (i : Nat) : Nat :=
  r.fields.foldl (fun acc f => acc + s.get f i * 2 ^ f.lo) 0

/-- What a read of a register returns: WO fields as 0; device time and the calendar from their counters (R12, R49, R50). -/
def State.readReg (s : State) (r : RegName) (i : Nat) : Nat :=
  match r with
  | .HUB_DEVICE_TIME => s.time
  | .HUB_CALENDAR => s.calNow.word
  | _ => r.fields.foldl (fun acc f => if f.acc = .WO then acc else acc + s.get f i * 2 ^ f.lo) 0

/-- Whether the access is an aligned one of 4 or 8 bytes (R189). -/
def BarAcc.aligned (w : BarAcc) : Bool := (w.size == 4 || w.size == 8) && w.off % w.size == 0

/-- Whether the bits the access reaches touch the field. -/
def BarAcc.touches (w : BarAcc) (f : Fld) : Bool := decide (8 * w.off ≤ f.hi) && decide (f.lo < 8 * (w.off + w.size))

/-- The bits of the field that the access writes, as a mask on the field. -/
def BarAcc.mask (w : BarAcc) (f : Fld) : Nat :=
  let lo := max f.lo (8 * w.off) - f.lo
  let hi := min (f.hi + 1) (8 * (w.off + w.size)) - f.lo
  2 ^ hi - 2 ^ lo

/-- The value the access carries for the field; bits it does not reach are 0. -/
def BarAcc.bits (w : BarAcc) (f : Fld) : Nat :=
  let v := w.value.toNat % 2 ^ (8 * w.size) * 2 ^ (8 * w.off) / 2 ^ f.lo % 2 ^ f.width
  v &&& w.mask f

/-- The field's value after the access writes the bits it reaches. -/
def BarAcc.merge (w : BarAcc) (f : Fld) (cur : Nat) : Nat :=
  if w.touches f then (cur &&& (2 ^ f.width - 1 - w.mask f)) ||| w.bits f else cur

/-- Values that the tables clamp when written (Tables 6.11, 7.24). -/
def clampField (f : Fld) (v : Nat) : Nat :=
  if f = F.HUB_CFG_CTRL_quiesce_ms then clampN 1 10000 v
  else if f = F.MEM_REPAIR_CFG_repair_share then clampN 1 16 v
  else v

/-- The unit of Table 7.12 that a shadow register belongs to. -/
def RegName.shadowUnit : RegName → Option Nat
  | .MEM_MAP_SHADOW => some 0
  | .FAB_REGION_SHADOW => some 1
  | .FAB_BOARD_SHADOW => some 2
  | .FAB_ROUTE_SHADOW => some 2
  | .HUB_PART_MAP_SHADOW => some 3
  | .CTX_SHADOW => some 4
  | .COL_DEFAULTS_SHADOW => some 5
  | .WIN_PORT_CFG_SHADOW => some 6
  | .TEL_MON_CFG_SHADOW => some 7
  | .PWR_CAP_SHADOW => some 8
  | .PWR_LAMP_CFG_SHADOW => some 8
  | _ => none

/-- Fields that a row of the table of their own writes; the plain register write leaves them to that row. -/
def ownRow (f : Fld) : Bool :=
  [F.HUB_SETUP_LOCK_locked, F.HUB_ARRAY_CLK_ceiling_mhz, F.HUB_CALENDAR_SET_seconds, F.HUB_CALENDAR_SET_fraction,
   F.QD_SR_SEED_seed, F.QD_SR_CTR_counter, F.HUB_GRAPH_STORE_base_mib, F.MEM_CH_CFG_retrain_req, F.MEM_CH_CFG_evacuate_req,
   F.HUB_Q_CFG_enable, F.HUB_CQ_CFG_enable, F.FAB_NODE_ID_node, F.FAB_CFG_enable, F.FAB_RXQ_PTR_head,
   F.WIN_PORT_CTRL_retrain_req, F.WIN_PORT_CTRL_recal_req, F.HUB_DUMP_CTRL_start, F.TEL_LOG_SEL_seq].contains f

/-- Registers written only by rows of their own. -/
def RegName.ownRow : RegName → Bool
  | .HUB_SETUP_LOCK => true
  | .HUB_CALENDAR_SET => true
  | .HUB_Q_CTRL => true
  | .COL_POOL => true
  | .HUB_RESET_CTRL => true
  | .SEC_NOTICE_SUBMIT => true
  | .SEC_ROLLBACK_CTRL => true
  | .TEL_LOG_SEL => true
  | _ => false

/-- Fields that cannot change while their queue or ring is enabled (R196, R428, R239); an enabled receive ring is disabled by its
own row. -/
def State.frozenField (s : State) (f : Fld) (i : Nat) : Bool :=
  if [F.HUB_Q_CFG_priority, F.HUB_Q_CFG_log2_entries, F.HUB_Q_CFG_context, F.HUB_Q_CFG_function, F.HUB_Q_CFG_cq].contains f
  then s.isSet F.HUB_Q_CFG_enable i
  else if [F.HUB_CQ_CFG_log2_entries, F.HUB_CQ_CFG_vector, F.HUB_CQ_CFG_function].contains f
  then s.isSet F.HUB_CQ_CFG_enable i
  else if RegName.FAB_RXQ_CFG.fields.contains f then s.isSet F.FAB_RXQ_CFG_enable i
  else false

/-- One field's part of a register write, by its access code (Table 0.4); s0 is the state the write met. RO and WO fields hold
nothing a write leaves; a WO field's effect is its row's. -/
def State.writeField (s0 : State) (w : BarAcc) (i : Nat) (s : State) (f : Fld) : State :=
  if !w.touches f || ownRow f || s0.frozenField f i then s
  else match f.acc with
    | .RO => s
    | .WO => s
    | .RW => s.put f (clampField f (w.merge f (s.get f i))) i
    | .RWS => s.put f (clampField f (w.merge f (s.get f i))) i
    | .W1C => s.put f (s.get f i &&& (2 ^ f.width - 1 - w.bits f)) i
    | .RWL => if s.setupLocked then s else s.put f (clampField f (w.merge f (s.get f i))) i

/-- Whether the write reaches an RWL field while the set-up lock is set (R14). -/
def State.blocksWrite (s : State) (r : RegName) (w : BarAcc) : Bool :=
  s.setupLocked && r.fields.any fun f => f.acc = .RWL && w.touches f

/-- A write to the fields of a register, after the access itself has been accepted: a locked shadow ignores it and counts it
(R213), an RWL field behind the set-up lock ignores it and counts it (R14). -/
def State.writeReg (s : State) (r : RegName) (i : Nat) (w : BarAcc) : State :=
  match r.shadowUnit with
  | some u =>
    if s.commit.locks.contains u then s.bump F.HUB_CFG_STATUS_blocked 1 0
    else r.fields.foldl (State.writeField s w i) s
  | none =>
    let s' := r.fields.foldl (State.writeField s w i) s
    if s.blocksWrite r w then s'.blockedWrite else s'

/-- Whether the hub answers register accesses: its rail is up, bring-up has trained the host port or the device is ready, and no
link keeper has taken over (R35, R349). -/
def State.hubUp (s : State) : Bool := s.boot.phase != .off && s.boot.phase != .offLatched && !s.rst.keepers

/-- Registers that a virtual function's BAR0 holds (R191). -/
def RegName.vfVisible : RegName → Bool
  | .HUB_Q_BASE => true
  | .HUB_Q_CFG => true
  | .HUB_Q_STAT => true
  | .HUB_Q_CTRL => true
  | .HUB_CQ_BASE => true
  | .HUB_CQ_CFG => true
  | .HUB_CQ_STAT => true
  | _ => false

/-- Device-wide indices at which a field holds a non-zero value v, ascending. -/
def State.indicesWith (s : State) (f : Fld) (v : Nat) : List Nat :=
  s.regs.filterMap fun e => if e.1 % 1024 = f.code ∧ e.2 = v then some (e.1 / 1024) else none

/-- Whether function f exists: the PF, or a VF that is enabled (R185, R196). -/
def State.functionOn (s : State) (f : Nat) : Bool := f == 0 || (s.host.vfEnabled && decide (f ≤ s.host.numVfs))

/-- The n-th device-wide index of function fn in a function field: the PF sees all, an enabled VF its own in ascending order, at most
4,096 (R191). -/
def State.ownIx (s : State) (f : Fld) (fn : Fin 16) (n : Nat) : Option Nat :=
  if fn.val = 0 then some n else if s.functionOn fn && decide (n < 4096) then (s.indicesWith f fn.val)[n]? else none

/-- The device-wide queue index behind a function's index n (R191). -/
def State.queueIx (s : State) (fn : Fin 16) (n : Nat) : Option Nat := s.ownIx F.HUB_Q_CFG_function fn n

/-- The device-wide completion ring index behind a function's index n (R191). -/
def State.ringIx (s : State) (fn : Fin 16) (n : Nat) : Option Nat := s.ownIx F.HUB_CQ_CFG_function fn n

/-- The instance a function's access to register r reaches; none where the function does not hold it (R191). -/
def State.regIx (s : State) (r : RegName) (fn : Fin 16) (i : Nat) : Option Nat :=
  match r with
  | .HUB_Q_BASE => s.queueIx fn i
  | .HUB_Q_CFG => s.queueIx fn i
  | .HUB_Q_STAT => s.queueIx fn i
  | .HUB_Q_CTRL => s.queueIx fn i
  | .HUB_CQ_BASE => s.ringIx fn i
  | .HUB_CQ_CFG => s.ringIx fn i
  | .HUB_CQ_STAT => s.ringIx fn i
  | _ => if fn.val = 0 then some i else none

/-- The gate every register write passes: ill-aligned accesses are ignored and counted (R189), offsets that hold no register
are ignored. k receives the device-wide instance. -/
def State.onWrite (s : State) (r : RegName) (i : Nat) (w : BarAcc) (k : Nat → State) : State :=
  if !s.hubUp then s
  else if !w.aligned then s.badAccess
  else match s.regIx r w.fn i with
    | none => s
    | some j => if j < r.count ∧ 8 * w.off < r.width then k j else s

/-- Whether a write of HUB_RESET_CTRL carries a reserved kind (R340). -/
def BarAcc.noKind (w : BarAcc) : Bool := w.value.toNat % 16 == 0 || decide (5 < w.value.toNat % 16)

/-- REGISTER_WRITE: a register that has no row of its own takes the write by its fields' access codes (R12-R14). A write of
HUB_RESET_CTRL that asks for no reset is ignored and counted (R340). -/
def execRegisterWrite (r : RegName) (i : Nat) (w : BarAcc) (s : State) : Res :=
  .next <| s.onWrite r i w fun j =>
    if r = .HUB_RESET_CTRL then (if w.noKind then s.badAccess else s) else if r.ownRow then s else s.writeReg r j w

/-- SETUP_LOCK_WRITE: writing 1 sets the lock; writing 0 is ignored (R14); measurement 5 follows (R409). -/
def execSetupLockWrite (w : BarAcc) (s : State) : Res :=
  .next <| s.onWrite .HUB_SETUP_LOCK 0 w fun _ =>
    if w.touches F.HUB_SETUP_LOCK_locked && w.bits F.HUB_SETUP_LOCK_locked == 1 then
      (s.put F.HUB_SETUP_LOCK_locked 1 0).measureLock else s

end Sys2Proof.Machine
end

