-- ==== Sys2Proof/Machine/Work.lean ====
section
/-! DEFINITION. Work and its outcomes: descriptors of queues and node instances of graphs seen as one, engines and their progress
(R356-R359), what a unit takes and how it ends it. -/

namespace Sys2Proof.Machine

/-! ## Fields of byte structures -/

/-- The little-endian number in n bytes at an offset of a structure. -/
def fieldAt (bs : List Byte) (off n : Nat) : Nat := leNat ((bs.drop off).take n)

/-- Whether the n bytes at an offset are all 0. -/
def zeroAt (bs : List Byte) (off n : Nat) : Bool := ((bs.drop off).take n).all (· == 0)

/-! ## Queues, graph slots, launches as stored -/

def State.queue (s : State) (n : Nat) : Queue := SMap.get {} s.queues n
def State.setQueue (s : State) (n : Nat) (q : Queue) : State := { s with queues := SMap.set {} s.queues n q }
def State.ring (s : State) (n : Nat) : CRing := SMap.get {} s.rings n
def State.setRing (s : State) (n : Nat) (r : CRing) : State := { s with rings := SMap.set {} s.rings n r }
def State.graph (s : State) (g : Nat) : GSlot := SMap.get {} s.graphs g
def State.setGraph (s : State) (g : Nat) (v : GSlot) : State := { s with graphs := SMap.set {} s.graphs g v }

/-- Entries of queue n's ring (Table 7.7). -/
def State.ringSize (s : State) (n : Nat) : Nat := 2 ^ s.get F.HUB_Q_CFG_log2_entries n

/-- The entry of a ring index: the one fetched last. -/
def Queue.ent (q : Queue) (i : Nat) : Option QEnt := (q.ents.filter fun e => e.idx == i).getLast?

/-- Change the entry of a ring index. -/
def Queue.upd (q : Queue) (i : Nat) (f : QEnt → QEnt) : Queue :=
  match q.ent i with
  | none => q
  | some e => { q with ents := q.ents.map fun x => if x.idx = i ∧ x.order = e.order then f x else x }

/-- The context a descriptor names (Table 7.11). -/
def QEnt.ctxId (e : QEnt) : Nat := fieldAt e.bytes 2 2
def QEnt.opcode (e : QEnt) : Nat := fieldAt e.bytes 0 1
def QEnt.flag (e : QEnt) (b : Nat) : Bool := bitAt (fieldAt e.bytes 1 1) b

/-- Dispatched work without a committed outcome (R199): held in its header wait, or past dispatch. -/
def QEnt.open_ (e : QEnt) : Bool := e.committed.isNone && e.phase != .fetched

/-! ## Graph nodes (Tables 5.15, 5.16) -/

/-- Hub scratchpad offset of the graph store's first byte (R139). -/
def State.graphStore (s : State) : Nat := min (s.get F.HUB_GRAPH_STORE_base_mib 0) 127 * 2 ^ 20

/-- The 64 bytes of node k of the graph in slot g. -/
def State.nodeBytes (s : State) (g k : Nat) : List Byte :=
  s.hubsp.read (s.graphStore + (s.graph g).places.getD k 0 * 64) 64

/-- The opcode whose payload a node kind carries (R141). -/
def nodeOpcode : Nat → Nat
  | 1 => 0x01
  | 2 => 0x03
  | 3 => 0x05
  | 4 => 0x06
  | _ => 0

/-- Change an instance of a graph. -/
def GSlot.upd (g : GSlot) (node iter : Nat) (f : GInst → GInst) : GSlot :=
  { g with insts := g.insts.map fun x => if x.node = node ∧ x.iter = iter then f x else x }

/-! ## Work -/

/-- What a unit sees of the work it is given. -/
structure Item where
  opcode : Nat
  ctxId : Nat
  ctx : Ctx
  payload : List Byte
  phase : WPhase
  since : Nat := 0
  /-- an outcome has been committed already, by an abort (R207) -/
  aborted : Bool := false
  /-- the iteration and the graph argument of a node (R141) -/
  iter : Nat := 0
  garg : Nat := 0
  deriving DecidableEq, Repr

/-- The item behind a piece of work. -/
def State.item (s : State) (w : Work) : Option Item :=
  match w with
  | .desc n i =>
    match (s.queue n).ent i with
    | none => none
    | some e => some { opcode := e.opcode, ctxId := e.ctxId, ctx := e.ctx, payload := e.bytes.drop 32, phase := e.phase,
                       since := e.since, aborted := e.committed.isSome }
  | .node g k it =>
    match (s.graph g).insts.find? fun x => x.node == k && x.iter == it with
    | none => none
    | some x =>
      let bs := s.nodeBytes g k
      some { opcode := nodeOpcode (fieldAt bs 0 1), ctxId := (s.graph g).ctxId, ctx := (s.graph g).ctx,
             payload := bs.drop 32, phase := x.phase, iter := it, garg := (s.graph g).garg }

/-- The item, where the work has been dispatched to a unit under this opcode and the unit has not begun it. -/
def State.fresh (s : State) (w : Work) (op : Nat) : Option Item :=
  match s.item w with
  | none => none
  | some it => if it.opcode = op ∧ it.phase = .dispatched then some it else none

/-- The item, where its unit is at work on it. -/
def State.running (s : State) (w : Work) (op : Nat) : Option Item :=
  match s.item w with
  | none => none
  | some it => if it.opcode = op ∧ it.phase = .busy then some it else none

/-- Set the phase of a piece of work. -/
def State.setPhase (s : State) (w : Work) (p : WPhase) : State :=
  match w with
  | .desc n i => s.setQueue n ((s.queue n).upd i fun e => { e with phase := p })
  | .node g k it => s.setGraph g ((s.graph g).upd k it fun x => { x with phase := p })

/-- The unit has begun the work and goes on with it. -/
def State.begin_ (s : State) (w : Work) : State := s.setPhase w .busy

/-- The operation ends with a status (R201 step 1); work already ended keeps its end (R17). -/
def State.finish (s : State) (w : Work) (st : Status) (detail : Nat) : State :=
  match w with
  | .desc n i => s.setQueue n ((s.queue n).upd i fun e =>
      if e.phase = .ended then e else { e with phase := .ended, result := some ⟨st, detail⟩ })
  | .node g k it => s.setGraph g ((s.graph g).upd k it fun x =>
      if x.phase = .ended then x else { x with phase := .ended, result := some ⟨st, detail⟩ })

/-- Change the result of work that has ended and has no committed outcome: a stop or reset outranks it (R121, R208). -/
def State.endAs (s : State) (w : Work) (st : Status) : State :=
  match w with
  | .desc n i => s.setQueue n ((s.queue n).upd i fun e => { e with phase := .ended, result := some ⟨st, 0⟩ })
  | .node g k it => s.setGraph g ((s.graph g).upd k it fun x => { x with phase := .ended, result := some ⟨st, 0⟩ })

/-- Whether the work still stands open at its unit. -/
def State.workOpen (s : State) (w : Work) : Bool :=
  match s.item w with
  | none => false
  | some it => it.phase == .dispatched || it.phase == .busy

/-! ## Engines (Table 12.3, R356-R359) -/

def State.eng (s : State) (e : Nat) : Eng := SMap.get {} s.engines e

/-- Write an engine's suspect list into HUB_SUSPECT (R358). -/
def State.showSuspects (s : State) (e : Nat) (xs : List Nat) : State :=
  (List.range 8).foldl (fun s k =>
    match xs[k]? with
    | some x => (s.put F.HUB_SUSPECT_context x (8 * e + k)).put F.HUB_SUSPECT_valid 1 (8 * e + k)
    | none => (s.put F.HUB_SUSPECT_context 0 (8 * e + k)).put F.HUB_SUSPECT_valid 0 (8 * e + k)) s

/-- Store an engine and show it in its registers. -/
def State.setEng (s : State) (e : Nat) (v : Eng) : State :=
  let s := { s with engines := SMap.set {} s.engines e v }
  let s := s.putB F.HUB_PROGRESS_busy (!v.active.isEmpty) e
  let s := s.put F.HUB_PROGRESS_context (v.active.headD 0) e
  s.showSuspects e v.suspects

/-- Engine e takes work of context x. -/
def State.engTake (s : State) (e x : Nat) : State :=
  let v := s.eng e
  let old := if v.frozen then [] else v.suspects
  s.setEng e { active := v.active ++ [x], suspects := if old.contains x then old else (old ++ [x]).take 8, frozen := false }

/-- Engine e's count advances by n (Table 12.3). -/
def State.engAdvance (s : State) (e n : Nat) : State :=
  let v := s.eng e
  let s := s.put F.HUB_PROGRESS_count (s.get F.HUB_PROGRESS_count e + n) e
  if v.frozen then s else s.setEng e { v with suspects := v.active.dedup.take 8 }

/-- Engine e ends a piece of work of context x. -/
def State.engRelease (s : State) (e x : Nat) : State :=
  let v := s.eng e
  s.setEng e { v with active := v.active.erase x }

/-- Engine e is held by something outside itself, or no longer (R356). -/
def State.engWaiting (s : State) (e : Nat) (b : Bool) : State := s.putB F.HUB_PROGRESS_waiting b e

/-- A reset of engine e keeps its suspects and drops its work (R358). -/
def State.engReset (s : State) (e : Nat) : State :=
  let v := s.eng e
  (s.setEng e { active := [], suspects := v.suspects, frozen := true }).engWaiting e false

/-- Whether engine e admits work of context x (R359). -/
def State.gateOpen (s : State) (e x : Nat) : Bool :=
  !s.isSet F.HUB_ENGINE_GATE_en e || s.get F.HUB_ENGINE_GATE_context e == x

/-! ## What a stop or a reset holds back -/

/-- A chip reset or power cycle has been accepted and is past its wait, or the module is in hold-up: nothing new is fetched, dispatched
or issued (R307, R346). -/
def State.quiescing (s : State) : Bool :=
  s.rst.keepers || s.get F.PWR_STAT_feed 0 == 2 || s.rst.cycleWait || s.rst.heldFailed ||
  match s.rst.run with
  | some r => (r.req.kind == .chip || r.req.kind == .powerCycle) && decide (0 < r.stage)
  | none => false

end Sys2Proof.Machine
end

