-- ==== Sys2Proof/Machine/Queues.lean ====
section
/-! DEFINITION. Queues, doorbells, descriptors and completion rings (chapter 07, R195-R205, R428). -/

namespace Sys2Proof.Machine

/-- A stop has begun and has not ended (Table 11.13). -/
def State.stopActive (s : State) : Bool := s.get F.THM_STOP_STAT_state 0 != 0

/-- How far index i lies past index b in a ring of n slots. -/
def ringDist (n b i : Nat) : Nat := (i + n - b % n) % n

/-! ## Replay points (R357) -/

/-- Open descriptors of context x with their queue, from every queue. -/
def State.openOf (s : State) (x : Nat) : List (Nat × QEnt) :=
  s.queues.flatMap fun q => (q.2.ents.filter fun e => e.open_ && e.ctxId == x).map fun e => (q.1, e)

/-- The one dispatched first. -/
def oldest : List (Nat × QEnt) → Option (Nat × QEnt)
  | [] => none
  | a :: as =>
    match oldest as with
    | none => some a
    | some b => if a.2.order ≤ b.2.order then some a else some b

/-- Show the replay start point of context x, unless a reset froze it. -/
def State.showReplay (s : State) (x : Nat) : State :=
  if s.isSet F.HUB_CTX_REPLAY_frozen x then s
  else match oldest (s.openOf x) with
    | some (n, e) =>
      ((s.put F.HUB_CTX_REPLAY_valid 1 x).put F.HUB_CTX_REPLAY_queue n x).put F.HUB_CTX_REPLAY_index e.idx x
    | none =>
      ((s.put F.HUB_CTX_REPLAY_valid 0 x).put F.HUB_CTX_REPLAY_queue 0 x).put F.HUB_CTX_REPLAY_index 0 x

/-- A reset that ends context x's work keeps the point it found (R357). -/
def State.freezeReplay (s : State) (x : Nat) : State :=
  if s.isSet F.HUB_CTX_REPLAY_valid x then s.put F.HUB_CTX_REPLAY_frozen 1 x else s

/-! ## Enable, disable, doorbell, resume (R196, R197, R202) -/

/-- The merged value of a field under a write. -/
def State.after (s : State) (w : BarAcc) (f : Fld) (i : Nat) : Nat := w.merge f (s.get f i)

/-- Put queue n in error (R196, R197, R199). -/
def State.queueError (s : State) (n cause : Nat) : State :=
  (s.put F.HUB_Q_STAT_state 3 n).put F.HUB_Q_STAT_error_cause cause n

/-- Whether an enable of queue n is refused (R196); read after the write's other fields are in. -/
def State.enableRefused (s : State) (n : Nat) : Bool :=
  let l := s.get F.HUB_Q_CFG_log2_entries n
  let f := s.get F.HUB_Q_CFG_function n
  let c := s.ctxOf (s.get F.HUB_Q_CFG_context n)
  let cq := s.get F.HUB_Q_CFG_cq n
  decide (l < 6) || decide (16 < l) || !c.valid || c.function != f || !s.isSet F.HUB_CQ_CFG_enable cq ||
  s.get F.HUB_CQ_CFG_function cq != f || !s.functionOn f

/-- QUEUE_ENABLE: a write that sets HUB_Q_CFG[n].enable (R196). -/
def execQueueEnable (n : Fin 65536) (w : BarAcc) (s : State) : Res :=
  .next <| s.onWrite .HUB_Q_CFG n w fun n =>
    if s.isSet F.HUB_Q_CFG_enable n || s.after w F.HUB_Q_CFG_enable n == 0 then s
    else
      let s := s.writeReg .HUB_Q_CFG n w
      if s.enableRefused n then s.queueError n 1
      else
        let s := (s.put F.HUB_Q_CFG_enable 1 n).put F.HUB_Q_STAT_state 1 n
        let s := (s.put F.HUB_Q_STAT_head 0 n).put F.HUB_Q_STAT_tail 0 n
        let s := (s.put F.HUB_Q_STAT_error_cause 0 n).put F.HUB_Q_STAT_halt_status 0 n
        (s.put F.HUB_Q_STAT_halt_index 0 n).setQueue n {}

/-- A queue whose enable is clear reads disabled once no dispatched descriptor remains. -/
def State.settleQueue (s : State) (n : Nat) : State :=
  let q := s.queue n
  if q.closing && q.ents.isEmpty then (s.put F.HUB_Q_STAT_state 0 n).setQueue n { q with closing := false } else s

/-- Stop fetch on queue n: descriptors taken and not dispatched are dropped, dispatched ones run on. -/
def State.closeQueue (s : State) (n : Nat) : State :=
  let q := s.queue n
  let s := s.put F.HUB_Q_CFG_enable 0 n
  let s := s.setQueue n { q with closing := true, reading := none, ents := q.ents.filter fun e => e.phase != .fetched }
  s.settleQueue n

/-- QUEUE_DISABLE: a write that clears HUB_Q_CFG[n].enable (R196). -/
def execQueueDisable (n : Fin 65536) (w : BarAcc) (s : State) : Res :=
  .next <| s.onWrite .HUB_Q_CFG n w fun n =>
    if s.isSet F.HUB_Q_CFG_enable n && w.touches F.HUB_Q_CFG_enable && s.after w F.HUB_Q_CFG_enable n == 0
    then s.closeQueue n else s

/-- Ring index of the oldest descriptor without a committed outcome: the first held one, or the head past indices aborted
before fetch (R197). -/
def State.oldestIx (s : State) (n : Nat) : Nat :=
  match (s.queue n).ents.find? fun e => e.committed.isNone with
  | some e => e.idx
  | none =>
    let size := s.ringSize n
    (List.range size).foldl (fun h _ =>
      if (s.queue n).skip.contains h && h != s.get F.HUB_Q_STAT_tail n then (h + 1) % size else h) (s.get F.HUB_Q_STAT_head n)

/-- Whether a doorbell to queue n is handled: it runs, or the stop that the device is in halted it (R197, R331). -/
def State.takesDoorbell (s : State) (n : Nat) : Bool :=
  s.get F.HUB_Q_STAT_state n == 1 || (s.stopActive && (s.queue n).stopHalt.isSome)

/-- A new tail at queue n: accepted, or an overrun (R197). -/
def State.newTail (s : State) (n tail : Nat) : State :=
  let size := s.ringSize n
  let old := s.oldestIx n
  let nNew := ringDist size old tail
  let nAcc := ringDist size old (s.get F.HUB_Q_STAT_tail n)
  if tail < size ∧ nAcc ≤ nNew then
    let q := s.queue n
    (s.put F.HUB_Q_STAT_tail tail n).setQueue n { q with accepted := q.accepted + (nNew - nAcc) }
  else (s.queueError n 2).vec0

/-- DOORBELL: a write to queue page n (R197). -/
def execDoorbell (n : Fin 65536) (w : BarAcc) (s : State) : Res :=
  .next <|
    if s.boot.phase != .ready then s.bump F.HUB_EARLY_DOORBELLS_count 1 0
    else if !s.hubUp then s
    else if w.off != 0 || w.size != 8 then s
    else match s.queueIx w.fn n with
      | none => s
      | some n =>
        if 2 ^ 16 ≤ w.value.toNat ∨ !s.takesDoorbell n then s else s.newTail n w.value.toNat

/-- Restart dispatch on a halted queue. -/
def State.resumeQueue (s : State) (n : Nat) : State :=
  let q := s.queue n
  if s.get F.HUB_Q_STAT_state n == 2 && !s.stopActive then
    (s.put F.HUB_Q_STAT_state 1 n).setQueue n { q with stopHalt := none }
  else s

/-- QUEUE_RESUME: a write of resume without set_head (R202). -/
def execQueueResume (n : Fin 65536) (w : BarAcc) (s : State) : Res :=
  .next <| s.onWrite .HUB_Q_CTRL n w fun n =>
    if w.bits F.HUB_Q_CTRL_resume == 1 && w.bits F.HUB_Q_CTRL_set_head == 0 then s.resumeQueue n else s

/-- QUEUE_SET_HEAD: a write of resume with set_head; new_head must lie between halt_index + 1 and tail in ring order, or the
write is ignored (R202). -/
def execQueueSetHead (n : Fin 65536) (w : BarAcc) (s : State) : Res :=
  .next <| s.onWrite .HUB_Q_CTRL n w fun n =>
    if w.bits F.HUB_Q_CTRL_resume == 1 && w.bits F.HUB_Q_CTRL_set_head == 1 && s.get F.HUB_Q_STAT_state n == 2
        && !s.stopActive then
      let size := s.ringSize n
      let h := w.bits F.HUB_Q_CTRL_new_head
      let lo := (s.get F.HUB_Q_STAT_halt_index n + 1) % size
      if h < size ∧ ringDist size lo h ≤ ringDist size lo (s.get F.HUB_Q_STAT_tail n) then
        let q := s.queue n
        let s := s.setQueue n { q with ents := q.ents.filter (fun e => e.phase != .fetched), reading := none }
        (s.put F.HUB_Q_STAT_head h n).resumeQueue n
      else s
    else s

/-! ## Completion rings (R203, R204, R428) -/

/-- Slots of completion ring n. -/
def State.cqSize (s : State) (n : Nat) : Nat := 2 ^ s.get F.HUB_CQ_CFG_log2_entries n

/-- Whether an enable of completion ring n is refused (R428). -/
def State.cqRefused (s : State) (n : Nat) : Bool :=
  let l := s.get F.HUB_CQ_CFG_log2_entries n
  let f := s.get F.HUB_CQ_CFG_function n
  decide (l < 6) || decide (16 < l) || decide ((if f = 0 then 1024 else 64) ≤ s.get F.HUB_CQ_CFG_vector n) || !s.functionOn f

/-- CQ_ENABLE: a write that sets HUB_CQ_CFG[n].enable (R428, Table 7.15). -/
def execCqEnable (n : Fin 65536) (w : BarAcc) (s : State) : Res :=
  .next <| s.onWrite .HUB_CQ_CFG n w fun n =>
    if s.isSet F.HUB_CQ_CFG_enable n || s.after w F.HUB_CQ_CFG_enable n == 0 then s
    else
      let s := s.writeReg .HUB_CQ_CFG n w
      if s.cqRefused n then s.put F.HUB_CQ_STAT_enable_refused 1 n
      else
        let s := (s.put F.HUB_CQ_CFG_enable 1 n).put F.HUB_CQ_STAT_enable_refused 0 n
        let s := (s.put F.HUB_CQ_STAT_position 0 n).put F.HUB_CQ_STAT_head 0 n
        (s.put F.HUB_CQ_STAT_dropped 0 n).setRing n {}

/-- CQ_DISABLE: a write that clears HUB_CQ_CFG[n].enable (R428). -/
def execCqDisable (n : Fin 65536) (w : BarAcc) (s : State) : Res :=
  .next <| s.onWrite .HUB_CQ_CFG n w fun n =>
    if s.isSet F.HUB_CQ_CFG_enable n && w.touches F.HUB_CQ_CFG_enable && s.after w F.HUB_CQ_CFG_enable n == 0
    then s.put F.HUB_CQ_CFG_enable 0 n else s

/-- CQ_HEAD_WRITE: a write to offset 0x008 of doorbell page n returns slots when the head lies in range; any other is ignored
and counted (R203). -/
def execCqHeadWrite (n : Fin 65536) (w : BarAcc) (s : State) : Res :=
  .next <|
    if s.boot.phase != .ready || !s.hubUp then s
    else if w.off != 8 then s
    else match s.ringIx w.fn n with
      | none => s
      | some n =>
        if w.size != 8 then s.badAccess else
        let size := s.cqSize n
        let h := w.value.toNat % 2 ^ 16
        let cur := s.get F.HUB_CQ_STAT_head n
        if h < size ∧ ringDist size cur h ≤ ringDist size cur (s.get F.HUB_CQ_STAT_position n) then
          let r := s.ring n
          (s.put F.HUB_CQ_STAT_head h n).setRing n (if h = cur then r else { r with stalledSince := 0 })
        else s.badAccess

/-- Write the records held under hint (R204). -/
def State.flushHeld (s : State) (n : Nat) : State :=
  let r := s.ring n
  (s.setRing n { r with held := [] }).emitAll (r.held.map fun e => .hostWrite e.1 e.2)

/-- Send the ring's vector and start counting afresh. -/
def State.sendVector (s : State) (n : Nat) : State :=
  let s := s.flushHeld n
  let s := s.emit (.msix (s.get F.HUB_CQ_CFG_function n) (s.get F.HUB_CQ_CFG_vector n))
  s.setRing n { s.ring n with pendInt := 0 }

/-- A record whose descriptor had interrupt set makes the vector pending, or sends it (R204). -/
def State.pendVector (s : State) (n : Nat) : State :=
  if !s.isSet F.HUB_CQ_CFG_int_en n then s
  else
    let r := s.ring n
    let r := { r with pendInt := r.pendInt + 1, pendSince := if r.pendInt = 0 then s.time else r.pendSince }
    let s := s.setRing n r
    let cnt := s.get F.HUB_CQ_CFG_mod_count n
    if (cnt = 0 ∧ s.get F.HUB_CQ_CFG_mod_us n = 0) ∨ (cnt ≠ 0 ∧ cnt ≤ r.pendInt) then s.sendVector n else s

/-- Whether ring n holds ring size - 1 records not yet returned. -/
def State.cqFull (s : State) (n : Nat) : Bool :=
  ringDist (s.cqSize n) (s.get F.HUB_CQ_STAT_head n) (s.get F.HUB_CQ_STAT_position n) == s.cqSize n - 1

/-- The 16 bytes of a completion record (Table 7.14). -/
def recordBytes (queue index : Nat) (r : Result) (phase : Bool) (time : Nat) : List Byte :=
  leBytes 2 queue ++ leBytes 2 index ++ leBytes 1 r.status.code ++ leBytes 1 (b2n phase) ++ leBytes 2 r.detail ++ leBytes 8 time

/-- Post a record in the ring's next slot, held where hint allows it; a disabled ring drops and counts it. -/
def State.postRecord (s : State) (cq : Nat) (bytes : Bool → List Byte) (hint interrupt : Bool) : State :=
  if !s.isSet F.HUB_CQ_CFG_enable cq then s.bump F.HUB_CQ_STAT_dropped 1 cq
  else
    let pos := s.get F.HUB_CQ_STAT_position cq
    let r := s.ring cq
    let entry := (s.get F.HUB_CQ_BASE_base cq * 4096 + 16 * pos, bytes r.phase)
    let next := (pos + 1) % s.cqSize cq
    let r := { r with phase := if next = 0 then !r.phase else r.phase
                      heldSince := if r.held.isEmpty then s.time else r.heldSince, held := r.held ++ [entry] }
    let s := (s.setRing cq r).put F.HUB_CQ_STAT_position next cq
    let s := if hint then s else s.flushHeld cq
    if interrupt then s.pendVector cq else s

/-! ## Descriptor fetch and checks (R199, R200) -/

/-- Whether the queue engine may read descriptors at all (R35, R185, R331, R346). -/
def State.mayFetch (s : State) : Bool :=
  s.boot.phase == .ready && s.host.up && !s.host.d3 && !s.quiescing && !s.stopActive && !s.unitFrozen 0x10

/-- Whether queue n has descriptors to fetch. -/
def State.wantsFetch (s : State) (n : Nat) : Bool :=
  s.get F.HUB_Q_STAT_state n == 1 && s.isSet F.HUB_Q_CFG_enable n && (s.queue n).reading.isNone &&
  s.get F.HUB_Q_STAT_head n != s.get F.HUB_Q_STAT_tail n

/-- Round robin within a list of queues: the first one past the last served, else the first. -/
def nextAfter (last : Nat) (l : List Nat) : Option Nat :=
  match l.find? fun n => decide (last < n) with
  | some n => some n
  | none => l.head?

/-- The queue served next: strict priority, round robin within a level (R199). -/
def State.pickQueue (s : State) : Option Nat :=
  let l := (s.indicesWith F.HUB_Q_STAT_state 1).filter s.wantsFetch
  let at_ (p : Nat) := nextAfter (SMap.get 0 s.served p) (l.filter fun n => s.get F.HUB_Q_CFG_priority n == p)
  (at_ 3).or ((at_ 2).or ((at_ 1).or (at_ 0)))

/-- DESCRIPTOR_FETCH: issue a read of up to 8 descriptors of the queue served next (R199). -/
def execDescriptorFetch (s : State) : Res :=
  .next <|
    if !s.mayFetch then s
    else match s.pickQueue with
      | none => s
      | some n =>
        let size := s.ringSize n
        let head := s.get F.HUB_Q_STAT_head n
        let cnt := min 8 (min (ringDist size head (s.get F.HUB_Q_STAT_tail n)) (size - head))
        let s := { s with served := SMap.set 0 s.served (s.get F.HUB_Q_CFG_priority n) n }
        let s := s.setQueue n { s.queue n with reading := some (head, cnt) }
        let s := s.put F.HUB_Q_STAT_head ((head + cnt) % size) n
        s.emit (.hostRead n (s.get F.HUB_Q_BASE_base n * 4096 + 64 * head) (64 * cnt))

/-- Reserved parts of each opcode's payload, as offset and length within the descriptor (the owning chapters' tables). -/
def reservedParts (op : Nat) (bs : List Byte) : List (Nat × Nat) :=
  if op = 0x01 then [(47, 1)]
  else if op = 0x02 then [(48, 16)]
  else if op = 0x03 then [(58, 6)]
  else if op = 0x04 then [(56, 1), (58, 6)]
  else if op = 0x07 then [(37, 3), (48, 4), (52, 12)]
  else if op = 0x08 then [(36, 1), (37, 3), (52, 12)]
  else if op = 0x0A then [(38, 26)]
  else if op = 0x0B then [(36, 2), (38, 26)]
  else if op = 0x0E then (if fieldAt bs 36 1 = 1 then [(34, 2)] else []) ++ [(37, 27)]
  else if op = 0x0F then [(45, 19)]
  else []

/-- Bits within a payload byte or half-word that are reserved: offset, length, mask of the bits that may be set. -/
def reservedBits (op : Nat) : List (Nat × Nat × Nat) :=
  if op = 0x01 then [(46, 1, 1)]
  else if op = 0x02 then [(39, 1, 1)]
  else if op = 0x0A then [(36, 2, 0x1FF)]
  else if op = 0x0F then [(44, 1, 1)]
  else []

/-- The offset of the first reserved field that is not 0 (R200). -/
def reservedFault (op : Nat) (bs : List Byte) : Option Nat :=
  if fieldAt bs 1 1 ≥ 16 then some 1
  else if !zeroAt bs 20 4 then some 20
  else
    let a := (reservedParts op bs).filterMap fun p => if zeroAt bs p.1 p.2 then none else some p.1
    let b := (reservedBits op).filterMap fun p => if fieldAt bs p.1 p.2.1 &&& p.2.2 = fieldAt bs p.1 p.2.1 then none else some p.1
    (a ++ b).min?

/-- Whether a context may issue an opcode (R194). -/
def Ctx.allows (c : Ctx) (op : Nat) : Bool :=
  if [0x0A, 0x0B, 0x0D, 0x0F].contains op then c.admin && c.function == 0
  else if op = 0x05 ∨ op = 0x06 then c.fabric
  else if op = 0x0C then c.reflect
  else true

/-- The checks of R200 that need no owning chapter, in order: none, or the detail of the refusal. -/
def State.descFault (s : State) (n : Nat) (bs : List Byte) : Option Nat :=
  let op := fieldAt bs 0 1
  let cid := fieldAt bs 2 2
  let c := s.ctxOf cid
  let waitObj := fieldAt bs 4 4
  if op = 0 ∨ 0x0F < op then some 0
  else if (reservedFault op bs).isSome then reservedFault op bs
  else if 4096 ≤ cid ∨ !c.valid ∨ c.function ≠ s.get F.HUB_Q_CFG_function n then some 2
  else if waitObj ≠ 0xFFFFFFFF ∧ !c.maySync waitObj then some 4
  else if bitAt (fieldAt bs 1 1) 1 ∧ !c.maySync (fieldAt bs 16 4) then some 16
  else if (op = 0x07 ∨ op = 0x08) ∧ !c.maySync (fieldAt bs 32 4) then some 32
  else if !c.allows op then some 2
  else none

/-- The descriptors of a read: 64 bytes each. -/
def chunk64 (bs : List Byte) : Nat → List (List Byte)
  | 0 => []
  | k + 1 => bs.take 64 :: chunk64 (bs.drop 64) k

/-- DESCRIPTOR_READ_DONE: the descriptors of a read arrive, or the read failed and the queue is in error
(R199). -/
def execDescriptorReadDone (n : Fin 65536) (data : Option (List Byte)) (s : State) : Res :=
  let q := s.queue n
  match q.reading with
  | none => .next s
  | some (first, cnt) =>
    match data with
    | none => .next ((s.setQueue n { q with reading := none }).queueError n 3)
    | some bs =>
      if bs.length ≠ 64 * cnt then .fault .illFormed
      else
        let size := s.ringSize n
        let ents := ((chunk64 bs cnt).zipIdx.filter fun p => !q.skip.contains ((first + p.2) % size)).map fun p =>
          ({ idx := (first + p.2) % size, bytes := p.1 } : QEnt)
        let gone := (List.range cnt).map fun k => (first + k) % size
        .next (s.setQueue n { q with reading := none, ents := q.ents ++ ents, skip := q.skip.filter fun i => !gone.contains i })

/-! ## Dispatch (R199) -/

/-- Whether every earlier descriptor of the queue has a committed outcome. -/
def Queue.fenceOpen (q : Queue) (e : QEnt) : Bool :=
  (q.ents.takeWhile fun x => !(x.idx == e.idx && x.phase == e.phase && x.order == e.order)).all fun x => x.committed.isSome

/-- Descriptors dispatched without a committed outcome. -/
def Queue.inFlight (q : Queue) : Nat := (q.ents.filter fun e => e.open_ && e.phase != .waiting).length

/-- DESCRIPTOR_DISPATCH: the queue's next descriptor, in ring order, goes to its unit when its fence and wait allow it; a held
one is taken and waits; one that failed its checks ends at once (R199, R200). -/
def execDescriptorDispatch (n : Fin 65536) (s : State) : Res :=
  .next <|
    let q := s.queue n
    if s.get F.HUB_Q_STAT_state n != 1 || s.quiescing || s.stopActive || s.unitFrozen 0x10 then s
    else match q.ents.find? fun e => e.phase == .fetched || e.phase == .waiting with
      | none => s
      | some e =>
        if (e.flag 0 && !q.fenceOpen e) || 64 ≤ q.inFlight then s
        else
          let c := s.ctxOf e.ctxId
          let order := s.order + 1
          let snap := if e.opcode = 0x0E then (s.queue (fieldAt e.bytes 32 2)).accepted else 0
          let mark (e' : QEnt) : State :=
            let e' := { e' with snap := snap }
            let ents := q.ents.map fun x => if x.idx = e.idx ∧ x.phase = e.phase ∧ x.order = e.order then e' else x
            let s := { s with order := order }.setQueue n { q with ents := ents }
            let s := s.put F.HUB_CTX_REPLAY_frozen 0 e.ctxId
            s.showReplay e.ctxId
          let bad := e.result.or ((s.descFault n e.bytes).map fun d => ⟨.eFormat, d⟩)
          if bad.isSome then
            mark { e with phase := .ended, order := if e.phase = .waiting then e.order else order, ctx := c, since := s.time, result := bad }
          else
            let obj := fieldAt e.bytes 4 4
            if obj ≠ 0xFFFFFFFF ∧ s.syncVal obj < fieldAt e.bytes 8 8 then
              if e.phase = .waiting then s else mark { e with phase := .waiting, order := order, ctx := c, since := s.time }
            else
              let s := mark { e with phase := .dispatched, order := if e.phase = .waiting then e.order else order,
                                     ctx := c, since := s.time }
              s.engAdvance 26 1

/-! ## Completion (R201, R202) -/

/-- A status that does not halt its queue (R202). -/
def Status.noHalt (st : Status) : Bool := st.good || st == .eAbortTooLate

/-- The outcome a status halts its queue with: the first recorded stays; a queue halted by a stop names the oldest descriptor that the
stop ended (R202). -/
def State.haltQueue (s : State) (n idx : Nat) (st : Status) : State :=
  if st.noHalt then s
  else if s.get F.HUB_Q_STAT_state n = 1 then
    ((s.put F.HUB_Q_STAT_state 2 n).put F.HUB_Q_STAT_halt_status st.code n).put F.HUB_Q_STAT_halt_index idx n
  else match (s.queue n).stopHalt with
    | none => s
    | some next =>
      let size := s.ringSize n
      if s.get F.HUB_Q_STAT_halt_status n = st.code ∧ ringDist size (s.get F.HUB_Q_STAT_halt_index n) next < ringDist size idx next then
        s.put F.HUB_Q_STAT_halt_index idx n
      else s

/-- Whether the records that must go before this one's have gone (R207). -/
def State.targetsGone (s : State) (e : QEnt) : Bool :=
  e.after.all fun t => ((s.queue t.1).ents.find? fun x => x.order == t.2).isNone

/-- Commit an entry's outcome, signal, post its record and let it go (R201 steps 2-5). -/
def State.complete (s : State) (n : Nat) (e : QEnt) (r : Result) : State :=
  let out := e.committed.getD r
  let time := if e.committed.isSome then e.commitTime else s.time
  let s := if e.committed.isNone && out.status.good && e.flag 1 then s.syncSet (fieldAt e.bytes 16 4) (fieldAt e.bytes 24 8) else s
  let s := s.postRecord (s.get F.HUB_Q_CFG_cq n) (fun ph => recordBytes n e.idx out ph time) (e.flag 3) (e.flag 2)
  let s := s.haltQueue n e.idx out.status
  let q := s.queue n
  let s := s.setQueue n { q with ents := q.ents.filter fun x => !(x.idx == e.idx && x.order == e.order) }
  let s := (s.engAdvance 27 1).showReplay e.ctxId
  s.settleQueue n

/-- DESCRIPTOR_COMPLETE: a descriptor whose operation has ended commits its outcome, signals and writes its record; a full ring
makes the writer wait (R201, R203). -/
def execDescriptorComplete (n : Fin 65536) (idx : Fin 65536) (s : State) : Res :=
  .next <|
    match (s.queue n).ent idx with
    | none => s
    | some e =>
      match e.result with
      | none => s
      | some r =>
        let cq := s.get F.HUB_Q_CFG_cq n
        if e.phase ≠ .ended ∨ !s.targetsGone e ∨ s.rst.keepers ∨ s.unitFrozen 0x11 then s
        else if s.isSet F.HUB_CQ_CFG_enable cq && s.cqFull cq then
          let rg := s.ring cq
          (s.put F.HUB_CQ_STAT_stalled 1 cq).setRing cq
            { rg with stalledSince := if rg.stalledSince = 0 then s.time + 1 else rg.stalledSince }
        else s.complete n e r

/-- CQ_STALL_TIMEOUT: a ring full for 1 ms sends the PF's vector 0 (R203). -/
def execCqStallTimeout (n : Fin 65536) (s : State) : Res :=
  .next <|
    let r := s.ring n
    if r.stalledSince ≠ 0 ∧ s.cqFull n then
      let s := s.due (r.stalledSince - 1 + 1000000)
      (s.setRing n { r with stalledSince := s.time + 1 }).vec0
    else s

/-- INTERRUPT_MODERATION_EXPIRE: mod_us after the first pending record the vector is sent (R204). -/
def execInterruptModerationExpire (n : Fin 65536) (s : State) : Res :=
  .next <|
    let r := s.ring n
    let us := s.get F.HUB_CQ_CFG_mod_us n
    if r.pendInt ≠ 0 ∧ us ≠ 0 then (s.due (r.pendSince + us * 1000)).sendVector n else s

/-- RECORD_HINT_EXPIRE: a record held under hint for 1 µs is written (R204). -/
def execRecordHintExpire (n : Fin 65536) (s : State) : Res :=
  .next <|
    let r := s.ring n
    if r.held.isEmpty then s else (s.due (r.heldSince + 1000)).flushHeld n

/-! ## Sync operations by register and descriptor (R195, R205) -/

/-- Whether function fn owns sync object i: the PF reaches all, a VF those of its contexts (R191). -/
def State.ownsSync (s : State) (fn i : Nat) : Bool :=
  fn == 0 || s.functionOn fn && (s.indicesWith F.CTX_function fn).any fun x => (s.ctxOf x).valid && (s.ctxOf x).maySync i

/-- SYNC_OBJECT_WRITE: an 8-byte write in the sync object block performs a set operation; a 4-byte access is ignored (R195). -/
def execSyncObjectWrite (fn : Fin 16) (obj : Fin 262144) (size : Nat) (v : BitVec 64) (s : State) : Res :=
  .next <| if s.hubUp ∧ size = 8 ∧ s.ownsSync fn obj then s.syncSet obj v.toNat else s

/-- SYNC_SIGNAL: set or add (Table 7.18). -/
def execSyncSignal (work : Work) (s : State) : Res :=
  .next <|
    match s.fresh work 0x07 with
    | none => s
    | some it =>
      let obj := fieldAt it.payload 0 4
      let v := fieldAt it.payload 8 8
      let mode := fieldAt it.payload 4 1
      if mode = 0 then (s.syncSet obj v).finish work .ok 0
      else if mode = 1 then (s.syncAdd obj v).finish work .ok 0
      else s.finish work .eFormat 36

/-- SYNC_WAIT: completes with OK when its object holds the value; until then it waits (R205). -/
def execSyncWait (work : Work) (s : State) : Res :=
  .next <|
    match (s.fresh work 0x08).or (s.running work 0x08) with
    | none => s
    | some it =>
      if fieldAt it.payload 8 8 ≤ s.syncVal (fieldAt it.payload 0 4) then s.finish work .ok 0 else s.begin_ work

/-- SYNC_WAIT_TIMEOUT: limit_us has passed in device time (R205). -/
def execSyncWaitTimeout (work : Work) (s : State) : Res :=
  .next <|
    match s.running work 0x08 with
    | none => s
    | some it =>
      let us := fieldAt it.payload 16 4
      if us = 0 then s else (s.due (it.since + us * 1000)).finish work .eTimeout 0

/-! ## Aborts (R207-R209) -/

/-- Opcodes an abort never ends. -/
def abortProof (op : Nat) : Bool := [0x0A, 0x0B, 0x0E, 0x0F].contains op

/-- Where a ring index of queue n lies (R209). -/
inductive AbortPlace where | open_ | before | beyond
  deriving DecidableEq, Repr

/-- Place a named index: an open target, before the oldest open one, or at or after the accepted tail (R209). -/
def State.placeIx (s : State) (n i : Nat) : AbortPlace :=
  let size := s.ringSize n
  let old := s.oldestIx n
  let d := ringDist size old i
  if i < size ∧ d < ringDist size old (s.get F.HUB_Q_STAT_tail n) then .open_
  else if size ≤ (s.queue n).accepted then (if i < size then .before else .beyond)
  else if i < (s.queue n).accepted then .before
  else .beyond

/-- Commit E_ABORTED for one open descriptor: not yet fetched, it never runs and its record is written; held or dispatched, its
work is told to end (R207, R208). The unit's own end follows in stopWork. -/
def State.abortOne (s : State) (n i : Nat) : State :=
  let q := s.queue n
  match q.ent i with
  | none =>
    let e : QEnt := { idx := i, bytes := List.replicate 64 0, phase := .ended, order := s.order + 1, since := s.time,
                      result := some ⟨.eAborted, 0⟩, committed := some ⟨.eAborted, 0⟩, commitTime := s.time }
    { s with order := s.order + 1 }.setQueue n { q with skip := q.skip ++ [i], ents := q.ents ++ [e] }
  | some e =>
    let now := e.phase == .fetched || e.phase == .waiting
    s.setQueue n (q.upd i fun x =>
      { x with committed := some ⟨.eAborted, 0⟩, commitTime := s.time, result := if now then some ⟨.eAborted, 0⟩ else x.result
               phase := if now then .ended else x.phase })

end Sys2Proof.Machine
end

