-- ==== Sys2Proof/Machine/Memory.lean ====
section
/-! DEFINITION. Device memory as its addresses name it: the memory map, the address mapping of Table 6.4, reads and writes with
poison, lost channels and retired line blocks (R144-R160, R166, R169, R176), and the hub and quadrant scratchpads. -/

namespace Sys2Proof.Machine

/-- A memory map entry (Table 6.2). -/
structure MapEnt where
  valid : Bool
  spread : Bool
  parity : Bool
  stack : Nat
  mediaFirst : Nat
  base : Nat
  size : Nat
  deriving DecidableEq, Repr

/-- Entry i of the live table. -/
def State.mapEnt (s : State) (i : Nat) : MapEnt :=
  { valid := s.isSet F.MEM_MAP_valid i, spread := s.isSet F.MEM_MAP_spread i, parity := s.isSet F.MEM_MAP_parity i
    stack := s.get F.MEM_MAP_stack i, mediaFirst := s.get F.MEM_MAP_media_first i
    base := s.get F.MEM_MAP_base i, size := s.get F.MEM_MAP_size i }

/-- Whether an address lies in an entry's region. -/
def MapEnt.covers (m : MapEnt) (a : Nat) : Bool :=
  m.valid && decide (m.base * 2 ^ 21 ≤ a) && decide (a < (m.base + m.size) * 2 ^ 21)

/-- Indices of the valid entries of the live table. -/
def State.validMaps (s : State) : List Nat := s.indicesWith F.MEM_MAP_valid 1

/-- The live entry that covers an address. -/
def State.mapFor (s : State) (a : Nat) : Option Nat := s.validMaps.find? fun i => (s.mapEnt i).covers a

/-- Bursts of a logical channel (R145). -/
def burstsPerChannel : Nat := 1179648

/-- A place in the media: stack, logical channel, burst index, byte within the burst. -/
structure Loc where
  stack : Nat
  chan : Nat
  burst : Nat
  byte : Nat
  parity : Bool
  deriving DecidableEq, Repr

/-- The byte's key in the media store. -/
def Loc.key (l : Loc) : Nat := ((l.stack * 32 + l.chan) * burstsPerChannel + l.burst) * 2048 + l.byte

/-- The address mapping of Table 6.4 (R151). -/
def MapEnt.locate (m : MapEnt) (a : Nat) : Loc :=
  let o := a - m.base * 2 ^ 21
  let n := o / 2048
  let y := o % 2048
  let f := m.mediaFirst
  if !m.parity then
    if !m.spread then ⟨m.stack, n % 32, 32 * f + n / 32, y, false⟩
    else ⟨n % 16, n / 16 % 32, 32 * f + n / 512, y, false⟩
  else if !m.spread then
    let r := n % 30
    let g := r / 15
    let d := r % 15
    let b := 32 * f + n / 30
    ⟨m.stack, 16 * g + (if d < b % 16 then d else d + 1), b, y, true⟩
  else
    let r := n % 480
    let k := r / 16
    let g := k / 15
    let d := k % 15
    let b := 32 * f + n / 480
    ⟨r % 16, 16 * g + (if d < b % 16 then d else d + 1), b, y, true⟩

/-- Whether an address lies in local memory (Table 6.1). -/
def isLocal (a : Nat) : Bool := decide (a < 0x012000000000)

/-- Whether an address lies in the board window (Table 6.1). -/
def isBoard (a : Nat) : Bool := decide (0x400000000000 ≤ a) && decide (a < 0x500000000000)

/-- Where an address lies, under the live table. -/
def State.locate (s : State) (a : Nat) : Option Loc := (s.mapFor a).map fun i => (s.mapEnt i).locate a

/-! ## Channels as they serve (R164-R171, R176) -/

def State.chan (s : State) (i : Nat) : Chan := SMap.get {} s.mem.chans i
def State.setChan (s : State) (i : Nat) (c : Chan) : State :=
  { s with mem := { s.mem with chans := SMap.set {} s.mem.chans i c } }
def State.stk (s : State) (i : Nat) : Stack := SMap.get {} s.mem.stk i
def State.setStk (s : State) (i : Nat) (c : Stack) : State :=
  { s with mem := { s.mem with stk := SMap.set {} s.mem.stk i c } }

/-- The physical channel, as 34 * stack + p, that holds a logical channel; during an evacuation or rebuild, its source. -/
def State.physOf (s : State) (stack chan : Nat) : Option Nat :=
  (List.range 34).find? (fun p =>
    let i := 34 * stack + p
    let st := s.get F.MEM_CH_STAT_state i
    s.get F.MEM_CH_STAT_logical i == chan && (st == 1 || st == 2 || st == 3 || st == 5)) |>.map (34 * stack + ·)

/-- Whether the burst of a logical channel is lost: its channel is lost and no rebuild has reached the burst; outside parity lines
a rebuild reaches it when it ends (R166, R170). -/
def State.lostBurst (s : State) (stack chan burst : Nat) (parity : Bool) : Bool :=
  match s.physOf stack chan with
  | none => false
  | some i =>
    s.get F.MEM_CH_STAT_state i == 5 &&
    match (s.stk stack).repair with
    | some r => !(r.rebuild && r.src == i && decide (burst < if parity then s.get F.MEM_CH_STAT_pointer r.dst else r.base))
    | none => true

/-- Whether the burst's line block is retired in its stack (R176). -/
def State.retiredLine (s : State) (stack burst : Nat) : Bool := (s.stk stack).retired.contains (burst / 32)

/-- First sector of a burst in the poison store. -/
def sectorOf (stack chan burst : Nat) : Nat := ((stack * 32 + chan) * burstsPerChannel + burst) * 32

/-- Whether a sector of the media is stored with the poison pattern. -/
def StackMem.bad (m : StackMem) (sector : Nat) : Bool :=
  m.dram.bad sector || m.holes.any fun h => decide (h.1 ≤ sector) && decide (sector < h.2)

/-- Intervals without the sectors lo to hi - 1. -/
def cutHoles (holes : List (Nat × Nat)) (lo hi : Nat) : List (Nat × Nat) :=
  if hi ≤ lo then holes else (holes.flatMap fun h => [(h.1, min h.2 lo), (max h.1 hi, h.2)]).filter fun h => decide (h.1 < h.2)

/-- Whether a member of a parity line other than chan is lost, or a data member poisoned, in a sector of the burst: then a lost
member cannot be rebuilt (R169, R171). -/
def State.lineBroken (s : State) (stack chan burst sector : Nat) : Bool :=
  (List.range 16).any fun m =>
    let c := chan / 16 * 16 + m
    c != chan && (s.lostBurst stack c burst true || (m != burst % 16 && s.mem.bad (sectorOf stack c burst + sector)))

/-- Whether a read of the sector at a place delivers it poisoned. -/
def State.locBad (s : State) (l : Loc) : Bool :=
  s.retiredLine l.stack l.burst || s.mem.bad (l.key / 64) ||
  (s.lostBurst l.stack l.chan l.burst l.parity && (!l.parity || s.lineBroken l.stack l.chan l.burst (l.byte / 64)))

/-- Whether a write to a place is not stored (R166, R176). -/
def State.locUnwritable (s : State) (l : Loc) : Bool :=
  s.retiredLine l.stack l.burst || (!l.parity && s.lostBurst l.stack l.chan l.burst false)

/-! ## Whole accesses -/

/-- What remains of a burst at address a, for a run of n bytes. -/
def burstPart (a n : Nat) : Nat := min n (2048 - a % 2048)

/-- The pieces of n bytes at a that lie in one burst each; fuel bounds the number of bursts. -/
def burstsOf (a n : Nat) : Nat → List (Nat × Nat)
  | 0 => []
  | k + 1 => if n = 0 then [] else (a, burstPart a n) :: burstsOf (a + burstPart a n) (n - burstPart a n) k

/-- All pieces of an access. -/
def pieces (a n : Nat) : List (Nat × Nat) := burstsOf a n (n / 2048 + 2)

/-- Whether every byte of an access is local and mapped (R146). -/
def State.mapped (s : State) (a n : Nat) : Bool :=
  (pieces a n).all fun p => isLocal p.1 && (s.mapFor p.1).isSome

/-- Whether the access meets stacks in self-refresh, or a memory controller stopped by a frozen read: it waits (R182, R361). -/
def State.memHeld (s : State) (a n : Nat) : Bool :=
  (pieces a n).any fun p =>
    match s.mapFor p.1 with
    | none => false
    | some i =>
      let c := ((s.mapEnt i).locate p.1).stack / 4
      s.mem.refresh.contains c || s.unitFrozen (0x70 + c)

/-- What a read delivers: its bytes, and whether each 64-byte sector it touches is poisoned, in address order. -/
structure ReadOut where
  bytes : List Byte
  bad : List Bool
  deriving DecidableEq, Repr

/-- Whether anything read was poisoned. -/
def ReadOut.poisoned (r : ReadOut) : Bool := r.bad.any id

/-- Read one piece of a burst. -/
def State.readPiece (s : State) (a n : Nat) : ReadOut :=
  match s.locate a with
  | none => ⟨List.replicate n 0, []⟩
  | some l =>
    let secs := (l.byte + n + 63) / 64 - l.byte / 64
    ⟨s.mem.dram.read l.key n,
     (List.range secs).map fun k => s.locBad { l with byte := (l.byte / 64 + k) * 64 }⟩

/-- Read n bytes of local memory at a device physical address. -/
def State.memRead (s : State) (a n : Nat) : ReadOut :=
  (pieces a n).foldl (fun r p => let x := s.readPiece p.1 p.2; ⟨r.bytes ++ x.bytes, r.bad ++ x.bad⟩) ⟨[], []⟩

/-- Replace the dram store. -/
def State.setDram (s : State) (m : Mem) : State := { s with mem := { s.mem with dram := m } }

/-- Store bytes at a place in the media; sectors covered whole lose their poison (R160). -/
def State.storeMedia (s : State) (k : Nat) (bs : List Byte) : State :=
  { s with mem := { s.mem with dram := s.mem.dram.write k bs, holes := cutHoles s.mem.holes ((k + 63) / 64) ((k + bs.length) / 64) } }

/-! ## Reflected regions (R385) -/

/-- The reflected burst of an address, for regions (base, granules) that follow reflected offset o. -/
def reflBurst : List (Nat × Nat) → Nat → Nat → Option Nat
  | [], _, _ => none
  | r :: rs, o, a =>
    if r.1 ≤ a ∧ a < r.1 + r.2 * 2 ^ 21 then some ((o + (a - r.1)) / 2048) else reflBurst rs (o + r.2 * 2 ^ 21) a

/-- The local address of a reflected burst. -/
def reflAddr : List (Nat × Nat) → Nat → Option Nat
  | [], _ => none
  | r :: rs, b => if b < r.2 * 1024 then some (r.1 + b * 2048) else reflAddr rs (b - r.2 * 1024)

/-- A write reaches address a: the burst of a reflected region is dirty. -/
def State.dirtyAt (s : State) (a : Nat) : State :=
  if !s.refl.tracking then s
  else match reflBurst s.refl.regions 0 a with
    | none => s
    | some b => { s with refl := { s.refl with dirty := SMap.set 0 s.refl.dirty b 1 } }

/-- What a write reports: OK; E_POISON where a partial write met a poisoned sector (R153); E_UNCORRECTABLE where it was not
stored (R166, R176). -/
def State.writePiece (sr : State × Status) (a : Nat) (bs : List Byte) : State × Status :=
  let s := sr.1
  match s.locate a with
  | none => sr
  | some l =>
    if s.locUnwritable l then (s, .eUncorrectable)
    else
      let first := l.byte / 64
      let last := (l.byte + bs.length - 1) / 64
      let edge := (l.byte % 64 != 0 && s.locBad { l with byte := first * 64 }) ||
                  ((l.byte + bs.length) % 64 != 0 && s.locBad { l with byte := last * 64 })
      ((s.storeMedia l.key bs).dirtyAt a, if edge && sr.2 == .ok then .ePoison else sr.2)

/-- Write bytes piece by piece. -/
def State.writePieces (sr : State × Status) : List (Nat × Nat) → List Byte → State × Status
  | [], _ => sr
  | p :: ps, bs => writePieces (State.writePiece sr p.1 (bs.take p.2)) ps (bs.drop p.2)

/-- Write bytes to local memory at a device physical address; the status the writing operation takes from memory. -/
def State.memWrite (s : State) (a : Nat) (bs : List Byte) : State × Status :=
  State.writePieces (s, .ok) (pieces a bs.length) bs

/-- Store the poison pattern in the sectors that n bytes at a touch. -/
def State.memPoison (s : State) (a n : Nat) : State :=
  (pieces a n).foldl (fun s p =>
    match s.locate p.1 with
    | none => s
    | some l => (s.setDram (s.mem.dram.poisonSectors (l.key / 64) ((l.byte + p.2 + 63) / 64 - l.byte / 64))).dirtyAt p.1) s

/-- Write bytes and carry the poison of a read onward: whole poisoned sectors are stored with the poison pattern. -/
def State.memWriteBad (s : State) (a : Nat) (r : ReadOut) : State × Status :=
  let w := s.memWrite a r.bytes
  let s' := (List.range ((r.bytes.length + 63) / 64)).foldl (fun s k =>
    if r.bad.getD k false then s.memPoison (a + 64 * k) (min 64 (r.bytes.length - 64 * k)) else s) w.1
  (s', w.2)

/-! ## Scratchpads (R69, R124) -/

/-- Read n bytes of a byte memory with the poison of its sectors. -/
def Mem.readOut (m : Mem) (a n : Nat) : ReadOut :=
  ⟨m.read a n, (List.range (if n = 0 then 0 else (a + n - 1) / 64 - a / 64 + 1)).map fun k => m.bad (a / 64 + k)⟩

/-- Write bytes with poison into a byte memory. -/
def Mem.writeOut (m : Mem) (a : Nat) (r : ReadOut) : Mem :=
  let m := m.write a r.bytes
  (List.range ((r.bytes.length + 63) / 64)).foldl (fun m k =>
    if r.bad.getD k false then m.mark (a / 64 + k) true else m) m

def State.setSpad (s : State) (m : Mem) : State := { s with spad := m }
def State.setHub (s : State) (m : Mem) : State := { s with hubsp := m }

end Sys2Proof.Machine
end

