-- ==== Sys2Proof/Machine/SeqOps.lean ====
section
/-! DEFINITION. The state of a quadrant sequencer as its units see it: causes, completions, event counters, launches (R116-R122,
R133), and the start of what stands at the head of an array's queue (R63, R67, R131, R132). -/

namespace Sys2Proof.Machine

def State.seq (s : State) (q : Nat) : Seq := SMap.get {} s.seqs q
def State.setSeq (s : State) (q : Nat) (v : Seq) : State := { s with seqs := SMap.set {} s.seqs q v }
def State.arr (s : State) (a : Nat) : Arr := SMap.get {} s.arrays a
def State.setArr (s : State) (a : Nat) (v : Arr) : State := { s with arrays := SMap.set {} s.arrays a v }

/-- Scalar register r; s0 reads 0 (R116). -/
def State.sreg (s : State) (q r : Nat) : Nat := if r = 0 then 0 else SMap.get 0 (s.seq q).sr r

/-- Write scalar register r; writes to s0 are discarded (R116). -/
def State.setSreg (s : State) (q r v : Nat) : State :=
  if r = 0 then s
  else
    let x := s.seq q
    s.setSeq q { x with sr := SMap.set 0 x.sr r (v % 2 ^ 64) }

/-- The rank order of program statuses (Table 5.3). -/
def rankOrder : List Status := [.eUncorrectable, .eBounds, .eFormat, .eTimeout, .ePoison, .okCorrected]

/-- The highest-ranked status of a list; OK when it holds none. -/
def topStatus (l : List Status) : Status := (rankOrder.find? fun r => l.contains r).getD .ok

/-- A cause for the status of the program on quadrant q. -/
def State.cause (s : State) (q : Nat) (st : Status) : State :=
  let x := s.seq q
  if x.launch.isSome && !x.causes.contains st then s.setSeq q { x with causes := st :: x.causes } else s

/-- The value of event counter n. -/
def Seq.evVal (x : Seq) (n : Nat) : Nat := SMap.get 0 x.ev n

/-- Whether a WAIT_EV is satisfied: the 32-bit difference, read as two's complement, is at least 0 (R133). -/
def evReached (cur target : Nat) : Bool := decide ((cur + 2 ^ 32 - target % 2 ^ 32) % 2 ^ 32 < 2 ^ 31)

/-- Where control goes after the instruction at pc issues without a taken branch: innermost loops that end there continue or
retire, outward (R130). -/
def loopNext (pc : Nat) : List LoopLevel → List LoopLevel × Nat
  | [] => ([], pc + 1)
  | l :: ls =>
    if l.last = pc then
      if 0 < l.left then ({ l with left := l.left - 1, index := l.index + 1 } :: ls, l.first) else loopNext pc ls
    else (l :: ls, pc + 1)

/-- Show a sequencer's place in QD_SEQ_STAT (Table 5.19). -/
def State.showSeq (s : State) (q : Nat) : State :=
  let x := s.seq q
  let st := if x.launch.isNone then 0 else if x.ending then 3 else if x.wait = .none then 1 else 2
  let s := s.put F.QD_SEQ_STAT_state st q
  let s := s.put F.QD_SEQ_STAT_pc (x.base + x.pc) q
  let s := s.put F.QD_SEQ_STAT_loop_depth x.loops.length q
  s.engWaiting q (decide (x.wait ≠ .none))

/-- Issue passes the instruction at the present pc. -/
def State.passPc (s : State) (q : Nat) : State :=
  let x := s.seq q
  let n := loopNext x.pc x.loops
  (s.setSeq q { x with loops := n.1, pc := n.2, wait := .none }).showSeq q

/-- Count an event and release a WAIT_EV that it satisfies (R133). -/
def State.countEvent (s : State) (q n : Nat) : State :=
  let x := s.seq q
  let v := (x.evVal n + 1) % 2 ^ 32
  let s := s.setSeq q { x with ev := SMap.set 0 x.ev n v }
  match x.wait with
  | .ev m t => if m = n ∧ evReached v t ∧ !x.ending then s.passPc q else s
  | _ => s

/-- One part of issued instruction id completes on quadrant q; the last part completes the instruction and counts its event. -/
def State.partDone (s : State) (q id : Nat) : State :=
  let x := s.seq q
  match x.issued.find? fun i => i.id == id with
  | none => s
  | some i =>
    if i.left ≤ 1 then
      let s := s.setSeq q { x with issued := x.issued.filter fun j => j.id != id }
      match i.ev with
      | some n => s.countEvent q n
      | none => s
    else s.setSeq q { x with issued := x.issued.map fun j => if j.id = id then { j with left := j.left - 1 } else j }

/-! ## The head of an array's queue -/

/-- The tile with an identity on an array. -/
def Arr.tile (a : Arr) (id : Nat) : Option Tile := a.tiles.find? fun t => t.id == id

/-- The buffer that holds tile id, if any. -/
def Arr.holds (a : Arr) (id : Nat) : Bool := a.bufA == some id || a.bufB == some id

/-- Whether a buffer holds a tile whose 32 rows are written. -/
def Arr.valid (a : Arr) (b : Option Nat) : Bool :=
  match b with
  | none => false
  | some id => match a.tile id with
    | none => false
    | some t => t.loaded == 32

/-- Forget tiles that no buffer, stream or column refers to. -/
def Arr.sweep (a : Arr) : Arr :=
  { a with tiles := a.tiles.filter fun t =>
      a.holds t.id || (match a.stream with | some s => s.tile == t.id | none => false) || a.cols.any fun c => c.tile == t.id }

/-- Whether a stream in progress runs against a buffer. -/
def Arr.bufBusy (a : Arr) (bufB : Bool) : Bool :=
  match a.stream with
  | none => false
  | some s => (if bufB then a.bufB else a.bufA) == some s.tile

/-- The row banks a stream of these row counts writes (R73, R75, R76). -/
def activeBanks (quarter dual : Bool) (rows : List Nat) : List Nat :=
  if quarter then
    (List.range (max (rows.getD 0 0) (rows.getD 1 0))) ++ ((List.range (max (rows.getD 2 0) (rows.getD 3 0))).map (· + 16))
  else
    let m := rows.headD 0
    List.range m ++ if dual then (List.range m).map (· + 16) else []

/-- The shape a stream runs in. -/
def Stream.shape (x : Stream) : Shape := if x.quarter then .quarter else if x.dual then .dual else .full

/-- Order bubbles between two shapes (R78). -/
def shapeGap (a b : Shape) : Nat := if a = b then 0 else if a = .quarter ∨ b = .quarter then 32 else 16

/-- Start what stands at the head of the queue if its slot is free; one array, one head. A LAMP takes effect here (R131). -/
def Arr.startHead (now : Nat) (a : Arr) : Option Arr :=
  match a.queue with
  | [] => none
  | .load t :: rest =>
    if a.loading.isSome || a.bufBusy t.bufB then none
    else
      let a := { a with queue := rest, loading := some t.id, tiles := a.tiles ++ [t] }
      some (if t.bufB then { a with bufB := some t.id }.sweep else { a with bufA := some t.id }.sweep)
  | .stream x :: rest =>
    if a.stream.isSome then none
    else
      let a := { a with queue := rest, longNext := false }
      if x.counts.all (· == 0) then some a
      else
        some { a with stream := some x, orderOwed := if a.lastBanks.isSome then shapeGap a.shape x.shape else 0
                      shape := x.shape, lastBanks := some (activeBanks x.quarter x.dual x.rows), lastTile := some x.tile }
  | .init i :: rest => some { a with queue := rest, inits := a.inits ++ [i] }
  | .drain d :: rest =>
    let rows := (List.range d.rows).map (d.rowFirst + ·)
    let dual := decide (a.shape = .dual)
    let act := match a.lastBanks with
      | none => rows
      | some bs => rows.filter fun m => bs.contains m
    some { a with queue := rest, drains := a.drains ++ [{ d with active := act, dual := dual }] }
  | .lamp k v :: rest =>
    let a := { a with queue := rest }
    if k = 0 then
      some (if a.stream.isSome then { a with longNext := true } else { a with longNow := true, duty := 0 })
    else if k = 1 then some { a with gapHint := some (v, a.stream.isNone), gapUp := false }
    else some { a with pre := some { start := now + v, stop := now + v, since := now } }

/-- Start heads until one cannot start; the queue holds 16. -/
def Arr.startHeads (now : Nat) (a : Arr) : Nat → Arr
  | 0 => a
  | n + 1 =>
    match a.startHead now with
    | none => a
    | some b => startHeads now b n

/-- The quadrant of a device-wide array index. -/
def quadOf (a : Nat) : Nat := a / 64

/-- Largest row count of a stream's tile, as QD_ARRAY_STAT.active_rows reports it. -/
def maxRows (l : List Nat) : Nat := l.foldl max 0

/-- Show an array's state in QD_ARRAY_STAT (Table 3.6). -/
def State.showArr (s : State) (i : Nat) : State :=
  let a := s.arr i
  let op := match a.shape with | .full => 0 | .dual => 1 | .quarter => 2
  let s := s.put F.QD_ARRAY_STAT_operation op i
  let s := s.put F.QD_ARRAY_STAT_credits_free (128 - a.cols.length) i
  let s := match a.stream with
    | some x => s.put F.QD_ARRAY_STAT_active_rows (maxRows x.rows) i
    | none => s
  s.put F.QD_ARRAY_STAT_buf_valid (b2n (a.valid a.bufA) + 2 * b2n (a.valid a.bufB)) i

/-- Streams that start with no column complete at once; then the array's queue advances. -/
def State.settleArr (s : State) (i : Nat) : State :=
  let a := s.arr i
  let empties := a.queue.filterMap fun o =>
    match o with
    | .stream x => if x.counts.all (· == 0) then some x.id else none
    | _ => none
  let b := a.startHeads s.time 17
  let still := b.queue.filterMap fun o => match o with | .stream x => some x.id | _ => none
  let s := (s.setArr i b).showArr i
  (empties.filter fun id => !still.contains id).foldl (fun s id => s.partDone (quadOf i) id) s

end Sys2Proof.Machine
end

