-- ==== Sys2Proof/Machine/Arrays.lean ====
section
/-! DEFINITION. The matrix arrays cycle by cycle (chapter 03): the top edge, columns, stationary loads, drains and accumulator
inits (R58-R82, R94, R97-R101, R110-R114). A column's result is computed when it is written, from the tile it ran against. -/

namespace Sys2Proof.Machine

/-! ## The top edge -/

/-- Count a top-edge cycle of kind k in quarter-array cycles (Tables 3.7, 3.8). -/
def State.countCycle (s : State) (i k n : Nat) : State :=
  let j := 8 * quadOf i + k
  s.put F.QD_ARRAY_CNT_count (s.get F.QD_ARRAY_CNT_count j + n) j

/-- Credits free for a stream's next columns: 128 in full shape, 32 per sub-array in quarter shape (R72, R74). -/
def Arr.creditFor (a : Arr) (x : Stream) (need : Nat) : Bool :=
  if x.quarter then
    (List.range 4).all fun k => x.counts.getD k 0 ≤ x.cols || decide ((a.cols.filter fun c => c.sub == some k).length < 32)
  else decide (a.cols.length + need ≤ 128)

/-- Columns of the group that the next column belongs to (R94). -/
def Stream.groupCols (x : Stream) : Nat := min 32 (x.counts.headD 0 - x.cols / 32 * 32)

/-- Scale beats of the present group (R94). -/
def Stream.groupScaleBeats (x : Stream) : Nat := ceilDiv (x.groupCols * colScales x.fmt) 64

/-- Whether the next beat of a block-scaled stream is a scale beat. -/
def Stream.scaleNext (x : Stream) : Bool := isBlock x.fmt && decide (x.scales.length < 64 * x.groupScaleBeats)

/-- The two columns of a pair record: groups of four bytes restored under the mask (R112). -/
def expandPair (mask : Nat) : Nat → List Byte → List Byte
  | 0, _ => []
  | n + 1, bs =>
    if bitAt mask (32 - (n + 1)) then bs.take 4 ++ expandPair mask n (bs.drop 4) else [0, 0, 0, 0] ++ expandPair mask n bs

/-- Set bits of a 32-bit mask. -/
def popCount (mask : Nat) : Nat := ((List.range 32).filter fun g => bitAt mask g).length

/-- A column of a full-shape stream, i the column index. -/
def Stream.column (x : Stream) (i : Nat) (lower : Bool) (bytes scales : List Byte) (bad : Bool) : Col :=
  { id := x.id, seq := x.seq, tile := x.tile, fmt := x.fmt, add := x.add, entry := (x.colBase + i) % 1024, sub := none
    lower := lower, bytes := bytes, scales := scales, bad := bad }

/-- What admitting a position at the top edge does: the stream after it, the columns it admits, whether a beat was taken from the
intake queue, whether a malformed pair record was met. -/
structure Admit where
  stream : Stream
  cols : List Col := []
  took : Bool := true
  badRecord : Bool := false
  deriving DecidableEq, Repr

/-- Admission in full shape, without compression (R65, R94). -/
def Stream.admitPlain (x : Stream) (bytes : List Byte) (bad : Bool) : Admit :=
  if x.scaleNext then { stream := { x with beat := x.beat + 1, scales := x.scales ++ bytes, scaleBad := x.scaleBad ++ [bad] } }
  else
    let E := colBytes x.fmt
    let fresh := x.spare.length < E
    let have_ := if fresh then x.spare ++ bytes else x.spare
    let cbad := x.spareBad || (fresh && bad)
    let i := x.cols % 32
    let S := colScales x.fmt
    let c := x.column x.cols false (have_.take E) ((x.scales.drop (i * S)).take S) (cbad || x.scaleBad.getD (i * S / 64) false)
    let last := i + 1 = x.groupCols
    let rest := have_.drop E
    { stream := { x with beat := if fresh then x.beat + 1 else x.beat, cols := x.cols + 1
                         spare := if isBlock x.fmt ∧ last then [] else rest
                         spareBad := if rest.isEmpty ∨ (isBlock x.fmt ∧ last) then false else if fresh then bad else x.spareBad
                         scales := if last then [] else x.scales, scaleBad := if last then [] else x.scaleBad }
      cols := [c], took := fresh }

/-- Admission of a compressed stream (R76, R77, R111-R114). -/
def Stream.admitCmp (x : Stream) (bytes : List Byte) (bad : Bool) : Admit :=
  match x.carry with
  | some (b, cb) => { stream := { x with cols := x.cols + 1, carry := none }, cols := [x.column x.cols false b [] cb], took := false }
  | none =>
    if x.records = 0 then
      { stream := { x with beat := x.beat + 1, kinds := leNat bytes, records := 512, kindBad := bad } }
    else
      let r := 512 - x.records
      let x' := { x with beat := x.beat + 1, records := x.records - 1 }
      if !bitAt x.kinds r then
        { stream := { x' with cols := x.cols + 1 }, cols := [x.column x.cols false bytes [] (bad || x.kindBad)] }
      else
        let mask := leNat (bytes.take 4)
        let wrong := decide (15 < popCount mask)
        let both := expandPair mask 32 (bytes.drop 4)
        let cb := bad || x.kindBad || wrong
        let more := decide (x.cols + 1 < x.counts.headD 0)
        let c0 := x.column x.cols false (both.take 64) [] cb
        if x.dual then
          { stream := { x' with cols := x.cols + if more then 2 else 1 }
            cols := c0 :: if more then [x.column (x.cols + 1) true (both.drop 64) [] cb] else [], badRecord := wrong }
        else
          { stream := { x' with cols := x.cols + 1, carry := if more then some (both.drop 64, cb) else none }
            cols := [c0], badRecord := wrong }

/-- Admission in quarter shape: a sub-array column arrives over two beats (R74, R75). -/
def Stream.admitQuarter (x : Stream) (bytes : List Byte) (bad : Bool) : Admit :=
  if x.beat % 2 = 0 then { stream := { x with beat := x.beat + 1, spare := bytes, spareBad := bad } }
  else
    let cols := (List.range 4).filterMap fun k =>
      if x.cols < x.counts.getD k 0 then
        some ({ id := x.id, seq := x.seq, tile := x.tile, fmt := x.fmt, add := x.add
                entry := 512 * (k % 2) + (x.colBase + x.cols) % 512, sub := some k, lower := false
                bytes := (x.spare.drop (16 * k)).take 16 ++ (bytes.drop (16 * k)).take 16, scales := []
                bad := bad || x.spareBad } : Col)
      else none
    { stream := { x with beat := x.beat + 1, cols := x.cols + 1, spare := [], spareBad := false }, cols := cols }

def Stream.admitBeat (x : Stream) (bytes : List Byte) (bad : Bool) : Admit :=
  if x.quarter then x.admitQuarter bytes bad else if x.cmp then x.admitCmp bytes bad else x.admitPlain bytes bad

/-- Columns the next admission may need credit for. -/
def Stream.creditNeed (x : Stream) : Nat :=
  if x.scaleNext then 0
  else if x.cmp then
    (if x.carry.isSome then 1
     else if x.records = 0 then 0
     else if x.dual ∧ bitAt x.kinds (512 - x.records) ∧ x.cols + 1 < x.counts.headD 0 then 2 else 1)
  else 1

/-- Whether every column of the stream has been admitted. -/
def Stream.finished (x : Stream) : Bool := decide (maxRows x.counts ≤ x.cols)

/-- Whether the named bursts are used up (R126). -/
def Stream.exhausted (x : Stream) : Bool :=
  x.bursts != 0 && decide (32 * x.bursts ≤ x.beat) &&
  !(x.carry.isSome || (!x.quarter && !x.cmp && !x.scaleNext && decide (colBytes x.fmt ≤ x.spare.length)))

/-- Row 0 of the stream's tile is loaded (R63). -/
def Arr.rowReady (a : Arr) (x : Stream) : Bool :=
  match a.tile x.tile with
  | none => false
  | some t => decide (0 < t.loaded)

/-- The stream in progress ends: every beat of it has entered. Its instruction completes when its last column is written. -/
def State.endStream (s : State) (i : Nat) (x : Stream) : State :=
  let a := s.arr i
  let a := { a with stream := none, longNow := a.longNext, longNext := false, duty := if a.longNext then 0 else a.duty
                    gapHint := a.gapHint.map fun h => (h.1, true) }
  let s := s.setArr i a
  let s := if a.cols.any fun c => c.id == x.id then s else s.partDone (quadOf i) x.id
  s.settleArr i

/-- Whether the injector adds a synthetic beat in this cycle of the gap (R79, R80, R82). -/
def Arr.lampBeat (a : Arr) : Bool :=
  a.warm && !a.longNow && a.duty != 0 && (a.valid a.bufA || a.valid a.bufB) && decide (a.gap % 64 * a.duty % 64 < a.duty)

/-- The duty a gap starts with: 64 up to the threshold gap_us; a pre-ramp holds 64; a long gap has none (R79, R82, R313, R314). -/
def State.startDuty (s : State) (a : Arr) : Nat :=
  let early : Bool := match a.gapHint with
    | some (v, now) => now && decide (s.get F.PWR_LAMP_CFG_gap_us 0 * 1000 < v)
    | none => false
  if !s.isSet F.PWR_LAMP_CFG_lamp_en 0 || a.longNow then 0
  else if (s.get F.PWR_LAMP_CFG_gap_us 0 = 0 ∨ early) ∧ !(a.pre.any fun p => p.phase == .ramped) then 62
  else 64

/-- Count a beat towards the device's activity (R309). -/
def State.countBeat (s : State) : State := { s with pwr := { s.pwr with beats := s.pwr.beats + 1 } }

/-- Whether the power controller lets quadrant q take a burst in this microsecond (R310). -/
def State.burstAllowed (s : State) (q : Nat) : Bool :=
  decide (s.pwr.beats < s.pwr.budget) &&
  (match s.pwr.shares[q]? with
   | none => true
   | some n => decide (SMap.get 0 s.pwr.taken q < n))

/-- Count a burst that quadrant q asked for, and whether it was issued (R310). -/
def State.askBurst (s : State) (q : Nat) (issued : Bool) : State :=
  { s with pwr := { s.pwr with demand := SMap.set 0 s.pwr.demand q (SMap.get 0 s.pwr.demand q + 1)
                               taken := if issued then SMap.set 0 s.pwr.taken q (SMap.get 0 s.pwr.taken q + 1) else s.pwr.taken } }

/-- A cycle with no real beat: synthetic where the injector calls for it, else a bubble of kind k; uncounted when nothing runs. -/
def State.gapCycle (s : State) (i k : Nat) (owed : Bool) : State :=
  let a := s.arr i
  let a := if a.warm ∧ a.gap = 0 then { a with duty := s.startDuty a } else a
  let lamp := !owed && a.lampBeat
  let s := s.setArr i { a with gap := if a.warm then a.gap + 1 else 0, drawn := if lamp then a.drawn + 1 else a.drawn
                               orderOwed := if owed then a.orderOwed - 1 else a.orderOwed }
  let s := s.putB F.QD_ARRAY_STAT_lamp_active lamp i
  if lamp then (s.countCycle i 4 4).countBeat else if a.stream.isSome then s.countCycle i k 4 else s

/-- Whether the stream's next beat must be waited for: its memory, or the board window's answer. -/
def State.beatHeld (s : State) (x : Stream) : Bool := if x.remote then x.data.isNone else s.memHeld (x.base + 64 * x.beat) 64

/-- The stream's next beat: from memory, or what came through the board window (R223). -/
def State.beatData (s : State) (x : Stream) : ReadOut :=
  match x.data with
  | some d => ⟨(d.1.drop (64 * x.beat)).take 64, [d.2.getD x.beat false]⟩
  | none => s.memRead (x.base + 64 * x.beat) 64

/-- A real beat enters (R70). -/
def State.realBeat (s : State) (i : Nat) (x : Stream) : State :=
  let r := s.beatData x
  let ad := x.admitBeat r.bytes r.poisoned
  let a := s.arr i
  let s := s.setArr i { a with stream := some ad.stream, cols := a.cols ++ ad.cols, warm := true, gap := 0, longNow := false, gapUs := 0
                               gapHint := a.gapHint.bind fun h => if h.2 then none else some h, gapUp := false
                               pre := a.pre.map fun p => if p.phase = .waiting then p else { p with met := true } }
  let s := s.countBeat
  let s := s.putB F.QD_ARRAY_STAT_lamp_active false i
  let s := if x.quarter then
      let live := ((List.range 4).filter fun k => decide (x.cols < x.counts.getD k 0)).length
      (s.countCycle i 0 live).countCycle i 3 (4 - live)
    else s.countCycle i 0 4
  let s := if ad.badRecord then (s.put F.QD_CVT_EVT_bad_record_evt 1 (quadOf i)).cause (quadOf i) .eFormat else s
  let s := if ad.stream.beat % 32 = 0 ∧ ad.took then s.engAdvance (quadOf i) 1 else s
  let s := s.showArr i
  if ad.stream.finished then s.endStream i ad.stream else s

/-- BEAT_ADMIT: one cycle of array a's top edge; fed says whether the intake queue holds the next beat (R58, R70-R79). -/
def execBeatAdmit (a : Fin 1024) (fed : Bool) (s : State) : Res :=
  .next <| if s.quadStopped (quadOf a) then s else
    let v := s.arr a
    if 0 < v.orderOwed then s.gapCycle a 3 true
    else match v.stream with
      | none => s.gapCycle a 1 false
      | some x =>
        if !v.rowReady x then s.gapCycle a 3 false
        else if x.exhausted then (s.cause (quadOf a) .eFormat).endStream a x
        else if s.beatHeld x || !fed then s.gapCycle a 1 false
        else if !v.creditFor x x.creditNeed then s.gapCycle a 2 false
        else if s.burstAllowed (quadOf a) then (s.askBurst (quadOf a) true).realBeat a x
        else (s.askBurst (quadOf a) false).gapCycle a 1 false

/-! ## Columns (R62, R65, R67-R69) -/

/-- The place of an accumulator entry in the store. -/
def accKey (i bank entry : Nat) : Nat := (i * 32 + bank) * 1024 + entry

def State.accVal (s : State) (i bank entry : Nat) : Nat := SMap.get 0 s.acc (accKey i bank entry)
def State.accPoison (s : State) (i bank entry : Nat) : Bool := SMap.get false s.accBad (accKey i bank entry)

/-- Write an accumulator entry and its poison bit. -/
def State.setAcc (s : State) (i bank entry v : Nat) (bad : Bool) : State :=
  { s with acc := SMap.set 0 s.acc (accKey i bank entry) v, accBad := SMap.set false s.accBad (accKey i bank entry) bad }

/-- Whether a drain covers an entry it has not read. -/
def DrainOp.owes (d : DrainOp) (entry : Nat) : Bool :=
  let k := ringDist 1024 d.first entry
  decide (d.next ≤ k) && decide (k < d.count)

/-- Whether an init covers an entry it has not cleared. -/
def InitOp.owes (d : InitOp) (entry : Nat) : Bool :=
  let k := ringDist 1024 d.first entry
  decide (d.next ≤ k) && decide (k < d.count)

/-- Whether a column's write must wait for an earlier drain or init (R67). -/
def Arr.colWaits (a : Arr) (c : Col) : Bool :=
  (a.drains.any fun d => decide (d.seq < c.seq) && d.owes c.entry) || a.inits.any fun d => decide (d.seq < c.seq) && d.owes c.entry

/-- An error found when an entry is read (R68): the events it raises. -/
def State.accEcc (s : State) (i : Nat) (e : AccEcc) : State :=
  match e with
  | .clean => s
  | .single => s.put F.QD_ARRAY_STAT_acc_corr_evt 1 i
  | .double => s.put F.QD_ARRAY_STAT_acc_uncorr_evt 1 i

/-- The row banks a column writes, each with the tile row that meets it. -/
def Col.rows (c : Col) (t : Tile) : List (Nat × Nat) :=
  match c.sub with
  | some k => (List.range (t.rows.getD k 0)).map fun m => (16 * (k / 2) + m, 16 * k + m)
  | none => (List.range (t.rows.headD 0)).map fun m => if c.lower then (m + 16, m + 16) else (m, m)

/-- One row of a column's accumulator write (R65, R69, R98-R101). -/
def State.writeRow (i : Nat) (c : Col) (t : Tile) (bank : Nat) (ecc : AccEcc) (s : State) (r : Nat × Nat) : State :=
  match SMap.get none t.data r.2 with
  | none => s
  | some row =>
    let cells := if c.sub.isSome then 16 else 32
    let v := dotRow c.fmt t.fmt cells t.red (rowElem t.fmt row.bytes row.scales) (rowElem c.fmt c.bytes c.scales)
    let hit := decide (r.1 = bank) && c.add
    let old := s.accPoison i r.1 c.entry || (hit && ecc == .double)
    let s := if hit then s.accEcc i ecc else s
    s.setAcc i r.1 c.entry (if c.add then addF32 (s.accVal i r.1 c.entry) v else v) (c.bad || row.bad || (c.add && old))

/-- COLUMN_COMPLETE: the oldest column of array a takes its accumulator write and returns its credit, or waits in the skid buffer;
bank and ecc are what the read of one bank's entry shows (R62, R65, R67, R68). -/
def execColumnComplete (a : Fin 1024) (bank : Fin 32) (ecc : AccEcc) (s : State) : Res :=
  .next <| if s.quadStopped (quadOf a) then s else
    let v := s.arr a
    match v.cols with
    | [] => s
    | c :: rest =>
      if v.colWaits c then s.setArr a { v with cols := { c with skid := true } :: rest }
      else match v.tile c.tile with
        | none => s
        | some t =>
          if t.loaded < 32 then s
          else
            let s := (c.rows t).foldl (State.writeRow a c t bank ecc) s
            let v' := { v with cols := rest }.sweep
            let s := (s.setArr a v').showArr a
            let live := (match v.stream with | some x => x.id == c.id | none => false) || rest.any fun d => d.id == c.id
            if live then s else s.partDone (quadOf a) c.id

/-! ## Stationary loads (R63, R69, R73, R76, R93) -/

/-- Bytes of a packed row of n elements. -/
def rowBytes (fmt n : Nat) : Nat := (n * elemBits fmt + 7) / 8

/-- Scale bytes of a row (B of R125). -/
def rowScaleBytes (fmt n : Nat) : Nat := ceilDiv n 32 * scaleBytes fmt

/-- Read tile row m from quadrant q's scratchpad. -/
def State.readTileRow (s : State) (q : Nat) (t : Tile) (m : Nat) : TileRow :=
  let nb := rowBytes t.fmt t.red
  let stride := if t.rowStride = 0 then nb else t.rowStride
  let e := s.spad.readOut (spadKey q (t.elemBase + m * stride)) nb
  let B := rowScaleBytes t.fmt t.red
  let c := s.spad.readOut (spadKey q (t.scaleBase + m * B)) B
  { bytes := e.bytes, scales := c.bytes, bad := e.poisoned || c.poisoned }

/-- The tile rows written in load cycle r: in full shape row r, or the copy of row r - 16 (R76); in quarter shape the rows of the
two sub-arrays that share cell row r (R74). Each as place and tile row read. -/
def Tile.rowsAt (t : Tile) (r : Nat) : List (Nat × Nat) :=
  if t.quarter then
    let k := 2 * (r / 16)
    let m := r % 16
    (if m < t.rows.getD k 0 then [(16 * k + m, 16 * k + m)] else []) ++
    (if m < t.rows.getD (k + 1) 0 then [(16 * (k + 1) + m, 16 * (k + 1) + m)] else [])
  else
    let n := t.rows.headD 0
    if r < n then [(r, r)] else if n ≤ 16 ∧ 16 ≤ r ∧ r - 16 < n then [(r, r - 16)] else []

/-- SLOAD_ROW_WRITE: the load in progress on array a writes its next row; a row read from a poisoned sector is marked, and the
sequencer hears of it (R63, R69). -/
def execSloadRowWrite (a : Fin 1024) (s : State) : Res :=
  .next <| if s.quadStopped (quadOf a) then s else
    let v := s.arr a
    match v.loading with
    | none => s
    | some id =>
      match v.tile id with
      | none => s
      | some t =>
        let q := quadOf a
        let rows := (t.rowsAt t.loaded).map fun p => (p.1, s.readTileRow q t p.2)
        let t' : Tile := { t with loaded := t.loaded + 1, data := rows.foldl (fun m p => SMap.set none m p.1 (some p.2)) t.data }
        let done := decide (32 ≤ t'.loaded)
        let s := s.setArr a { v with tiles := v.tiles.map fun x => if x.id = id then t' else x
                                     loading := if done then none else v.loading }
        let s := if rows.any fun p => p.2.bad then s.cause q .ePoison else s
        let s := if done then (s.partDone q id).engAdvance q 1 else s
        s.settleArr a

/-! ## Drains and inits (R64-R69, R127) -/

/-- Whether an earlier stream or init has still to write an entry (R67). -/
def Arr.writePending (a : Arr) (seq entry : Nat) : Bool :=
  (a.cols.any fun c => decide (c.seq < seq) && c.entry == entry) ||
  (a.inits.any fun d => decide (d.seq < seq) && d.owes entry) ||
  match a.stream with
  | none => false
  | some x =>
    decide (x.seq < seq) &&
    if x.quarter then
      (List.range 4).any fun k =>
        entry / 512 == k % 2 && decide (ringDist 512 ((x.colBase + x.cols) % 512) (entry % 512) + x.cols < x.counts.getD k 0)
    else decide (ringDist 1024 ((x.colBase + x.cols) % 1024) entry + x.cols < x.counts.headD 0)

/-- Record conversion events in QD_CVT_EVT (R103). -/
def State.cvtEvents (s : State) (q : Nat) (e : CvtEvt) : State :=
  let s := if e.ovf then s.put F.QD_CVT_EVT_ovf_evt 1 q else s
  let s := if e.nanInt then s.put F.QD_CVT_EVT_nan_int_evt 1 q else s
  if e.nonfin then s.put F.QD_CVT_EVT_nonfinite_evt 1 q else s

/-- The rounding of element (entry p of the range, row bank m) of a drain on array i (R108). -/
def DrainOp.rounding (d : DrainOp) (i p m : Nat) : Rounding :=
  if d.stoch then .stochastic (rand16 d.seed (d.number + 32768 * (i % 64) + 32 * p + m)) else .nearest

/-- Store a converted run of a drained row, marking the sectors of poisoned values. -/
def State.drainStore (s : State) (q a : Nat) (bytes : List Byte) (bad : Bool) : State :=
  let k := spadKey q a
  let n := if bytes.isEmpty then 0 else (k + bytes.length - 1) / 64 - k / 64 + 1
  let m := s.spad.write k bytes
  s.setSpad (if bad then m.poisonSectors (k / 64) n else m)

/-- The value a drain reads for row bank m: both banks summed in dual-column operation (R76, R101). -/
def State.drainVal (s : State) (i : Nat) (d : DrainOp) (m entry : Nat) : Nat × Bool :=
  if d.dual then
    (addF32 (s.accVal i m entry) (s.accVal i (m + 16) entry), s.accPoison i m entry || s.accPoison i (m + 16) entry)
  else (s.accVal i m entry, s.accPoison i m entry)

/-- Write one drained value of row bank m at once (formats without blocks). -/
def State.drainPlain (i : Nat) (d : DrainOp) (s : State) (m : Nat) : State :=
  let v := s.drainVal i d m ((d.first + d.next) % 1024)
  let r := narrowRow d.fmt (fun _ => d.rounding i d.next m) d.sat [ofF32 v.1]
  let a := d.dst + (m - d.rowFirst) * d.rowStride + d.next * elemBits d.fmt / 8
  (s.drainStore (quadOf i) a r.bytes v.2).cvtEvents (quadOf i) r.evt

/-- Write a whole block of row bank m: its elements and its scales (R93, R105). -/
def State.drainBlock (i : Nat) (d : DrainOp) (s : State) (m : Nat) (vs : List (Nat × Bool)) : State :=
  let p0 := d.next - 31
  let r := narrowRow d.fmt (fun k => d.rounding i (p0 + k) m) d.sat (vs.map fun v => ofF32 v.1)
  let bad := vs.any fun v => v.2
  let row := m - d.rowFirst
  let s := s.drainStore (quadOf i) (d.dst + row * d.rowStride + p0 * elemBits d.fmt / 8) r.bytes bad
  let s := s.drainStore (quadOf i) (d.scaleDst + row * rowScaleBytes d.fmt d.count + p0 / 32 * scaleBytes d.fmt) r.scales bad
  s.cvtEvents (quadOf i) r.evt

/-- Read the drain's next entry in every active row bank. -/
def State.drainEntry (s : State) (i : Nat) (d : DrainOp) : State × DrainOp :=
  let entry := (d.first + d.next) % 1024
  if isBlock d.fmt then
    let vals := d.active.map fun m => s.drainVal i d m entry
    let hold := if d.hold.isEmpty then vals.map fun v => [v] else List.zipWith (fun h v => h ++ [v]) d.hold vals
    if d.next % 32 = 31 then
      ((List.zip d.active hold).foldl (fun s p => s.drainBlock i d p.1 p.2) s, { d with next := d.next + 1, hold := [] })
    else (s, { d with next := d.next + 1, hold := hold })
  else (d.active.foldl (State.drainPlain i d) s, { d with next := d.next + 1 })

/-- DRAIN_ENTRY_READ: the drain at array a's drain port reads its next entry, converts it and writes it to the scratchpad, when
earlier writes to the entry are done and write credit is free (R66-R69, R127). -/
def execDrainEntryRead (a : Fin 1024) (credit : Bool) (bank : Fin 32) (ecc : AccEcc) (s : State) : Res :=
  .next <| if s.quadStopped (quadOf a) then s else
    let v := s.arr a
    match v.drains with
    | [] => s
    | d :: rest =>
      let entry := (d.first + d.next) % 1024
      if v.writePending d.seq entry || !credit then s
      else
        let q := quadOf a
        let hit := d.active.contains bank.val || (d.dual && d.active.contains (bank.val - 16) && decide (16 ≤ bank.val))
        let s := if hit then s.accEcc a ecc else s
        let s := if hit ∧ ecc = .double then (s.setAcc a bank entry (s.accVal a bank entry) true).cause q .eUncorrectable
                 else if hit ∧ ecc = .single then s.cause q .okCorrected else s
        let bad := d.active.any fun m => (s.drainVal a d m entry).2
        let r := s.drainEntry a d
        let s := if bad then (r.1.put F.QD_ARRAY_STAT_poison_evt 1 a).cause q .ePoison else r.1
        let v := s.arr a
        if d.count ≤ r.2.next then ((s.setArr a { v with drains := rest }).partDone q d.id).engAdvance q 1
        else s.setArr a { v with drains := r.2 :: rest }

/-- ACC_INIT_ENTRY: the init in progress on array a clears its next entry to +0 in every row bank, with its poison bit (R65, R67). -/
def execAccInitEntry (a : Fin 1024) (s : State) : Res :=
  .next <| if s.quadStopped (quadOf a) then s else
    let v := s.arr a
    match v.inits with
    | [] => s
    | d :: rest =>
      let entry := (d.first + d.next) % 1024
      let early := (v.drains.any fun x => decide (x.seq < d.seq) && x.owes entry) ||
                   { v with inits := [] }.writePending d.seq entry
      if early then s
      else
        let s := (List.range 32).foldl (fun s m => s.setAcc a m entry 0 false) s
        if d.count ≤ d.next + 1 then (s.setArr a { v with inits := rest }).partDone (quadOf a) d.id
        else s.setArr a { v with inits := { d with next := d.next + 1 } :: rest }

end Sys2Proof.Machine
end

