-- ==== Sys2Proof/Machine/Sequencer.lean ====
section
/-! DEFINITION. The quadrant sequencers: launches, ends, faults, and the branch, scalar, sync, copy and array instructions
(R116-R135). Vector instructions are in Vector.lean. -/

namespace Sys2Proof.Machine

/-! ## Instruction words -/

/-- The opcodes of Table 5.4. -/
def opcodes : List Nat :=
  [0x00, 0x01, 0x08, 0x09, 0x10, 0x18, 0x20, 0x21, 0x28, 0x29, 0x2A, 0x2B, 0x2C, 0x30, 0x38, 0x39, 0x3A, 0x3B,
   0x40, 0x41, 0x42, 0x43, 0x44, 0x45, 0x48]

/-- The reserved bit ranges of an opcode (Tables 5.5-5.12); Table 5.10's opcodes reserve what they do not list. -/
def wordReserved (op : Nat) (w : Nat) : List (Nat × Nat) :=
  if op = 0x00 ∨ op = 0x01 then [(119, 0)]
  else if op = 0x08 then [(106, 12)]
  else if op = 0x09 then [(119, 117), (111, 64), (31, 12)]
  else if op = 0x10 then (67, 64) :: if bitAt w 101 then [(100, 96)] else []
  else if op = 0x18 then [(74, 72)]
  else if op = 0x20 then [(107, 103), (102, 102), (101, 101), (100, 100), (10, 0)]
  else if op = 0x21 then [(100, 100), (10, 0)]
  else if 0x28 ≤ op ∧ op ≤ 0x2C then [(66, 64)]
  else if 0x38 ≤ op ∧ op ≤ 0x3B then [(76, 64)]
  else if op = 0x40 then [(100, 0)]
  else if op = 0x41 then [(109, 105), (100, 64)]
  else if op = 0x42 then [(114, 64)]
  else if op = 0x43 then [(109, 64)]
  else if op = 0x44 then [(119, 115), (104, 64)]
  else if op = 0x45 then [(114, 2)]
  else if op = 0x48 then [(71, 0)]
  else []

/-- Whether a reserved field of the word is set (R123). -/
def wordReservedSet (op w : Nat) : Bool := (wordReserved op w).any fun r => slice w r.1 r.2 != 0

/-- Whether the opcode acts on a range of arrays. -/
def onArrays (op : Nat) : Bool := [0x10, 0x18, 0x20, 0x21, 0x48].contains op

/-- First array and number of arrays of the range. -/
def wordArrays (w : Nat) : Nat × Nat := (slice w 119 114, slice w 113 108 + 1)

/-- The word at the sequencer's next index (R116). -/
def State.curWord (s : State) (q : Nat) : Nat :=
  let x := s.seq q
  SMap.get 0 s.ibuf (q * 4096 + x.base + x.pc)

/-! ## Issue -/

/-- Whether a reset holds quadrant q (R344, R345). -/
def State.quadHeld (s : State) (q : Nat) : Bool :=
  s.quadStopped q ||
  match s.rst.run with
  | none => false
  | some r => (r.req.kind == .engine && r.req.target == q) || (r.req.kind == .partition && r.req.target == q / 4)

/-- Whether the sequencer is ready to issue its next instruction. -/
def State.mayIssue (s : State) (q : Nat) : Bool :=
  let x := s.seq q
  x.launch.isSome && !x.ending && x.wait == .none && !s.quiescing && !s.stopActive && !s.quadHeld q

/-- A fault at issue: recorded, and nothing further issues (R122). -/
def State.progFault (s : State) (q : Nat) (st : Status) : State :=
  let x := s.seq q
  let s := (s.cause q st).put F.QD_SEQ_STAT_fault_pc (x.base + x.pc) q
  let s := (s.put F.QD_SEQ_STAT_fault_evt 1 q).put F.QD_SEQ_STAT_last_status st.code q
  (s.setSeq q { s.seq q with ending := true, wait := .none }).showSeq q

/-- Issue the instruction at the sequencer's index where it holds opcode op: past the end, a reserved opcode, a reserved field or
a range past array 63 faults (R123, R129); another opcode is another row's. -/
def State.issue (s : State) (q op : Nat) (f : Nat → State → State) : State :=
  if !s.mayIssue q then s
  else if (s.seq q).len ≤ (s.seq q).pc then s.progFault q .eFormat
  else
    let w := s.curWord q
    let o := slice w 127 120
    if !opcodes.contains o then s.progFault q .eFormat
    else if o ≠ op then s
    else if wordReservedSet op w || (onArrays op && decide (64 < (wordArrays w).1 + (wordArrays w).2)) then s.progFault q .eFormat
    else f w s

/-- The instruction has issued and control passes on. -/
def State.issued (s : State) (q : Nat) : State := (s.engAdvance q 1).passPc q

/-- Control goes to index t: the loops whose bodies do not hold it retire (R130). -/
def State.jump (s : State) (q t : Nat) : State :=
  let x := s.seq q
  let keep := (x.loops.reverse.takeWhile fun l => decide (l.first ≤ t) && decide (t ≤ l.last)).reverse
  ((s.engAdvance q 1).setSeq q { x with pc := t, loops := keep }).showSeq q

/-- Enter an issued instruction of n parts; its number is the sequencer's next. -/
def State.enter (s : State) (q n : Nat) (ev : Option Nat) : State :=
  let x := s.seq q
  s.setSeq q { x with issued := x.issued ++ [{ id := x.nextId, ev := ev, left := n }], nextId := x.nextId + 1 }

/-- The context of the program on quadrant q. -/
def State.progCtx (s : State) (q : Nat) : Ctx :=
  match (s.seq q).launch with
  | none => {}
  | some id => match s.launches.find? fun l => l.id == id with
    | none => {}
    | some l => l.ctx

/-- s[r] + offset modulo 2^64 (R124). -/
def State.addrOf (s : State) (q r off : Nat) : Nat := (s.sreg q r + off) % 2 ^ 64

/-- Whether n bytes at a lie in the quadrant scratchpad (R124). -/
def inSpad (a n : Nat) : Bool := decide (a < 2 ^ 25) && decide (a + n ≤ 2 ^ 25)

/-- Whether a context may access n bytes of mapped local memory at a (R124, R193). -/
def State.mayLocal (s : State) (c : Ctx) (a n : Nat) (write : Bool) : Bool :=
  decide (a + n ≤ 2 ^ 48) && s.mapped a n && c.mayAccess a n write

/-! ## Launch and end (R117-R121) -/

/-- Words of an image: 16 bytes each. -/
def imageWords : Nat → List Byte → List Nat
  | 0, _ => []
  | n + 1, bs => leNat (bs.take 16) :: imageWords n (bs.drop 16)

/-- Rank of quadrant q in a mask. -/
def maskRank (m q : Nat) : Nat := ((List.range q).filter fun k => bitAt m k).length

/-- Bits set in a mask of 16. -/
def maskCount (m : Nat) : Nat := maskRank m 16

/-- Change a launch in the list. -/
def State.updLaunch (s : State) (id : Nat) (f : Launch → Launch) : State :=
  { s with launches := s.launches.map fun l => if l.id = id then f l else l }

/-- The status of a launch whose quadrants have all ended: one that another chapter owns, or the highest of Table 5.3 with the lowest
quadrant that set it (R121, Table 7.14). -/
def Launch.outcome (l : Launch) : Result :=
  match l.outrank with
  | some st => ⟨st, 0⟩
  | none =>
    let sts := l.ended.map fun e => e.2
    match sts.find? fun st => !rankOrder.contains st && st != .ok with
    | some st => ⟨st, (((l.ended.filter fun e => e.2 == st).map fun e => e.1).min?).getD 0⟩
    | none => ⟨topStatus sts, (((l.ended.filter fun e => e.2 == topStatus sts).map fun e => e.1).min?).getD 0⟩

/-- A launch whose last quadrant has ended completes its work. -/
def State.settleLaunch (s : State) (id : Nat) : State :=
  match s.launches.find? fun l => l.id == id with
  | none => s
  | some l =>
    if l.waiting.isEmpty && l.running.isEmpty then
      let r := l.outcome
      { s with launches := s.launches.filter fun x => x.id != id }.finish l.work r.status r.detail
    else s

/-- Quadrant q's part of launch id has ended with a status. -/
def State.endQuad (s : State) (q id : Nat) (st : Status) : State :=
  let s := s.updLaunch id fun l =>
    { l with waiting := l.waiting.erase q, running := l.running.erase q, ended := l.ended ++ [(q, st)] }
  (s.put F.QD_SEQ_STAT_last_status st.code q).settleLaunch id

/-- Start a launch on quadrant q: residency, image fetch, registers (R117, R119, Table 5.1). -/
def State.startQuad (s : State) (q : Nat) (l : Launch) (image : List Byte) (poisoned : Bool) : State :=
  let b := l.block
  let x := s.seq q
  let tag : Tag := ⟨b.image, b.loadAt, b.length⟩
  let resident := x.tags.contains tag && !b.reload
  let tags := x.tags.filter fun t => decide (t.loadAt + t.length ≤ b.loadAt) || decide (b.loadAt + b.length ≤ t.loadAt)
  if !resident && poisoned then (s.setSeq q { x with tags := tags }).endQuad q l.id .ePoison
  else
    let ibuf := if resident then s.ibuf else SMap.setRun 0 s.ibuf (q * 4096 + b.loadAt) (imageWords b.length image)
    let regs := [(1, b.arg1), (2, b.arg2), (3, q), (4, maskRank b.qmask q), (5, maskCount b.qmask), (6, l.iter), (7, l.garg)]
    let sr := regs.foldl (fun m p => SMap.set 0 m p.1 p.2) []
    let s := { s with ibuf := ibuf }.setSeq q
      { launch := some l.id, base := b.loadAt, len := b.length, pc := b.entry, sr := sr
        tags := if resident then x.tags else tags ++ [tag], nextId := x.nextId }
    let s := s.updLaunch l.id fun v => { v with waiting := v.waiting.erase q, running := v.running ++ [q] }
    ((s.incr F.QD_SEQ_STAT_launches q).engTake q l.ctxId).showSeq q

/-- The functions that may launch on compute die c under a bank of the partition map (R211). -/
def partField (c : Nat) : Fld :=
  if c = 0 then F.HUB_PART_MAP_c0_functions else if c = 1 then F.HUB_PART_MAP_c1_functions
  else if c = 2 then F.HUB_PART_MAP_c2_functions else F.HUB_PART_MAP_c3_functions

/-- Whether the partition map is switching and changes compute die c: launches onto it wait (R211). -/
def State.dieSwitching (s : State) (c : Nat) : Bool :=
  s.commit.unit == some 3 &&
  s.get (partField c) 0 != (if s.get F.HUB_CFG_STATUS_state 0 = 3 then SMap.get (partField c).reset s.prevBank ((partField c).key 0)
    else SMap.get (partField c).reset s.regs ({ partField c with code := (partField c).code + 512 }.key 0))

/-- Whether quadrant q may take a launch: idle, held by no reset, stop, quiesce or partition map switch (R120, R211). -/
def State.quadFree (s : State) (q : Nat) : Bool :=
  (s.seq q).launch.isNone && !s.quiescing && !s.stopActive && !s.quadHeld q && !s.dieSwitching (q / 4)

/-- PROGRAM_END: a program that has ended issue ends on its quadrant once every instruction it issued has completed (R121). -/
def execProgramEnd (q : Fin 16) (s : State) : Res :=
  .next <|
    let x := s.seq q
    match x.launch with
    | none => s
    | some id =>
      if !x.ending || !x.issued.isEmpty || s.quadHeld q then s
      else
        let ctxId := match s.launches.find? fun l => l.id == id with | some l => l.ctxId | none => 0
        let s := s.setSeq q { x with launch := none, loops := [], ending := false, wait := .none }
        ((s.engRelease q ctxId).showSeq q).endQuad q id (topStatus x.causes)

/-! ## Branch, loop, scalar (R129, R130) -/

/-- NOP (R123). -/
def execNop (q : Fin 16) (s : State) : Res := .next <| s.issue q 0x00 fun _ s => s.issued q

/-- END: the program issues nothing further (R121). -/
def execEndProgram (q : Fin 16) (s : State) : Res :=
  .next <| s.issue q 0x01 fun _ s => ((s.engAdvance q 1).setSeq q { s.seq q with ending := true }).showSeq q

/-- The branch conditions of Table 5.10. -/
def branchTaken (c a b : Nat) : Bool :=
  if c = 0 then true
  else if c = 1 then a == b
  else if c = 2 then a != b
  else if c = 3 then decide (a < b)
  else if c = 4 then decide (b ≤ a)
  else if c = 5 then decide (signed 64 a < signed 64 b)
  else decide (signed 64 b ≤ signed 64 a)

/-- BR (R129, R130). -/
def execBr (q : Fin 16) (s : State) : Res :=
  .next <| s.issue q 0x08 fun w s =>
    let t := slice w 11 0
    if slice w 119 117 = 7 ∨ (s.seq q).len ≤ t then s.progFault q .eFormat
    else if branchTaken (slice w 119 117) (s.sreg q (slice w 116 112)) (s.sreg q (slice w 111 107)) then s.jump q t
    else s.issued q

/-- LOOP (R130). -/
def execLoop (q : Fin 16) (s : State) : Res :=
  .next <| s.issue q 0x09 fun w s =>
    let x := s.seq q
    let e := slice w 11 0
    let rc := slice w 116 112
    let n := if rc = 0 then slice w 63 32 else s.sreg q rc % 2 ^ 32
    if e ≤ x.pc ∨ x.len ≤ e then s.progFault q .eFormat
    else if n = 0 then
      let nx := loopNext e x.loops
      ((s.engAdvance q 1).setSeq q { x with loops := nx.1, pc := nx.2 }).showSeq q
    else if 4 ≤ x.loops.length then s.progFault q .eFormat
    else
      let l : LoopLevel := { first := x.pc + 1, last := e, left := n - 1, index := 0 }
      ((s.engAdvance q 1).setSeq q { x with loops := l :: x.loops, pc := x.pc + 1 }).showSeq q

/-- The ALU functions on 64-bit values; none for a reserved code (Table 5.10). -/
def aluFn (fn a b : Nat) : Option Nat :=
  match fn with
  | 0x0 => some ((a + b) % 2 ^ 64)
  | 0x1 => some ((a + 2 ^ 64 - b % 2 ^ 64) % 2 ^ 64)
  | 0x2 => some (a * b % 2 ^ 64)
  | 0x3 => some (a &&& b)
  | 0x4 => some (a ||| b)
  | 0x5 => some (a ^^^ b)
  | 0x6 => some (a * 2 ^ (b % 64) % 2 ^ 64)
  | 0x7 => some (a / 2 ^ (b % 64))
  | 0x8 => some (unsigned 64 (signed 64 a / ((2 ^ (b % 64) : Nat) : Int)))
  | 0x9 => some (min a b)
  | 0xA => some (max a b)
  | _ => none

/-- ALU (R129). -/
def execAlu (q : Fin 16) (s : State) : Res :=
  .next <| s.issue q 0x40 fun w s =>
    match aluFn (slice w 104 101) (s.sreg q (slice w 114 110)) (s.sreg q (slice w 109 105)) with
    | none => s.progFault q .eFormat
    | some v => (s.setSreg q (slice w 119 115) v).issued q

/-- ALUI (R129). -/
def execAlui (q : Fin 16) (s : State) : Res :=
  .next <| s.issue q 0x41 fun w s =>
    match aluFn (slice w 104 101) (s.sreg q (slice w 114 110)) (slice w 63 0) with
    | none => s.progFault q .eFormat
    | some v => (s.setSreg q (slice w 119 115) v).issued q

/-- LI (R129). -/
def execLi (q : Fin 16) (s : State) : Res :=
  .next <| s.issue q 0x42 fun w s => (s.setSreg q (slice w 119 115) (slice w 63 0)).issued q

/-- LD: 8 bytes of the quadrant's own scratchpad; out of a poisoned sector the value is free (R129, log entry 1). -/
def execLd (q : Fin 16) (s : State) : Res :=
  .next <| s.issue q 0x43 fun w s =>
    let a := s.addrOf q (slice w 114 110) (slice w 63 0)
    let rd := slice w 119 115
    if a % 8 ≠ 0 then s.progFault q .eFormat
    else if !inSpad a 8 then s.progFault q .eBounds
    else if s.spad.anyBad (spadKey q a) 8 then (s.draw.2.setSreg q rd s.draw.1).issued q
    else (s.setSreg q rd (leNat (s.spad.read (spadKey q a) 8))).issued q

/-- ST: 8 bytes of the quadrant's own scratchpad (R129). -/
def execSt (q : Fin 16) (s : State) : Res :=
  .next <| s.issue q 0x44 fun w s =>
    let a := s.addrOf q (slice w 114 110) (slice w 63 0)
    if a % 8 ≠ 0 then s.progFault q .eFormat
    else if !inSpad a 8 then s.progFault q .eBounds
    else (s.setSpad (s.spad.write (spadKey q a) (leBytes 8 (s.sreg q (slice w 109 105))))).issued q

/-- MOVLC: the iteration index of a loop level (R130). -/
def execMovlc (q : Fin 16) (s : State) : Res :=
  .next <| s.issue q 0x45 fun w s =>
    match (s.seq q).loops[slice w 1 0]? with
    | none => s.progFault q .eFormat
    | some l => (s.setSreg q (slice w 119 115) l.index).issued q

/-! ## Sync (R133-R135) -/

/-- The operand s[rv] + value of a sync instruction (Table 5.9). -/
def State.syncOperand (s : State) (q w : Nat) : Nat := s.addrOf q (slice w 119 115) (slice w 63 0)

/-- The sequencer waits. -/
def State.seqWait (s : State) (q : Nat) (v : SeqWait) : State := (s.setSeq q { s.seq q with wait := v }).showSeq q

/-- WAIT_OBJ (R135). -/
def execWaitObj (q : Fin 16) (s : State) : Res :=
  .next <| s.issue q 0x38 fun w s =>
    let obj := slice w 114 97
    let v := s.syncOperand q w
    if !(s.progCtx q).maySync obj then s.progFault q .eFormat
    else if v ≤ s.syncVal obj then s.issued q
    else s.seqWait q (.obj obj v (slice w 92 77) s.time)

/-- WAIT_OBJ_WAKE: a sequencer whose object has reached its value goes on (R135). -/
def execWaitObjWake (q : Fin 16) (s : State) : Res :=
  .next <|
    match (s.seq q).wait with
    | .obj obj v _ _ => if v ≤ s.syncVal obj ∧ !s.quadStopped q then s.issued q else s
    | _ => s

/-- WAIT_TIMEOUT: a WAIT_OBJ that has lasted its limit faults with E_TIMEOUT (R135). -/
def execWaitTimeout (q : Fin 16) (s : State) : Res :=
  .next <|
    match (s.seq q).wait with
    | .obj _ _ us since => if us = 0 ∨ s.quadStopped q then s else (s.due (since + us * 1000)).progFault q .eTimeout
    | _ => s

/-- WAIT_EV (R133). -/
def execWaitEv (q : Fin 16) (s : State) : Res :=
  .next <| s.issue q 0x39 fun w s =>
    let n := slice w 96 93
    let t := s.syncOperand q w % 2 ^ 32
    if evReached ((s.seq q).evVal n) t then s.issued q else s.seqWait q (.ev n t)

/-- A signal of a program: held until every instruction issued earlier has completed (R134). -/
def State.signal (s : State) (q w : Nat) (f : Nat → Nat → State → State) : State :=
  let obj := slice w 114 97
  if !(s.progCtx q).maySync obj then s.progFault q .eFormat
  else if !(s.seq q).issued.isEmpty then s
  else (f obj (s.syncOperand q w) s).issued q

/-- SIGNAL_SET (R134). -/
def execSignalSet (q : Fin 16) (s : State) : Res :=
  .next <| s.issue q 0x3A fun w s => s.signal q w fun o v s => s.syncSet o v

/-- SIGNAL_ADD (R134). -/
def execSignalAdd (q : Fin 16) (s : State) : Res :=
  .next <| s.issue q 0x3B fun w s => s.signal q w fun o v s => s.syncAdd o v

/-! ## Array instructions (R125-R127, R131, R132) -/

/-- Whether some array of the range has a full queue (R132). -/
def State.arraysFull (s : State) (q : Nat) (r : Nat × Nat) : Bool :=
  (List.range r.2).any fun k => decide (16 ≤ (s.arr (64 * q + r.1 + k)).queue.length)

/-- Enter an instruction into the queue of every array of a range; op gives array a_rel's form. -/
def State.pushArrays (s : State) (q : Nat) (r : Nat × Nat) (op : Nat → Arr → Arr) : State :=
  (List.range r.2).foldl (fun s k => (s.setArr (64 * q + r.1 + k) (op k (s.arr (64 * q + r.1 + k)))).settleArr (64 * q + r.1 + k)) s

/-- The row counts of a tile: one in full shape, four bytes of a register in quarter shape (R125). -/
def loadRows (quarter : Bool) (rowsM1 reg : Nat) : List Nat :=
  if quarter then (List.range 4).map fun k => slice reg (8 * k + 7) (8 * k) else [rowsM1 + 1]

/-- The tile rows a load reads. -/
def rowsRead (quarter : Bool) (rows : List Nat) : List Nat :=
  if quarter then (List.range 4).flatMap fun k => (List.range (rows.getD k 0)).map fun m => 16 * k + m
  else List.range (rows.headD 0)

/-- SLOAD (R125). -/
def execSload (q : Fin 16) (s : State) : Res :=
  .next <| s.issue q 0x10 fun w s =>
    let r := wordArrays w
    let fmt := slice w 107 103
    let bufB := bitAt w 102
    let quarter := bitAt w 101
    let red := slice w 95 88 + 1
    let rs := s.sreg q (slice w 77 73)
    let rows := loadRows quarter (slice w 100 96) (s.sreg q (slice w 72 68))
    let e0 := s.addrOf q (slice w 87 83) (slice w 47 24)
    let c0 := s.addrOf q (slice w 82 78) (slice w 23 0)
    let nb := rowBytes fmt red
    let B := rowScaleBytes fmt red
    let stride := slice w 63 48
    let step := if stride = 0 then nb else stride
    let bad := !isTileFmt fmt || decide (deepest fmt quarter < red) || (quarter && rows.any fun n => decide (n < 1) || decide (16 < n))
    let ok := (List.range r.2).all fun k =>
      (rowsRead quarter rows).all fun m =>
        inSpad ((e0 + k * rs + m * step) % 2 ^ 64) nb && (!isBlock fmt || inSpad ((c0 + k * rs + m * B) % 2 ^ 64) B)
    if bad then s.progFault q .eFormat
    else if !ok then s.progFault q .eBounds
    else if s.arraysFull q r then s
    else
      let id := (s.seq q).nextId
      let info : LoadInfo := ⟨id, fmt, red, quarter, rows⟩
      let s := s.enter q r.2 none
      let s := s.pushArrays q r fun k a =>
        let t : Tile := { id := id, bufB := bufB, fmt := fmt, quarter := quarter, red := red, rows := rows
                          elemBase := (e0 + k * rs) % 2 ^ 64, scaleBase := (c0 + k * rs) % 2 ^ 64, rowStride := stride }
        { a with queue := a.queue ++ [.load t], infoA := if bufB then a.infoA else some info
                 infoB := if bufB then some info else a.infoB }
      s.issued q

/-- Beats that n columns of an uncompressed stream occupy (Table 3.2, R94). -/
def columnBeats (fmt n : Nat) : Nat :=
  if isBlock fmt then
    let one (c : Nat) := ceilDiv (c * colScales fmt) 64 + ceilDiv (c * colBytes fmt) 64
    n / 32 * one 32 + one (n % 32)
  else n

/-- Bytes a stream reads from its base (R126). -/
def streamBytes (fmt : Nat) (quarter : Bool) (counts : List Nat) (bursts : Nat) : Nat :=
  if bursts ≠ 0 then 2048 * bursts
  else 2048 * ceilDiv (if quarter then 2 * maxRows counts else columnBeats fmt (counts.headD 0)) 32

/-- Whether a stream may start against what the sequencer loaded last into the buffer (R74, R97, R110, R126). -/
def streamRefused (fmt : Nat) (cmp : Bool) (bursts : Nat) (i : Option LoadInfo) : Bool :=
  match i with
  | none => true
  | some l =>
    let depth := if l.quarter then classDepth fmt / 2 else classDepth fmt
    !isTileFmt fmt || !pairOk fmt l.fmt || decide (depth < l.red) ||
    (cmp && (decide (5 < fmt) || l.quarter || bursts == 0)) || (l.quarter && decide (5 < fmt))

/-- The event counter an instruction names when ev_en is set (Table 5.7). -/
def wordEv (w en hi lo : Nat) : Option Nat := if bitAt w en then some (slice w hi lo) else none

/-- ACC_INIT (R127). -/
def execAccInit (q : Fin 16) (s : State) : Res :=
  .next <| s.issue q 0x20 fun w s =>
    let r := wordArrays w
    if s.arraysFull q r then s
    else
      let id := (s.seq q).nextId
      let s := s.enter q r.2 (wordEv w 15 14 11)
      let s := s.pushArrays q r fun _ a =>
        { a with queue := a.queue ++ [.init { id := id, seq := id, first := slice w 99 90, count := slice w 89 80 + 1 }] }
      s.issued q

/-- ACC_DRAIN (R127). A stochastic drain numbers its elements from the quadrant's counter and advances it (R108). -/
def execAccDrain (q : Fin 16) (s : State) : Res :=
  .next <| s.issue q 0x21 fun w s =>
    let r := wordArrays w
    let fmt := slice w 107 103
    let n := slice w 89 80 + 1
    let rs := s.sreg q (slice w 69 65)
    let first := slice w 64 60
    let rows := slice w 59 55 + 1
    let stride := slice w 54 40
    let d0 := s.addrOf q (slice w 79 75) (slice w 39 16)
    let c0 := s.sreg q (slice w 74 70)
    let nb := rowBytes fmt n
    let B := rowScaleBytes fmt n
    let ok := (List.range r.2).all fun k => (List.range rows).all fun m =>
      inSpad ((d0 + k * rs + m * stride) % 2 ^ 64) nb && (!isBlock fmt || inSpad ((c0 + k * rs + m * B) % 2 ^ 64) B)
    if !isTarget fmt || decide (32 < first + rows) || (isBlock fmt && n % 32 != 0) then s.progFault q .eFormat
    else if !ok then s.progFault q .eBounds
    else if s.arraysFull q r then s
    else
      let id := (s.seq q).nextId
      let stoch := bitAt w 102
      let num := s.get F.QD_SR_CTR_counter q
      let s := s.enter q r.2 (wordEv w 15 14 11)
      let s := s.pushArrays q r fun k a =>
        let d : DrainOp := { id := id, seq := id, fmt := fmt, stoch := stoch, sat := bitAt w 101, first := slice w 99 90, count := n
                             rowFirst := first, rows := rows, dst := (d0 + k * rs) % 2 ^ 64, scaleDst := (c0 + k * rs) % 2 ^ 64
                             rowStride := stride, number := num, seed := s.get F.QD_SR_SEED_seed q }
        { a with queue := a.queue ++ [.drain d] }
      let s := if stoch then s.put F.QD_SR_CTR_counter (num + 2097152) q else s
      s.issued q

/-- LAMP (R131). -/
def execLamp (q : Fin 16) (s : State) : Res :=
  .next <| s.issue q 0x48 fun w s =>
    let r := wordArrays w
    let k := slice w 107 104
    let v := slice w 103 72
    if 2 < k ∨ (k = 0 ∧ v ≠ 0) then s.progFault q .eFormat
    else if s.arraysFull q r then s
    else (s.pushArrays q r fun _ a => { a with queue := a.queue ++ [.lamp k v] }).issued q

/-! ## Seed and counter of the stochastic generator (R109) -/

/-- SR_SEED_WRITE: sets the seed and clears the counter (R109). -/
def execSrSeedWrite (q : Fin 16) (w : BarAcc) (s : State) : Res :=
  .next <| s.onWrite .QD_SR_SEED q w fun q =>
    (s.put F.QD_SR_SEED_seed (w.merge F.QD_SR_SEED_seed (s.get F.QD_SR_SEED_seed q)) q).put F.QD_SR_CTR_counter 0 q

/-- SR_CTR_WRITE: sets the counter only (R109). -/
def execSrCtrWrite (q : Fin 16) (w : BarAcc) (s : State) : Res :=
  .next <| s.onWrite .QD_SR_CTR q w fun q =>
    s.put F.QD_SR_CTR_counter (w.merge F.QD_SR_CTR_counter (s.get F.QD_SR_CTR_counter q)) q

end Sys2Proof.Machine
end

