-- ==== Sys2Proof/Machine/Vector.lean ====
section
/-! DEFINITION. The vector engines (R102, R136-R138). A vector instruction takes effect when it issues, in issue order, as its
engine's own order makes it appear (R132); VECTOR_INSTRUCTION_COMPLETE is its completion. -/

namespace Sys2Proof.Machine

/-- The first n lanes of a vector register. -/
def State.lanes (s : State) (q r n : Nat) : List Nat := SMap.getRun 0 s.vreg ((q * 16 + r) * 1024) n

/-- Write lanes of a vector register from lane 0. -/
def State.setLanes (s : State) (q r : Nat) (vs : List Nat) : State :=
  { s with vreg := SMap.setRun 0 s.vreg ((q * 16 + r) * 1024) vs }

/-- Issue a vector instruction: an engine queue of 32 holds issue when full (R132); f is its effect, none where the word is refused
and inr a fault. -/
def State.issueVec (s : State) (q op : Nat) (f : Nat → State → Except Status State) : State :=
  s.issue q op fun w s =>
    match f w s with
    | .error st => s.progFault q st
    | .ok t =>
      if 32 ≤ (s.seq q).vq.length then s
      else
        let x := t.seq q
        let t := t.setSeq q { x with vq := x.vq ++ [x.nextId] }
        (t.enter q 1 (if op = 0x29 then wordEv w 87 91 88 else none)).issued q

/-- Active lanes. -/
def vecLen (w : Nat) : Nat := slice w 81 72 + 1

/-- Check the memory operand of VLOAD and VSTORE: format, block length, bounds (R105, R124, R136). -/
def State.vecMem (s : State) (q w : Nat) : Option Status :=
  let fmt := slice w 98 94
  let n := vecLen w
  if !isTarget fmt || (isBlock fmt && n % 32 != 0) then some .eFormat
  else if !inSpad (s.addrOf q (slice w 103 99) (slice w 63 40)) (rowBytes fmt n) ||
      (isBlock fmt && !inSpad (s.addrOf q (slice w 71 67) (slice w 63 40)) (rowScaleBytes fmt n)) then some .eBounds
  else none

/-- Replace the values of poisoned lanes by free values (log entry 1). -/
def State.freeLanes (s : State) : List (Nat × Bool) → State × List Nat
  | [] => (s, [])
  | (v, bad) :: ls =>
    if bad then
      let r := s.draw.2.freeLanes ls
      (r.1, s.draw.1 % 2 ^ 32 :: r.2)
    else
      let r := s.freeLanes ls
      (r.1, v :: r.2)

/-- VLOAD: widen elements from the quadrant scratchpad (R136). -/
def State.vload (q w : Nat) (s : State) : Except Status State :=
  match s.vecMem q w with
  | some st => .error st
  | none =>
    let fmt := slice w 98 94
    let n := vecLen w
    let a := spadKey q (s.addrOf q (slice w 103 99) (slice w 63 40))
    let c := spadKey q (s.addrOf q (slice w 71 67) (slice w 63 40))
    let e := s.spad.readOut a (rowBytes fmt n)
    let sc := if isBlock fmt then s.spad.readOut c (rowScaleBytes fmt n) else ⟨[], []⟩
    let lane (k : Nat) : Nat × Bool :=
      (toF32 (rowElem fmt e.bytes sc.bytes k),
       s.spad.bad ((a + k * elemBits fmt / 8) / 64) ||
       (isBlock fmt && s.spad.anyBad (c + k / 32 * scaleBytes fmt) (scaleBytes fmt)))
    let r := s.freeLanes ((List.range n).map lane)
    let s := r.1.setLanes q (slice w 119 116) r.2
    .ok (if e.poisoned || sc.poisoned then s.cause q .ePoison else s)

/-- VLOAD (R136). -/
def execVload (q : Fin 16) (s : State) : Res := .next <| s.issueVec q 0x28 (State.vload q)

/-- The rounding of a vector conversion of n elements and the state after its counter has advanced (R108). -/
def State.vecRounding (s : State) (q w n : Nat) : State × (Nat → Rounding) :=
  if bitAt w 93 then
    let N := s.get F.QD_SR_CTR_counter q
    let seed := s.get F.QD_SR_SEED_seed q
    (s.put F.QD_SR_CTR_counter (N + ceilDiv n 1024 * 1024) q, fun k => .stochastic (rand16 seed ((N + k) % 2 ^ 64)))
  else (s, fun _ => .nearest)

/-- VSTORE: narrow lanes into the quadrant scratchpad (R136). -/
def State.vstore (q w : Nat) (s : State) : Except Status State :=
  match s.vecMem q w with
  | some st => .error st
  | none =>
    let fmt := slice w 98 94
    let n := vecLen w
    let a := spadKey q (s.addrOf q (slice w 103 99) (slice w 63 40))
    let c := spadKey q (s.addrOf q (slice w 71 67) (slice w 63 40))
    let r := s.vecRounding q w n
    let row := narrowRow fmt r.2 (bitAt w 92) ((s.lanes q (slice w 115 112) n).map ofF32)
    let m := r.1.spad.write a row.bytes
    let m := if isBlock fmt then m.write c row.scales else m
    .ok ((r.1.setSpad m).cvtEvents q row.evt)

/-- VSTORE (R136). -/
def execVstore (q : Fin 16) (s : State) : Res := .next <| s.issueVec q 0x29 (State.vstore q)

/-- A one-operand function applied lane by lane; each result takes its own free choice inside its bound (Table 4.4). -/
def State.mapFree (f : Nat → Nat → Nat) (s : State) : List Nat → State × List Nat
  | [] => (s, [])
  | a :: as =>
    let r := State.mapFree f s.draw.2 as
    (r.1, f s.draw.1 a :: r.2)

/-- VOP: lane by lane (R136, Table 4.4). -/
def State.vop (q w : Nat) (s : State) : Except Status State :=
  let fn := slice w 86 84
  let n := vecLen w
  let fmt := slice w 98 94
  let vd := slice w 119 116
  let bsel := slice w 83 82
  let bc := List.replicate n (s.sreg q (slice w 103 99) % 2 ^ 32)
  let a := s.lanes q (slice w 115 112) n
  let b := if bsel = 1 then bc else s.lanes q (slice w 111 108) n
  let c := if bsel = 2 then bc else s.lanes q (slice w 107 104) n
  if bsel = 3 ∨ fn = 7 ∨ (fn = 6 ∧ (!isTarget fmt || (isBlock fmt && n % 32 != 0))) then .error .eFormat
  else if fn = 0 then .ok (s.setLanes q vd (List.zipWith (fun x y => fmaF32 x.1 x.2 y) (a.zip b) c))
  else if fn = 1 then .ok (s.setLanes q vd (List.zipWith maxF32 a b))
  else if fn = 6 then
    let r := s.vecRounding q w n
    let row := narrowRow fmt r.2 (bitAt w 92) (a.map ofF32)
    .ok ((r.1.setLanes q vd ((List.range n).map fun k => toF32 (rowElem fmt row.bytes row.scales k))).cvtEvents q row.evt)
  else
    let f := if fn = 2 then exp2F32 else if fn = 3 then log2F32 else if fn = 4 then rsqrtF32 else recipF32
    let r := s.mapFree f a
    .ok (r.1.setLanes q vd r.2)

/-- VOP (R136). -/
def execVop (q : Fin 16) (s : State) : Res := .next <| s.issueVec q 0x2A (State.vop q)

/-- VRED: reduce the active lanes into every lane of vd (R136). -/
def State.vred (q w : Nat) (s : State) : Except Status State :=
  let fn := slice w 86 84
  let a := s.lanes q (slice w 115 112) (vecLen w)
  if 1 < fn then .error .eFormat
  else .ok (s.setLanes q (slice w 119 116) (List.replicate 1024 (reduceLanes (if fn = 0 then addF32 else maxF32) a)))

/-- VRED (R136). -/
def execVred (q : Fin 16) (s : State) : Res := .next <| s.issueVec q 0x2B (State.vred q)

/-- Whether pair a ranks above pair b: the greater value, then the lower index (R102, R137). -/
def topAbove (a b : Nat × Nat) : Bool :=
  decide (ordKey b.1 < ordKey a.1) || (decide (ordKey b.1 = ordKey a.1) && decide (a.2 < b.2))

/-- Put a pair into a ranked list. -/
def topInsert (p : Nat × Nat) : List (Nat × Nat) → List (Nat × Nat)
  | [] => [p]
  | a :: as => if topAbove p a then p :: a :: as else a :: topInsert p as

/-- Merge pairs into a buffer of size k. -/
def topMerge (k : Nat) (buf new : List (Nat × Nat)) : List (Nat × Nat) :=
  new.foldl (fun b p => (topInsert p b).take k) buf

/-- VTOPK: merge, clear, read out (R136, R137). -/
def State.vtopk (q w : Nat) (s : State) : Except Status State :=
  let fn := slice w 86 84
  let n := vecLen w
  let x := s.seq q
  let va := slice w 115 112
  let vals := s.lanes q va n
  let k := slice w 39 32
  if 3 < fn ∨ (fn = 2 ∧ (k = 0 ∨ 64 < k)) then .error .eFormat
  else if fn = 0 then
    let idx := (List.range n).map fun l => (slice w 31 0 + l) % 2 ^ 32
    .ok (s.setSeq q { x with topk := topMerge x.topkSize x.topk (vals.zip idx) })
  else if fn = 1 then .ok (s.setSeq q { x with topk := topMerge x.topkSize x.topk (vals.zip (s.lanes q (slice w 111 108) n)) })
  else if fn = 2 then .ok (s.setSeq q { x with topkSize := k, topk := [] })
  else
    let lanes := (List.range 1024).map fun l =>
      if x.topkSize ≤ l then (0, 0) else x.topk.getD l (0xFF800000, 0xFFFFFFFF)
    .ok ((s.setLanes q (slice w 119 116) (lanes.map Prod.fst)).setLanes q va (lanes.map Prod.snd))

/-- VTOPK (R136, R137). -/
def execVtopk (q : Fin 16) (s : State) : Res := .next <| s.issueVec q 0x2C (State.vtopk q)

/-- VECTOR_INSTRUCTION_COMPLETE: the oldest vector instruction of quadrant q completes; a VSTORE that names an event counter
counts (R133, R138). -/
def execVectorInstructionComplete (q : Fin 16) (s : State) : Res :=
  .next <|
    let x := s.seq q
    match x.vq with
    | [] => s
    | id :: rest => if s.quadStopped q then s else (s.setSeq q { x with vq := rest }).partDone q id

end Sys2Proof.Machine
end

