-- ==== Sys2Proof/Machine/Reflect.lean ====
section
/-! DEFINITION. Reflection, the engine's own state: forming and losing a binding, the shadow and its undo log, generations, what a
reflection packet does when the flow hands it over and what its reply does (R383-R392). The rows stand in Reflection.lean. -/

namespace Sys2Proof.Machine

def State.setRefl (s : State) (r : Refl) : State := { s with refl := r }

/-- FAB_REFLECT_STAT.state: 0 unbound, 1 binding, 2 copying, 3 bound, 4 paused, 5 lost. -/
def State.reflState (s : State) : Nat := s.get F.FAB_REFLECT_STAT_state 0
def State.setReflState (s : State) (v : Nat) : State := s.put F.FAB_REFLECT_STAT_state v 0

/-- The partner's node. -/
def State.reflPartner (s : State) : Nat := s.get F.FAB_REFLECT_STAT_partner 0

/-- A binding is formed and its partner has not been declared lost. -/
def State.reflBound (s : State) : Bool :=
  (s.reflState == 2 || s.reflState == 3 || s.reflState == 4) && s.refl.rolling.isNone

/-- Granules of the reflected space. -/
def Refl.total (r : Refl) : Nat := (r.regions.map fun e => e.2).sum

/-- Entries that the undo log holds (R387). -/
def Refl.undoMax (r : Refl) : Nat := r.undoSize * 2 ^ 21 / 2064

/-! ## Forming the binding (R384, R388) -/

/-- Each end has accepted the other's RBIND: the BIND completes and the initial copy starts in both directions. -/
def State.formBinding (s : State) : State :=
  if s.reflState ≠ 1 ∨ !s.refl.took ∨ !s.refl.given then s
  else
    let s : State := match s.refl.work with | some w => s.finish w .ok 0 | none => s
    let s := s.setRefl { s.refl with work := none, tracking := true, dirty := [], copyAt := some 0, marks := [], log := [], heard := s.time,
                                     quiet := none, owe := false }
    let s := ((s.put F.FAB_REFLECT_GEN_created 1 0).put F.FAB_REFLECT_GEN_durable 0 0).put F.FAB_REFLECT_COPIED_bytes 0 0
    let s := ((s.put F.FAB_REFLECT_STAT_shadow 1 0).put F.FAB_REFLECT_STAT_shadow_gen 0 0).put F.FAB_REFLECT_STAT_overflow 0 0
    s.setReflState 2

/-- A BIND ends without a binding: the device is unbound. -/
def State.failBind (s : State) (st : Status) : State :=
  let s : State := match s.refl.work with | some w => s.finish w st 0 | none => s
  ((s.setRefl {}).put F.FAB_REFLECT_STAT_partner 0 0).setReflState 0

/-! ## Losing the partner (R389, R390) -/

/-- Step 3 of R390: state lost, its cause, PF vector 0 and REFLECT_LOST. -/
def State.reflGone (s : State) (cause : Nat) : State :=
  let s := (s.setRefl { s.refl with rolling := none }).setReflState 5
  let s := (s.put F.FAB_REFLECT_STAT_cause cause 0).put F.FAB_REFLECT_STAT_lost_evt 1 0
  ((s.vec0).pldm .reflectLost).logEvent 0x0011 0 [cause, s.reflPartner, s.get F.FAB_REFLECT_STAT_shadow_gen 0]

/-- The partner is lost: MARKs end E_PEER_LOST, tracking and streaming stop; a DURABLE shadow is rolled back, an overflowed one is TORN. -/
def State.reflLost (s : State) (cause : Nat) : State :=
  if !s.reflBound then s
  else
    let s := s.refl.marks.foldl (fun s m => match m.work with | some w => s.finish w .ePeerLost 0 | none => s) s
    let s := s.setRefl { s.refl with marks := [], tracking := false, dirty := [], copyAt := none, quiet := none, owe := false }
    let s := { s with fab := { s.fab with reqs := s.fab.reqs.filter fun r => !(decide (0xA0 ≤ r.kind) && r.attempts == 0) } }
    if s.get F.FAB_REFLECT_STAT_shadow 0 = 1 then s.reflGone cause
    else if s.isSet F.FAB_REFLECT_STAT_overflow 0 then (s.put F.FAB_REFLECT_STAT_shadow 3 0).reflGone cause
    else s.setRefl { s.refl with rolling := some (cause, s.time) }

/-- Apply the undo log, newest entry first: the shadow's old content. -/
def State.rollback (s : State) : State :=
  let s := s.refl.log.foldl (fun s u => (s.memWriteBad (s.refl.shadow + 2048 * u.burst) ⟨u.bytes, u.bad⟩).1) s
  s.setRefl { s.refl with log := [] }

/-- A notice, a hello or an answer tells of a reset or stop of node n, or of a new epoch: the pair pauses until an RRESUME (R389, R391). -/
def State.reflPause (s : State) (n : Nat) : State :=
  if s.reflBound ∧ s.reflPartner = n then
    (s.setRefl { s.refl with quiet := some (s.refl.quiet.getD s.time) }).setReflState 4
  else s

/-- The partner announces an epoch. -/
def State.reflEpoch (s : State) (n epoch : Nat) : State :=
  if (s.reflBound ∨ s.reflState = 1) ∧ s.reflPartner = n ∧ s.refl.epoch ≠ epoch then
    let known := s.refl.epoch != 0
    let s := s.setRefl { s.refl with epoch := epoch }
    if known then s.reflPause n else s
  else s

/-- What was in flight counts as dirty again, and what was marked is marked again, once all of that has been sent (R386, R391). -/
def Refl.again (r : Refl) : Refl :=
  { r with dirty := r.dirty.map fun e => (e.1, 1), marks := r.marks.map fun m => { m with sent := false, left := r.dirty.map fun e => e.1 } }

/-- Streaming resumes (R391): the flow is opened afresh. -/
def State.reflResume (s : State) : State :=
  let n := s.reflPartner
  let f : Flow := SMap.get {} s.fab.flows n
  let s := { s with fab := { s.fab with
    flows := SMap.set {} s.fab.flows n { f with src := f.src.map fun (x : FlowSrc) => { x with opened := false, opening := false } }
    reqs := s.fab.reqs.filter fun r => !(r.node == n && decide (0xA0 ≤ r.kind)) } }
  let s := s.setRefl { s.refl.again with quiet := none, owe := false, heard := s.time }
  s.setReflState (if s.get F.FAB_REFLECT_GEN_durable 0 = 0 then 2 else 3)

/-- A chip reset or a stop of this device: the binding stays and is paused, MARKs have ended, READY is followed by an RRESUME (R391). -/
def State.reflInterrupt (s : State) : State :=
  if !s.reflBound then s
  else
    let r := s.refl.again
    (s.setRefl { r with owe := true, marks := r.marks.map fun m => { m with work := none } }).setReflState 4

/-! ## Generations (R386) -/

/-- Generations up to g are durable: their MARKs complete, in order. -/
def State.durable (s : State) (g : Nat) : State :=
  let done := s.refl.marks.filter fun m => decide (m.gen ≤ g)
  let s := done.foldl (fun s m => match m.work with | some w => s.finish w .ok 0 | none => s) s
  let s := s.setRefl { s.refl with marks := s.refl.marks.filter fun m => decide (g < m.gen) }
  let s := if s.get F.FAB_REFLECT_GEN_durable 0 < g then s.put F.FAB_REFLECT_GEN_durable g 0 else s
  if s.reflState = 2 ∧ s.get F.FAB_REFLECT_GEN_durable 0 ≠ 0 then s.setReflState 3 else s

/-! ## Packets from the partner (Table 13.15) -/

/-- Whether a reflection packet's length and fields fit its kind. -/
def Packet.reflFits (p : Packet) : Bool :=
  p.data.length == p.length &&
  (if p.kind = 0xA0 then p.length == 16
   else if p.kind = 0xA1 then p.length == 2048 && decide (p.offset < 2 ^ 38) && p.offset % 2048 == 0
   else if p.kind = 0xA2 then p.length == 0 && decide (p.offset < 2)
   else if p.kind = 0xA4 then p.length == 4
   else p.length == 0)

/-- Whether an RBIND is to be discarded: digests unknown or different (R373). -/
def State.rbindDiscard (s : State) (p : Packet) : Bool :=
  p.kind == 0xA0 && (s.ownDigest == 0 || fieldAt p.data 0 8 != s.ownDigest)

/-- Whether serving the packet must wait for the shadow's memory. -/
def State.reflHeld (s : State) (p : Packet) : Bool :=
  p.kind == 0xA1 && s.reflBound && s.memHeld (s.refl.shadow + p.offset) 2048

/-- An RBIND accepted or not (R384). -/
def State.takeRbind (s : State) (p : Packet) : State × Status :=
  if s.reflPartner ≠ p.src ∨ !(s.reflState = 1 ∨ s.reflBound) then (s, .eNotExported)
  else if s.reflBound then (if p.srcEpoch = s.refl.epoch then (s, .ok) else (s, .eNotExported))
  else if s.refl.shadowSize < fieldAt p.data 8 4 ∨ fieldAt p.data 12 4 < s.refl.total then (s.failBind .eProtocol, .eNotExported)
  else ((s.setRefl { s.refl with took := true, epoch := p.srcEpoch }).formBinding, .ok)

/-- An RBURST reaches the shadow: its old content goes to the undo log first, or the log overflows (R387, R388). -/
def State.takeRburst (s : State) (p : Packet) : State × Status :=
  let b := p.offset / 2048
  let a := s.refl.shadow + p.offset
  if s.refl.shadowSize * 2 ^ 21 < p.offset + 2048 ∨ !s.mapped a 2048 then (s, .eBounds)
  else
    let s : State :=
      if s.get F.FAB_REFLECT_STAT_shadow 0 = 1 then
        s.put F.FAB_REFLECT_COPIED_bytes (s.get F.FAB_REFLECT_COPIED_bytes 0 + 2048) 0
      else if s.refl.log.any fun u => u.burst == b then s
      else if s.refl.undoMax ≤ s.refl.log.length then s.put F.FAB_REFLECT_STAT_overflow 1 0
      else
        let old := s.memRead a 2048
        s.setRefl { s.refl with log := ⟨b, old.bytes, old.bad⟩ :: s.refl.log }
    if p.poison then (s.memPoison a 2048, .ok) else s.memWrite a p.data

/-- An RMARK applied: the undo log is emptied, the generation is durable here (R387, R388). -/
def State.takeRmark (s : State) (p : Packet) : State × Status :=
  if p.key ≤ s.get F.FAB_REFLECT_STAT_shadow_gen 0 ∨ (s.get F.FAB_REFLECT_STAT_shadow 0 = 1 ∧ p.offset = 0) then (s, .ok)
  else
    let s := s.setRefl { s.refl with log := [] }
    let s := ((s.put F.FAB_REFLECT_STAT_shadow_gen p.key 0).put F.FAB_REFLECT_STAT_overflow 0 0).put F.FAB_REFLECT_STAT_shadow 2 0
    (s, .ok)

/-- A reflection packet that the flow hands over in order: accepted only from the bound partner at the epoch it last announced; the
others are answered E_NOT_EXPORTED (R384). -/
def State.takeReflection (s : State) (p : Packet) : State × Status :=
  if p.kind = 0xA0 then s.takeRbind p
  else
    let s := if s.reflState = 1 ∧ s.refl.took ∧ s.reflPartner = p.src ∧ p.srcEpoch = s.refl.epoch then
        (s.setRefl { s.refl with given := true }).formBinding else s
    if !s.reflBound ∨ s.reflPartner ≠ p.src ∨ p.srcEpoch ≠ s.refl.epoch then (s, .eNotExported)
    else
      let s := s.setRefl { s.refl with heard := s.time }
      if p.kind = 0xA1 then s.takeRburst p
      else if p.kind = 0xA2 then s.takeRmark p
      else if p.kind = 0xA4 then ((s.durable (fieldAt p.data 0 4)).reflResume, .ok)
      else (s, .ok)

/-! ## Ends of this device's own reflection packets (R384-R386, R391) -/

/-- A reflection request ends with a status. -/
def State.reflEnd (s : State) (r : FabReq) (st : Status) : State :=
  if r.node ≠ s.reflPartner then s
  else if r.kind = 0xA0 then
    (if s.reflState = 1 ∧ st.good then (s.setRefl { s.refl with given := true }).formBinding else s)
  else if !s.reflBound then s
  else if r.kind = 0xA1 then
    let b := r.off / 2048
    if SMap.get 0 s.refl.dirty b = 2 + r.serial then
      s.setRefl { s.refl with
        dirty := SMap.set 0 s.refl.dirty b (if st.good then 0 else 1)
        marks := if st.good then s.refl.marks
                 else s.refl.marks.map fun m => if m.sent ∨ m.left.contains b then m else { m with left := m.left ++ [b] } }
    else s
  else if r.kind = 0xA2 then
    (if st.good then s.durable r.key
     else s.setRefl { s.refl with marks := s.refl.marks.map fun m => if m.gen = r.key then { m with sent := false } else m })
  else if r.kind = 0xA4 then
    (if st.good then s.reflResume else if st = .eNotExported then s.reflLost 5 else s.setRefl { s.refl with owe := true })
  else s

end Sys2Proof.Machine
end

