-- ==== Sys2Proof/Machine/FabTarget.lean ====
section
/-! DEFINITION. Memory across the fabric, the target's side: routes and replies, the checks of Table 8.8, flow contexts, exported
regions, receive rings, the atomic unit (R218-R221, R228-R245). -/

namespace Sys2Proof.Machine

/-! ## Ports as the fabric sees them -/

/-- Whether port p counts as up for routes: trained, its hello complete with an outcome that carries traffic, and no keeper on it
(R234, R263, R366-R368). -/
def State.portUp (s : State) (p : Nat) : Bool :=
  decide (p < 64) && s.get F.WIN_PORT_STAT_state p == 3 && (s.port p).helloDone &&
  (s.get F.FAB_HELLO_STAT_outcome p == 1 || s.get F.FAB_HELLO_STAT_outcome p == 5)

/-- Whether fabric packets arrive on port p at all: up or draining, outcome full or switch. -/
def State.portReceives (s : State) (p : Nat) : Bool :=
  (s.get F.WIN_PORT_STAT_state p == 3 || s.get F.WIN_PORT_STAT_state p == 4) && (s.port p).helloDone &&
  (s.get F.FAB_HELLO_STAT_outcome p == 1 || s.get F.FAB_HELLO_STAT_outcome p == 5)

/-- The device's own node ID. -/
def State.ownNode (s : State) : Nat := s.get F.FAB_NODE_ID_node 0

/-- Whether the fabric is enabled (R219). -/
def State.fabOn (s : State) : Bool := s.isSet F.FAB_CFG_enable 0

/-- Whether traffic with a node is refused by an exclusion (R379, R380). -/
def State.excludedNode (s : State) (n : Nat) : Bool :=
  s.job.excl.contains n || (s.isSet F.SEC_EXCL_STAT_shutter 0 && n != s.ownNode)

/-- Route entries that match a node, longest prefix first chosen (R234). -/
def State.routeFor (s : State) (n : Nat) : Option Nat :=
  (s.indicesWith F.FAB_ROUTE_valid 1).foldl (fun best i =>
    let l := s.get F.FAB_ROUTE_prefix_len i
    if n / 2 ^ (20 - l) = s.get F.FAB_ROUTE_prefix i / 2 ^ (20 - l) then
      match best with
      | none => some i
      | some j => if s.get F.FAB_ROUTE_prefix_len j < l then some i else best
    else best) none

/-- The ports of a node's route that are up. -/
def State.routePorts (s : State) (n : Nat) : List Nat :=
  match s.routeFor n with
  | none => []
  | some i => (List.range 64).filter fun p => bitAt (s.get F.FAB_ROUTE_ports i) p && s.portUp p

/-- The port that traffic to a node takes; none while no port of its route is up. -/
def State.routePort (s : State) (n : Nat) : Option Nat :=
  let ps := s.routePorts n
  if ps.isEmpty then none else ps[Config.routeHash n ps.length % ps.length]?

/-- W(h) in ns for a node's route (Table 8.7). -/
def State.finalWait (s : State) (n : Nat) : Nat :=
  match s.routeFor n with
  | none => 4000
  | some i => 4000 + 2000 * s.get F.FAB_ROUTE_hops i

/-- Count in FAB_EVT_CNT[j]. -/
def State.fabCount (s : State) (j : Nat) : State := s.bump F.FAB_EVT_CNT_count 1 j

/-! ## Flow contexts (R233, R235) -/

def State.setFab (s : State) (f : Fabric) : State := { s with fab := f }
def State.flow (s : State) (n : Nat) : Flow := SMap.get {} s.fab.flows n
def State.setFlow (s : State) (n : Nat) (v : Flow) : State := s.setFab { s.fab with flows := SMap.set {} s.fab.flows n v }

/-- Whether a context for node n is held. -/
def Flow.used (f : Flow) : Bool := f.src.isSome || f.tgt.isSome

/-- Contexts in use. -/
def Fabric.count (f : Fabric) : Nat := (f.flows.filter fun e => e.2.used).length

/-- Contexts on die. -/
def Fabric.onDie (f : Fabric) : List (Nat × Flow) := f.flows.filter fun e => e.2.used && e.2.place == .onDie

/-- Whether this device has requests outstanding to node n. -/
def Fabric.busy (f : Fabric) (n : Nat) : Bool := f.reqs.any fun r => r.node == n

/-- Evict the least recently used on-die context that has no request in progress, when 16,384 are held (R235). -/
def State.evict (s : State) : State :=
  let l := s.fab.onDie
  if l.length < 16384 then s
  else
    let cand := l.filter fun e => !s.fab.busy e.1
    match cand.foldl (fun (b : Option (Nat × Flow)) e => match b with
      | none => some e
      | some x => if e.2.touched < x.2.touched then some e else b) none with
    | none => s
    | some e => s.setFlow e.1 { e.2 with place := .backing }

/-- Touch a context on use. -/
def State.touch (s : State) (n : Nat) : State := s.setFlow n { s.flow n with touched := s.time }

/-- Bring a context on die where it stands in the backing store: true when it is at hand; otherwise a fetch runs, at most 64 at
once, and the miss is counted (R235). -/
def State.needCtx (s : State) (n : Nat) : Bool × State :=
  let f := s.flow n
  match f.place with
  | .onDie => (true, s.touch n)
  | .fetching => (false, s)
  | .backing =>
    let running := (s.fab.flows.filter fun e => e.2.place == .fetching).length
    if 64 ≤ running then (false, s) else (false, (s.fabCount 11).setFlow n { f with place := .fetching })

/-! ## Replies -/

/-- The counter of an answer's status (Table 8.12). -/
def answerCounter (st : Status) : Option Nat :=
  match st with
  | .eKey => some 0
  | .eNotExported => some 1
  | .eBounds => some 2
  | .eExcluded => some 3
  | .eEpoch => some 4
  | .eStale => some 5
  | _ => none

/-- Send a packet to a node: on the port a request arrived on while that is up, else by the route table; else it is dropped. -/
def State.sendBack (s : State) (port : Nat) (p : Packet) : State :=
  if s.portReceives port then s.tx port (.packet port p)
  else match s.routePort p.dst with
    | none => s
    | some q => s.tx q (.packet q p)

/-- The reply to a request. -/
def State.replyTo (s : State) (p : Packet) (st : Status) (data : List Byte) (poison : Bool) : Packet :=
  { kind := 0x80, poison := poison, tag := p.tag, dst := p.src, src := s.ownNode, status := st.code, dstEpoch := s.epoch
    srcEpoch := s.epoch, fseq := match (s.flow p.src).tgt with | some t => (t.expected + 2 ^ 32 - 1) % 2 ^ 32 | none => 0
    length := data.length, data := data }

/-- Answer a request (R234). -/
def State.answer (s : State) (port : Nat) (p : Packet) (st : Status) (data : List Byte) (poison : Bool) : State :=
  let s := match answerCounter st with | some j => s.fabCount j | none => s
  s.sendBack port (s.replyTo p st data poison)

/-- A NAK that names the fseq expected (R231). -/
def State.nak (s : State) (port : Nat) (p : Packet) (expected : Nat) : State :=
  (s.fabCount 10).sendBack port
    { kind := 0x81, tag := p.tag, dst := p.src, src := s.ownNode, dstEpoch := s.epoch, srcEpoch := s.epoch, fseq := expected }

/-! ## Records at the rate of R237 -/

/-- The record of a violation by a source: at most one per source per 1 ms and 4,096 a second (R244). -/
def State.sourceLog (s : State) (src : Nat) (args : List Nat) : State :=
  let f := s.fab
  let fresh := f.logStart + 1000000000 ≤ s.time
  let start := if fresh then s.time else f.logStart
  let cnt := if fresh then 0 else f.logCount
  let recent := match SMap.get none f.logLast src with | none => false | some t => decide (s.time < t + 1000000)
  if recent || 4096 ≤ cnt then s.setFab { f with logStart := start, logCount := cnt }
  else (s.setFab { f with logStart := start, logCount := cnt + 1, logLast := SMap.set none f.logLast src (some s.time) }).logEvent
    0x000E 0 args

/-- A transaction-level violation by a source: counted in counter j, logged, and noted for the flood rule (R244). -/
def State.violation (s : State) (src j : Nat) : State :=
  let s := s.fabCount j
  let times := s.time :: (SMap.get [] s.fab.viol src).filter fun t => decide (s.time < t + 1000000)
  (s.setFab { s.fab with viol := SMap.set [] s.fab.viol src (times.take 1025) }).sourceLog src [src, j]

/-- Whether a source's violating packets are being discarded (R244). -/
def State.discarding (s : State) (src : Nat) : Bool := (SMap.get none s.fab.discard src).isSome

/-- Answer a violation, or discard the packet of a flooding source. -/
def State.answerViolation (s : State) (port : Nat) (p : Packet) (st : Status) : State :=
  if s.discarding p.src then (s.fabCount 7).violation p.src 7
  else (s.violation p.src 6).answer port p st [] false

/-! ## Header checks (Table 8.11) -/

/-- Whether the kind is a request of Table 8.4. -/
def isRequest (k : Nat) : Bool := decide (1 ≤ k) && decide (k ≤ 6)

/-- Whether a kind is a reflection packet (Table 13.15). -/
def isReflection (k : Nat) : Bool := decide (0xA0 ≤ k) && decide (k ≤ 0xA4)

/-- The first header violation of a request and its answer. -/
def State.headerFault (s : State) (p : Packet) : Option Status :=
  if !(isRequest p.kind || isReflection p.kind) || p.rsv || (p.kind != 4 && (p.afnFn != 0 || p.afnWide || p.afnSigned)) then some .eProtocol
  else if p.dst ≠ s.ownNode then some .eProtocol
  else if isReflection p.kind then (if p.reflFits then none else some .eProtocol)
  else
    let carried := if p.kind = 1 ∨ p.kind = 6 then 0 else if p.kind = 4 then 16 else p.length
    if p.data.length ≠ carried then some .eProtocol
    else if p.kind = 4 then
      let w := if p.afnWide then 8 else 4
      if 4 < p.afnFn ∨ p.offset % w ≠ 0 then some .eFormat else if p.length ≠ w then some .eProtocol else none
    else if p.kind = 6 then none
    else if p.length = 0 ∨ 4096 < p.length ∨ (p.kind = 5 ∧ 4080 < p.length) then some .eFormat
    else if p.kind ≠ 5 ∧ 4096 < p.offset % 4096 + p.length then some .eFormat
    else none

/-! ## Regions (R236, R238) -/

/-- The valid region entry that covers an offset. -/
def State.regionFor (s : State) (off : Nat) : Option Nat :=
  (s.indicesWith F.FAB_REGION_valid 1).find? fun i =>
    decide (s.get F.FAB_REGION_base i * 2 ^ 21 ≤ off) &&
    decide (off < (s.get F.FAB_REGION_base i + s.get F.FAB_REGION_size i) * 2 ^ 21)

/-- Whether a source passes an entry's filter. -/
def State.passesFilter (s : State) (i src : Nat) : Bool :=
  (src &&& s.get F.FAB_REGION_src_mask i) == (s.get F.FAB_REGION_src_node i &&& s.get F.FAB_REGION_src_mask i)

/-- Whether region i permits a request kind. -/
def State.permits (s : State) (i kind : Nat) : Bool :=
  if kind = 1 then s.isSet F.FAB_REGION_read i
  else if kind = 4 then s.isSet F.FAB_REGION_atomic i
  else s.isSet F.FAB_REGION_write i

/-- What serving a request gives: the state, its status, data and poison. -/
structure Served where
  state : State
  status : Status
  data : List Byte := []
  poison : Bool := false

/-! ## Execution (check 13) -/

/-- Slots, slot size, fill of receive ring n. -/
def State.ringFull (s : State) (n : Nat) : Bool :=
  (s.get F.FAB_RXQ_PTR_tail n + 65536 - s.get F.FAB_RXQ_PTR_head n) % 65536 == 2 ^ s.get F.FAB_RXQ_CFG_log2_slots n

/-- Where the next message of receive ring n goes (R239). -/
def State.ringSlot (s : State) (n : Nat) : Nat :=
  s.get F.FAB_RXQ_CFG_base n * 2048 +
    s.get F.FAB_RXQ_PTR_tail n % 2 ^ s.get F.FAB_RXQ_CFG_log2_slots n * 2 ^ s.get F.FAB_RXQ_CFG_log2_slot_size n

/-- Write a message into a receive ring and signal (R239). -/
def State.deliver (s : State) (n : Nat) (p : Packet) : Served :=
  let tail := s.get F.FAB_RXQ_PTR_tail n
  let bytes := leBytes 3 p.src ++ [0] ++ leBytes 2 p.data.length ++ leBytes 2 p.srcEpoch ++ leBytes 8 s.time ++ p.data
  let w := s.memWrite (s.ringSlot n) bytes
  let t := w.1.put F.FAB_RXQ_PTR_tail (tail + 1) n
  { state := if t.isSet F.FAB_RXQ_CFG_sig_en n then t.syncAdd (t.get F.FAB_RXQ_CFG_sync_obj n) 1 else t
    status := w.2 }

/-- The new value of an atomic (Table 8.5): 0 add, 1 min, 2 max, 3 swap, 4 compare-swap. -/
def atomicFn (fn : Nat) (sgn : Bool) (w old operand compare : Nat) : Nat :=
  let lt (a b : Nat) : Bool := if sgn then decide (signed w a < signed w b) else decide (a < b)
  if fn = 0 then (old + operand) % 2 ^ w
  else if fn = 1 then (if lt operand old then operand else old)
  else if fn = 2 then (if lt old operand then operand else old)
  else if fn = 3 then operand
  else if old = compare then operand else old

/-- Apply an atomic in the atomic unit: an ordinary read and an ordinary write (R157, R240). -/
def State.atomic (s : State) (p : Packet) : Served :=
  let n := if p.afnWide then 8 else 4
  let r := s.memRead p.offset n
  if r.poisoned then { state := s, status := .ePoison }
  else
    let old := leNat r.bytes
    let new := atomicFn p.afnFn p.afnSigned (8 * n) old (fieldAt p.data 0 n) (fieldAt p.data 8 n)
    let w := s.memWrite p.offset (leBytes n new)
    { state := w.1, status := w.2, data := leBytes 8 old }

/-- The atomic's decision by its sequence (Table 8.10a), for a flow context. -/
def State.atomicSeq (s : State) (p : Packet) (t : FlowTgt) : Served :=
  let s := s.engAdvance 29 1
  match s.fab.cache.find? fun c => c.node == p.src && c.epoch == p.srcEpoch && c.aseq == p.aseq with
  | some c => { state := s, status := c.status, data := if c.status.good then leBytes 8 c.value else [] }
  | none =>
    let d := (p.aseq + 65536 - t.hwm) % 65536
    if 1 ≤ d ∧ d ≤ 32767 then
      let r := s.atomic p
      let f := r.state.fab
      let c : CacheEnt := ⟨p.src, p.srcEpoch, p.aseq, r.status, leNat r.data, s.time⟩
      let st := r.state.setFab { f with cache := f.cache ++ [c] }
      { r with state := st.setFlow p.src { st.flow p.src with tgt := (st.flow p.src).tgt.map fun t => { t with hwm := p.aseq } } }
    else if d = 0 ∨ 61440 ≤ d then { state := s, status := .eOutcomeUnknown }
    else { state := s, status := .eStale }

/-- The record of an E_KEY answer: at most one per source per 1 ms and 4,096 a second; suppressed ones are counted (R237). The time of
a source's last one is in its flow context (R235). -/
def State.keyLog (s : State) (src region : Nat) : State :=
  let f := s.fab
  let x := s.flow src
  let fresh := f.keyStart + 1000000000 ≤ s.time
  let start := if fresh then s.time else f.keyStart
  let cnt := if fresh then 0 else f.keyCount
  let recent := match x.tgt.bind FlowTgt.keyLog with | none => false | some t => decide (s.time < t + 1000000)
  if recent || 4096 ≤ cnt then (s.setFab { f with keyStart := start, keyCount := cnt }).fabCount 12
  else ((s.setFab { f with keyStart := start, keyCount := cnt + 1 }).setFlow src
    { x with tgt := x.tgt.map fun t => { t with keyLog := some s.time } }).logEvent 0x000D 0 [src, region]

/-- Checks 7 to 13 for a request whose memory access would start at offset off. -/
def State.serveChecks (s : State) (p : Packet) (t : FlowTgt) : Served :=
  if p.kind = 6 then { state := s, status := .ok }
  else if isReflection p.kind then
    let r := s.takeReflection p
    { state := r.1, status := r.2 }
  else if p.kind = 5 then
    let n := p.offset % 1024
    if !s.isSet F.FAB_RXQ_CFG_enable n then { state := s, status := .eNotExported }
    else if p.key ≠ s.get F.FAB_RXQ_CFG_key n then { state := s.keyLog p.src n, status := .eKey }
    else if 2 ^ s.get F.FAB_RXQ_CFG_log2_slot_size n < p.length + 16 ∨ s.ringFull n then { state := s, status := .eBounds }
    else if !s.mapped (s.ringSlot n) (p.length + 16) then { state := s, status := .eBounds }
    else s.deliver n p
  else match s.regionFor p.offset with
    | none => { state := s, status := .eNotExported }
    | some i =>
      if p.key ≠ s.get F.FAB_REGION_key i ∨ !s.passesFilter i p.src then { state := s.keyLog p.src i, status := .eKey }
      else if !s.permits i p.kind then { state := s, status := .eNotExported }
      else if (s.get F.FAB_REGION_base i + s.get F.FAB_REGION_size i) * 2 ^ 21 < p.offset + p.length then
        { state := s, status := .eBounds }
      else if !s.mapped p.offset p.length then { state := s, status := .eBounds }
      else if p.kind = 4 then s.atomicSeq p t
      else if p.kind = 1 then
        let r := s.memRead p.offset p.length
        { state := s, status := if r.poisoned then .ePoison else .ok, data := r.bytes, poison := r.poisoned }
      else if p.poison then { state := s.memPoison p.offset p.length, status := .ok }
      else
        let w := s.memWrite p.offset p.data
        { state := w.1, status := w.2 }

/-! ## The target's flow (R229-R231) -/

/-- Whether a context can be taken: one is free of the 262,144. -/
def State.ctxFree (s : State) (n : Nat) : Bool := (s.flow n).used || decide (s.fab.count < 262144)

/-- Hold a packet until what it waits for has happened. -/
def State.holdPacket (s : State) (port : Nat) (p : Packet) : State := s.setFab { s.fab with held := s.fab.held ++ [(port, p)] }

/-- Whether serving the packet must wait for its memory: a zero fill or a self-refresh (R149, R182). -/
def State.packetHeld (s : State) (p : Packet) : Bool :=
  if isReflection p.kind then s.reflHeld p
  else if p.kind = 5 then
    s.isSet F.FAB_RXQ_CFG_enable (p.offset % 1024) && s.memHeld (s.ringSlot (p.offset % 1024)) (p.length + 16)
  else p.kind != 6 && s.memHeld p.offset p.length

/-- A sequenced request in order: checked, applied or refused, recorded, the expected value advanced. -/
def State.serveStore (s : State) (port : Nat) (p : Packet) (t : FlowTgt) : State :=
  let r := s.serveChecks p t
  let s := r.state
  let s := match (s.flow p.src).tgt with
    | none => s
    | some t => s.setFlow p.src { s.flow p.src with
        tgt := some { t with expected := (t.expected + 1) % 2 ^ 32, lastReq := s.time
                             window := ((p.fseq, r.status) :: t.window).take 128 } }
  s.answer port p r.status r.data r.poison

/-- A duplicate store (R231): an atomic by its cached result, another by its recorded status. -/
def State.serveDup (s : State) (port : Nat) (p : Packet) (t : FlowTgt) : State :=
  if p.kind = 4 then
    let r := s.atomicSeq p { t with hwm := t.hwm }
    r.state.answer port p r.status r.data false
  else match t.window.find? fun e => e.1 == p.fseq with
    | some e => s.answer port p e.2 [] false
    | none => s.fabCount 7

/-- An open: the context is created or reset (R229). -/
def State.serveOpen (s : State) (port : Nat) (p : Packet) : State :=
  if !s.ctxFree p.src then s.setFab { s.fab with opens := s.fab.opens ++ [(s.time, port, p)] }
  else
    let s := (if (s.flow p.src).used then s else s.evict).reflEpoch p.src p.srcEpoch
    let t : FlowTgt := { epoch := p.srcEpoch, expected := p.fseq, hwm := (p.aseq + 65535) % 65536, lastReq := s.time
                         keyLog := (s.flow p.src).tgt.bind FlowTgt.keyLog }
    let s := (s.setFlow p.src { s.flow p.src with tgt := some t, place := .onDie, touched := s.time })
    s.answer port p .ok [] false

/-- Checks 5 and 6 and what follows, for a request with a good header from a source that is not excluded. -/
def State.serveFlow (s : State) (port : Nat) (p : Packet) : State :=
  let known := s.needCtx p.src
  if (s.flow p.src).used && !known.1 then known.2.holdPacket port p
  else
    let s := known.2
    if p.kind = 6 ∧ p.opn then
      if p.dstEpoch ≠ 0 ∧ p.dstEpoch ≠ s.epoch then s.answer port p .eEpoch [] false else s.serveOpen port p
    else match (s.flow p.src).tgt with
      | none => s.answer port p .eEpoch [] false
      | some t =>
        if p.dstEpoch ≠ s.epoch ∨ t.epoch ≠ p.srcEpoch then s.answer port p .eEpoch [] false
        else
          let ahead := (p.fseq + 2 ^ 32 - t.expected) % 2 ^ 32
          let behind := (t.expected + 2 ^ 32 - p.fseq) % 2 ^ 32
          if p.kind = 1 then
            if (p.ordered && decide (ahead < 2 ^ 31)) || s.packetHeld p then s.holdPacket port p
            else
              let r := s.serveChecks p t
              let s := r.state.setFlow p.src { r.state.flow p.src with tgt := (r.state.flow p.src).tgt.map fun t => { t with lastReq := s.time } }
              s.answer port p r.status r.data r.poison
          else if ahead = 0 then (if s.packetHeld p then s.holdPacket port p else s.serveStore port p t)
          else if ahead ≤ 128 then s.nak port p t.expected
          else if ahead < 2 ^ 31 then (s.violation p.src 10).nak port p t.expected
          else if behind ≤ 128 then s.serveDup port p t
          else s.violation p.src 7

/-- Every check at the target, in the order of Table 8.8. -/
def State.serve (s : State) (port : Nat) (p : Packet) : State :=
  match s.headerFault p with
  | some st => s.answerViolation port p st
  | none =>
    if !s.fabOn then s.answer port p .eNotExported [] false
    else if s.excludedNode p.src then s.answer port p .eExcluded [] false
    else if s.rbindDiscard p then s.fabCount 7
    else s.serveFlow port p

/-- Serve again every held packet of a source, or of all (n packets at most). -/
def State.serveHeld (s : State) (f : Packet → Bool) : State :=
  let now := s.fab.held.filter fun e => f e.2
  let s := s.setFab { s.fab with held := s.fab.held.filter fun e => !f e.2 }
  now.foldl (fun s e => s.serve e.1 e.2) s

/-- Serve again whatever is held: stacks have left self-refresh (R182). -/
def State.serveAll (s : State) : State := (s.serveHeld fun _ => true).serveHeld fun h => h.kind == 1

/-- The link keeper's answer to a request (Table 9.12). -/
def State.keeperAnswer (s : State) (port : Nat) (p : Packet) : State :=
  let s := s.bump F.WIN_EVT_CNT_count 1 (16 * port + 9)
  s.tx port (.packet port
    { kind := 0x80, tag := p.tag, dst := p.src, src := s.ownNode, status := Status.eResetting.code
      dstEpoch := s.rst.prevEpoch, srcEpoch := s.rst.prevEpoch })

/-- A request packet arrives on a port: a keeper answers it, or the hub serves it, and stores that it lets through release what waited
for them. -/
def State.arrive (s : State) (port : Nat) (p : Packet) : State :=
  if s.kept then (if s.get F.WIN_PORT_STAT_state port = 3 ∨ s.get F.WIN_PORT_STAT_state port = 4 then s.keeperAnswer port p else s)
  else if !s.portReceives port then s.bump F.WIN_EVT_CNT_count 1 (16 * port + 4)
  else if s.unitFrozen 0x50 then s
  else (s.serve port p).serveHeld fun h => h.src == p.src && h.kind == 1

/-- Whether a packet belongs to the row of kind k: it carries that kind, or a kind no request has. -/
def Packet.isKind (p : Packet) (k : Nat) : Bool := (p.kind == k && !(p.kind == 6 && p.opn)) || (k == 1 && !isRequest p.kind && !isReflection p.kind)

/-- READ_REQUEST (R236). -/
def execReadRequest (port : Fin 64) (p : Packet) (s : State) : Res := .next <| if p.isKind 1 then s.arrive port p else s

/-- WRITE_REQUEST (R236). -/
def execWriteRequest (port : Fin 64) (p : Packet) (s : State) : Res := .next <| if p.isKind 2 then s.arrive port p else s

/-- WRITE_POSTED_REQUEST (R236). -/
def execWritePostedRequest (port : Fin 64) (p : Packet) (s : State) : Res := .next <| if p.isKind 3 then s.arrive port p else s

/-- ATOMIC_REQUEST (R241). -/
def execAtomicRequest (port : Fin 64) (p : Packet) (s : State) : Res := .next <| if p.isKind 4 then s.arrive port p else s

/-- SEND_REQUEST (R239). -/
def execSendRequest (port : Fin 64) (p : Packet) (s : State) : Res := .next <| if p.isKind 5 then s.arrive port p else s

/-- FENCE_REQUEST (R226). -/
def execFenceRequest (port : Fin 64) (p : Packet) (s : State) : Res := .next <| if p.isKind 6 then s.arrive port p else s

/-- OPEN_REQUEST (R229). -/
def execOpenRequest (port : Fin 64) (p : Packet) (s : State) : Res := .next <| if p.kind = 6 ∧ p.opn then s.arrive port p else s

/-! ## Time-driven rows of the target -/

/-- Serve opens that waited for a context, while one is free. -/
def State.serveOpens (s : State) : State :=
  let l := s.fab.opens
  let s := s.setFab { s.fab with opens := [] }
  l.foldl (fun s e => s.serve e.2.1 e.2.2) s

/-- FLOW_CONTEXT_WAIT_TIMEOUT: an open that has waited 1 ms for a context is answered E_TIMEOUT (R235). -/
def execFlowContextWaitTimeout (node : Fin 1048576) (s : State) : Res :=
  .next <|
    match s.fab.opens.find? fun e => e.2.2.src == node.val with
    | none => s
    | some e => ((s.due (e.1 + 1000000)).setFab { s.fab with opens := s.fab.opens.erase e }).answer e.2.1 e.2.2 .eTimeout [] false

/-- FLOW_CONTEXT_RECLAIM: a side of a context idle for 1 ms is given up (R233). -/
def execFlowContextReclaim (source : Bool) (node : Fin 1048576) (s : State) : Res :=
  .next <|
    let f := s.flow node
    if source then
      match f.src with
      | none => s
      | some x =>
        if s.fab.busy node || s.fab.ops.any (fun o => o.node == node.val || o.nodes.contains node.val) || x.posted.isSome then s
        else ((s.due (x.lastUse + 1000000)).setFlow node { f with src := none }).serveOpens
    else
      match f.tgt with
      | none => s
      | some t =>
        if s.fab.held.any fun h => h.2.src == node.val then s
        else ((s.due (t.lastReq + 1000000)).setFlow node { f with tgt := none }).serveOpens

/-- RESULT_CACHE_SWEEP: entries older than 200 µs are dropped (R241). -/
def execResultCacheSweep (s : State) : Res :=
  .next <| s.setFab { s.fab with cache := s.fab.cache.filter fun c => decide (s.time < c.time + 200000) }

/-- SOURCE_VIOLATION_FLOOD: more than 1,024 violations of a source within 1 ms: its violating packets are discarded (R244). -/
def execSourceViolationFlood (node : Fin 1048576) (s : State) : Res :=
  .next <|
    let n := ((SMap.get [] s.fab.viol node).filter fun t => decide (s.time < t + 1000000)).length
    if 1024 < n ∧ !s.discarding node then
      s.setFab { s.fab with discard := SMap.set none s.fab.discard node (some s.time), viol := SMap.set [] s.fab.viol node [] }
    else s

/-- VIOLATION_DISCARD_END: 10 ms later they are answered again (R244). -/
def execViolationDiscardEnd (node : Fin 1048576) (s : State) : Res :=
  .next <|
    match SMap.get none s.fab.discard node with
    | none => s
    | some t => (s.due (t + 10000000)).setFab { s.fab with discard := SMap.set none s.fab.discard node none }

/-! ## Set-up registers (R219, R220, R239) -/

/-- RXQ_HEAD_WRITE: slots are returned (R239). -/
def execRxqHeadWrite (n : Fin 1024) (w : BarAcc) (s : State) : Res :=
  .next <| s.onWrite .FAB_RXQ_PTR n w fun n =>
    s.put F.FAB_RXQ_PTR_head (w.merge F.FAB_RXQ_PTR_head (s.get F.FAB_RXQ_PTR_head n)) n

/-- RXQ_DISABLE: clearing enable resets head and tail (R239). -/
def execRxqDisable (n : Fin 1024) (w : BarAcc) (s : State) : Res :=
  .next <| s.onWrite .FAB_RXQ_CFG n w fun n =>
    if s.isSet F.FAB_RXQ_CFG_enable n && w.touches F.FAB_RXQ_CFG_enable && s.after w F.FAB_RXQ_CFG_enable n == 0 then
      ((s.put F.FAB_RXQ_CFG_enable 0 n).put F.FAB_RXQ_PTR_head 0 n).put F.FAB_RXQ_PTR_tail 0 n
    else s

end Sys2Proof.Machine
end

