-- ==== Sys2Proof/Machine/FabSource.lean ====
section
/-! DEFINITION. Memory across the fabric, the source's side: FABRIC_OPs and board-window accesses become operations; operations issue
requests on flows; replies, NAKs and timeouts end them (R221-R234, R242, R243). -/

namespace Sys2Proof.Machine

/-! ## Operations and requests as stored -/

def State.fabOp (s : State) (id : Nat) : Option FabOp := s.fab.ops.find? fun o => o.id == id

/-- Change an operation. -/
def State.updOp (s : State) (id : Nat) (f : FabOp → FabOp) : State :=
  s.setFab { s.fab with ops := s.fab.ops.map fun o => if o.id = id then f o else o }

/-- Change a request. -/
def State.updReq (s : State) (serial : Nat) (f : FabReq → FabReq) : State :=
  s.setFab { s.fab with reqs := s.fab.reqs.map fun r => if r.serial = serial then f r else r }

/-- This device's source side of a flow. -/
def State.srcFlow (s : State) (n : Nat) : FlowSrc := (s.flow n).src.getD {}
def State.setSrc (s : State) (n : Nat) (v : FlowSrc) : State := s.setFlow n { s.flow n with src := some v }

/-- Whether an operation has issued all its pieces. -/
def FabOp.issuedAll (o : FabOp) : Bool :=
  if o.code = 6 then o.nodes.isEmpty else if o.code = 4 ∨ o.code = 5 then decide (1 ≤ o.next) else decide (o.len ≤ o.next)

/-- Whether an operation has something to issue to node n. -/
def FabOp.pendingTo (o : FabOp) (n : Nat) : Bool :=
  !o.stop && !o.issuedAll && (if o.code = 6 then o.nodes.contains n else o.node == n)

/-- The next piece: its length, split at 4 KiB boundaries of the remote offset and around poisoned sectors of the source, and
whether it is a poisoned sector (R223, R225). -/
def FabOp.piece (o : FabOp) : Nat × Bool :=
  let m := min (o.len - o.next) (4096 - (o.off + o.next) % 4096)
  let sec := (o.skew + o.next) / 64
  let within := 64 * (sec + 1) - o.skew - o.next
  if o.bad.getD sec false then (min m within, true)
  else
    match ((List.range 65).filter fun k => o.bad.getD (sec + k) false).head? with
    | none => (m, false)
    | some k => (min m (64 * (sec + k) - o.skew - o.next), false)

/-- The lowest free tag. -/
def Fabric.freeTag (f : Fabric) : Nat := ((List.range 16384).find? fun t => !f.reqs.any fun r => r.tag == t).getD 0

/-! ## The device's end of a transfer -/

/-- All ones in place of a poisoned sector's data (R206). -/
def ones (n : Nat) : List Byte := List.replicate n 0xFF

/-- Deliver bytes at position pos of an end, poisoned or not; the local write's status. -/
def State.deliverEnd (s : State) (d : LocalEnd) (pos : Nat) (bytes : List Byte) (bad : Bool) : State × Status :=
  let secs := List.replicate (bytes.length / 64 + 2) bad
  match d with
  | .mem a => if bad then (s.memPoison (a + pos) bytes.length, .ok) else s.memWrite (a + pos) bytes
  | .host a => (s.emit (.hostWrite (a + pos) (if bad then ones bytes.length else bytes)), .ok)
  | .hub a => (s.setHub (s.hubsp.writeOut (a + pos) ⟨bytes, secs⟩), .ok)
  | .spad q a => (s.setSpad (s.spad.writeOut (spadKey q a + pos) ⟨bytes, secs⟩), .ok)
  | .stage _ _ _ => (s, .ok)
  | .none => (s, .ok)

/-- Note a failure at a position; the lowest stays. -/
def FabOp.failAt (o : FabOp) (pos : Nat) (r : Result) : FabOp :=
  match o.fail with
  | none => { o with fail := some (pos, r), stop := true }
  | some f => if pos < f.1 then { o with fail := some (pos, r), stop := true } else { o with stop := true }

/-! ## The end of an operation (R223, R225, R226) -/

/-- Enter an operation. -/
def State.addOp (s : State) (o : FabOp) : State :=
  s.setFab { s.fab with ops := s.fab.ops ++ [{ o with id := s.fab.nextOp }], nextOp := s.fab.nextOp + 1 }

/-- The status a fence reports: the first failure in ascending node order. -/
def FabOp.fenceStatus (o : FabOp) : Status :=
  let bad := o.answers.filter fun e => !e.2.good
  match (bad.map fun e => e.1).min? with
  | some n => ((bad.find? fun e => e.1 == n).map fun e => e.2).getD .ok
  | none => if o.answers.any fun e => e.2 == .okCorrected then .okCorrected else .ok

/-- The outcome of an operation. -/
def FabOp.outcome (o : FabOp) : Result :=
  match o.fail with
  | some f => f.2
  | none =>
    if o.code = 6 then ⟨o.fenceStatus, 0⟩
    else if o.poisoned then ⟨.ePoison, 0⟩
    else if o.corrected then ⟨.okCorrected, 0⟩
    else ⟨.ok, 0⟩

/-- The board slot that names a node. -/
def State.slotOf (s : State) (n : Nat) : Nat :=
  ((List.range 8).find? fun k => s.isSet F.FAB_BOARD_valid k && s.get F.FAB_BOARD_node k == n).getD 0

/-- Record a failed board-window request of a quadrant, at most one per quadrant per 1 ms (R223). -/
def State.winFail (s : State) (q : Nat) (o : FabOp) (pos : Nat) (st : Status) : State :=
  let v := SMap.get (none, 0) s.fab.winLog q
  let recent := match v.1 with | none => false | some t => decide (s.time < t + 1000000)
  if recent then s.setFab { s.fab with winLog := SMap.set (none, 0) s.fab.winLog q (v.1, v.2 + 1) }
  else
    let k := s.slotOf o.node
    (s.setFab { s.fab with winLog := SMap.set (none, 0) s.fab.winLog q (some s.time, 0) }).logEvent 0x0015 q
      [q, k, o.node, st.code, 0x400000000000 + k * 2 ^ 41 + o.off + pos, v.2]

/-- Bytes gathered by an operation. -/
def FabOp.bytes (o : FabOp) : List Byte := SMap.getRun 0 o.got 0 o.len

/-- Sectors of the gathered bytes that are poisoned. -/
def FabOp.badSectors (o : FabOp) : List Bool :=
  (List.range ((o.len + 63) / 64)).map fun k => o.gotBad.any fun g => decide (g.1 < 64 * (k + 1)) && decide (64 * k < g.1 + g.2)

/-- Which 64 bytes of a READ came poisoned, or did not come. -/
def FabOp.lost (o : FabOp) : List Bool := o.badSectors.zipIdx.map fun p => p.1 || decide (o.next < min o.len (64 * (p.2 + 1)))

/-- What a weight stream on array i reads has come. -/
def State.streamData (s : State) (i id : Nat) (bytes : List Byte) (bad : List Bool) : State :=
  let a := s.arr i
  let put (x : Stream) : Stream := if x.id = id ∧ x.remote then { x with data := some (bytes, bad) } else x
  s.setArr i { a with stream := a.stream.map put
                      queue := a.queue.map fun o => match o with | .stream x => .stream (put x) | o => o }

/-- A request of an operation ends with another status than OK. A copy stops; a program image, a weight stream and a graph image read
on, the failed bytes poisoned, and a quadrant's program takes E_POISON (R223). -/
def State.reqFails (s : State) (o : FabOp) (pos : Nat) (res : Result) : State :=
  match o.origin with
  | .image q _ => s.winFail q o pos res.status
  | .stream i _ => (s.cause (quadOf i) .ePoison).winFail (quadOf i) o pos res.status
  | .graph _ => s
  | .dropped => s
  | _ => s.updOp o.id fun o => o.failAt pos res

/-- An operation whose work is done ends: the one it serves completes (R223, R225). -/
def State.endOp (s : State) (o : FabOp) : State :=
  let r := o.outcome
  let s := s.setFab { s.fab with ops := s.fab.ops.filter fun x => x.id != o.id }
  match o.dest, (r.status.good || r.status == .ePoison) && o.fail.isNone with
  | .stage n off key, true =>
    s.addOp { id := 0, origin := o.origin, code := 2, node := n, off := off, key := key, len := o.len, data := o.bytes
              bad := o.badSectors, poisoned := o.poisoned, corrected := o.corrected }
  | _, _ =>
    match o.origin with
    | .work w => s.finish w r.status r.detail
    | .copy w e =>
      let c := match s.item w with | some it => it.ctxId | none => 0
      ((s.finish w r.status r.detail).engAdvance (16 + e) (ceilDiv o.len 2048)).engRelease (16 + e) c
    | .qcopy q id =>
      let s := if r.status.good then s else s.cause q .ePoison
      let s := match o.fail with | some f => s.winFail q o f.1 f.2.status | none => s
      let x := s.seq q
      s.setSeq q { x with copies := x.copies.map fun c => if c.id = id then { c with ended := true } else c }
    | .image q id =>
      let s := match o.fail with | some f => s.winFail q o f.1 f.2.status | none => s
      let x := s.seq q
      if x.fetch = some (id, none) then s.setSeq q { x with fetch := some (id, some (o.bytes, o.lost.any fun b => b)) } else s
    | .stream i id =>
      let s := match o.fail with | some f => (s.cause (quadOf i) .ePoison).winFail (quadOf i) o f.1 f.2.status | none => s
      s.streamData i id o.bytes o.lost
    | .graph g =>
      let x := s.graph g
      s.setGraph g { x with fetch := x.fetch.map fun f => if f.op ≠ o.id then f else { f with data := some (o.bytes, o.lost.any fun b => b) } }
    | .dropped => s
    | .window => s.emit (.accessEnd r.status (if o.code = 1 then o.bytes else []) (!r.status.good && o.code == 1))

/-- Whether an operation is done: nothing more to issue, nothing of it outstanding; a posted write once sent; a fence once the
READs before it have ended. -/
def State.opDone (s : State) (o : FabOp) : Bool :=
  (o.stop || o.issuedAll) && !(s.fab.reqs.any fun r => r.op == some o.id && (o.code != 3 || r.attempts == 0)) &&
  !(s.fab.reqs.any fun r => o.reads.contains r.serial)

/-- End every operation that is done; fences wait for READs, so one end may let another go. -/
def State.settleOps (s : State) : State :=
  (s.fab.ops.map fun o => o.id).foldl (fun s id =>
    match s.fabOp id with
    | none => s
    | some o => if s.opDone o then s.endOp o else s) s

/-! ## The end of a request (R225, R226, R242) -/

/-- The operation's part of a request's end. -/
def State.opEnd (s : State) (r : FabReq) (o : FabOp) (res : Result) (data : List Byte) (poison : Bool) : State :=
  let st := res.status
  let s := s.updOp o.id fun o => { o with corrected := o.corrected || st == .okCorrected }
  if r.kind = 1 then
    let bad := poison || !(st.good || st == .ePoison)
    let bytes := if data.length = r.len then data else List.replicate r.len 0
    let window : Bool := match o.origin with | .work _ => false | _ => true
    let s := s.updOp o.id fun o => { o with got := SMap.setRun 0 o.got r.pos bytes, gotBad := if bad then (r.pos, r.len) :: o.gotBad else o.gotBad }
    let w := if st.good ∨ st = .ePoison ∨ window then s.deliverEnd o.dest r.pos bytes bad else (s, .ok)
    let s := w.1
    if !st.good then s.reqFails o r.pos res
    else if !w.2.good then s.updOp o.id fun o => o.failAt r.pos ⟨w.2, 0⟩ else s
  else if r.kind = 4 then
    if st.good then (s.deliverEnd o.dest 0 (data.take 8) false).1 else s.updOp o.id fun o => o.failAt r.pos res
  else if r.kind = 6 then
    let f := s.srcFlow r.node
    let own := match f.posted with | some p => p | none => st
    (s.setSrc r.node { f with posted := none, carried := false }).updOp o.id fun o => { o with answers := o.answers ++ [(r.node, own)] }
  else if st.good then s
  else s.updOp o.id fun o => o.failAt r.pos res

/-- A request ends. -/
def State.endReq (s : State) (r : FabReq) (res : Result) (data : List Byte) (poison : Bool) : State :=
  let s := s.setFab { s.fab with reqs := s.fab.reqs.filter fun x => x.serial != r.serial }
  let s := s.engAdvance 28 1
  let s := if (s.flow r.node).src.isSome then s.setSrc r.node { s.srcFlow r.node with lastUse := s.time } else s
  match r.op.bind s.fabOp with
  | some o => s.opEnd r o res data poison
  | none =>
    if isReflection r.kind then s.reflEnd r res.status
    else if r.kind = 3 ∧ !res.status.good then
      let f := s.srcFlow r.node
      s.setSrc r.node { f with posted := some (f.posted.getD res.status) }
    else s

/-- Everything to node n that waits to be issued ends with a status, not executed (R229, R243). -/
def State.endUnissued (s : State) (n : Nat) (st : Status) : State :=
  let waiting := s.fab.reqs.filter fun r => r.node == n && r.attempts == 0
  let s := waiting.foldl (fun s r => s.endReq r ⟨st, 0⟩ [] false) s
  (s.fab.ops.filter fun o => o.pendingTo n).foldl (fun s o =>
    s.updOp o.id fun o =>
      if o.code = 6 then { o with nodes := o.nodes.erase n, answers := o.answers ++ [(n, st)] } else o.failAt o.next ⟨st, 0⟩) s

/-- What a request already sent ends with when its target is lost (Table 8.10). -/
def FabReq.lostAs (r : FabReq) (reason : Nat) (st : Status) : Result := if r.kind = 4 then ⟨.eOutcomeUnknown, reason⟩ else ⟨st, 0⟩

/-- Requests already sent to node n end as Table 8.10 gives; st stands where the table gives E_TIMEOUT. -/
def State.endSent (s : State) (n reason : Nat) (st : Status) : State :=
  (s.fab.reqs.filter fun r => r.node == n && r.attempts != 0).foldl (fun s r => s.endReq r (r.lostAs reason st) [] false) s

/-- Every request to node n ends: the target resets or is excluded (R243, Table 8.10). -/
def State.endAllTo (s : State) (n reason : Nat) (unsent : Status) : State :=
  let s := (s.endSent n reason .eTimeout).endUnissued n unsent
  let s := if (s.flow n).src.isSome then s.setSrc n { s.srcFlow n with opened := false, opening := false } else s
  s.settleOps

/-! ## Sending -/

/-- The port a request may take: its route's, and for reflection one of the bind block's (R234, R384). -/
def State.reqPort (s : State) (r : FabReq) : Option Nat :=
  if !isReflection r.kind then s.routePort r.node
  else
    let ps := (s.routePorts r.node).filter fun p => bitAt s.refl.ports p
    if ps.isEmpty then none else ps[Config.routeHash r.node ps.length % ps.length]?

/-- The packet of a request. -/
def State.packetOf (s : State) (r : FabReq) : Packet :=
  let f := s.srcFlow r.node
  { kind := r.kind, retrans := decide (1 < r.attempts), poison := r.poison, ordered := r.ordered, opn := r.opn, tag := r.tag
    dst := r.node, afnFn := r.fn, afnWide := r.wide, afnSigned := r.sgn, src := s.ownNode, dstEpoch := f.epoch, srcEpoch := s.epoch
    fseq := r.fseq, aseq := r.aseq, length := if r.kind = 6 then 0 else r.len, key := r.key, offset := r.off, data := r.data }

/-- The store sequence an open carries: the first one not yet answered, else the next (R229, R230; log entry 24). -/
def State.openFseq (s : State) (n : Nat) : Nat :=
  ((s.fab.reqs.find? fun r => r.node == n && r.attempts != 0 && r.kind != 1 && !r.opn).map FabReq.fseq).getD (s.srcFlow n).nextF

/-- The atomic sequence an open carries: the first one not yet answered, else the next (R229, R230; log entry 24). -/
def State.openAseq (s : State) (n : Nat) : Nat :=
  ((s.fab.reqs.find? fun r => r.node == n && r.attempts != 0 && r.kind == 4).map FabReq.aseq).getD (s.srcFlow n).nextA

/-- Send a request on a port: its first attempt takes its sequence numbers (R231, R241), a later one is marked (R232). -/
def State.sendReq (s : State) (r : FabReq) (port : Nat) : State :=
  let f := s.srcFlow r.node
  let first := r.attempts = 0
  let r' : FabReq :=
    if !first then r
    else if r.opn then { r with fseq := s.openFseq r.node, aseq := s.openAseq r.node }
    else if r.kind = 1 then { r with fseq := (f.nextF + 2 ^ 32 - 1) % 2 ^ 32 }
    else { r with fseq := f.nextF, aseq := if r.kind = 4 then f.nextA else 0 }
  let r' := { r' with attempts := r.attempts + 1, first := if first then s.time else r.first, last := s.time, port := port, resend := false }
  let f' := if !first ∨ r.opn then f
    else { f with nextF := if r.kind = 1 then f.nextF else (f.nextF + 1) % 2 ^ 32
                  nextA := if r.kind = 4 then (f.nextA + 1) % 65536 else f.nextA, carried := true, lastUse := s.time }
  let s := (s.setSrc r.node f').updReq r.serial fun _ => r'
  let s := if first then s else s.fabCount 9
  s.tx port (.packet port (s.packetOf r'))

/-- Enter a request; where a port of its route is up it is sent, else it waits for one (R234). -/
def State.startReq (s : State) (r : FabReq) : State :=
  let r := { r with serial := s.fab.serial, tag := s.fab.freeTag, first := s.time }
  let s := s.setFab { s.fab with reqs := s.fab.reqs ++ [r], serial := s.fab.serial + 1 }
  match s.reqPort r with
  | none => s
  | some p => s.sendReq r p

/-- The compare value of an atomic, read from its slot at issue (R224). -/
def State.compareOf (s : State) (o : FabOp) : Nat :=
  match o.dest with
  | .mem a => leNat (s.memRead a 8).bytes
  | .hub a => leNat (s.hubsp.read a 8)
  | _ => o.compare

/-- The next request of an operation to node n, with the operation after it. -/
def State.nextReq (s : State) (o : FabOp) (n : Nat) : FabReq × FabOp :=
  let base : FabReq := { serial := 0, tag := 0, op := some o.id, node := n, kind := o.code, key := o.key, fn := o.fn, wide := o.wide
                         sgn := o.sgn, ordered := o.ordered }
  if o.code = 6 then
    (base, { o with nodes := o.nodes.erase n, reads := o.reads ++ ((s.fab.reqs.filter fun r => r.node == n && r.kind == 1).map fun r => r.serial) })
  else if o.code = 4 then
    ({ base with off := o.off, len := if o.wide then 8 else 4, data := leBytes 8 o.operand ++ leBytes 8 (s.compareOf o) }, { o with next := 1 })
  else if o.code = 5 then ({ base with off := o.off, len := o.len, data := o.data }, { o with next := 1 })
  else
    let p := o.piece
    ({ base with pos := o.next, off := o.off + o.next, len := p.1, poison := p.2
                 data := if o.code = 1 then [] else (o.data.drop o.next).take p.1 },
     { o with next := o.next + p.1, poisoned := o.poisoned || p.2 })

/-- Unacknowledged stores and fences of a flow. -/
def Fabric.window (f : Fabric) (n : Nat) : Nat := (f.reqs.filter fun r => r.node == n && r.kind != 1 && !r.opn).length

/-- Issue towards another node: an open before the first request, then what was to be sent again, then the first operation's next
piece, within the window of 128 and the limit of 16,384 (R225, R229, R231, R234, R235). -/
def State.issueTo (s : State) (n : Nat) : State :=
  let f := s.fab
  let wait := f.reqs.find? fun r => r.node == n && (r.attempts == 0 || r.resend)
  let op := f.ops.find? fun o => o.pendingTo n
  if (wait.isNone && op.isNone) || (s.flow n).hold.isSome || s.unitFrozen 0x50 then s
  else if !(s.flow n).used && !s.ctxFree n then s
  else
    let c := if (s.flow n).used then s.needCtx n else (true, s.evict)
    let s := c.2
    if !c.1 then s
    else if !f.busy n && 12288 ≤ (f.flows.filter fun e => f.busy e.1).length then s
    else
      let x := s.srcFlow n
      if !x.opened then
        match f.reqs.find? fun r => r.node == n && r.opn with
        | some r => if r.attempts = 0 then (match s.routePort n with | none => s | some p => s.sendReq r p) else s
        | none =>
          (s.setSrc n { x with opening := true, lastUse := s.time }).startReq
            { serial := 0, tag := 0, op := none, node := n, kind := 6, opn := true }
      else match wait with
        | some r =>
          let full := isReflection r.kind && r.attempts == 0 && decide (128 < f.window n)
          if full then s else match s.reqPort r with | some p => s.sendReq r p | none => s
        | none =>
          match op with
          | none => s
          | some o =>
            if 16384 ≤ f.reqs.length || (o.code != 1 && decide (128 ≤ f.window n)) then s
            else
              let r := s.nextReq o n
              ((s.updOp o.id fun _ => r.2).startReq r.1).settleOps

/-- Execute the next request of an operation on the device's own node: every check a remote request passes, no port (R221). -/
def State.issueOwn (s : State) : State :=
  let n := s.ownNode
  match s.fab.ops.find? fun o => o.pendingTo n with
  | none => s
  | some o =>
    let r := s.nextReq o n
    let q := { r.1 with serial := s.fab.serial }
    let p := { s.packetOf q with aseq := (s.srcFlow n).nextA }
    if s.packetHeld p then s
    else
      let s := s.setFab { s.fab with serial := s.fab.serial + 1, cache := s.fab.cache.filter fun c => !(c.node == n && c.aseq == p.aseq) }
      let s := (s.setSrc n { s.srcFlow n with nextA := if q.kind = 4 then (p.aseq + 1) % 65536 else p.aseq }).updOp o.id fun _ => r.2
      let t : FlowTgt := { epoch := s.epoch, expected := 0, hwm := (p.aseq + 65535) % 65536 }
      let v := s.serveChecks p t
      (v.state.endReq q ⟨v.status, 0⟩ v.data v.poison).settleOps

/-- FABRIC_REQUEST_ISSUE: the fabric engine sends a request towards a node (R225, R229, R231, R234). -/
def execFabricRequestIssue (dst : Fin 1048576) (s : State) : Res :=
  .next <|
    if s.quiescing || !s.fabOn then s
    else if dst.val = s.ownNode then s.issueOwn
    else s.issueTo dst

/-! ## FABRIC_OP (R224) -/

/-- The offset of the first field of a FABRIC_OP payload that breaks R224's E_FORMAT rules. -/
def fabFormat (b : List Byte) : Option Nat :=
  let op := fieldAt b 0 1
  let mode := fieldAt b 1 1
  let flags := fieldAt b 2 1
  let remote := fieldAt b 8 8
  let w := if bitAt mode 5 then 8 else 4
  let fence := op = 6
  let all := bitAt flags 1
  let checks : List (Nat × Bool) :=
    [(32, !isRequest op),
     (33, slice mode 1 0 == 3 || bitAt mode 7 || (op != 4 && slice mode 6 2 != 0) || (op == 4 && decide (4 < slice mode 4 2))),
     (34, decide (4 ≤ flags) || (bitAt flags 0 && op != 1) || (all && op != 6)),
     (35, fieldAt b 3 1 != 0),
     (36, fence && fieldAt b 4 4 != 0),
     (40, (op == 5 && slice remote 43 10 != 0) || (fence && (slice remote 43 0 != 0 || (all && remote != 0))) ||
          (op == 4 && remote % w != 0)),
     (48, (fence && fieldAt b 16 8 != 0) || (op == 4 && fieldAt b 16 8 % 8 != 0)),
     (56, (fence && fieldAt b 24 8 != 0) || (op == 5 && (fieldAt b 24 8 == 0 || decide (4080 < fieldAt b 24 8))) ||
          (decide (op ≤ 3) && (fieldAt b 24 8 == 0 || decide (2 ^ 30 < fieldAt b 24 8))))]
  (checks.find? fun c => c.2).map fun c => c.1

/-- Whether the local end of a FABRIC_OP lies within the context's bounds. -/
def State.fabLocalOk (s : State) (c : Ctx) (space a n : Nat) (write : Bool) : Bool :=
  if space = 0 then s.mayLocal c a n write else if space = 2 then c.mayHub a n else true

/-- Nodes that an all-destinations fence covers (R226). -/
def State.fenceNodes (s : State) : List Nat :=
  s.fab.flows.filterMap fun e => match e.2.src with
    | none => none
    | some x => if x.carried || x.posted.isSome then some e.1 else none

/-- The bytes a store takes from its local end, with the poison of their sectors. -/
def State.sourceOf (s : State) (space a n : Nat) (hostData : List Byte) : ReadOut :=
  if space = 0 then s.memRead a n
  else if space = 2 then s.hubsp.readOut a n
  else ⟨hostData, []⟩

/-- The local end a space and address name. -/
def localEnd (space a : Nat) : LocalEnd := if space = 0 then .mem a else if space = 1 then .host a else .hub a

/-- A FABRIC_OP reaches the fabric engine under the row of operation code (R219, R224). hostData: what the host returned where the
local end is host memory. -/
def State.fabricOp (s : State) (work : Work) (code : Nat) (hostData : List Byte) : Res :=
  match s.fresh work 0x06 with
  | none => .next s
  | some it =>
    let b := it.payload
    let op := fieldAt b 0 1
    if op ≠ code ∧ isRequest op then .next s
    else if !s.fabOn then .next (s.finish work .eFormat 0)
    else match fabFormat b with
      | some d => .next (s.finish work .eFormat d)
      | none =>
          let mode := fieldAt b 1 1
          let flags := fieldAt b 2 1
          let space := slice mode 1 0
          let remote := fieldAt b 8 8
          let node := remote / 2 ^ 44
          let off := remote % 2 ^ 44
          let a := fieldAt b 16 8
          let len := if op = 4 then 8 else fieldAt b 24 8
          let all := op == 6 && bitAt flags 1
          if op ≠ 6 ∧ !(s.fabLocalOk it.ctx space a len (op == 1 || op == 4) && (op != 4 || s.fabLocalOk it.ctx space a len false)) then
            .next (s.finish work .eBounds 0)
          else if !all ∧ node ≠ s.ownNode ∧ (s.routeFor node).isNone then .next (s.finish work .eBounds 0)
          else if op ≠ 5 ∧ op ≠ 6 ∧ 0x012000000000 ≤ off then .next (s.finish work .eBounds 0)
          else if !all ∧ s.excludedNode node then .next (s.finish work .eExcluded 0)
          else if space = 1 ∧ op ≠ 1 ∧ op ≠ 6 ∧ hostData.length ≠ len then .fault .illFormed
          else if op ≠ 6 ∧ space = 0 ∧ s.memHeld a len then .next s
          else
            let store := op = 2 ∨ op = 3 ∨ op = 5
            let src := if store then s.sourceOf space a len hostData else ⟨[], []⟩
            .next ((s.begin_ work).addOp
              { id := 0, origin := .work work, code := op, node := node, off := off, key := fieldAt b 4 4
                fn := if op = 4 then slice mode 4 2 else 0, wide := op == 4 && bitAt mode 5, sgn := op == 4 && bitAt mode 6
                ordered := bitAt flags 0, allDst := all, dest := if op = 1 ∨ op = 4 then localEnd space a else .none, len := len
                data := src.bytes, bad := src.bad, skew := if space = 1 then 0 else a % 64
                operand := if op = 4 then fieldAt b 24 8 else 0, compare := leNat hostData
                nodes := if all then s.fenceNodes else if op = 6 then [node] else [] }).settleOps

/-- FABRIC_READ (R225). -/
def execFabricRead (work : Work) (s : State) : Res := s.fabricOp work 1 []

/-- FABRIC_WRITE (R225). -/
def execFabricWrite (work : Work) (hostData : List Byte) (s : State) : Res := s.fabricOp work 2 hostData

/-- FABRIC_WRITE_POSTED (R225). -/
def execFabricWritePosted (work : Work) (hostData : List Byte) (s : State) : Res := s.fabricOp work 3 hostData

/-- FABRIC_ATOMIC (R224). -/
def execFabricAtomic (work : Work) (hostData : List Byte) (s : State) : Res := s.fabricOp work 4 hostData

/-- FABRIC_SEND (R239). -/
def execFabricSend (work : Work) (hostData : List Byte) (s : State) : Res := s.fabricOp work 5 hostData

/-- FABRIC_FENCE (R226). -/
def execFabricFence (work : Work) (s : State) : Res := s.fabricOp work 6 []

/-! ## Replies, NAKs, timeouts (R229-R232, R242) -/

/-- The answer to an open (R229). -/
def State.openReply (s : State) (r : FabReq) (p : Packet) : State :=
  let s := s.setFab { s.fab with reqs := s.fab.reqs.filter fun x => x.serial != r.serial }
  let x := s.srcFlow r.node
  match Status.ofCode p.status with
  | none => ((s.violation r.node 6).setSrc r.node { x with opening := false }).endUnissued r.node .eProtocol
  | some st =>
    if st.good then s.setSrc r.node { x with opening := false, opened := true, epoch := p.dstEpoch, lastUse := s.time }
    else if st = .eEpoch ∧ p.dstEpoch ≠ x.epoch then s.setSrc r.node { x with opening := false, opened := false, epoch := p.dstEpoch }
    else (s.setSrc r.node { x with opening := false }).endUnissued r.node st

/-- Whether a reply's data fits its request and status. -/
def FabReq.fits (r : FabReq) (p : Packet) (st : Status) : Bool :=
  !p.rsv && p.data.length == p.length &&
  (if r.kind = 1 then (if st.good || st == .ePoison then p.data.length == r.len else p.data.isEmpty)
   else if r.kind = 4 then (if st.good then p.data.length == 8 else p.data.isEmpty)
   else p.data.isEmpty)

/-- Posted writes that a reply acknowledges cumulatively end (R231). -/
def State.ackPosted (s : State) (n fseq : Nat) : State :=
  (s.fab.reqs.filter fun r => r.node == n && r.kind == 3 && r.attempts != 0 && decide ((fseq + 2 ^ 32 - r.fseq) % 2 ^ 32 < 2 ^ 31)).foldl
    (fun s r => s.endReq r ⟨.ok, 0⟩ [] false) s

/-- E_EPOCH at the source (R230). -/
def State.epochReply (s : State) (r : FabReq) (p : Packet) : State :=
  let x := s.srcFlow r.node
  if p.dstEpoch = x.epoch then
    let s := s.setSrc r.node { x with opened := false, opening := false }
    s.setFab { s.fab with reqs := s.fab.reqs.map fun q => if q.node = r.node ∧ q.attempts ≠ 0 ∧ !q.opn then { q with resend := true } else q }
  else
    let s := (s.endSent r.node 2 .eEpoch).reflEpoch r.node p.dstEpoch
    s.setSrc r.node { s.srcFlow r.node with epoch := p.dstEpoch, opened := false, opening := false }

/-- What a reply's status ends its request with (R242). -/
def FabReq.endsAs (r : FabReq) (st : Status) : Result :=
  if r.kind = 4 ∧ st = .eResetting ∧ r.attempts ≠ 1 then ⟨.eOutcomeUnknown, 2⟩
  else if st = .eOutcomeUnknown then ⟨st, 6⟩
  else ⟨st, 0⟩

/-- A reply ends its request, or is discarded; refl: a reflection packet's (R223, R225, R226, R229, R230, R242, R385, Table 8.11). -/
def State.reply (s : State) (port : Nat) (p : Packet) (refl : Bool) : State :=
    if p.kind ≠ 0x80 then s
    else if s.kept then s.bump F.WIN_EVT_CNT_count 1 (16 * port + 10)
    else if !s.portReceives port then s.bump F.WIN_EVT_CNT_count 1 (16 * port + 4)
    else match s.fab.reqs.find? fun r => r.tag == p.tag && r.attempts != 0 && r.node == p.src with
      | none => if refl then s else s.fabCount 8
      | some r =>
        if isReflection r.kind ≠ refl then s
        else if r.opn then (s.openReply r p).settleOps
        else
          let bad := (s.violation r.node 6).endReq r (if r.kind = 4 then ⟨.eOutcomeUnknown, 5⟩ else ⟨.eProtocol, 0⟩) [] false
          match Status.ofCode p.status with
          | none => bad.settleOps
          | some st =>
            if !r.fits p st then bad.settleOps
            else if st = .eEpoch then (s.epochReply r p).settleOps
            else ((s.endReq r (r.endsAs st) p.data p.poison).ackPosted r.node p.fseq).settleOps

/-- FABRIC_REPLY (R242). -/
def execFabricReply (port : Fin 64) (p : Packet) (s : State) : Res := .next (s.reply port p false)

/-- REFLECT_REPLY: the partner's reply covers RBURSTs or an RMARK (R385, R386). -/
def execReflectReply (port : Fin 64) (p : Packet) (s : State) : Res := .next (s.reply port p true)

/-- FABRIC_NAK: everything from the sequence number named is sent again; one that names none of the unacknowledged range is
discarded (R232, Table 8.11). -/
def execFabricNak (port : Fin 64) (p : Packet) (s : State) : Res :=
  .next <|
    if p.kind ≠ 0x81 then s
    else if s.kept then s.bump F.WIN_EVT_CNT_count 1 (16 * port + 10)
    else if !s.portReceives port then s.bump F.WIN_EVT_CNT_count 1 (16 * port + 4)
    else
      let l := s.fab.reqs.filter fun r => r.node == p.src && r.kind != 1 && !r.opn && r.attempts != 0
      if !(l.any fun r => r.fseq == p.fseq) then s.violation p.src 7
      else (l.filter fun r => decide ((r.fseq + 2 ^ 32 - p.fseq) % 2 ^ 32 < 2 ^ 31) && decide (r.attempts < 5)).foldl
        (fun s r => match s.reqPort r with | none => s | some q => s.sendReq r q) s

/-- FABRIC_RETRANSMIT_TIMEOUT: a request unanswered for 20 µs is sent again, four times at most (R232). -/
def execFabricRetransmitTimeout (tag : Fin 16384) (s : State) : Res :=
  .next <|
    match s.fab.reqs.find? fun r => r.tag == tag.val && r.attempts != 0 with
    | none => s
    | some r =>
      if 5 ≤ r.attempts then s
      else match s.reqPort r with
        | none => s
        | some p => (s.due (r.last + 20000)).sendReq r p

/-- The reason an atomic ends unanswered (Table 8.10b). -/
def State.noReply (s : State) (n : Nat) : Nat := if (s.routePorts n).isEmpty then 4 else 1

/-- FABRIC_FINAL_TIMEOUT: the fifth attempt has waited W(h), or the route is lost and the window has passed: the request ends, every
later store of its flow ends in the same way, and the flow is re-opened (R232, R234). -/
def execFabricFinalTimeout (tag : Fin 16384) (s : State) : Res :=
  .next <|
    match s.fab.reqs.find? fun r => r.tag == tag.val && r.attempts != 0 with
    | none => s
    | some r =>
      let w := s.finalWait r.node
      let lost := (s.routePorts r.node).isEmpty
      if r.attempts ≠ 5 ∧ !lost then s
      else
        let s := s.due (if r.attempts = 5 then r.last + w else r.first + 80000 + w)
        let reason := s.noReply r.node
        if r.opn then
          let s := s.setFab { s.fab with reqs := s.fab.reqs.filter fun x => x.serial != r.serial }
          ((s.setSrc r.node { s.srcFlow r.node with opening := false, opened := false }).endUnissued r.node .eTimeout).settleOps
        else
          let later := s.fab.reqs.filter fun x => x.node == r.node && x.serial != r.serial && x.kind != 1 && !x.opn && x.attempts != 0 &&
            decide ((x.fseq + 2 ^ 32 - r.fseq) % 2 ^ 32 < 2 ^ 31)
          let s := s.endReq r (r.lostAs reason .eTimeout) [] false
          let s := later.foldl (fun s x => s.endReq x (x.lostAs reason .eTimeout) [] false) s
          (s.setSrc r.node { s.srcFlow r.node with opened := false, opening := false }).settleOps

/-- ROUTE_WAIT_TIMEOUT: a request that found no port of its route up for 80 µs + W(h) ends E_TIMEOUT, not executed (R234). -/
def execRouteWaitTimeout (tag : Fin 16384) (s : State) : Res :=
  .next <|
    match s.fab.reqs.find? fun r => r.tag == tag.val && r.attempts == 0 with
    | none => s
    | some r =>
      let due := r.first + 80000 + s.finalWait r.node
      if (s.reqPort r).isSome then s
      else if r.opn then
        let s := s.due due
        let s := s.setFab { s.fab with reqs := s.fab.reqs.filter fun x => x.serial != r.serial }
        ((s.setSrc r.node { s.srcFlow r.node with opening := false }).endUnissued r.node .eTimeout).settleOps
      else ((s.due due).endReq r ⟨.eTimeout, 0⟩ [] false).settleOps

/-- Flows on a port that goes down or drains move to another port of their routes and resend their stores (R234). -/
def State.movePort (s : State) (port : Nat) : State :=
  (s.fab.reqs.filter fun r => r.port == port && r.attempts != 0 && decide (r.attempts < 5)).foldl
    (fun s r => match s.reqPort r with | none => s | some q => if q = port then s else s.sendReq r q) s

/-- FLOW_CONTEXT_FETCH_DONE: a context comes on die, or is lost to poison; what waited for it is served, and fetches
that waited for one of the 64 start (R233, R235). -/
def execFlowContextFetchDone (source : Bool) (node : Fin 1048576) (poisoned : Bool) (s : State) : Res :=
  .next <|
    let f := s.flow node
    if f.place ≠ .fetching ∨ (source && f.src.isNone) ∨ (!source && f.tgt.isNone) then s
    else
      let s := if poisoned then s.setFlow node { hold := if f.src.isSome then some s.time else none }
               else s.evict.setFlow node { f with place := .onDie, touched := s.time }
      s.serveHeld fun p => p.src == node.val || (s.flow p.src).place == .backing

/-- POISONED_CONTEXT_HOLD_END: 1 ms after a source-side context was lost flows may be opened again (R233). -/
def execPoisonedContextHoldEnd (node : Fin 1048576) (s : State) : Res :=
  .next <|
    match (s.flow node).hold with
    | none => s
    | some t => (s.due (t + 1000000)).setFlow node { s.flow node with hold := none }

/-! ## The board window (R222, R223) -/

/-- Where an access through the board window goes. -/
inductive WinPlace where
  | here (a : Nat)
  | remote (node off key : Nat)
  | refused
  deriving DecidableEq, Repr

/-- Resolve n bytes at a board-window address (R222); while the fabric is off no other node is reached (log entry 25). -/
def State.winPlace (s : State) (a n : Nat) : WinPlace :=
  let k := (a - 0x400000000000) / 2 ^ 41
  let x := (a - 0x400000000000) % 2 ^ 41
  if !isBoard a ∨ 2 ^ 41 < x + n then .refused
  else if k = s.get F.FAB_NODE_ID_slot 0 then (if s.mapped x n then .here x else .refused)
  else if s.fabOn && s.isSet F.FAB_BOARD_valid k && (s.routeFor (s.get F.FAB_BOARD_node k)).isSome then
    .remote (s.get F.FAB_BOARD_node k) x (s.get F.FAB_BOARD_key k)
  else .refused

/-- BOARD_WINDOW_ACCESS: an access by a unit of the device to an address of the board window (R222, R223). -/
def execBoardWindowAccess (addr : BitVec 48) (op : MemOp) (s : State) : Res :=
  .next <|
    let a := addr.toNat
    if !isBoard a then s
    else
      let n := match op with | .read n => n | .write d => d.length
      match s.winPlace a n with
      | .refused => s.emit (.accessEnd .eBounds [] false)
      | .here x =>
        if s.memHeld x n then s
        else match op with
          | .read n =>
            let r := s.memRead x n
            s.emit (.accessEnd (if r.poisoned then .ePoison else .ok) r.bytes r.poisoned)
          | .write d =>
            let w := s.memWrite x d
            w.1.emit (.accessEnd w.2 [] false)
      | .remote node off key =>
        if s.excludedNode node then s.emit (.accessEnd .eExcluded [] false)
        else match op with
          | .read n => (s.addOp { id := 0, origin := .window, code := 1, node := node, off := off, key := key, len := n }).settleOps
          | .write d => (s.addOp { id := 0, origin := .window, code := 2, node := node, off := off, key := key, len := d.length, data := d }).settleOps

end Sys2Proof.Machine
end

