-- ==== Sys2Proof/Machine/Copies.lean ====
section
/-! DEFINITION. Copies: the quadrants' copy engines (R128, R132) and the hub's eight (R206), between device memory, the board
window, scratchpads and host memory. -/

namespace Sys2Proof.Machine

/-- Where one end of a copy lies, after the board window has been resolved. -/
inductive CopyEnd where
  | here (e : LocalEnd)
  | remote (node off key : Nat)
  | refused
  deriving DecidableEq, Repr

/-- A device physical address as an end of n bytes. -/
def State.memEnd (s : State) (a n : Nat) : CopyEnd :=
  if isBoard a then
    match s.winPlace a n with
    | .here x => .here (.mem x)
    | .remote node off key => .remote node off key
    | .refused => .refused
  else if s.mapped a n then .here (.mem a)
  else .refused

/-- Read n bytes of a local end. -/
def State.readEnd (s : State) (e : LocalEnd) (n : Nat) : ReadOut :=
  match e with
  | .mem a => s.memRead a n
  | .hub a => s.hubsp.readOut a n
  | .spad q a => s.spad.readOut (spadKey q a) n
  | _ => ⟨List.replicate n 0, []⟩

/-- The bytes a copy sends to host memory: all ones where the sector read was poisoned (R206). -/
def hostBytes (r : ReadOut) (skew : Nat) : List Byte :=
  r.bytes.zipIdx.map fun p => if r.bad.getD ((skew + p.2) / 64) false then 0xFF else p.1

/-- Write what was read to a local end: poison goes onward; to host memory as all ones (R206). -/
def State.writeEnd (s : State) (e : LocalEnd) (r : ReadOut) (skew : Nat) : State × Status :=
  match e with
  | .mem a => s.memWriteBad a r
  | .hub a => (s.setHub (s.hubsp.writeOut a r), .ok)
  | .spad q a => (s.setSpad (s.spad.writeOut (spadKey q a) r), .ok)
  | .host a => (s.emit (.hostWrite a (hostBytes r skew)), .ok)
  | _ => (s, .ok)

/-- Whether an end's memory must be waited for. -/
def State.endHeld (s : State) (e : CopyEnd) (n : Nat) : Bool :=
  match e with
  | .here (.mem a) => s.memHeld a n
  | _ => false

/-- The address of a local end modulo 64. -/
def LocalEnd.skew : LocalEnd → Nat
  | .mem a => a % 64
  | .hub a => a % 64
  | .spad _ a => a % 64
  | _ => 0

/-! ## Quadrant copies -/

/-- The end a space and address of a QCOPY name (Table 5.8). -/
def State.qEnd (s : State) (space q a n : Nat) : CopyEnd :=
  if space = 0 then s.memEnd a n else if space = 2 then .here (.hub a) else .here (.spad q a)

/-- Begin the fabric requests of the copy at the head of quadrant q's copy engine, where one end lies in another device. -/
def State.startCopy (s : State) (q : Nat) : State :=
  let x := s.seq q
  match x.copies with
  | [] => s
  | c :: rest =>
    if c.started then s
    else
      let a := s.qEnd c.srcSpace c.srcQ c.src c.len
      let b := s.qEnd c.dstSpace c.dstQ c.dst c.len
      let mark (s : State) (ended : Bool) : State := s.setSeq q { s.seq q with copies := { c with started := true, ended := ended } :: rest }
      let fail (node : Nat) : State :=
        (((mark s true).cause q .ePoison).winFail q { id := 0, origin := .qcopy q c.id, code := 1, node := node } 0 .eExcluded)
      if s.endHeld a c.len || s.endHeld b c.len then s
      else match a, b with
        | .remote node off key, .here e =>
          if s.excludedNode node then fail node
          else (mark s false).addOp { id := 0, origin := .qcopy q c.id, code := 1, node := node, off := off, key := key, dest := e, len := c.len }
        | .remote node off key, .remote n2 o2 k2 =>
          if s.excludedNode node then fail node else if s.excludedNode n2 then fail n2
          else (mark s false).addOp { id := 0, origin := .qcopy q c.id, code := 1, node := node, off := off, key := key
                                      dest := .stage n2 o2 k2, len := c.len }
        | .here e, .remote node off key =>
          if s.excludedNode node then fail node
          else
            let r := s.readEnd e c.len
            (mark s false).addOp { id := 0, origin := .qcopy q c.id, code := 2, node := node, off := off, key := key, len := c.len
                                   data := r.bytes, bad := r.bad, skew := e.skew }
        | _, _ => s

/-- Whether one end of a QCOPY is within bounds (R124, R128). -/
def State.copyEndOk (s : State) (c : Ctx) (space a n : Nat) (write : Bool) : Bool :=
  if space = 0 then decide (a + n ≤ 2 ^ 48) && c.mayAccess a n write && (match s.memEnd a n with | .refused => false | _ => true)
  else if space = 2 then c.mayHub a n
  else inSpad a n

/-- QCOPY: enters the copy engine's queue (R128, R132). -/
def execQcopy (q : Fin 16) (s : State) : Res :=
  .next <| s.issue q 0x30 fun w s =>
    let x := s.seq q
    let rl := slice w 97 93
    let n := if rl = 0 then slice w 87 64 else s.sreg q rl
    let a := s.addrOf q (slice w 107 103) (slice w 63 32)
    let b := s.addrOf q (slice w 102 98) (slice w 31 0)
    let c := s.progCtx q
    if n < 64 ∨ 2 ^ 30 < n ∨ n % 64 ≠ 0 ∨ a % 64 ≠ 0 ∨ b % 64 ≠ 0 then s.progFault q .eFormat
    else if !s.copyEndOk c (slice w 119 118) a n false || !s.copyEndOk c (slice w 117 116) b n true then s.progFault q .eBounds
    else if 8 ≤ x.copies.length then s
    else
      let op : QCopyOp := { id := x.nextId, srcSpace := slice w 119 118, srcQ := if slice w 119 118 = 3 then slice w 115 112 else q
                            src := a, dstSpace := slice w 117 116, dstQ := if slice w 117 116 = 3 then slice w 111 108 else q
                            dst := b, len := n }
      let s := s.enter q 1 (wordEv w 88 92 89)
      ((s.setSeq q { s.seq q with copies := x.copies ++ [op] }).startCopy q).issued q

/-- QCOPY_COMPLETE: the oldest copy of quadrant q completes: its bytes are in place, its event counts (R128, R133). -/
def execQcopyComplete (q : Fin 16) (s : State) : Res :=
  .next <|
    match (s.seq q).copies with
    | [] => s
    | c :: rest =>
      if s.quadStopped q then s else
      let a := s.qEnd c.srcSpace c.srcQ c.src c.len
      let b := s.qEnd c.dstSpace c.dstQ c.dst c.len
      let close (s : State) : State :=
        (((s.setSeq q { s.seq q with copies := rest }).partDone q c.id).engAdvance q (ceilDiv c.len 2048)).startCopy q
      if c.started then (if c.ended then close s else s)
      else if s.endHeld a c.len || s.endHeld b c.len then s
      else match a, b with
        | .here e, .here f =>
          let r := s.readEnd e c.len
          let w := s.writeEnd f r e.skew
          let s := if r.poisoned || w.2 == .ePoison then w.1.cause q .ePoison else w.1
          close (if w.2 = .eUncorrectable then s.cause q .eUncorrectable else s)
        | .refused, _ => close (s.cause q .eBounds)
        | _, .refused => close (s.cause q .eBounds)
        | _, _ => s.startCopy q

/-! ## Hub copies (R206) -/

/-- The first invalid field of a COPY or FILL payload; addresses and spaces of Table 7.17. -/
def copyFormat (fill : Bool) (b : List Byte) : Option Nat :=
  let src := fieldAt b 0 8
  let dst := fieldAt b 8 8
  let len := fieldAt b 16 8
  let ss := fieldAt b 24 1
  let ds := fieldAt b 25 1
  let checks : List (Nat × Bool) :=
    [(40, (fill && dst % 8 != 0) || (!fill && ss == ds && decide (ss ≤ 2) && decide (src < dst + len) && decide (dst < src + len) && len != 0)),
     (48, len == 0 || decide (2 ^ 32 < len) || (fill && len % 8 != 0)),
     (56, if fill then ss != 0 else decide (2 < ss)),
     (57, decide (2 < ds)), (58, !zeroAt b 26 6)]
  (checks.find? fun c => c.2).map fun c => c.1

/-- Whether an end of a hub copy is within the context's bounds (R193, R206). -/
def State.hubEndOk (s : State) (c : Ctx) (space a n : Nat) (write : Bool) : Bool :=
  if space = 0 then decide (a + n ≤ 2 ^ 48) && c.mayAccess a n write && (match s.memEnd a n with | .refused => false | _ => true)
  else if space = 2 then c.mayHub a n
  else decide (a + n ≤ 2 ^ 64)

/-- The end a space and address of a hub copy name. -/
def State.hubEnd (s : State) (space a n : Nat) : CopyEnd :=
  if space = 0 then s.memEnd a n else if space = 1 then .here (.host a) else .here (.hub a)

/-- The hub copy engine that takes work of context x: the lowest idle one whose gate is open and that no reset holds (R206, R359). -/
def State.freeEngine (s : State) (x : Nat) : Option Nat :=
  (List.range 8).find? fun e =>
    (s.eng (16 + e)).active.isEmpty && !s.unitFrozen (0x31 + e) && s.gateOpen (16 + e) x &&
    match s.rst.run with
    | none => true
    | some r => !(r.req.kind == .engine && r.req.target == 16 + e)

/-- Whether an earlier dispatched copy could take an engine first (R206). -/
def State.copyAhead (s : State) (w : Work) : Bool :=
  match w with
  | .node _ _ _ => false
  | .desc n i =>
    match (s.queue n).ent i with
    | none => false
    | some e => s.queues.any fun q => q.2.ents.any fun x =>
        x.phase == .dispatched && (x.opcode == 3 || x.opcode == 4) && decide (x.order < e.order) && (s.freeEngine x.ctxId).isSome

/-- Run a hub copy from source bytes, or from another device, to its destination on engine e. -/
def State.hubCopy (s : State) (work : Work) (ctxId e : Nat) (src : CopyEnd ⊕ List Byte) (dst : CopyEnd) (len : Nat) : State :=
  let s := (s.begin_ work).engTake (16 + e) ctxId
  let done (s : State) (st : Status) : State := (s.finish work st 0).engRelease (16 + e) ctxId
  let excl (n : Nat) : Bool := s.excludedNode n
  let put (r : ReadOut) (skew : Nat) : State :=
    match dst with
    | .here f =>
      let w := s.writeEnd f r skew
      done (w.1.engAdvance (16 + e) (ceilDiv len 2048)) (if !w.2.good then w.2 else if r.poisoned then .ePoison else .ok)
    | .remote node off key =>
      if excl node then done s .eExcluded
      else s.addOp { id := 0, origin := .copy work e, code := 2, node := node, off := off, key := key, len := len
                     data := r.bytes, bad := r.bad, skew := skew }
    | .refused => done s .eBounds
  match src with
  | .inr bytes => put ⟨bytes, []⟩ 0
  | .inl (.here f) => put (s.readEnd f len) f.skew
  | .inl .refused => done s .eBounds
  | .inl (.remote node off key) =>
    if excl node then done s .eExcluded
    else
      let op (d : LocalEnd) : State :=
        s.addOp { id := 0, origin := .copy work e, code := 1, node := node, off := off, key := key, dest := d, len := len }
      match dst with
      | .here f => op f
      | .remote n2 o2 k2 => if excl n2 then done s .eExcluded else op (.stage n2 o2 k2)
      | .refused => done s .eBounds

/-- COPY: between device memory, the board window, hub scratchpad and host memory (R206). hostData: what the host returned where the
source is host memory. -/
def execCopy (work : Work) (hostData : List Byte) (s : State) : Res :=
  match s.fresh work 0x03 with
  | none => .next s
  | some it =>
    let b := it.payload
    let len := fieldAt b 16 8
    let ss := fieldAt b 24 1
    let ds := fieldAt b 25 1
    match copyFormat false b with
    | some d => .next (s.finish work .eFormat d)
    | none =>
      if !s.hubEndOk it.ctx ss (fieldAt b 0 8) len false || !s.hubEndOk it.ctx ds (fieldAt b 8 8) len true then
        .next (s.finish work .eBounds 0)
      else if ss = 1 ∧ hostData.length ≠ len then .fault .illFormed
      else
        let src := s.hubEnd ss (fieldAt b 0 8) len
        let dst := s.hubEnd ds (fieldAt b 8 8) len
        match s.freeEngine it.ctxId with
        | none => .next s
        | some e =>
          if s.copyAhead work || s.endHeld src len || s.endHeld dst len || s.quiescing || s.stopActive then .next s
          else .next (s.hubCopy work it.ctxId e (if ss = 1 then .inr hostData else .inl src) dst len)

/-- FILL: an 8-byte pattern (R206). -/
def execFill (work : Work) (s : State) : Res :=
  .next <|
    match s.fresh work 0x04 with
    | none => s
    | some it =>
      let b := it.payload
      let len := fieldAt b 16 8
      let ds := fieldAt b 25 1
      match copyFormat true b with
      | some d => s.finish work .eFormat d
      | none =>
        if !s.hubEndOk it.ctx ds (fieldAt b 8 8) len true then s.finish work .eBounds 0
        else
          let dst := s.hubEnd ds (fieldAt b 8 8) len
          match s.freeEngine it.ctxId with
          | none => s
          | some e =>
            if s.copyAhead work || s.endHeld dst len || s.quiescing || s.stopActive then s
            else s.hubCopy work it.ctxId e (.inr (List.replicate (len / 8) (leBytes 8 (fieldAt b 0 8))).flatten) dst len

end Sys2Proof.Machine
end

