-- ==== Sys2Proof/Machine/Programs.lean ====
section
/-! DEFINITION. Programs and weight streams, whose images and data may lie in the board window: EXEC_PROGRAM and PROGRAM_LAUNCH
(R118-R120, R211), WSTREAM (R126, R223). -/

namespace Sys2Proof.Machine

/-- The launch block in a payload (Table 5.2). -/
def launchBlock (b : List Byte) : Block :=
  { image := fieldAt b 0 6, qmask := fieldAt b 6 2, length := fieldAt b 8 2, loadAt := fieldAt b 10 2, entry := fieldAt b 12 2
    reload := bitAt (fieldAt b 14 1) 0, arg1 := fieldAt b 16 8, arg2 := fieldAt b 24 8 }

/-- The first invalid field of a launch block, as an offset within the descriptor (R118, R200). -/
def launchFormat (b : List Byte) : Option Nat :=
  let k := launchBlock b
  let checks : List (Nat × Bool) :=
    [(32, k.image % 2048 != 0), (38, k.qmask == 0), (40, k.length == 0 || decide (4096 < k.length)),
     (42, decide (4096 < k.loadAt + k.length)), (44, decide (k.length ≤ k.entry)),
     (46, decide (2 ≤ fieldAt b 14 1)), (47, fieldAt b 15 1 != 0)]
  (checks.find? fun c => c.2).map fun c => c.1

/-- The functions that may launch on compute die c (R211). -/
def State.partMask (s : State) (c : Nat) : Nat := s.get (partField c) 0

/-- Quadrants of a launch mask. -/
def maskQuads (m : Nat) : List Nat := (List.range 16).filter fun q => bitAt m q

/-- Whether a launch is refused with E_BOUNDS: its image outside the memory the context may read (R118), or a quadrant on a die
whose partition map does not name the context's function (R211). -/
def State.launchBounds (s : State) (c : Ctx) (k : Block) : Bool :=
  !s.copyEndOk c 0 k.image (16 * k.length) false || (maskQuads k.qmask).any fun q => !bitAt (s.partMask (q / 4)) c.function

/-- EXEC_PROGRAM: a descriptor or a PROGRAM node launches a program (R118, R120). -/
def execExecProgram (work : Work) (s : State) : Res :=
  .next <|
    match s.fresh work 0x01 with
    | none => s
    | some it =>
      let k := launchBlock it.payload
      match launchFormat it.payload with
      | some d => s.finish work .eFormat d
      | none =>
        if (maskQuads k.qmask).any fun q => s.dieSwitching (q / 4) then s
        else if s.launchBounds it.ctx k then s.finish work .eBounds 0
        else
          let l : Launch := { id := s.order + 1, work := work, block := k, ctxId := it.ctxId, ctx := it.ctx, iter := it.iter
                              garg := it.garg, waiting := maskQuads k.qmask }
          { s with order := s.order + 1, launches := s.launches ++ [l] }.begin_ work

/-- Read the image of launch l for quadrant q out of another device's memory: the quadrant's reads go out, or, the node being excluded,
end the launch there as poisoned (R119, R223). -/
def State.fetchImage (s : State) (q : Nat) (l : Launch) (node off key : Nat) : State :=
  let o : FabOp := { id := 0, origin := .image q l.id, code := 1, node := node, off := off, key := key, len := 16 * l.block.length }
  if s.excludedNode node then (s.winFail q o 0 .eExcluded).startQuad q l [] true
  else (s.setSeq q { s.seq q with fetch := some (l.id, none) }).addOp o

/-- Whether quadrant q holds a launch's image already (R119). -/
def State.resident (s : State) (q : Nat) (b : Block) : Bool :=
  (s.seq q).tags.contains ⟨b.image, b.loadAt, b.length⟩ && !b.reload

/-- PROGRAM_LAUNCH: quadrant q starts the first launch accepted that waits for it and that its gate admits, once its image has been
read (R119, R120, R359). -/
def execProgramLaunch (q : Fin 16) (s : State) : Res :=
  .next <|
    if !s.quadFree q then s
    else match s.launches.find? fun l => l.waiting.contains q.val && s.gateOpen q l.ctxId with
      | none => s
      | some l =>
        let n := 16 * l.block.length
        if s.resident q l.block then s.startQuad q l [] false
        else match s.memEnd l.block.image n with
          | .here (.mem a) => if s.memHeld a n then s else s.startQuad q l (s.memRead a n).bytes (s.memRead a n).poisoned
          | .remote node off key =>
            match (s.seq q).fetch with
            | some (id, d) =>
              if id ≠ l.id then s.fetchImage q l node off key
              else match d with
                | none => s
                | some d => s.startQuad q l d.1 d.2
            | none => s.fetchImage q l node off key
          | _ => s.endQuad q l.id .eBounds

/-! ## Weight streams -/

/-- What a stream on array i reads out of another device's memory: its reads go out, or, the node being excluded, all of it counts as
poisoned (R223). -/
def State.fetchStream (s : State) (q i id node off key len : Nat) : State :=
  let o : FabOp := { id := 0, origin := .stream i id, code := 1, node := node, off := off, key := key, len := len }
  if s.excludedNode node then
    ((s.cause q .ePoison).winFail q o 0 .eExcluded).streamData i id (List.replicate len 0) (List.replicate (len / 64) true)
  else s.addOp o

/-- WSTREAM: each array of the range takes its stream; a stream whose data lies in another device's memory asks for it at once
(R126, R223). -/
def execWstream (q : Fin 16) (s : State) : Res :=
  .next <| s.issue q 0x18 fun w s =>
    let r := wordArrays w
    let fmt := slice w 107 103
    let cmp := bitAt w 102
    let bufB := bitAt w 101
    let bursts := slice w 71 48
    let rn := s.sreg q (slice w 84 80)
    let rs := s.sreg q (slice w 79 75)
    let b0 := s.addrOf q (slice w 89 85) (slice w 47 0)
    let info (k : Nat) : Option LoadInfo := let a := s.arr (64 * q + r.1 + k); if bufB then a.infoB else a.infoA
    let quart (k : Nat) : Bool := match info k with | none => false | some l => l.quarter
    let counts (k : Nat) : List Nat :=
      if quart k then (List.range 4).map fun j => slice rn (16 * j + 15) (16 * j) else [rn % 2 ^ 32]
    let base (k : Nat) : Nat := (b0 + k * rs) % 2 ^ 64
    let len (k : Nat) : Nat := streamBytes fmt (quart k) (counts k) bursts
    let empty (k : Nat) : Bool := (counts k).all (· == 0)
    let ks := List.range r.2
    if ks.any fun k => streamRefused fmt cmp bursts (info k) || base k % 2048 != 0 then s.progFault q .eFormat
    else if ks.any fun k => !empty k && !s.copyEndOk (s.progCtx q) 0 (base k) (len k) false then s.progFault q .eBounds
    else if s.arraysFull q r then s
    else
      let id := (s.seq q).nextId
      let ends (k : Nat) : CopyEnd := s.memEnd (base k) (len k)
      let s := s.enter q r.2 none
      let s := s.pushArrays q r fun k a =>
        match if bufB then a.infoB else a.infoA with
        | none => a
        | some l =>
          let x : Stream :=
            { id := id, seq := id, tile := l.id, fmt := fmt, cmp := cmp, add := bitAt w 100, colBase := slice w 99 90
              counts := counts k, base := match ends k with | .here (.mem a) => a | _ => base k
              bursts := bursts, quarter := l.quarter, dual := cmp && !l.quarter && decide (l.rows.headD 0 ≤ 16), rows := l.rows
              remote := match ends k with | .remote _ _ _ => true | _ => false }
          { a with queue := a.queue ++ [.stream x] }
      let s := ks.foldl (fun s k =>
        match ends k with
        | .remote node off key => if empty k then s else s.fetchStream q (64 * q + r.1 + k) id node off key (len k)
        | _ => s) s
      s.issued q

end Sys2Proof.Machine
end

