-- ==== Sys2Proof/Machine/Collectives.lean ====
section
/-! DEFINITION. Tree collectives: sessions, runs, chunks, credits, the self-checking adders, aborts (R279-R304). -/

namespace Sys2Proof.Machine

/-! ## Sessions as stored -/

def State.sess (s : State) (k : Nat) : ColSession := SMap.get {} s.col.sessions k
def State.setSess (s : State) (k : Nat) (v : ColSession) : State :=
  { s with col := { s.col with sessions := SMap.set {} s.col.sessions k v } }

/-- COL_SESSION_STAT.state: 0 idle, 1 joining, 2 ready, 3 running, 4 broken. -/
def State.sessState (s : State) (k : Nat) : Nat := s.get F.COL_SESSION_STAT_state k
def State.setSessState (s : State) (k v : Nat) : State := s.put F.COL_SESSION_STAT_state v k

/-- Change the run of a session. -/
def State.updRun (s : State) (k : Nat) (f : ColRun → ColRun) : State :=
  let x := s.sess k
  s.setSess k { x with run := x.run.map f }

/-- Change an edge of a session: the tree and the neighbour name it. -/
def State.updEdge (s : State) (k tree node : Nat) (f : ColEdge → ColEdge) : State :=
  let x := s.sess k
  s.setSess k { x with edges := x.edges.map fun e => if e.tree = tree ∧ e.node = node then f e else e }

/-- The edge of a session to a node in a tree. -/
def ColSession.edge (x : ColSession) (tree node : Nat) : Option ColEdge := x.edges.find? fun e => e.tree == tree && e.node == node

/-- The session's neighbours. -/
def ColSession.nodes (x : ColSession) : List Nat := (x.edges.map fun e => e.node).dedup

/-- Count a discarded packet (R304). -/
def State.colDiscard (s : State) : State := s.bump F.COL_ENGINE_discards 1 0

/-- The free units of the pool (R281, R282), 128 KiB each. -/
def State.addPool (s : State) (n : Int) : State :=
  s.put F.COL_POOL_free_units ((s.get F.COL_POOL_free_units 0 : Int) + n).toNat 0

/-- Staging footprint of a session in units of 128 KiB (R282). -/
def ColSession.footprint (x : ColSession) : Nat := 2 * x.slots * x.chunkKib / 128

/-! ## Packets out -/

/-- Send a collective packet: a port of the neighbour's route, chosen by the hash of R290; none up loses it. -/
def State.colSend (s : State) (k tree seq : Nat) (p : ColPacket) : State :=
  let ps := s.routePorts p.dst
  match ps[Config.pieceHash p.dst ((k * 2 + tree) * 2 ^ 32 + seq) % ps.length]? with
  | none => s
  | some q => s.tx q (.colPacket q p)

/-- A packet header of session k to a node. -/
def State.colHeader (s : State) (k : Nat) (kind node epoch : Nat) : ColPacket :=
  { kind := kind, session := k, dst := node, op := (s.sess k).lastOp, src := s.ownNode, dstEpoch := epoch, srcEpoch := s.epoch
    generation := s.get F.COL_SESSION_STAT_generation k, run := s.get F.COL_SESSION_STAT_run k, key := (s.sess k).key }

/-- The relation a JOIN carries: 2 * tree, plus 1 where the receiver is the sender's child (log entry 26). -/
def ColEdge.relation (e : ColEdge) : Nat := 2 * e.tree + if e.parent then 0 else 1

/-- Send a JOIN on an edge. -/
def State.sendJoin (s : State) (k : Nat) (e : ColEdge) : State :=
  if !s.mayJoin e.node then s
  else
    let p := { s.colHeader k 0x93 e.node e.epoch with
      tree := e.tree, op := 0, run := 0, seq := e.relation, chunkKib := (s.sess k).chunkKib, length := 8, data := leBytes 8 s.ownDigest }
    s.colSend k e.tree e.relation p

/-- JOINs to every neighbour that has not joined (R284). -/
def State.sendJoins (s : State) (k : Nat) : State :=
  let s := ((s.sess k).edges.filter fun e => !e.joined).foldl (fun s e => s.sendJoin k e) s
  s.setSess k { s.sess k with lastJoin := s.time }

/-- Send ABORT with a cause to every neighbour but one. -/
def State.sendAborts (s : State) (k cause : Nat) (except : Option Nat) : State :=
  (s.sess k).nodes.foldl (fun s n =>
    if except = some n then s
    else
      let ep := (((s.sess k).edges.find? fun e => e.node == n).map fun e => e.epoch).getD 0
      s.colSend k 0 0 { s.colHeader k 0x92 n ep with fmtCause := cause }) s

/-- Send CREDIT on an edge: what this node has acknowledged and grants (R291). -/
def State.sendCredit (s : State) (k : Nat) (e : ColEdge) : State :=
  s.colSend k e.tree 0 { s.colHeader k 0x91 e.node e.epoch with
    tree := e.tree, down := e.parent, ack := e.rxAck, limit := e.granted }

/-! ## The shape of a run -/

/-- Bytes of an element of a collective format. -/
def colElem (fmt : Nat) : Nat := elemBits fmt / 8

/-- Whether a run has an upward phase, a downward phase (Table 10.4). -/
def ColRun.up (r : ColRun) : Bool := r.op == 1 || r.op == 2 || r.op == 4
def ColRun.down (r : ColRun) : Bool := r.op == 1 || r.op == 3 || r.op == 4

/-- Chunks of a run on a tree; c elements per chunk (R280). A barrier is one empty chunk on tree 0. -/
def ColRun.total (r : ColRun) (c tree : Nat) : Nat :=
  if r.op = 4 then 1 - tree
  else
    let n := ceilDiv r.count c
    if tree = 0 then (n + 1) / 2 else n / 2

/-- First element of a chunk and its number of elements. -/
def ColRun.span (r : ColRun) (c tree seq : Nat) : Nat × Nat :=
  let a := (2 * seq + tree) * c
  (a, min c (r.count - a))

/-- Wire bytes of a chunk. -/
def ColRun.wire (r : ColRun) (c tree seq : Nat) : Nat := (r.span c tree seq).2 * colElem r.fmt

/-- Pieces of a chunk (R290). -/
def ColRun.pieces (r : ColRun) (c tree seq : Nat) : Nat := max 1 (ceilDiv (r.wire c tree seq) 4096)

/-- Elements per chunk of a session. -/
def ColSession.chunk (x : ColSession) : Nat := x.chunkKib * 256

/-- Whether this device is a tree's root; its children there. -/
def ColSession.root (x : ColSession) (tree : Nat) : Bool := !x.edges.any fun e => e.tree == tree && e.parent
def ColSession.children (x : ColSession) (tree : Nat) : List ColEdge := x.edges.filter fun e => e.tree == tree && !e.parent

/-- Whether upward chunks of a tree take slots here: an interior node or a root (R292). -/
def ColSession.slotted (x : ColSession) (tree : Nat) : Bool := x.root tree || !(x.children tree).isEmpty

/-- The lowest sequence whose slot is not freed: b of R291. -/
def ColRun.base (r : ColRun) (tree : Nat) : Nat :=
  ((List.range (r.freed.length + 1)).find? fun i => !r.freed.contains (tree, i)).getD 0

/-- Whether every piece of a chunk is held from an edge. -/
def ColEdge.complete (e : ColEdge) (seq pieces : Nat) : Bool :=
  decide (seq < e.rxAck) || (List.range pieces).all fun k => e.held.contains (seq, k)

/-- Advance an edge's acknowledgement past complete chunks; n bounds how many. -/
def ColEdge.advance (pieces : Nat → Nat) (total : Nat) (e : ColEdge) : Nat → ColEdge
  | 0 => e
  | n + 1 =>
    if e.rxAck < total ∧ e.complete e.rxAck (pieces e.rxAck) then
      advance pieces total { e with rxAck := e.rxAck + 1, held := e.held.filter fun h => h.1 != e.rxAck } n
    else e

/-! ## Conversions -/

/-- FP32 bits of wire bytes (R288: exact widening). -/
def widen (fmt : Nat) (bs : List Byte) : List Nat :=
  (List.range (bs.length / colElem fmt)).map fun i => toF32 (rowElem fmt bs [] i)

/-- Wire bytes of FP32 sums: one conversion, to nearest even or stochastic (R103, R288, R289). first: the element number of the
first one. -/
def ColRun.convert (r : ColRun) (seed first : Nat) (vals : List Nat) : List Byte :=
  let rd (i : Nat) : Rounding := if r.stoch then .stochastic (rand16 seed (first + i)) else .nearest
  packCodes (elemBits r.fmt) (vals.zipIdx.map fun p => (narrowPlain r.fmt (rd p.2) r.sat (ofF32 p.1)).1.code)

/-! ## The end of a run (R295, R300, R301) -/

/-- Bytes that nothing constrains, n of them (log entry 1). -/
def State.freeBytes (s : State) (n : Nat) : List Byte × State :=
  ((List.range n).map fun k => BitVec.ofNat 8 (Config.freeValue (s.freeCtr + k)).toNat, { s with freeCtr := s.freeCtr + n })

/-- A run that ends badly leaves its destination undefined (R300). -/
def State.scrambleDst (s : State) (r : ColRun) : State :=
  if r.op = 4 then s
  else
    let f := s.freeBytes (r.count * colElem r.fmt)
    (f.2.memWrite r.dst f.1).1

/-- The running run of session k ends with a status: the counter advances, the engine lets its context go (R289). -/
def State.endRun (s : State) (k : Nat) (st : Status) : State :=
  let x := s.sess k
  match x.run with
  | none => s
  | some r =>
    let s := s.setSess k { x with run := none, counter := x.counter + (r.count + 1023) / 1024 * 1024 }
    let s := (s.finish r.work st 0).engRelease 24 r.ctxId
    let s := if st.good || st == .ePoison then s else s.scrambleDst r
    s.setSessState k 2

/-- A session becomes broken: the outstanding run ends with st, runs that wait with E_PEER_LOST; the first ABORT's cause and node are
kept (Table 10.9, R300). -/
def State.breakSession (s : State) (k cause node : Nat) (st : Status) : State :=
  let s := s.endRun k st
  let x := s.sess k
  let s := x.waiting.foldl (fun s r => s.finish r.work .ePeerLost 0) s
  let s : State := match x.setup with | some w => s.finish w .ePeerLost 0 | none => s
  let s := s.setSess k { s.sess k with waiting := [], setup := none }
  let s : State := if s.get F.COL_SESSION_STAT_cause k = 0 then
      (s.put F.COL_SESSION_STAT_cause cause k).put F.COL_SESSION_STAT_lost_node node k else s
  (s.put F.COL_SESSION_STAT_abort_evt 1 k).setSessState k 4

/-- This node gives a run up: ABORT to every neighbour, and the session is broken. -/
def State.abandon (s : State) (k cause node : Nat) (st : Status) : State :=
  (s.sendAborts k cause none).breakSession k cause node st

/-- Whether a run is done at this node: everything it writes is written and everything it sends is acknowledged (R295). -/
def ColSession.runDone (x : ColSession) (r : ColRun) : Bool :=
  let c := x.chunk
  let trees := [0, 1]
  let writes (t : Nat) : Bool := r.op == 1 || r.op == 4 || (r.op == 2 && x.root t) || (r.op == 3 && !x.root t)
  trees.all (fun t => !writes t || (List.range (r.total c t)).all fun i => r.written.contains (t, i)) &&
  x.edges.all fun e => !(if e.parent then r.up else r.down) || decide (r.total c e.tree ≤ e.ack)

/-- End a run that is done. -/
def State.settleRun (s : State) (k : Nat) : State :=
  let x := s.sess k
  match x.run with
  | none => s
  | some r =>
    if !x.runDone r then s
    else s.endRun k (if r.unstored then .eUncorrectable else if r.wrotePoison then .ePoison
                     else if r.corrected then .okCorrected else .ok)

/-! ## Sending chunks (R290-R294) -/

/-- Note that a chunk is poisoned. -/
def ColRun.mark (r : ColRun) (tree seq : Nat) : ColRun := if r.bad.contains (tree, seq) then r else { r with bad := (tree, seq) :: r.bad }

/-- Pieces of chunk seq that this node has to send on an edge. -/
def ColSession.ready (x : ColSession) (r : ColRun) (e : ColEdge) (seq : Nat) : List Nat :=
  let c := x.chunk
  let all := List.range (r.pieces c e.tree seq)
  if e.parent then
    if !r.up then []
    else if !x.slotted e.tree then all
    else if r.slots.any fun t => t.tree == e.tree && t.seq == seq && t.full then all else []
  else if !r.down then []
  else if x.root e.tree then (if r.op = 3 ∨ r.written.contains (e.tree, seq) then all else [])
  else match x.edges.find? fun p => p.tree == e.tree && p.parent with
    | none => []
    | some p => all.filter fun k => decide (seq < p.rxAck) || p.held.contains (seq, k)

/-- The bytes of a chunk that go out on an edge, and whether reading them found poison (R292, R293). -/
def State.chunkBytes (s : State) (k : Nat) (r : ColRun) (e : ColEdge) (seq : Nat) : ReadOut :=
  let x := s.sess k
  let c := x.chunk
  let sp := r.span c e.tree seq
  let eb := colElem r.fmt
  if r.op = 4 then ⟨[], []⟩
  else if e.parent && x.slotted e.tree then
    match r.slots.find? fun t => t.tree == e.tree && t.seq == seq with
    | none => ⟨[], []⟩
    | some t => ⟨r.convert x.seed (x.counter + sp.1) t.vals, []⟩
  else if e.parent || (r.op == 3 && x.root e.tree) then s.memRead (r.src + sp.1 * eb) (sp.2 * eb)
  else s.memRead (r.dst + sp.1 * eb) (sp.2 * eb)

/-- Send one piece on an edge. -/
def State.sendPiece (s : State) (k : Nat) (e : ColEdge) (seq piece : Nat) (again : Bool) : State :=
  match (s.sess k).run with
  | none => s
  | some r =>
    let b := s.chunkBytes k r e seq
    let s := if b.poisoned then s.updRun k fun r => r.mark e.tree seq else s
    let bad := b.poisoned || r.bad.contains (e.tree, seq)
    let data := (b.bytes.drop (4096 * piece)).take 4096
    let s := (s.colSend k e.tree seq { s.colHeader k 0x90 e.node e.epoch with
      retrans := again, down := !e.parent, tree := e.tree, poison := bad, fmtCause := r.fmt, seq := seq, piece := piece
      length := data.length, count := r.count, data := data }).engAdvance 24 1
    s.updEdge k e.tree e.node fun e =>
      { e with ackAt := if e.sent.isEmpty then s.time else e.ackAt
               sent := if e.sent.contains (seq, piece) then e.sent else e.sent ++ [(seq, piece)] }

/-- Send on an edge every piece that is at hand, within the neighbour's limit, and has not been sent. -/
def State.pumpEdge (s : State) (k tree node : Nat) : State :=
  let x := s.sess k
  match x.run, x.edge tree node with
  | some r, some e =>
    let lim := min e.limit (r.total x.chunk tree)
    let todo := ((List.range (lim - e.ack)).map (e.ack + ·)).flatMap fun i => (x.ready r e i).map fun p => (i, p)
    (todo.filter fun t => !e.sent.contains t).foldl (fun s t =>
      match (s.sess k).edge tree node with | some e => s.sendPiece k e t.1 t.2 false | none => s) s
  | _, _ => s

/-- Send on every edge. -/
def State.pump (s : State) (k : Nat) : State := (s.sess k).edges.foldl (fun s e => s.pumpEdge k e.tree e.node) s

/-! ## Slots (R291, R292) -/

/-- Write a chunk to dst: bytes, or the poison pattern (R294). -/
def State.writeChunk (s : State) (k tree seq at_ : Nat) (bytes : List Byte) : State :=
  let x := s.sess k
  match x.run with
  | none => s
  | some r =>
    let c := x.chunk
    let sp := r.span c tree seq
    let eb := colElem r.fmt
    if r.op = 4 then s
    else if r.bad.contains (tree, seq) then
      (s.memPoison (r.dst + sp.1 * eb) (sp.2 * eb)).updRun k fun r => { r with wrotePoison := true }
    else
      let w := s.memWrite (r.dst + sp.1 * eb + at_) bytes
      w.1.updRun k fun r =>
        { r with unstored := r.unstored || w.2 == .eUncorrectable, wrotePoison := r.wrotePoison || w.2 == .ePoison }

/-- Open every slot that may be open: the own contribution is read into it (Table 10.6a). -/
def State.openSlots (s : State) (k tree : Nat) : State :=
  let x := s.sess k
  match x.run with
  | none => s
  | some r =>
    if !r.up || !x.slotted tree then s
    else
      let b := r.base tree
      let want := (List.range (min (b + x.slots) (r.total x.chunk tree) - b)).map (b + ·)
      (want.filter fun i => !(r.freed.contains (tree, i)) && !(r.slots.any fun t => t.tree == tree && t.seq == i)).foldl (fun s i =>
        let sp := r.span x.chunk tree i
        let v := if r.op = 4 then (⟨[], []⟩ : ReadOut) else s.memRead (r.src + sp.1 * colElem r.fmt) (sp.2 * colElem r.fmt)
        s.updRun k fun r =>
          let r := if v.poisoned then r.mark tree i else r
          { r with slots := r.slots ++ [{ tree := tree, seq := i, vals := widen r.fmt v.bytes }] }) s

/-- What this node grants now on its edges of a tree (R291): the limits of upward chunks follow b, of downward ones its ack. -/
def State.newGrants (s : State) (k tree : Nat) (force : Bool) : State :=
  let x := s.sess k
  match x.run with
  | none => s
  | some r =>
    (x.edges.filter fun e => e.tree == tree && (if e.parent then r.down else r.up)).foldl (fun s e =>
      let lim := (if e.parent then e.rxAck else r.base tree) + x.slots
      if force || decide (e.granted + 4 ≤ lim) then
        let e' := { e with granted := lim }
        (s.updEdge k tree e.node fun _ => e').sendCredit k e'
      else s) s

/-- Free a slot; b may advance, slots open, credit is granted. -/
def State.freeSlot (s : State) (k tree seq : Nat) : State :=
  let s := s.updRun k fun r =>
    { r with freed := if r.freed.contains (tree, seq) then r.freed else (tree, seq) :: r.freed
             slots := r.slots.filter fun t => !(t.tree == tree && t.seq == seq) }
  (s.openSlots k tree).newGrants k tree false

/-- Slots of a tree whose every contribution is in become full: a root writes its result, another node sends (Table 10.6a). n
bounds the slots that may follow one another. -/
def State.fillSlots (k tree : Nat) : Nat → State → State
  | 0, s => s
  | n + 1, s =>
    let x := s.sess k
    match x.run with
    | none => s
    | some r =>
      let c := x.chunk
      match r.slots.find? fun t => t.tree == tree && !t.full && (x.children tree).all fun e => e.complete t.seq (r.pieces c tree t.seq) with
      | none => s
      | some t =>
        let s := s.updRun k fun r => { r with slots := r.slots.map fun u => if u.tree = tree ∧ u.seq = t.seq then { u with full := true } else u }
        let s :=
          if x.root tree then
            let bytes := r.convert x.seed (x.counter + (r.span c tree t.seq).1) t.vals
            let s := (s.writeChunk k tree t.seq 0 bytes).updRun k fun r => { r with written := (tree, t.seq) :: r.written }
            s.freeSlot k tree t.seq
          else s
        fillSlots k tree n s

/-- Everything that follows from new data or new credit in a tree. -/
def State.progress (s : State) (k tree : Nat) : State :=
  let n := match (s.sess k).run with | some r => r.total (s.sess k).chunk tree | none => 0
  ((State.fillSlots k tree n s).pump k).settleRun k

/-! ## The adders (R296-R298) -/

/-- Healthy physical lanes. -/
def State.adderLanes (s : State) : Nat := 528 - s.col.retired.length

/-- Show the adder array in COL_ENGINE. -/
def State.showLanes (s : State) : State :=
  let out := (s.col.retired.filter fun l => decide (l < 512)).length
  let spare := 16 - (s.col.retired.filter fun l => decide (512 ≤ l)).length
  ((s.put F.COL_ENGINE_healthy s.adderLanes 0).put F.COL_ENGINE_spares_used (min out spare) 0).putB F.COL_ENGINE_half (decide (s.adderLanes < 512)) 0

/-- A mismatch on a physical lane: recorded; two within window_ms retire it. True where it retired. -/
def State.mismatch (s : State) (lane : Nat) : State × Bool :=
  if s.col.retired.contains lane ∨ 528 ≤ lane then (s, false)
  else
    let win := max 1 (s.get F.COL_ENGINE_window_ms 0) * 1000000
    let s := s.bump F.COL_ENGINE_mismatches 1 0
    let l := s.time :: (SMap.get [] s.col.mism lane).filter fun t => decide (s.time ≤ t + win)
    if 2 ≤ l.length then
      ({ s with col := { s.col with retired := lane :: s.col.retired, mism := SMap.set [] s.col.mism lane [] } }.showLanes, true)
    else ({ s with col := { s.col with mism := SMap.set [] s.col.mism lane l } }, false)

/-- The lanes that disagreed in one attempt. -/
def State.mismatches (s : State) (lanes : List Nat) : State × Bool :=
  lanes.foldl (fun a l => let r := a.1.mismatch l; (r.1, a.2 || r.2)) (s, false)

/-- The passes of an addition; bad: lanes that disagreed in each attempt, attempts past the list agree. True where it failed
(R297). -/
def State.addPass (s : State) (bad : List (List Nat)) : State × Bool :=
  match bad with
  | [] => (s, false)
  | [] :: _ => (s, false)
  | a :: rest =>
    let s := (s.mismatches a).1
    match rest with
    | [] => (s, false)
    | [] :: _ => (s, false)
    | b :: rest =>
      let m := s.mismatches b
      if !m.2 then (m.1, true)
      else match rest with
        | [] => (m.1, false)
        | [] :: _ => (m.1, false)
        | c :: _ => ((m.1.mismatches c).1, true)

/-! ## Receiving (R284, R291, R293, R300, R304) -/

/-- The keepers answer a collective packet other than an ABORT with ABORT RESETTING (Table 9.12). -/
def State.keeperAbort (s : State) (port : Nat) (p : ColPacket) : State :=
  if p.kind = 0x92 then s.bump F.WIN_EVT_CNT_count 1 (16 * port + 10)
  else
    (s.bump F.WIN_EVT_CNT_count 1 (16 * port + 9)).tx port (.colPacket port
      { kind := 0x92, session := p.session, fmtCause := 2, dst := p.src, src := s.ownNode, dstEpoch := p.srcEpoch
        srcEpoch := s.rst.prevEpoch, generation := p.generation, run := p.run, key := p.key })

/-- The gate every collective packet passes: keepers, the port, header and length (R304); k receives packets that go on. -/
def State.colArrive (s : State) (port : Nat) (p : ColPacket) (kind : Nat) (k : State → State) : State :=
  if p.kind ≠ kind then s
  else if s.kept then
    (if s.get F.WIN_PORT_STAT_state port = 3 ∨ s.get F.WIN_PORT_STAT_state port = 4 then s.keeperAbort port p else s)
  else if !s.portReceives port then s.bump F.WIN_EVT_CNT_count 1 (16 * port + 4)
  else if s.unitFrozen 0x40 then s
  else if p.rsv ∨ p.length ≠ p.data.length ∨ p.dst ≠ s.ownNode ∨ 2 ≤ p.tree ∨ 8 ≤ p.session then s.colDiscard
  else k s

/-- Whether a packet agrees with what an edge recorded at its JOIN. -/
def State.agrees (s : State) (p : ColPacket) (e : ColEdge) : Bool :=
  p.generation == s.get F.COL_SESSION_STAT_generation p.session && p.key == (s.sess p.session).key && p.srcEpoch == e.epoch &&
  p.dstEpoch == s.epoch

/-- ABORT NO_SESSION to the sender of a packet (Table 10.6); the packet is discarded (R285). -/
def State.noSession (s : State) (p : ColPacket) : State :=
  s.colDiscard.colSend p.session p.tree 0
    { kind := 0x92, session := p.session, fmtCause := 3, dst := p.src, src := s.ownNode, dstEpoch := p.srcEpoch, srcEpoch := s.epoch
      generation := p.generation, run := p.run, key := p.key }

/-- Hear from a neighbour of a session (R299). -/
def State.hear (s : State) (k node : Nat) : State :=
  let x := s.sess k
  s.setSess k { x with edges := x.edges.map fun e => if e.node = node then { e with heard := s.time } else e }

/-- A CHUNK or CREDIT's session and edge: answered, discarded, or passed on with the edge. -/
def State.onEdge (s : State) (p : ColPacket) (f : State → ColEdge → State) : State :=
  let k := p.session
  let st := s.sessState k
  if st = 0 then s.noSession p
  else match (s.sess k).edge p.tree p.src with
    | none => s.noSession p
    | some e =>
      if !e.joined then s.colDiscard
      else if !s.agrees p e then s.noSession p
      else if st = 4 then s.colDiscard
      else f (s.hear k p.src) { e with heard := s.time }

/-- A run that a neighbour's packet contradicts (R287). -/
def State.mismatchRun (s : State) (k node : Nat) : State := s.abandon k 4 node .eProtocol

/-- Add a child's piece into its slot. -/
def ColRun.addInto (r : ColRun) (tree seq piece : Nat) (vals : List Nat) : ColRun :=
  let at_ := piece * (4096 / colElem r.fmt)
  { r with slots := r.slots.map fun t =>
      if t.tree = tree ∧ t.seq = seq then
        { t with vals := t.vals.zipIdx.map fun p =>
            if at_ ≤ p.2 ∧ p.2 < at_ + vals.length then addF32 p.1 (vals.getD (p.2 - at_) 0) else p.1 }
      else t }

/-- Record a piece held from an edge, and acknowledge complete chunks. -/
def State.recordPiece (s : State) (k : Nat) (r : ColRun) (e : ColEdge) (seq piece : Nat) : State :=
  let c := (s.sess k).chunk
  let total := r.total c e.tree
  s.updEdge k e.tree e.node fun e => { e with held := e.held ++ [(seq, piece)] }.advance (r.pieces c e.tree) total total

/-- A new upward piece from a child (R288, R293, R297). -/
def State.takeUp (s : State) (r : ColRun) (p : ColPacket) (e : ColEdge) (adder : List (List Nat)) : State :=
  let k := p.session
  let a := if r.op = 4 then (s, false) else s.addPass adder
  if a.2 || (r.op != 4 && decide (a.1.adderLanes < 256)) then a.1.abandon k 7 s.ownNode .eUncorrectable
  else
    let s := a.1.updRun k fun r =>
      let r := if p.poison then r.mark p.tree p.seq else r
      { r.addInto p.tree p.seq p.piece (widen r.fmt p.data) with corrected := r.corrected || (r.op != 4 && !(adder.headD []).isEmpty) }
    (s.recordPiece k r e p.seq p.piece).progress k p.tree

/-- A new downward piece from the parent: written, forwarded; it frees the upward slot of its chunk (Table 10.6a, R293). -/
def State.takeDown (s : State) (r : ColRun) (p : ColPacket) (e : ColEdge) : State :=
  let k := p.session
  let c := (s.sess k).chunk
  let s := if p.poison then s.updRun k fun r => r.mark p.tree p.seq else s
  let s := s.writeChunk k p.tree p.seq (4096 * p.piece) p.data
  let s := s.recordPiece k r e p.seq p.piece
  let s := match (s.sess k).edge p.tree p.src with
    | some e => if e.complete p.seq (r.pieces c p.tree p.seq) then s.updRun k fun r => { r with written := (p.tree, p.seq) :: r.written } else s
    | none => s
  let s := if r.slots.any fun t => t.tree == p.tree && t.seq == p.seq then s.freeSlot k p.tree p.seq else s
  (s.newGrants k p.tree false).progress k p.tree

/-- CHUNK: a piece arrives (R285, R287, R288, R292-R294, R304). adder: lanes that disagreed in each attempt of its addition. -/
def execChunk (port : Fin 64) (p : ColPacket) (adder : List (List Nat)) (s : State) : Res :=
  .next <| s.colArrive port p 0x90 fun s => s.onEdge p fun s e =>
    let k := p.session
    let x := s.sess k
    let s := s.engAdvance 24 1
    match x.run with
    | none => s.colDiscard
    | some r =>
      if p.run ≠ r.number then s.colDiscard
      else if p.op ≠ r.op ∨ p.fmtCause ≠ r.fmt ∨ p.count ≠ r.count then s.mismatchRun k p.src
      else
        let c := x.chunk
        if p.down ≠ e.parent ∨ !(if p.down then r.down else r.up) ∨ e.granted ≤ p.seq ∨ r.total c p.tree ≤ p.seq ∨
            r.pieces c p.tree p.seq ≤ p.piece ∨ p.data.length ≠ min 4096 (r.wire c p.tree p.seq - 4096 * p.piece) then s.colDiscard
        else if p.seq < e.rxAck ∨ e.held.contains (p.seq, p.piece) then s
        else if p.down then s.takeDown r p e
        else s.takeUp r p e adder

/-- The effect of a credit on a running run (R291, R292, R293). -/
def State.applyCredit (s : State) (k : Nat) (r : ColRun) (e : ColEdge) (limit ack : Nat) : State :=
  let x := s.sess k
  let ack' := max e.ack (min ack (r.total x.chunk e.tree))
  let s := s.updEdge k e.tree e.node fun e =>
    { e with limit := limit, ack := ack', ackAt := if e.ack < ack' then s.time else e.ackAt, sent := e.sent.filter fun t => decide (ack' ≤ t.1) }
  let s := if e.parent then
      (r.slots.filter fun t => t.tree == e.tree && decide (t.seq < ack')).foldl (fun s t => s.freeSlot k t.tree t.seq) s
    else s
  s.progress k e.tree

/-- CREDIT: ack and limit from a neighbour (R291). A credit of a later run acknowledges all of the present one. -/
def execCredit (port : Fin 64) (p : ColPacket) (s : State) : Res :=
  .next <| s.colArrive port p 0x91 fun s => s.onEdge p fun s e =>
    let k := p.session
    let s := s.updEdge k p.tree p.src fun e => { e with credit := some (p.run, p.limit, p.ack) }
    match (s.sess k).run with
    | none => s
    | some r =>
      if p.run = r.number then
        if p.op ≠ 0 ∧ p.op ≠ r.op then s.mismatchRun k p.src else s.applyCredit k r e p.limit p.ack
      else if (p.run + 65536 - r.number) % 65536 < 32768 then s.applyCredit k r e e.limit (r.total (s.sess k).chunk e.tree)
      else s

/-- Whether a received JOIN matches an edge (R284). -/
def State.joinMatches (s : State) (p : ColPacket) (e : ColEdge) : Bool :=
  p.generation == s.get F.COL_SESSION_STAT_generation p.session && p.key == (s.sess p.session).key &&
  p.chunkKib == (s.sess p.session).chunkKib && p.seq == 2 * e.tree + (if e.parent then 1 else 0)

/-- A session returns to idle: staging freed (R282). -/
def State.idleSession (s : State) (k : Nat) : State :=
  let x := s.sess k
  let s := s.addPool x.footprint
  let s := x.waiting.foldl (fun s r => s.finish r.work .eFormat 33) s
  (s.setSess k { seed := x.seed }).setSessState k 0

/-- The SETUP of a joining session ends badly (R284). -/
def State.failSetup (s : State) (k : Nat) (st : Status) : State :=
  let s : State := match (s.sess k).setup with | some w => s.finish w st 0 | none => s
  s.idleSession k

/-- A session whose every neighbour has joined becomes ready. -/
def State.settleJoin (s : State) (k : Nat) : State :=
  let x := s.sess k
  if s.sessState k = 1 ∧ x.edges.all (fun e => e.joined) then
    let s : State := match x.setup with | some w => s.finish w .ok 0 | none => s
    (s.setSess k { x with setup := none, lastKeep := s.time, edges := x.edges.map fun e => { e with heard := s.time } }).setSessState k 2
  else s

/-- JOIN (R284, R304, R373). -/
def execJoin (port : Fin 64) (p : ColPacket) (s : State) : Res :=
  .next <| s.colArrive port p 0x93 fun s =>
    let k := p.session
    let st := s.sessState k
    if st = 0 ∨ 3 ≤ st ∨ p.length ≠ 8 ∨ s.ownDigest = 0 ∨ leNat p.data ≠ s.ownDigest then s.colDiscard
    else
      let x := s.sess k
      if !x.nodes.contains p.src then s.colDiscard
      else match x.edges.find? fun e => e.node == p.src && s.joinMatches p e with
        | none => if st = 1 then s.failSetup k .eProtocol else s.colDiscard
        | some e =>
          if st = 1 then
            (s.updEdge k e.tree e.node fun e => { e with joined := true, epoch := p.srcEpoch, heard := s.time }).settleJoin k
          else (s.hear k p.src).sendJoin k e

/-- JOIN_TIMER: every 100 µs while joining (R284). -/
def execJoinTimer (session : Fin 8) (s : State) : Res :=
  .next <|
    let k := session.val
    if s.sessState k = 1 then (s.due ((s.sess k).lastJoin + 100000)).sendJoins k else s

/-- JOIN_LIMIT_EXPIRE: no match from every neighbour by join_ms (R284). -/
def execJoinLimitExpire (session : Fin 8) (s : State) : Res :=
  .next <|
    let k := session.val
    let x := s.sess k
    if s.sessState k = 1 then (s.due (x.since + x.joinMs * 1000000)).failSetup k .eTimeout else s

/-- CREDIT_KEEPALIVE_TIMER: every 100 µs while ready or running (R291). -/
def execCreditKeepaliveTimer (session : Fin 8) (s : State) : Res :=
  .next <|
    let k := session.val
    let x := s.sess k
    if s.sessState k = 2 ∨ s.sessState k = 3 then
      let s := s.due (x.lastKeep + 100000)
      let s := s.setSess k { x with lastKeep := s.time }
      let s := [0, 1].foldl (fun s t => match (s.sess k).run with
        | none => s
        | some r => (s.sess k).edges.foldl (fun s e =>
            if e.tree = t ∧ (if e.parent then r.down else r.up) then
              s.updEdge k t e.node fun e => { e with granted := max e.granted ((if e.parent then e.rxAck else r.base t) + (s.sess k).slots) }
            else s) s) s
      (s.sess k).edges.foldl (fun s e => s.sendCredit k e) s
    else s

/-- The oldest unacknowledged chunk that may be sent again on an edge: never an upward one after a downward piece of it (R293). -/
def ColEdge.resendable (e : ColEdge) : Option Nat :=
  let l := (e.sent.map fun t => t.1).dedup.filter fun i =>
    !(e.parent && (decide (i < e.rxAck) || e.held.any fun h => h.1 == i))
  l.min?

/-- CHUNK_RETRANSMIT_TIMEOUT: no advance of a neighbour's ack for 20 µs while chunks are unacknowledged (R293). -/
def execChunkRetransmitTimeout (session : Fin 8) (neighbour : Fin 1048576) (s : State) : Res :=
  .next <|
    let k := session.val
    let x := s.sess k
    let l := x.edges.filter fun e => e.node == neighbour.val && !e.sent.isEmpty
    let s := s.due ((l.map fun e => e.ackAt + 20000).min?.getD 0)
    (l.filter fun e => decide (e.ackAt + 20000 ≤ s.time)).foldl (fun s e =>
      match e.resendable with
      | none => s
      | some i =>
        let s := s.updEdge k e.tree e.node fun e => { e with ackAt := s.time }
        ((e.sent.filter fun t => t.1 == i).map fun t => t.2).foldl (fun s p =>
          match (s.sess k).edge e.tree e.node with | some e => s.sendPiece k e i p true | none => s) s) s

/-- ABORT_CHUNK: an ABORT of the session's generation with its key (R300, R301). -/
def execAbortChunk (port : Fin 64) (p : ColPacket) (s : State) : Res :=
  .next <| s.colArrive port p 0x92 fun s =>
    let k := p.session
    let st := s.sessState k
    if st = 0 ∨ st = 4 ∨ p.generation ≠ s.get F.COL_SESSION_STAT_generation k ∨ p.key ≠ (s.sess k).key then s.colDiscard
    else (s.sendAborts k p.fmtCause (some p.src)).breakSession k p.fmtCause p.src .ePeerLost

/-- SESSION_TIMEOUT: silence of a neighbour for the session timeout (R299). -/
def execSessionTimeout (session : Fin 8) (neighbour : Fin 1048576) (s : State) : Res :=
  .next <|
    let k := session.val
    let x := s.sess k
    match x.edges.find? fun e => e.node == neighbour.val with
    | none => s
    | some e =>
      if s.sessState k = 2 ∨ s.sessState k = 3 then
        let s := s.due (e.heard + x.timeout * 100000)
        (s.sendAborts k 1 (some neighbour.val)).breakSession k 1 neighbour .ePeerLost
      else s

/-! ## COLLECTIVE (R283-R286) -/

/-- The first payload field that breaks R283's E_FORMAT rules, but for those that need the session. -/
def colFormat (b : List Byte) : Option Nat :=
  let op := fieldAt b 0 1
  let data := op == 1 || op == 2 || op == 3
  let fmt := fieldAt b 2 1
  let count := fieldAt b 24 8
  let n := count * colElem fmt
  let src := fieldAt b 8 8
  let dst := fieldAt b 16 8
  let checks : List (Nat × Bool) :=
    [(32, decide (5 < op)), (33, decide (7 < fieldAt b 1 1)),
     (34, if data then !([0, 1, 3, 4].contains fmt) else fmt != 0),
     (35, decide (4 ≤ fieldAt b 3 1)), (36, fieldAt b 4 4 != 0), (40, op == 0 && src % 64 != 0),
     (48, data && src != dst && decide (src < dst + n) && decide (dst < src + n)),
     (56, if data then count == 0 || decide (2 ^ 34 < count) else count != 0)]
  (checks.find? fun c => c.2).map fun c => c.1

/-- A neighbour field of a session descriptor: none, a node, or out of range. -/
def nodeField (v : Nat) : Option (Option Nat) := if v = 0xFFFFFFFF then some none else if v < 2 ^ 20 then some (some v) else none

/-- The edges a session descriptor gives (Table 10.2); none where a field is out of range, names the own node, or names one node
twice within a tree (R283). -/
def sessionEdges (own : Nat) (d : List Byte) : Option (List ColEdge) :=
  let fs := [(0, true, 8), (0, false, 12), (0, false, 16), (1, true, 20), (1, false, 24), (1, false, 28)]
  let vs := fs.map fun f => (f.1, f.2.1, nodeField (fieldAt d f.2.2 4))
  if vs.any fun v => v.2.2.isNone then none
  else
    let es := vs.filterMap fun v => match v.2.2 with
      | some (some n) => some ({ tree := v.1, node := n, parent := v.2.1 } : ColEdge)
      | _ => none
    if es.any (fun e => e.node == own) then none
    else if (es.map fun e => (e.tree, e.node)).dedup.length ≠ es.length then none
    else some es

/-- The values a session descriptor gives, with the collective defaults for zeros (Table 10.2, R285): chunk_kib, slots, timeout. -/
def State.sessionValues (s : State) (d : List Byte) : Nat × Nat × Nat :=
  let pick (v : Nat) (f : Fld) : Nat := if v = 0 then s.get f 0 else v
  (pick (fieldAt d 32 2) F.COL_DEFAULTS_chunk_kib, pick (fieldAt d 34 1) F.COL_DEFAULTS_slots,
   pick (fieldAt d 36 2) F.COL_DEFAULTS_timeout)

/-- Whether collective values are in range (Tables 10.2, 10.8). -/
def colValuesOk (v : Nat × Nat × Nat) : Bool :=
  decide (16 ≤ v.1) && decide (v.1 ≤ 1024) && (v.1 == 2 ^ Nat.log2 v.1) && decide (4 ≤ v.2.1) && decide (v.2.1 ≤ 64) && v.2.1 % 4 == 0 &&
  decide (2 ≤ v.2.2)

/-- Whether a session descriptor is refused with E_FORMAT: reserved bytes, ranges, the previous generation (R283). -/
def State.sessionBad (s : State) (k : Nat) (d : List Byte) : Bool :=
  let v := s.sessionValues d
  fieldAt d 0 1 != 1 || fieldAt d 1 3 != 0 || fieldAt d 35 1 != 0 || fieldAt d 38 2 != 0 || fieldAt d 44 4 != 0 || fieldAt d 56 8 != 0 ||
  fieldAt d 4 2 == 0 || fieldAt d 4 2 == s.get F.COL_SESSION_STAT_generation k || decide (60000 < fieldAt d 6 2) ||
  (sessionEdges s.ownNode d).isNone || !colValuesOk v

/-- The set-up of session k from its descriptor (R282, R284). -/
def State.setupSession (s : State) (work : Work) (k : Nat) (d : List Byte) : State :=
  let v := s.sessionValues d
  let x : ColSession :=
    { edges := (sessionEdges s.ownNode d).getD [], key := fieldAt d 40 4, chunkKib := v.1, slots := v.2.1, timeout := v.2.2
      seed := fieldAt d 48 8, setup := some work, joinMs := if fieldAt d 6 2 = 0 then 1000 else fieldAt d 6 2, since := s.time }
  if s.get F.COL_POOL_free_units 0 < x.footprint then s.finish work .eBounds 0
  else
    let s := ((s.begin_ work).addPool (-(x.footprint : Int))).setSess k x
    let s := ((s.put F.COL_SESSION_STAT_generation (fieldAt d 4 2) k).put F.COL_SESSION_STAT_cause 0 k).put F.COL_SESSION_STAT_lost_node 0 k
    (((s.put F.COL_SESSION_STAT_run 0 k).setSessState k 1).sendJoins k).settleJoin k

/-- COLLECTIVE_SETUP (R282-R284). -/
def execCollectiveSetup (work : Work) (s : State) : Res :=
  .next <|
    match s.fresh work 0x05 with
    | none => s
    | some it =>
      let b := it.payload
      if fieldAt b 0 1 ≠ 0 ∧ fieldAt b 0 1 ≤ 5 then s
      else match colFormat b with
        | some f => s.finish work .eFormat f
        | none =>
          let k := fieldAt b 1 1
          let a := fieldAt b 8 8
          if s.isSet F.SEC_EXCL_STAT_shutter 0 then s.finish work .eExcluded 0
          else if s.sessState k ≠ 0 then s.finish work .eFormat 33
          else if !s.mayLocal it.ctx a 64 false then s.finish work .eBounds 0
          else if s.memHeld a 64 then s
          else
            let d := s.memRead a 64
            if d.poisoned then s.finish work .ePoison 0
            else if s.sessionBad k d.bytes then s.finish work .eFormat 40
            else s.setupSession work k d.bytes

/-- A data operation or barrier enters its session's line of runs (R283, R287, R300). -/
def State.collective (s : State) (work : Work) (op : Nat) : State :=
  match s.fresh work 0x05 with
  | none => s
  | some it =>
    let b := it.payload
    if fieldAt b 0 1 ≠ op ∧ fieldAt b 0 1 ≤ 5 then s
    else match colFormat b with
      | some f => s.finish work .eFormat f
      | none =>
        let k := fieldAt b 1 1
        let n := fieldAt b 24 8 * colElem (fieldAt b 2 1)
        if op ≠ 4 ∧ s.isSet F.SEC_EXCL_STAT_shutter 0 then s.finish work .eExcluded 0
        else if s.sessState k = 0 then s.finish work .eFormat 33
        else if op ≠ 4 ∧ !(s.mayLocal it.ctx (fieldAt b 8 8) n false && s.mayLocal it.ctx (fieldAt b 16 8) n true) then
          s.finish work .eBounds 0
        else if s.sessState k = 4 then s.finish work .ePeerLost 0
        else
          let r : ColRun :=
            { work := work, ctxId := it.ctxId, op := op, fmt := fieldAt b 2 1, stoch := bitAt (fieldAt b 3 1) 0, sat := bitAt (fieldAt b 3 1) 1
              src := fieldAt b 8 8, dst := fieldAt b 16 8, count := fieldAt b 24 8 }
          (s.begin_ work).setSess k { s.sess k with waiting := (s.sess k).waiting ++ [r] }

/-- ALL_REDUCE (R286). -/
def execAllReduce (work : Work) (s : State) : Res := .next (s.collective work 1)

/-- REDUCE (R286). -/
def execReduce (work : Work) (s : State) : Res := .next (s.collective work 2)

/-- BROADCAST (R286). -/
def execBroadcast (work : Work) (s : State) : Res := .next (s.collective work 3)

/-- BARRIER (R286). -/
def execBarrier (work : Work) (s : State) : Res := .next (s.collective work 4)

/-- TEARDOWN: an idle-ready or broken session returns to idle (R285); while it joins, the TEARDOWN waits. -/
def execTeardown (work : Work) (s : State) : Res :=
  .next <|
    match s.fresh work 0x05 with
    | none => s
    | some it =>
      let b := it.payload
      if fieldAt b 0 1 ≠ 5 ∧ fieldAt b 0 1 ≤ 5 then s
      else match colFormat b with
        | some f => s.finish work .eFormat f
        | none =>
          let k := fieldAt b 1 1
          let x := s.sess k
          if s.sessState k = 1 then s
          else if x.run.isSome || !x.waiting.isEmpty then s.finish work .eFormat 33
          else if s.sessState k = 0 then s.finish work .ok 0
          else (s.idleSession k).finish work .ok 0

/-- Whether a run adds at this node: it has an upward phase with children here. -/
def ColSession.adds (x : ColSession) (r : ColRun) : Bool := (r.op == 1 || r.op == 2) && x.edges.any fun e => !e.parent

/-- Start a run: its number, edges cleared, slots opened, credit granted (R287, R291). -/
def State.startRun (s : State) (k : Nat) (r : ColRun) (rest : List ColRun) : State :=
  let x := s.sess k
  let r := { r with number := x.nextRun }
  let edges := x.edges.map fun e =>
    let c := match e.credit with | some (n, l, a) => if n = x.nextRun then some (l, a) else none | none => none
    { e with limit := (c.map Prod.fst).getD 0, ack := 0, sent := [], ackAt := s.time, held := [], rxAck := 0, granted := 0 }
  let s := s.setSess k { x with run := some r, waiting := rest, nextRun := (x.nextRun + 1) % 65536, lastOp := r.op, edges := edges }
  let s := ((s.put F.COL_SESSION_STAT_run r.number k).setSessState k 3).engTake 24 r.ctxId
  if x.adds r ∧ s.adderLanes < 256 then s.abandon k 7 s.ownNode .eUncorrectable
  else
    let s := (s.openSlots k 0).openSlots k 1
    let s := (s.newGrants k 0 true).newGrants k 1 true
    let s := State.fillSlots k 1 (r.total x.chunk 1) (State.fillSlots k 0 (r.total x.chunk 0) s)
    (s.pump k).settleRun k

/-- Whether the collective engine may start work of context x: its gate, resets, stops (R331, R346, R359). -/
def State.colMay (s : State) (x : Nat) : Bool :=
  s.gateOpen 24 x && !s.quiescing && !s.stopActive && !s.unitFrozen 0x40 &&
  match s.rst.run with
  | none => true
  | some r => !(r.req.kind == .engine && r.req.target == 24)

/-- COLLECTIVE_RUN_START: the next run of a ready session (R287). -/
def execCollectiveRunStart (session : Fin 8) (s : State) : Res :=
  .next <|
    let k := session.val
    match (s.sess k).waiting with
    | [] => s
    | r :: rest =>
      let n := r.count * colElem r.fmt
      if s.sessState k ≠ 2 ∨ !s.colMay r.ctxId then s
      else if r.op ≠ 4 ∧ (s.memHeld r.src n || s.memHeld r.dst n) then s
      else s.startRun k r rest

/-- COL_POOL_WRITE: ignored while a session is not idle; a pool that would run past 128 MiB is cut back (R281). -/
def execColPoolWrite (w : BarAcc) (s : State) : Res :=
  .next <| s.onWrite .COL_POOL 0 w fun _ =>
    if !(w.touches F.COL_POOL_size_mib || w.touches F.COL_POOL_base_mib) then s
    else if s.setupLocked then s.blockedWrite
    else if (List.range 8).any fun k => s.sessState k != 0 then s
    else
      let base := min 127 (w.merge F.COL_POOL_base_mib (s.get F.COL_POOL_base_mib 0))
      let size := min (128 - base) (max 1 (w.merge F.COL_POOL_size_mib (s.get F.COL_POOL_size_mib 0)))
      ((s.put F.COL_POOL_base_mib base 0).put F.COL_POOL_size_mib size 0).put F.COL_POOL_free_units (8 * size) 0

/-! ## Ends from outside (R302, R303) -/

/-- An accepted ABORT of a collective (R302): a run stops and breaks its session, a joining SETUP returns it to idle, a run that
waits leaves its line. -/
def State.colAbort (s : State) (w : Work) : State :=
  (List.range 8).foldl (fun s k =>
    let x := s.sess k
    if x.setup = some w then s.failSetup k .eAborted
    else if (x.run.map fun r => r.work) = some w then s.abandon k 5 s.ownNode .eAborted
    else if x.waiting.any fun r => r.work == w then
      (s.setSess k { x with waiting := x.waiting.filter fun r => r.work != w }).finish w .eAborted 0
    else s) s

/-- Every session that is not idle breaks with a cause; runs end with a status. -/
def State.colBreakAll (s : State) (cause : Nat) (st : Status) : State :=
  (List.range 8).foldl (fun s k => if s.sessState k = 0 ∨ s.sessState k = 4 then s else s.abandon k cause s.ownNode st) s

/-- Every session that is not idle and has node n as a neighbour breaks, as on an ABORT with a cause received from it (R300, R352, R379). -/
def State.colPeer (s : State) (n cause : Nat) : State :=
  (List.range 8).foldl (fun s k =>
    if s.sessState k = 0 ∨ s.sessState k = 4 ∨ !(s.sess k).nodes.contains n then s
    else (s.sendAborts k cause (some n)).breakSession k cause n .ePeerLost) s

/-- A chip reset returns every session to idle and frees the pool (R303). -/
def State.colReset (s : State) : State :=
  let s := (List.range 8).foldl (fun s k => s.setSessState k 0) { s with col := { s.col with sessions := [] } }
  s.put F.COL_POOL_free_units (8 * s.get F.COL_POOL_size_mib 0) 0

end Sys2Proof.Machine
end

