-- ==== Sys2Proof/Machine/Reflection.lean ====
section
/-! DEFINITION. Reflection pairs: the rows (R383-R392). -/

namespace Sys2Proof.Machine

/-! ## Sending (R384, R385, R388) -/

/-- Enter a reflection packet as a store of the flow to the partner, and issue. -/
def State.reflSend (s : State) (r : FabReq) : State :=
  let n := s.reflPartner
  let r := { r with node := n, serial := s.fab.serial, tag := s.fab.freeTag, op := none, first := s.time }
  let s := s.setFab { s.fab with reqs := s.fab.reqs ++ [r], serial := s.fab.serial + 1 }
  (s.setRefl { s.refl with lastSent := s.time }).issueTo n

/-- Whether the engine may send: the fabric is on and nothing holds it (R346, R391). -/
def State.reflMay (s : State) : Bool := s.fabOn && !s.quiescing && !s.stopActive

/-- Whether a reflection packet waits for its first attempt. -/
def State.reflWaiting (s : State) : Bool := s.fab.reqs.any fun r => isReflection r.kind && r.attempts == 0

/-- Send RBIND, unless the digests forbid it (R373, R384). -/
def State.sendRbind (s : State) : State :=
  if !s.mayJoin s.reflPartner ∨ s.reflWaiting then s.setRefl { s.refl with lastSent := s.time }
  else s.reflSend { serial := 0, tag := 0, op := none, node := 0, kind := 0xA0, len := 16
                    data := leBytes 8 s.ownDigest ++ leBytes 4 s.refl.total ++ leBytes 4 s.refl.shadowSize }

/-- Send RRESUME with the generation last made durable here (R391). -/
def State.sendRresume (s : State) : State :=
  (s.setRefl { s.refl with owe := false }).reflSend
    { serial := 0, tag := 0, op := none, node := 0, kind := 0xA4, len := 4, data := leBytes 4 (s.get F.FAB_REFLECT_STAT_shadow_gen 0) }

/-- Send burst b with its current content and mark it in flight (R385). -/
def State.sendBurst (s : State) (b : Nat) : State :=
  match reflAddr s.refl.regions b with
  | none => s
  | some a =>
    let d := s.memRead a 2048
    let s := s.setRefl { s.refl with
      dirty := SMap.set 0 s.refl.dirty b (2 + s.fab.serial), marks := s.refl.marks.map fun m => { m with left := m.left.erase b } }
    s.reflSend { serial := 0, tag := 0, op := none, node := 0, kind := 0xA1, off := 2048 * b, len := 2048, poison := d.poisoned, data := d.bytes }

/-- Send the RMARK of a generation; that of the initial copy carries copy-done (Table 13.15). -/
def State.sendRmark (s : State) (g : Nat) : State :=
  let s := s.setRefl { s.refl with marks := s.refl.marks.map fun m => if m.gen = g then { m with sent := true } else m }
  s.reflSend { serial := 0, tag := 0, op := none, node := 0, kind := 0xA2, key := g, off := if g = 1 then 1 else 0 }

/-- The first generation not sent, where its bursts have gone. -/
def Refl.markDue (r : Refl) : Option Nat :=
  match r.marks.find? fun m => !m.sent with
  | none => none
  | some m => if m.left.isEmpty && (m.gen = 1 || r.copyAt.isNone) then some m.gen else none

/-- The lowest dirty burst, of those the initial copy has passed (R388). -/
def Refl.nextDirty (r : Refl) : Option Nat :=
  (r.dirty.find? fun e => e.2 == 1 && (match r.copyAt with | none => true | some c => decide (e.1 < c))).map fun e => e.1

/-- The initial copy has passed every burst: generation 1 is marked. -/
def Refl.copyDone (r : Refl) : Refl := { r with copyAt := none, marks := { gen := 1 } :: r.marks }

/-- REFLECT_BURST_SEND: an RRESUME owed, a generation whose bursts have gone, a dirty burst, or the copy's next burst is sent
(R385, R386, R388, R391). -/
def execReflectBurstSend (s : State) : Res :=
  .next <|
    if !s.reflBound || !s.reflMay || s.reflWaiting then s
    else if s.reflState = 4 then (if s.refl.owe then s.sendRresume else s)
    else match s.refl.markDue, s.refl.nextDirty, s.refl.copyAt with
      | some g, _, _ => s.sendRmark g
      | none, some b, _ => (if (reflAddr s.refl.regions b).any fun a => s.memHeld a 2048 then s else s.sendBurst b)
      | none, none, some c =>
        if s.refl.total * 1024 ≤ c then s.setRefl s.refl.copyDone
        else if (reflAddr s.refl.regions c).any fun a => s.memHeld a 2048 then s
        else
          let s := s.sendBurst c
          let r := { s.refl with copyAt := some (c + 1) }
          s.setRefl (if c + 1 = s.refl.total * 1024 then r.copyDone else r)
      | none, none, none => s

/-! ## REFLECT_MARK (R383, R386, R392) -/

/-- The first field of a REFLECT_MARK payload that is out of its range (Table 13.13). -/
def reflFormat (b : List Byte) : Option Nat :=
  let op := fieldAt b 0 1
  let checks : List (Nat × Bool) :=
    [(32, decide (2 < op)), (33, !zeroAt b 1 7), (40, (op != 1 && fieldAt b 8 8 != 0) || fieldAt b 8 8 % 64 != 0),
     (48, op != 0 && fieldAt b 16 4 != 0), (52, !zeroAt b 20 12)]
  (checks.find? fun c => c.2).map fun c => c.1

/-- The region entries of a bind block. -/
def blockRegions (b : List Byte) : List (Nat × Nat) :=
  (List.range (fieldAt b 6 2)).map fun r => (fieldAt b (64 + 16 * r) 8, fieldAt b (72 + 16 * r) 4)

/-- Whether two areas, base and granules, overlap. -/
def overlap (x y : Nat × Nat) : Bool := decide (x.1 < y.1 + y.2 * 2 ^ 21) && decide (y.1 < x.1 + x.2 * 2 ^ 21)

/-- Whether any two of the areas overlap. -/
def anyOverlap : List (Nat × Nat) → Bool
  | [] => false
  | x :: xs => xs.any (overlap x) || anyOverlap xs

/-- Whether an area of granules lies in valid memory map entries. -/
def State.areaMapped (s : State) (x : Nat × Nat) : Bool :=
  (List.range x.2).all fun k => isLocal (x.1 + k * 2 ^ 21) && (s.mapFor (x.1 + k * 2 ^ 21)).isSome

/-- The areas of a bind block beside its regions: shadow, undo log, tracking area. -/
def blockAreas (b : List Byte) : List (Nat × Nat) :=
  [(fieldAt b 16 8, fieldAt b 24 4), (fieldAt b 32 8, fieldAt b 28 4), (fieldAt b 40 8, 32)]

/-- Whether a bind block breaks an E_FORMAT rule of R383. -/
def State.blockBad (s : State) (b : List Byte) : Bool :=
  let rs := blockRegions b
  decide (2 ^ 20 ≤ fieldAt b 0 4) || fieldAt b 4 2 == 1 || fieldAt b 8 8 == 0 || fieldAt b 24 4 == 0 || decide (131072 < fieldAt b 24 4) ||
  !zeroAt b 48 16 || ((rs ++ blockAreas b).any fun r => r.1 % 2 ^ 21 != 0) ||
  ((List.range rs.length).any fun r => fieldAt b (76 + 16 * r) 4 != 0) || anyOverlap rs ||
  decide (131072 < (rs.map fun r => r.2).sum) || fieldAt b 0 4 == s.ownNode

/-- The engine after a BIND is accepted: unbound no more, binding. -/
def State.startBind (s : State) (work : Work) (b : List Byte) : State :=
  let s := (s.begin_ work).setRefl
    { work := some work, since := s.time, timeout := if fieldAt b 4 2 = 0 then 20 else fieldAt b 4 2, ports := fieldAt b 8 8
      regions := blockRegions b, shadow := fieldAt b 16 8, shadowSize := fieldAt b 24 4, undoAt := fieldAt b 32 8, undoSize := fieldAt b 28 4
      track := fieldAt b 40 8 }
  let s := ((s.put F.FAB_REFLECT_STAT_partner (fieldAt b 0 4) 0).put F.FAB_REFLECT_STAT_cause 0 0).setReflState 1
  s.sendRbind

/-- BIND (R383, R384): refusals in the order E_FORMAT, E_BOUNDS, E_EXCLUDED. -/
def execBind (work : Work) (s : State) : Res :=
  .next <|
    match s.fresh work 0x0C with
    | none => s
    | some it =>
      let p := it.payload
      if fieldAt p 0 1 = 0 ∨ fieldAt p 0 1 = 2 then s
      else match reflFormat p with
        | some d => s.finish work .eFormat d
        | none =>
          let a := fieldAt p 8 8
          if s.reflState ≠ 0 then s.finish work .eFormat 40
          else if !s.mayLocal it.ctx a 64 false then s.finish work .eBounds 0
          else if s.memHeld a 64 then s
          else
            let n := fieldAt (s.memRead a 64).bytes 6 2
            if n = 0 ∨ 64 < n then s.finish work .eFormat 40
            else if !s.mayLocal it.ctx a (64 + 16 * n) false then s.finish work .eBounds 0
            else if s.memHeld a (64 + 16 * n) then s
            else
              let d := s.memRead a (64 + 16 * n)
              let b := d.bytes
              let areas := blockRegions b ++ blockAreas b
              if d.poisoned then s.finish work .ePoison 0
              else if s.blockBad b then s.finish work .eFormat 40
              else if !(areas.all fun x => s.areaMapped x) ∨ anyOverlap areas then s.finish work .eBounds 0
              else if s.job.excl.contains (fieldAt b 0 4) ∨ s.isSet F.SEC_EXCL_STAT_shutter 0 then s.finish work .eExcluded 0
              else s.startBind work b

/-- MARK: creates its generation; it completes when that is durable (R386). -/
def execMark (work : Work) (s : State) : Res :=
  .next <|
    match s.fresh work 0x0C with
    | none => s
    | some it =>
      let p := it.payload
      if fieldAt p 0 1 = 1 ∨ fieldAt p 0 1 = 2 then s
      else match reflFormat p with
        | some d => s.finish work .eFormat d
        | none =>
          let g := fieldAt p 16 4
          if s.reflState = 5 ∨ s.refl.rolling.isSome then s.finish work .ePeerLost 0
          else if !s.reflBound then s.finish work .eFormat 0
          else if g ≠ s.get F.FAB_REFLECT_GEN_created 0 + 1 then s.finish work .eFormat 48
          else
            let left := (s.refl.dirty.filter fun e => e.2 == 1).map fun e => e.1
            let s := (s.begin_ work).put F.FAB_REFLECT_GEN_created g 0
            s.setRefl { s.refl with marks := s.refl.marks ++ [{ gen := g, work := some work, left := left }] }

/-- Everything of the pair is removed; the shadow area is left as it is (R392). -/
def State.unbindNow (s : State) : State :=
  let s := s.refl.marks.foldl (fun s m => match m.work with | some w => s.finish w .ePeerLost 0 | none => s) s
  let s : State := match s.refl.work with | some w => s.finish w .eAborted 0 | none => s
  let s := s.setFab { s.fab with reqs := s.fab.reqs.filter fun r => !(isReflection r.kind && r.attempts == 0) }
  let s := ((s.setRefl {}).setReflState 0).put F.FAB_REFLECT_STAT_shadow 0 0
  let s := (s.put F.FAB_REFLECT_STAT_cause 0 0).put F.FAB_REFLECT_STAT_partner 0 0
  (s.put F.FAB_REFLECT_STAT_overflow 0 0).put F.FAB_REFLECT_STAT_shadow_gen 0 0

/-- UNBIND, in any state (R392). -/
def execUnbind (work : Work) (s : State) : Res :=
  .next <|
    match s.fresh work 0x0C with
    | none => s
    | some it =>
      let p := it.payload
      if fieldAt p 0 1 ≤ 1 then s
      else match reflFormat p with
        | some d => s.finish work .eFormat d
        | none => s.unbindNow.finish work .ok 0

/-- An accepted abort of a BIND or MARK (R392): the device is unbound again; a MARK's generation stays. -/
def State.reflAbort (s : State) (w : Work) : State :=
  if s.refl.work = some w then s.failBind .eAborted
  else if s.refl.marks.any fun m => m.work == some w then
    (s.setRefl { s.refl with marks := s.refl.marks.map fun m => if m.work = some w then { m with work := none } else m }).finish w .eAborted 0
  else s

/-! ## Packets in -/

/-- RBIND (R384). -/
def execRbind (port : Fin 64) (p : Packet) (s : State) : Res := .next <| if p.kind = 0xA0 then s.arrive port p else s

/-- RBURST (R387). -/
def execRburst (port : Fin 64) (p : Packet) (s : State) : Res := .next <| if p.kind = 0xA1 then s.arrive port p else s

/-- RMARK (R387). -/
def execRmark (port : Fin 64) (p : Packet) (s : State) : Res := .next <| if p.kind = 0xA2 then s.arrive port p else s

/-- RKEEP (R389). -/
def execRkeep (port : Fin 64) (p : Packet) (s : State) : Res := .next <| if p.kind = 0xA3 then s.arrive port p else s

/-- RRESUME (R391). -/
def execRresume (port : Fin 64) (p : Packet) (s : State) : Res := .next <| if p.kind = 0xA4 then s.arrive port p else s

/-! ## Time-driven rows -/

/-- RBIND_TIMER: every 100 µs while binding (R384). -/
def execRbindTimer (s : State) : Res :=
  .next <| if s.reflState = 1 ∧ s.reflMay then (s.due (s.refl.lastSent + 100000)).sendRbind else s

/-- BIND_TIMEOUT: no binding within 1 s (R384). -/
def execBindTimeout (s : State) : Res :=
  .next <| if s.reflState = 1 then (s.due (s.refl.since + 1000000000)).failBind .eTimeout else s

/-- RKEEP_TIMER: no reflection packet has gone for 100 µs (R384). -/
def execRkeepTimer (s : State) : Res :=
  .next <|
    if s.reflBound ∧ s.reflState ≠ 4 ∧ s.reflMay ∧ !s.reflWaiting then
      let s := s.due (s.refl.lastSent + 100000)
      s.reflSend { serial := 0, tag := 0, op := none, node := 0, kind := 0xA3 }
    else s

/-- PARTNER_LOSS_TIMEOUT: nothing heard for the bind's timeout, or no RRESUME within 1,000 ms of what asked for one (R389). -/
def execPartnerLossTimeout (s : State) : Res :=
  .next <|
    if !s.reflBound then s
    else match s.refl.quiet with
      | some t => (s.due (t + 1000000000)).reflLost 4
      | none => if s.refl.owe then s else (s.due (s.refl.heard + s.refl.timeout * 100000)).reflLost 1

/-- ROLLBACK_DONE: the undo log has been applied in reverse, at 64 GB/s at most: the shadow is DURABLE (R390). -/
def execRollbackDone (s : State) : Res :=
  .next <|
    match s.refl.rolling with
    | none => s
    | some (cause, t) => (s.due (t + 32 * s.refl.log.length)).rollback.reflGone cause

end Sys2Proof.Machine
end

