-- ==== Sys2Proof/Machine/Sha512.lean ====
section
/-! DEFINITION. SHA-512 over bytes (the manual names the hash of R27, R373 and R408 and leaves its text to FIPS 180-4; log entry 31). -/

namespace Sys2Proof.Sha512

abbrev W := BitVec 64

/-- Round constants 0 to 19. -/
def k0 : List W :=
  [0x428a2f98d728ae22, 0x7137449123ef65cd, 0xb5c0fbcfec4d3b2f, 0xe9b5dba58189dbbc,
   0x3956c25bf348b538, 0x59f111f1b605d019, 0x923f82a4af194f9b, 0xab1c5ed5da6d8118,
   0xd807aa98a3030242, 0x12835b0145706fbe, 0x243185be4ee4b28c, 0x550c7dc3d5ffb4e2,
   0x72be5d74f27b896f, 0x80deb1fe3b1696b1, 0x9bdc06a725c71235, 0xc19bf174cf692694,
   0xe49b69c19ef14ad2, 0xefbe4786384f25e3, 0x0fc19dc68b8cd5b5, 0x240ca1cc77ac9c65]

/-- Round constants 20 to 39. -/
def k1 : List W :=
  [0x2de92c6f592b0275, 0x4a7484aa6ea6e483, 0x5cb0a9dcbd41fbd4, 0x76f988da831153b5,
   0x983e5152ee66dfab, 0xa831c66d2db43210, 0xb00327c898fb213f, 0xbf597fc7beef0ee4,
   0xc6e00bf33da88fc2, 0xd5a79147930aa725, 0x06ca6351e003826f, 0x142929670a0e6e70,
   0x27b70a8546d22ffc, 0x2e1b21385c26c926, 0x4d2c6dfc5ac42aed, 0x53380d139d95b3df,
   0x650a73548baf63de, 0x766a0abb3c77b2a8, 0x81c2c92e47edaee6, 0x92722c851482353b]

/-- Round constants 40 to 59. -/
def k2 : List W :=
  [0xa2bfe8a14cf10364, 0xa81a664bbc423001, 0xc24b8b70d0f89791, 0xc76c51a30654be30,
   0xd192e819d6ef5218, 0xd69906245565a910, 0xf40e35855771202a, 0x106aa07032bbd1b8,
   0x19a4c116b8d2d0c8, 0x1e376c085141ab53, 0x2748774cdf8eeb99, 0x34b0bcb5e19b48a8,
   0x391c0cb3c5c95a63, 0x4ed8aa4ae3418acb, 0x5b9cca4f7763e373, 0x682e6ff3d6b2b8a3,
   0x748f82ee5defb2fc, 0x78a5636f43172f60, 0x84c87814a1f0ab72, 0x8cc702081a6439ec]

/-- Round constants 60 to 79. -/
def k3 : List W :=
  [0x90befffa23631e28, 0xa4506cebde82bde9, 0xbef9a3f7b2c67915, 0xc67178f2e372532b,
   0xca273eceea26619c, 0xd186b8c721c0c207, 0xeada7dd6cde0eb1e, 0xf57d4f7fee6ed178,
   0x06f067aa72176fba, 0x0a637dc5a2c898a6, 0x113f9804bef90dae, 0x1b710b35131c471b,
   0x28db77f523047d84, 0x32caab7b40c72493, 0x3c9ebe0a15c9bebc, 0x431d67c49c100d4c,
   0x4cc5d4becb3e42b6, 0x597f299cfc657e2a, 0x5fcb6fab3ad6faec, 0x6c44198c4a475817]

/-- The round constants. -/
def ks : List W := k0 ++ k1 ++ k2 ++ k3

/-- The initial hash value. -/
def h0 : List W :=
  [0x6a09e667f3bcc908, 0xbb67ae8584caa73b, 0x3c6ef372fe94f82b, 0xa54ff53a5f1d36f1,
   0x510e527fade682d1, 0x9b05688c2b3e6c1f, 0x1f83d9abfb41bd6b, 0x5be0cd19137e2179]

/-- Rotate right. -/
def rot (x : W) (n : Nat) : W := x.rotateRight n

/-- The next word of the schedule from the last 16, newest first. -/
def schedule : List W → W
  | l =>
    let w (k : Nat) : W := l.getD (k - 1) 0
    let s0 := rot (w 15) 1 ^^^ rot (w 15) 8 ^^^ (w 15 >>> 7)
    let s1 := rot (w 2) 19 ^^^ rot (w 2) 61 ^^^ (w 2 >>> 6)
    w 16 + s0 + w 7 + s1

/-- The schedule: n further words, newest first. -/
def extend : Nat → List W → List W
  | 0, l => l
  | n + 1, l => extend n (schedule l :: l)

/-- The working variables. -/
structure Vars where
  a : W
  b : W
  c : W
  d : W
  e : W
  f : W
  g : W
  h : W

/-- One round. -/
def round (v : Vars) (kw : W × W) : Vars :=
  let t1 := v.h + (rot v.e 14 ^^^ rot v.e 18 ^^^ rot v.e 41) + ((v.e &&& v.f) ^^^ (~~~v.e &&& v.g)) + kw.1 + kw.2
  let t2 := (rot v.a 28 ^^^ rot v.a 34 ^^^ rot v.a 39) + ((v.a &&& v.b) ^^^ (v.a &&& v.c) ^^^ (v.b &&& v.c))
  ⟨t1 + t2, v.a, v.b, v.c, v.d + t1, v.e, v.f, v.g⟩

/-- The big-endian number of bytes. -/
def beNat (bs : List Byte) : Nat := bs.foldl (fun n b => n * 256 + b.toNat) 0

/-- The n big-endian bytes of a number. -/
def beBytes (n v : Nat) : List Byte := (leBytes n v).reverse

/-- The words of a block, n of 8 bytes. -/
def words : Nat → List Byte → List W
  | 0, _ => []
  | n + 1, bs => BitVec.ofNat 64 (beNat (bs.take 8)) :: words n (bs.drop 8)

/-- One block of 128 bytes. -/
def block (h : List W) (bs : List Byte) : List W :=
  let ws := (extend 64 (words 16 bs).reverse).reverse
  let g (k : Nat) : W := h.getD k 0
  let v := (ks.zip ws).foldl round ⟨g 0, g 1, g 2, g 3, g 4, g 5, g 6, g 7⟩
  [g 0 + v.a, g 1 + v.b, g 2 + v.c, g 3 + v.d, g 4 + v.e, g 5 + v.f, g 6 + v.g, g 7 + v.h]

/-- n blocks. -/
def blocks : Nat → List W → List Byte → List W
  | 0, h, _ => h
  | n + 1, h, bs => blocks n (block h (bs.take 128)) (bs.drop 128)

/-- The padded message. -/
def pad (m : List Byte) : List Byte :=
  let zeros := (240 - (m.length + 1) % 128) % 128
  m ++ [0x80] ++ List.replicate zeros 0 ++ beBytes 16 (8 * m.length)

/-- The digest's words, most significant first. -/
def hash (m : List Byte) : List W :=
  let p := pad m
  blocks (p.length / 128) h0 p

/-- Bits [511:448] of the digest. -/
def top64 (m : List Byte) : Nat := ((hash m).headD 0).toNat

end Sys2Proof.Sha512
end

