-- ==== Sys2Proof/Machine/Graphs.lean ====
section
/-! DEFINITION. Resident graphs: the graph store, loading, node instances, conditions, the end of a run (R139-R143). -/

namespace Sys2Proof.Machine

/-! ## The store -/

/-- GRAPH_STORE_BASE_WRITE: ignored and counted while a slot is not empty; held to 127 (R139); behind the set-up lock ignored and
counted (R14). -/
def execGraphStoreBaseWrite (w : BarAcc) (s : State) : Res :=
  .next <| s.onWrite .HUB_GRAPH_STORE 0 w fun _ =>
    if !w.touches F.HUB_GRAPH_STORE_base_mib then s
    else if s.setupLocked then s.blockedWrite
    else if s.graphs.any fun g => g.2.held then s.badAccess
    else s.put F.HUB_GRAPH_STORE_base_mib (min 127 (w.merge F.HUB_GRAPH_STORE_base_mib (s.get F.HUB_GRAPH_STORE_base_mib 0))) 0

/-- Places of the store that no slot holds, ascending (log entry 27). -/
def State.freePlaces (s : State) : List Nat :=
  let used := s.graphs.flatMap fun g => if g.2.held then g.2.places else []
  (List.range 16384).filter fun n => !used.contains n

/-! ## Validation (R140) -/

/-- Whether a graph header is good (Table 5.15). -/
def graphHeaderOk (h : List Byte) : Bool :=
  fieldAt h 0 2 == 1 && decide (1 ≤ fieldAt h 2 2) && decide (fieldAt h 2 2 ≤ 1024) && fieldAt h 4 4 != 0 && zeroAt h 8 56

/-- Whether a CONDITION payload is good (Table 5.17). -/
def conditionOk (flag : Bool) (p : List Byte) : Bool :=
  (flag || fieldAt p 0 8 % 8 == 0) && decide (fieldAt p 24 1 ≤ 3) && decide (fieldAt p 25 1 ≤ 2) && decide (fieldAt p 26 1 ≤ 2) &&
  zeroAt p 27 5

/-- Whether a graph node is good under a context (Table 5.16, R118, R193, R194). -/
def Ctx.nodeOk (c : Ctx) (n : List Byte) : Bool :=
  let kind := fieldAt n 0 1
  let obj (o : Nat) : Bool := o == 0xFFFFFFFF || c.maySync o
  let p := n.drop 32
  decide (fieldAt n 1 1 ≤ 1) && fieldAt n 2 2 == 0 && obj (fieldAt n 4 4) && obj (fieldAt n 16 4) &&
  (if kind = 1 then (launchFormat p).isNone
   else if kind = 2 then (copyFormat false p).isNone
   else if kind = 3 then c.fabric && (colFormat p).isNone
   else if kind = 4 then c.fabric && (fabFormat p).isNone
   else if kind = 5 then conditionOk (bitAt (fieldAt n 1 1) 0) p
   else kind == 6)

/-- The nodes of an image: 64 bytes each. -/
def imageNodes (bs : List Byte) (n : Nat) : List (List Byte) := chunk64 bs n

/-! ## Runs -/

/-- Show a slot in HUB_GRAPH_STAT: 0 empty, 1 resident, 2 running, 3 ending. -/
def State.showGraph (s : State) (g : Nat) : State :=
  let x := s.graph g
  let st := if !x.held then 0 else if x.work.isNone then 1 else if x.ending then 3 else 2
  let s := s.put F.HUB_GRAPH_STAT_state st g
  if x.work.isSome then s.put F.HUB_GRAPH_STAT_iteration x.iter g else s

/-- Record the status of a run or load and the node it names. -/
def State.graphStatus (s : State) (g : Nat) (st : Status) (node : Nat) : State :=
  (s.put F.HUB_GRAPH_STAT_last_status st.code g).put F.HUB_GRAPH_STAT_node (if st = .ok then 0 else node) g

/-- The status of a run whose instances are all gone, with its node (R143). -/
def GSlot.outcome (x : GSlot) : Status × Nat :=
  match x.fail with
  | some f => (f.1, f.2.1)
  | none => (if x.corrected then .okCorrected else .ok, 0)

/-- End a run with no instance left: the slot stays resident (R143). -/
def State.settleGraph (s : State) (g : Nat) : State :=
  let x := s.graph g
  match x.work with
  | none => s
  | some w =>
    if !x.insts.isEmpty then s.showGraph g
    else
      let r := x.outcome
      let s := s.setGraph g { x with work := none, ending := false }
      let s := match x.fail with | some f => s.put F.HUB_GRAPH_STAT_iteration f.2.2 g | none => s
      (((s.graphStatus g r.1 r.2).showGraph g).finish w r.1 (if r.1.good then 0 else r.2)).engRelease 25 x.ctxId

/-- END: the graph arms nothing more, and armed instances that have not been dispatched are cancelled (R142). -/
def GSlot.stop (x : GSlot) : GSlot := { x with ending := true, insts := x.insts.filter fun i => i.phase != .fetched }

/-- The first status that ends the run stays. -/
def GSlot.failWith (x : GSlot) (st : Status) (node iter : Nat) : GSlot :=
  if x.fail.isSome then x else { x with fail := some (st, node, iter) }

/-- Start a run of a resident graph from iteration 0 (R141). -/
def State.runGraph (s : State) (g : Nat) (work : Work) (it : Item) : State :=
  let x := s.graph g
  let s := s.setGraph g { x with
    iter := 0, garg := fieldAt it.payload 8 8, ending := false, corrected := false, work := some work, ctxId := it.ctxId, ctx := it.ctx
    insts := (List.range x.nodes).map fun n => { node := n, iter := 0 }, fail := none, fetch := none }
  (((s.begin_ work).engTake 25 it.ctxId)).showGraph g

/-- A load that fails validation: E_FORMAT, the slot empty (R140). -/
def State.graphRefused (s : State) (g : Nat) (work : Work) (st : Status) (node : Nat) : State :=
  (((s.setGraph g {}).graphStatus g st node).showGraph g).finish work st node

/-- Ask another device for the first n bytes of slot g's image (R140, R223). -/
def State.fetchGraph (s : State) (g : Nat) (work : Work) (since image n node off key : Nat) : State :=
  let f : GraphFetch := { op := s.fab.nextOp, work := work, since := since, image := image, len := n }
  (s.setGraph g { s.graph g with fetch := some f }).addOp
    { id := 0, origin := .graph g, code := 1, node := node, off := off, key := key, len := n }

/-- The first n bytes of a graph's image for slot g, or the state that waits for them: memory that is being filled, or the answer of the
board window, of which an excluded node's is all poison (R140, R223). -/
def State.graphImage (s : State) (g : Nat) (work : Work) (since image n : Nat) : Except State ReadOut :=
  match s.memEnd image n with
  | .here (.mem a) => if s.memHeld a n then .error s else .ok (s.memRead a n)
  | .remote node off key =>
    if s.excludedNode node then .ok ⟨List.replicate n 0, [true]⟩
    else
      match (s.graph g).fetch with
      | some f =>
        if f.work ≠ work ∨ f.since ≠ since ∨ f.image ≠ image ∨ f.len < n then .error (s.fetchGraph g work since image n node off key)
        else match f.data with
          | none => .error s
          | some d => .ok ⟨d.1.take n, [d.2]⟩
      | none => .error (s.fetchGraph g work since image n node off key)
  | _ => .error s

/-- Load an image whose header is h into slot g, then run it (R140). -/
def State.loadGraph (s : State) (g : Nat) (work : Work) (it : Item) (h : List Byte) : State :=
  let image := fieldAt it.payload 0 6
  let n := fieldAt h 2 2
  if !s.copyEndOk it.ctx 0 image (64 * (n + 1)) false then (s.graphStatus g .eBounds 0).finish work .eBounds 0
  else match s.graphImage g work it.since image (64 * (n + 1)) with
  | .error s => s
  | .ok body =>
    if body.poisoned then s.graphRefused g work .ePoison 0
    else
      let nodes := imageNodes (body.bytes.drop 64) n
      match nodes.zipIdx.find? fun p => !it.ctx.nodeOk p.1 with
      | some p => s.graphRefused g work .eFormat p.2
      | none =>
        let places := s.freePlaces.take n
        if places.length < n then (s.graphStatus g .eBounds 0).finish work .eBounds 0
        else
          let store := s.graphStore
          let s := (nodes.zip places).foldl (fun s p => s.setHub (s.hubsp.write (store + p.2 * 64) p.1)) s
          (s.setGraph g { held := true, image := image, nodes := n, places := places, iterLimit := fieldAt h 4 4 }).runGraph g work it

/-- EXEC_GRAPH: load if needed, then run; while the slot runs the descriptor waits (R140). -/
def execExecGraph (work : Work) (s : State) : Res :=
  .next <|
    match s.fresh work 0x02 with
    | none => s
    | some it =>
      let b := it.payload
      let image := fieldAt b 0 6
      let g := fieldAt b 6 1
      if image % 64 ≠ 0 then s.finish work .eFormat 32
      else if 64 ≤ g then s.finish work .eFormat 38
      else if 2 ≤ fieldAt b 7 1 then s.finish work .eFormat 39
      else
        let x := s.graph g
        if x.work.isSome || s.quiescing || s.stopActive then s
        else if !s.copyEndOk it.ctx 0 image 64 false then (s.graphStatus g .eBounds 0).finish work .eBounds 0
        else match s.graphImage g work it.since image 64 with
        | .error s => s
        | .ok h =>
          if h.poisoned then s.graphRefused g work .ePoison 0
          else if !graphHeaderOk h.bytes then s.graphRefused g work .eFormat 0
          else if x.held && x.image == image && x.nodes == fieldAt h.bytes 2 2 && fieldAt b 7 1 == 0 then s.runGraph g work it
          else s.loadGraph g work it h.bytes

/-! ## Node instances (R141, R142) -/

/-- The instance of a node that may become ready: the lowest armed one, with no other instance of the node unfinished before it. -/
def GSlot.candidate (x : GSlot) (node : Nat) : Option GInst :=
  match (x.insts.filter fun i => i.node == node) with
  | [] => none
  | i :: is =>
    let low := is.foldl (fun b j => if j.iter < b.iter then j else b) i
    if low.phase = .fetched then some low else none

/-- Whether a condition holds: 0 eq, 1 ne, 2 ltu, 3 geu (Table 5.17). -/
def condHolds (cmp v c : Nat) : Bool :=
  if cmp = 0 then v == c else if cmp = 1 then v != c else if cmp = 2 then decide (v < c) else decide (c ≤ v)

/-- What a CONDITION node does with its slot: 0 CONTINUE, 1 NEXT, 2 END (R142). -/
def GSlot.act (x : GSlot) (action node iter : Nat) : GSlot :=
  if action = 2 then x.stop
  else if action ≠ 1 ∨ x.ending ∨ x.iter ≠ iter then x
  else if x.iterLimit ≤ iter + 1 then x.stop.failWith .eTimeout node iter
  else { x with iter := iter + 1, insts := x.insts ++ (List.range x.nodes).map fun n => { node := n, iter := iter + 1 } }

/-- Evaluate a CONDITION instance: its operand, its action, its end. -/
def State.condition (s : State) (g : Nat) (i : GInst) (n : List Byte) : State :=
  let x := s.graph g
  let p := n.drop 32
  let fromIter := bitAt (fieldAt n 1 1) 0
  let a := fieldAt p 0 8
  let end_ (st : Status) : State :=
    s.setGraph g (x.upd i.node i.iter fun v => { v with phase := .ended, result := some ⟨st, 0⟩ })
  if !fromIter ∧ !x.ctx.mayHub a 8 then end_ .eBounds
  else if !fromIter ∧ s.hubsp.anyBad a 8 then end_ .ePoison
  else
    let v := (if fromIter then i.iter else leNat (s.hubsp.read a 8)) &&& fieldAt p 8 8
    let action := if condHolds (fieldAt p 24 1) v (fieldAt p 16 8) then fieldAt p 25 1 else fieldAt p 26 1
    let s := end_ .ok
    (s.setGraph g ((s.graph g).act action i.node i.iter)).showGraph g

/-- GRAPH_NODE_READY: an armed instance whose object holds its value is dispatched; a CONDITION is evaluated, a SIGNAL is done
(R141, R142). -/
def execGraphNodeReady (g : Fin 64) (node : Fin 1024) (s : State) : Res :=
  .next <|
    let x := s.graph g
    match x.work, x.candidate node with
    | some _, some i =>
      let n := s.nodeBytes g node
      let obj := fieldAt n 4 4
      let want := (fieldAt n 8 8 + i.iter * fieldAt n 20 4) % 2 ^ 64
      if s.quiescing || s.stopActive || s.unitFrozen 0x30 || (obj != 0xFFFFFFFF && decide (s.syncVal obj < want)) then s
      else
        let s := s.engAdvance 25 1
        let kind := fieldAt n 0 1
        if kind = 5 then s.condition g i n
        else if kind = 6 then
          s.setGraph g (x.upd node i.iter fun v => { v with phase := .ended, result := some ⟨.ok, 0⟩ })
        else s.setGraph g (x.upd node i.iter fun v => { v with phase := .dispatched })
    | _, _ => s

/-- GRAPH_NODE_COMPLETE: an instance whose work has ended signals and goes; a status that is not OK ends the run (R141, R143). -/
def execGraphNodeComplete (g : Fin 64) (node : Fin 1024) (s : State) : Res :=
  .next <|
    let x := s.graph g
    match x.insts.find? fun i => i.node == node.val && i.phase == .ended with
    | none => s
    | some i =>
      let st := (i.result.map fun r => r.status).getD .ok
      let x := { x with insts := x.insts.filter fun j => !(j.node == i.node && j.iter == i.iter) }
      let x := if st.good then { x with corrected := x.corrected || st == .okCorrected } else x.stop.failWith st i.node i.iter
      let n := s.nodeBytes g node
      let s := s.setGraph g x
      let s := if fieldAt n 16 4 = 0xFFFFFFFF then s else s.syncAdd (fieldAt n 16 4) (fieldAt n 24 8)
      s.settleGraph g

end Sys2Proof.Machine
end

