-- ==== Sys2Proof/Machine/Monitors.lean ====
section
/-! DEFINITION. Monitor units, margin records, the error log, the management endpoint, firmware update, anti-rollback and the SPDM
responder (R393-R413). -/

namespace Sys2Proof.Machine

/-! ## Monitor units (R394-R399) -/

def State.monUnit (s : State) (u : Nat) : Mon := SMap.get {} s.mon u
def State.setMonUnit (s : State) (u : Nat) (m : Mon) : State := { s with mon := SMap.set {} s.mon u m }

/-- Whether unit u takes samples. -/
def State.monOn (s : State) (u : Nat) : Bool := s.isSet F.TEL_MON_CFG_en u

/-- The unit's window in ns. -/
def State.monWindow (s : State) (u : Nat) : Nat := s.get F.TEL_MON_CFG_window_us u * 1000

/-- Move the accumulators into the read bank, advance seq, begin the next window at time t (R397). -/
def State.monEnd (s : State) (u t : Nat) (isPartial : Bool) : State :=
  let m := s.monUnit u
  let s := s.put F.TEL_MON_STAT_seq (s.get F.TEL_MON_STAT_seq u + 1) u
  let s := (s.put F.TEL_MON_STAT_count m.count u).putB F.TEL_MON_STAT_saturated m.saturated u
  let s := s.putB F.TEL_MON_STAT_partial (isPartial || m.cut) u
  let s := (s.putI F.TEL_MON_MINMAX_min m.min u).putI F.TEL_MON_MINMAX_max m.max u
  let s := s.putI F.TEL_MON_SUM_sum m.sum u
  let s := (List.range 32).foldl (fun s b => s.put F.TEL_MON_HIST_count (SMap.get 0 m.hist b) (32 * u + b)) s
  s.setMonUnit u { start := t, skipped := m.skipped }

/-- End the windows that have run out by now; two or more leave empty ones in between. -/
def State.monDue (s : State) (u : Nat) : State :=
  let w := s.monWindow u
  let m := s.monUnit u
  let n := (s.time - m.start) / w
  if w = 0 ∨ n = 0 then s
  else
    let s := s.monEnd u (m.start + w) false
    if n = 1 then s
    else
      let s := s.put F.TEL_MON_STAT_seq (s.get F.TEL_MON_STAT_seq u + (n - 2)) u
      s.monEnd u (m.start + n * w) false

/-- The histogram bin of a sample (R396). -/
def State.monBin (s : State) (u : Nat) (v : Int) : Nat :=
  let lo := s.getI F.TEL_MON_CFG_lo u
  let sh := s.get F.TEL_MON_CFG_shift u
  if s.isSet F.TEL_MON_CFG_log2 u then
    let x := (max (v - lo) 0).toNat
    if x < 2 ^ sh then 0 else min 31 (Nat.log2 (x / 2 ^ sh) + 1)
  else (max 0 (min 31 ((v - lo) / (2 ^ sh : Nat)))).toNat

/-- Saturate at 64 signed bits: the value, and whether it was held. -/
def satInt64 (v : Int) : Int × Bool :=
  if v < -(2 ^ 63 : Int) then (-(2 ^ 63 : Int), true) else if (2 ^ 63 : Int) ≤ v then ((2 ^ 63 : Int) - 1, true) else (v, false)

/-- A sample that the unit takes (R395). -/
def State.monTake (s : State) (u : Nat) (v : Int) : State :=
  let m := s.monUnit u
  let b := s.monBin u v
  let sum := satInt64 (m.sum + v)
  s.setMonUnit u
    { m with min := min m.min v, max := max m.max v, count := min (m.count + 1) (2 ^ 32 - 1), sum := sum.1
             hist := SMap.set 0 m.hist b (min (SMap.get 0 m.hist b + 1) (2 ^ 32 - 1))
             saturated := m.saturated || sum.2 || decide (2 ^ 32 - 1 ≤ m.count) }

/-- The alarm of a window (R398). -/
def State.monAlarm (s : State) (u : Nat) (v : Int) : State :=
  let m := s.monUnit u
  if s.isSet F.TEL_MON_CFG_alarm_en u && !m.alarmed && decide (s.getI F.TEL_MON_CFG_limit u ≤ v) then
    (((s.setMonUnit u { m with alarmed := true }).put F.TEL_MON_STAT_alarm_evt 1 u).logEvent 0x0012 u [unsigned 64 v]).pldm
      (.monitorAlarm u v)
  else s

/-- MONITOR_SAMPLE: a probe delivers a sample to unit u (R393, R395, R396, R398); from takeover to handover none is taken (R399). -/
def execMonitorSample (u : Fin 128) (v : BitVec 32) (s : State) : Res :=
  .next <|
    if !s.monOn u || s.rst.keepers then s
    else
      let s := s.monDue u
      let m := s.monUnit u
      let n := m.skipped + 1
      if n < 2 ^ s.get F.TEL_MON_CFG_decimate u then s.setMonUnit u { m with skipped := n }
      else ((s.setMonUnit u { m with skipped := 0 }).monTake u v.toInt).monAlarm u v.toInt

/-- MONITOR_WINDOW_END (R397). -/
def execMonitorWindowEnd (u : Fin 128) (s : State) : Res := .next <| if s.monOn u && !s.rst.keepers then (s.due ((s.monUnit u).start + s.monWindow u)).monDue u else s

/-- A unit whose live configuration has changed: the window ends as partial, the new one starts with seq 0 (R394). -/
def State.monSwitch (s : State) (u : Nat) : State :=
  let s := if s.monOn u then s.monEnd u s.time true else s
  (s.setMonUnit u { start := s.time }).put F.TEL_MON_STAT_seq 0 u

/-- A chip reset clears read banks and accumulators (R399). -/
def State.monReset (s : State) : State :=
  { s with mon := [], regs := SMap.drop s.regs fun k =>
      ((RegName.TEL_MON_STAT.fields ++ RegName.TEL_MON_MINMAX.fields ++ RegName.TEL_MON_SUM.fields ++ RegName.TEL_MON_HIST.fields).any
        fun f => k % 1024 == f.code) }

/-- Enabled units start a partial window at the handover (R399). -/
def State.monStart (s : State) : State :=
  (List.range 128).foldl (fun s u => if s.monOn u then s.setMonUnit u { start := s.time, cut := true } else s) s

/-! ## Margins (R400, R402) -/

/-- Where the margin of a kind, unit and sub-index stands. -/
def marginKey (kind unit sub : Nat) : Nat := (kind * 65536 + unit) * 512 + sub

/-- The period of a margin measurement in ns (Table 14.7); a spare channel is measured every hour. -/
def State.marginPeriod (s : State) (kind unit : Nat) : Nat :=
  let hour := 3600000000000
  if kind = 1 ∨ kind = 2 then (if s.get F.MEM_CH_STAT_state unit = 0 then hour else 24 * hour)
  else if kind = 3 then 1000000000
  else if kind = 5 then 1000
  else if kind = 6 then hour
  else 1000000

/-- A measurement of severity sev, with its value and the thresholds of its kind: recorded when it first falls into a worse severity,
once an hour while it stays, and as recovered after a whole period at or above the warning (R402). -/
def State.marginAt (s : State) (kind unit sub : Nat) (value warn floor : Int) (sev : Nat) : State :=
  let k := marginKey kind unit sub
  let m := SMap.get {} s.margins k
  let set (s : State) (m : Margin) : State := { s with margins := SMap.set {} s.margins k m }
  let rec_ (s : State) (sev : Nat) (th : Int) : State := s.logPut (.margin kind sev unit sub value th)
  if sev = 0 then
    if m.severity = 0 then s
    else
      let since := m.okSince.getD s.time
      if since + s.marginPeriod kind unit ≤ s.time then rec_ (set s {}) 3 warn
      else set s { m with okSince := some since }
  else if m.severity < sev ∨ m.recorded + 3600000000000 ≤ s.time then
    let s := rec_ (set s { severity := sev, recorded := s.time }) sev (if sev = 2 then floor else warn)
    if sev = 2 then s.pldm (.marginFloor kind unit sub) else s
  else set s { m with severity := sev, okSince := none }

/-- The warning level and the floor of a margin kind (Table 14.7). -/
def State.marginLimits (s : State) (kind : MarginKind) (unit : Nat) : Int × Int :=
  match kind with
  | .dramV => (40, 20)
  | .dramT => (20, 10)
  | .d2dEye => (12, 8)
  | .optRx => (100, 0)
  | .heater => (51, 0)
  | .laserTrend => (90, 30)
  | .coreSlack =>
    let mhz := if unit < 4 then s.get F.HUB_ARRAY_CLK_current_mhz unit else if unit = 4 then 2400 else 2000
    if mhz = 0 then (0, 0) else (ceilDiv 50000 mhz, ceilDiv 20000 mhz)

/-- A margin measured against the levels of its kind. -/
def State.marginSample (s : State) (kind : MarginKind) (unit sub : Nat) (value : Int) : State :=
  let l := s.marginLimits kind unit
  s.marginAt kind.code unit sub value l.1 l.2 (if value < l.2 then 2 else if value < l.1 then 1 else 0)

/-! ## The error log (R403) -/

/-- Bytes of an integer, two's complement, little-endian. -/
def intBytes (n : Nat) (v : Int) : List Byte := leBytes n (unsigned (8 * n) v)

/-- The record of a log entry (Tables 6.7, 14.8, and a device event). -/
def LogEntry.record (e : LogEntry) : List Byte :=
  let head := leBytes 8 e.time ++ leBytes 8 e.cal.word ++ leBytes 2 e.epoch
  match e.body with
  | .mem m =>
    head ++ leBytes 1 m.event ++ leBytes 1 m.stack ++ leBytes 1 m.channel ++ leBytes 1 m.physical ++ leBytes 1 m.bank ++
    leBytes 1 m.channel2 ++ leBytes 4 m.first ++ leBytes 4 m.last
  | .margin kind sev unit sub value th =>
    head ++ leBytes 1 kind ++ leBytes 1 sev ++ leBytes 2 unit ++ leBytes 2 sub ++ intBytes 4 value ++ intBytes 4 th
  | .event code unit args => head ++ leBytes 2 code ++ leBytes 2 unit ++ leBytes 2 0 ++ (args.flatMap (leBytes 8)).take 32

/-- The 64 bytes of a log entry (Table 14.9). -/
def LogEntry.bytes (e : LogEntry) : List Byte :=
  let src := match e.body with | .mem _ => 1 | .margin .. => 2 | .event .. => 3
  let r := e.record
  let b := leBytes 1 src ++ leBytes 1 (max 32 r.length) ++ leBytes 2 0 ++ leBytes 4 e.seq ++ r
  b ++ List.replicate (64 - b.length) 0

/-- The entry with a sequence number, where the log holds it. -/
def ErrorLog.find (l : ErrorLog) (seq : Nat) : Option LogEntry := (l.staged ++ l.flash).find? fun e => e.seq == seq

/-- Present the selected entry in TEL_LOG_DATA. -/
def State.showLog (s : State) : State :=
  let b := match s.log.find (s.get F.TEL_LOG_SEL_seq 0) with
    | some e => e.bytes
    | none => List.replicate 64 0
  (List.range 8).foldl (fun s i => s.put F.TEL_LOG_DATA_data (fieldAt b (8 * i) 8) i) s

/-- Entries a flash ring of 46 MiB holds. -/
def logRing : Nat := 753664

/-- Move staged entries to flash; the oldest beyond the ring are overwritten. -/
def State.logToFlash (s : State) : State :=
  let l := s.log.flash ++ s.log.staged
  let s := { s with log := { s.log with staged := [], flash := l.drop (l.length - logRing) } }
  (s.put F.TEL_LOG_STAT_held 0 0).showLog

/-- LOG_FLUSH: staged entries reach the flash ring; writes of the persistent remap list go first (R403). -/
def execLogFlush (s : State) : Res := .next <| if s.mem.remapToWrite.isEmpty && s.boot.island then s.logToFlash else s

/-- LOG_SELECT_WRITE (R403, Table 14.12). -/
def execLogSelectWrite (w : BarAcc) (s : State) : Res :=
  .next <| s.onWrite .TEL_LOG_SEL 0 w fun _ => (s.put F.TEL_LOG_SEL_seq (w.merge F.TEL_LOG_SEL_seq (s.get F.TEL_LOG_SEL_seq 0)) 0).showLog

/-! ## Management over I3C (R404, R405) -/

/-- Whether the management endpoint answers: from bring-up step 2 on. -/
def State.mgmtUp (s : State) : Bool := s.boot.island

/-- Whether the hub ROM answers in the firmware's place (R404). -/
def State.romServes (s : State) : Bool :=
  !s.mgmt.verified ||
  (s.boot.phase == .hold && (s.get F.HUB_BOOT_STATUS_cause 0 == 3 || s.get F.HUB_BOOT_STATUS_cause 0 == 4))

/-- The answer for a PLDM item. Boot status: the image of HUB_BOOT_STATUS and every recorded failure (R31, log entry 28). -/
def State.pldmItem (s : State) : PldmItem → Out
  | .bootStatus => .pldmBoot (s.regImage .HUB_BOOT_STATUS 0) (s.boot.record.map fun f => (f.cause, f.unit))
  | .temperature i => if i < 25 then .pldmValue (s.getI F.THM_TEMP_temp i) else .pldmRefused
  | .feedVolts f => .pldmValue (s.get (match f with | .A => F.PWR_FEED_STAT_feed_a | .B => F.PWR_FEED_STAT_feed_b) 0)
  | .powerMeas => .pldmValue (s.get F.PWR_STAT_measured_w 0)
  | .powerEst => .pldmValue (s.get F.PWR_STAT_estimate_w 0)

/-- Whether the ROM serves an item. -/
def PldmItem.rom : PldmItem → Bool
  | .bootStatus => true
  | _ => false

/-- PLDM_SENSOR_READ (R404, R405). -/
def execPldmSensorRead (item : PldmItem) (s : State) : Res :=
  .next <|
    if !s.mgmtUp then s
    else s.emit (if s.romServes && !item.rom then .pldmRefused else s.pldmItem item)

/-! ## Firmware and anti-rollback (R406, R407, R411-R413) -/

/-- The active slot: 0 A, 1 B. -/
def State.activeSlot (s : State) : Nat := s.get F.SEC_FW_STAT_active 0
def State.otherSlot (s : State) : Nat := 1 - s.activeSlot

/-- sv of a slot. -/
def State.slotSv (s : State) (k : Nat) : Nat := s.get (if k = 0 then F.SEC_FW_STAT_sv_a else F.SEC_FW_STAT_sv_b) 0
def State.setSlotSv (s : State) (k v : Nat) : State := s.put (if k = 0 then F.SEC_FW_STAT_sv_a else F.SEC_FW_STAT_sv_b) v 0

/-- Whether a slot is valid. -/
def State.slotValid (s : State) (k : Nat) : Bool := bitAt (s.get F.SEC_FW_STAT_valid 0) k
def State.setSlotValid (s : State) (k : Nat) (b : Bool) : State :=
  let other := b2n (s.slotValid (1 - k)) * 2 ^ (1 - k)
  s.put F.SEC_FW_STAT_valid (other + b2n b * 2 ^ k) 0

/-- The fused count f. -/
def State.fused (s : State) : Nat := s.get F.SEC_ROLLBACK_CTRL_count 0

/-- Measurement 3: sv of each slot, active slot, pending activation, f (R408). -/
def State.measureFw (s : State) : State :=
  s.measure 3 [s.slotSv 0, s.slotSv 1, s.activeSlot, s.get F.SEC_FW_STAT_pending 0, s.fused]

/-- FW_UPDATE with the slot and the sv of each slot; what: 0 start, 1 verified, 2 failed, 3 activation, 4 cancellation, 5 slot
selection (R413). -/
def State.logFw (s : State) (slot what : Nat) : State := s.logEvent 0x0013 0 [slot, s.slotSv 0, s.slotSv 1, what]

/-- FW_UPDATE_TRANSFER: bytes of an image reach the slot that is not active; sv: the security version its header holds (R411-R413). -/
def execFwUpdateTransfer (bytes : Nat) (sv : Fin 65) (last : Bool) (s : State) : Res :=
  .next <|
    if !s.mgmtUp then s
    else
      let k := s.otherSlot
      let go (s : State) : State :=
        let n := s.mgmt.fwBytes + bytes
        if 2 ^ 25 < n then s.emit .pldmRefused
        else
          let s := { s with mgmt := { s.mgmt with fwBytes := n, fw := if last then .written else .transferring } }
          if last then (s.setSlotSv k sv).measureFw else s
      match s.mgmt.fw with
      | .idle =>
        let s := { s with mgmt := { s.mgmt with fwBytes := 0 } }
        go (((s.setSlotValid k false).put F.SEC_FW_STAT_updating 1 0).logFw k 0)
      | .transferring => go s
      | _ => s.emit .pldmRefused

/-- FW_VERIFY: checks 1 to 3 of R406 on the written slot (R411). -/
def execFwVerify (keyOk sigOk : Bool) (s : State) : Res :=
  .next <|
    if !s.mgmtUp ∨ s.mgmt.fw ≠ .written then s
    else
      let k := s.otherSlot
      if keyOk && sigOk && decide (s.fused ≤ s.slotSv k) then
        (({ s with mgmt := { s.mgmt with fw := .verified } }).setSlotValid k true).logFw k 1
      else
        (({ s with mgmt := { s.mgmt with fw := .idle } }.setSlotValid k false).put F.SEC_FW_STAT_updating 0 0).logFw k 2

/-- Mark the other slot pending: it becomes active at the next power cycle. -/
def State.markPending (s : State) (what : Nat) : State := ((s.put F.SEC_FW_STAT_pending 1 0).measureFw).logFw s.otherSlot what

/-- ACTIVATE_FIRMWARE (R407, R411). -/
def execActivateFirmware (s : State) : Res :=
  .next <|
    if !s.mgmtUp then s
    else if s.mgmt.fw = .verified ∧ s.fused ≤ s.slotSv s.otherSlot then
      (({ s with mgmt := { s.mgmt with fw := .idle } }).put F.SEC_FW_STAT_updating 0 0).markPending 3
    else s.emit .pldmRefused

/-- FIRMWARE_SLOT_SELECT: in any state, when the other slot is valid and its sv is at least f (R411). -/
def execFirmwareSlotSelect (s : State) : Res :=
  .next <|
    if !s.mgmtUp then s
    else if s.slotValid s.otherSlot && decide (s.fused ≤ s.slotSv s.otherSlot) then s.markPending 5
    else s.emit .pldmRefused

/-- A power loss or chip reset during a transfer cancels it and marks the written slot invalid (R412). -/
def State.cancelUpdate (s : State) : State :=
  match s.mgmt.fw with
  | .transferring =>
    (({ s with mgmt := { s.mgmt with fw := .idle } }.setSlotValid s.otherSlot false).put F.SEC_FW_STAT_updating 0 0).logFw s.otherSlot 4
  | _ => s

/-- Whether an advance to v may be asked for (R407). -/
def State.mayAdvance (s : State) (v : Nat) : Bool :=
  s.boot.phase == .ready && s.mgmt.advance.isNone && decide (s.fused < v) && decide (v ≤ s.slotSv s.activeSlot)

/-- Begin an advance of the fused count. -/
def State.beginAdvance (s : State) (v : Nat) : State :=
  { s with mgmt := { s.mgmt with advance := some v } }.put F.SEC_ROLLBACK_CTRL_busy 1 0

/-- ROLLBACK_ADVANCE: through the rollback effecter (R407). -/
def execRollbackAdvance (v : Nat) (s : State) : Res :=
  .next <| if !s.mgmtUp then s else if s.mayAdvance v then s.beginAdvance v else s.emit .pldmRefused

/-- ROLLBACK_CTRL_WRITE: through SEC_ROLLBACK_CTRL from the PF (R407). -/
def execRollbackCtrlWrite (w : BarAcc) (s : State) : Res :=
  .next <| s.onWrite .SEC_ROLLBACK_CTRL 0 w fun _ =>
    if w.touches F.SEC_ROLLBACK_CTRL_target && s.mayAdvance (w.bits F.SEC_ROLLBACK_CTRL_target) then
      s.beginAdvance (w.bits F.SEC_ROLLBACK_CTRL_target)
    else s

/-- FUSE_STEP_DONE: one fuse is blown; the last ends the advance (R407). -/
def execFuseStepDone (s : State) : Res :=
  .next <|
    match s.mgmt.advance with
    | none => s
    | some v =>
      let s := s.put F.SEC_ROLLBACK_CTRL_count (s.fused + 1) 0
      let s := if v ≤ s.fused then { s with mgmt := { s.mgmt with advance := none } }.put F.SEC_ROLLBACK_CTRL_busy 0 0 else s
      s.measureFw

/-! ## SPDM (R408, R410) -/

def State.spdmOf (s : State) : Transport → Spdm
  | .i3c => s.mgmt.mcu
  | .doe => s.mgmt.doe

def State.setSpdm (s : State) (t : Transport) (x : Spdm) : State :=
  match t with
  | .i3c => { s with mgmt := { s.mgmt with mcu := x } }
  | .doe => { s with mgmt := { s.mgmt with doe := x } }

/-- Whether a transport reaches the responder. -/
def State.spdmUp (s : State) : Transport → Bool
  | .i3c => s.mgmtUp
  | .doe => s.hubUp && s.host.up

/-- Answer a request: nothing where the transport is down, ERROR from the ROM or where ok fails, else the body, after f. -/
def State.spdm (s : State) (t : Transport) (r : SpdmReq) (ok : Bool) (body : List Nat) (f : Spdm → Spdm) : State :=
  if !s.spdmUp t then s
  else if s.romServes || !ok then s.emit (.spdmError t)
  else (s.setSpdm t (f (s.spdmOf t))).emit (.spdm t r body)

/-- Every measurement block: its index and its digest. -/
def State.measurements (s : State) : List Nat := s.mgmt.meas.flatMap fun m => [m.1, Config.spdmValue 5 m.2]

/-- Whether a session is established. -/
def Spdm.open_ (x : Spdm) (id : Nat) : Bool := x.sessions.contains (id, true)

/-- GET_VERSION: SPDM 1.2; negotiation starts anew (R410). -/
def execGetVersion (t : Transport) (s : State) : Res := .next <| s.spdm t .getVersion true [0x12] fun x => { x with stage := 1 }

/-- GET_CAPABILITIES (R410). -/
def execGetCapabilities (t : Transport) (s : State) : Res :=
  .next <| s.spdm t .getCapabilities (decide (1 ≤ (s.spdmOf t).stage)) [Config.spdmValue 1 []] fun x => { x with stage := max 2 x.stage }

/-- NEGOTIATE_ALGORITHMS (R410). -/
def execNegotiateAlgorithms (t : Transport) (s : State) : Res :=
  .next <| s.spdm t .negotiateAlgorithms (decide (2 ≤ (s.spdmOf t).stage)) [Config.spdmValue 2 []] fun x => { x with stage := 3 }

/-- GET_DIGESTS (R410). -/
def execGetDigests (t : Transport) (s : State) : Res :=
  .next <| s.spdm t .getDigests (decide (3 ≤ (s.spdmOf t).stage)) [Config.spdmValue 3 []] fun x => x

/-- GET_CERTIFICATE: slot 0's chain (R410). -/
def execGetCertificate (t : Transport) (s : State) : Res :=
  .next <| s.spdm t .getCertificate (decide (3 ≤ (s.spdmOf t).stage)) [Config.spdmValue 4 []] fun x => x

/-- CHALLENGE: a signature over the measurements (R410). -/
def execChallenge (t : Transport) (s : State) : Res :=
  .next <| s.spdm t .challenge (decide (3 ≤ (s.spdmOf t).stage)) [Config.spdmValue 6 s.measurements] fun x => x

/-- GET_MEASUREMENTS: the blocks of Table 14.15 and a signature over them (R408, R410). -/
def execGetMeasurements (t : Transport) (s : State) : Res :=
  .next <| s.spdm t .getMeasurements (decide (3 ≤ (s.spdmOf t).stage)) (s.measurements ++ [Config.spdmValue 6 s.measurements]) fun x => x

/-- KEY_EXCHANGE: one more session, up to 4 (R410). -/
def execKeyExchange (t : Transport) (s : State) : Res :=
  .next <|
    let x := s.spdmOf t
    s.spdm t .keyExchange (decide (3 ≤ x.stage) && decide (x.sessions.length < 4)) [x.nextId] fun x =>
      { x with sessions := x.sessions ++ [(x.nextId, false)], nextId := x.nextId + 1 }

/-- FINISH: the session is established (R410). -/
def execFinish (t : Transport) (session : Nat) (s : State) : Res :=
  .next <| s.spdm t .finish ((s.spdmOf t).sessions.contains (session, false)) [session] fun x =>
    { x with sessions := x.sessions.map fun e => if e.1 = session then (e.1, true) else e }

/-- HEARTBEAT (R410). -/
def execHeartbeat (t : Transport) (session : Nat) (s : State) : Res :=
  .next <| s.spdm t .heartbeat ((s.spdmOf t).open_ session) [session] fun x => x

/-- KEY_UPDATE (R410). -/
def execKeyUpdate (t : Transport) (session : Nat) (s : State) : Res :=
  .next <| s.spdm t .keyUpdate ((s.spdmOf t).open_ session) [session] fun x => x

/-- END_SESSION (R410). -/
def execEndSession (t : Transport) (session : Nat) (s : State) : Res :=
  .next <| s.spdm t .endSession ((s.spdmOf t).open_ session) [session] fun x =>
    { x with sessions := x.sessions.filter fun e => e.1 != session }

end Sys2Proof.Machine
end

