-- ==== Sys2Proof/Machine/Windows.lean ====
section
/-! DEFINITION. Window dies: rings and feedforward, link retry, lane maps and spares, alias recovery, loss location, training and port
states, dark waits (R246-R278). -/

namespace Sys2Proof.Machine

/-! ## Port registers -/

/-- WIN_PORT_STAT.state: 0 disabled or uncalibrated, 1 searching, 2 training, 3 up, 4 draining, 5 dark wait, 6 held. -/
def State.portState (s : State) (p : Nat) : Nat := s.get F.WIN_PORT_STAT_state p
def State.setPortState (s : State) (p v : Nat) : State := s.put F.WIN_PORT_STAT_state v p

/-- Count in WIN_EVT_CNT of port p. -/
def State.winCount (s : State) (p j n : Nat) : State := s.bump F.WIN_EVT_CNT_count n (16 * p + j)

/-- A link-level violation: counted in j, and noted for the flood rule (R277, R278). -/
def State.linkViolation (s : State) (p j : Nat) : State :=
  let v := s.port p
  (s.winCount p j 1).setPort p { v with viols := (s.time :: v.viols.filter fun t => decide (s.time < t + 1000000)).take 1025 }

def State.minWidth (s : State) (p : Nat) : Nat := s.get F.WIN_PORT_CFG_min_width p

/-- Lanes of a map in the stripe. -/
def mapWidth (m : List Nat) : Nat := (m.filter fun e => decide (e < 16)).length

/-- WIN_LANE_STAT.logical of a map entry. -/
def logicalCode (e : Nat) : Nat := if e < 16 then e else if e = 0xFE then 0x1E else 0x1F

/-- Show port p's receive map: logical lanes, width, spares in the stripe. -/
def State.showMap (s : State) (p : Nat) : State :=
  let m := (s.port p).rxMap
  let s := (List.range 18).foldl (fun s n => s.put F.WIN_LANE_STAT_logical (logicalCode (m.getD n 0xFF)) (18 * p + n)) s
  let spares := [0, 17].filter fun n => decide (m.getD n 0xFF < 16)
  (s.put F.WIN_PORT_STAT_width (mapWidth m) p).put F.WIN_PORT_STAT_spares_used spares.length p

/-! ## Hello bodies (R365, R366) -/

/-- The HELLO this end would send on port p now. -/
def State.helloBody (s : State) (p : Nat) : Hello :=
  let v := s.port p
  let assigned := s.isSet F.FAB_NODE_ID_assigned 0
  { shutter := s.isSet F.SEC_EXCL_STAT_shutter 0, job := s.isSet F.SEC_JOB_STAT_installed 0, ack := v.partner.isSome
    unassigned := !assigned, fwMajor := Config.fwMajor, fwMinor := Config.fwMinor, stepping := Config.stepping
    node := if assigned then s.ownNode else 0
    seen := match v.partner with | none => 0xFFFFFF | some h => if h.unassigned then 0xFFFFFF else h.node
    epoch := s.epoch, port := p, setId := s.boot.setId, exclGen := s.get F.SEC_EXCL_STAT_generation 0, digest := s.ownDigest
    calendar := s.calNow }

/-- Send a HELLO on port p. -/
def State.sendHello (s : State) (p : Nat) : State :=
  let h := s.helloBody p
  (s.setPort p { s.port p with lastBody := some h, lastHello := s.time }).tx p (.ctl p (.hello h))

/-- Ports that send hellos: up, draining, held, or at training step 7. -/
def State.helloPorts (s : State) : List Nat :=
  (List.range 64).filter fun p => s.portState p == 3 || s.portState p == 4 || s.portState p == 6 || (s.portState p == 2 && (s.port p).step == 7)

/-- Hellos on every such port: something that they carry has changed (R365). -/
def State.sendHellos (s : State) : State := s.helloPorts.foldl (fun s p => s.sendHello p) s

/-- HELLO_TIMER: every 100 ms while up (R365). -/
def execHelloTimer (port : Fin 64) (s : State) : Res :=
  .next <|
    if s.portState port = 3 ∧ !s.kept then (s.due ((s.port port).lastHello + 100000000)).sendHello port else s

/-- NODE_ID_WRITE: the first write of node since a chip reset assigns the node ID (R220), and hellos tell it (R365); behind the set-up
lock it is ignored and counted (R14). -/
def execNodeIdWrite (w : BarAcc) (s : State) : Res :=
  .next <| s.onWrite .FAB_NODE_ID 0 w fun _ =>
    if !w.touches F.FAB_NODE_ID_node then s
    else if s.setupLocked then s.blockedWrite
    else ((s.put F.FAB_NODE_ID_node (w.merge F.FAB_NODE_ID_node s.ownNode) 0).put F.FAB_NODE_ID_assigned 1 0).sendHellos

/-! ## Training and retraining (R268, R269) -/

/-- A link without memory of what it carried before. -/
def Port.linkReset (v : Port) : Port :=
  { v with txNext := 0, txItems := [], txWait := [], paused := false, rxNext := 0, nakAt := none, proposal := none, changes := []
           frag := none }

/-- Training starts at a step. -/
def State.trainFrom (s : State) (p step : Nat) : State :=
  let v := (s.port p).linkReset
  (s.setPort p { v with helloDone := false, partner := none, step := step, stepAt := s.time, failed := [], recovering := [], unlock := []
                        usable := if step = 3 then v.usable else [], adopting := false }).setPortState p 2

/-- The port stops carrying traffic: its flows move (R234). -/
def State.portDownNow (s : State) (p : Nat) : State :=
  let was := s.portState p == 3 || s.portState p == 4
  let s := if was then s.put F.WIN_PORT_STAT_down_evt 1 p else s
  if was then (s.setPortState p 2).movePort p else s

/-- Retrain a port from step 1; counted (R269). -/
def State.retrainNow (s : State) (p : Nat) : State :=
  let s := (s.portDownNow p).bump F.WIN_PORT_STAT_retrains 1 p
  ((s.winCount p 8 1).trainFrom p 1)

/-- Retrain with a DRAIN of reason 2 first. A disabled or uncalibrated port and one in dark wait do not (R269, R272). -/
def State.retrain (s : State) (p : Nat) : State :=
  if s.portState p = 0 ∨ s.portState p = 5 then s
  else (if s.portState p = 3 ∨ s.portState p = 4 then s.tx p (.ctl p (.drain 2 0)) else s).retrainNow p

/-- Training fails: it is tried again in 1 ms; after 16 failures in a row TRAIN_FAIL, and every 100 ms (R268). -/
def State.trainFails (s : State) (p : Nat) : State :=
  let v := s.port p
  let n := v.fails + 1
  s.setPort p { v with step := 0, fails := n, trainFail := decide (16 ≤ n), retryAt := s.time + if 16 ≤ n then 100000000 else 1000000 }

/-- The lane map training assigns: default data wavelengths that are usable in ascending order, then 0, then 17, up to 16 lanes; the
rest of the usable ones spare (R268). -/
def assignMap (usable : List Nat) : List Nat :=
  let order := ((List.range 16).map (· + 1)) ++ [0, 17]
  let taken := (order.filter fun n => usable.contains n).take 16
  let ranked := (List.range 18).filter fun n => taken.contains n
  (List.range 18).map fun n =>
    if ranked.contains n then (ranked.takeWhile fun k => k != n).length else if usable.contains n then 0xFE else 0xFF

/-- The port searches for light. -/
def State.search (s : State) (p : Nat) : State :=
  let v := s.port p
  (s.setPort p { v with step := 3, retryAt := s.time + 1000000 }).setPortState p 1

/-- Step 6 ends: mode, first map, round trip, references (R259, R266, R268). -/
def State.trainStep6 (s : State) (p : Nat) (r : TrainRead) : State :=
  let v := s.port p
  let own := s.isSet F.WIN_PORT_CFG_fec_long p
  let far := v.partnerLong || r.partnerLong
  let m := assignMap v.usable
  let s := (s.putB F.WIN_PORT_STAT_fec_long_active (own || far) p).putB F.WIN_PORT_STAT_fec_mismatch (own != far) p
  let s := s.put F.WIN_PORT_STAT_rtt_ns (min r.rttNs 0xFFFF) p
  let s := s.put F.WIN_PORT_STAT_map_gen_rx ((s.get F.WIN_PORT_STAT_map_gen_rx p + 1) % 256) p
  let s := s.setPort p { v with rxMap := m, txMap := if v.txMap.isEmpty then m else v.txMap, step := 7, stepAt := s.time
                                refr := r.monitors, reading := r.monitors, launchRef := v.launch, optBad := [] }
  let s := (List.range 18).foldl (fun s n => s.put F.WIN_LANE_STAT_lock (if v.usable.contains n then 2 else 4) (18 * p + n)) s
  let s := s.tx p (.ctl p (.laneMap (s.get F.WIN_PORT_STAT_map_gen_rx p) m))
  (s.showMap p).sendHello p

/-- TRAINING_STEP_DONE: the step at work is done and the next begins (R259, R266, R268). Step 7 ends with the hello. -/
def execTrainingStepDone (p : Fin 64) (r : TrainRead) (s : State) : Res :=
  .next <|
    let v := s.port p
    if s.portState p ≠ 2 then s
    else
      let next (s : State) (v : Port) : State := s.setPort p { v with step := v.step + 1, stepAt := s.time }
      let narrowed : List Nat := v.usable.filter fun n => r.usable.contains n && !v.optBad.contains n
      if v.step = 1 then next s v
      else if v.step = 2 then next s { v with usable := (List.range 18).filter fun n => r.usable.contains n }
      else if v.step = 3 then (if r.partnerLight then next s v else s.search p)
      else if v.step = 4 then next s { v with usable := narrowed }
      else if v.step = 5 then
        if narrowed.length < s.minWidth p then s.trainFails p
        else (next s { v with usable := narrowed }).tx p (.ctl p (.fecMode (s.isSet F.WIN_PORT_CFG_fec_long p)))
      else if v.step = 6 then s.trainStep6 p r
      else s

/-- The limit of a training step in ns (Table 9.10). -/
def trainLimit (step : Nat) : Nat :=
  if step = 1 then 10000 else if step = 2 then 500000 else if step = 3 then 1000000 else if step = 4 then 420000
  else if step = 5 then 500000 else if step = 6 then 100000 else 2500000

/-- TRAINING_STEP_TIMEOUT: a step has passed its limit (Table 9.10). -/
def execTrainingStepTimeout (p : Fin 64) (s : State) : Res :=
  .next <|
    let v := s.port p
    let idle : Bool := s.portState p != 2 || v.step == 0
    let s := if idle then s else s.due (v.stepAt + trainLimit v.step)
    if idle then s
    else if v.step = 1 then s.setPort p { v with step := 0, retryAt := s.time + 1000000 }
    else if v.step = 3 then s.search p
    else if v.step = 6 ∨ v.step = 7 then s.trainFrom p 1
    else s.trainFails p

/-- TRAINING_RETRY_TIMER: training is tried again, or the search repeated (R268). -/
def execTrainingRetryTimer (p : Fin 64) (s : State) : Res :=
  .next <|
    let v := s.port p
    if s.portState p = 2 ∧ v.step = 0 then (s.due v.retryAt).trainFrom p 1
    else if s.portState p = 1 then
      let s := s.due v.retryAt
      s.setPort p { v with retryAt := s.time + 1000000 }
    else s

/-- PARTNER_LIGHT_DETECT: the partner's light reaches the drops of a port that searches or waits in the dark (R268, R272). -/
def execPartnerLightDetect (p : Fin 64) (s : State) : Res :=
  .next <|
    if s.portState p = 1 ∨ s.portState p = 5 then
      (s.setPort p { s.port p with usable := List.range 18 }).trainFrom p 3
    else s

/-- PORT_DOWN: fewer than min_width lanes have delivered valid codewords for 2 µs, outside a dark wait (R269). -/
def execPortDown (p : Fin 64) (s : State) : Res :=
  .next <| if s.portState p = 3 ∨ s.portState p = 4 then s.retrainNow p else s

/-- PORT_RETRAIN_REQ: a write of WIN_PORT_CTRL[p].retrain_req; it ends a held state (R269). -/
def execPortRetrainReq (p : Fin 65) (w : BarAcc) (s : State) : Res :=
  .next <| s.onWrite .WIN_PORT_CTRL p w fun p => if w.bits F.WIN_PORT_CTRL_retrain_req = 1 then s.retrain p else s

/-- RETRAIN: the partner asks for a retrain (R260, R269). -/
def execRetrain (p : Fin 64) (s : State) : Res := .next <| if s.linkUp p ∧ s.portState p ≠ 6 then s.retrain p else s

/-- RECAL_REQ: a write of WIN_PORT_CTRL[p].recal_req: the port is down while its rings are calibrated (R269). -/
def execRecalReq (p : Fin 65) (w : BarAcc) (s : State) : Res :=
  .next <| s.onWrite .WIN_PORT_CTRL p w fun p =>
    if w.bits F.WIN_PORT_CTRL_recal_req = 1 ∧ s.isSet F.WIN_PORT_CFG_enable (min p 63) then
      let s := (if s.portState p = 3 ∨ s.portState p = 4 then s.tx p (.ctl p (.drain 2 0)) else s).portDownNow p
      let v := (s.port p).linkReset
      (s.setPort p { v with calibrated := false, step := 0, helloDone := false, partner := none }).setPortState p 0
    else s

/-- RING_CALIBRATION_DONE: the port trains, or stays down and is reported (R269, Table 1.10b). -/
def execRingCalibrationDone (p : Fin 65) (ok : Bool) (s : State) : Res :=
  .next <|
    if s.portState p ≠ 0 ∨ (s.port p).calibrated ∨ !(s.boot.phase = .ready ∨ (s.boot.phase = .bringup ∧ s.boot.done.contains 7)) then s
    else if ok then (s.setPort p { s.port p with calibrated := true }).trainFrom p 1
    else s.pldm (.portCalFail p)

/-! ## Rings (R249-R251) -/

/-- A fraction in lowest terms. -/
def lowest (n d : Nat) : Nat × Nat := (n / Nat.gcd n d, d / Nat.gcd n d)

/-- One step of the filter of R250: y + (a / 255 - y) / tau. -/
def filterStep (y : Nat × Nat) (a tau : Nat) : Nat × Nat :=
  let d := if y.2 = 0 then 1 else y.2
  lowest (y.1 * (tau - 1) * 255 + a * d) (d * 255 * tau)

/-- The filtered activity of compute die c at window die w. -/
def State.filtered (s : State) (w c : Nat) : Nat × Nat := SMap.get (0, 1) s.win.y (4 * w + c)

/-- One microsecond of a window die's filters. -/
def State.filterAll (s : State) (w : Nat) (a : List Nat) : State :=
  (List.range 4).foldl (fun s c =>
    let tau := max 1 (s.get F.WIN_FF_CFG_tau_us (4 * w + c))
    { s with win := { s.win with y := SMap.set (0, 1) s.win.y (4 * w + c) (filterStep (s.filtered w c) (a.getD c 0) tau) } }) s

/-- ff[w] in heater codes, rounded down to a whole code (log entry 30). -/
def State.feedforward (s : State) (w : Nat) : Int :=
  ((List.range 4).map fun c =>
    let y := s.filtered w c
    (0 - s.getI F.WIN_FF_CFG_gain (4 * w + c) * (y.1 : Int)) / ((max 1 y.2 : Nat) : Int)).sum

/-- ACTIVITY_INDEX: the hub sends window die w an index for each compute die (R250). -/
def execActivityIndex (w : Fin 4) (a0 a1 a2 a3 : BitVec 8) (s : State) : Res :=
  .next <|
    let s := s.filterAll w [a0.toNat, a1.toNat, a2.toNat, a3.toNat]
    { s with win := { s.win with indexAt := SMap.set 0 s.win.indexAt w s.time } }

/-- ACTIVITY_INDEX_ABSENT: no index for 3 µs: every a[c] is taken as 0 (R250). -/
def execActivityIndexAbsent (w : Fin 4) (s : State) : Res :=
  .next <| (s.due (SMap.get 0 s.win.indexAt w + 3000)).filterAll w [0, 0, 0, 0]

/-! ## Lane maps (R261-R263) -/

/-- Propose a map: LANE_MAP with the next generation. -/
def State.propose (s : State) (p : Nat) (m : List Nat) (sends : Nat) : State :=
  let g := (s.get F.WIN_PORT_STAT_map_gen_rx p + 1) % 256
  (s.setPort p { s.port p with proposal := some (m, sends, s.time) }).tx p (.ctl p (.laneMap g m))

/-- The map after a change: 0 the lane is replaced by the lowest free spare or taken out, 1 taken out, 2 restored. -/
def changedMap (m failed : List Nat) (n change : Nat) : List Nat :=
  let e := m.getD n 0xFF
  if change = 2 then
    let free := ((List.range 16).find? fun k => !m.contains k).getD 0xFE
    m.set n (if m.contains free then 0xFE else free)
  else
    let out := m.set n 0xFF
    if change = 1 ∨ 16 ≤ e then out
    else match (List.range 18).find? fun k => out.getD k 0xFF == 0xFE && !failed.contains k with
      | none => out
      | some k => out.set k e

/-- A change of port p's receive map: proposed now, or after the one outstanding; below min_width the port retrains (R261-R263). -/
def State.changeMap (s : State) (p n change : Nat) : State :=
  let v := s.port p
  if v.proposal.isSome then s.setPort p { v with changes := v.changes ++ [(n, change)] }
  else
    let m := changedMap v.rxMap v.failed n change
    if mapWidth m < s.minWidth p then s.retrain p else s.propose p m 1

/-- The partner's rows carry the generation proposed: the receiver switches (R261). -/
def State.adoptMap (s : State) (p : Nat) : State :=
  let v := s.port p
  match v.proposal with
  | none => s
  | some (m, _, _) =>
    let s := s.setPort p { v with rxMap := m, proposal := none, changes := v.changes.drop 1 }
    let s := (s.put F.WIN_PORT_STAT_map_gen_rx ((s.get F.WIN_PORT_STAT_map_gen_rx p + 1) % 256) p).winCount p 7 1
    let s := s.showMap p
    match v.changes.head? with
    | none => s
    | some c => s.changeMap p c.1 c.2

/-- The host port substitutes its spare within Recovery (R270). -/
def State.hostLane (s : State) (n change : Nat) : State :=
  let v := s.port 64
  (s.setPort 64 { v with rxMap := changedMap v.rxMap v.failed n change }).showMap 64

/-- Whether a wavelength of port p carries a lane that may fail: up or draining, in the stripe, outside a dark wait. -/
def State.inStripe (s : State) (p n : Nat) : Bool :=
  (s.portState p == 3 || s.portState p == 4) && decide ((s.port p).rxMap.getD n 0xFF < 16)

/-- Marks of a lane that failed: lane_evt, fault_evt, lock, counter. -/
def State.laneMarks (s : State) (p n : Nat) : State :=
  let s := ((s.put F.WIN_PORT_STAT_lane_evt 1 p).put F.WIN_LANE_STAT_fault_evt 1 (18 * p + n)).put F.WIN_LANE_STAT_lock 4 (18 * p + n)
  let v := s.port p
  (s.winCount p 5 1).setPort p { v with failed := if v.failed.contains n then v.failed else n :: v.failed }

/-- A lane fails (R262). -/
def State.laneFails (s : State) (p n : Nat) (cause : LaneFault) (id : Nat) : State :=
  if !s.inStripe p n then s
  else if p = 64 then (s.laneMarks p n).hostLane n 0
  else ((s.laneMarks p n).tx p (.ctl p (.laneFault n cause.code id))).changeMap p n 0

/-- LANE_FAIL_DETECT (R262, R263, R270). -/
def execLaneFailDetect (p : Fin 65) (wavelength : Fin 18) (cause : LaneFault) (s : State) : Res :=
  .next <| s.laneFails p wavelength cause 0xFF

/-- Whether a LANE_MAP is valid at this transmitter: the next generation, lanes 0 to 15 each once, at least min_width (Table 9.13). -/
def State.goodMap (s : State) (p gen : Nat) (m : List Nat) : Bool :=
  let lanes := m.filter fun e => decide (e < 16)
  m.length == 18 && (m.all fun e => decide (e < 16) || e == 0xFE || e == 0xFF) && lanes.dedup.length == lanes.length &&
  gen == (s.get F.WIN_PORT_STAT_map_gen_tx p + 1) % 256 && decide (s.minWidth p ≤ lanes.length)

/-- LANE_MAP: the transmitter adopts the receiver's map (R261). -/
def execLaneMap (p : Fin 64) (gen : Fin 256) (entries : LaneMap) (s : State) : Res :=
  .next <|
    if !s.linkUp p ∨ s.portState p = 6 then s
    else if !s.goodMap p gen entries then s.linkViolation p 3
    else ((s.setPort p { s.port p with txMap := entries }).put F.WIN_PORT_STAT_map_gen_tx gen p).winCount p 7 1

/-- LANE_MAP_TIMEOUT: no switch within 10 µs: the map is sent again; after three sends the port retrains (R261). -/
def execLaneMapTimeout (p : Fin 64) (s : State) : Res :=
  .next <|
    match (s.port p).proposal with
    | none => s
    | some (m, sends, at_) =>
      let s := s.due (at_ + 10000)
      if 3 ≤ sends then s.retrain p
      else s.propose p m (sends + 1)

/-- LANE_FAULT: the partner reports one of this end's lanes; a transmit alias starts its recovery (R260, R262, R264, R265). -/
def execLaneFault (p : Fin 64) (wavelength : Fin 18) (cause : LaneFault) (laneId : Fin 256) (s : State) : Res :=
  .next <|
    if !s.linkUp p ∨ s.portState p = 6 ∨ (laneId.val ≠ 0xFF ∧ cause ≠ .txAlias ∧ cause ≠ .rxAlias ∧ cause ≠ .badId) then s
    else
      let s := s.put F.WIN_PORT_STAT_lane_evt 1 p
      if cause = .txAlias then
        let v := s.port p
        let s := s.put F.WIN_LANE_STAT_lock 3 (18 * p + wavelength)
        (s.bump F.WIN_LANE_STAT_aliases 1 (18 * p + wavelength)).setPort p { v with recovering := v.recovering ++ [(wavelength.val, true)] }
      else s

/-- FEC_MODE: the partner's configured mode; outside training it is a violation (R259, Table 9.13). -/
def execFecMode (p : Fin 64) (long : Bool) (s : State) : Res :=
  .next <| if s.portState p = 2 then s.setPort p { s.port p with partnerLong := long } else if s.linkUp p then s.linkViolation p 3 else s

/-! ## Alias lock (R264, R265) -/

/-- A lane is taken out for its recovery without a spare. -/
def State.aliasLane (s : State) (p n : Nat) : State :=
  if !s.inStripe p n then s
  else
    let v := s.port p
    let s := (s.setPort p { v with recovering := v.recovering ++ [(n, false)] }).put F.WIN_LANE_STAT_lock 3 (18 * p + n)
    let s := ((s.bump F.WIN_LANE_STAT_aliases 1 (18 * p + n)).winCount p 6 1).put F.WIN_PORT_STAT_lane_evt 1 p
    if p = 64 then s.hostLane n 0 else s.changeMap p n 1

/-- ALIAS_LOCK_DETECT: a receive ring locked to its neighbour's carrier, or the partner's transmit ring (R264). -/
def execAliasLockDetect (p : Fin 65) (wavelength : Fin 18) (transmit : Bool) (laneId : Fin 256) (s : State) : Res :=
  .next <|
    let n := wavelength.val
    let id := laneId.val
    if id ≠ n + 1 ∧ id + 1 ≠ n then s.laneFails p n .badId id
    else if !s.inStripe p n then s
    else
      let s := if p.val = 64 then s else s.tx p (.ctl p (.laneFault n (if transmit then 5 else 4) id))
      let s := s.aliasLane p n
      if transmit then s.aliasLane p id else s

/-- ALIAS_RECOVERY_END: the directed search ends; the lane is restored with a new map, or fails under R262 (R265). -/
def execAliasRecoveryEnd (p : Fin 65) (wavelength : Fin 18) (ok : Bool) (s : State) : Res :=
  .next <|
    let n := wavelength.val
    let v := s.port p
    match v.recovering.find? fun e => e.1 == n with
    | none => s
    | some e =>
      let s := s.setPort p { v with recovering := v.recovering.erase e }
      if ok then
        let s := (s.put F.WIN_LANE_STAT_lock 2 (18 * p + n)).put F.WIN_PORT_STAT_lane_evt 1 p
        if e.2 then s else if p.val = 64 then s.hostLane n 2 else s.changeMap p n 2
      else if e.2 then s.put F.WIN_LANE_STAT_lock 4 (18 * p + n)
      else
        let s := s.laneMarks p n
        if p.val = 64 then s else s.tx p (.ctl p (.laneFault n 4 0xFF))

/-- TUNING_LOOP_UPDATE: the loop of a ring moves its heater by at most 8 codes; how far within that is open (log entry 1); five updates
in a row beyond ±12 GHz unlock it; the ends of the range raise a margin record (R248-R251). Offsets are in GHz. -/
def execTuningLoopUpdate (ring : Fin 2340) (offset : Int) (s : State) : Res :=
  .next <|
    let i := ring.val / 2
    let side := ring.val % 2
    let p := i / 18
    let n := i % 18
    let v := s.port p
    if 1161 ≤ i ∨ (p ≠ 64 ∧ !v.calibrated) then s
    else
      let d := s.draw
      let s := d.2
      let fb := SMap.get 0 s.win.fb ring + ((d.1 % 17 : Nat) : Int) - 8
      let fld := if side = 0 then F.WIN_LANE_STAT_tx_heater else F.WIN_LANE_STAT_rx_heater
      let old : Int := s.get fld i
      let ff : Int := if p = 64 ∨ s.isSet F.WIN_PORT_CFG_ff_en p then s.feedforward (if p = 64 then 0 else p / 16) else 0
      let code := max 0 (min 1023 (max (old - 8) (min (old + 8) (fb + ff))))
      let s := { s with win := { s.win with fb := SMap.set 0 s.win.fb ring fb } }.put fld code.toNat i
      let near := min code (1023 - code)
      let s := s.marginAt 5 ring 0 near (if 922 ≤ code then 922 else 51) 0 (if 922 ≤ code ∨ code ≤ 51 then 1 else 0)
      let far := decide (12 < offset) || decide (offset < -12)
      let k := if far then SMap.get 0 v.unlock (2 * n + side) + 1 else 0
      let s := s.setPort p { s.port p with unlock := SMap.set 0 v.unlock (2 * n + side) k }
      if k < 5 then s
      else if side = 1 then s.laneFails p n .noCodewords 0xFF
      else s.put F.WIN_LANE_STAT_lock 0 i

/-! ## Power monitors and losses (R266, R267) -/

/-- LAUNCH_POWER: the partner's power after its modulator bank (R266). -/
def execLaunchPower (p : Fin 64) (values : List Int) (s : State) : Res :=
  .next <| if s.linkUp p ∧ s.portState p ≠ 6 then s.setPort p { s.port p with launch := values } else s

/-- LAUNCH_POWER_TIMER: every 1 ms while up (R260). -/
def execLaunchPowerTimer (p : Fin 64) (s : State) : Res :=
  .next <|
    let v := s.port p
    if s.portState p = 3 then
      let s := s.due (v.lastLaunch + 1000000)
      (s.setPort p { v with lastLaunch := s.time }).tx p (.ctl p (.launchPower v.reading.bank))
    else s

/-- A located loss: stage, wavelength, excess in 0.01 dB. -/
structure Loss where
  stage : Nat
  wavelength : Nat
  excess : Int
  deriving DecidableEq, Repr

/-- A loss named by wavelengths with their excess: the one wavelength, or 0x1F for all, the lowest of several (log entry 30). -/
def lossOf (stage total : Nat) (l : List (Nat × Int)) : Option Loss :=
  match l with
  | [] => none
  | e :: _ => some ⟨stage, if l.length = total then 0x1F else e.1, (l.map fun x => x.2).foldl max e.2⟩

/-- The first row of Table 9.9 that matches. -/
def Port.locate (v : Port) (r : OptRead) : Option Loss :=
  let waves := List.range 18
  let used := waves.filter fun n => decide (v.rxMap.getD n 0xFF < 16)
  let at_ (l : List Int) (n : Nat) : Int := l.getD n 0
  let past (l : List (Nat × Int)) := l.filter fun e => decide (200 ≤ e.2)
  let split := (r.laser - r.splitter) - (v.refr.laser - v.refr.splitter)
  let bank := past (waves.map fun n => (n, (r.splitter - at_ r.bank n) - (v.refr.splitter - at_ v.refr.bank n)))
  let far := past (used.map fun n => (n, at_ v.launchRef n - at_ v.launch n))
  let plant := used.map fun n => (n, (at_ v.launch n - at_ r.drop n) - (at_ v.launchRef n - at_ v.refr.drop n))
  let worst := past plant
  if 200 ≤ v.refr.laser - r.laser ∨ r.laser < 2260 then some ⟨1, 0x1F, max (v.refr.laser - r.laser) 0⟩
  else if 200 ≤ split then some ⟨2, 0x1F, split⟩
  else if !bank.isEmpty then lossOf 3 18 bank
  else if !far.isEmpty then lossOf 4 used.length far
  else if !worst.isEmpty ∧ worst.length = used.length ∧
      (worst.all fun a => worst.all fun b => decide (a.2 ≤ b.2 + 100)) then some ⟨5, 0x1F, (worst.map fun e => e.2).foldl max 200⟩
  else lossOf 6 (used.length + 1) worst

/-- Record a loss in WIN_LOSS_STAT. -/
def State.recordLoss (s : State) (p : Nat) (l : Loss) : State :=
  let s := (s.put F.WIN_LOSS_STAT_stage l.stage p).put F.WIN_LOSS_STAT_wavelength l.wavelength p
  let s := (s.put F.WIN_LOSS_STAT_excess (min l.excess.toNat 0x7FF) p).putB F.WIN_LOSS_STAT_failed (decide (600 ≤ l.excess)) p
  s.put F.WIN_PORT_STAT_loss_evt 1 p

/-- Ports that laser input i of window die w feeds (R247). -/
def laserPorts (w i : Nat) : List Nat := (List.range 4).map (16 * w + 4 * i + ·) ++ if w = 0 ∧ i = 0 then [64] else []

/-- LOSS_LOCATION: the monitors of port p are read and a loss is located (R266, R267). -/
def execLossLocation (p : Fin 65) (r : OptRead) (s : State) : Res :=
  .next <|
    let v := s.port p
    let s := s.setPort p { v with reading := r }
    let s := r.drop.zipIdx.foldl (fun s e => if e.2 < 18 then s.putI F.WIN_LANE_STAT_rx_power e.1 (18 * p + e.2) else s) s
    match v.locate r with
    | none => s
    | some l =>
      if l.stage = 1 then
        let w := if p.val = 64 then 0 else p.val / 16
        let i := if p.val = 64 then 0 else p.val % 16 / 4
        ((laserPorts w i).foldl (fun s q => s.recordLoss q l) s).pldm (.laserInput w i)
      else s.recordLoss p l

/-! ## Flits and link retry (R255-R258, R276, R277) -/

/-- Replay everything from an unacknowledged item on; the eighth replay of one without acceptance retrains the port (R256, R257). -/
def State.replayFrom (s : State) (p seq : Nat) : State :=
  let v := s.port p
  let l := v.txItems.dropWhile fun i => !(decide ((seq + 65536 - i.seq) % 65536 < i.n))
  let n := (l.map fun i => i.n).sum
  let s := ((s.winCount p 1 n).emit (.replay p seq)).setPort p
    { v with ackAt := s.time
             txItems := v.txItems.map fun i => if l.any fun j => j.seq == i.seq then { i with replays := i.replays + 1 } else i }
  if (s.port p).txItems.any fun i => decide (8 ≤ i.replays) then s.retrain p else s

/-- The acknowledgement of a flit: everything before it has arrived; one outside the unacknowledged range is ignored and counted. -/
def State.takeAck (s : State) (p ack : Nat) (nak : Bool) : State :=
  let v := s.port p
  let oldest := (v.txNext + 65536 - v.unacked % 65536) % 65536
  let d := (ack + 65536 - oldest) % 65536
  if v.unacked < d then s.linkViolation p 3
  else
    let left := v.txItems.filter fun i => decide (d < (i.seq + 65536 - oldest) % 65536 + i.n)
    let s := s.setPort p { v with txItems := left, ackAt := if d = 0 then v.ackAt else s.time }
    let s := if nak && !left.isEmpty then s.replayFrom p ack else s
    s.txFlush p

/-- NAK with the number expected, at most once in 64 link clock cycles (R256). -/
def State.nakFlit (s : State) (p : Nat) : State :=
  let v := s.port p
  let soon := match v.nakAt with | none => false | some t => decide (s.time < t + 32)
  if soon then s
  else ((s.winCount p 2 1).setPort p { v with nakAt := some s.time }).emit (.linkNak p v.rxNext)

/-- Whether DATA flits are kept on port p: hello outcome full or switch (R368); before training step 7 none are (Table 9.13). -/
def State.keepsData (s : State) (p : Nat) : Bool :=
  s.kept || (s.port p).helloDone && (s.get F.FAB_HELLO_STAT_outcome p == 1 || s.get F.FAB_HELLO_STAT_outcome p == 5)

/-- LINK_FLIT_RECEIVE: a flit arrives on port p (R252-R258, R276, R277, R368). Its packets and messages are commands of their own. -/
def execLinkFlitReceive (p : Fin 64) (f : Flit) (s : State) : Res :=
  .next <|
    if !s.linkUp p then (if f.typ = .data ∧ s.portState p = 2 then s.linkViolation p 4 else s)
    else
      let s := f.corrected.foldl (fun s n => if n < 18 then s.bump F.WIN_LANE_STAT_corrected 1 (18 * p + n) else s) s
      let s := if f.newMap then s.adoptMap p else s
      if !f.crcOk then (s.winCount p 0 1).nakFlit p
      else
        let s := if f.rsvFlag then s.linkViolation p 3 else s
        let s := s.takeAck p f.ack f.nak
        let s := (s.setPort p { s.port p with paused := f.pause }).txFlush p
        if !s.linkUp p then s
        else
          let v := s.port p
          let next (s : State) : State := s.setPort p { s.port p with rxNext := (v.rxNext + 1) % 65536 }
          let behind := (v.rxNext + 65536 - f.seq) % 65536
          if f.typ = .idle then s
          else if behind ≠ 0 then
            if behind < 32768 then s.winCount p 4 1 else (s.winCount p 4 1).nakFlit p
          else if f.typ = .reserved then (next s).linkViolation p 3
          else if f.typ = .data ∧ 241 < f.first ∧ f.first ≠ 0xFF then (s.linkViolation p 3).nakFlit p
          else if f.typ = .data ∧ s.portState p = 2 ∧ v.step < 7 then s.linkViolation p 4
          else if f.typ = .data ∧ !s.keepsData p then (next s).winCount p 4 1
          else if f.typ = .linkControl ∧ f.badCtl then (next s).linkViolation p 3
          else next s

/-- LINK_REPLAY_TIMEOUT: no acknowledgement has advanced for 16 µs while flits are outstanding (R256). -/
def execLinkReplayTimeout (p : Fin 64) (s : State) : Res :=
  .next <|
    let v := s.port p
    match v.txItems with
    | [] => s
    | i :: _ => if s.linkUp p then (s.due (v.ackAt + 16000)).replayFrom p i.seq else s

/-- LINK_VIOLATION_FLOOD: more than 1,024 violations within 1 ms: the port retrains; the third time within 1 s it is held for 1 s
(R278). -/
def execLinkViolationFlood (p : Fin 64) (s : State) : Res :=
  .next <|
    let v := s.port p
    if (v.viols.filter fun t => decide (s.time < t + 1000000)).length ≤ 1024 then s
    else
      let l := s.time :: v.floods.filter fun t => decide (s.time < t + 1000000000)
      let s := (s.setPort p { v with viols := [], floods := l }).retrain p
      if l.length < 3 then s
      else (s.setPort p { s.port p with heldSince := some s.time, step := 0, floods := [] }).setPortState p 6

/-- PORT_HOLD_EXPIRE: after 1 s a port held for floods searches (R278). -/
def execPortHoldExpire (p : Fin 64) (s : State) : Res :=
  .next <|
    match (s.port p).heldSince with
    | none => s
    | some t =>
      if s.portState p = 6 then ((s.due (t + 1000000000)).setPort p { s.port p with heldSince := none }).search p else s

/-! ## Draining and window settings (R260, R271) -/

/-- DRAIN: the partner takes no new flows on the port; so does this end (R260, R271). -/
def execDrain (p : Fin 64) (reason : Fin 3) (duration : BitVec 32) (s : State) : Res :=
  .next <|
    let _ := (reason, duration)
    if s.portState p = 3 then (s.setPortState p 4).movePort p else s

/-- What a banked field takes from a commit or revert under way: its shadow's value, or its previous bank's while one reverts (R213,
R216). -/
def State.incoming (s : State) (f : Fld) (i : Nat) : Nat :=
  if s.get F.HUB_CFG_STATUS_state 0 = 3 then SMap.get f.reset s.prevBank (f.key i)
  else SMap.get f.reset s.regs ({ f with code := f.code + 512 }.key i)

/-- The fields of WIN_PORT_CFG. -/
def portCfg : List Fld := [F.WIN_PORT_CFG_enable, F.WIN_PORT_CFG_fec_long, F.WIN_PORT_CFG_min_width, F.WIN_PORT_CFG_ff_en]

/-- Whether what port p is to take differs from its live copy. -/
def State.portDiffers (s : State) (p : Nat) : Bool :=
  portCfg.any fun f => s.get f p != s.incoming f p

/-- Adopt port p's shadow: a port that is disabled by it goes down, one that it enables trains, another retrains. -/
def State.adoptPort (s : State) (p : Nat) : State :=
  let was := s.portState p
  let s := portCfg.foldl (fun s f => s.put f (s.incoming f p) p) s
  let s := s.setPort p { s.port p with adopting := false }
  if !s.isSet F.WIN_PORT_CFG_enable p then
    let s := s.portDownNow p
    (s.setPort p { (s.port p).linkReset with step := 0, helloDone := false, partner := none }).setPortState p 0
  else if was = 0 then (if (s.port p).calibrated then s.trainFrom p 1 else s)
  else if was = 3 ∨ was = 4 then s.retrainNow p
  else s

/-- A commit or revert of unit 6 reaches port p: down or disabled it adopts at once, else it drains first (R271). -/
def State.startAdopt (s : State) (p : Nat) : State :=
  if !s.portDiffers p then s
  else if s.portState p = 3 ∨ s.portState p = 4 then
    let s := (s.tx p (.ctl p (.drain 0 0))).setPort p { (s.tx p (.ctl p (.drain 0 0))).port p with adopting := true }
    (s.setPortState p 4).movePort p
  else s.adoptPort p

/-- PORT_DRAINED: both directions have carried no DATA for 10 µs and every flit is acknowledged: the shadow is adopted (R271). -/
def execPortDrained (p : Fin 64) (s : State) : Res :=
  .next <|
    let v := s.port p
    if s.portState p = 4 ∧ v.adopting ∧ v.txItems.isEmpty then s.adoptPort p else s

/-! ## Dark waits (R272-R274) -/

/-- Ports an EXPECT_DARK names. -/
def darkPorts (b : List Byte) : List Nat := (List.range 64).filter fun p => bitAt (fieldAt b 0 8) p

/-- The first field of an EXPECT_DARK payload that breaks R272. -/
def State.darkFormat (s : State) (b : List Byte) : Option Nat :=
  let us := fieldAt b 8 4
  let checks : List (Nat × Bool) :=
    [(32, fieldAt b 0 8 == 0 || (darkPorts b).any fun p => !s.isSet F.WIN_PORT_CFG_enable p || s.portState p == 5 || (s.port p).dark.isSome),
     (40, us == 0 || decide (10000000 < us)), (44, decide (2 ^ 20 ≤ fieldAt b 12 3)), (47, decide (2 ≤ fieldAt b 15 1)),
     (48, !zeroAt b 16 16)]
  (checks.find? fun c => c.2).map fun c => c.1

/-- An EXPECT_DARK whose every named port has ended completes: OK, or the outcome of the lowest port that is not up (R273). -/
def State.settleDark (s : State) (w : Work) : State :=
  match s.item w with
  | none => s
  | some it =>
    let ps := darkPorts it.payload
    let ends := ps.map fun p => match (s.port p).darkEnd with | some e => if e.1 = w then some e.2 else none | none => none
    if ends.any fun e => e.isNone then s
    else
      let bad := ends.filterMap fun e => match e with | some st => if st = .ok then none else some st | none => none
      let s := ps.foldl (fun s p => s.setPort p { s.port p with darkEnd := none }) s
      s.finish w (bad.headD .ok) 0

/-- A port's dark wait ends with an outcome (R273). -/
def State.endDark (s : State) (p : Nat) (st : Status) : State :=
  let v := s.port p
  match v.dark with
  | none => s
  | some d => (s.setPort p { v with dark := none, darkEnd := some (d.work, st) }).settleDark d.work

/-- EXPECT_DARK: the named ports drain and wait in the dark (R272). -/
def execExpectDark (work : Work) (s : State) : Res :=
  .next <|
    match s.fresh work 0x0D with
    | none => s
    | some it =>
      let b := it.payload
      match s.darkFormat b with
      | some d => s.finish work .eFormat d
      | none =>
        let us := fieldAt b 8 4
        let node := if bitAt (fieldAt b 15 1) 0 then some (fieldAt b 12 3) else none
        (darkPorts b).foldl (fun s p =>
          let was := s.portState p
          let s := s.tx p (.ctl p (.drain 1 us))
          let v := (s.port p).linkReset
          let s := s.setPort p { v with dark := some ⟨work, s.time + us * 1000, node⟩, darkEnd := none, step := 0, helloDone := false, partner := none
                                        heldSince := none }
          let s := s.setPortState p 5
          if was = 3 ∨ was = 4 then s.movePort p else s) (s.begin_ work)

/-- DARK_WAIT_TIMEOUT: dark_us has passed: the port searches (R273). -/
def execDarkWaitTimeout (p : Fin 64) (s : State) : Res :=
  .next <|
    match (s.port p).dark with
    | none => s
    | some d => ((s.due d.until_).search p).endDark p .eTimeout

/-- An aborted EXPECT_DARK: ports still in dark wait search, or go on training where light is present (R274). -/
def State.darkAbort (s : State) (w : Work) : State :=
  let s := (List.range 64).foldl (fun s p =>
    match (s.port p).dark with
    | none => s
    | some d =>
      if d.work ≠ w then s
      else
        let s := s.setPort p { s.port p with dark := none }
        if s.portState p = 5 then s.search p else s) s
  let s := (List.range 64).foldl (fun s p =>
    match (s.port p).darkEnd with | some e => if e.1 = w then s.setPort p { s.port p with darkEnd := none } else s | none => s) s
  match s.running w 0x0D with | some _ => s.finish w .eAborted 0 | none => s

end Sys2Proof.Machine
end

