-- ==== Sys2Proof/Machine/Hello.lean ====
section
/-! DEFINITION. Acting as one: endpoint notices of peers, the hello exchange, jobs and the configuration digest, exclusion notices
(R352, R365-R382). -/

namespace Sys2Proof.Machine

/-! ## Notices of peers (R243, R350, R352, R369) -/

/-- Node n resets or stops: requests to it end, shared sessions break, a pair with it pauses. -/
def State.peerResets (s : State) (n : Nat) : State :=
  let s := ((s.endAllTo n 2 .eResetting).colPeer n 2).reflPause n
  s.setFab { s.fab with noticed := if s.fab.noticed.contains n then s.fab.noticed else n :: s.fab.noticed }

/-- The flow to node n is opened afresh under an epoch (R229). -/
def State.peerReady (s : State) (n epoch : Nat) : State :=
  let s := s.setFab { s.fab with noticed := s.fab.noticed.erase n }
  let s : State := if (s.flow n).src.isSome then s.setSrc n { s.srcFlow n with opened := false, opening := false, epoch := epoch } else s
  s.reflEpoch n epoch

/-- ENDPOINT_NOTICE: a notice of the node that the port's hello named; any other is a violation (R350, R352, R389, R391). -/
def execEndpointNotice (port : Fin 64) (n : EndNotice) (s : State) : Res :=
  .next <|
    if !s.linkUp port ∨ s.portState port = 6 ∨ s.kept then s
    else if ((s.port port).partner.map fun h => h.node) ≠ some n.node then s.linkViolation port 3
    else match n.kind with
      | .ready => s.peerReady n.node n.epoch
      | .powerCycling => (if s.reflPartner = n.node then s.reflLost 2 else s).peerResets n.node
      | .resetting => s.peerResets n.node
      | .stopping => s.peerResets n.node

/-! ## Forwarding notices (R378) -/

/-- Address of a generation's slot in the notice store (R376). -/
def State.noticeSlot (s : State) (g : Nat) : Nat := fieldAt s.job.block 16 8 + 4096 * (g % 4096)

/-- The bytes of the notice of generation g, while its slot holds it. -/
def State.storedNotice (s : State) (g : Nat) : Option (List Byte) :=
  let a := s.noticeSlot g
  let h := s.memRead a 64
  let n := fieldAt h.bytes 3 1
  if h.poisoned || fieldAt h.bytes 0 2 != 1 || fieldAt h.bytes 4 4 != g || n == 0 || decide (7 < n) then none
  else
    let d := s.memRead a (64 + 516 * n)
    if d.poisoned then none else some d.bytes

/-- The fragments of a notice (Table 13.10). -/
def noticeFrags (g : Nat) (bs : List Byte) : List NoticeFrag :=
  let n := ceilDiv bs.length 232
  (List.range n).map fun i => { generation := g, index := i, count := n, data := (bs.drop (232 * i)).take 232 }

/-- Whether port p's partner is to be sent notices. -/
def State.forwards (s : State) (p : Nat) : Bool :=
  (s.portState p == 3 || s.portState p == 4) && (s.port p).helloDone &&
  (s.get F.FAB_HELLO_STAT_outcome p == 1 || s.get F.FAB_HELLO_STAT_outcome p == 2) &&
  (match (s.port p).partner with
   | none => false
   | some h => !h.switch && h.digest == s.ownDigest && s.ownDigest != 0 && decide (h.exclGen < s.get F.SEC_EXCL_STAT_generation 0))

/-- Send n notices from generation g on, in ascending order; a missing one is logged and ends the series. -/
def State.sendNotices (p : Nat) : Nat → Nat → State → State
  | 0, _, s => s
  | n + 1, g, s =>
    match s.storedNotice g with
    | none => s.logEvent 0x0010 p [0x100, g]
    | some bs => sendNotices p n (g + 1) ((noticeFrags g bs).foldl (fun s f => s.tx p (.ctl p (.signedNotice f))) s)

/-- Forward what port p's partner lacks. -/
def State.forwardTo (s : State) (p : Nat) : State :=
  if !s.forwards p then s
  else match (s.port p).partner with
    | none => s
    | some h => State.sendNotices p (s.get F.SEC_EXCL_STAT_generation 0 - h.exclGen) (h.exclGen + 1) s

/-! ## Hello (R366-R371) -/

/-- The outcome of a hello (Table 13.2): its code, and the rows' reason bits version_diff, excluded, unassigned. -/
structure HelloOut where
  code : Nat
  version : Bool := false
  excluded : Bool := false
  unassigned : Bool := false
  deriving DecidableEq, Repr

/-- The first row of Table 13.2 that applies to an accepted hello. -/
def State.helloOutcome (s : State) (h : Hello) : HelloOut :=
  let own := s.isSet F.FAB_NODE_ID_assigned 0
  let both := own && !h.unassigned
  let apart := max h.fwMinor Config.fwMinor - min h.fwMinor Config.fwMinor
  if h.switch then { code := 5 }
  else if both && h.node == s.ownNode && h.setId == s.boot.setId then { code := 3 }
  else if both && h.node == s.ownNode then { code := 4 }
  else if h.resetting then { code := 6 }
  else if h.fwMajor ≠ Config.fwMajor ∨ 1 < apart then { code := 2, version := true }
  else if !both then { code := 2, unassigned := true, excluded := h.shutter }
  else if s.job.excl.contains h.node || h.shutter then { code := 2, excluded := true }
  else { code := 1 }

/-- Whether two calendars differ by more than a second. -/
def skewed (a b : Calendar) : Bool := decide (32768 < max a.ticks b.ticks - min a.ticks b.ticks)

/-- The reports of Table 13.2; a switch's hello is not compared. -/
def State.helloReports (s : State) (p : Nat) (h : Hello) : State :=
  if h.switch then
    ((((s.put F.FAB_HELLO_STAT_digest_diff 0 p).put F.FAB_HELLO_STAT_gen_diff 0 p).put F.FAB_HELLO_STAT_calendar_skew 0 p).put
      F.FAB_HELLO_STAT_stepping_diff 0 p)
  else
    let job := h.job && s.isSet F.SEC_JOB_STAT_installed 0
    let cal := s.calNow
    let skew := cal.valid && h.calendar.valid && skewed cal h.calendar
    let s := s.putB F.FAB_HELLO_STAT_digest_diff (!job || h.digest != s.ownDigest) p
    let s := s.putB F.FAB_HELLO_STAT_gen_diff (h.exclGen != s.get F.SEC_EXCL_STAT_generation 0 && h.digest == s.ownDigest) p
    let s := (s.putB F.FAB_HELLO_STAT_calendar_skew skew p).putB F.FAB_HELLO_STAT_stepping_diff (h.stepping != Config.stepping) p
    let recent := match (s.port p).skewAt with | none => false | some t => decide (s.time < t + 3600000000000)
    if skew && !recent then
      (s.setPort p { s.port p with skewAt := some s.time }).logEvent 0x000C p [cal.word, h.calendar.word]
    else s

/-- Record an outcome; a change sets hello_evt, and what its row logs is logged. -/
def State.helloRecord (s : State) (p : Nat) (h : Hello) (o : HelloOut) : State :=
  let old := s.get F.FAB_HELLO_STAT_outcome p
  let oldVersion := s.isSet F.FAB_HELLO_STAT_version_diff p
  let s := (s.put F.FAB_HELLO_STAT_node h.node p).put F.FAB_HELLO_STAT_epoch h.epoch p
  let s := (s.put F.FAB_HELLO_STAT_firmware (256 * h.fwMajor + h.fwMinor) p).putB F.FAB_HELLO_STAT_version_diff o.version p
  let s := (s.putB F.FAB_HELLO_STAT_excluded o.excluded p).putB F.FAB_HELLO_STAT_unassigned o.unassigned p
  let s := (s.put F.FAB_HELLO_STAT_outcome o.code p)
  let s := if old = o.code then s else s.put F.FAB_HELLO_STAT_hello_evt 1 p
  if o.code = 3 ∧ old ≠ 3 then s.logEvent 0x000F p [0]
  else if o.code = 4 ∧ old ≠ 4 then (s.logEvent 0x000F p [1, h.node, h.setId]).pldm (.dupNode p)
  else if o.version ∧ !oldVersion then s.logEvent 0x000F p [2, h.fwMajor, h.fwMinor]
  else s

/-- The port is held: its flows move and it carries nothing but hellos (R368). -/
def State.holdPort (s : State) (p : Nat) : State :=
  let s := s.portDownNow p
  (s.setPort p { s.port p with step := 0 }).setPortState p 6

/-- An epoch that no notice announced acts as a RESETTING notice, and the flow is opened afresh (R369). -/
def State.helloEpoch (s : State) (h : Hello) : State :=
  if h.unassigned ∨ h.switch then s
  else
    let f := s.flow h.node
    let held : List Nat := (match f.src with | some x => if x.epoch = 0 then [] else [x.epoch] | none => []) ++
      (match f.tgt with | some t => [t.epoch] | none => [])
    let changed := held.any fun e => e != h.epoch
    if changed && !s.fab.noticed.contains h.node then (s.peerResets h.node).peerReady h.node h.epoch
    else if changed && !h.resetting then s.peerReady h.node h.epoch
    else s.reflEpoch h.node h.epoch

/-- Whether a hello completes the exchange (R366). -/
def State.helloCompletes (s : State) (h : Hello) : Bool :=
  h.ack && (if s.isSet F.FAB_NODE_ID_assigned 0 then h.seen == s.ownNode else h.seen == 0xFFFFFF)

/-- What a completed hello does to a port that is not held: up, its dark wait ended (R273, R366). -/
def State.helloUp (s : State) (p : Nat) : State :=
  let s := s.setPort p { s.port p with helloDone := true, fails := 0, trainFail := false }
  let s : State := if s.portState p = 2 then (s.setPort p { s.port p with step := 0 }).setPortState p 3 else s
  s.endDark p .ok

/-- The keepers' answer to a HELLO (R370). -/
def State.keeperHello (s : State) (p : Nat) (h : Hello) : State :=
  match (s.port p).lastBody with
  | none => s
  | some b =>
    s.tx p (.ctl p (.hello { b with resetting := true, epoch := s.rst.prevEpoch, ack := true
                                    seen := if h.unassigned then 0xFFFFFF else h.node }))

/-- HELLO (R366-R371, R378). A held port keeps its outcome until it retrains; the rest of the hello is recorded and reported (R367, R368). -/
def execHello (port : Fin 64) (h : Hello) (s : State) : Res :=
  .next <|
    let p := port.val
    let v := s.port p
    let st := s.portState p
    if !s.linkUp p ∨ (st = 2 ∧ v.step ≠ 7) then s
    else if s.kept then s.keeperHello p h
    else if h.version ≠ 1 ∨ h.rsv then s.linkViolation p 3
    else
      let first := match v.lastBody with | none => true | some b => !b.ack || b.seen != (if h.unassigned then 0xFFFFFF else h.node)
      let s := s.setPort p { v with partner := some h }
      if st = 6 then ((s.helloRecord p h { s.helloOutcome h with code := s.get F.FAB_HELLO_STAT_outcome p }).helloReports p h).helloEpoch h
      else
        let o := s.helloOutcome h
        let s := (s.helloRecord p h o).helloReports p h
        let wrong := match v.dark with | some d => (match d.node with | some n => h.unassigned || h.node != n | none => false) | none => false
        if o.code = 3 ∨ o.code = 4 then s.holdPort p
        else if wrong then (s.holdPort p).endDark p .eProtocol
        else
          let s : State := if st = 2 ∧ first then s.sendHello p else s
          let s := if s.helloCompletes h then s.helloUp p else s
          let s := if o.code = 6 then s.peerResets h.node else s
          let s := s.helloEpoch h
          let s : State := if o.code = 2 ∨ o.code = 6 then s.movePort p else s
          s.forwardTo p

/-! ## Jobs and the configuration digest (R372, R373) -/

/-- The configuration digest of the job installed; 0 with none. -/
def State.configDigest (s : State) : Nat :=
  if s.job.block.isEmpty then 0
  else Sha512.top64 (s.job.block.take 16 ++ List.replicate 8 0 ++ s.job.block.drop 24 ++ leBytes 8 (s.regImage .COL_DEFAULTS 0))

/-- Recompute the digest: measurement 6 follows (R409), and hellos tell a change (R365). -/
def State.redigest (s : State) : State :=
  let d := s.configDigest
  let old := s.ownDigest
  let s := (s.put F.SEC_CFG_DIGEST_digest d 0).measure 6 [d]
  if d = old then s else s.sendHellos

/-- Whether a job block breaks its layout (Table 13.4). -/
def jobBad (b : List Byte) : Bool :=
  let n := fieldAt b 9 1
  let k := fieldAt b 8 1
  n == 0 || decide (7 < n) || k == 0 || decide (n < k) || !zeroAt b 10 6 || !zeroAt b 24 40 || !zeroAt b (320 + 512 * n) (3584 - 512 * n) ||
  !zeroAt b 3904 192 || fieldAt b 16 8 % 2 ^ 21 != 0

/-- The result of an install: 1 done, 2 malformed, 3 outside memory, 4 refused by state. -/
def State.installResult (s : State) (a : Nat) : Nat :=
  if s.isSet F.SEC_JOB_STAT_installed 0 then 4
  else if !s.mapped a 4096 then 3
  else
    let d := s.memRead a 4096
    if d.poisoned || jobBad d.bytes then 2
    else if !s.areaMapped (fieldAt d.bytes 16 8, 8) then 3
    else 1

/-- The exclusion list is empty. -/
def State.clearList (s : State) : State :=
  let s := { s with job := { s.job with excl := [], held := [] } }
  (s.put F.SEC_EXCL_STAT_entries 0 0).put F.SEC_EXCL_STAT_pending 0 0

/-- JOB_INSTALL: a write of SEC_JOB_CTRL with install (R372). -/
def execJobInstall (w : BarAcc) (s : State) : Res :=
  .next <| s.onWrite .SEC_JOB_CTRL 0 w fun _ =>
    if w.bits F.SEC_JOB_CTRL_install ≠ 1 then s
    else
      let s := s.writeReg .SEC_JOB_CTRL 0 w
      let a := s.get F.SEC_JOB_CTRL_addr 0 * 4096
      let r := s.installResult a
      let s := s.put F.SEC_JOB_STAT_result r 0
      if r ≠ 1 then s
      else
        let b := (s.memRead a 4096).bytes
        let s := { s with job := { s.job with block := b.take 3904 } }
        let s := (s.put F.SEC_JOB_STAT_installed 1 0).put F.SEC_JOB_STAT_k (fieldAt b 8 1) 0
        ((s.put F.SEC_JOB_STAT_n (fieldAt b 9 1) 0).clearList.put F.SEC_EXCL_STAT_generation 0 0).redigest

/-- JOB_CLEAR: a write of SEC_JOB_CTRL with clear (R372). -/
def execJobClear (w : BarAcc) (s : State) : Res :=
  .next <| s.onWrite .SEC_JOB_CTRL 0 w fun _ =>
    if w.bits F.SEC_JOB_CTRL_clear ≠ 1 ∨ w.bits F.SEC_JOB_CTRL_install = 1 then s
    else
      let s := s.writeReg .SEC_JOB_CTRL 0 w
      if s.isSet F.SEC_EXCL_STAT_shutter 0 || ((List.range 8).any fun k => s.sessState k != 0) || s.reflState != 0 then
        s.put F.SEC_JOB_STAT_result 4 0
      else
        let s := { s with job := { s.job with block := [] } }
        let s := ((s.put F.SEC_JOB_STAT_result 1 0).put F.SEC_JOB_STAT_installed 0 0).put F.SEC_JOB_STAT_k 0 0
        ((s.put F.SEC_JOB_STAT_n 0 0).clearList).redigest

/-! ## Applying a notice (R379-R382) -/

/-- The list or the shutter changed. -/
def State.exclEvent (s : State) : State := (s.put F.SEC_EXCL_STAT_excl_evt 1 0).vec0

/-- A port whose hello named node n carries management only. -/
def State.exclPort (s : State) (n p : Nat) : State :=
  match (s.port p).partner with
  | none => s
  | some h =>
    if h.node = n ∧ !h.unassigned ∧ !h.switch ∧ s.get F.FAB_HELLO_STAT_outcome p = 1 then
      (((s.put F.FAB_HELLO_STAT_outcome 2 p).put F.FAB_HELLO_STAT_excluded 1 p).put F.FAB_HELLO_STAT_hello_evt 1 p).movePort p
    else s

/-- An accepted EXCLUDE of another node (R379). -/
def State.excludeNode (s : State) (n : Nat) : State :=
  let s := { s with job := { s.job with excl := s.job.excl ++ [n] } }
  let s := s.put F.SEC_EXCL_STAT_entries s.job.excl.length 0
  let s := (s.endAllTo n 3 .eExcluded).colPeer n 6
  let s := (List.range 64).foldl (fun s p => s.exclPort n p) s
  (if s.reflPartner = n then s.reflLost 3 else s).exclEvent

/-- Nodes that this device has a flow or a request to. -/
def State.flowNodes (s : State) : List Nat :=
  ((s.fab.flows.map fun e => e.1) ++ (s.fab.reqs.map fun r => r.node) ++ (s.fab.ops.flatMap fun o => o.node :: o.nodes)).dedup

/-- The shutter closes (R380, R382). -/
def State.closeShutter (s : State) (full : Bool) : State :=
  let s := s.put F.SEC_EXCL_STAT_shutter 1 0
  let s := if full then s.put F.SEC_EXCL_STAT_full 1 0 else s
  let s := (s.flowNodes.filter fun n => n != s.ownNode).foldl (fun s n => s.endAllTo n 3 .eExcluded) s
  ((s.colBreakAll 6 .ePeerLost).reflLost 3).exclEvent

/-- What an accepted notice does (R379-R382). -/
def State.applyNotice (s : State) (readmit : Bool) (n : Nat) : State :=
  let own := n = s.ownNode ∧ s.isSet F.FAB_NODE_ID_assigned 0
  if readmit then
    if own then
      (if s.isSet F.SEC_EXCL_STAT_shutter 0 && !s.isSet F.SEC_EXCL_STAT_full 0 then (s.put F.SEC_EXCL_STAT_shutter 0 0).exclEvent else s)
    else if s.job.excl.contains n then
      let s := { s with job := { s.job with excl := s.job.excl.erase n } }
      (s.put F.SEC_EXCL_STAT_entries s.job.excl.length 0).exclEvent
    else s
  else if own then (if s.isSet F.SEC_EXCL_STAT_shutter 0 then s else s.closeShutter false)
  else if s.job.excl.contains n then s
  else if 4096 ≤ s.job.excl.length then (s.closeShutter true).logEvent 0x0010 0 [0x101, n]
  else s.excludeNode n

/-! ## Notices (R374-R377) -/

/-- Whether a notice breaks its layout (Table 13.8). -/
def noticeBad (b : List Byte) : Bool :=
  let n := fieldAt b 3 1
  fieldAt b 0 2 != 1 || (fieldAt b 2 1 != 1 && fieldAt b 2 1 != 2) || n == 0 || decide (7 < n) || b.length != 64 + 516 * n ||
  fieldAt b 4 4 == 0 || decide (2 ^ 20 ≤ fieldAt b 16 3) || !zeroAt b 19 1 || !zeroAt b 28 36 ||
  (List.range n).any fun j => !zeroAt b (65 + 516 * j) 3

/-- What its signatures cover: bytes 0-63, byte 3 taken as 0 (R374). -/
def noticeContent (b : List Byte) : List Byte := b.take 3 ++ [0] ++ (b.take 64).drop 4

/-- The distinct manager indices of its valid blocks: those of `good` whose index is below n (R374, R375). -/
def noticeManagers (b : List Byte) (good : List Nat) (n : Nat) : List Nat :=
  (((List.range (fieldAt b 3 1)).filter fun j => good.contains j).map fun j => fieldAt b (64 + 516 * j) 1).filter (fun m => decide (m < n)) |>.dedup

/-- Record the result of a notice (Table 13.9): last_result and a log record with what was signed and by whom. -/
def State.noticeResult (s : State) (code : Nat) (b : List Byte) (valid : List Nat) : State :=
  let s := (s.put F.SEC_EXCL_STAT_last_result code 0).logEvent 0x0010 0
    [code, fieldAt b 4 4, fieldAt b 16 3, (valid.map fun m => 2 ^ m).sum, fieldAt b 3 1 - valid.length]
  if code = 6 then s.pldm .conflict else s

/-- Accept a notice: applied, its generation taken, stored, told and forwarded (R365, R376, R378). -/
def State.acceptNotice (s : State) (b : List Byte) : State :=
  let g := fieldAt b 4 4
  let s := (s.applyNotice (fieldAt b 2 1 == 2) (fieldAt b 16 3)).put F.SEC_EXCL_STAT_generation g 0
  let s := ((s.memWrite (s.noticeSlot g) b).1).sendHellos
  (List.range 64).foldl (fun s p => s.forwardTo p) s

/-- The notices held. -/
def State.setHeld (s : State) (l : List (List Byte × Nat)) : State :=
  { s with job := { s.job with held := l } }.put F.SEC_EXCL_STAT_pending l.length 0

/-- Held notices whose predecessor has been applied apply in turn; n at most. -/
def State.applyHeld : Nat → State → State
  | 0, s => s
  | n + 1, s =>
    match s.job.held.find? fun e => fieldAt e.1 4 4 == s.get F.SEC_EXCL_STAT_generation 0 + 1 with
    | none => s
    | some e => applyHeld n ((s.setHeld (s.job.held.erase e)).acceptNotice e.1)

/-- A verified notice meets the list: the first result of Table 13.9 that applies. -/
def State.judgeNotice (s : State) (b : List Byte) (good : List Nat) : State :=
  let g := fieldAt b 4 4
  let cur := s.get F.SEC_EXCL_STAT_generation 0
  if !s.isSet F.SEC_JOB_STAT_installed 0 then s.noticeResult 7 b []
  else if noticeBad b then s.noticeResult 5 b []
  else if fieldAt b 8 8 ≠ fieldAt s.job.block 0 8 then s.noticeResult 4 b []
  else
    let valid := noticeManagers b good (s.get F.SEC_JOB_STAT_n 0)
    let quorum := decide (s.get F.SEC_JOB_STAT_k 0 ≤ valid.length)
    let same : Bool := match s.storedNotice g with | none => true | some o => noticeContent o == noticeContent b
    if g ≤ cur ∧ same then s.noticeResult 1 b valid
    else if !quorum then s.noticeResult 3 b valid
    else if g ≤ cur then s.noticeResult 6 b valid
    else if g = cur + 1 then
      let s := (s.noticeResult 0 b valid).acceptNotice b
      State.applyHeld s.job.held.length s
    else match s.job.held.find? fun e => fieldAt e.1 4 4 == g with
      | some e => s.noticeResult (if noticeContent e.1 = noticeContent b then 2 else 6) b valid
      | none =>
        if 64 ≤ s.job.held.length then s.noticeResult 8 b valid
        else (s.noticeResult 2 b valid).setHeld (s.job.held ++ [(b, s.time)])

/-- Enter the verification queue of 16 (R377). -/
def State.queueNotice (s : State) (b : List Byte) : State :=
  if 16 ≤ s.job.queue.length then s.noticeResult 8 b []
  else { s with job := { s.job with queue := s.job.queue ++ [b] } }

/-- NOTICE_SUBMIT: a write to SEC_NOTICE_SUBMIT (R377). -/
def execNoticeSubmit (w : BarAcc) (s : State) : Res :=
  .next <| s.onWrite .SEC_NOTICE_SUBMIT 0 w fun _ =>
    if !w.touches F.SEC_NOTICE_SUBMIT_addr then s
    else
      let a := w.bits F.SEC_NOTICE_SUBMIT_addr * 4096
      let h := s.memRead a 64
      let n := fieldAt h.bytes 3 1
      if !s.mapped a 64 ∨ n = 0 ∨ 7 < n ∨ !s.mapped a (64 + 516 * n) then s.queueNotice h.bytes
      else
        let d := s.memRead a (64 + 516 * n)
        s.queueNotice (if d.poisoned then [] else d.bytes)

/-- PLDM_NOTICE: the tray controller's path, over the firmware's endpoint (R377, R404). -/
def execPldmNotice (n : List Byte) (s : State) : Res :=
  .next <| if !s.mgmtUp ∨ s.kept then s.emit .pldmRefused else s.queueNotice n

/-- SIGNED_NOTICE: a fragment from a link partner; the last one queues the notice (R377). -/
def execSignedNotice (port : Fin 64) (f : NoticeFrag) (s : State) : Res :=
  .next <|
    let p := port.val
    let v := s.port p
    let drop := s.setPort p { v with frag := none }
    let take (sofar : List Byte) : State :=
      if f.index + 1 = f.count then drop.queueNotice (sofar ++ f.data)
      else s.setPort p { v with frag := some (sofar ++ f.data, f.index + 1, f.count, s.time) }
    if !s.linkUp p ∨ s.portState p = 6 ∨ s.kept then s
    else if f.rsv ∨ f.count = 0 ∨ 16 < f.count ∨ f.count ≤ f.index ∨ 232 < f.data.length ∨ (f.index + 1 < f.count ∧ f.data.length ≠ 232) then drop
    else if f.index = 0 then take []
    else match v.frag with
      | none => s
      | some (bs, next, count, t) =>
        if f.index ≠ next ∨ f.count ≠ count ∨ f.generation ≠ fieldAt bs 4 4 ∨ t + 1000000 < s.time then drop else take bs

/-- FRAGMENT_GAP_TIMEOUT: more than 1 ms between fragments (R377). -/
def execFragmentGapTimeout (port : Fin 64) (s : State) : Res :=
  .next <|
    match (s.port port).frag with
    | none => s
    | some (_, _, _, t) => (s.due (t + 1000001)).setPort port { s.port port with frag := none }

/-- NOTICE_VERIFIED: verification of the oldest queued notice ends; good: its blocks whose signature verifies (R374-R376). -/
def execNoticeVerified (good : List Nat) (s : State) : Res :=
  .next <|
    match s.job.queue with
    | [] => s
    | b :: rest => ({ s with job := { s.job with queue := rest } }).judgeNotice b good

/-- PENDING_NOTICE_EXPIRE: a held notice not applied within 10 s (R376). -/
def execPendingNoticeExpire (generation : BitVec 32) (s : State) : Res :=
  .next <|
    match s.job.held.find? fun e => fieldAt e.1 4 4 == generation.toNat with
    | none => s
    | some e => (s.due (e.2 + 10000000000)).setHeld (s.job.held.erase e)

end Sys2Proof.Machine
end

