-- ==== Sys2Proof/Machine/ConfigBanks.lean ====
section
/-! DEFINITION. Banked units: shadow, live and previous banks, CONFIG_COMMIT and CONFIG_REVERT (R147-R149, R210-R217, R238, R271, R320,
R394). -/

namespace Sys2Proof.Machine

/-! ## Banks -/

/-- The live registers of a banked unit (Table 7.12). -/
def unitRegs (u : Nat) : List RegName :=
  if u = 0 then [.MEM_MAP] else if u = 1 then [.FAB_REGION] else if u = 2 then [.FAB_BOARD, .FAB_ROUTE]
  else if u = 3 then [.HUB_PART_MAP] else if u = 4 then [.CTX] else if u = 5 then [.COL_DEFAULTS]
  else if u = 6 then [.WIN_PORT_CFG] else if u = 7 then [.TEL_MON_CFG] else [.PWR_CAP, .PWR_LAMP_CFG]

/-- The codes of a unit's live fields. -/
def unitCodes (u : Nat) : List Nat := (unitRegs u).flatMap fun r => r.fields.map fun f => f.code

/-- A key of field codes that lie off above the live codes cs. -/
def bankKey (cs : List Nat) (off k : Nat) : Bool := decide (off ≤ k % 1024) && cs.contains (k % 1024 - off)

/-- The bank at distance off, under live keys: 0 the live bank of the register store, 512 the shadow. -/
def takeBank (m : SMap Nat) (cs : List Nat) (off : Nat) : SMap Nat :=
  (m.filter fun e => bankKey cs off e.1).map fun e => (e.1 - off, e.2)

/-- Put a bank in place of the one at distance off. -/
def putBank (m : SMap Nat) (cs : List Nat) (off : Nat) (b : SMap Nat) : SMap Nat :=
  b.foldr (fun e m => SMap.insert m (e.1 + off) e.2) (SMap.drop m fun k => bankKey cs off k)

def State.liveBank (s : State) (u : Nat) : SMap Nat := takeBank s.regs (unitCodes u) 0
def State.shadowBank (s : State) (u : Nat) : SMap Nat := takeBank s.regs (unitCodes u) 512
def State.oldBank (s : State) (u : Nat) : SMap Nat := takeBank s.prevBank (unitCodes u) 0

/-- Replace a unit's live, shadow or previous bank. -/
def State.setLive (s : State) (u : Nat) (b : SMap Nat) : State := { s with regs := putBank s.regs (unitCodes u) 0 b }
def State.setShadow (s : State) (u : Nat) (b : SMap Nat) : State := { s with regs := putBank s.regs (unitCodes u) 512 b }
def State.setOld (s : State) (u : Nat) (b : SMap Nat) : State := { s with prevBank := putBank s.prevBank (unitCodes u) 0 b }

/-- HUB_CFG_STATUS.state: 0 idle, 1 committing, 2 partial, 3 reverting (Table 7.23). -/
def State.cfgState (s : State) : Nat := s.get F.HUB_CFG_STATUS_state 0

/-- The bank that unit u is to take. -/
def State.nextBank (s : State) (u : Nat) : SMap Nat := if s.cfgState = 3 then s.oldBank u else s.shadowBank u

/-- Units whose shadow differs from live. -/
def State.changedUnits (s : State) : List Nat := (List.range 9).filter fun u => s.shadowBank u != s.liveBank u

/-- The mask of a list of units. -/
def unitMask (l : List Nat) : Nat := (List.range 16).foldl (fun m u => if l.contains u then m + 2 ^ u else m) 0

/-- The units of a mask, ascending. -/
def maskUnits (m : Nat) : List Nat := (List.range 9).filter fun u => bitAt m u

/-! ## Validation (R213 step 1) -/

/-- The value of a field in a bank. -/
def bankGet (b : SMap Nat) (f : Fld) (i : Nat) : Nat := SMap.get f.reset b (f.key i)

/-- Instances at which a field of a bank is 1. -/
def bankOnes (b : SMap Nat) (f : Fld) : List Nat := b.filterMap fun e => if e.1 % 1024 = f.code ∧ e.2 = 1 then some (e.1 / 1024) else none

/-- Whether two different members of a list stand in a relation. -/
def anyPair (l : List Nat) (r : Nat → Nat → Bool) : Bool := l.any fun i => l.any fun j => decide (i < j) && r i j

/-- Whether [a, a + n) and [b, b + m) overlap. -/
def spansMeet (a n b m : Nat) : Bool := decide (a < b + m) && decide (b < a + n)

/-- A memory map entry of a bank. -/
def bankEnt (b : SMap Nat) (i : Nat) : MapEnt :=
  { valid := bankGet b F.MEM_MAP_valid i == 1, spread := bankGet b F.MEM_MAP_spread i == 1
    parity := bankGet b F.MEM_MAP_parity i == 1, stack := bankGet b F.MEM_MAP_stack i
    mediaFirst := bankGet b F.MEM_MAP_media_first i, base := bankGet b F.MEM_MAP_base i, size := bankGet b F.MEM_MAP_size i }

/-- Granules that a region's size must be a multiple of (Table 6.3). -/
def MapEnt.unit (m : MapEnt) : Nat := if m.parity then 15 else if m.spread then 16 else 1

/-- Line blocks a region takes in each of its stacks (Table 6.3, R147). -/
def MapEnt.blocks (m : MapEnt) : Nat :=
  if m.parity then (if m.spread then m.size / 15 else m.size / 15 * 16) else if m.spread then m.size / 16 else m.size

/-- Stacks a region takes its media from. -/
def MapEnt.stacks (m : MapEnt) : List Nat := if m.spread then List.range 16 else [m.stack]

/-- Whether two regions share media. -/
def MapEnt.mediaMeet (m k : MapEnt) : Bool :=
  (m.spread || k.spread || m.stack == k.stack) && spansMeet m.mediaFirst m.blocks k.mediaFirst k.blocks

/-- Whether an entry is new or changed: no entry with all the same field values was valid in the other bank (R149). -/
def newEntry (old : SMap Nat) (m : MapEnt) : Bool := !(bankOnes old F.MEM_MAP_valid).any fun j => bankEnt old j == m

/-- Whether a memory map bank breaks R148. -/
def State.mapBad (s : State) (b : SMap Nat) : Bool :=
  let l := bankOnes b F.MEM_MAP_valid
  (l.any fun i =>
    let m := bankEnt b i
    m.size == 0 || m.size % m.unit != 0 || decide (589824 < m.base + m.size) || decide (36864 < m.mediaFirst + m.blocks) ||
    (m.spread && m.stack != 0) ||
    (newEntry (s.liveBank 0) m && m.stacks.any fun k => (s.stk k).retired.any fun r => decide (m.mediaFirst ≤ r) && decide (r < m.mediaFirst + m.blocks))) ||
  anyPair l fun i j =>
    let m := bankEnt b i
    let k := bankEnt b j
    spansMeet m.base m.size k.base k.size || m.mediaMeet k

/-- Whether the granules from g on, n of them, all lie in valid entries of a memory map bank; fuel bounds the entries crossed. -/
def granulesHeld (b : SMap Nat) (g n : Nat) : Nat → Bool
  | 0 => n == 0
  | k + 1 =>
    if n = 0 then true
    else match (bankOnes b F.MEM_MAP_valid).find? fun i => decide ((bankEnt b i).base ≤ g) && decide (g < (bankEnt b i).base + (bankEnt b i).size) with
      | none => false
      | some i =>
        let past := (bankEnt b i).base + (bankEnt b i).size
        granulesHeld b past (n - (past - g)) k

/-- Whether a region table breaks R238, under the memory map bank that will be live. -/
def regionsBad (b map : SMap Nat) : Bool :=
  let l := bankOnes b F.FAB_REGION_valid
  let base (i : Nat) := bankGet b F.FAB_REGION_base i
  let size (i : Nat) := bankGet b F.FAB_REGION_size i
  (l.any fun i => size i == 0 || decide (589824 < base i + size i) || !granulesHeld map (base i) (size i) 4097) ||
  anyPair l fun i j => spansMeet (base i) (size i) (base j) (size j)

/-- Whether a node map breaks the list after Table 8.7a. -/
def State.routesBad (s : State) (b : SMap Nat) : Bool :=
  let l := bankOnes b F.FAB_ROUTE_valid
  let len (i : Nat) := bankGet b F.FAB_ROUTE_prefix_len i
  let bits (i : Nat) := bankGet b F.FAB_ROUTE_prefix i / 2 ^ (20 - len i)
  (b.any fun e => e.1 % 1024 == F.FAB_ROUTE_prefix_len.code && decide (20 < e.2)) ||
  (l.any fun i => bankGet b F.FAB_ROUTE_ports i == 0) ||
  (anyPair l fun i j => len i == len j && bits i == bits j) ||
  ((bankOnes b F.FAB_BOARD_valid).any fun k => s.isSet F.FAB_NODE_ID_assigned 0 && bankGet b F.FAB_BOARD_node k == s.ownNode)

/-- Whether an instance of a probe exists (Table 14.1). -/
def probeHas (code n : Nat) : Bool :=
  let wave (i : Nat) := decide (i < 1170) && !(decide (1161 ≤ i))
  if code = 1 then decide (n < 64) else if code = 2 ∨ code = 5 then decide (n < 16) else if code = 3 then true
  else if code = 4 then decide (n < 9) else if code = 6 then wave n else if code = 7 then wave (n / 2)
  else if code = 8 then decide (n < 16) else if code = 9 then decide (n < 7) else if code = 10 then decide (n < 2)
  else if code = 11 ∨ code = 12 then n == 0 else if code = 13 then decide (n < 4) else false

/-- Whether a monitor set-up breaks R394. -/
def monitorsBad (b : SMap Nat) : Bool :=
  (bankOnes b F.TEL_MON_CFG_en).any fun u =>
    !probeHas (bankGet b F.TEL_MON_CFG_probe u) (bankGet b F.TEL_MON_CFG_instance u) || bankGet b F.TEL_MON_CFG_window_us u == 0

/-- Whether a valid context entry breaks Table 7.5: a function past 15, sync objects past 262,143, a hub scratchpad grant off its
64 KiB steps or past the scratchpad, a range off its 2 MiB steps. -/
def contextsBad (b : SMap Nat) : Bool :=
  (bankOnes b F.CTX_valid).any fun x =>
    let hb := bankGet b F.CTX_hubsp_base x
    let hs := bankGet b F.CTX_hubsp_size x
    decide (15 < bankGet b F.CTX_function x) || decide (262144 < bankGet b F.CTX_sync_first x + bankGet b F.CTX_sync_count x) ||
    hb % 2 ^ 16 != 0 || hs % 2 ^ 16 != 0 || decide (2 ^ 27 < hb + hs) ||
    ([F.CTX_r0_base, F.CTX_r1_base, F.CTX_r2_base, F.CTX_r3_base, F.CTX_r4_base, F.CTX_r5_base, F.CTX_r6_base, F.CTX_r7_base,
      F.CTX_r8_base, F.CTX_r9_base, F.CTX_r10_base, F.CTX_r11_base].any fun f => bankGet b f x % 2 ^ 21 != 0)

/-- Whether unit u's shadow fails its owner's rules; units: those that the same commit selects. -/
def State.shadowBad (s : State) (units : List Nat) (u : Nat) : Bool :=
  let b := s.shadowBank u
  if u = 0 then s.mapBad b
  else if u = 1 then regionsBad b (if units.contains 0 then s.shadowBank 0 else s.liveBank 0)
  else if u = 2 then s.routesBad b
  else if u = 4 then contextsBad b
  else if u = 5 then
    !colValuesOk (bankGet b F.COL_DEFAULTS_chunk_kib 0, bankGet b F.COL_DEFAULTS_slots 0, bankGet b F.COL_DEFAULTS_timeout 0)
  else if u = 6 then
    b.any fun e => e.1 % 1024 == F.WIN_PORT_CFG_min_width.code && (decide (e.2 < 8) || decide (16 < e.2))
  else if u = 7 then monitorsBad b
  else if u = 8 then
    decide (bankGet b F.PWR_CAP_cap_w 0 < 1200) || decide (4200 < bankGet b F.PWR_CAP_cap_w 0) ||
    (s.setupLocked && bankGet b F.PWR_LAMP_CFG_lamp_en 0 == 0)
  else false

/-! ## Switching units (R213, R214, R216) -/

/-- A unit's switch limit in ns (Table 7.12). -/
def State.unitLimit (s : State) (u : Nat) : Nat :=
  if u = 3 ∨ u = 6 then s.get F.HUB_CFG_CTRL_quiesce_ms 0 * 1000000 else if u = 7 ∨ u = 8 then 1000 else 50000

/-- Unit u starts: the map's new entries begin their fills (R149); the ports of changed links drain (R271), the bank they leave kept
for a revert. cont: the unit goes on after it missed its limit. -/
def State.startUnit (s : State) (u : Nat) (rest : List Nat) (cont : Bool) : State :=
  let s := { s with commit := { s.commit with unit := some u, todo := rest, since := s.time } }
  if u = 0 then
    if cont then s
    else
      let b := s.nextBank 0
      { s with mem := { s.mem with filling := (bankOnes b F.MEM_MAP_valid).filter fun i => newEntry (s.liveBank 0) (bankEnt b i) } }
  else if u = 6 then
    let s := if cont then s else if s.cfgState = 3 then s.setShadow 6 (s.liveBank 6) else s.setOld 6 (s.liveBank 6)
    (List.range 64).foldl (fun s p => s.startAdopt p) s
  else s

/-- A commit or revert ends: the event, vector 0, its outcome (R213). -/
def State.commitEnd (s : State) (st : Status) (detail : Nat) : State :=
  let w := s.commit.work
  let s := ({ s with commit := { s.commit with work := none } }.put F.HUB_CFG_STATUS_done_evt 1 0).vec0
  match w with | none => s | some w => s.finish w st detail

/-- Every unit has switched: committed holds the new epoch, or the earlier one after a revert; the locks are released. -/
def State.commitDone (s : State) : State :=
  let rev := s.cfgState == 3
  let s := s.put F.HUB_CFG_EPOCH_committed (if rev then s.commit.before else s.get F.HUB_CFG_EPOCH_highest 0) 0
  let s := { s with commit := { s.commit with unit := none, todo := [], locks := [], revertible := !rev } }
  let s := (s.put F.HUB_CFG_STATUS_state 0 0).put F.HUB_CFG_STATUS_switched 0 0
  (s.put F.HUB_CFG_STATUS_from_revert 0 0).commitEnd .ok 0

/-- The next unit starts, or all have switched. -/
def State.commitNext (s : State) (cont : Bool) : State :=
  match s.commit.todo with
  | [] => s.commitDone
  | u :: us => s.startUnit u us cont

/-- Whether the unit meets its switch condition (Table 7.12). -/
def State.unitReady (s : State) (u : Nat) : Bool :=
  if u = 0 then s.mem.filling.isEmpty
  else if u = 3 then (List.range 16).all fun q => !s.dieSwitching (q / 4) || (s.seq q).launch.isNone
  else if u = 6 then (List.range 64).all fun p => !(s.port p).adopting && !s.portDiffers p
  else true

/-- Move a unit's banks: a commit moves live into previous and shadow into live; a revert previous into live and live into shadow. -/
def State.moveBanks (s : State) (u : Nat) : State :=
  if u = 6 then s
  else if s.cfgState = 3 then (s.setShadow u (s.liveBank u)).setLive u (s.oldBank u)
  else (s.setOld u (s.liveBank u)).setLive u (s.shadowBank u)

/-- Monitor units whose live configuration differs between two banks. -/
def changedMonitors (a b : SMap Nat) : List Nat :=
  (List.range 128).filter fun u => (a.filter fun e => e.1 / 1024 == u) != (b.filter fun e => e.1 / 1024 == u)

/-- Unit u switches. -/
def State.switchUnit (s : State) (u : Nat) : State :=
  let s : State := if u = 7 then (changedMonitors (s.liveBank 7) (s.nextBank 7)).foldl (fun s k => s.monSwitch k) s else s
  let s := s.moveBanks u
  let s := if u = 5 then s.redigest else s
  let sw := s.get F.HUB_CFG_STATUS_switched 0
  let s := s.put F.HUB_CFG_STATUS_switched (if s.cfgState = 3 then sw - 2 ^ u else sw ||| 2 ^ u) 0
  { s with commit := { s.commit with locks := if s.cfgState = 3 then s.commit.locks.erase u else s.commit.locks } }

/-- Ports that have gone down since they began to drain adopt at once (R271). -/
def State.adoptDown (s : State) : State :=
  (List.range 64).foldl (fun s p => if s.portDiffers p ∧ s.portState p ≠ 3 ∧ s.portState p ≠ 4 then s.adoptPort p else s) s

/-- COMMIT_UNIT_SWITCHED: the unit that started last meets its condition and switches; the next starts, or the commit or revert
completes (R213, R216). -/
def execCommitUnitSwitched (s : State) : Res :=
  .next <|
    match s.commit.unit with
    | none => s
    | some u =>
      let s := if u = 6 then s.adoptDown else s
      if s.unitReady u then (s.switchUnit u).commitNext false else s

/-- Ports that were draining for the commit carry traffic again. -/
def State.stopAdopting (s : State) : State :=
  (List.range 64).foldl (fun s p =>
    let v := s.port p
    if !v.adopting then s
    else
      let s := s.setPort p { v with adopting := false }
      if s.portState p = 4 then s.setPortState p 3 else s) s

/-- COMMIT_LIMIT_MISSED: the unit has not switched within its limit: the commit or revert stops as partial (R214, R216). -/
def execCommitLimitMissed (s : State) : Res :=
  .next <|
    match s.commit.unit with
    | none => s
    | some u =>
      let s := s.due (s.commit.since + s.unitLimit u)
      let rev := s.cfgState == 3
      let mask := s.get F.HUB_CFG_STATUS_switched 0
      let s := if u = 6 then s.stopAdopting else s
      let left := u :: s.commit.todo
      let s := { s with commit := { s.commit with unit := none, todo := left, locks := if rev then maskUnits mask else left } }
      let s := (s.put F.HUB_CFG_STATUS_state 2 0).put F.HUB_CFG_STATUS_missed u 0
      (s.putB F.HUB_CFG_STATUS_from_revert rev 0).commitEnd .eConfigPartial mask

/-- A chip reset found a commit or revert under way: the state is partial, and a unit that was switching stays on its earlier bank
(R217). -/
def State.commitReset (s : State) : State :=
  if s.cfgState = 0 ∨ s.cfgState = 2 then s
  else
    let rev := s.cfgState == 3
    let s : State := match s.commit.unit with
      | none => s
      | some u =>
        let s := if u = 6 then s.setLive 6 (if rev then s.shadowBank 6 else s.oldBank 6) else s
        { s with commit := { s.commit with unit := none, todo := u :: s.commit.todo } }.put F.HUB_CFG_STATUS_missed u 0
    let s := (s.put F.HUB_CFG_STATUS_state 2 0).putB F.HUB_CFG_STATUS_from_revert rev 0
    { s with commit := { s.commit with work := none, locks := if rev then maskUnits (s.get F.HUB_CFG_STATUS_switched 0) else s.commit.todo } }

/-! ## CONFIG_COMMIT and CONFIG_REVERT -/

/-- CONFIG_COMMIT: a new commit, or the continuation of a partial one; a second one waits for the first to end (R212-R215). -/
def execConfigCommit (work : Work) (s : State) : Res :=
  .next <|
    match s.fresh work 0x0A with
    | none => s
    | some it =>
      let epoch := fieldAt it.payload 0 4
      let high := s.get F.HUB_CFG_EPOCH_highest 0
      let begin_ (s : State) : State := (({ s with commit := { s.commit with work := some work } }.put F.HUB_CFG_STATUS_state 1 0).begin_ work)
      if s.commit.work.isSome then s
      else if s.cfgState = 2 then
        if s.isSet F.HUB_CFG_STATUS_from_revert 0 ∨ epoch ≠ high then s.finish work .eFormat 32
        else (begin_ s).commitNext true
      else if epoch ≠ (high + 1) % 2 ^ 32 then s.finish work .eFormat 32
      else
        let mask := fieldAt it.payload 4 2
        let units := if mask = 0 then s.changedUnits else maskUnits mask
        match units.find? fun u => s.shadowBad units u with
        | some u => s.finish work .eFormat (0x100 + u)
        | none =>
          let s := (begin_ s).put F.HUB_CFG_EPOCH_highest epoch 0
          let s := s.put F.HUB_CFG_STATUS_switched 0 0
          { s with commit := { s.commit with locks := units, todo := units, units := units, revertible := false
                                             before := s.get F.HUB_CFG_EPOCH_committed 0 } }.commitNext false

/-- CONFIG_REVERT: the units of a partial or completed commit go back, in descending order, or a partial revert goes on (R216). -/
def execConfigRevert (work : Work) (s : State) : Res :=
  .next <|
    match s.fresh work 0x0B with
    | none => s
    | some it =>
      let epoch := fieldAt it.payload 0 4
      let high := s.get F.HUB_CFG_EPOCH_highest 0
      let begin_ (s : State) : State := (({ s with commit := { s.commit with work := some work } }.put F.HUB_CFG_STATUS_state 3 0).begin_ work)
      let back (s : State) (units : List Nat) : State :=
        let s := (begin_ s).put F.HUB_CFG_STATUS_switched (unitMask units) 0
        { s with commit := { s.commit with locks := units, todo := units.reverse } }.commitNext false
      if s.commit.work.isSome then s
      else if s.cfgState = 2 then
        if epoch ≠ high then s.finish work .eFormat 32
        else if s.isSet F.HUB_CFG_STATUS_from_revert 0 then (begin_ s).commitNext true
        else
          let half := s.get F.HUB_CFG_STATUS_missed 0 == 6 && s.commit.todo.contains 6 && s.oldBank 6 != s.liveBank 6
          let s := { s with mem := { s.mem with filling := [] } }
          back s (maskUnits (s.get F.HUB_CFG_STATUS_switched 0 ||| if half then 64 else 0))
      else if s.commit.revertible ∧ epoch = s.get F.HUB_CFG_EPOCH_committed 0 then back s s.commit.units
      else s.finish work .eFormat 32

/-! ## Zero fills (R149) -/

/-- Whether a region takes its media from burst b of the media store. -/
def MapEnt.hasBurst (m : MapEnt) (b : Nat) : Bool :=
  let line := b % burstsPerChannel / 32
  (m.spread || b / burstsPerChannel / 32 == m.stack) && decide (m.mediaFirst ≤ line) && decide (line < m.mediaFirst + m.blocks)

/-- Channels of a region, as 32 * stack + logical channel. -/
def MapEnt.channels (m : MapEnt) : List Nat := m.stacks.flatMap fun k => (List.range 32).map fun c => 32 * k + c

/-- Zero a region's media and clear its poison. -/
def State.fillMedia (s : State) (m : MapEnt) : State :=
  let d := s.mem.dram
  let holes := m.channels.foldl (fun h c =>
    cutHoles h ((c * burstsPerChannel + 32 * m.mediaFirst) * 32) ((c * burstsPerChannel + 32 * (m.mediaFirst + m.blocks)) * 32)) s.mem.holes
  { s with mem := { s.mem with holes := holes
                               dram := { bytes := SMap.drop d.bytes fun k => m.hasBurst (k / 2048)
                                         poison := SMap.drop d.poison fun k => m.hasBurst (k / 32) } } }

/-- ENTRY_ZERO_FILL_DONE: the fill of a new or changed entry ends (R149). -/
def execEntryZeroFillDone (i : Fin 4096) (s : State) : Res :=
  .next <|
    if !s.mem.filling.contains i.val then s
    else
      let s := s.fillMedia (bankEnt (s.nextBank 0) i)
      { s with mem := { s.mem with filling := s.mem.filling.erase i } }

end Sys2Proof.Machine
end

