-- ==== Sys2Proof/Machine/MemRepair.lean ====
section
/-! DEFINITION. Memory controllers and repair: accesses with what the check code finds, rows, lanes, retrains, evacuations, rebuilds and
the persistent remap list (R153-R184). -/

namespace Sys2Proof.Machine

/-- MEM_CH_STAT.state: 0 spare idle, 1 active, 2 active in retrain, 3 evacuation source, 4 evacuation or rebuild target, 5 lost, 6
retired (Table 6.9). -/
def State.chState (s : State) (i : Nat) : Nat := s.get F.MEM_CH_STAT_state i
def State.setChState (s : State) (i v : Nat) : State := s.put F.MEM_CH_STAT_state v i
def State.chLogical (s : State) (i : Nat) : Nat := s.get F.MEM_CH_STAT_logical i
def State.setChLogical (s : State) (i v : Nat) : State := s.put F.MEM_CH_STAT_logical v i
def State.repairEvt (s : State) (i : Nat) : State := s.put F.MEM_CH_STAT_repair_evt 1 i

/-- A memory event of channel i (Table 6.7). -/
def State.chEvent (s : State) (event i : Nat) : State :=
  s.logMem { event := event, stack := i / 34, channel := if s.chLogical i < 32 then s.chLogical i else 0xFF, physical := i % 34 }

/-- A change for the persistent remap list (R177). -/
def State.toRemapList (s : State) (e : RemapEntry) : State :=
  { s with mem := { s.mem with remapToWrite := s.mem.remapToWrite ++ [e] } }

/-- Whether repair of a stack stands still: its stacks are in self-refresh, or a chip reset is at work (R182). -/
def State.repairPaused (s : State) (stack : Nat) : Bool := s.mem.refresh.contains (stack / 4) || s.rst.keepers

/-- The physical channel that serves a burst of a logical channel (R164, R170). -/
def State.servingChan (s : State) (stack chan burst : Nat) : Option Nat :=
  (s.physOf stack chan).map fun i =>
    match (s.stk stack).repair with
    | some r => if r.src = i ∧ burst < s.get F.MEM_CH_STAT_pointer r.dst then r.dst else i
    | none => i

/-! ## Retrains (R178, R181) -/

/-- Start the stack's next retrain: error-triggered ones first. -/
def State.startRetrain (s : State) (stack : Nat) : State :=
  let v := s.stk stack
  if v.retrain.isSome then s
  else match (v.retrainQ.find? fun r => r.error).or v.retrainQ.head? with
    | none => s
    | some r =>
      let s := s.setStk stack { v with retrain := some r, retrainQ := v.retrainQ.filter fun x => x.phys != r.phys }
      if s.chState r.phys = 1 then s.setChState r.phys 2 else s

/-- Whether channel i may be retrained: no evacuation, rebuild, loss or retirement has it. -/
def State.mayRetrain (s : State) (i : Nat) : Bool := decide (s.chState i ≤ 2)

/-- Queue a retrain of channel i. -/
def State.queueRetrain (s : State) (i : Nat) (error : Bool) : State :=
  let v := s.stk (i / 34)
  if !s.mayRetrain i || (match v.retrain with | some r => r.phys == i | none => false) then s
  else
    let q := if v.retrainQ.any fun r => r.phys == i then v.retrainQ.map fun r => if r.phys = i then { r with error := r.error || error } else r
      else v.retrainQ ++ [{ phys := i, error := error }]
    (s.setStk (i / 34) { v with retrainQ := q }).startRetrain (i / 34)

/-- Drop channel i's retrain, queued or running. -/
def State.dropRetrain (s : State) (i : Nat) : State :=
  let v := s.stk (i / 34)
  let mine := match v.retrain with | some r => r.phys == i | none => false
  let s := s.setStk (i / 34) { v with retrain := if mine then none else v.retrain, retrainQ := v.retrainQ.filter fun r => r.phys != i }
  let s := if s.chState i = 2 then s.setChState i 1 else s
  if mine then s.startRetrain (i / 34) else s

/-! ## Evacuations and rebuilds (R164-R171) -/

/-- A spare channel of the stack that is free. -/
def State.freeSpare (s : State) (stack : Nat) : Option Nat :=
  ((List.range 34).map (34 * stack + ·)).find? fun i => s.chState i == 0

/-- Start the stack's next repair: rebuilds first, then evacuations, each by time of detection; one that finds no spare is not
started and NO_SPARE_CHANNEL is logged (R167). fuel bounds those passed over. -/
def State.startRepair (s : State) (stack : Nat) : Nat → State
  | 0 => s
  | fuel + 1 =>
    let v := s.stk stack
    if v.repair.isSome then s
    else match (v.repairQ.find? fun r => r.rebuild).or v.repairQ.head? with
      | none => s
      | some r =>
        let s := s.setStk stack { v with repairQ := v.repairQ.filter fun x => x.src != r.src }
        match s.freeSpare stack with
        | none => startRepair (s.chEvent 0x0A r.src) stack fuel
        | some d =>
          let s := (s.dropRetrain d).dropRetrain r.src
          let s := s.setStk stack { s.stk stack with repair := some { r with dst := d } }
          let s := (((s.setChState d 4).put F.MEM_CH_STAT_pointer 0 d).repairEvt d).repairEvt r.src
          if r.rebuild then s else (s.setChState r.src 3).chEvent 0x05 r.src

/-- Queue an evacuation of an active channel; with no spare free NO_SPARE_CHANNEL is logged and nothing is done (R163, R167). -/
def State.queueEvacuation (s : State) (i : Nat) : State :=
  let v := s.stk (i / 34)
  if s.chState i ≠ 1 ∧ s.chState i ≠ 2 then s
  else if v.repairQ.any fun r => r.src == i then s
  else if (s.freeSpare (i / 34)).isNone then s.chEvent 0x0A i
  else
    let s := s.dropRetrain i
    let v := s.stk (i / 34)
    let s := s.setStk (i / 34) { v with repairQ := v.repairQ ++ [{ rebuild := false, src := i, logical := s.chLogical i, detected := s.time }] }
    s.startRepair (i / 34) 40

/-- The repair of a stack ends: the target serves the logical channel and the source is retired, its row remaps left behind. -/
def State.repairEnds (s : State) (stack : Nat) (r : Repair) : State :=
  let s := s.setStk stack { s.stk stack with repair := none }
  let s := (s.setChLogical r.dst r.logical).setChState r.dst 1
  let s := (s.setChLogical r.src 0x3F).setChState r.src 6
  ((s.repairEvt r.src).repairEvt r.dst).toRemapList (.channel r.src)

/-- Bursts of a stack that parity regions hold, as intervals (R170). -/
def State.parityRuns (s : State) (stack : Nat) : List (Nat × Nat) :=
  (s.validMaps.map s.mapEnt).filterMap fun m =>
    if m.parity ∧ (m.spread ∨ m.stack = stack) then some (32 * m.mediaFirst, 32 * (m.mediaFirst + m.blocks)) else none

/-- The first burst of a parity line at or after p. -/
def State.nextParity (s : State) (stack p : Nat) : Option Nat :=
  ((s.parityRuns stack).filterMap fun r => if p < r.2 then some (max p r.1) else none).min?

/-- Poison a run of bursts of a logical channel. -/
def State.poisonRun (s : State) (stack chan : Nat) (run : Nat × Nat) : State :=
  if run.1 < run.2 then
    { s with mem := { s.mem with holes := (sectorOf stack chan run.1, sectorOf stack chan run.2) :: s.mem.holes } }
  else s

/-- Poison every burst from lo on of a logical channel that lies outside parity lines (R166). -/
def State.poisonPlain (s : State) (stack chan lo : Nat) : State :=
  let runs := (s.parityRuns stack).foldl (fun h r => cutHoles h r.1 r.2) [(lo, burstsPerChannel)]
  runs.foldl (fun s r => s.poisonRun stack chan r) s

/-- The rebuild of a stack has no line left: lost bursts outside parity lines hold the poison pattern, and the spare becomes the
logical channel (R166, R170). -/
def State.rebuildEnds (s : State) (stack : Nat) (r : Repair) : State :=
  let s := s.poisonPlain stack r.logical r.base
  ((s.repairEnds stack r).chEvent 0x08 r.dst).startRepair stack 40

/-- REBUILD_LINE: the next parity line's lost member is written to the spare, poisoned where it cannot be rebuilt (R170, R171). -/
def execRebuildLine (stack : Fin 16) (s : State) : Res :=
  .next <|
    match (s.stk stack).repair with
    | none => s
    | some r =>
      if !r.rebuild || s.repairPaused stack then s
      else match s.nextParity stack (s.get F.MEM_CH_STAT_pointer r.dst) with
        | none => s.rebuildEnds stack r
        | some b =>
          let s := (List.range 32).foldl (fun s k =>
            if s.lineBroken stack r.logical b k then s.setDram (s.mem.dram.mark (sectorOf stack r.logical b + k) true) else s) s
          let s := s.put F.MEM_CH_STAT_pointer (b + 1) r.dst
          if (s.nextParity stack (b + 1)).isNone then s.rebuildEnds stack r else s

/-- A second channel of a parity group is lost while the first is under rebuild: the rebuild stops at its pointer, and the lost
members of the lines from there on are poisoned (R171). -/
def State.rebuildStops (s : State) (stack second : Nat) (r : Repair) : State :=
  let p := s.get F.MEM_CH_STAT_pointer r.dst
  let runs := (s.parityRuns stack).map fun x => (max p x.1, x.2)
  let s := runs.foldl (fun s x => (s.poisonRun stack r.logical x).poisonRun stack second x) s
  let live := runs.filter fun x => decide (x.1 < x.2)
  let first := ((live.map fun x => x.1).min?).getD p
  let last := ((live.map fun x => x.2 - 1).max?).getD p
  let s := s.poisonPlain stack r.logical r.base
  (s.repairEnds stack r).logMem { event := 0x09, stack := stack, channel := r.logical, channel2 := second, first := first, last := last }

/-- Channel i is lost (R166, R171). -/
def State.loseChannel (s : State) (i : Nat) : State :=
  let stack := i / 34
  let s := s.dropRetrain i
  let s := ((s.setChState i 5).put F.MEM_CH_STAT_loss_evt 1 i).chEvent 0x07 i
  let s := s.setStk stack { s.stk stack with repairQ := (s.stk stack).repairQ.filter fun r => r.src != i }
  let s : State := match (s.stk stack).repair with
    | some r => if r.rebuild ∧ r.logical / 16 = s.chLogical i / 16 then s.rebuildStops stack (s.chLogical i) r else s
    | none => s
  match (s.stk stack).repair with
  | some r =>
    if r.src = i then
      s.setStk stack { s.stk stack with repair := some { r with rebuild := true, base := s.get F.MEM_CH_STAT_pointer r.dst } }
    else
      s.setStk stack { s.stk stack with
        repairQ := (s.stk stack).repairQ ++ [{ rebuild := true, src := i, logical := s.chLogical i, detected := s.time }] }
  | none =>
    (s.setStk stack { s.stk stack with
      repairQ := (s.stk stack).repairQ ++ [{ rebuild := true, src := i, logical := s.chLogical i, detected := s.time }] }).startRepair stack 40

/-- Whether what the check code found within 1 ms loses the channel: 16 sectors in two banks (R165). -/
def State.lostByErrors (s : State) (i : Nat) : Bool :=
  let l := (s.chan i).uncorr.filter fun e => decide (s.time < e.1 + 1000000)
  decide (16 ≤ (l.map fun e => e.2.2).dedup.length) && decide (2 ≤ (l.map fun e => e.2.1).dedup.length)

/-- A channel that serves no logical channel of its own is lost: an idle spare leaves service; with the target of an evacuation or
rebuild the bursts already moved are lost, so the repair starts over as a rebuild onto another spare (log entry 154). -/
def State.loseSpare (s : State) (i : Nat) : State :=
  let stack := i / 34
  let s := s.dropRetrain i
  let s := ((s.setChState i 5).put F.MEM_CH_STAT_loss_evt 1 i).chEvent 0x07 i
  match (s.stk stack).repair with
  | none => s
  | some r =>
    if r.dst ≠ i then s
    else
      let s := s.setStk stack { s.stk stack with repair := none }
      if s.chState r.src ≠ 5 then s.loseChannel r.src
      else (s.setStk stack { s.stk stack with
        repairQ := (s.stk stack).repairQ ++ [{ rebuild := true, src := r.src, logical := r.logical, detected := r.detected }] }).startRepair stack 40

/-- CHANNEL_LOST: the command path gives no answer for 1 µs, or errors lose the channel (R165, R166). -/
def execChannelLost (i : Fin 544) (silent : Bool) (s : State) : Res :=
  .next <|
    let st := s.chState i
    if st = 0 ∨ st = 4 then (if silent then s.loseSpare i else s)
    else if st ≠ 1 ∧ st ≠ 2 ∧ st ≠ 3 then s
    else if silent || s.lostByErrors i || (st == 3 && decide (64 ≤ (s.chan i).badRun)) then s.loseChannel i
    else s

/-! ## Rows (R172-R176) -/

/-- Spare rows of a bank that no row uses. -/
def Chan.freeRow (c : Chan) (bank : Nat) : Option Nat := (List.range 64).find? fun k => !c.spareRows.contains (bank, k)

/-- A line block of a stack leaves service, and the spare rows its rows held return to their banks (R173, R176). -/
def State.dropLine (s : State) (stack row : Nat) : State :=
  let v := s.stk stack
  ((List.range 34).map (34 * stack + ·)).foldl (fun (s : State) (k : Nat) =>
    let c := s.chan k
    let gone := c.rows.filter fun e => e.1 % 36864 == row
    let held (e : Nat × RowState) : List (Nat × Nat) := match e.2 with
      | .once a => [(e.1 / 36864, a)]
      | .twice a b => [(e.1 / 36864, a), (e.1 / 36864, b)]
      | _ => []
    s.setChan k { c with rows := SMap.drop c.rows fun x => x % 36864 == row
                         spareRows := c.spareRows.filter fun x => !(gone.flatMap held).contains x
                         pendingRows := c.pendingRows.filter fun x => x % 36864 != row
                         copies := c.copies.filter fun x => x.row % 36864 != row
                         track := c.track.filter fun x => x.row % 36864 != row }) (s.setStk stack { v with retired := row :: v.retired })

/-- Retire a row: its line block is retired in its stack and logged (R176). -/
def State.retireLine (s : State) (i row : Nat) : State :=
  let stack := i / 34
  if (s.stk stack).retired.contains row then s
  else
    let s := ((List.range 34).map (34 * stack + ·)).foldl (fun (s : State) (k : Nat) =>
      if s.chLogical k < 32 then s.repairEvt k else s) (s.dropLine stack row)
    (s.logMem { event := 0x03, stack := stack, first := row, last := row }).toRemapList (.line stack row)

/-- Row states step on: a spare of the bank is taken, or the row is retired (Table 6.6). -/
def State.rowNext (s : State) (i key : Nat) : State :=
  let c := s.chan i
  let bank := key / 36864
  let c' := { c with track := c.track.filter fun t => t.row != key }
  let take (k : Nat) (st : RowState) : State :=
    s.setChan i { c' with rows := SMap.set .original c.rows key st, spareRows := (bank, k) :: c.spareRows
                          copies := (c.copies.filter fun x => x.row != key) ++ [{ row := key, spare := k }] }
  match SMap.get .original c.rows key, c.freeRow bank with
  | .original, some k => take k (.once k)
  | .once a, some k => take k (.twice a k)
  | .retired, _ => s
  | _, _ => s.retireLine i (key % 36864)

/-- A row fails: it is remapped at once, or pends for the next chip reset or power cycle; a row without a spare to go to is retired
in both modes, but a pending row stays pending (R174, R175). -/
def State.rowFails (s : State) (i key : Nat) : State :=
  let c := s.chan i
  let st := SMap.get .original c.rows key
  let ends : Bool := match st with
    | .original => (c.freeRow (key / 36864)).isNone
    | .once _ => (c.freeRow (key / 36864)).isNone
    | _ => true
  if s.get F.MEM_REPAIR_CFG_remap_mode 0 = 0 then s.rowNext i key
  else if c.pendingRows.contains key then s
  else if ends then s.rowNext i key
  else (s.setChan i { c with pendingRows := c.pendingRows ++ [key] }).toRemapList (.pendingRow i key)

/-- A row copy of channel i ends and leaves the copies xs: the row is served from the spare from now on (R174). -/
def State.rowCopyEnds (s : State) (i : Nat) (x : RowCopy) (xs : List RowCopy) : State :=
  let s := (s.setChan i { s.chan i with copies := xs }).logMem
    { event := 0x02, stack := i / 34, channel := if s.chLogical i < 32 then s.chLogical i else 0xFF, physical := i % 34
      bank := x.row / 36864, first := x.row % 36864, last := x.row % 36864 }
  (s.repairEvt i).toRemapList (.row i x.row x.spare)

/-- ROW_REMAP_DONE: the oldest copy of the channel ends (R174). -/
def execRowRemapDone (i : Fin 544) (s : State) : Res :=
  .next <|
    match (s.chan i).copies with
    | [] => s
    | x :: xs => if s.repairPaused (i / 34) then s else s.rowCopyEnds i x xs

/-- A pending row's remap takes effect, its copy made at once (R175). -/
def State.pendingRemap (s : State) (i key : Nat) : State :=
  let s := s.rowNext i key
  match (s.chan i).copies.find? fun x => x.row == key with
  | none => s
  | some x => s.rowCopyEnds i x ((s.chan i).copies.filter fun x => x.row != key)

/-- Every pending row's remap takes effect: in the self-refresh exit stage of a chip reset, or at a power cycle (R175). -/
def State.remapPending (s : State) : State :=
  s.mem.chans.foldl (fun s e =>
    (s.chan e.1).pendingRows.foldl (fun s k => s.pendingRemap e.1 k) (s.setChan e.1 { s.chan e.1 with pendingRows := [] })) s

/-! ## What the check code finds (R158, R159, R163, R172) -/

/-- The row of a burst, as bank * 36,864 + row (R145). -/
def rowKey (burst : Nat) : Nat := burst % 8 * 36864 + burst / 32

/-- Track a corrected sector of a row; four distinct sectors within 24 h fail it. The tracker holds 256 rows (R172). -/
def State.trackRow (s : State) (i key sector : Nat) : State :=
  let c := s.chan i
  let day := 86400000000000
  let old := ((c.track.find? fun t => t.row == key).map fun t => t.hits).getD []
  let hits := (sector, s.time) :: old.filter fun h => h.1 != sector && decide (s.time < h.2 + day)
  let rest := c.track.filter fun t => t.row != key
  let oldest := (rest.map fun t => t.updated).min?
  let rest := if rest.length < 256 then rest
    else match oldest with
      | none => rest
      | some t => match rest.find? fun x => x.updated == t with
        | none => rest
        | some x => rest.erase x
  let s := s.setChan i { c with track := rest ++ [{ row := key, hits := hits, updated := s.time }] }
  if 4 ≤ hits.length then s.rowFails i key else s

/-- A correction in a sector, attributed to a lane. -/
def State.corrected (s : State) (i burst sector lane : Nat) : State :=
  let c := s.chan i
  let s := (s.setChan i { c with lanes := SMap.set [] c.lanes lane ((s.time :: SMap.get [] c.lanes lane).take 64) }).bump
    F.MEM_CH_STAT_corr_count 1 i
  if c.degraded.contains lane then s else s.trackRow i (rowKey burst) (burst * 32 + sector)

/-- An uncorrectable sector: it is stored with the poison pattern and logged, and its row fails. -/
def State.uncorrectable (s : State) (i chan burst sector : Nat) : State :=
  let c := s.chan i
  let stack := i / 34
  let s := s.setDram (s.mem.dram.mark (sectorOf stack chan burst + sector) true)
  let s := s.setChan i { c with uncorr := (s.time, burst % 8, burst * 32 + sector) :: c.uncorr.filter fun e => decide (s.time < e.1 + 1000000) }
  let s := (s.bump F.MEM_CH_STAT_uncorr_count 1 i).logMem
    { event := 0x01, stack := stack, channel := chan, physical := i % 34, bank := burst % 8, first := burst, last := burst }
  s.rowFails i (rowKey burst)

/-- The findings of one read of a burst, on channel i; a sector already poisoned decodes as poison, and
a retired line block is poison throughout (R160, R176). -/
def State.burstFinds (s : State) (i chan burst : Nat) (finds : List (Nat × EccFind)) : State :=
  finds.foldl (fun s f =>
    if 32 ≤ f.1 ∨ s.mem.bad (sectorOf (i / 34) chan burst + f.1) ∨ s.retiredLine (i / 34) burst then s
    else match f.2 with
      | .clean => s
      | .corrected lane => s.corrected i burst f.1 lane
      | .uncorrectable => s.uncorrectable i chan burst f.1) s

/-- Whether the findings name a sector of the run first to last as f. -/
def findsIn (finds : List (Nat × EccFind)) (first last : Nat) (f : EccFind → Bool) : Bool :=
  finds.any fun e => decide (first ≤ e.1) && decide (e.1 ≤ last) && f e.2

/-- A find that is uncorrectable, or a correction. -/
def EccFind.isBad (e : EccFind) : Bool := e == .uncorrectable
def EccFind.isFixed (e : EccFind) : Bool := match e with | .corrected _ => true | _ => false

/-- A whole-burst write to a member of a parity line is held, and the hold ends once all 15 data members are present (R154). -/
def State.holdParity (s : State) (l : Loc) : State :=
  let g := l.chan / 16
  let same (h : PHold) : Bool := h.stack == l.stack && h.group == g && h.burst == l.burst
  let h := (s.mem.holds.find? same).getD { stack := l.stack, group := g, burst := l.burst, members := [], since := s.time }
  let h := { h with members := if h.members.contains l.chan then h.members else l.chan :: h.members }
  let rest := s.mem.holds.filter fun x => !same x
  { s with mem := { s.mem with holds := if 15 ≤ h.members.length then rest else rest ++ [h] } }

/-- Whether a channel stands in a retrain slice: the first 10 µs of a window (R179, R180). -/
def State.inSlice (s : State) (i : Nat) : Bool := s.chState i == 2 && decide (s.time % 50000 < 10000)

/-- MEM_ACCESS: a burst read or write at the controller. A partial write that merges into a sector found uncorrectable, or stored with
the poison pattern, leaves it poisoned (R153, R156-R160). -/
def execMemAccess (addr : BitVec 48) (op : MemOp) (finds : List (Nat × EccFind)) (s : State) : Res :=
  let a := addr.toNat
  let n := match op with | .read n => n | .write d => d.length
  if n = 0 ∨ 2048 < a % 2048 + n then .fault .illFormed
  else .next <|
    match s.locate a with
    | none => s.emit (.accessEnd .eBounds [] false)
    | some l =>
      let chan := s.servingChan l.stack l.chan l.burst
      if s.memHeld a n || (match chan with | some i => s.inSlice i | none => false) then s
      else
        let find (s : State) : State := match chan with
          | none => s
          | some i => if s.lostBurst l.stack l.chan l.burst l.parity then s else s.burstFinds i l.chan l.burst finds
        let first := l.byte / 64
        let last := (l.byte + n - 1) / 64
        match op with
        | .read _ =>
          let s := find s
          let r := s.memRead a n
          let st : Status := if r.poisoned then .ePoison else if findsIn finds first last EccFind.isFixed then .okCorrected else .ok
          s.emit (.accessEnd st r.bytes r.poisoned)
        | .write d =>
          if n = 2048 then
            let w := s.memWrite a d
            (if l.parity then w.1.holdParity l else w.1).emit (.accessEnd w.2 [] false)
          else
            let edges := (if l.byte % 64 = 0 then [] else [first]) ++ if (l.byte + n) % 64 = 0 then [] else [last]
            let fresh := edges.any fun k => !s.locBad { l with byte := k * 64 } && findsIn finds k k EccFind.isBad
            let w := (find s).memWrite a d
            let st : Status := if fresh ∧ w.2 = .ePoison then .eUncorrectable
              else if w.2 = .ok ∧ (edges.any fun k => findsIn finds k k EccFind.isFixed) then .okCorrected else w.2
            w.1.emit (.accessEnd st [] false)

/-- PARITY_HOLD_EXPIRE: 256 ns after the first held write of a line its writes are performed (R154). -/
def execParityHoldExpire (stack : Fin 16) (group : Fin 2) (burst : Fin 1179648) (s : State) : Res :=
  .next <|
    match s.mem.holds.find? fun h => h.stack == stack.val && h.group == group.val && h.burst == burst.val with
    | none => s
    | some h => { s.due (h.since + 256) with mem := { s.mem with holds := s.mem.holds.erase h } }

/-- PATROL_SCRUB: the next addressable burst of an active channel is read, where the copy of an evacuation
has put it (R161, R164). -/
def execPatrolScrub (i : Fin 544) (finds : List (Nat × EccFind)) (s : State) : Res :=
  .next <|
    let st := s.chState i
    if (st ≠ 1 ∧ st ≠ 2 ∧ st ≠ 3) ∨ s.isSet F.MEM_CH_CFG_scrub_dis i ∨ s.repairPaused (i / 34) ∨ s.inSlice i then s
    else
      let b := SMap.get 0 s.mem.scrubAt i
      let at' := if st = 3 then (s.servingChan (i / 34) (s.chLogical i) b).getD i else i
      let s := s.burstFinds at' (s.chLogical i) b finds
      { s with mem := { s.mem with scrubAt := SMap.set 0 s.mem.scrubAt i ((b + 1) % burstsPerChannel) } }

/-! ## Lanes, retrains and evacuations as commands -/

/-- A lane needs replacing: an error-triggered retrain while the channel has a spare lane, else an evacuation (R163). -/
def State.ddrLaneFails (s : State) (i : Nat) : State :=
  if s.get F.MEM_CH_STAT_spare_lanes_used i < 8 then s.queueRetrain i true else s.queueEvacuation i

/-- A lane of channel i is degraded. -/
def State.degradeLane (s : State) (i lane : Nat) : State :=
  let c := s.chan i
  if c.degraded.contains lane then s
  else ((s.setChan i { c with degraded := c.degraded ++ [lane] }).put F.MEM_CH_STAT_lane_evt 1 i).ddrLaneFails i

/-- DRAM_LANE_DEGRADED: 64 corrections of a lane within 1 s, or its margin below the floor (R163). -/
def execDramLaneDegraded (i : Fin 544) (lane : Fin 296) (margin : Bool) (s : State) : Res :=
  .next <|
    let l := SMap.get [] (s.chan i).lanes lane
    let many := match l.drop 63 with | [] => false | t :: _ => decide (s.time ≤ t + 1000000000)
    if margin || many then s.degradeLane i lane else s

/-- A retrain's last slice: the new settings take effect and spare lanes replace the degraded ones; without settings that keep every
lane within margin the old ones stay, and a lane counts as degraded (R181). -/
def State.retrainEnds (s : State) (i : Nat) (fails : Bool) : State :=
  let s := s.setStk (i / 34) { s.stk (i / 34) with retrain := none }
  let s := if s.chState i = 2 then s.setChState i 1 else s
  if fails then (s.ddrLaneFails i).startRetrain (i / 34)
  else
    let c := s.chan i
    let used := s.get F.MEM_CH_STAT_spare_lanes_used i
    let swap := c.degraded.take (8 - used)
    let s := s.setChan i { c with degraded := c.degraded.drop (8 - used), lanes := SMap.drop c.lanes fun k => swap.contains k
                                  lastTrain := s.time, lastTemp := s.getI F.THM_TEMP_temp (9 + i / 34) }
    let s := s.put F.MEM_CH_STAT_spare_lanes_used (used + swap.length) i
    let s := swap.foldl (fun s k => (((s.put F.MEM_CH_STAT_lane_evt 1 i).chEvent 0x04 i).toRemapList (.lane i k))) s
    s.startRetrain (i / 34)

/-- SLICE_WINDOW: a window opens at each multiple of 50 µs; ends names the channels whose last slice it holds, and whether their
retrain found no settings (R179, R181). -/
def execSliceWindow (ends : List (Nat × Bool)) (s : State) : Res :=
  .next <|
    if s.time % 50000 ≠ 0 then s
    else (List.range 16).foldl (fun s k =>
      match (s.stk k).retrain with
      | none => s
      | some r =>
        if s.repairPaused k then s
        else match ends.find? fun e => e.1 == r.phys with
          | some e => s.retrainEnds r.phys e.2
          | none => s.setStk k { s.stk k with retrain := some { r with slices := r.slices + 1 } }) s

/-- RETRAIN_PERIOD_EXPIRE: retrain_period minutes since the channel's last training (R178). -/
def execRetrainPeriodExpire (i : Fin 544) (s : State) : Res :=
  .next <|
    let p := s.get F.MEM_REPAIR_CFG_retrain_period 0
    if p = 0 ∨ s.boot.phase ≠ .ready then s else (s.due ((s.chan i).lastTrain + p * 60000000000)).queueRetrain i false

/-- CHANNEL_RETRAIN_REQ: a write of 1 to MEM_CH_CFG[i].retrain_req (R178). -/
def execChannelRetrainReq (i : Fin 544) (w : BarAcc) (s : State) : Res :=
  .next <| s.onWrite .MEM_CH_CFG i w fun i => if w.bits F.MEM_CH_CFG_retrain_req = 1 then s.queueRetrain i false else s

/-- EVACUATE_REQ: a write of 1 to MEM_CH_CFG[i].evacuate_req (Table 6.10). -/
def execEvacuateReq (i : Fin 544) (w : BarAcc) (s : State) : Res :=
  .next <| s.onWrite .MEM_CH_CFG i w fun i => if w.bits F.MEM_CH_CFG_evacuate_req = 1 then s.queueEvacuation i else s

/-- EVACUATION_STEP: the next burst of the running evacuation is copied; after the last one the target serves the channel (R164). -/
def execEvacuationStep (stack : Fin 16) (finds : List (Nat × EccFind)) (s : State) : Res :=
  .next <|
    match (s.stk stack).repair with
    | none => s
    | some r =>
      if r.rebuild || s.repairPaused stack then s
      else
        let b := s.get F.MEM_CH_STAT_pointer r.dst
        let s := s.burstFinds r.src r.logical b finds
        let all := (List.range 32).all fun k => findsIn finds k k EccFind.isBad
        let s := s.setChan r.src { s.chan r.src with badRun := if all then (s.chan r.src).badRun + 1 else 0 }
        let s := s.put F.MEM_CH_STAT_pointer (b + 1) r.dst
        if b + 1 < burstsPerChannel then s else ((s.repairEnds stack r).chEvent 0x06 r.dst).startRepair stack 40

/-- REMAP_LIST_WRITE: the oldest change is written to the list in module flash; a full list leaves it in force until the next power
cycle (R177). -/
def execRemapListWrite (s : State) : Res :=
  .next <|
    match s.mem.remapToWrite with
    | [] => s
    | e :: es =>
      let s := { s with mem := { s.mem with remapToWrite := es } }
      let old := match e with
        | .row i k _ => s.mem.remapList.filter fun x => x != .pendingRow i k
        | _ => s.mem.remapList
      if old.length < 8192 then { s with mem := { s.mem with remapList := old ++ [e] } } else s.logMem { event := 0x0B, stack := 0 }

end Sys2Proof.Machine
end

