-- ==== Sys2Proof/Machine/Aborts.lean ====
section
/-! DEFINITION. Ending work from outside its unit: aborts and what they do at each unit (R207-R209, R227, R274, R302, R316, R392). -/

namespace Sys2Proof.Machine

/-! ## Ends at the units (R208) -/

/-- A launch ends: quadrants still to start do not, those that run stop issue at their next boundary, and a status outranks the
programs' own (R121, R208). -/
def State.launchStop (s : State) (id : Nat) (st : Status) : State :=
  match s.launches.find? fun l => l.id == id with
  | none => s
  | some l =>
    let s := s.updLaunch id fun l => { l with waiting := [], outrank := if l.outrank = none ∨ l.outrank = some .eAborted then some st else l.outrank }
    let s := l.running.foldl (fun s q => (s.setSeq q { s.seq q with ending := true, wait := .none }).showSeq q) s
    s.settleLaunch id

/-- A graph run acts as at END and ends with a status; its running programs end (R142, R208). -/
def State.graphStop (s : State) (w : Work) (st : Status) : State :=
  (List.range 64).foldl (fun s g =>
    let x := s.graph g
    if x.work ≠ some w then s
    else
      let s := s.setGraph g { x.stop with fail := some (st, 0, x.iter) }
      let mine (l : Launch) : Bool := match l.work with | .node k _ _ => k == g | .desc _ _ => false
      let s := (s.launches.filter mine).foldl (fun s l => s.launchStop l.id st) s
      s.settleGraph g) s

/-- Whether a fabric operation serves a piece of work. -/
def FabOp.serves (o : FabOp) (w : Work) : Bool :=
  match o.origin with
  | .work v => v == w
  | .copy v _ => v == w
  | _ => false

/-- A fabric operation issues nothing more; requests already sent run to their ends (R227). -/
def State.opStop (s : State) (o : FabOp) (st : Status) : State :=
  let s := s.setFab { s.fab with reqs := s.fab.reqs.filter fun r => !(r.op == some o.id && r.attempts == 0) }
  s.updOp o.id fun o => { o with stop := true, fail := some (0, ⟨st, 0⟩) }

/-- End a piece of work at its unit with a status (R208). A unit that an abort or reset never ends goes on. -/
def State.stopWork (s : State) (w : Work) (st : Status) : State :=
  match s.item w with
  | none => s
  | some it =>
    if it.phase = .ended then s
    else if abortProof it.opcode ∧ it.phase = .busy then s
    else if it.phase ≠ .busy then s.finish w st 0
    else if it.opcode = 0x01 then
      (s.launches.filter fun l => l.work == w).foldl (fun s l => s.launchStop l.id st) s
    else if it.opcode = 0x02 then s.graphStop w st
    else if it.opcode = 0x03 ∨ it.opcode = 0x04 ∨ it.opcode = 0x06 then
      ((s.fab.ops.filter fun o => o.serves w).foldl (fun s o => s.opStop o st) s).settleOps
    else if it.opcode = 0x05 then s.colAbort w
    else if it.opcode = 0x0C then s.reflAbort w
    else if it.opcode = 0x0D then s.darkAbort w
    else s.finish w st 0

/-! ## ABORT -/

/-- Accept an abort for the open descriptor at index i of queue n: its outcome is committed and its work told to end (R207, R208). -/
def State.abortDesc (s : State) (n i : Nat) : State :=
  let started : Bool := match (s.queue n).ent i with
    | none => false
    | some e => e.phase == .dispatched || e.phase == .busy
  let s := s.abortOne n i
  let s := if started then s.stopWork (.desc n i) .eAborted else s
  match (s.queue n).ent i with | none => s | some e => s.showReplay e.ctxId

/-- Whether the entry's outcome is committed. -/
def State.isCommitted (s : State) (n i : Nat) : Bool :=
  match (s.queue n).ent i with
  | none => false
  | some e => e.committed.isSome

/-- Whether the queue engine has fetched index i and it holds an opcode that an abort never ends. -/
def State.isAbortProof (s : State) (n i : Nat) : Bool :=
  match (s.queue n).ent i with
  | none => false
  | some e => e.committed.isNone && abortProof e.opcode

/-- The order numbers of a list of targets, for the abort's own record (R207). -/
def State.targetsOf (s : State) (n : Nat) (l : List Nat) : List (Nat × Nat) :=
  l.filterMap fun i => ((s.queue n).ent i).map fun e => (n, e.order)

/-- Decide the targets of an abort: those of the list that are open and not committed are aborted; OK where there is one. -/
def State.abortTargets (s : State) (work : Work) (n : Nat) (l : List Nat) : State :=
  let open_ := l.filter fun i => !s.isCommitted n i
  let s := open_.foldl (fun s i => s.abortDesc n i) s
  let after := s.targetsOf n l
  let s : State := match work with
    | .desc q i => s.setQueue q ((s.queue q).upd i fun e => { e with after := after })
    | .node _ _ _ => s
  s.finish work (if open_.isEmpty then .eAbortTooLate else .ok) 0

/-- The indices a scope-1 abort covers: open, accepted before the ABORT was dispatched, not itself, no opcode it passes over (R207,
R209). -/
def State.scopeTargets (s : State) (work : Work) (n snap : Nat) : List Nat :=
  let size := s.ringSize n
  let old := s.oldestIx n
  let cnt := ringDist size old (s.get F.HUB_Q_STAT_tail n) - ((s.queue n).accepted - snap)
  ((List.range cnt).map fun k => (old + k) % size).filter fun i => work != .desc n i && !s.isAbortProof n i

/-- ABORT: the targets of a queue are decided one by one (R207-R209). -/
def execAbort (work : Work) (s : State) : Res :=
  .next <|
    match s.fresh work 0x0E with
    | none => s
    | some it =>
      let n := fieldAt it.payload 0 2
      let i := fieldAt it.payload 2 2
      let scope := fieldAt it.payload 4 1
      let own : Nat × Option Nat := match work with | .desc q k => (q, ((s.queue q).ent k).map fun e => e.snap) | .node _ _ _ => (0, none)
      if s.get F.HUB_Q_CFG_function n ≠ s.get F.HUB_Q_CFG_function own.1 then s.finish work .eFormat 32
      else if 1 < scope then s.finish work .eFormat 36
      else if scope = 1 then s.abortTargets work n (s.scopeTargets work n (own.2.getD 0))
      else if work = .desc n i then s.finish work .eFormat 34
      else match s.placeIx n i with
        | .beyond => s.finish work .eFormat 34
        | .before => s.finish work .eAbortTooLate 0
        | .open_ => if s.isAbortProof n i then s.finish work .eFormat 34 else s.abortTargets work n [i]

end Sys2Proof.Machine
end

