-- ==== Sys2Proof/Machine/Clocks.lean ====
section
/-! DEFINITION. Device time, calendar time and the array clocks' ceilings (chapter 02). -/

namespace Sys2Proof.Machine

/-! ## Array clock ceiling (R46) -/

/-- A ceiling as the device holds it: within 600-2000 MHz, a multiple of 50 (R46). -/
def roundCeiling (v : Nat) : Nat := clampN 600 2000 v / 50 * 50

/-- ARRAY_CLK_CEILING_WRITE: a write to HUB_ARRAY_CLK[c].ceiling_mhz (R46). The clock follows in ARRAY_CLOCK_STEP. -/
def execArrayClkCeilingWrite (c : Fin 4) (w : BarAcc) (s : State) : Res :=
  .next <| s.onWrite .HUB_ARRAY_CLK c w fun c =>
    let f := F.HUB_ARRAY_CLK_ceiling_mhz
    if w.touches f then s.put f (roundCeiling (w.merge f (s.get f c))) c else s

/-! ## Device time (R47, R49) -/

/-- DEVICE_TIME_LOW_READ: a 4-byte read of the low half returns it and latches the high half of the same value for the function that
reads (R49). -/
def execDeviceTimeLowRead (fn : Fin 16) (s : State) : Res :=
  .next <|
    if !s.hubUp then s
    else (s.put F.HUB_DEVICE_TIME_HI_high (s.time / 2 ^ 32 % 2 ^ 32) fn).emit (.readData fn (s.time % 2 ^ 32) false)

/-! ## Calendar time (R50, R51) -/

/-- Arguments of a CALENDAR_SET record: old value, new value, source (R51). -/
def CalSource.code : CalSource → Nat
  | .i3c => 0
  | .register => 1

/-- A set asked for: the write received last before the tick takes effect (R51). -/
def State.askCalendar (s : State) (seconds fraction : Nat) (src : CalSource) : State :=
  { s with cal := { s.cal with pending := some ({ valid := true, seconds := seconds % 2 ^ 48, fraction := fraction % 2 ^ 15 }, src) } }

/-- CALENDAR_SET_WRITE: an 8-byte write asks for a new calendar time; a 4-byte write has no effect and is counted in the log (R51). -/
def execCalendarSetWrite (w : BarAcc) (s : State) : Res :=
  .next <| s.onWrite .HUB_CALENDAR_SET 0 w fun _ =>
    if w.size = 8 then s.askCalendar (w.bits F.HUB_CALENDAR_SET_seconds) (w.bits F.HUB_CALENDAR_SET_fraction) .register
    else s.logEvent 0x000B 0 [s.calNow.word, s.calNow.word, 2]

/-- PLDM_CALENDAR_SET: the calendar effecter over I3C, which the hub ROM does not serve (R51, Table 14.13). -/
def execPldmCalendarSet (seconds : BitVec 48) (fraction : BitVec 15) (s : State) : Res :=
  .next <|
    if !s.mgmtUp then s
    else if s.romServes then s.emit .pldmRefused
    else s.askCalendar seconds.toNat fraction.toNat .i3c

/-- The moment of the first crystal tick after now (R50). -/
def State.nextCalTick (s : State) : Nat :=
  s.cal.at_ + ceilDiv (((s.time - s.cal.at_) * 32768 / 1000000000 + 1) * 1000000000) 32768

/-- CALENDAR_SET_APPLY: at the crystal tick the new value takes effect, the valid flag is set and a record is written (R51). -/
def execCalendarSetApply (s : State) : Res :=
  .next <|
    match s.cal.pending with
    | none => s
    | some (v, src) =>
      let s := s.due s.nextCalTick
      let old := s.calNow
      let s := { s with cal := { value := v, at_ := s.time, pending := none } }
      s.logEvent 0x000B 0 [old.word, v.word, src.code]

end Sys2Proof.Machine
end

