-- ==== Sys2Proof/Machine/Package.lean ====
section
/-! DEFINITION. The package: bundle training and floors, identity checks, the device epoch, boot hold and its end, going off (chapter
01; R338, R348, R427). -/

namespace Sys2Proof.Machine

/-! ## Die-to-die links (R20-R26) -/

def State.bundle (s : State) (b : Nat) : Bundle := SMap.get {} s.bundles b
def State.setBundle (s : State) (b : Nat) (v : Bundle) : State := { s with bundles := SMap.set {} s.bundles b v }

/-- A die-to-die link: strap code of its die, its first bundle, bundles per direction, boot and field floor in half bundles (Table
1.1). -/
structure D2DLink where
  strap : Nat
  first : Nat
  per : Nat
  boot : Nat
  field : Nat
  deriving DecidableEq, Repr

/-- The link of a compute die or window die (Tables 1.1, 1.3). -/
def computeLink (c : Nat) : D2DLink := { strap := c, first := 64 * c, per := 32, boot := 60, field := 32 }
def windowLink (w : Nat) : D2DLink := { strap := 8 + w, first := 256 + 36 * w, per := 18, boot := 34, field := 16 }

/-- The eight links. -/
def allLinks : List D2DLink := (List.range 4).map computeLink ++ (List.range 4).map windowLink

/-- The link of a bundle. -/
def linkOf (b : Nat) : D2DLink := if b < 256 then computeLink (b / 64) else windowLink ((b - 256) / 36)

/-- The width code of a number of healthy lanes (Table 1.2); it is also what the bundle counts as, in half bundles. -/
def widthOf (healthy : Nat) : Nat := if 64 ≤ healthy then 2 else if 32 ≤ healthy then 1 else 0

/-- What a direction of a link counts as, in half bundles. -/
def State.dirHalves (s : State) (l : D2DLink) (d : Nat) : Nat :=
  ((List.range l.per).map fun k => s.get F.HUB_D2D_BUNDLE_STAT_width (l.first + d * l.per + k)).sum

/-- What a link counts as, in half bundles: the weaker direction (R24). -/
def State.linkHalves (s : State) (l : D2DLink) : Nat := min (s.dirHalves l 0) (s.dirHalves l 1)

/-- Train bundle b: lanes that fail are replaced by spares, then the bundle narrows (R22, R23). -/
def State.trainBundle (s : State) (b : Nat) (bad : List Nat) : State :=
  let bad := (bad ++ (s.bundle b).found).dedup
  let n := bad.length
  let s := s.setBundle b { failed := bad }
  let s := s.put F.HUB_D2D_BUNDLE_STAT_healthy_lanes (66 - n) b
  (s.put F.HUB_D2D_BUNDLE_STAT_spares_used (min n 2) b).put F.HUB_D2D_BUNDLE_STAT_width (widthOf (66 - n)) b

/-- Train bundles first to first + n - 1; short names those that lost lanes. -/
def State.trainBundles (s : State) (first n : Nat) (short : ShortLanes) : State :=
  (List.range n).foldl (fun s k =>
    s.trainBundle (first + k) (((short.filter fun e => e.1 == first + k).flatMap fun e => e.2).filter fun l => decide (l < 66))) s

/-- Strap code of the first link below its boot floor. -/
def State.belowBoot (s : State) : Option Nat := (allLinks.find? fun l => decide (s.linkHalves l < l.boot)).map fun l => l.strap

/-- D2D_DEGRADED: the bundle and its link's equivalents, in half bundles (R25). -/
def State.d2dEvent (s : State) (b : Nat) : State := s.logEvent 0x0001 b [b, s.linkHalves (linkOf b)]

/-! ## Identity (R27-R29) -/

/-- Position strap codes in the order C0-C3, H, W0-W3 (Table 1.4). -/
def positions : List Nat := [0, 1, 2, 3, 4, 8, 9, 10, 11]

/-- Serial numbers as R27's string holds them: 8 bytes each, most significant first. -/
def serialBytes (l : List Nat) : List Byte := l.flatMap fun v => Sha512.beBytes 8 v

/-- The matched-set ID of the serials read (R27). -/
def setIdOf (dies drams : List Nat) : Nat := Sha512.top64 (serialBytes (dies ++ drams))

/-- The dies of a reading with their place in the order of positions. -/
def IdentityRead.at_ (r : IdentityRead) : List (Nat × DieRead) := r.dies.zipIdx.map fun e => (e.2, e.1)

/-- The hub's fused set ID. -/
def IdentityRead.hubSet (r : IdentityRead) : Nat := ((r.dies[4]?).map fun d => d.setId).getD 0

/-- Every failure of the identity checks, in the order of Table 1.5, up to 16 (R28). -/
def identityFails (r : IdentityRead) : List BootFail :=
  let here := r.at_.filter fun e => e.2.present
  let twice (c : Nat) := decide (1 < (here.filter fun e => e.2.strap == c).length)
  let pos (i : Nat) := positions.getD i 0
  let strap := (here.filter fun e => !positions.contains e.2.strap || twice e.2.strap).map fun e => ⟨0x10, e.2.strap⟩
  let absent := (r.at_.filter fun e => !e.2.present).map fun e => ⟨0x11, pos e.1⟩
  let kind := (here.filter fun e => e.2.kind != Config.dieKind e.1).map fun e => ⟨0x12, pos e.1⟩
  let set_ := (here.filter fun e => e.2.setId != r.hubSet).map fun e => ⟨0x13, pos e.1⟩
  let stack := (r.stackSerials.zipIdx.filter fun e => e.1.isNone).map fun e => ⟨0x14, e.2⟩
  let whole := absent.isEmpty && stack.isEmpty
  let digest : List BootFail :=
    if whole && setIdOf (r.dies.map fun d => d.serial) (r.stackSerials.map fun x => x.getD 0) != r.hubSet then [⟨0x15, 0⟩] else []
  (strap ++ absent ++ kind ++ set_ ++ stack ++ digest).take 16

/-- Whether W0 passed its checks (R30). -/
def w0Passed (fails : List BootFail) : Bool := !fails.any fun f => decide (0x10 ≤ f.cause) && decide (f.cause ≤ 0x13) && f.unit == 8

/-! ## The device epoch (R15, R348) -/

/-- The epoch after e. -/
def nextEpoch (e : Nat) : Nat := if e = 0xFFFF then 1 else e + 1

/-- The valid copy written last. -/
def ResetCtl.stored (r : ResetCtl) : Option Nat := if r.lastB then r.flashB.or r.flashA else r.flashA.or r.flashB

/-- Write the epoch over the other copy; a failed write leaves the flash as it was and is logged (R348). -/
def State.storeEpoch (s : State) (e : Nat) (ok : Bool) : State :=
  if !ok then s.logEvent 0x000A 0 [e]
  else
    let toB := !s.rst.lastB
    { s with rst := { s.rst with flashA := if toB then s.rst.flashA else some e, flashB := if toB then some e else s.rst.flashB
                                 lastB := toB } }

/-- The island advances the epoch from the flash: by one, or to 0x0001 where no copy is valid; and stores it (R348). -/
def State.advanceEpoch (s : State) (ok : Bool) : State :=
  match s.rst.stored with
  | some e => (s.put F.HUB_RESET_STAT_epoch (nextEpoch e) 0).storeEpoch (nextEpoch e) ok
  | none => ((s.put F.HUB_RESET_STAT_epoch 1 0).logEvent 0x000A 0 [1]).storeEpoch 1 ok

/-! ## Boot status and the island -/

def State.bootStep (s : State) (n : Nat) : State := s.put F.HUB_BOOT_STATUS_step n 0
def State.setPhaseBoot (s : State) (p : Phase) : State := { s with boot := { s.boot with phase := p } }
def State.markDone (s : State) (n : Nat) : State :=
  { s with boot := { s.boot with done := if s.boot.done.contains n then s.boot.done else s.boot.done ++ [n] } }

/-- Step 2's work: device time starts, the calendar and the slot pins are read, the epoch advances (R47, R50, R348, R420). -/
def State.islandWork (s : State) (r : IslandRead) : State :=
  let s : State := { s with cal := { s.cal with value := if r.vbatOk then r.calendar else {}, at_ := s.time }
                            boot := { s.boot with island := true } }
  let s := s.put F.FAB_NODE_ID_slot r.slot 0
  if s.boot.keepEpoch then { s with boot := { s.boot with keepEpoch := false } } else s.advanceEpoch r.flashOk

/-! ## What a chip reset clears and a loss of the rails loses (R338) -/

/-- Keep only the register fields that a chip reset keeps. -/
def State.keepRegs (s : State) : State := { s with regs := s.regs.filter fun e => keptCodes.contains (e.1 % 1024) }

/-- Compute dies and stacks without their rails: their contents are lost and accesses to the stacks wait (R30). -/
def State.clearPackage (s : State) : State :=
  { s with mem := { s.mem with dram := {}, holes := [], holds := [], filling := [], refresh := [0, 1, 2, 3] }
           spad := {}, arrays := [], acc := [], accBad := [], vreg := [], ibuf := [], seqs := [] }

/-- Every fabric port unmodulated: no link, no calibration (R30). -/
def State.darkenPorts (s : State) : State :=
  (List.range 64).foldl (fun s p => ((s.setPort p {}).setPortState p 0).put F.WIN_PORT_STAT_width 0 p) s

/-- The host link is down and port 64 dark. -/
def State.hostOff (s : State) : State :=
  { s with host := { s.host with up := false, d3 := false, vfEnabled := false } }.setPortState 64 0

/-- No array clock runs. -/
def State.clocksOff (s : State) : State :=
  let s : State := { s with pwr := { s.pwr with stepAt := [], slow := [], parked := [] } }
  (List.range 4).foldl (fun s c => s.put F.HUB_ARRAY_CLK_current_mhz 0 c) s

/-- The work state of the hub, as a chip reset leaves it (R338, Table 12.2): queues and rings closed, sync objects 0, graphs emptied,
sessions idle, flows and result cache cleared, engines idle with their suspects kept (R358). -/
def State.clearWork (s : State) : State :=
  let s := (List.range 30).foldl (fun s e => s.engReset e) s
  { s with queues := [], rings := [], served := [], sync := [], launches := [], graphs := [], hubsp := {}, spad := {}, seqs := []
           arrays := [], acc := [], accBad := [], vreg := [], ibuf := []
           fab := { nextOp := s.fab.nextOp, serial := s.fab.serial }
           col := { s.col with sessions := [] }
           mem := { s.mem with holds := [] } }

/-! ## Boot hold and restart (R30, R31, R41) -/

/-- Boot hold with a cause; fails is the boot record where the identity checks made it; w0 says whether W0 passed them. -/
def State.enterHold (s : State) (cause unit : Nat) (fails : List BootFail) (w0 : Bool) : State :=
  let stay := w0 && s.boot.hostTrained
  let s := (s.clearPackage.darkenPorts).clocksOff
  let s := if stay then s else s.hostOff
  let s : State :=
    { s with boot := { s.boot with phase := .hold, rails := s.boot.rails.filter (· == 0), w0Rails := stay, hostTrained := stay
                                   coolantWait := false, record := if fails.isEmpty then [⟨cause, unit⟩] else fails }
             rst := { s.rst with run := none, queue := [], absorbed := [], keepers := false, heldFailed := false, cycleWait := false
                                 shut := false, causeHeld := false, linkWait := false, ctxEnding := [], chain := [] } }
  let s := (s.put F.HUB_BOOT_STATUS_ready 0 0).put F.HUB_BOOT_STATUS_hold 1 0
  ((s.put F.HUB_BOOT_STATUS_cause cause 0).put F.HUB_BOOT_STATUS_cause_unit unit 0).put F.HUB_RESET_STAT_state 0 0

/-- A chip reset in boot hold: W0's rails off, the epoch advanced and stored once, bring-up again from step 3, or from step 1 where
no feed had qualified; whether the epoch's flash write succeeds is a free value (R41, log entry 1). -/
def State.restart (s : State) : State :=
  let (v, s) := s.draw
  let low := s.get F.HUB_BOOT_STATUS_cause 0 == 1
  let s := ((s.hostOff.commitReset.reflInterrupt).clearWork.monReset).keepRegs
  let s := s.advanceEpoch (v % 2 == 1)
  let s := (s.put F.HUB_BOOT_STATUS_hold 0 0).bootStep (if low then 1 else 3)
  let s := (s.put F.HUB_BOOT_STATUS_cause 0 0).put F.HUB_BOOT_STATUS_cause_unit 0 0
  let s := (s.put F.THM_STOP_STAT_state 0 0).bump F.HUB_RESET_STAT_chip_resets 1 0
  { s with
    boot := { s.boot with phase := .bringup, done := if low then [] else [1, 2], t0 := if low then none else some ((s.time : Int) - 50000000)
                          retryUsed := false, resetPending := false, keepEpoch := low, shift := 0, w0Rails := false
                          hostTrained := false, hostDark := false, record := [] }
    mgmt := { s.mgmt with verified := false }
    dump := { s.dump with frozen := [] }
    thm := { s.thm with step := 0, rail := none, thermTrip := false } }

/-- Boot hold; a chip reset that waited for step 5 is then done as one in boot hold (R41). -/
def State.hold (s : State) (cause unit : Nat) (fails : List BootFail) (w0 : Bool) : State :=
  let s := s.enterHold cause unit fails w0
  if s.boot.resetPending then s.restart else s

/-! ## Off (R40, R427) -/

/-- The register fields that survive with the module off: module flash and fuses; a pending image slot becomes active and one being
written is invalid (R411, R412). -/
def State.offRegs (s : State) : SMap Nat :=
  let s := s.cancelUpdate
  let act := if s.get F.SEC_FW_STAT_pending 0 = 1 then 1 - s.get F.SEC_FW_STAT_active 0 else s.get F.SEC_FW_STAT_active 0
  [(F.SEC_FW_STAT_active, act), (F.SEC_FW_STAT_valid, s.get F.SEC_FW_STAT_valid 0), (F.SEC_FW_STAT_sv_a, s.get F.SEC_FW_STAT_sv_a 0),
   (F.SEC_FW_STAT_sv_b, s.get F.SEC_FW_STAT_sv_b 0), (F.SEC_ROLLBACK_CTRL_count, s.get F.SEC_ROLLBACK_CTRL_count 0),
   (F.TEL_LOG_STAT_newest, s.log.nextSeq - 1)].foldl
    (fun m e => putField m e.1 e.2 0) powerOnRegs

/-- The module goes off, latched or not: all state goes but what module flash, fuses and the feeds hold (Table 12.2, R427). -/
def State.powerOff (s : State) (latched : Bool) : State :=
  { State.reset with
    pending := s.pending, out := s.out, freeCtr := s.freeCtr, regs := s.offRegs
    log := { flash := s.log.flash, nextSeq := s.log.nextSeq }
    mem := { remapList := s.mem.remapList }
    rst := { flashA := s.rst.flashA, flashB := s.rst.flashB, lastB := s.rst.lastB }
    thm := { coolant := s.thm.coolant }
    boot := { phase := if latched then .offLatched else .off } }

end Sys2Proof.Machine
end

