-- ==== Sys2Proof/Machine/Units.lean ====
section
/-! DEFINITION. What resets and stops do at the units: the reset of a quadrant, a hub copy engine and the collective engine, and the
end of work that a reset or stop finds open (R84, R303, R329, R339, R344, R346). -/

namespace Sys2Proof.Machine

/-! ## A quadrant (R84, R344) -/

/-- Fields of QD_ARRAY_STAT that a reset of the quadrant returns to their reset values: all but the events. -/
def arrayStat : List Fld :=
  [F.QD_ARRAY_STAT_operation, F.QD_ARRAY_STAT_active_rows, F.QD_ARRAY_STAT_credits_free, F.QD_ARRAY_STAT_buf_valid,
   F.QD_ARRAY_STAT_lamp_active]

/-- Arrays and accumulators of quadrant q as after a reset: nothing in flight, buffers invalid, accumulators +0 without poison, full
shape, no injection (R84). -/
def State.arraysReset (s : State) (q : Nat) : State :=
  let lo := 64 * q
  let acc (k : Nat) : Bool := decide (32768 * lo ≤ k) && decide (k < 32768 * (lo + 64))
  let s : State := { s with arrays := SMap.drop s.arrays fun k => decide (lo ≤ k) && decide (k < lo + 64)
                            acc := SMap.drop s.acc acc, accBad := SMap.drop s.accBad acc
                            vreg := SMap.drop s.vreg fun k => decide (16384 * q ≤ k) && decide (k < 16384 * (q + 1)) }
  (List.range 64).foldl (fun s k => arrayStat.foldl (fun s f => s.put f f.reset (lo + k)) s) s

/-- Whether a fabric operation serves a copy of quadrant q. -/
def FabOp.ofQuad (o : FabOp) (q : Nat) : Bool :=
  match o.origin with
  | .qcopy k _ => k == q
  | .image k _ => k == q
  | .stream i _ => quadOf i == q
  | _ => false

/-- The unit of a fabric operation is reset: it issues nothing more, and what its requests bring is dropped (R344). -/
def State.opDrop (s : State) (o : FabOp) : State :=
  let s := s.setFab { s.fab with reqs := s.fab.reqs.filter fun r => !(r.op == some o.id && r.attempts == 0) }
  s.updOp o.id fun o => { o with stop := true, origin := .dropped, dest := match o.dest with | .stage _ _ _ => .none | d => d }

/-- Reset quadrant q: a launch running on it takes st as its outcome there; sequencer idle, registers, loops, events, tags, vector
registers and top-k buffer cleared, copies discarded, arrays as in R84. The scratchpad stays (R344). -/
def State.quadReset (s : State) (q : Nat) (st : Status) : State :=
  let x := s.seq q
  let s : State := match x.launch with | some id => s.endQuad q id st | none => s
  let s := ((s.fab.ops.filter fun o => o.ofQuad q).foldl (fun s o => s.opDrop o) s).settleOps
  let s := ((s.setSeq q { nextId := x.nextId }).arraysReset q).showSeq q
  s.engReset q

/-- Reset the quadrants of compute die c. -/
def State.dieReset (s : State) (c : Nat) (st : Status) : State :=
  (List.range 4).foldl (fun s k => s.quadReset (4 * c + k) st) s

/-- Reset every quadrant. -/
def State.quadsReset (s : State) (st : Status) : State := (List.range 16).foldl (fun s q => s.quadReset q st) s

/-! ## Hub copy engines and the collective engine (R303, R344) -/

/-- Reset hub copy engine k: its copy issues nothing more and ends with st (R344). -/
def State.copyEngineReset (s : State) (k : Nat) (st : Status) : State :=
  let mine (o : FabOp) : Bool := match o.origin with | .copy _ e => e == k | _ => false
  (((s.fab.ops.filter mine).foldl (fun s o => s.opStop o st) s).settleOps).engReset (16 + k)

/-- Reset engine e: 0-15 quadrants, 16-23 hub copy engines, 24 the collective engine; runs end E_ABORTED and sessions that are not
idle break with ABORT cause ENGINE_RESET. A clock that a frozen dump read stopped runs again (R303, R344, R361). -/
def State.resetEngine (s : State) (e : Nat) : State :=
  let thaw (s : State) (code : Nat) : State := { s with dump := { s.dump with frozen := s.dump.frozen.filter (· != code) } }
  if e < 16 then thaw (s.quadReset e .eAborted) (0x20 + e)
  else if e < 24 then thaw (s.copyEngineReset (e - 16) .eAborted) (0x31 + (e - 16))
  else thaw ((s.colBreakAll 1 .eAborted).engReset 24) 0x40

/-! ## Open work (R329, R339, R346) -/

/-- Whether a fabric operation has had a request sent. -/
def State.opSent (s : State) (o : FabOp) : Bool :=
  let mine := s.fab.reqs.filter fun r => r.op == some o.id
  let unsent := mine.filter fun r => r.attempts == 0
  (mine.any fun r => decide (0 < r.attempts)) ||
  (if o.code = 6 then !o.answers.isEmpty
   else if o.code = 4 ∨ o.code = 5 then decide (1 ≤ o.next) && unsent.isEmpty
   else decide ((unsent.map fun r => r.len).sum < o.next))

/-- Whether a fabric operation has a request still to be sent. -/
def State.opUnsent (s : State) (o : FabOp) : Bool := !o.issuedAll || s.fab.reqs.any fun r => r.op == some o.id && r.attempts == 0

/-- A fabric operation under a stop or a chip reset: requests sent run to their ends. One with none sent ends with st. Otherwise a stop
leaves it the status of what it sent (R329), a chip reset ends with st what it leaves unsent (R339). -/
def State.opCut (s : State) (o : FabOp) (st : Status) (stop : Bool) : State :=
  if !s.opSent o then s.opStop o st
  else if !s.opUnsent o then s
  else if stop then
    (s.setFab { s.fab with reqs := s.fab.reqs.filter fun r => !(r.op == some o.id && r.attempts == 0) }).updOp o.id fun o => { o with stop := true }
  else s.opStop o st

/-- A collective under a stop or a chip reset: its run ends with st, and under a stop its neighbours receive ABORT with cause
ENGINE_RESET (R329, R346). -/
def State.colCut (s : State) (w : Work) (st : Status) (stop : Bool) : State :=
  let s := (List.range 8).foldl (fun s k =>
    let x := s.sess k
    if x.setup = some w then s.failSetup k st
    else if (x.run.map fun r => r.work) = some w then (if stop then s.abandon k 1 s.ownNode st else s.endRun k st)
    else s.setSess k { x with waiting := x.waiting.filter fun r => r.work != w }) s
  s.finish w st 0

/-- End one open piece of work with st at its unit. -/
def State.endOpen (s : State) (w : Work) (st : Status) (stop : Bool) : State :=
  match s.item w with
  | none => s
  | some it =>
    if it.phase = .ended ∨ it.phase = .fetched then s
    else if it.phase ≠ .busy then s.finish w st 0
    else if it.opcode = 0x01 then (s.launches.filter fun l => l.work == w).foldl (fun s l => s.launchStop l.id st) s
    else if it.opcode = 0x02 then s.graphStop w st
    else if it.opcode = 0x03 ∨ it.opcode = 0x04 then ((s.fab.ops.filter fun o => o.serves w).foldl (fun s o => s.opStop o st) s).settleOps
    else if it.opcode = 0x05 then s.colCut w st stop
    else if it.opcode = 0x06 then ((s.fab.ops.filter fun o => o.serves w).foldl (fun s o => s.opCut o st stop) s).settleOps
    else if it.opcode = 0x0A ∨ it.opcode = 0x0B then s.commitReset.finish w st 0
    else if it.opcode = 0x0C ∧ s.refl.work = some w then s.failBind st
    else s.finish w st 0

/-- Work at its unit: descriptors held in their header wait or dispatched whose operation has not ended, and node instances that have
been dispatched. -/
def State.openWorks (s : State) : List Work :=
  (s.queues.flatMap fun q => (q.2.ents.filter fun e => e.phase != .fetched && e.phase != .ended).map fun e => Work.desc q.1 e.idx) ++
  (s.graphs.flatMap fun g => (g.2.insts.filter fun i => i.phase != .fetched && i.phase != .ended).map fun i => Work.node g.1 i.node i.iter)

/-- A stop outranks an abort that was committed for work still at its unit (R208). -/
def State.unabort (s : State) (w : Work) : State :=
  match w with
  | .desc n i => s.setQueue n ((s.queue n).upd i fun e => { e with committed := none })
  | .node _ _ _ => s

/-- End every piece of open work whose item satisfies p. -/
def State.endAll (s : State) (st : Status) (stop : Bool) (p : Item → Bool) : State :=
  s.openWorks.foldl (fun s w => match s.item w with
    | none => s
    | some it => if p it then (if stop then s.unabort w else s).endOpen w st stop else s) s

/-- Work still open, at whatever unit, ends now with st: what it had under way is discarded. -/
def State.cutAll (s : State) (st : Status) : State :=
  let s := s.openWorks.foldl (fun s w => s.finish w st 0) s
  { s with launches := [] }

/-- Whether every dispatched descriptor has its record and nothing the device issued is outstanding. -/
def State.quiet (s : State) : Bool :=
  (s.queues.all fun q => q.2.ents.all fun e => e.phase == .fetched) && s.launches.isEmpty &&
  (List.range 16).all (fun q => (s.seq q).launch.isNone) && s.fab.reqs.all fun r => r.attempts == 0

end Sys2Proof.Machine
end

