-- ==== Sys2Proof/Machine/Dump.lean ====
section
/-! DEFINITION. The crash dump engine: sections, start, end (R360-R364). Its rows stand in Dumps.lean. -/

namespace Sys2Proof.Machine

/-- Unit codes in ascending order with the largest body in KiB (Table 12.19). -/
def dumpSections : List (Nat × Nat) :=
  [(0x01, 512), (0x02, 512), (0x10, 6144), (0x11, 2560), (0x12, 2048), (0x13, 1024)] ++
  (List.range 16).map (fun q => (0x20 + q, 256)) ++ [(0x30, 1536)] ++ (List.range 8).map (fun k => (0x31 + k, 4)) ++
  [(0x40, 512), (0x50, 6656), (0x51, 2048)] ++ (List.range 4).map (fun w => (0x60 + w, 512)) ++
  (List.range 4).map (fun c => (0x70 + c, 1024)) ++ [(0x80, 16384), (0x90, 47104)]

/-- The unit whose section is being read. -/
def Dump.unit (d : Dump) : Option Nat := if d.running then (dumpSections[d.next]?).map fun e => e.1 else none

/-- Whether a frozen read may stop the unit's clock: no window die and nothing in the always-on island (R361). -/
def freezable (code : Nat) : Bool := !(List.contains [0x01, 0x02, 0x60, 0x61, 0x62, 0x63, 0x90] code)

/-- Whether a reset in progress holds the unit (Table 12.18). -/
def State.unitAbsent (s : State) (code : Nat) : Bool :=
  match s.rst.run with
  | none => false
  | some r =>
    (r.req.kind == .engine && (if r.req.target < 16 then code == 0x20 + r.req.target
                               else if r.req.target < 24 then code == 0x31 + (r.req.target - 16) else code == 0x40)) ||
    (r.req.kind == .partition && (code == 0x70 + r.req.target || (decide (0x20 ≤ code) && decide (code < 0x30) && (code - 0x20) / 4 == r.req.target)))

/-- Start a dump: its header takes the first 4 KiB (R360, R362). -/
def State.startDump (s : State) (trigger : Nat) (work : Option Work) (buffer size : Nat) (freeze : Bool) : State :=
  let s : State := { s with dump := { running := true, trigger := trigger, work := work, buffer := buffer, size := size, freeze := freeze
                                      since := s.time, calendar := s.calNow.word, readAt := s.time, written := 4096, frozen := s.dump.frozen } }
  (((s.put F.HUB_DUMP_STAT_state 1 0).put F.HUB_DUMP_STAT_unresponsive 0 0).put F.HUB_DUMP_STAT_frozen 0 0).put F.HUB_DUMP_STAT_written 0 0

/-- End the dump: state 2 done or 3 truncated, the event and vector 0, the descriptor's status (R360, R363). -/
def State.endDump (s : State) (truncated : Bool) (st : Status) : State :=
  let d := s.dump
  let s : State := match d.work with | some w => s.finish w st 0 | none => s
  let s : State := { s with dump := { d with running := false, work := none } }
  let s := (s.put F.HUB_DUMP_STAT_state (if truncated then 3 else 2) 0).put F.HUB_DUMP_STAT_written d.written 0
  (s.put F.HUB_DUMP_STAT_done_evt 1 0).vec0

/-- A hard trip, hold-up or emergency stop ends the dump at once, truncated (R364). -/
def State.cutDump (s : State) (st : Status) : State := if s.dump.running then s.endDump true st else s

/-- Write the present section with n body bytes and flags, 4 KiB aligned, and go on (R362). -/
def State.dumpSection (s : State) (code n flags : Nat) : State :=
  let d := s.dump
  { s with dump := { d with next := d.next + 1, written := d.written + ceilDiv (32 + n) 4096 * 4096
                            sections := d.sections ++ [DumpEntry.mk code flags d.written (32 + n) d.readAt], readAt := s.time
                            unresponsive := false, frozenNow := false, during := false } }.emit
    (.dumpSection code flags d.written (32 + n) d.readAt)

/-- A section table entry as its 32 bytes (Table 12.18). -/
def DumpEntry.bytes (e : DumpEntry) : List Byte :=
  leBytes 2 e.unit ++ leBytes 2 e.flags ++ leBytes 4 0 ++ leBytes 8 e.offset ++ leBytes 8 e.length ++ leBytes 8 e.time

/-- The 4 KiB header of the dump (Table 12.17); cause is 1 where size cut it, 2 at the 1 s limit, else 0. -/
def State.dumpHeader (s : State) (cause : Nat) : List Byte :=
  let d := s.dump
  leBytes 4 0x47444D50 ++ leBytes 2 1 ++ leBytes 2 d.sections.length ++ leBytes 8 d.written ++ leBytes 8 d.since ++ leBytes 8 d.calendar ++
  leBytes 2 s.epoch ++ leBytes 1 d.trigger ++ leBytes 1 (cause + 4 * b2n d.freeze) ++ leBytes 4 (s.regImage .HUB_BOOT_STATUS 0) ++
  leBytes 8 (s.regImage .HUB_RESET_STAT 0) ++ leBytes 8 (s.regImage .THM_STOP_STAT 0) ++ leBytes 8 (s.regImage .HUB_CFG_STATUS 0) ++
  List.replicate 64 0 ++ d.sections.flatMap DumpEntry.bytes ++ List.replicate (3968 - 32 * d.sections.length) 0

/-- Whether a dump can be started from the registers (R360). -/
def State.mayDump (s : State) : Bool :=
  !s.dump.running && s.host.up && s.get F.HUB_DUMP_ADDR_addr 0 != 0 && decide (0x100 ≤ s.get F.HUB_DUMP_CTRL_size_4k 0)

/-- A dump to HUB_DUMP_ADDR (R360). -/
def State.regDump (s : State) (trigger : Nat) : State :=
  if s.mayDump then
    s.startDump trigger none (s.get F.HUB_DUMP_ADDR_addr 0 * 4096) (s.get F.HUB_DUMP_CTRL_size_4k 0 * 4096)
      (s.isSet F.HUB_DUMP_CTRL_allow_freeze 0)
  else s

/-- A reset of the unit being read marks its section (R364). -/
def State.dumpMark (s : State) (codes : List Nat) : State :=
  match s.dump.unit with
  | some c => if codes.contains c then { s with dump := { s.dump with during := true } } else s
  | none => s

end Sys2Proof.Machine
end

