-- ==== Sys2Proof/Machine/Resets.lean ====
section
/-! DEFINITION. Resets: requests and their order, context, engine, partition and chip resets, power cycles, limits and escalation, what
passes with time (chapter 12). -/

namespace Sys2Proof.Machine

/-! ## Scope and records (R337, R341) -/

/-- The kind code of a reset (Table 12.4). -/
def RKind.code : RKind → Nat
  | .context => 1 | .engine => 2 | .partition => 3 | .chip => 4 | .powerCycle => 5

/-- Whether the scope of a lies inside the scope of b (Table 12.1). -/
def RReq.inside (a b : RReq) : Bool :=
  match b.kind with
  | .powerCycle => true
  | .chip => a.kind != .powerCycle
  | .partition => (a.kind == .partition && a.target == b.target) || (a.kind == .engine && decide (a.target < 16) && a.target / 4 == b.target)
  | .engine => a.kind == .engine && a.target == b.target
  | .context => a.kind == .context && a.target == b.target

/-- Record a reset's end: 0 done, 1 failed, 2 escalated, 3 absorbed (Table 12.5). -/
def State.resetEnds (s : State) (r : RReq) (result : Nat) : State :=
  let s := (s.put F.HUB_RESET_STAT_last_kind r.kind.code 0).put F.HUB_RESET_STAT_last_target r.target 0
  let s := (s.put F.HUB_RESET_STAT_last_result result 0).put F.HUB_RESET_STAT_done_evt 1 0
  (s.logEvent 0x0009 0 [r.kind.code, r.target, result]).vec0

def State.resetState (s : State) (v : Nat) : State := s.put F.HUB_RESET_STAT_state v 0

/-! ## The parts of a reset -/

/-- Keep the replay points of every context that has one (R357). -/
def State.freezeAll (s : State) : State := (s.indicesWith F.HUB_CTX_REPLAY_valid 1).foldl (fun s x => s.freezeReplay x) s

/-- Keep the replay points of the contexts at work on engine e. -/
def State.freezeEngine (s : State) (e : Nat) : State := (s.eng e).active.foldl (fun s x => s.freezeReplay x) s

/-- Whether context x has no work left that was dispatched (R343). -/
def State.ctxQuiet (s : State) (x : Nat) : Bool :=
  (s.queues.all fun q => q.2.ents.all fun e => e.ctxId != x || e.phase == .fetched || e.phase == .ended) &&
  (s.launches.all fun l => l.ctxId != x) && s.graphs.all fun g => g.2.work.isNone || g.2.ctxId != x

/-- Steps 1 and 2 of a context reset: its queues are disabled, its dispatched work is committed E_ABORTED and told to end (R343). -/
def State.endContext (s : State) (x : Nat) : State :=
  let s := s.freezeReplay x
  let own := (s.indicesWith F.HUB_Q_CFG_enable 1).filter fun n => s.get F.HUB_Q_CFG_context n == x
  let s := own.foldl (fun s n => s.closeQueue n) s
  let held := s.isSet F.HUB_CTX_REPLAY_frozen x
  let s := (s.openOf x).foldl (fun s e => s.abortDesc e.1 e.2.idx) s
  s.putB F.HUB_CTX_REPLAY_frozen held x

/-- Step 3: every sync object in the context's range falls to 0 (R343). -/
def State.zeroSync (s : State) (x : Nat) : State :=
  let c := s.ctxOf x
  { s with sync := SMap.drop s.sync fun i => c.maySync i }

/-- Begin the quiesce of a chip reset or power cycle: nothing new starts, open work ends E_ABORTED, fabric requests already sent run
on (R339, R346, R357). -/
def State.quiesce (s : State) (r : RReq) : State :=
  let s : State := { s with rst := { s.rst with run := some { req := r, stage := 1, since := s.time }, heldFailed := false } }
  ((s.resetState (if r.kind = .powerCycle then 6 else 4)).freezeAll).endAll .eAborted false fun _ => true

/-- Whether a chip reset or power cycle must still wait: for a dump, and a chip reset for the end of a stop (R331, R364). -/
def State.mustWait (s : State) (r : RReq) : Bool := s.dump.running || (r.kind == .chip && s.stopActive)

/-- Let a waiting chip reset or power cycle begin, where nothing holds it any more. -/
def State.tryChip (s : State) : State :=
  match s.rst.run with
  | some r => if r.stage = 0 ∧ (r.req.kind = .chip ∨ r.req.kind = .powerCycle) ∧ !s.mustWait r.req then s.quiesce r.req else s
  | none => s

/-- Power-cycle request without a hub to quiesce: the log is written and TRAY_PWR_CYCLE_REQ_N asserted (R355). -/
def State.askCycle (s : State) : State :=
  let s := s.logToFlash
  ({ s with rst := { s.rst with run := none, cycleWait := true }, thm := { s.thm with cycleReq := true } }).resetState 6

/-- Start a reset. -/
def State.startReset (s : State) (r : RReq) : State :=
  match r.kind with
  | .context => (({ s with rst := { s.rst with run := some { req := r, since := s.time } } }).resetState 1).endContext r.target
  | .engine =>
    let code := if r.target < 16 then 0x20 + r.target else if r.target < 24 then 0x31 + (r.target - 16) else 0x40
    let s := ((s.dumpMark [code]).freezeEngine r.target).resetEngine r.target
    { s with rst := { s.rst with run := some { req := r, since := s.time } } }.resetState 2
  | .partition =>
    let c := r.target
    let codes := (0x70 + c) :: (List.range 4).map (fun k => 0x20 + 4 * c + k)
    let s := (List.range 4).foldl (fun s k => s.freezeEngine (4 * c + k)) (s.dumpMark codes)
    { s with rst := { s.rst with run := some { req := r, stage := 1, since := s.time } } }.resetState 3
  | _ =>
    if r.kind = .powerCycle ∧ (s.rst.keepers || s.boot.phase != .ready) then s.askCycle
    else
      let s := if r.dumpFirst then s.regDump 2 else s
      let s : State := { s with rst := { s.rst with run := some { req := r, stage := 0, since := s.time } } }
      let s := if s.mustWait r then s.resetState 7 else s
      let s := if r.kind = .chip ∧ s.get F.THM_STOP_STAT_state 0 = 3 then s.put F.THM_STOP_STAT_state 5 0 else s
      s.tryChip

/-- The reset in progress ends; those it absorbed end with it, the next of an escalation or of those that wait starts (R341, R342). -/
def State.finishReset (s : State) (result : Nat) : State :=
  match s.rst.run with
  | none => s
  | some r =>
    let s := s.rst.absorbed.foldl (fun s a => s.resetEnds a 3) s
    let s := s.resetEnds r.req result
    let s := ({ s with rst := { s.rst with run := none, absorbed := [] } }).resetState 0
    match s.rst.chain, s.rst.queue with
    | a :: rest, _ => { s with rst := { s.rst with chain := rest } }.startReset a
    | [], a :: rest => { s with rst := { s.rst with queue := rest } }.startReset a
    | [], [] => s

/-- Steps of context resets that have come to their end: sync objects fall to 0 and the reset is done, one that a link event makes too
(R187, R343, Table 12.1). -/
def State.settleContexts (s : State) : State :=
  let s : State := (s.rst.ctxEnding.filter fun x => s.ctxQuiet x).foldl (fun s x =>
    ({ s.zeroSync x with rst := { s.rst with ctxEnding := s.rst.ctxEnding.erase x } }).resetEnds ⟨.context, x, false, false, 1⟩ 0) s
  match s.rst.run with
  | some r => if r.req.kind = .context ∧ s.ctxQuiet r.req.target then (s.zeroSync r.req.target).finishReset 0 else s
  | none => s

/-! ## Requests (R341) -/

/-- A request: absorbed by a reset or stop that contains it, taking over one that it contains, waiting behind a disjoint one. -/
def State.request (s : State) (r : RReq) : State :=
  if s.stopActive ∧ r.kind ≠ .chip ∧ r.kind ≠ .powerCycle then s.resetEnds r 3
  else if s.rst.cycleWait then s.resetEnds r 3
  else match s.rst.run with
    | none => (s.startReset r).settleContexts
    | some v =>
      if r.inside v.req then { s with rst := { s.rst with absorbed := s.rst.absorbed ++ [r] } }
      else if v.req.inside r then
        let gone := s.rst.queue.filter fun a => a.inside r
        ({ s with rst := { s.rst with run := none, absorbed := s.rst.absorbed ++ v.req :: gone, chain := []
                                      queue := s.rst.queue.filter fun a => !a.inside r } }).startReset r
      else if s.rst.queue.length < 16 then { s with rst := { s.rst with queue := s.rst.queue ++ [r] } }
      else s.bump F.HUB_RESET_STAT_dropped 1 0

/-- A chip reset asked for: in boot hold it restarts bring-up, before the end of step 5 it waits for it (R41). -/
def State.requestChip (s : State) (r : RReq) : State :=
  match s.boot.phase with
  | .off => s
  | .offLatched => s
  | .hold => s.restart
  | .bringup => if s.boot.done.contains 5 then s.request r else { s with boot := { s.boot with resetPending := true } }
  | .ready => s.request r

/-! ## HUB_RESET_CTRL (R340) -/

/-- The kind a write of HUB_RESET_CTRL carries. -/
def BarAcc.resetKind (w : BarAcc) : Nat := w.value.toNat % 16

/-- Whether the device ignores the write and counts it (R340). -/
def BarAcc.resetBad (w : BarAcc) : Bool :=
  let v := w.value.toNat % 2 ^ 32
  let k := w.resetKind
  let t := slice v 27 16
  w.size != 4 || k == 0 || decide (5 < k) || slice v 31 28 != 0 || slice v 15 6 != 0 ||
  (k == 2 && decide (24 < t)) || (k == 3 && decide (3 < t)) || (decide (4 ≤ k) && t != 0)

/-- A write of HUB_RESET_CTRL that asks for kind k; another kind is another row's (R340). -/
def State.onReset (s : State) (w : BarAcc) (k : RKind) (f : RReq → State) : State :=
  s.onWrite .HUB_RESET_CTRL 0 w fun _ =>
    if w.resetKind ≠ k.code then s
    else if w.resetBad then s.badAccess
    else
      let v := w.value.toNat
      f { kind := k, target := slice v 27 16, escalate := bitAt v 4, dumpFirst := bitAt v 5 && decide (4 ≤ k.code) }

/-- CONTEXT_RESET (R343). -/
def execContextReset (w : BarAcc) (s : State) : Res :=
  .next <| s.onReset w .context s.request

/-- ENGINE_RESET (R344). -/
def execEngineReset (w : BarAcc) (s : State) : Res :=
  .next <| s.onReset w .engine s.request

/-- ENGINE_RESET_END: the engine is initialised; waiting launches and requests may start (R344). -/
def execEngineResetEnd (s : State) : Res :=
  .next <|
    match s.rst.run with
    | some r => if r.req.kind = .engine then s.finishReset 0 else s
    | none => s

/-- PARTITION_RESET (R345). -/
def execPartitionReset (w : BarAcc) (s : State) : Res :=
  .next <| s.onReset w .partition s.request

/-- CHIP_RESET (R41, R346). -/
def execChipReset (w : BarAcc) (s : State) : Res :=
  .next <| s.onReset w .chip s.requestChip

/-- POWER_CYCLE (R355). -/
def execPowerCycle (w : BarAcc) (s : State) : Res :=
  .next <| s.onReset w .powerCycle s.request

/-- PLDM_CHIP_RESET: over I3C (R41); one refused by nothing but the module's being off (R404). -/
def execPldmChipReset (s : State) : Res :=
  .next <| if s.mgmtUp then s.requestChip { kind := .chip, cause := 2 } else s

/-- PLDM_POWER_CYCLE: over I3C (R355). -/
def execPldmPowerCycle (s : State) : Res :=
  .next <| if s.mgmtUp then s.request { kind := .powerCycle, cause := 2 } else s

/-! ## Partition reset stages (R345, Table 12.6) -/

/-- Set the stage of the reset in progress. -/
def State.setStage (s : State) (n : Nat) : State :=
  match s.rst.run with
  | none => s
  | some r => { s with rst := { s.rst with run := some { r with stage := n } } }

/-- The next reset when one fails with escalate set (Table 12.1). -/
def RReq.next (r : RReq) : RReq :=
  match r.kind with
  | .context => r
  | .engine => if r.target < 16 then { kind := .partition, target := r.target / 4, escalate := true, cause := 4 }
               else { kind := .chip, escalate := true, cause := 4 }
  | .partition => { kind := .chip, escalate := true, cause := 4 }
  | _ => { kind := .powerCycle, escalate := true, cause := 4 }

/-- The reset in progress has failed: it stops, or the next one starts; a chip reset leaves the device held with the keepers answering
(R342). -/
def State.failReset (s : State) : State :=
  match s.rst.run with
  | none => s
  | some r =>
    if !r.req.escalate then
      let s := s.finishReset 1
      if r.req.kind = .chip then ({ s with rst := { s.rst with heldFailed := true } }).resetState 7 else s
    else
      let s := s.resetEnds r.req 2
      let s : State := { s with rst := { s.rst with run := none } }
      match r.req.kind with
      | .context =>
        match (List.range 25).filter fun e => (s.eng e).active.contains r.req.target with
        | [] => s.resetState 0
        | e :: es =>
          let eng (e : Nat) : RReq := { kind := .engine, target := e, escalate := true, cause := 4 }
          { s with rst := { s.rst with chain := es.map eng } }.startReset (eng e)
      | _ => s.startReset r.req.next

/-- Poison sectors named by their place in the sector store. -/
def State.poisonSectors (s : State) (l : List Nat) : State :=
  { s with mem := { s.mem with dram := l.foldl (fun d k => d.mark k true) s.mem.dram } }

/-- Whether a sector of the store lies on a stack of compute die c. -/
def sectorOnDie (c sector : Nat) : Bool := sector / (32 * burstsPerChannel * 32) / 4 == c

/-- The array clock of compute die c stops and is remembered. -/
def State.parkClock (s : State) (c : Nat) : State :=
  let f := s.get F.HUB_ARRAY_CLK_current_mhz c
  let s : State := if f = 0 then s else { s with pwr := { s.pwr with parked := SMap.set 0 s.pwr.parked c f } }
  s.put F.HUB_ARRAY_CLK_current_mhz 0 c

/-- The array clock of compute die c runs again at its speed before. -/
def State.unparkClock (s : State) (c : Nat) : State :=
  let f := SMap.get 0 s.pwr.parked c
  ({ s with pwr := { s.pwr with parked := SMap.erase s.pwr.parked c } }).put F.HUB_ARRAY_CLK_current_mhz f c

/-- Clear the scratchpads of compute die c. -/
def State.clearSpads (s : State) (c : Nat) : State := s.setSpad (s.spad.clearRange (spadKey (4 * c) 0) (spadKey (4 * c + 4) 0))

/-- PARTITION_STAGE_DONE: 1 quadrants stopped, 2 stacks in self-refresh, their held writes performed (R154), 3 bundles retrained (short names those that lost lanes), 4
self-refresh left (bad names sectors whose dirty line failed its check), 5 memories initialised, 6 released (R345). -/
def execPartitionStageDone (c : Fin 4) (short : ShortLanes) (bad : List Nat) (s : State) : Res :=
  .next <|
    match s.rst.run with
    | none => s
    | some r =>
      if r.req.kind ≠ .partition ∨ r.req.target ≠ c.val then s
      else if r.stage = 1 then (s.dieReset c .eAborted).setStage 2
      else if r.stage = 2 then
        let s : State := { s with mem := { s.mem with
          refresh := if s.mem.refresh.contains c.val then s.mem.refresh else s.mem.refresh ++ [c.val]
          holds := s.mem.holds.filter fun h => h.stack / 4 != c.val } }
        (s.parkClock c).setStage 3
      else if r.stage = 3 then
        let s := s.trainBundles (64 * c) 64 short
        if s.linkHalves (computeLink c) < (computeLink c).boot then s.failReset else s.setStage 4
      else if r.stage = 4 then
        let s := s.poisonSectors (bad.filter fun k => sectorOnDie c k)
        ({ s with mem := { s.mem with refresh := s.mem.refresh.filter (· != c.val) } }).serveAll.setStage 5
      else if r.stage = 5 then (s.clearSpads c).setStage 6
      else (s.unparkClock c).finishReset 0

/-! ## Limits (R342, Table 12.1) -/

/-- The limit of a reset in ns; none where it has none. -/
def RKind.limit : RKind → Option Nat
  | .context => some 1000000
  | .engine => some 1000000
  | .partition => some 20000000
  | .chip => some 500000000
  | .powerCycle => none

/-- RESET_LIMIT_EXPIRE: the reset in progress has missed its limit (R342). A chip reset that still waits, or that a stop cause holds, has
not begun to count. -/
def execResetLimitExpire (s : State) : Res :=
  .next <|
    match s.rst.run with
    | none => s
    | some r =>
      match r.req.kind.limit with
      | none => s
      | some n =>
        if (r.req.kind = .chip ∧ r.stage = 0) ∨ s.rst.causeHeld then s else (s.due (r.since + n)).failReset

/-! ## Chip reset (R346-R354) -/

/-- An endpoint notice of this device (Table 12.7). -/
def State.endNotice (s : State) (kind : NoticeKind) (epoch prev cause expect : Nat) : EndNotice :=
  { kind := kind, node := s.ownNode, epoch := epoch, prevEpoch := prev, cause := cause, expectMs := expect, time := s.time }

/-- Ports that carry control messages now. -/
def State.upPorts (s : State) : List Nat := (List.range 64).filter fun p => s.portState p == 3 || s.portState p == 4

/-- Send a notice on every port that is up; none leaves the package with a window rail at fault (R308, R350). -/
def State.sendNotice (s : State) (n : EndNotice) : State :=
  let s : State := { s with rst := { s.rst with lastNotice := s.time } }
  if s.thm.rail = some 5 ∨ s.thm.rail = some 6 then s else s.upPorts.foldl (fun s p => s.tx p (.ctl p (.endpointNotice n))) s

/-- The notice that is repeated: RESETTING or POWER_CYCLING while the keepers hold the ports, STOPPING behind a stop's shutter. -/
def State.ownNotice (s : State) : EndNotice :=
  if s.rst.cycleWait then s.endNotice .powerCycling s.rst.prevEpoch 0 0 45000
  else if s.rst.keepers then s.endNotice .resetting s.rst.prevEpoch 0 s.rst.cause 150
  else s.endNotice .stopping s.rst.prevEpoch 0 (s.get F.THM_STOP_STAT_cause 0) 0

/-- ENDPOINT_NOTICE_TIMER: every 10 ms (R350). -/
def execEndpointNoticeTimer (s : State) : Res :=
  .next <|
    if !s.kept then s
    else
      let s := s.due (s.rst.lastNotice + 10000000)
      s.sendNotice s.ownNotice

/-- A chip reset drops the retrains in progress and queues them afresh (R182). -/
def State.retrainsAfresh (s : State) : State :=
  (List.range 16).foldl (fun s k =>
    let v := s.stk k
    match v.retrain with
    | none => s
    | some r =>
      let s := s.setStk k { v with retrain := none, retrainQ := v.retrainQ ++ [{ r with slices := 0 }] }
      (if s.chState r.phys = 2 then s.setChState r.phys 1 else s).startRetrain k) s

/-- What the quiesce left open is discarded with the hub's state. -/
def State.forceEnd (s : State) : State := ((s.endAll .eAborted false fun _ => true).quadsReset .eAborted).cutAll .eAborted

/-- The takeover of a chip reset: the link keepers hold every port, the shutter closes, RESETTING carries the epoch now ending, the epoch
advances, the PCI Express link goes down and the hub's state is as Table 12.2 gives it (R217, R275, R303, R338, R348-R350). -/
def State.takeover (s : State) (r : RReq) : State :=
  let s : State := { s with rst := { s.rst with prevEpoch := if s.rst.keepers then s.rst.prevEpoch else s.epoch, keepers := true, shut := false
                                                cause := r.cause, causeHeld := false, linkWait := false } }
  let s := s.sendNotice s.ownNotice
  let s := s.pldm (.resetStart s.rst.prevEpoch r.cause)
  let s := ((s.commitReset.reflInterrupt).retrainsAfresh).cancelUpdate
  let node := s.ownNode
  let asg := s.get F.FAB_NODE_ID_assigned 0
  let s := (((s.clearWork).keepRegs).monReset).colReset
  let s := (s.put F.FAB_NODE_ID_node node 0).put F.FAB_NODE_ID_assigned asg 0
  let s := (s.put F.HUB_RESET_STAT_epoch (nextEpoch s.epoch) 0).bump F.HUB_RESET_STAT_chip_resets 1 0
  let s := (s.put F.HUB_BOOT_STATUS_ready 0 0).put F.THM_STOP_STAT_state 0 0
  { s with
    host := { s.host with up := false, d3 := false, vfEnabled := false }
    mem := { s.mem with refresh := [0, 1, 2, 3], holds := [] }
    dump := { s.dump with frozen := [] }
    pwr := { s.pwr with stepAt := [], slow := [], parked := [], demand := [], taken := [], shares := [] }
    thm := { s.thm with step := 0, rail := none } }

/-- The takeover of a power cycle: POWER_CYCLING, the log written, TRAY_PWR_CYCLE_REQ_N asserted (R355). -/
def State.cycleTakeover (s : State) : State :=
  let s : State := { s with rst := { s.rst with prevEpoch := if s.rst.keepers then s.rst.prevEpoch else s.epoch, keepers := true, shut := false
                                                cycleWait := true } }
  let s := s.sendNotice s.ownNotice
  { s with host := { s.host with up := false } }.askCycle

/-- CHIP_RESET_TAKEOVER: the quiesce is done, or 120 µs have passed (R346). -/
def execChipResetTakeover (s : State) : Res :=
  .next <|
    match s.rst.run with
    | none => s
    | some r =>
      if r.stage ≠ 1 ∨ !(r.req.kind = .chip ∨ r.req.kind = .powerCycle) then s
      else
        let done := s.quiet
        let s := if done then s else s.due (r.since + 120000)
        let s := s.putB F.HUB_RESET_STAT_flush_incomplete (!done || !s.host.up) 0
        let s := if done then s else s.forceEnd
        if r.req.kind = .powerCycle then s.cycleTakeover else ((s.takeover r.req).setStage 2).resetState 5

/-- Whether a stop may end, or a chip reset that a stop cause holds may go on (R331). -/
def State.coolEnough (s : State) : Bool :=
  let v := match s.pwr.inUse with
    | some .A => s.get F.PWR_FEED_STAT_feed_a 0
    | some .B => s.get F.PWR_FEED_STAT_feed_b 0
    | none => 0
  ((List.range 9).all fun i => decide (s.getI F.THM_TEMP_temp i ≤ 850)) &&
  ((List.range 16).all fun k => decide (s.getI F.THM_TEMP_temp (9 + k) ≤ 750)) && !s.thm.coolant && decide (4400 ≤ v)

/-- A bundle's width before and after retraining: one that trained wider is reported (R42). -/
def State.reportWider (s0 s : State) : State :=
  (List.range 400).foldl (fun s b =>
    if s0.get F.HUB_D2D_BUNDLE_STAT_width b < s.get F.HUB_D2D_BUNDLE_STAT_width b then s.d2dEvent b else s) s

/-- CHIP_RESET_STAGE_DONE: the stages of Table 1.11 up to the window handover (R42, R86, R159, R175, R177, R347, R348, R406). -/
def execChipResetStageDone (r : StageResult) (s : State) : Res :=
  .next <|
    match s.rst.run with
    | none => s
    | some v =>
      if v.req.kind ≠ .chip then s
      else
        let hold (cause unit : Nat) (fails : List BootFail) (w0 : Bool) : State :=
          ((s.finishReset 1).hold cause unit fails w0)
        match v.stage, r with
        | 2, .image same ok =>
          if !same then hold 0x03 0 [] true else (s.storeEpoch s.epoch ok).setStage 3
        | 3, .identity x =>
          match identityFails x with
          | [] => s.setStage 4
          | f :: fs => hold f.cause f.unit (f :: fs) (w0Passed (f :: fs))
        | 4, .d2d short =>
          let s' := s.trainBundles 0 400 short
          match s'.belowBoot with
          | some u => ((s'.finishReset 1).hold 0x20 u [] true)
          | none => ((s.reportWider s').setStage 5).resetState (if s.rst.causeHeld then 7 else 5)
        | 5, .refreshExit bad =>
          if s.rst.causeHeld then s
          else
            let s := (s.poisonSectors bad).remapPending
            ({ s with mem := { s.mem with refresh := [] } }).setStage 6
        | 6, .sram => { s with spad := {}, hubsp := {}, arrays := [], acc := [], accBad := [], vreg := [] }.setStage 7
        | _, _ => s

/-- The device is ready after a chip reset: HUB_BOOT_STATUS.ready and RESET_DONE with both epochs (R349, R353). -/
def State.resetReady (s : State) : State :=
  let s : State := { s with rst := { s.rst with linkWait := false } }
  (s.put F.HUB_BOOT_STATUS_ready 1 0).pldm (.resetDone s.rst.prevEpoch s.epoch)

/-- The array clock of a compute die starts at a multiple of 50 MHz between 600 and its ceiling that the manual leaves open (log entry 1). -/
def State.startClock (s : State) (c : Nat) : State :=
  let (v, s) := s.draw
  let n := (min 2000 (s.get F.HUB_ARRAY_CLK_ceiling_mhz c) - 600) / 50 + 1
  s.put F.HUB_ARRAY_CLK_current_mhz (600 + v % n * 50) c

/-- WINDOW_HANDOVER: the keepers hand every port back, the hub runs with the new epoch, and the chip reset ends. In service the device is
ready once the host link is up, at once where it was dark; in bring-up the steps not yet done go on (R42, R219, R220, R347, R349, R399). -/
def execWindowHandover (s : State) : Res :=
  .next <|
    match s.rst.run with
    | none => s
    | some v =>
      if v.req.kind ≠ .chip ∨ v.stage ≠ 7 then s
      else
        let s : State := { s with rst := { s.rst with keepers := false, readyOwed := true } }
        let s := (s.put F.FAB_NODE_ID_node 0 0).put F.FAB_NODE_ID_assigned 0 0
        let s := ((List.range 4).foldl (fun s c => s.startClock c) s).monStart
        let s := s.sendHellos
        let s : State :=
          if s.boot.phase = .ready then
            if s.boot.hostTrained && !s.boot.hostDark then { s with rst := { s.rst with linkWait := true } } else s.resetReady
          else ((s.markDone 6).markDone 7).bootStep 10
        s.finishReset 0

/-! ## What passes with time -/

/-- One always-on cycle with no command: device time advances by 10 ns while the island runs (R47); contexts whose work has ended lose
their sync values (R343); in a quiesce, instructions still running at 40 µs are discarded, and what is open at 110 µs ends (R346). -/
def State.tick (s : State) : State :=
  if !s.boot.island then s
  else
    let s := { s with time := s.time + 10 }.settleContexts
    match s.rst.run with
    | none => s
    | some r =>
      if r.stage ≠ 1 ∨ !(r.req.kind = .chip ∨ r.req.kind = .powerCycle) then s
      else
        let s := if r.since + 40000 ≤ s.time ∧ (List.range 16).any (fun q => (s.seq q).launch.isSome) then s.quadsReset .eAborted else s
        if r.since + 110000 ≤ s.time then s.openWorks.foldl (fun s w => s.finish w .eAborted 0) s else s

end Sys2Proof.Machine
end

