-- ==== Sys2Proof/Machine/Dumps.lean ====
section
/-! DEFINITION. Crash dumps: the rows (R360-R364). -/

namespace Sys2Proof.Machine

/-- The first invalid field of a DUMP payload (Table 12.13). -/
def dumpFormat (b : List Byte) : Option Nat :=
  if fieldAt b 0 8 % 4096 ≠ 0 then some 32
  else if fieldAt b 8 4 % 4096 ≠ 0 ∨ fieldAt b 8 4 < 2 ^ 20 then some 40
  else if 2 ≤ fieldAt b 12 1 then some 44
  else if !zeroAt b 13 19 then some 45
  else none

/-- DUMP: one dump runs at a time; the descriptor waits for the one that runs (R360, R363). -/
def execDump (work : Work) (s : State) : Res :=
  .next <|
    match s.fresh work 0x0F with
    | none => s
    | some it =>
      match dumpFormat it.payload with
      | some d => s.finish work .eFormat d
      | none =>
        if s.dump.running ∨ s.quiescing ∨ s.stopActive then s
        else (s.begin_ work).startDump 0 (some work) (fieldAt it.payload 0 8) (fieldAt it.payload 8 4) (bitAt (fieldAt it.payload 12 1) 0)

/-- DUMP_START: a write of HUB_DUMP_CTRL with start set (R360). -/
def execDumpStart (w : BarAcc) (s : State) : Res :=
  .next <| s.onWrite .HUB_DUMP_CTRL 0 w fun _ =>
    if w.bits F.HUB_DUMP_CTRL_start = 1 then (s.writeReg .HUB_DUMP_CTRL 0 w).regDump 1 else s

/-- Flags of the section being read (Table 12.18). -/
def State.dumpFlags (s : State) (code : Nat) : Nat :=
  b2n s.dump.unresponsive + 2 * b2n s.dump.frozenNow + 8 * b2n s.dump.during + 16 * b2n (s.unitAbsent code)

/-- The dump is over, and a reset that waited for it may begin (R364). -/
def State.dumpOver (s : State) (truncated : Bool) (st : Status) : State := (s.endDump truncated st).tryChip

/-- The dump's header is written, with what ended it (R362, Table 12.17). -/
def State.writeHeader (s : State) (cause : Nat) : State := s.emit (.hostWrite s.dump.buffer (s.dumpHeader cause))

/-- DUMP_SECTION_DONE: a section of the given body bytes has been written; ok is false where the buffer failed translation. An unresponsive
section read without a freeze has its header alone. A buffer too short cuts the dump (R361-R363). -/
def execDumpSectionDone (bytes : Nat) (ok : Bool) (s : State) : Res :=
  .next <|
    let d := s.dump
    match if d.running then dumpSections[d.next]? else none with
    | none => s
    | some (code, kib) =>
      let body := if (d.unresponsive && !d.frozenNow) || s.unitAbsent code then 0 else min bytes (1024 * kib - 32)
      if !ok then s.dumpOver true .eBounds
      else if d.size < d.written + ceilDiv (32 + body) 4096 * 4096 then (s.writeHeader 1).dumpOver true .eBounds
      else
        let s := s.dumpSection code body (s.dumpFlags code)
        if dumpSections.length ≤ s.dump.next then (s.writeHeader 0).dumpOver false .ok else s

/-- DUMP_UNIT_UNRESPONSIVE: the unit being read has not answered for 5 µs; with allow_freeze its clock is stopped and it is read frozen
(R361), which measurement 5 counts (R409). -/
def execDumpUnitUnresponsive (s : State) : Res :=
  .next <|
    match s.dump.unit with
    | none => s
    | some code =>
      if s.dump.unresponsive then s
      else
        let s := { s with dump := { s.dump with unresponsive := true } }.bump F.HUB_DUMP_STAT_unresponsive 1 0
        if !s.dump.freeze ∨ !freezable code then s
        else
          let s : State := { s with dump := { s.dump with frozenNow := true, frozen := s.dump.frozen ++ [code] }
                                    mgmt := { s.mgmt with frozenReads := s.mgmt.frozenReads + 1 } }
          (s.bump F.HUB_DUMP_STAT_frozen 1 0).measureLock

/-- DUMP_TIME_LIMIT: 1 s after its start the dump writes every unread section as truncated and ends (R363). -/
def execDumpTimeLimit (s : State) : Res :=
  .next <|
    if !s.dump.running then s
    else
      let s := s.due (s.dump.since + 1000000000)
      (((dumpSections.drop s.dump.next).foldl (fun s e => s.dumpSection e.1 0 (4 + s.dumpFlags e.1)) s).writeHeader 2).dumpOver true .ok

end Sys2Proof.Machine
end

