-- ==== Sys2Proof/Machine/HostPort.lean ====
section
/-! DEFINITION. The host port beside its queues: training, link events, function resets, BAR4, configuration of functions, and the set of
FAB_CFG.enable (R37, R185-R190, R219, R270, R349). -/

namespace Sys2Proof.Machine

/-! ## Training (R270) -/

/-- Whether the host port's rails and rings are there to train: from the end of step 7, in service, and in boot hold where W0 keeps its
rails; not while the keepers hold its rings (R30, R349). -/
def State.hostCanTrain (s : State) : Bool :=
  !s.rst.keepers &&
  (match s.boot.phase with
   | .bringup => s.boot.done.contains 7
   | .hold => s.boot.w0Rails
   | .ready => true
   | _ => false)

/-- PCIe lanes on the usable wavelengths, x8 or x4, in the order of R268; the link is up, and a chip reset that waited for it is done
(R270, R349). -/
def State.hostTrain (s : State) (fast : Bool) (usable : List Nat) : State :=
  let usable := usable.filter fun n => !(s.port 64).optBad.contains n
  let order := ((List.range 8).map (· + 1)) ++ [0]
  let ok := order.filter fun n => usable.contains n
  let lanes := if 8 ≤ ok.length then 8 else 4
  let taken := (List.range 9).filter fun n => (ok.take lanes).contains n
  let m := (List.range 18).map fun n =>
    if taken.contains n then (taken.takeWhile fun k => k != n).length else if usable.contains n ∧ n < 9 then 0xFE else 0xFF
  let s := (s.setPort 64 { s.port 64 with rxMap := m, failed := [], usable := usable, optBad := [] }).showMap 64
  let s := (List.range 9).foldl (fun s n => s.put F.WIN_LANE_STAT_lock (if usable.contains n then 2 else 4) (18 * 64 + n)) s
  let s := { s with host := { s.host with up := true, fast := fast, wide := decide (lanes = 8) }
                    boot := { s.boot with hostTrained := true, hostDark := false } }.setPortState 64 3
  if s.rst.linkWait then s.resetReady else s

/-- Whether enough of the 9 wavelengths are usable to train (R270). -/
def State.hostUsable (s : State) (usable : List Nat) : Bool :=
  decide (4 ≤ ((List.range 9).filter fun n => usable.contains n && !(s.port 64).optBad.contains n).length)

/-- HOST_LINK_TRAINED: fewer than 4 usable wavelengths leave the port dark (R270). -/
def execHostLinkTrained (fast : Bool) (usable : List Nat) (s : State) : Res :=
  .next <| if s.hostCanTrain && s.hostUsable usable then s.hostTrain fast usable else s

/-- HOST_TRAIN_RETRY: host-port training repeated every 1 s while the port is dark; a retry that fails changes nothing: the dark port
was reported when step 8 missed its limit (R37, Table 1.10b). -/
def execHostTrainRetry (trained fast : Bool) (usable : List Nat) (s : State) : Res :=
  .next <|
    if !s.hostCanTrain || !s.boot.hostDark then s
    else if trained && s.hostUsable usable then s.hostTrain fast usable
    else s

/-! ## Link-down and function-level reset (R187) -/

/-- Every context there is: those valid in the live table, and those of enabled queues and of work begun under an earlier table. -/
def State.everyContext (s : State) : List Nat :=
  (s.indicesWith F.CTX_valid 1 ++ (s.indicesWith F.HUB_Q_CFG_enable 1).map (fun n => s.get F.HUB_Q_CFG_context n) ++
   s.launches.map (fun l => l.ctxId) ++ s.queues.flatMap fun q => q.2.ents.map fun e => e.ctxId).dedup

/-- Reset contexts as a context reset does; a context's sync values fall once its work has ended (R187, R343). -/
def State.endContexts (s : State) (xs : List Nat) : State :=
  let s := xs.foldl (fun s x => s.endContext x) s
  ({ s with rst := { s.rst with ctxEnding := (s.rst.ctxEnding ++ xs).dedup } }).settleContexts

/-- PCIE_DL_DOWN: every function is reset, and every context with it (R187). -/
def execPcieDlDown (s : State) : Res :=
  .next <|
    if !s.host.up then s
    else
      let s := s.endContexts s.everyContext
      { s with host := { s.host with up := false, d3 := false, vfEnabled := false }, boot := { s.boot with hostDark := true } }.setPortState 64 2

/-- FUNCTION_LEVEL_RESET: of a VF, its contexts; of the PF, every context, and VF Enable is cleared (R187). -/
def execFunctionLevelReset (fn : Fin 16) (s : State) : Res :=
  .next <|
    if !s.host.up || !s.hubUp || !s.functionOn fn then s
    else if fn.val = 0 then
      let s := s.endContexts s.everyContext
      { s with host := { s.host with d3 := false, vfEnabled := false } }
    else s.endContexts (s.indicesWith F.CTX_function fn.val)

/-- D_STATE_CHANGE: D0 or D3hot; D3hot stops descriptor fetch (R185). -/
def execDStateChange (d3 : Bool) (s : State) : Res :=
  .next <| if s.host.up && s.hubUp then { s with host := { s.host with d3 := d3 } } else s

/-- VF_ENABLE: NumVFs and VF Enable; 0 disables the VFs (R185, R187). -/
def execVfEnable (n : Fin 16) (s : State) : Res :=
  .next <| if s.host.up && s.hubUp then { s with host := { s.host with numVfs := n.val, vfEnabled := decide (n.val ≠ 0) } } else s

/-! ## BAR4 (R190) -/

/-- Log a refused BAR4 access, at most once per 1 ms (R190). -/
def State.bar4Refused (s : State) (off addr dir : Nat) : State :=
  let quiet := match s.host.refusedLast with | some t => decide (s.time < t + 1000000) | none => false
  if quiet then { s with host := { s.host with refusedSuppressed := s.host.refusedSuppressed + 1 } }
  else
    let s := s.logEvent 0x0016 0 [off, addr, dir, s.host.refusedSuppressed]
    { s with host := { s.host with refusedLast := some s.time, refusedSuppressed := 0 } }

/-- BAR4_ACCESS: an access through the aperture onto local memory, outside contexts. What memory holds back waits: the command changes
nothing (R182, R190). -/
def execBar4Access (off : BitVec 48) (op : MemOp) (s : State) : Res :=
  .next <|
    let a := s.get F.HUB_BAR4_BASE_base 0 * 2 ^ 30 + off.toNat
    if !s.host.up || !s.hubUp then s
    else match op with
      | .read n =>
        if !s.mapped a n then (s.bar4Refused off.toNat a 0).emit .unsupportedRequest
        else if s.memHeld a n then s
        else
          let r := s.memRead a n
          s.emit (.readData 0 (if r.poisoned then 2 ^ (8 * n) - 1 else leNat r.bytes) r.poisoned)
      | .write bs =>
        if !s.mapped a bs.length then s.bar4Refused off.toNat a 1
        else if s.memHeld a bs.length then s
        else (s.memWrite a bs).1

/-! ## FAB_CFG.enable (R219) -/

/-- READY, owed since a chip reset, on every up port (R350). -/
def State.sendReady (s : State) : State :=
  if s.rst.readyOwed then
    ({ s with rst := { s.rst with readyOwed := false } }).sendNotice (s.endNotice .ready s.epoch s.rst.prevEpoch 0 0)
  else s

/-- FABRIC_ENABLE: a write of FAB_CFG that sets enable; refused without a node ID or where the 64 MiB at flow_base are not mapped
whole; a write of 0 is ignored (R219, R350). -/
def execFabricEnable (w : BarAcc) (s : State) : Res :=
  .next <| s.onWrite .FAB_CFG 0 w fun _ =>
    let s := s.writeReg .FAB_CFG 0 w
    let f := F.FAB_CFG_enable
    if !w.touches f || w.bits f != 1 || s.isSet f 0 then s
    else
      let s := (s.put F.FAB_CFG_bad_base 0 0).put F.FAB_CFG_unassigned 0 0
      let named := s.isSet F.FAB_NODE_ID_assigned 0
      let base := s.areaMapped (s.get F.FAB_CFG_flow_base 0 * 2 ^ 26, 32)
      if !named || !base then (s.putB F.FAB_CFG_unassigned (!named) 0).putB F.FAB_CFG_bad_base (!base) 0
      else
        let s := (s.put f 1 0).sendReady
        if s.refl.owe then s.sendRresume else s

end Sys2Proof.Machine
end

