-- ==== Sys2Proof/Machine/Power.lean ====
section
/-! DEFINITION. Power: feeds, hold-up, activity and its slope, lamplight duty, announced work, estimate, measurement and cap (R305-R321).
Stops stand in Stops.lean. -/

namespace Sys2Proof.Machine

def State.setPwr (s : State) (p : Pwr) : State := { s with pwr := p }

/-! ## Feeds (R305, R306) -/

/-- A feed's voltage in 10 mV, as last seen. -/
def State.volts (s : State) (f : Feed) : Nat :=
  match f with
  | .A => s.get F.PWR_FEED_STAT_feed_a 0
  | .B => s.get F.PWR_FEED_STAT_feed_b 0

/-- The voltage a feed counts as: one above 60 V counts as none until it has been at or below 60 V for 100 ms (R305). -/
def State.feedAs (s : State) (f : Feed) : Nat := if s.pwr.overs.any fun o => o.1 == f then 0 else s.volts f

/-- The other feed. -/
def Feed.other : Feed → Feed
  | .A => .B
  | .B => .A

/-- PWR_STAT.feed's code of a feed (Table 11.10). -/
def Feed.code : Feed → Nat
  | .A => 0
  | .B => 1

/-- The voltages are read, and overvoltage judged (R305). -/
def State.seeFeeds (s : State) (va vb : Nat) : State :=
  let s := (s.put F.PWR_FEED_STAT_feed_a va 0).put F.PWR_FEED_STAT_feed_b vb 0
  let overs := (s.pwr.overs.map fun o => (o.1, if 6000 < s.volts o.1 then none else some (o.2.getD s.time))).filter fun o =>
    match o.2 with
    | none => true
    | some t => decide (s.time < t + 100000000)
  s.setPwr { s.pwr with overs := overs }

/-- Whether a qualified feed powers the module (R305). -/
def State.powered (s : State) : Bool :=
  s.boot.phase != .off && s.boot.phase != .offLatched && s.pwr.inUse.isSome && s.get F.PWR_STAT_feed 0 != 2

/-- Switch to the other feed, counted and logged with the feed left, the feed taken and both voltages (R305). -/
def State.switchFeed (s : State) (f : Feed) : State :=
  let s := s.setPwr { s.pwr with inUse := some f.other }
  let s := (s.put F.PWR_STAT_feed f.other.code 0).logEvent 0x0002 0 [f.code, f.other.code, s.volts .A, s.volts .B]
  (s.bump F.PWR_FEED_STAT_switches 1 0).put F.PWR_FEED_STAT_switch_evt 1 0

/-- FEED_SWITCH: the feed in use below 44 V, the other at or above it (R305; in bring-up R40). -/
def execFeedSwitch (va vb : Fin 8192) (s : State) : Res :=
  .next <|
    if !s.powered then s
    else
      let s := s.seeFeeds va vb
      match s.pwr.inUse with
      | none => s
      | some f => if s.feedAs f < 4400 ∧ 4400 ≤ s.feedAs f.other then s.switchFeed f else s

/-- FEED_SWITCH_BACK: on B, with A at or above 48 V for 100 ms (R305). -/
def execFeedSwitchBack (va vb : Fin 8192) (s : State) : Res :=
  .next <|
    if !s.powered then s
    else
      let s := s.seeFeeds va vb
      if s.pwr.inUse = some .B ∧ 4800 ≤ s.feedAs .A then s.switchFeed .B else s

/-- FEED_OVERVOLTAGE: a feed above 60 V for 10 µs (R305). -/
def execFeedOvervoltage (f : Feed) (va vb : Fin 8192) (s : State) : Res :=
  .next <|
    if !s.powered then s
    else
      let s := s.seeFeeds va vb
      if 6000 < s.volts f ∧ !s.pwr.overs.any (fun o => o.1 == f) then s.setPwr { s.pwr with overs := s.pwr.overs ++ [(f, none)] } else s

/-! ## Hold-up (R307, R308) -/

/-- What hold-up does at once: array clocks stop, the log and POWER_LOSS reach the flash, work in flight ends with no outcome (R307). -/
def State.flushAndStop (s : State) : State :=
  let s := (s.cutDump .eAborted).clocksOff
  let s := (s.logEvent 0x0003 0 []).logToFlash
  { s.clearWork with rst := { s.rst with run := none, queue := [], absorbed := [], chain := [] } }

/-- HOLD_UP: neither feed at or above 40 V for 2 µs; a feed that returns does not reverse it. In bring-up R40 applies instead. -/
def execHoldUp (va vb : Fin 8192) (s : State) : Res :=
  .next <|
    if !s.powered || s.boot.phase == .bringup then s
    else
      let s := s.seeFeeds va vb
      if s.feedAs .A < 4000 ∧ s.feedAs .B < 4000 then (s.flushAndStop).put F.PWR_STAT_feed 2 0 else s

/-- HOLD_UP_RAILS_OFF: 1 ms after hold-up began every rail is off (R307, R427). -/
def execHoldUpRailsOff (s : State) : Res :=
  .next <| if s.get F.PWR_STAT_feed 0 = 2 ∧ s.boot.phase ≠ .off ∧ s.boot.phase ≠ .offLatched then s.powerOff false else s

/-- HUB_RAIL_FAULT: VCORE_HUB outside its band for 10 µs: the log is written as in hold-up and the module is off, latched (R308). -/
def execHubRailFault (s : State) : Res :=
  .next <| if s.powered && s.boot.rails.contains 0 then s.flushAndStop.powerOff true else s

/-! ## Lamplight duty (R313-R315) -/

/-- An array's duty after one more microsecond. Outside gaps nothing moves. -/
def Arr.nextDuty (gapUs : Nat) (lamp emergency : Bool) (a : Arr) : Arr :=
  let a := { a with pre := match a.pre with
                           | some p => if p.phase = .past ∧ p.met then none else some p
                           | none => none }
  if !a.warm || a.gap == 0 then a
  else
    let g := a.gapUs + 1
    let hint : Option Nat := match a.gapHint with
      | some (v, true) => if gapUs * 1000 < v then some v else none
      | _ => none
    let phase := a.pre.map fun p => p.phase
    let rise : Bool := match hint with
      | some v => decide (g * 1000 < v) && (a.gapUp || (a.duty == 0 && decide (v ≤ g * 1000 + 32000)))
      | none => false
    let up := min 64 (a.duty + 2)
    let duty :=
      if !lamp || a.longNow then 0
      else if emergency then a.duty - 8
      else if phase = some .ramped then up
      else if phase = some .past then a.duty - 2
      else if hint.isSome then (if rise then up else a.duty - 2)
      else if g < gapUs then 64 else a.duty - 2
    { a with gapUs := g, gapUp := rise, duty := duty }

/-- Every array's duty after one more microsecond (R313). -/
def State.dutyTick (s : State) : State :=
  let gap := s.get F.PWR_LAMP_CFG_gap_us 0
  let lamp := s.isSet F.PWR_LAMP_CFG_lamp_en 0
  let emergency := s.get F.THM_STOP_STAT_state 0 == 2
  (s.arrays.map fun e => e.1).foldl (fun s i => s.setArr i ((s.arr i).nextDuty gap lamp emergency)) s

/-! ## The slope (R309, R310, R319) -/

/-- Beats of a microsecond at full activity (R309), and of 1/32 of it. -/
def fullBeats : Nat := 2048000
def stepBeats : Nat := 64000

/-- One more for each of the first r that asked for anything. -/
def giveRest : Nat → List (Nat × Nat) → List Nat
  | _, [] => []
  | r, (d, n) :: l => if 0 < r ∧ 0 < d then (n + 1) :: giveRest (r - 1) l else n :: giveRest r l

/-- The allowance divided in proportion to demand; none where demand fits it (R310). -/
def sharesOf (budget : Nat) (demand : List Nat) : List Nat :=
  let total := demand.sum
  if total ≤ budget then []
  else
    let parts := demand.map fun d => (d, d * budget / total)
    giveRest (budget - (parts.map fun p => p.2).sum) parts

/-- A number of beats in 1/255 of full activity. -/
def in255 (beats : Nat) : Nat := min 255 (beats * 255 / fullBeats)

/-- The allowance after one more microsecond: falling in a stop, otherwise as the power limit asks (R319, R329, R330). -/
def State.nextAllow (s : State) : Nat :=
  let a := s.pwr.allow
  let st := s.get F.THM_STOP_STAT_state 0
  let slowest := (List.range 4).all fun c => decide (s.get F.HUB_ARRAY_CLK_current_mhz c ≤ 600)
  if st = 1 then a - 1
  else if st = 2 then a - 4
  else if st ≠ 0 then a
  else if s.pwr.limit < s.pwr.used then (if slowest ∧ 1 < a then a - 1 else a)
  else if s.pwr.used * 100 ≤ s.pwr.limit * 98 then min 32 (a + 1)
  else a

/-- POWER_CONTROL_TICK: once a microsecond the activity is taken, the allowance and the duties set (R309, R310, R313, R319). -/
def execPowerControlTick (s : State) : Res :=
  .next <|
    if !s.boot.island then s
    else
      let s := s.due (s.pwr.tickAt + 1000)
      let allow := s.nextAllow
      let budget := min (s.pwr.beats + stepBeats) (allow * stepBeats)
      let demand := (List.range 16).map fun q => SMap.get 0 s.pwr.demand q
      let s := (s.put F.PWR_STAT_activity (in255 s.pwr.beats) 0).put F.PWR_STAT_allowance (in255 budget) 0
      (s.setPwr { s.pwr with tickAt := s.time, allow := allow, budget := budget, beats := 0, demand := [], taken := []
                             shares := sharesOf budget demand }).dutyTick

/-! ## Array clocks (R46, R311, R319, R325) -/

/-- Sensors whose throttle lowers the clock of compute die c: its own, the hub's and window dies', its stacks' (R324). -/
def throttleSensors (c : Nat) : List Nat := [c, 4, 5, 6, 7, 8, 9 + 4 * c, 10 + 4 * c, 11 + 4 * c, 12 + 4 * c]

def State.sensor (s : State) (i : Nat) : Sensor := SMap.get {} s.thm.sensors i

/-- Whether a throttle condition holds on compute die c. -/
def State.throttled (s : State) (c : Nat) : Bool := (throttleSensors c).any fun i => (s.sensor i).hot || (s.sensor i).steep

/-- The highest clock a die may have (R46, R319). -/
def State.topClock (s : State) (c : Nat) : Nat := min 2000 (s.get F.HUB_ARRAY_CLK_ceiling_mhz c)

/-- Whether the clock of die c is to fall by a step. -/
def State.clockFalls (s : State) (c : Nat) : Bool :=
  let f := s.get F.HUB_ARRAY_CLK_current_mhz c
  decide (600 < f) && (decide (s.topClock c < f) || s.throttled c || decide (s.pwr.limit < s.pwr.used))

/-- Change the clock of die c to f. -/
def State.setClock (s : State) (c f : Nat) : State :=
  (s.setPwr { s.pwr with stepAt := SMap.set 0 s.pwr.stepAt c s.time }).put F.HUB_ARRAY_CLK_current_mhz f c

/-- ARRAY_CLOCK_STEP: one step of 50 MHz. Down a microsecond after the last; up 10 µs after it, after a throttle once it has been clear for
1 ms and 100 µs after the last (R46, R311, R319, R325). -/
def execArrayClockStep (c : Fin 4) (up : Bool) (s : State) : Res :=
  .next <|
    let f := s.get F.HUB_ARRAY_CLK_current_mhz c
    let last := SMap.get 0 s.pwr.stepAt c
    if f = 0 then s
    else if !up then (if s.clockFalls c then (s.due (last + 1000)).setClock c (f - 50) else s)
    else if s.throttled c ∨ s.topClock c < f + 50 ∨ s.pwr.limit * 98 < s.pwr.used * 100 ∨ s.pwr.allow ≠ 32 then s
    else match SMap.get (some 0) s.pwr.slow c with
      | none => s
      | some t =>
        let s := if t = 0 then s.due (last + 10000) else s.due (max (t + 1000000) (last + 100000))
        let s := s.setClock c (f + 50)
        if s.topClock c < f + 100 then s.setPwr { s.pwr with slow := SMap.set (some 0) s.pwr.slow c (some 0) } else s

/-! ## Announced work (R315, R316) -/

/-- A die's arrays. -/
def dieArrays (c : Nat) : List Nat := (List.range 256).map fun k => 256 * c + k

/-- A hint is withdrawn from an array: its gap counts as past its threshold (R316). -/
def Arr.unhint (a : Arr) : Arr :=
  { a with pre := a.pre.bind fun p => if p.phase = .waiting ∨ a.stream.isSome then none else some { p with phase := .past, met := false } }

/-- Withdraw the hint of a die. -/
def State.unhintDie (s : State) (c : Nat) : State :=
  (dieArrays c).foldl (fun s i => if (s.arr i).pre.isSome then s.setArr i (s.arr i).unhint else s) s

/-- A hint for a die: it replaces an earlier one; its arrays are those with a valid buffer, ascending (R315). -/
def State.hintDie (s : State) (c target since lead hold : Nat) : State :=
  let s := s.unhintDie c
  let n := ceilDiv (256 * target) 255
  let chosen := ((dieArrays c).filter fun i => let a := s.arr i; a.valid a.bufA || a.valid a.bufB).take n
  let t := since + lead * 1000
  chosen.foldl (fun s i => s.setArr i { s.arr i with pre := some { start := t, stop := t + hold * 1000, since := since } }) s

/-- POWER_HINT (R315, R316, Table 11.2). -/
def execPowerHint (work : Work) (s : State) : Res :=
  .next <|
    match s.fresh work 0x09 with
    | none => s
    | some it =>
      let b := it.payload
      let lead := fieldAt b 0 4
      let hold := fieldAt b 4 4
      let dies := fieldAt b 9 1
      if 1000000 < lead then s.finish work .eFormat 32
      else if 1000 < hold then s.finish work .eFormat 36
      else if dies = 0 ∨ 16 ≤ dies then s.finish work .eFormat 41
      else
        let s := ((List.range 4).filter fun c => bitAt dies c).foldl (fun s c =>
          if fieldAt b 8 1 = 0 then s.unhintDie c else s.hintDie c (fieldAt b 8 1) it.since lead hold) s
        s.finish work .ok 0

/-- The moment an announced array's duty begins to rise: 32 µs before its start, or at once (R315). -/
def PreRamp.begins (p : PreRamp) : Nat := max p.since (p.start - 32000)

/-- The earliest of a list of moments. -/
def earliest : List Nat → Option Nat
  | [] => none
  | a :: as => match earliest as with
    | none => some a
    | some b => some (min a b)

/-- Announced arrays of a die in a phase, with the moment each is due. -/
def State.preDue (s : State) (c : Nat) (ph : RampPhase) (at_ : PreRamp → Nat) : List (Nat × Nat) :=
  (dieArrays c).filterMap fun i => match (s.arr i).pre with
    | some p => if p.phase = ph then some (i, at_ p) else none
    | none => none

/-- PRE_RAMP_START: the arrays of the die whose duty rises next (R315, R317). -/
def execPreRampStart (die : Fin 4) (s : State) : Res :=
  .next <|
    let l := s.preDue die .waiting PreRamp.begins
    match earliest (l.map fun e => e.2) with
    | none => s
    | some t =>
      let s := s.due t
      (l.filter fun e => decide (e.2 ≤ s.time)).foldl (fun s e =>
        s.setArr e.1 { s.arr e.1 with pre := (s.arr e.1).pre.map fun p => { p with phase := .ramped } }) s

/-- PRE_RAMP_HOLD_END: T + hold_us has come: an array without a real beat since is in a gap past its threshold (R315). -/
def execPreRampHoldEnd (die : Fin 4) (s : State) : Res :=
  .next <|
    let l := s.preDue die .ramped PreRamp.stop
    match earliest (l.map fun e => e.2) with
    | none => s
    | some t =>
      let s := s.due t
      (l.filter fun e => decide (e.2 ≤ s.time)).foldl (fun s e =>
        s.setArr e.1 { s.arr e.1 with pre := (s.arr e.1).pre.bind fun p => if p.met then none else some { p with phase := .past } }) s

/-! ## Estimate, measurement and cap (R306, R318-R321) -/

/-- The limit on input power in 10 mW: the cap, 1,200 W until ready, and 88 A at the voltage of the feed in use (R33, R306, R320). -/
def State.powerLimit (s : State) : Nat :=
  let cap := if s.isSet F.HUB_BOOT_STATUS_ready 0 then s.get F.PWR_CAP_cap_w 0 else 1200
  match s.pwr.inUse with
  | none => 120000
  | some f => min (cap * 100) (88 * s.volts f)

/-- Whether estimate and measurement, in W, disagree (R321). -/
def disagree (est meas : Nat) : Bool :=
  let d := if est ≤ meas then meas - est else est - meas
  decide (150 < d) || decide (15 * meas < 100 * d)

/-- The first moment of a condition that still holds. -/
def since (holds : Bool) (was : Option Nat) (now : Nat) : Option Nat := if holds then some (was.getD now) else none

/-- POWER_EVALUATION: every 10 µs, the estimate and, where one has arrived, the measurement, in W (R318, R319, R321). -/
def execPowerEvaluation (measured : Option Nat) (estimated : Nat) (va vb : Fin 8192) (s : State) : Res :=
  .next <|
    if !s.powered then s
    else
      let s := (s.due (s.pwr.evalAt + 10000)).seeFeeds va vb
      let p := s.pwr
      let meas := measured.getD p.lastMeas
      let lost := p.lost && measured.isNone
      let used := if lost then 115 * estimated + 15000 else 100 * max estimated meas
      let limit := s.powerLimit
      let floor := (List.range 4).all (fun c => decide (s.get F.HUB_ARRAY_CLK_current_mhz c ≤ 600)) && decide (p.allow ≤ 1)
      let cap := since (decide (limit < used) && floor) p.capSince s.time
      let s := (s.put F.PWR_STAT_estimate_w (min 0x3FFF estimated) 0).put F.PWR_STAT_measured_w (min 0x3FFF meas) 0
      s.setPwr { p with evalAt := s.time, used := used, limit := limit, lastMeas := meas, lost := lost
                        measAt := if measured.isSome then s.time else p.measAt
                        capSince := cap, capRaised := p.capRaised && cap.isSome
                        misSince := since (!lost && disagree estimated meas) p.misSince s.time
                        misNext := if !lost && disagree estimated meas then p.misNext else 0
                        excSince := since (!lost && decide (14 * estimated < 10 * meas)) p.excSince s.time }

/-- MEASUREMENT_LOST: no measurement for 100 µs (R318). -/
def execMeasurementLost (s : State) : Res :=
  .next <|
    if !s.powered ∨ s.pwr.lost then s
    else
      let s := s.due (s.pwr.measAt + 100000)
      (s.setPwr { s.pwr with lost := true, used := 115 * s.get F.PWR_STAT_estimate_w 0 + 15000, misSince := none, misNext := 0, excSince := none }).put
        F.PWR_FEED_STAT_meas_lost_evt 1 0

/-- CAP_UNREACHABLE: above the limit for 10 ms with every clock and the allowance at their floors (R319). -/
def execCapUnreachable (s : State) : Res :=
  .next <|
    match s.pwr.capSince with
    | none => s
    | some t =>
      if s.pwr.capRaised then s
      else
        let s := (s.due (t + 10000000)).logEvent 0x0004 0 []
        s.setPwr { s.pwr with capRaised := true }

/-- ESTIMATE_MISMATCH: after 5 ms of disagreement, and again after each further 1 s (R321). -/
def execEstimateMismatch (s : State) : Res :=
  .next <|
    match s.pwr.misSince with
    | none => s
    | some t =>
      let s := (s.due (if s.pwr.misNext = 0 then t + 5000000 else s.pwr.misNext)).logEvent 0x0005 0 []
      (s.setPwr { s.pwr with misNext := s.time + 1000000000 }).put F.PWR_FEED_STAT_mismatch_evt 1 0

end Sys2Proof.Machine
end

