-- ==== Sys2Proof/Machine/Stops.lean ====
section
/-! DEFINITION. Stops: how one begins, converts, runs its steps and ends; hard trips; the coolant fault (R308, R321, R327-R334). -/

namespace Sys2Proof.Machine

def State.setThm (s : State) (t : Therm) : State := { s with thm := t }
def State.stopState (s : State) : Nat := s.get F.THM_STOP_STAT_state 0
def State.putStop (s : State) (v : Nat) : State := s.put F.THM_STOP_STAT_state v 0

/-- The status of a stop cause (Table 11.4). -/
def stopStatusOf (cause : Nat) : Status :=
  if cause = 5 ∨ cause = 6 then .ePowerStop else if cause = 7 then .eCoolantStop else .eThermalStop

/-- The status of the stop: that of the cause that began it (R327). -/
def State.stopStatus (s : State) : Status := stopStatusOf (s.get F.THM_STOP_STAT_cause 0)

/-- No unit: THM_STOP_STAT.unit of a cause without one. -/
def noUnit : Nat := 0x1F

/-- A stop or hard trip ends the resets it finds: it absorbs the smaller ones; what result a chip reset or power cycle that it ends
shows is not stated, a free value (R341). -/
def State.absorbResets (s : State) : State :=
  let s : State := match s.rst.run with
    | none => s
    | some r =>
      if r.req.kind = .chip ∨ r.req.kind = .powerCycle then s.draw.2.resetEnds r.req (s.draw.1 % 4) else s.resetEnds r.req 3
  let s := (s.rst.absorbed ++ s.rst.queue).foldl (fun s r => s.resetEnds r 3) s
  { s with rst := { s.rst with run := none, absorbed := [], queue := [], chain := [] } }.resetState 0

/-- Whether the reset in progress is one that a stop leaves waiting for its end (R331, R364). -/
def State.chipWaits (s : State) : Bool :=
  match s.rst.run with
  | some r => (r.req.kind == .chip || r.req.kind == .powerCycle) && r.stage == 0
  | none => false

/-- Record what began a stop and announce it (R327, Table 11.13). -/
def State.noteStop (s : State) (cause unit : Nat) : State :=
  let s := ((s.put F.THM_STOP_STAT_cause cause 0).put F.THM_STOP_STAT_second_cause 0 0).put F.THM_STOP_STAT_unit unit 0
  let s := ((s.put F.THM_STOP_STAT_anomaly 0 0).put F.THM_STOP_STAT_uncorroborated 0 0).put F.THM_STOP_STAT_saved 0 0
  s.put F.THM_STOP_STAT_start (s.time / 1024) 0

/-- The event, the log record, the PLDM event and vector 0 of a stop or hard trip. -/
def State.tellStop (s : State) (cause unit : Nat) : State :=
  (((s.put F.THM_STOP_STAT_stop_evt 1 0).logEvent 0x0008 unit [cause]).pldm .stop).vec0

/-- Begin a stop (R327-R330). -/
def State.startStop (s : State) (cause unit : Nat) (emergency : Bool) : State :=
  let s := if s.chipWaits then s else s.absorbResets
  let s := ((s.noteStop cause unit).putStop (if emergency then 2 else 1)).tellStop cause unit
  let s := s.setThm { s.thm with step := 1, since := s.time, checked := [] }
  if emergency then (s.cutDump (stopStatusOf cause)).tryChip else s

/-- The step of an emergency stop that an orderly stop at a step goes on from (R327). -/
def convertStep (n : Nat) : Nat := if n ≤ 2 then n else min 6 (n + 1)

/-- An orderly stop becomes an emergency stop (R327). -/
def State.convertStop (s : State) (cause : Nat) : State :=
  let s := (s.put F.THM_STOP_STAT_second_cause cause 0).putStop 2
  (s.setThm { s.thm with step := convertStep s.thm.step }).cutDump s.stopStatus

/-- A stop cause acts: from ready onward; during a chip reset it holds that reset at its self-refresh exit, but an emergency stop ends a
quiesce (R327, R331, R341). -/
def State.stopCause (s : State) (cause unit : Nat) (emergency : Bool) : State :=
  if s.boot.phase ≠ .ready ∨ s.get F.PWR_STAT_feed 0 = 2 then s
  else if s.rst.keepers then { s with rst := { s.rst with causeHeld := true } }
  else if s.stopState = 1 then (if emergency then s.convertStop cause else s)
  else if s.stopState ≠ 0 then s
  else if s.quiescing ∧ !emergency then { s with rst := { s.rst with causeHeld := true } }
  else s.startStop cause unit emergency

/-! ## Steps (Tables 11.5, 11.6) -/

/-- The descriptor of queue n to be dispatched next. -/
def State.nextIx (s : State) (n : Nat) : Nat :=
  match (s.queue n).ents.find? fun e => e.phase == .fetched with
  | some e => e.idx
  | none =>
    let size := s.ringSize n
    (List.range size).foldl (fun h _ =>
      if (s.queue n).skip.contains h && h != s.get F.HUB_Q_STAT_tail n then (h + 1) % size else h) (s.get F.HUB_Q_STAT_head n)

/-- Every running queue halts with the stop status (R202, R329). -/
def State.haltQueues (s : State) (st : Status) : State :=
  (s.indicesWith F.HUB_Q_STAT_state 1).foldl (fun s n =>
    let next := s.nextIx n
    let s := ((s.put F.HUB_Q_STAT_state 2 n).put F.HUB_Q_STAT_halt_status st.code n).put F.HUB_Q_STAT_halt_index next n
    s.setQueue n { s.queue n with stopHalt := some next }) s

/-- Work of the quadrants and the copy engines. -/
def Item.onUnits (it : Item) : Bool := it.opcode == 1 || it.opcode == 3 || it.opcode == 4

/-- Step 1 of both forms: queues halt, waits end, and quadrants and copy engines are told to stop (R329, R330). -/
def State.stopWaits (s : State) : State :=
  let st := s.stopStatus
  let s := (s.haltQueues st).endAll st true fun it => it.phase == .waiting || it.opcode == 8
  s.endAll st true Item.onUnits

/-- Whether nothing runs on the quadrants and copy engines. -/
def State.unitsIdle (s : State) : Bool :=
  (List.range 16).all (fun q => (s.seq q).launch.isNone) &&
  !(s.openWorks.any fun w => match s.item w with | some it => it.onUnits | none => false)

/-- Instructions and copies still running are discarded (R84, R329). -/
def State.discardUnits (s : State) : State :=
  let st := s.stopStatus
  let s := s.quadsReset st
  let s := s.openWorks.foldl (fun s w => match s.item w with
    | some it => if it.onUnits then s.finish w st 0 else s
    | none => s) s
  { s with launches := [] }

/-- What the limit of the fabric step leaves open is cut. -/
def State.cutOpen (s : State) : State :=
  let s := s.cutAll s.stopStatus
  s.setFab { s.fab with ops := [], reqs := [] }

/-- STOPPING goes out on every up port, and the shutter closes (R329, R350). -/
def State.shutStop (s : State) : State :=
  let s := ({ s with rst := { s.rst with prevEpoch := s.epoch } }).reflInterrupt
  let s := s.sendNotice (s.endNotice .stopping s.rst.prevEpoch 0 (s.get F.THM_STOP_STAT_cause 0) 0)
  { s with rst := { s.rst with shut := true } }

/-! ## The stop save area (R332, Table 11.7) -/

/-- Bytes of the area that are written. -/
def saveBytes : Nat := 0x30601000

/-- The FP32 byte of a word store. -/
def wordByte (m : SMap Nat) (k o : Nat) : Byte := BitVec.ofNat 8 (SMap.get 0 m k / 256 ^ (o % 4))

/-- Byte o of the save area. What follows the vector registers, and the stop record, stand in a layout that the manual does not give:
free values (log entry 1). -/
def State.saveByte (s : State) (o : Nat) : Byte :=
  if o < 0x20000000 then s.spad.byte o
  else if o < 0x28000000 then
    let x := o - 0x20000000
    let w := x % 0x20000 / 4
    wordByte s.acc ((x / 0x20000 * 32 + w % 32) * 1024 + w / 32) x
  else if o < 0x28400000 then
    let x := o - 0x28000000
    BitVec.ofNat 8 (((List.range 8).map fun k =>
      let n := x % 4096 * 8 + k
      b2n (SMap.get false s.accBad ((x / 4096 * 32 + n % 32) * 1024 + n / 32)) * 2 ^ k).sum)
  else if o < 0x30400000 then s.hubsp.byte (o - 0x28400000)
  else if o < 0x30600000 ∧ (o - 0x30400000) % 0x20000 < 0x10000 then
    let x := o - 0x30400000
    wordByte s.vreg (x / 0x20000 * 16384 + x % 0x20000 / 4) x
  else BitVec.ofNat 8 (Config.freeValue (s.freeCtr + o)).toNat

/-- Whether sector k of the save area is saved poisoned: that of a scratchpad sector. -/
def State.saveBad (s : State) (k : Nat) : Bool :=
  if k < 0x20000000 / 64 then s.spad.bad k
  else if 0x28400000 / 64 ≤ k ∧ k < 0x30400000 / 64 then s.hubsp.bad (k - 0x28400000 / 64)
  else false

/-- Write the save area, where it is enabled and mapped whole (R332). -/
def State.saveArea (s : State) : State :=
  let base := s.get F.THM_STOP_SAVE_base 0 * 2 ^ 30
  if !s.isSet F.THM_STOP_SAVE_en 0 || !s.areaMapped (base, 512) then s
  else
    let w := s.memWriteBad base ⟨(List.range saveBytes).map s.saveByte, (List.range (saveBytes / 64)).map s.saveBad⟩
    ({ w.1 with freeCtr := w.1.freeCtr + saveBytes }).put F.THM_STOP_STAT_saved 1 0

/-- Step 6: stacks in self-refresh, clocks stopped, stopped; a rail fault ends in boot hold (R308, R329, R330). -/
def State.stopped (s : State) : State :=
  let s := ({ s with mem := { s.mem with refresh := [0, 1, 2, 3] } }.clocksOff).putStop (if s.chipWaits then 5 else 3)
  let s := s.setThm { s.thm with step := 0 }
  match s.thm.rail with
  | some r => s.hold 0x02 r [] (r != 5 && r != 6)
  | none => s

/-- Go on to step n. -/
def State.stopStep (s : State) (n : Nat) : State := s.setThm { s.thm with step := n }

/-- The end of a step of an orderly stop, in time or at its limit (Table 11.5). -/
def State.orderlyStep (s : State) (done : Bool) : State :=
  match s.thm.step with
  | 1 => s.stopWaits.stopStep 2
  | 2 => ((if done then s else s.discardUnits).endAll s.stopStatus true fun _ => true).stopStep 3
  | 3 => (if done then s else s.cutOpen).stopStep 4
  | 4 => s.shutStop.stopStep 5
  | 5 => (if done then s.saveArea else s).stopStep 6
  | 6 => s.stopped
  | _ => s

/-- The end of a step of an emergency stop (Table 11.6). -/
def State.emergencyStep (s : State) (done : Bool) : State :=
  match s.thm.step with
  | 1 => s.stopWaits.stopStep 2
  | 2 => ({ s.discardUnits with spad := {} }.clocksOff).stopStep 3
  | 3 => (s.endAll s.stopStatus true fun _ => true).stopStep 4
  | 4 => (if done then s else s.cutOpen).stopStep 5
  | 5 => s.shutStop.stopStep 6
  | 6 => s.stopped
  | _ => s

/-- Whether the present step's work is done: nothing on the units, nothing open. -/
def State.stepReady (s : State) : Bool :=
  if s.stopState = 1 then (if s.thm.step = 2 then s.unitsIdle else if s.thm.step = 3 then s.quiet else true)
  else if s.thm.step = 4 then s.quiet else true

/-- The limit of a step in µs from the stop's start (Tables 11.5, 11.6). -/
def stopLimit (st step : Nat) : Nat := (if st = 1 then [1, 40, 110, 120, 340, 400] else [1, 10, 40, 110, 120, 130]).getD (step - 1) 0

/-- A step of the stop in progress ends. -/
def State.endStep (s : State) (done : Bool) : State :=
  if s.stopState = 1 then s.orderlyStep done else if s.stopState = 2 then s.emergencyStep done else s

/-- STOP_STEP_DONE: the present step is complete and the next starts (R329, R330). -/
def execStopStepDone (s : State) : Res :=
  .next <| if s.stepReady then s.endStep true else s

/-- STOP_STEP_LIMIT: the present step has reached its limit (R329, R330). -/
def execStopStepLimit (s : State) : Res :=
  .next <|
    if s.stopState ≠ 1 ∧ s.stopState ≠ 2 then s
    else (s.due (s.thm.since + stopLimit s.stopState s.thm.step * 1000)).endStep s.stepReady

/-- STOP_RESET_RELEASE: the conditions of R331 hold: the chip reset that waits for the stop's end begins, and one that a stop cause holds
goes on. -/
def execStopResetRelease (s : State) : Res :=
  .next <|
    if !s.coolEnough then s
    else if s.rst.causeHeld then
      let s : State := { s with rst := { s.rst with causeHeld := false } }
      if s.get F.HUB_RESET_STAT_state 0 = 7 ∧ s.rst.keepers then s.resetState 5 else s
    else if s.stopState = 5 ∧ !s.dump.running then
      match s.rst.run with
      | some r => if r.stage = 0 ∧ r.req.kind = .chip then s.quiesce { r.req with cause := 5 } else s
      | none => s
    else s

/-! ## Hard trips (R333) -/

/-- The position strap code of a sensor's die: a stack's is that of the compute die beneath it. -/
def sensorStrap (i : Nat) : Nat := if i < 5 then i else if i < 9 then i + 3 else (i - 9) / 4

/-- A hard trip: TRAY_THERM_TRIP_N, records with E_THERMAL_STOP, rails off, boot hold THERMAL (R333). -/
def State.hardTrip (s : State) (cause i : Nat) : State :=
  let s := if s.stopState = 0 then s.noteStop cause i else s.put F.THM_STOP_STAT_second_cause cause 0
  let s := (s.putStop 4).tellStop cause i
  let s := (s.setThm { s.thm with thermTrip := true, step := 0, rail := none }).cutDump .eThermalStop
  let s := ((s.endAll .eThermalStop true fun _ => true).quadsReset .eThermalStop).absorbResets
  s.hold 0x41 (sensorStrap i) [] (s.boot.done.contains 6)

/-- ANALOGUE_THERM_TRIP: the comparator of compute die c asserts TRAY_THERM_TRIP_N at 120 °C, whatever the logic does (R333, R419). -/
def execAnalogueThermTrip (_ : Fin 4) (s : State) : Res :=
  .next <| if s.boot.phase = .off ∨ s.boot.phase = .offLatched then s else s.setThm { s.thm with thermTrip := true }

/-! ## Rail faults, power excess, coolant -/

/-- RAIL_FAULT: a main rail outside its band for 10 µs after ready: an emergency stop that ends with the rails off; a stop that has ended
has nothing left to do but that (R308). -/
def execRailFault (rail : Fin 7) (s : State) : Res :=
  .next <|
    if rail.val = 0 ∨ s.boot.phase ≠ .ready ∨ !s.boot.rails.contains rail.val ∨ s.thm.rail.isSome then s
    else if s.rst.keepers then s.stopCause 6 rail true
    else
      let st := s.stopState
      let s := (s.setThm { s.thm with rail := some rail.val }).stopCause 6 rail true
      if st = 3 ∨ st = 5 then (s.put F.THM_STOP_STAT_second_cause 6 0).stopped else s

/-- POWER_EXCESS: P_meas above 1.4 P_est at every evaluation for more than 1 ms (R321). -/
def execPowerExcess (s : State) : Res :=
  .next <|
    match s.pwr.excSince with
    | none => s
    | some t => if s.boot.phase = .ready then (s.due (t + 1000000)).stopCause 5 noUnit false else s

/-- COOLANT_FAULT_ASSERT: held for 1 µs. In service an emergency stop at once; at or after step 5 of bring-up the rails go off and boot
hold follows; before it, step 4's end waits (R38, R334). -/
def execCoolantFaultAssert (s : State) : Res :=
  .next <|
    let s := s.setThm { s.thm with coolant := true }
    match s.boot.phase with
    | .ready => (s.pldm .coolant).stopCause 7 noUnit true
    | .bringup => if s.boot.done.contains 4 ∧ !s.boot.coolantWait then s.hold 0x40 0 [] (s.boot.done.contains 6) else s
    | _ => s

/-- COOLANT_FAULT_DEASSERT_HELD: deasserted for 1 s; bring-up that waited for it at the end of step 4 goes on (R38, R331). -/
def execCoolantFaultDeassertHeld (s : State) : Res :=
  .next <|
    let s := s.setThm { s.thm with coolant := false }
    if s.boot.phase = .bringup ∧ s.boot.coolantWait then { s with boot := { s.boot with coolantWait := false, shift := s.time } } else s

end Sys2Proof.Machine
end

