-- ==== Sys2Proof/Machine/Thermal.lean ====
section
/-! DEFINITION. Sensing and thresholds: diode and stack samples, throttling, projections, the cross-check of a slope, lost sensors (R39,
R178, R322-R328, R335, R336). Temperatures are in 0.1 °C. -/

namespace Sys2Proof.Machine

def State.setSensor (s : State) (i : Nat) (v : Sensor) : State :=
  s.setThm { s.thm with sensors := SMap.set {} s.thm.sensors i v }

/-- A reading between -20 and 150 °C (R322). -/
def validTemp (t : Int) : Bool := decide (-200 ≤ t) && decide (t ≤ 1500)

/-- Time between samples of sensor i in ns (R322). -/
def samplePeriod (i : Nat) : Nat := if i < 9 then 10000 else 100000

/-- The latest reading at least d ns old (R323). -/
def readAgo (h : List (Int × Nat)) (now d : Nat) : Option Int := (h.find? fun e => decide (e.2 + d ≤ now)).map fun e => e.1

/-- The rise of the newest reading over the one d ns before (R323). -/
def Sensor.rise (v : Sensor) (d : Nat) : Option Int :=
  match v.hist with
  | [] => none
  | e :: es => (readAgo es e.2 d).map fun t => e.1 - t

/-- An invalid sample is discarded (R322). -/
def State.badSample (s : State) (i : Nat) : State :=
  (s.setSensor i { s.sensor i with bad := (s.sensor i).bad + 1 }).put F.THM_TEMP_fault 1 i

/-- A rate as THM_TEMP shows it: the 200 µs rise in 0.1 °C is the rate in 0.5 °C/ms (Table 11.12). -/
def rateField (r : Int) : Int := max (-128) (min 127 r)

/-- Throttle, stop and hard-trip thresholds of sensor i (Table 11.3). -/
def throttleAt (i : Nat) : Int := if i < 9 then 950 else 850
def stopAt (i : Nat) : Int := if i < 9 then 1050 else 950
def tripAt (i : Nat) : Int := if i < 9 then 1150 else 1000

/-- A valid sample: the reading, its rate and the throttle conditions (R322-R325). -/
def State.goodSample (s : State) (i : Nat) (x : Int) : State :=
  let v := s.sensor i
  let s := match v.hist with | e :: _ => s.due (e.2 + samplePeriod i) | [] => s
  let two : Bool := match v.hist with | e :: _ => decide (throttleAt i ≤ e.1) && decide (throttleAt i ≤ x) | [] => false
  let hist := (x, s.time) :: v.hist.filter fun e => decide (s.time < e.2 + 700000)
  let v' : Sensor := { v with hist := hist, bad := 0, hot := if v.hot then decide (throttleAt i - 30 < x) else two }
  let r := (v'.rise 200000).getD 0
  let v' : Sensor := { v' with steep := decide (i < 9) && decide (10 ≤ r) }
  let began := (v'.hot && !v.hot) || (v'.steep && !v.steep)
  let s := ((s.setSensor i v').putI F.THM_TEMP_temp x i).put F.THM_TEMP_fault 0 i
  let s := if i < 9 then s.putI F.THM_TEMP_rate (rateField r) i else s
  let s := s.putB F.THM_TEMP_throttle (v'.hot || v'.steep) i
  if began then s.put F.THM_TEMP_throttle_evt 1 i else s

/-- Dies that a throttle holds, and since when the others are clear of it (R325). -/
def State.throttles (s : State) : State :=
  (List.range 4).foldl (fun s c =>
    let was := SMap.get (some 0) s.pwr.slow c
    let v := if s.throttled c then none else some (was.getD s.time)
    s.setPwr { s.pwr with slow := SMap.set (some 0) s.pwr.slow c v }) s

/-- Whether the last two valid readings are at or above a threshold (R324). -/
def Sensor.twice (v : Sensor) (th : Int) : Bool :=
  match v.hist with
  | a :: b :: _ => decide (th ≤ a.1) && decide (th ≤ b.1)
  | _ => false

/-- The projected time to hard trip in ns, as a fraction: over the 200 µs rate for a die, over the last two samples for a stack; none where
it is not positive (R328). -/
def Sensor.projection (v : Sensor) (i : Nat) : Option (Int × Int) :=
  match v.hist with
  | [] => none
  | a :: rest =>
    let step : Option (Int × Nat) :=
      if i < 9 then (v.rise 200000).map fun r => (r, 200000) else match rest with | b :: _ => some (a.1 - b.1, a.2 - b.2) | [] => none
    match step with
    | none => none
    | some (r, dt) => if 0 < r ∧ a.1 < tripAt i then some ((tripAt i - a.1) * (dt : Int), r) else none

/-- Whether a thermal cause calls for an emergency stop: its projection is at most 400 µs (R328). -/
def Sensor.fast (v : Sensor) (i : Nat) : Bool :=
  match v.projection i with
  | none => false
  | some (n, d) => decide (n ≤ 400000 * d)

/-- The cross-check of a step on compute die c: the rise its power predicts is a free value; a step it does not explain, and one that no
stack above shows, are reported (R335, log entry 1). -/
def State.crossCheck (s : State) (c : Nat) (rise : Int) : State :=
  let (v, s) := s.draw
  let s := s.setThm { s.thm with checked := s.thm.checked ++ [c] }
  let s := if rise ≤ 2 * signed 64 v then s
    else ((s.put F.THM_STOP_STAT_anomaly 1 0).logEvent 0x0006 c []).pldm .coolingAnomaly
  if (List.range 4).any fun k => match (s.sensor (9 + 4 * c + k)).rise 500000 with | some r => decide (20 ≤ r) | none => false then s
  else (s.put F.THM_STOP_STAT_uncorroborated 1 0).logEvent 0x0007 c []

/-- Whether a thermal cause on sensor i began the stop. -/
def State.stopFrom (s : State) (i : Nat) : Bool :=
  decide (1 ≤ s.get F.THM_STOP_STAT_cause 0) && decide (s.get F.THM_STOP_STAT_cause 0 ≤ 3) && s.get F.THM_STOP_STAT_unit 0 == i

/-- An orderly stop that a thermal cause began converts when the projection falls below the time it still needs (R328). -/
def State.reproject (s : State) (i : Nat) : State :=
  if s.stopState = 1 ∧ s.stopFrom i then
    match (s.sensor i).projection i with
    | none => s
    | some (n, d) =>
      if n < ((s.thm.since : Int) + 400000 - s.time) * d then s.convertStop (s.get F.THM_STOP_STAT_cause 0) else s
  else s

/-- The causes of a valid sample in service (R324, R327, R328, R335). -/
def State.judge (s : State) (i : Nat) : State :=
  let v := s.sensor i
  let slope := if i < 9 then (match v.rise 500000 with | some r => decide (60 ≤ r) | none => false) else false
  let fast := v.fast i
  let s := if v.twice (stopAt i) then s.stopCause (if i < 9 then 1 else 2) i fast else if slope then s.stopCause 3 i fast else s
  let s := if slope && decide (i < 4) && (s.stopState == 1 || s.stopState == 2) && !s.thm.checked.contains i then s.crossCheck i ((v.rise 500000).getD 0) else s
  s.reproject i

/-- What a valid sample does: a hard trip at all times; before ready, from step 6 on, a die at its throttle threshold is boot hold; after
ready the stop causes (R39, R324, R333). -/
def State.acton (s : State) (i : Nat) (x : Int) : State :=
  if s.boot.phase = .hold then s
  else if (s.sensor i).twice (tripAt i) then s.hardTrip (if i < 9 then 8 else 9) i
  else if s.boot.phase = .bringup then
    (if i < 9 ∧ s.boot.done.contains 5 ∧ throttleAt i ≤ x then s.hold 0x41 (sensorStrap i) [] (s.boot.done.contains 6) else s)
  else s.judge i

/-- A sample of sensor i; none failed its transfer check (R322). -/
def State.sample (s : State) (i : Nat) (t : Option Int) : State :=
  match t with
  | none => s.badSample i
  | some x => if validTemp x then ((s.goodSample i x).throttles).acton i x else s.badSample i

/-- DIE_DIODE_SAMPLE: every 10 µs (R322-R328). -/
def execDieDiodeSample (die : Fin 9) (t : Option Int) (s : State) : Res :=
  .next <| if s.boot.island then s.sample die t else s

/-- Channels of a stack whose last training lies retrain_temp or more from a reading are queued for retrain (R178). -/
def State.tempRetrains (s : State) (k : Nat) (x : Int) : State :=
  let d : Int := (max 1 (s.get F.MEM_REPAIR_CFG_retrain_temp 0) : Nat) * 10
  ((List.range 34).filter fun p =>
    let t := (s.chan (34 * k + p)).lastTemp
    decide (d ≤ x - t) || decide (d ≤ t - x)).foldl (fun s p => s.queueRetrain (34 * k + p) false) s

/-- STACK_SENSOR_SAMPLE: every 100 µs (R178, R322, R324). -/
def execStackSensorSample (k : Fin 16) (t : Option Int) (s : State) : Res :=
  .next <|
    if !s.boot.island then s
    else
      let s := s.sample (9 + k) t
      match t with
      | some x => if validTemp x ∧ s.boot.phase = .ready then s.tempRetrains k x else s
      | none => s

/-- SENSOR_LOST: 10 invalid samples of a diode in a row, or 3 of a stack sensor (R322). -/
def execSensorLost (i : Fin 25) (s : State) : Res :=
  .next <| if (if i.val < 9 then 10 else 3) ≤ (s.sensor i).bad then s.stopCause 4 i false else s

end Sys2Proof.Machine
end

