-- ==== Sys2Proof/Machine/D2D.lean ====
section
/-! DEFINITION. Die-to-die bundles in service, and margins (R21-R26, R400). -/

namespace Sys2Proof.Machine

/-! ## Lanes (R22-R26) -/

/-- Whether bundle b trains: at step 7 of bring-up, at the retraining stage of a chip reset, at stage 3 of its die's partition reset. -/
def State.d2dTraining (s : State) (b : Nat) : Bool :=
  (s.boot.phase == .bringup && s.boot.done.contains 6 && !s.boot.done.contains 7) ||
  match s.rst.run with
  | some r => (r.req.kind == .chip && r.stage == 4) || (r.req.kind == .partition && r.stage == 3 && b / 64 == r.req.target)
  | none => false

/-- Whether the bundles carry flits: trained, and no chip reset past its takeover. -/
def State.d2dUp (s : State) : Bool :=
  !s.rst.keepers && (s.boot.phase == .ready || (s.boot.phase == .bringup && s.boot.done.contains 7))

/-- A lane of bundle b fails in service: a spare takes its place while one remains, then the bundle narrows. A swap or a change of width
pauses the bundle; a link that falls below its field floor asks for a chip reset (R22, R23, R25). -/
def State.laneLost (s : State) (b lane : Nat) : State :=
  let v := s.bundle b
  let n := v.failed.length + 1
  let l := linkOf b
  let was := s.linkHalves l
  let old := s.get F.HUB_D2D_BUNDLE_STAT_width b
  let change := decide (n ≤ 2) || widthOf (66 - n) != old
  let s := s.setBundle b { v with failed := v.failed ++ [lane], changing := change }
  let s := (s.put F.HUB_D2D_BUNDLE_STAT_healthy_lanes (66 - n) b).put F.HUB_D2D_BUNDLE_STAT_spares_used (min n 2) b
  let s := s.put F.HUB_D2D_BUNDLE_STAT_width (widthOf (66 - n)) b
  let s := if change then (s.bump F.HUB_D2D_BUNDLE_STAT_swap_count 1 b).put F.HUB_D2D_BUNDLE_STAT_degraded_evt 1 b else s
  if was ≤ s.linkHalves l then s
  else
    let s := s.d2dEvent b
    if s.linkHalves l < l.field then s.requestChip { kind := .chip, cause := 3 } else s

/-- A lane judged failed: in training it counts toward the result; during a swap or width change it waits for the end (R26). -/
def State.laneFail (s : State) (b lane : Nat) : State :=
  let v := s.bundle b
  if s.d2dTraining b then (if v.found.contains lane then s else s.setBundle b { v with found := v.found ++ [lane] })
  else if !s.d2dUp || v.failed.contains lane || (v.queued.any fun e => e.1 == lane) then s
  else if v.changing then s.setBundle b { v with queued := v.queued ++ [(lane, s.time)] }
  else s.laneLost b lane

/-- CRC errors of a lane within the last 1 ms (R22). -/
def Bundle.errsOf (v : Bundle) (lane now : Nat) : Nat := (v.errs.filter fun e => e.1 == lane && decide (now < e.2 + 1000000)).length

/-- D2D_LANE_FAIL: 16 CRC errors within 1 ms, an eye below its floor, or a failure in training (R22, R26). -/
def execD2dLaneFail (b : Fin 400) (lane : Fin 66) (cause : LaneFailCause) (s : State) : Res :=
  .next <|
    match cause with
    | .crcErrors => if 16 ≤ (s.bundle b).errsOf lane s.time then s.laneFail b lane else s
    | .eyeWidth => s.laneFail b lane
    | .training => if s.d2dTraining b then s.laneFail b lane else s

/-- The waiting lane to be handled first: in order of detection, within the same microsecond in ascending lane (R26). -/
def firstLane : List (Nat × Nat) → Option (Nat × Nat)
  | [] => none
  | e :: es => match firstLane es with
    | none => some e
    | some x => if e.2 / 1000 < x.2 / 1000 ∨ (e.2 / 1000 = x.2 / 1000 ∧ e.1 < x.1) then some e else some x

/-- BUNDLE_CHANGE_END: the swap or width change is over; the next waiting failure is handled (R26). -/
def execBundleChangeEnd (b : Fin 400) (s : State) : Res :=
  .next <|
    let v := s.bundle b
    if !v.changing then s
    else
      match firstLane v.queued with
      | none => s.setBundle b { v with changing := false }
      | some e => (s.setBundle b { v with changing := false, queued := v.queued.erase e }).laneFail b e.1

/-- D2D_FLIT_RECEIVE: a flit that passes its CRC is delivered; one that fails is not, and the next delivered is its retransmission. The
payload is the flit as sent; lane is the one a CRC error is laid to (R21, R22). -/
def execD2dFlitReceive (b : Fin 400) (payload : BitVec 1024) (crcOk : Bool) (lane : Fin 66) (s : State) : Res :=
  .next <|
    let v := s.bundle b
    if !s.d2dUp || v.changing || s.get F.HUB_D2D_BUNDLE_STAT_width b == 0 then s
    else
      let mine : Bool := match v.replay with | none => true | some f => f == payload
      let v := if crcOk then v else { v with errs := (lane.val, s.time) :: v.errs.filter fun e => decide (s.time < e.2 + 1000000) }
      if !mine then s.setBundle b v
      else if crcOk then s.setBundle b { v with last := some payload, replay := none }
      else s.setBundle b { v with replay := some payload }

/-! ## Margins (R400) -/

/-- What a measurement below its floor does (Table 14.7). -/
def State.marginFloor (s : State) (kind : MarginKind) (unit sub : Nat) : State :=
  let p := unit / 2 / 18
  let n := unit / 2 % 18
  match kind with
  | .dramV => s.degradeLane unit sub
  | .dramT => s.degradeLane unit sub
  | .d2dEye => s.laneFail unit sub
  | .optRx =>
    let v := s.port (unit / 18)
    s.setPort (unit / 18) { v with optBad := if v.optBad.contains (unit % 18) then v.optBad else v.optBad ++ [unit % 18] }
  | .heater => if unit % 2 = 1 then s.laneFails p n .noCodewords 0xFF else s.put F.WIN_LANE_STAT_lock 0 (unit / 2)
  | .laserTrend => s
  | .coreSlack => s

/-- MARGIN_MEASUREMENT: the record and the effect below the floor. DRAM margins are abandoned where the channel is queued for repair or its
stack retrains (R400-R402). -/
def execMarginMeasurement (kind : MarginKind) (unit sub : Nat) (value : Int) (s : State) : Res :=
  if !marginHas kind unit sub then .fault .illFormed
  else
    .next <|
      let dram := kind = .dramV ∨ kind = .dramT
      let st := s.stk (unit / 34)
      let busy := st.retrain.isSome || (st.retrainQ.any fun r => r.phys == unit) || (st.repairQ.any fun r => r.src == unit) ||
        match st.repair with
        | some r => r.src == unit || r.dst == unit
        | none => false
      if !s.boot.island || (dram && (busy || s.repairPaused (unit / 34))) then s
      else
        let s := s.marginSample kind unit sub value
        if value < (s.marginLimits kind unit).2 then s.marginFloor kind unit sub
        else if kind = .optRx then
          s.setPort (unit / 18) { s.port (unit / 18) with optBad := (s.port (unit / 18)).optBad.filter (· != unit % 18) }
        else s

end Sys2Proof.Machine
end

