-- ==== Sys2Proof/Machine/BringUp.lean ====
section
/-! DEFINITION. Bring-up: feed qualification, the steps, their failures and limits, readiness, ways off (R31-R41, R427). -/

namespace Sys2Proof.Machine

/-! ## Step 1 and the ways off -/

/-- Bring-up starts on a qualified feed; a restart at step 1 keeps the island running (R41, Table 1.8). -/
def State.qualified (s : State) (f : Feed) : State :=
  let s := (s.setPwr { s.pwr with inUse := some f }).put F.PWR_STAT_feed f.code 0
  { s.bootStep 2 with boot := { s.boot with phase := .bringup, done := [1], t0 := if s.boot.island then some (s.time : Int) else none } }

/-- FEED_QUALIFIED: a feed at or above 48 V for 100 ms (R427). -/
def execFeedQualified (f : Feed) (va vb : Fin 8192) (s : State) : Res :=
  .next <|
    let v : Nat := match f with | .A => va.val | .B => vb.val
    if v < 4800 then s
    else if s.boot.phase = .off ∨ (s.boot.phase = .bringup ∧ s.boot.done = []) then
      ((s.put F.PWR_FEED_STAT_feed_a va 0).put F.PWR_FEED_STAT_feed_b vb 0).qualified f
    else s

/-- FEED_UNDERVOLT_HOLD: no feed has qualified and one has stayed at or above 40 V for 1 s: the island does step 2's work once, and boot
hold follows (Table 1.10b). -/
def execFeedUndervoltHold (r : IslandRead) (va vb : Fin 8192) (s : State) : Res :=
  .next <|
    let off := s.boot.phase = .off
    if (va.val < 4000 ∧ vb.val < 4000) ∨ !(off ∨ (s.boot.phase = .bringup ∧ s.boot.done = [])) then s
    else
      let s := if off then s.islandWork r else s
      let s := ((s.put F.PWR_FEED_STAT_feed_a va 0).put F.PWR_FEED_STAT_feed_b vb 0).bootStep 1
      s.hold 0x01 0 [] false

/-- BRINGUP_FEED_LOSS: both feeds below 40 V before ready: off, without the log flush (R40). -/
def execBringupFeedLoss (s : State) : Res :=
  .next <| if s.boot.phase = .bringup ∨ (s.boot.phase = .hold ∧ s.pwr.inUse = none) then s.powerOff false else s

/-- LATCH_RELEASE: both feeds below 40 V for 1 s (R427). -/
def execLatchRelease (s : State) : Res :=
  .next <| if s.boot.phase = .offLatched then s.setPhaseBoot .off else s

/-! ## Ready -/

/-- The device is ready once steps 10 and 11 are done (R34). -/
def State.tryReady (s : State) : State :=
  if s.boot.done.contains 10 && s.boot.done.contains 11 then
    (((s.setPhaseBoot .ready).put F.HUB_BOOT_STATUS_ready 1 0).monStart).vec0
  else s

/-! ## Step 11: the stacks (R150, R162, R177) -/

/-- Physical channels of a stack that serve: not retired by the remap list, not among those that failed training. -/
def usableChans (list : List RemapEntry) (bad : List Nat) (k : Nat) : List Nat :=
  (List.range 34).filter fun p => !bad.contains (34 * k + p) && !list.contains (.channel (34 * k + p))

/-- The physical channel for each logical channel of a stack: its own where usable, else the next free spare. -/
def placeChans (usable : List Nat) : List Nat → List Nat → List (Nat × Nat)
  | [], _ => []
  | l :: ls, spares =>
    if usable.contains l then (l, l) :: placeChans usable ls spares
    else match spares with
      | [] => placeChans usable ls []
      | p :: ps => (l, p) :: placeChans usable ls ps

/-- A channel after training. -/
def State.trainedChan (s : State) (i : Nat) : State :=
  s.setChan i { lastTrain := s.time, lastTemp := s.getI F.THM_TEMP_temp (9 + i / 34) }

/-- The channels of a stack take their places (Table 6.9). -/
def State.placeStack (s : State) (usable : List Nat) (k : Nat) : State :=
  let placed := placeChans usable (List.range 32) (usable.filter fun p => decide (32 ≤ p))
  (List.range 34).foldl (fun s p =>
    let i := 34 * k + p
    let s := (s.trainedChan i).put F.MEM_CH_STAT_spare_lanes_used 0 i
    match placed.find? fun e => e.2 == p with
    | some e => (s.setChState i 1).setChLogical i e.1
    | none => (s.setChState i (if usable.contains p then 0 else 6)).setChLogical i 0x3F) s

/-- Apply one entry of the persistent remap list (R177). -/
def State.applyRemap (s : State) (e : RemapEntry) : State :=
  match e with
  | .row i key spare =>
    let c := s.chan i
    let st : RowState := match SMap.get .original c.rows key with
      | .once a => .twice a spare
      | _ => .once spare
    s.setChan i { c with rows := SMap.set .original c.rows key st, spareRows := (key / 36864, spare) :: c.spareRows
                         pendingRows := c.pendingRows.filter (· != key) }
  | .pendingRow i key => s.setChan i { s.chan i with pendingRows := (s.chan i).pendingRows ++ [key] }
  | .line k b => s.dropLine k b
  | .channel _ => s
  | .lane i _ => s.bump F.MEM_CH_STAT_spare_lanes_used 1 i

/-- The live table and its shadow hold entry 0 alone: all local memory, spread, no parity (R150). -/
def State.firstMap (s : State) : State :=
  let codes := (RegName.MEM_MAP.fields ++ RegName.MEM_MAP_SHADOW.fields).map Fld.code
  let s : State := { s with regs := s.regs.filter fun e => !codes.contains (e.1 % 1024) }
  let s := ((s.put F.MEM_MAP_valid 1 0).put F.MEM_MAP_spread 1 0).put F.MEM_MAP_size 589824 0
  ((s.put F.MEM_MAP_SHADOW_valid 1 0).put F.MEM_MAP_SHADOW_spread 1 0).put F.MEM_MAP_SHADOW_size 589824 0

/-- Lanes of channel i that training found failed and that no earlier entry has replaced. -/
def newLanes (list : List RemapEntry) (lanes : List (Nat × Nat)) (i : Nat) : List Nat :=
  ((lanes.filter fun l => l.1 == i && !list.contains (.lane i l.2)).map fun l => l.2).dedup

/-- Channels with more than 8 failed lanes: they are not used (R162). -/
def overLanes (list : List RemapEntry) (lanes : List (Nat × Nat)) : List Nat :=
  (lanes.map fun l => l.1).dedup.filter fun i =>
    decide (8 < (list.filter fun e => match e with | .lane j _ => j == i | _ => false).length + (newLanes list lanes i).length)

/-- A spare lane replaces a lane of channel i (R162). -/
def State.spareLane (s : State) (i lane : Nat) : State :=
  (((s.bump F.MEM_CH_STAT_spare_lanes_used 1 i).put F.MEM_CH_STAT_lane_evt 1 i).chEvent 0x04 i).toRemapList (.lane i lane)

/-- Step 11 done: channels placed, the remap list applied with its pending rows, failed lanes replaced, media zero-filled, the map set (R150, R162, R175, R177). -/
def State.stacksUp (s : State) (bad : List Nat) (lanes : List (Nat × Nat)) : State :=
  let list := s.mem.remapList ++ s.mem.remapToWrite
  let s : State := { s with mem := { remapList := s.mem.remapList, remapToWrite := s.mem.remapToWrite } }
  let s := (List.range 16).foldl (fun s k => s.placeStack (usableChans list bad k) k) s
  let s := list.foldl State.applyRemap s
  let spared := ((lanes.map fun l => l.1).dedup.filter fun i => !bad.contains i && !list.contains (.channel i)).flatMap fun i =>
    (newLanes list lanes i).map fun l => (i, l)
  ((spared.foldl (fun s e => s.spareLane e.1 e.2) s).remapPending).firstMap

/-! ## The steps (R34, R37, Table 1.10b) -/

/-- Whether step n may end now: bring-up runs, what it depends on is done, it is not. -/
def State.stepOpen (s : State) (n : Nat) (deps : List Nat) : Bool :=
  s.boot.phase == .bringup && !s.quiescing && !s.boot.done.contains n && deps.all fun d => s.boot.done.contains d

/-- Whether step 5 may run: step 4 is done and no coolant fault holds it (R38). -/
def State.step5Open (s : State) : Bool := s.stepOpen 5 [4] && !s.boot.coolantWait

/-- Step 4 ends: checks 1 and 2, then the security version against the fuses (R406). -/
def State.step4 (s : State) (keyOk sigOk : Bool) : State :=
  if !(keyOk && sigOk) then s.hold 0x03 0 [] false
  else if s.slotSv s.activeSlot < s.fused then s.hold 0x04 0 [] false
  else
    let s : State := { s with mgmt := { s.mgmt with verified := true } }
    let s := (((s.measure 2 [Config.imageDigest s.activeSlot]).measureFw).measureLock).markDone 4
    if s.thm.coolant then { s with boot := { s.boot with coolantWait := true } } else s.bootStep 5

/-- Step 5 ends: the array clocks run; a chip reset that waited takes effect (R41). -/
def State.step5 (s : State) : State :=
  let s : State := { s with boot := { s.boot with rails := [0, 1, 2, 3, 4, 5, 6] } }
  let s := ((List.range 4).foldl (fun s c => s.startClock c) (s.markDone 5)).bootStep 6
  if s.boot.resetPending then { s with boot := { s.boot with resetPending := false } }.requestChip { kind := .chip, cause := 2 } else s

/-- Step 6 ends: the identity checks (R28). -/
def State.step6 (s : State) (r : IdentityRead) : State :=
  match identityFails r with
  | [] => (({ s with boot := { s.boot with setId := r.hubSet } }.measure 4 [r.hubSet]).markDone 6).bootStep 7
  | f :: fs => s.hold f.cause f.unit (f :: fs) (w0Passed (f :: fs))

/-- Step 7 ends: every bundle has trained (R42). -/
def State.step7 (s : State) (short : ShortLanes) : State :=
  let s := s.trainBundles 0 400 short
  match s.belowBoot with
  | some u => s.hold 0x20 u [] true
  | none => (s.markDone 7).bootStep 10

/-- Step 9 ends: a defect beyond repair, or the adder lanes that failed retired (R298). -/
def State.step9 (s : State) (bad : Option Nat) (adder : List Nat) : State :=
  match bad with
  | some u => s.hold 0x30 u [] true
  | none =>
    let s : State := { s with col := { s.col with retired := (adder.filter fun l => decide (l < 528)).dedup } }
    (s.showLanes.markDone 9).bootStep 11

/-- The feedforward settings that calibration finds: free values (R250, log entry 1). -/
def State.loadFeedforward (s : State) : State :=
  (List.range 16).foldl (fun s k =>
    let d := s.draw
    (d.2.put F.WIN_FF_CFG_tau_us (d.1 % 2 ^ 16) k).put F.WIN_FF_CFG_gain (d.1 / 2 ^ 16 % 2 ^ 16) k) s

/-- Step 10 ends: calibrated ports train; those whose rings failed stay down and are reported (R36, R269, Table 1.10b). -/
def State.step10 (s : State) (bad : List Nat) : State :=
  let s := (List.range 64).foldl (fun s p =>
    if bad.contains p then s.pldm (.portCalFail p)
    else (s.setPort p { s.port p with calibrated := true }).trainFrom p 1) s
  (s.loadFeedforward.markDone 10).tryReady

/-- Step 11 ends: every stack trained with 32 usable channels (R162, Table 1.10b). -/
def State.step11 (s : State) (badStacks badChannels : List Nat) (badLanes : List (Nat × Nat)) : State :=
  let list := s.mem.remapList ++ s.mem.remapToWrite
  let bad := badChannels ++ overLanes list badLanes
  match (List.range 16).find? fun k => badStacks.contains k with
  | some k => s.hold 0x31 k [] true
  | none => match (List.range 16).find? fun k => decide ((usableChans list bad k).length < 32) with
    | some k => s.hold 0x32 k [] true
    | none => ((s.stacksUp bad badLanes).markDone 11).tryReady

/-- BRINGUP_STEP_DONE: the step that the result belongs to ends (R34). -/
def execBringupStepDone (r : StepResult) (s : State) : Res :=
  .next <|
    match r with
    | .island x => if s.stepOpen 2 [1] then ((s.islandWork x).markDone 2).bootStep 3 else s
    | .hubRail =>
      if s.stepOpen 3 [2] then
        (({ s with boot := { s.boot with rails := [0] } }.measure 1 [Config.imageDigest 2]).markDone 3).bootStep 4
      else s
    | .image k g => if s.stepOpen 4 [3] then s.step4 k g else s
    | .mainRails => if s.step5Open then s.step5 else s
    | .identity x => if s.stepOpen 6 [5] then s.step6 x else s
    | .d2d short => if s.stepOpen 7 [6] then s.step7 short else s
    | .hostPort fast usable => if s.stepOpen 8 [7] ∧ s.hostUsable usable then (s.hostTrain fast usable).markDone 8 else s
    | .selfTest bad adder => if s.stepOpen 9 [7] then s.step9 bad adder else s
    | .ringCal bad => if s.stepOpen 10 [7] then s.step10 bad else s
    | .dram bs bc ls => if s.stepOpen 11 [9] then s.step11 bs bc ls else s

/-! ## Limits -/

/-- The limit of a step after t0 in ms (Table 1.8). -/
def stepLimit (n : Nat) : Nat := [0, 0, 50, 60, 600, 630, 650, 700, 1000, 1500, 12000, 42000].getD n 0

/-- The device comes to the moment of a step's limit; after a wait for the coolant the limits count on from the end of step 4, as if that
had been at its own limit (R38, log entry 19). -/
def State.atLimit (s : State) (n : Nat) : State :=
  if s.boot.shift ≠ 0 ∧ 4 < n then s.due (s.boot.shift + (stepLimit n - 600) * 1000000)
  else match s.boot.t0 with
    | none => s
    | some t => s.due (t + (stepLimit n : Int) * 1000000).toNat

/-- A failure whose unit, or cause, the limit does not name: a free value (log entry 1). -/
def State.holdFree (s : State) (f : Nat → Nat × Nat) (w0 : Bool) : State :=
  let d := s.draw
  d.2.hold (f d.1).1 (f d.1).2 [] w0

/-- BRINGUP_STEP_TIMEOUT: a step is not complete by its limit (R37, Table 1.10b). rail is the one that step 5 waits for. -/
def execBringupStepTimeout (step : Fin 12) (rail : Fin 7) (s : State) : Res :=
  .next <|
    let s' := s.atLimit step.val
    let strap (v : Nat) : Nat := positions.getD (v % 9) 0
    match step.val with
    | 2 =>
      if !s.stepOpen 2 [1] then s
      else if s.boot.retryUsed then s'.powerOff true
      else { s' with boot := { s'.boot with retryUsed := true } }
    | 3 => if s.stepOpen 3 [2] then s'.powerOff true else s
    | 4 => if s.stepOpen 4 [3] then s'.hold 0x03 0 [] false else s
    | 5 => if s.step5Open then s'.hold 0x02 rail [] false else s
    | 6 => if s.stepOpen 6 [5] then s'.holdFree (fun v => (0x10 + v % 6, v / 6 % 4096)) false else s
    | 7 => if s.stepOpen 7 [6] then s'.holdFree (fun v => (0x20, strap v)) true else s
    | 8 => if s.stepOpen 8 [7] then ({ s' with boot := { s'.boot with hostDark := true } }.markDone 8).pldm .hostDark else s
    | 9 => if s.stepOpen 9 [7] then s'.holdFree (fun v => (0x30, strap v)) true else s
    | 10 =>
      if s.stepOpen 10 [7] then
        let d := s'.draw
        d.2.step10 ((List.range 64).filter fun p => bitAt d.1 p)
      else s
    | 11 => if s.stepOpen 11 [9] then s'.holdFree (fun v => (0x31, v % 16)) true else s
    | _ => s

end Sys2Proof.Machine
end

