-- ==== Sys2Proof/Machine/Dispatch.lean ====
section
/-! DEFINITION. One arm per command: each is one direct call of the command's meaning. -/

namespace Sys2Proof.Machine

def exec (i : Instr) (s : State) : Host.Outcome State Fault Refusal :=
  match i with
  | .registerWrite r ix w => Sys2Proof.Machine.execRegisterWrite r ix w s
  | .setupLockWrite w => Sys2Proof.Machine.execSetupLockWrite w s
  | .d2dFlitReceive b payload crcOk lane => Sys2Proof.Machine.execD2dFlitReceive b payload crcOk lane s
  | .d2dLaneFail b lane cause => Sys2Proof.Machine.execD2dLaneFail b lane cause s
  | .bundleChangeEnd b => Sys2Proof.Machine.execBundleChangeEnd b s
  | .feedQualified f va vb => Sys2Proof.Machine.execFeedQualified f va vb s
  | .feedUndervoltHold r va vb => Sys2Proof.Machine.execFeedUndervoltHold r va vb s
  | .bringupStepDone r => Sys2Proof.Machine.execBringupStepDone r s
  | .bringupStepTimeout step rail => Sys2Proof.Machine.execBringupStepTimeout step rail s
  | .hostTrainRetry trained fast usable => Sys2Proof.Machine.execHostTrainRetry trained fast usable s
  | .bringupFeedLoss => Sys2Proof.Machine.execBringupFeedLoss s
  | .latchRelease => Sys2Proof.Machine.execLatchRelease s
  | .arrayClkCeilingWrite c w => Sys2Proof.Machine.execArrayClkCeilingWrite c w s
  | .arrayClockStep c up => Sys2Proof.Machine.execArrayClockStep c up s
  | .deviceTimeLowRead fn => Sys2Proof.Machine.execDeviceTimeLowRead fn s
  | .calendarSetWrite w => Sys2Proof.Machine.execCalendarSetWrite w s
  | .pldmCalendarSet seconds fraction => Sys2Proof.Machine.execPldmCalendarSet seconds fraction s
  | .calendarSetApply => Sys2Proof.Machine.execCalendarSetApply s
  | .beatAdmit a fed => Sys2Proof.Machine.execBeatAdmit a fed s
  | .columnComplete a bank ecc => Sys2Proof.Machine.execColumnComplete a bank ecc s
  | .sloadRowWrite a => Sys2Proof.Machine.execSloadRowWrite a s
  | .drainEntryRead a credit bank ecc => Sys2Proof.Machine.execDrainEntryRead a credit bank ecc s
  | .accInitEntry a => Sys2Proof.Machine.execAccInitEntry a s
  | .srSeedWrite q w => Sys2Proof.Machine.execSrSeedWrite q w s
  | .srCtrWrite q w => Sys2Proof.Machine.execSrCtrWrite q w s
  | .programLaunch q => Sys2Proof.Machine.execProgramLaunch q s
  | .programEnd q => Sys2Proof.Machine.execProgramEnd q s
  | .nop q => Sys2Proof.Machine.execNop q s
  | .endProgram q => Sys2Proof.Machine.execEndProgram q s
  | .br q => Sys2Proof.Machine.execBr q s
  | .loop q => Sys2Proof.Machine.execLoop q s
  | .sload q => Sys2Proof.Machine.execSload q s
  | .wstream q => Sys2Proof.Machine.execWstream q s
  | .accInit q => Sys2Proof.Machine.execAccInit q s
  | .accDrain q => Sys2Proof.Machine.execAccDrain q s
  | .vload q => Sys2Proof.Machine.execVload q s
  | .vstore q => Sys2Proof.Machine.execVstore q s
  | .vop q => Sys2Proof.Machine.execVop q s
  | .vred q => Sys2Proof.Machine.execVred q s
  | .vtopk q => Sys2Proof.Machine.execVtopk q s
  | .qcopy q => Sys2Proof.Machine.execQcopy q s
  | .qcopyComplete q => Sys2Proof.Machine.execQcopyComplete q s
  | .waitObj q => Sys2Proof.Machine.execWaitObj q s
  | .waitObjWake q => Sys2Proof.Machine.execWaitObjWake q s
  | .waitTimeout q => Sys2Proof.Machine.execWaitTimeout q s
  | .waitEv q => Sys2Proof.Machine.execWaitEv q s
  | .signalSet q => Sys2Proof.Machine.execSignalSet q s
  | .signalAdd q => Sys2Proof.Machine.execSignalAdd q s
  | .alu q => Sys2Proof.Machine.execAlu q s
  | .alui q => Sys2Proof.Machine.execAlui q s
  | .li q => Sys2Proof.Machine.execLi q s
  | .ld q => Sys2Proof.Machine.execLd q s
  | .st q => Sys2Proof.Machine.execSt q s
  | .movlc q => Sys2Proof.Machine.execMovlc q s
  | .lamp q => Sys2Proof.Machine.execLamp q s
  | .graphStoreBaseWrite w => Sys2Proof.Machine.execGraphStoreBaseWrite w s
  | .graphNodeReady g node => Sys2Proof.Machine.execGraphNodeReady g node s
  | .graphNodeComplete g node => Sys2Proof.Machine.execGraphNodeComplete g node s
  | .memAccess addr op finds => Sys2Proof.Machine.execMemAccess addr op finds s
  | .parityHoldExpire stack group burst => Sys2Proof.Machine.execParityHoldExpire stack group burst s
  | .patrolScrub ix finds => Sys2Proof.Machine.execPatrolScrub ix finds s
  | .dramLaneDegraded ix lane margin => Sys2Proof.Machine.execDramLaneDegraded ix lane margin s
  | .sliceWindow ends => Sys2Proof.Machine.execSliceWindow ends s
  | .retrainPeriodExpire ix => Sys2Proof.Machine.execRetrainPeriodExpire ix s
  | .channelRetrainReq ix w => Sys2Proof.Machine.execChannelRetrainReq ix w s
  | .evacuateReq ix w => Sys2Proof.Machine.execEvacuateReq ix w s
  | .evacuationStep sx finds => Sys2Proof.Machine.execEvacuationStep sx finds s
  | .channelLost ix silent => Sys2Proof.Machine.execChannelLost ix silent s
  | .rebuildLine sx => Sys2Proof.Machine.execRebuildLine sx s
  | .rowRemapDone ix => Sys2Proof.Machine.execRowRemapDone ix s
  | .remapListWrite => Sys2Proof.Machine.execRemapListWrite s
  | .entryZeroFillDone ix => Sys2Proof.Machine.execEntryZeroFillDone ix s
  | .pcieDlDown => Sys2Proof.Machine.execPcieDlDown s
  | .functionLevelReset fn => Sys2Proof.Machine.execFunctionLevelReset fn s
  | .bar4Access off op => Sys2Proof.Machine.execBar4Access off op s
  | .syncObjectWrite fn obj size v => Sys2Proof.Machine.execSyncObjectWrite fn obj size v s
  | .queueEnable n w => Sys2Proof.Machine.execQueueEnable n w s
  | .queueDisable n w => Sys2Proof.Machine.execQueueDisable n w s
  | .queueResume n w => Sys2Proof.Machine.execQueueResume n w s
  | .queueSetHead n w => Sys2Proof.Machine.execQueueSetHead n w s
  | .cqEnable n w => Sys2Proof.Machine.execCqEnable n w s
  | .cqDisable n w => Sys2Proof.Machine.execCqDisable n w s
  | .doorbell n w => Sys2Proof.Machine.execDoorbell n w s
  | .cqHeadWrite n w => Sys2Proof.Machine.execCqHeadWrite n w s
  | .descriptorFetch => Sys2Proof.Machine.execDescriptorFetch s
  | .descriptorReadDone n data => Sys2Proof.Machine.execDescriptorReadDone n data s
  | .descriptorDispatch n => Sys2Proof.Machine.execDescriptorDispatch n s
  | .descriptorComplete n idx => Sys2Proof.Machine.execDescriptorComplete n idx s
  | .cqStallTimeout n => Sys2Proof.Machine.execCqStallTimeout n s
  | .interruptModerationExpire n => Sys2Proof.Machine.execInterruptModerationExpire n s
  | .recordHintExpire n => Sys2Proof.Machine.execRecordHintExpire n s
  | .execProgram work => Sys2Proof.Machine.execExecProgram work s
  | .execGraph work => Sys2Proof.Machine.execExecGraph work s
  | .copy work hostData => Sys2Proof.Machine.execCopy work hostData s
  | .fill work => Sys2Proof.Machine.execFill work s
  | .syncSignal work => Sys2Proof.Machine.execSyncSignal work s
  | .syncWait work => Sys2Proof.Machine.execSyncWait work s
  | .syncWaitTimeout work => Sys2Proof.Machine.execSyncWaitTimeout work s
  | .powerHint work => Sys2Proof.Machine.execPowerHint work s
  | .configCommit work => Sys2Proof.Machine.execConfigCommit work s
  | .commitUnitSwitched => Sys2Proof.Machine.execCommitUnitSwitched s
  | .commitLimitMissed => Sys2Proof.Machine.execCommitLimitMissed s
  | .configRevert work => Sys2Proof.Machine.execConfigRevert work s
  | .expectDark work => Sys2Proof.Machine.execExpectDark work s
  | .abort work => Sys2Proof.Machine.execAbort work s
  | .dump work => Sys2Proof.Machine.execDump work s
  | .nodeIdWrite w => Sys2Proof.Machine.execNodeIdWrite w s
  | .fabricEnable w => Sys2Proof.Machine.execFabricEnable w s
  | .boardWindowAccess addr op => Sys2Proof.Machine.execBoardWindowAccess addr op s
  | .fabricRead work => Sys2Proof.Machine.execFabricRead work s
  | .fabricWrite work hostData => Sys2Proof.Machine.execFabricWrite work hostData s
  | .fabricWritePosted work hostData => Sys2Proof.Machine.execFabricWritePosted work hostData s
  | .fabricAtomic work hostData => Sys2Proof.Machine.execFabricAtomic work hostData s
  | .fabricSend work hostData => Sys2Proof.Machine.execFabricSend work hostData s
  | .fabricFence work => Sys2Proof.Machine.execFabricFence work s
  | .fabricRequestIssue dst => Sys2Proof.Machine.execFabricRequestIssue dst s
  | .readRequest port p => Sys2Proof.Machine.execReadRequest port p s
  | .writeRequest port p => Sys2Proof.Machine.execWriteRequest port p s
  | .writePostedRequest port p => Sys2Proof.Machine.execWritePostedRequest port p s
  | .atomicRequest port p => Sys2Proof.Machine.execAtomicRequest port p s
  | .sendRequest port p => Sys2Proof.Machine.execSendRequest port p s
  | .fenceRequest port p => Sys2Proof.Machine.execFenceRequest port p s
  | .openRequest port p => Sys2Proof.Machine.execOpenRequest port p s
  | .fabricReply port p => Sys2Proof.Machine.execFabricReply port p s
  | .fabricNak port p => Sys2Proof.Machine.execFabricNak port p s
  | .fabricRetransmitTimeout tag => Sys2Proof.Machine.execFabricRetransmitTimeout tag s
  | .fabricFinalTimeout tag => Sys2Proof.Machine.execFabricFinalTimeout tag s
  | .routeWaitTimeout tag => Sys2Proof.Machine.execRouteWaitTimeout tag s
  | .flowContextReclaim source node => Sys2Proof.Machine.execFlowContextReclaim source node s
  | .flowContextFetchDone source node poisoned => Sys2Proof.Machine.execFlowContextFetchDone source node poisoned s
  | .resultCacheSweep => Sys2Proof.Machine.execResultCacheSweep s
  | .rxqHeadWrite n w => Sys2Proof.Machine.execRxqHeadWrite n w s
  | .rxqDisable n w => Sys2Proof.Machine.execRxqDisable n w s
  | .sourceViolationFlood node => Sys2Proof.Machine.execSourceViolationFlood node s
  | .tuningLoopUpdate ring offset => Sys2Proof.Machine.execTuningLoopUpdate ring offset s
  | .activityIndex w a0 a1 a2 a3 => Sys2Proof.Machine.execActivityIndex w a0 a1 a2 a3 s
  | .activityIndexAbsent w => Sys2Proof.Machine.execActivityIndexAbsent w s
  | .linkFlitReceive p f => Sys2Proof.Machine.execLinkFlitReceive p f s
  | .linkReplayTimeout p => Sys2Proof.Machine.execLinkReplayTimeout p s
  | .laneMap p gen entries => Sys2Proof.Machine.execLaneMap p gen entries s
  | .laneMapTimeout p => Sys2Proof.Machine.execLaneMapTimeout p s
  | .laneFault p wavelength cause laneId => Sys2Proof.Machine.execLaneFault p wavelength cause laneId s
  | .fecMode p long => Sys2Proof.Machine.execFecMode p long s
  | .launchPower p values => Sys2Proof.Machine.execLaunchPower p values s
  | .launchPowerTimer p => Sys2Proof.Machine.execLaunchPowerTimer p s
  | .drain p reason duration => Sys2Proof.Machine.execDrain p reason duration s
  | .retrain p => Sys2Proof.Machine.execRetrain p s
  | .laneFailDetect p wavelength cause => Sys2Proof.Machine.execLaneFailDetect p wavelength cause s
  | .aliasLockDetect p wavelength transmit laneId => Sys2Proof.Machine.execAliasLockDetect p wavelength transmit laneId s
  | .aliasRecoveryEnd p wavelength ok => Sys2Proof.Machine.execAliasRecoveryEnd p wavelength ok s
  | .lossLocation p r => Sys2Proof.Machine.execLossLocation p r s
  | .partnerLightDetect p => Sys2Proof.Machine.execPartnerLightDetect p s
  | .trainingStepDone p r => Sys2Proof.Machine.execTrainingStepDone p r s
  | .trainingStepTimeout p => Sys2Proof.Machine.execTrainingStepTimeout p s
  | .trainingRetryTimer p => Sys2Proof.Machine.execTrainingRetryTimer p s
  | .portDown p => Sys2Proof.Machine.execPortDown p s
  | .portRetrainReq p w => Sys2Proof.Machine.execPortRetrainReq p w s
  | .recalReq p w => Sys2Proof.Machine.execRecalReq p w s
  | .ringCalibrationDone p ok => Sys2Proof.Machine.execRingCalibrationDone p ok s
  | .portDrained p => Sys2Proof.Machine.execPortDrained p s
  | .darkWaitTimeout p => Sys2Proof.Machine.execDarkWaitTimeout p s
  | .linkViolationFlood p => Sys2Proof.Machine.execLinkViolationFlood p s
  | .portHoldExpire p => Sys2Proof.Machine.execPortHoldExpire p s
  | .hostLinkTrained fast usable => Sys2Proof.Machine.execHostLinkTrained fast usable s
  | .collectiveSetup work => Sys2Proof.Machine.execCollectiveSetup work s
  | .allReduce work => Sys2Proof.Machine.execAllReduce work s
  | .reduce work => Sys2Proof.Machine.execReduce work s
  | .broadcast work => Sys2Proof.Machine.execBroadcast work s
  | .barrier work => Sys2Proof.Machine.execBarrier work s
  | .teardown work => Sys2Proof.Machine.execTeardown work s
  | .collectiveRunStart session => Sys2Proof.Machine.execCollectiveRunStart session s
  | .join port p => Sys2Proof.Machine.execJoin port p s
  | .joinTimer session => Sys2Proof.Machine.execJoinTimer session s
  | .joinLimitExpire session => Sys2Proof.Machine.execJoinLimitExpire session s
  | .chunk port p adder => Sys2Proof.Machine.execChunk port p adder s
  | .credit port p => Sys2Proof.Machine.execCredit port p s
  | .creditKeepaliveTimer session => Sys2Proof.Machine.execCreditKeepaliveTimer session s
  | .chunkRetransmitTimeout session neighbour => Sys2Proof.Machine.execChunkRetransmitTimeout session neighbour s
  | .abortChunk port p => Sys2Proof.Machine.execAbortChunk port p s
  | .sessionTimeout session neighbour => Sys2Proof.Machine.execSessionTimeout session neighbour s
  | .colPoolWrite w => Sys2Proof.Machine.execColPoolWrite w s
  | .feedSwitch va vb => Sys2Proof.Machine.execFeedSwitch va vb s
  | .feedSwitchBack va vb => Sys2Proof.Machine.execFeedSwitchBack va vb s
  | .feedOvervoltage f va vb => Sys2Proof.Machine.execFeedOvervoltage f va vb s
  | .holdUp va vb => Sys2Proof.Machine.execHoldUp va vb s
  | .holdUpRailsOff => Sys2Proof.Machine.execHoldUpRailsOff s
  | .railFault rail => Sys2Proof.Machine.execRailFault rail s
  | .hubRailFault => Sys2Proof.Machine.execHubRailFault s
  | .powerControlTick => Sys2Proof.Machine.execPowerControlTick s
  | .powerEvaluation measured estimated va vb => Sys2Proof.Machine.execPowerEvaluation measured estimated va vb s
  | .measurementLost => Sys2Proof.Machine.execMeasurementLost s
  | .capUnreachable => Sys2Proof.Machine.execCapUnreachable s
  | .estimateMismatch => Sys2Proof.Machine.execEstimateMismatch s
  | .powerExcess => Sys2Proof.Machine.execPowerExcess s
  | .dieDiodeSample die t => Sys2Proof.Machine.execDieDiodeSample die t s
  | .stackSensorSample sx t => Sys2Proof.Machine.execStackSensorSample sx t s
  | .sensorLost ix => Sys2Proof.Machine.execSensorLost ix s
  | .stopStepDone => Sys2Proof.Machine.execStopStepDone s
  | .stopStepLimit => Sys2Proof.Machine.execStopStepLimit s
  | .analogueThermTrip c => Sys2Proof.Machine.execAnalogueThermTrip c s
  | .preRampStart die => Sys2Proof.Machine.execPreRampStart die s
  | .preRampHoldEnd die => Sys2Proof.Machine.execPreRampHoldEnd die s
  | .stopResetRelease => Sys2Proof.Machine.execStopResetRelease s
  | .contextReset w => Sys2Proof.Machine.execContextReset w s
  | .engineReset w => Sys2Proof.Machine.execEngineReset w s
  | .partitionReset w => Sys2Proof.Machine.execPartitionReset w s
  | .partitionStageDone c short bad => Sys2Proof.Machine.execPartitionStageDone c short bad s
  | .chipReset w => Sys2Proof.Machine.execChipReset w s
  | .powerCycle w => Sys2Proof.Machine.execPowerCycle w s
  | .pldmChipReset => Sys2Proof.Machine.execPldmChipReset s
  | .pldmPowerCycle => Sys2Proof.Machine.execPldmPowerCycle s
  | .resetLimitExpire => Sys2Proof.Machine.execResetLimitExpire s
  | .chipResetTakeover => Sys2Proof.Machine.execChipResetTakeover s
  | .chipResetStageDone r => Sys2Proof.Machine.execChipResetStageDone r s
  | .windowHandover => Sys2Proof.Machine.execWindowHandover s
  | .endpointNoticeTimer => Sys2Proof.Machine.execEndpointNoticeTimer s
  | .endpointNotice port n => Sys2Proof.Machine.execEndpointNotice port n s
  | .dumpStart w => Sys2Proof.Machine.execDumpStart w s
  | .dumpSectionDone bytes ok => Sys2Proof.Machine.execDumpSectionDone bytes ok s
  | .dumpUnitUnresponsive => Sys2Proof.Machine.execDumpUnitUnresponsive s
  | .dumpTimeLimit => Sys2Proof.Machine.execDumpTimeLimit s
  | .hello port h => Sys2Proof.Machine.execHello port h s
  | .helloTimer port => Sys2Proof.Machine.execHelloTimer port s
  | .jobInstall w => Sys2Proof.Machine.execJobInstall w s
  | .jobClear w => Sys2Proof.Machine.execJobClear w s
  | .noticeSubmit w => Sys2Proof.Machine.execNoticeSubmit w s
  | .pldmNotice n => Sys2Proof.Machine.execPldmNotice n s
  | .signedNotice port f => Sys2Proof.Machine.execSignedNotice port f s
  | .fragmentGapTimeout port => Sys2Proof.Machine.execFragmentGapTimeout port s
  | .noticeVerified good => Sys2Proof.Machine.execNoticeVerified good s
  | .pendingNoticeExpire generation => Sys2Proof.Machine.execPendingNoticeExpire generation s
  | .bind work => Sys2Proof.Machine.execBind work s
  | .mark work => Sys2Proof.Machine.execMark work s
  | .unbind work => Sys2Proof.Machine.execUnbind work s
  | .rbind port p => Sys2Proof.Machine.execRbind port p s
  | .rbindTimer => Sys2Proof.Machine.execRbindTimer s
  | .bindTimeout => Sys2Proof.Machine.execBindTimeout s
  | .rburst port p => Sys2Proof.Machine.execRburst port p s
  | .rmark port p => Sys2Proof.Machine.execRmark port p s
  | .rkeep port p => Sys2Proof.Machine.execRkeep port p s
  | .rkeepTimer => Sys2Proof.Machine.execRkeepTimer s
  | .rresume port p => Sys2Proof.Machine.execRresume port p s
  | .reflectBurstSend => Sys2Proof.Machine.execReflectBurstSend s
  | .reflectReply port p => Sys2Proof.Machine.execReflectReply port p s
  | .partnerLossTimeout => Sys2Proof.Machine.execPartnerLossTimeout s
  | .rollbackDone => Sys2Proof.Machine.execRollbackDone s
  | .monitorSample u v => Sys2Proof.Machine.execMonitorSample u v s
  | .monitorWindowEnd u => Sys2Proof.Machine.execMonitorWindowEnd u s
  | .marginMeasurement kind unit sub value => Sys2Proof.Machine.execMarginMeasurement kind unit sub value s
  | .logFlush => Sys2Proof.Machine.execLogFlush s
  | .logSelectWrite w => Sys2Proof.Machine.execLogSelectWrite w s
  | .pldmSensorRead item => Sys2Proof.Machine.execPldmSensorRead item s
  | .fwUpdateTransfer bytes sv last => Sys2Proof.Machine.execFwUpdateTransfer bytes sv last s
  | .fwVerify keyOk sigOk => Sys2Proof.Machine.execFwVerify keyOk sigOk s
  | .activateFirmware => Sys2Proof.Machine.execActivateFirmware s
  | .firmwareSlotSelect => Sys2Proof.Machine.execFirmwareSlotSelect s
  | .rollbackAdvance v => Sys2Proof.Machine.execRollbackAdvance v s
  | .rollbackCtrlWrite w => Sys2Proof.Machine.execRollbackCtrlWrite w s
  | .fuseStepDone => Sys2Proof.Machine.execFuseStepDone s
  | .getVersion t => Sys2Proof.Machine.execGetVersion t s
  | .getCapabilities t => Sys2Proof.Machine.execGetCapabilities t s
  | .negotiateAlgorithms t => Sys2Proof.Machine.execNegotiateAlgorithms t s
  | .getDigests t => Sys2Proof.Machine.execGetDigests t s
  | .getCertificate t => Sys2Proof.Machine.execGetCertificate t s
  | .challenge t => Sys2Proof.Machine.execChallenge t s
  | .getMeasurements t => Sys2Proof.Machine.execGetMeasurements t s
  | .keyExchange t => Sys2Proof.Machine.execKeyExchange t s
  | .finish t session => Sys2Proof.Machine.execFinish t session s
  | .heartbeat t session => Sys2Proof.Machine.execHeartbeat t session s
  | .keyUpdate t session => Sys2Proof.Machine.execKeyUpdate t session s
  | .endSession t session => Sys2Proof.Machine.execEndSession t session s
  | .coolantFaultAssert => Sys2Proof.Machine.execCoolantFaultAssert s
  | .coolantFaultDeassertHeld => Sys2Proof.Machine.execCoolantFaultDeassertHeld s
  | .engineResetEnd => Sys2Proof.Machine.execEngineResetEnd s
  | .vectorInstructionComplete q => Sys2Proof.Machine.execVectorInstructionComplete q s
  | .flowContextWaitTimeout node => Sys2Proof.Machine.execFlowContextWaitTimeout node s
  | .poisonedContextHoldEnd node => Sys2Proof.Machine.execPoisonedContextHoldEnd node s
  | .violationDiscardEnd node => Sys2Proof.Machine.execViolationDiscardEnd node s
  | .dStateChange d3 => Sys2Proof.Machine.execDStateChange d3 s
  | .vfEnable n => Sys2Proof.Machine.execVfEnable n s

end Sys2Proof.Machine
end

