-- ==== Sys2Proof/Safety.lean ====
section
/-! DEFINITION. What counts as a safe step, and the vocabulary in which the statements say what a command does and what it leaves
alone. -/

namespace Sys2Proof.Machine

/-- The command answers a next state. -/
def Completes (c : Instr) (s : State) : Prop := ∃ t, exec c s = .next t

/-- The command answers a next state of which P holds. -/
def Gives (c : Instr) (s : State) (P : State → Prop) : Prop := ∃ t, exec c s = .next t ∧ P t

/-- The step stops with a fault. -/
def Faults (s : State) (f : Fault) : Prop := step s = .fault f

/-- The stores of the machine are in canonical form, so that equal contents are equal data. -/
def State.wf (s : State) : Bool := s.spad.wf && s.hubsp.wf && s.mem.dram.wf

/-- No register field but those at the listed keys differs: every other key reads the same, whatever it holds unlisted. -/
def KeepsRegs (keys : List Nat) (s t : State) : Prop := ∀ k, k ∉ keys → ∀ d, SMap.get d t.regs k = SMap.get d s.regs k

/-- The only part that differs is the register store, and in it only the listed keys. -/
def OnlyRegs (keys : List Nat) (s t : State) : Prop := t = { s with regs := t.regs } ∧ KeepsRegs keys s t

/-- The register fields of a list of codes, at any instance, are all that may differ in the register store. -/
def KeepsFlds (fs : List Fld) (s t : State) : Prop :=
  ∀ k, (∀ f ∈ fs, k % 1024 ≠ f.code) → ∀ d, SMap.get d t.regs k = SMap.get d s.regs k

/-- A write that reaches instance j of register r through function fn's BAR0: the hub answers, the access is aligned and lies in
the register (R189, R191). -/
def Reaches (s : State) (r : RegName) (i : Nat) (w : BarAcc) (j : Nat) : Prop :=
  s.hubUp = true ∧ w.aligned = true ∧ s.regIx r w.fn i = some j ∧ j < r.count ∧ 8 * w.off < r.width

/-- Sequencer q stands at an instruction word of this opcode whose reserved fields are 0 and whose array range ends within the
quadrant, and may issue it (R121, R123). -/
def AtOp (s : State) (q op w : Nat) : Prop :=
  s.mayIssue q = true ∧ (s.seq q).pc < (s.seq q).len ∧ s.curWord q = w ∧ slice w 127 120 = op ∧ opcodes.contains op = true ∧
  wordReservedSet op w = false ∧ (onArrays op = true → (wordArrays w).1 + (wordArrays w).2 ≤ 64)

/-- Control of sequencer q passes the instruction it stood at, as R130 says, and nothing but the sequencer, its progress and its
status registers changes. -/
def PassesOn (s t : State) (q : Nat) : Prop :=
  (t.seq q).pc = (loopNext (s.seq q).pc (s.seq q).loops).2 ∧ (t.seq q).loops = (loopNext (s.seq q).pc (s.seq q).loops).1 ∧
  (t.seq q).wait = .none ∧ (∀ k, k ≠ q → t.seq k = s.seq k) ∧ t = { s with regs := t.regs, engines := t.engines, seqs := t.seqs }

/-- An array instruction of sequencer q is issued: its number is taken, control passes on, and nothing but the sequencer, its arrays
and their registers changes. -/
def Issues (s t : State) (q : Nat) : Prop :=
  (t.seq q).pc = (loopNext (s.seq q).pc (s.seq q).loops).2 ∧ (t.seq q).nextId = (s.seq q).nextId + 1 ∧
  t = { s with regs := t.regs, engines := t.engines, seqs := t.seqs, arrays := t.arrays }

/-- A vector instruction of sequencer q is issued: it stands last in the engine's queue and control passes on. -/
def VecIssued (s t : State) (q : Nat) : Prop :=
  (t.seq q).vq = (s.seq q).vq ++ [(s.seq q).nextId] ∧ (t.seq q).nextId = (s.seq q).nextId + 1 ∧
  (t.seq q).pc = (loopNext (s.seq q).pc (s.seq q).loops).2 ∧ (t.seq q).sr = (s.seq q).sr

/-- Scalar register rd of sequencer q takes a value; s0 stays 0 and every other register keeps its own (R116). -/
def SetsScalar (s t : State) (q rd v : Nat) : Prop :=
  t.sreg q 0 = 0 ∧ (rd ≠ 0 → t.sreg q rd = v % 2 ^ 64) ∧ ∀ r, r ≠ rd → t.sreg q r = s.sreg q r

/-- The result that a piece of work has ended with. -/
def State.resultOf (s : State) (w : Work) : Option Result :=
  match w with
  | .desc n i =>
    match (s.queue n).ent i with
    | none => none
    | some e => e.result
  | .node g k it =>
    match (s.graph g).insts.find? fun x => x.node == k && x.iter == it with
    | none => none
    | some x => x.result

/-- The work, open in s, stands ended in t with this outcome. -/
def EndedAs (s t : State) (w : Work) (st : Status) (d : Nat) : Prop :=
  (∃ it, s.item w = some it ∧ t.item w = some { it with phase := .ended }) ∧ t.resultOf w = some ⟨st, d⟩

/-- Something leaves on port p: it is the newest output, or stands last among what the link cannot carry yet (R257, R258). -/
def Sent (s t : State) (p : Nat) (o : Out) : Prop :=
  t.out = o :: s.out ∨ (t.out = s.out ∧ (t.port p).txWait = (s.port p).txWait ++ [o])

/-- The reply to request p leaves on its port with this status, sequence number and data. -/
def Replies (s t : State) (port : Nat) (p : Packet) (st : Status) (fseq : Nat) (data : List Byte) : Prop :=
  ∃ r : Packet, Sent s t port (.packet port r) ∧ r.kind = 0x80 ∧ r.tag = p.tag ∧ r.dst = p.src ∧ r.src = s.ownNode ∧
    r.status = st.code ∧ r.fseq = fseq ∧ r.data = data

/-- A request packet that passes checks 1 to 6 of Table 8.8 at this target, from a source whose flow x is open, whose context is on
die, whose memory holds nothing back, and for whose packets nothing else waits. -/
def Admits (s : State) (port : Nat) (p : Packet) (x : FlowTgt) : Prop :=
  s.kept = false ∧ s.portReceives port = true ∧ s.unitFrozen 0x50 = false ∧ s.headerFault p = none ∧ s.fabOn = true ∧
  s.excludedNode p.src = false ∧ s.rbindDiscard p = false ∧ (s.flow p.src).place = .onDie ∧ (s.flow p.src).tgt = some x ∧
  p.dstEpoch = s.epoch ∧ x.epoch = p.srcEpoch ∧ s.packetHeld p = false ∧ (s.fab.held.any fun h => h.2.src == p.src) = false

/-- A request that an exported region covers with its key, filter, permission and bounds (Table 8.8, checks 8 to 12). -/
def Exports (s : State) (p : Packet) : Prop :=
  ∃ i, s.regionFor p.offset = some i ∧ p.key = s.get F.FAB_REGION_key i ∧ s.passesFilter i p.src = true ∧ s.permits i p.kind = true ∧
    p.offset + p.length ≤ (s.get F.FAB_REGION_base i + s.get F.FAB_REGION_size i) * 2 ^ 21 ∧ s.mapped p.offset p.length = true

/-- No fabric operation stands done and not ended. -/
def State.opsSettled (s : State) : Prop := ∀ o ∈ s.fab.ops, s.opDone o = false

/-- Request r, the first of its operation o's requests to be sent, leaves on port q. -/
def SentFirst (s t : State) (q : Nat) (o : FabOp) : Prop :=
  ∃ (r : FabReq) (p : Packet), r ∈ t.fab.reqs ∧ r.op = some o.id ∧ r.node = o.node ∧ r.kind = o.code ∧ r.off = o.off + o.next ∧
    r.len = o.piece.1 ∧ r.attempts = 1 ∧ Sent s t q (.packet q p) ∧ p.kind = o.code ∧ p.tag = r.tag ∧ p.dst = o.node ∧
    p.key = o.key ∧ p.offset = r.off ∧ p.length = r.len ∧ p.data = r.data

/-- A write of HUB_RESET_CTRL through the PF that asks for a reset of kind k, with no field that makes the device ignore it (R340). -/
def AsksReset (s : State) (w : BarAcc) (k : RKind) : Prop :=
  Reaches s .HUB_RESET_CTRL 0 w 0 ∧ w.resetKind = k.code ∧ w.resetBad = false

/-- The reset that such a write asks for (Table 12.4). -/
def resetReq (w : BarAcc) (k : RKind) : RReq :=
  { kind := k, target := slice w.value.toNat 27 16, escalate := bitAt w.value.toNat 4, dumpFirst := bitAt w.value.toNat 5 && decide (4 ≤ k.code) }

/-- Nothing of an earlier reset stands in the way of what the next end of a reset does. -/
def State.noFollowers (s : State) : Prop := s.rst.queue = [] ∧ s.rst.absorbed = [] ∧ s.rst.chain = []

/-- No reset or stop is in progress, and none waits. -/
def State.resetsIdle (s : State) : Prop :=
  s.rst.run = none ∧ s.noFollowers ∧ s.rst.ctxEnding = [] ∧ s.rst.cycleWait = false ∧ s.stopActive = false

/-- No work is at any unit. -/
def State.idleWork (s : State) : Prop := s.queues = [] ∧ s.launches = [] ∧ s.graphs = [] ∧ s.fab.ops = []

/-- The reset register shows the end of a reset: its kind, target and result, with the event (Table 12.5). -/
def ShowsEnd (t : State) (kind target result : Nat) : Prop :=
  t.get F.HUB_RESET_STAT_last_kind 0 = kind ∧ t.get F.HUB_RESET_STAT_last_target 0 = target ∧
  t.get F.HUB_RESET_STAT_last_result 0 = result ∧ t.get F.HUB_RESET_STAT_done_evt 0 = 1

end Sys2Proof.Machine
end

