-- ==== Sys2Proof/Certificates/Slice0/Obligations.lean ====
section
/-! DEFINITION. The statements: what the commands do, what they leave alone, and what every step keeps. Each clause names the rule
it follows; a clause about a choice of the model names its log entry. -/

open Sys2Proof Sys2Proof.Machine

/-! ## The block: its queue, its reset, its stores -/

/-- A step takes the command at the front of the queue and runs it with the queue's rest; on an empty queue one always-on
cycle passes, which is the model's choice (log entry 3). -/
def Obligations.StepRunsFront : Prop :=
  (∀ (c : Instr) (cs : List Instr) (s : State), s.pending = c :: cs → step s = exec c { s with pending := cs }) ∧
  (∀ s : State, s.pending = [] → step s = .next s.tick)

/-- Every register field of the manual reads at power-on as its table's Reset column says, but for the entries of context 0
(R192) and for the valid bit of the image in flash, which is the model's choice (log entry 4).
Right after reset the module is off: nothing waits, has left, is stored, queued, launched or logged. -/
def Obligations.ResetState : Prop :=
  ((∀ (f : Fld) (i : Nat), f.key i ∉ [F.CTX_valid.key 0, F.CTX_admin.key 0, F.CTX_SHADOW_valid.key 0, F.CTX_SHADOW_admin.key 0,
      F.SEC_FW_STAT_valid.key 0] → State.reset.get f i = f.reset) ∧
  State.reset.get F.CTX_valid 0 = 1 ∧ State.reset.get F.CTX_admin 0 = 1 ∧
  State.reset.get F.CTX_SHADOW_valid 0 = 1 ∧ State.reset.get F.CTX_SHADOW_admin 0 = 1) ∧
  (State.reset.pending = [] ∧ State.reset.out = [] ∧ State.reset.boot.phase = .off ∧ State.reset.queues = [] ∧
  State.reset.rings = [] ∧ State.reset.launches = [] ∧ State.reset.log.staged = [] ∧ State.reset.log.flash = [] ∧
  State.reset.log.nextSeq = 1 ∧ (∀ a, State.reset.spad.byte a = 0 ∧ State.reset.hubsp.byte a = 0 ∧ State.reset.mem.dram.byte a = 0) ∧
  State.reset.wf = true)

/-- The invariant of the byte stores: scratchpads, hub scratchpad and stacks keep their canonical form through every step, so
that equal contents stay equal data. -/
def Obligations.StepKeepsStores : Prop :=
  ∀ s t : State, s.wf = true → step s = .next t → t.wf = true

/-! ## Register access (R12-R14, R189) -/

/-- REGISTER_WRITE: an accepted write to a register with no row of its own and no shadow gives each of its fields the value its
access code says, and changes no other register field and no other part of the machine. -/
def Obligations.RegisterWriteByAccessCode : Prop :=
  ∀ (r : RegName) (i j : Nat) (w : BarAcc) (s : State), Reaches s r i w j → r.ownRow = false → r.shadowUnit = none →
    Gives (.registerWrite r i w) s fun t =>
      t = { s with regs := t.regs } ∧
      (∀ f ∈ r.fields, ownRow f = false → s.frozenField f j = false →
        ((f.acc = .RO ∨ f.acc = .WO) → t.get f j = s.get f j) ∧
        (w.touches f = false → t.get f j = s.get f j) ∧
        (w.touches f = true → (f.acc = .RW ∨ f.acc = .RWS ∨ (f.acc = .RWL ∧ s.setupLocked = false)) →
          t.get f j = clampField f (w.merge f (s.get f j)) % 2 ^ f.width) ∧
        (w.touches f = true → f.acc = .W1C → t.get f j = (s.get f j &&& (2 ^ f.width - 1 - w.bits f)) % 2 ^ f.width) ∧
        (f.acc = .RWL → s.setupLocked = true → t.get f j = s.get f j)) ∧
      KeepsRegs (F.HUB_SETUP_LOCK_blocked_writes.key 0 :: r.fields.map fun f => f.key j) s t

/-- A write that is not an aligned access of 4 or 8 bytes changes nothing but the count of bad accesses; one to a register the
hub does not answer for, or that the function does not hold, changes nothing (R189, R191).
SETUP_LOCK_WRITE: writing 1 sets the lock, and no write clears it; with the lock set, a write that reaches an RWL field leaves
it as it was and is counted. -/
def Obligations.RegisterWriteRefused : Prop :=
  (∀ (r : RegName) (i : Nat) (w : BarAcc) (s : State),
    (s.hubUp = true → w.aligned = false → Gives (.registerWrite r i w) s fun t =>
      OnlyRegs [F.HUB_SETUP_LOCK_bad_accesses.key 0] s t ∧
      t.get F.HUB_SETUP_LOCK_bad_accesses 0 = min (2 ^ 16 - 1) (s.get F.HUB_SETUP_LOCK_bad_accesses 0 + 1)) ∧
    (s.hubUp = false → exec (.registerWrite r i w) s = .next s) ∧
    (s.regIx r w.fn i = none → w.aligned = true → exec (.registerWrite r i w) s = .next s)) ∧
  ((∀ (w : BarAcc) (s : State), Reaches s .HUB_SETUP_LOCK 0 w 0 → w.touches F.HUB_SETUP_LOCK_locked = true →
    w.bits F.HUB_SETUP_LOCK_locked = 1 → Gives (.setupLockWrite w) s fun t =>
      t.setupLocked = true ∧ t = { s with regs := t.regs, mgmt := t.mgmt, log := t.log }) ∧
  (∀ (w : BarAcc) (s t : State), s.setupLocked = true → exec (.setupLockWrite w) s = .next t → t.setupLocked = true) ∧
  (∀ (r : RegName) (i j : Nat) (w : BarAcc) (s : State) (f : Fld), Reaches s r i w j → r.ownRow = false → r.shadowUnit = none →
    f ∈ r.fields → f.acc = .RWL → w.touches f = true → s.setupLocked = true → Gives (.registerWrite r i w) s fun t =>
      t.get f j = s.get f j ∧
      t.get F.HUB_SETUP_LOCK_blocked_writes 0 = min (2 ^ 16 - 1) (s.get F.HUB_SETUP_LOCK_blocked_writes 0 + 1)))

/-! ## Clocks and time (chapter 02) -/

/-- ARRAY_CLK_CEILING_WRITE: the ceiling is the written value clamped to 600-2000 and rounded down to a multiple of 50.
ARRAY_CLOCK_STEP: a step down is 50 MHz and comes no sooner than 1 µs after the last; a step up is 50 MHz and never passes
the clock the device may run at (R46, R311). -/
def Obligations.ArrayClocks : Prop :=
  (∀ (c : Fin 4) (j : Nat) (w : BarAcc) (s : State), Reaches s .HUB_ARRAY_CLK c w j → w.touches F.HUB_ARRAY_CLK_ceiling_mhz = true →
    let v := w.merge F.HUB_ARRAY_CLK_ceiling_mhz (s.get F.HUB_ARRAY_CLK_ceiling_mhz j)
    Gives (.arrayClkCeilingWrite c w) s fun t =>
      t.get F.HUB_ARRAY_CLK_ceiling_mhz j = max 600 (min 2000 v) / 50 * 50 ∧
      OnlyRegs [F.HUB_ARRAY_CLK_ceiling_mhz.key j] s t) ∧
  (∀ (c : Fin 4) (s : State), 50 ≤ s.get F.HUB_ARRAY_CLK_current_mhz c → s.get F.HUB_ARRAY_CLK_current_mhz c ≤ 2000 →
    (s.clockFalls c = true → Gives (.arrayClockStep c false) s fun t =>
      t.get F.HUB_ARRAY_CLK_current_mhz c = s.get F.HUB_ARRAY_CLK_current_mhz c - 50 ∧
      SMap.get 0 s.pwr.stepAt c + 1000 ≤ t.time) ∧
    (∀ t, exec (.arrayClockStep c true) s = .next t →
      t.get F.HUB_ARRAY_CLK_current_mhz c = s.get F.HUB_ARRAY_CLK_current_mhz c ∨
      (t.get F.HUB_ARRAY_CLK_current_mhz c = s.get F.HUB_ARRAY_CLK_current_mhz c + 50 ∧
       s.get F.HUB_ARRAY_CLK_current_mhz c + 50 ≤ s.topClock c ∧ s.throttled c = false)) ∧
    (s.clockFalls c = false → exec (.arrayClockStep c false) s = .next s))

/-- DEVICE_TIME_LOW_READ: the read answers the low half of device time and latches the high half of the same value for the
function that reads; no other function's latch and nothing else changes (R49).
CALENDAR_SET_WRITE, PLDM_CALENDAR_SET and CALENDAR_SET_APPLY: the value asked for last waits for the crystal tick; there it
takes effect with the valid flag set, and one log record holds the old value, the new value and the source. A 4-byte write
sets nothing (R51; the source code of its log record is the model's, log entry 7). -/
def Obligations.TimeAndCalendar : Prop :=
  (∀ (fn : Fin 16) (s : State), s.hubUp = true → Gives (.deviceTimeLowRead fn) s fun t =>
    t.out = .readData fn (s.time % 2 ^ 32) false :: s.out ∧
    t.get F.HUB_DEVICE_TIME_HI_high fn = s.time / 2 ^ 32 % 2 ^ 32 ∧
    t = { s with regs := t.regs, out := t.out } ∧ KeepsRegs [F.HUB_DEVICE_TIME_HI_high.key fn] s t) ∧
  ((∀ (w : BarAcc) (s : State), Reaches s .HUB_CALENDAR_SET 0 w 0 → w.size = 8 → Gives (.calendarSetWrite w) s fun t =>
    t = { s with cal := t.cal } ∧ t.cal.value = s.cal.value ∧
    t.cal.pending = some ({ valid := true, seconds := w.bits F.HUB_CALENDAR_SET_seconds % 2 ^ 48,
                            fraction := w.bits F.HUB_CALENDAR_SET_fraction % 2 ^ 15 }, .register)) ∧
  (∀ (w : BarAcc) (s : State), Reaches s .HUB_CALENDAR_SET 0 w 0 → w.size = 4 → Gives (.calendarSetWrite w) s fun t =>
    t = { s with log := t.log, regs := t.regs }) ∧
  (∀ (sec : BitVec 48) (frac : BitVec 15) (s : State), s.mgmtUp = true → s.romServes = false →
    Gives (.pldmCalendarSet sec frac) s fun t =>
      t = { s with cal := t.cal } ∧ t.cal.value = s.cal.value ∧
      t.cal.pending = some ({ valid := true, seconds := sec.toNat, fraction := frac.toNat }, .i3c)) ∧
  (∀ (v : Calendar) (src : CalSource) (s : State), s.cal.pending = some (v, src) → s.log.staged.length < 8192 →
    Gives .calendarSetApply s fun t =>
      t.cal.value = v ∧ t.cal.at_ = t.time ∧ t.cal.pending = none ∧ s.time ≤ t.time ∧
      (∃ e, t.log.staged = s.log.staged ++ [e] ∧ e.seq = s.log.nextSeq ∧
        e.body = .event 0x000B 0 [(s.due s.nextCalTick).calNow.word, v.word, src.code]) ∧
      t = { s with time := t.time, cal := t.cal, log := t.log, regs := t.regs }))

/-! ## Queues, completion rings, sync objects (chapter 07) -/

/-- QUEUE_ENABLE and CQ_ENABLE: a write that sets enable either enables the queue or ring with head, tail, position and error
fields at 0, or is refused with the state or flag that says so.
QUEUE_DISABLE and CQ_DISABLE: enable reads 0 afterwards; a queue keeps the descriptors it has dispatched, drops those it has
only fetched, and reads disabled at once when none is left.
DOORBELL: before ready it is counted and has no other effect; on a running queue a tail within the ring that lies at or past
the accepted one is taken, and any other puts the queue in error with cause overrun; a queue that is neither running nor halted
by a stop ignores it (R35, R197).
QUEUE_RESUME, QUEUE_SET_HEAD and CQ_HEAD_WRITE: a halted queue runs again, from its own head or from a new head between
halt_index + 1 and tail in ring order; a completion ring's head advances only within the records posted; any other value
changes nothing but, for a ring, the count of bad accesses (R202, R203). -/
def Obligations.QueueControl : Prop :=
  ((∀ (n : Fin 65536) (j : Nat) (w : BarAcc) (s : State), Reaches s .HUB_Q_CFG n w j → s.isSet F.HUB_Q_CFG_enable j = false →
    s.after w F.HUB_Q_CFG_enable j ≠ 0 →
    let u := s.writeReg .HUB_Q_CFG j w
    (u.enableRefused j = true → Gives (.queueEnable n w) s fun t =>
      t.get F.HUB_Q_STAT_state j = 3 ∧ t.get F.HUB_Q_STAT_error_cause j = 1 ∧ t.get F.HUB_Q_CFG_enable j = 0 ∧
      t = { s with regs := t.regs }) ∧
    (u.enableRefused j = false → Gives (.queueEnable n w) s fun t =>
      t.get F.HUB_Q_CFG_enable j = 1 ∧ t.get F.HUB_Q_STAT_state j = 1 ∧ t.get F.HUB_Q_STAT_head j = 0 ∧
      t.get F.HUB_Q_STAT_tail j = 0 ∧ t.queue j = {} ∧ (∀ m, m ≠ j → t.queue m = s.queue m) ∧
      t = { s with regs := t.regs, queues := t.queues })) ∧
  (∀ (n : Fin 65536) (j : Nat) (w : BarAcc) (s : State), Reaches s .HUB_CQ_CFG n w j → s.isSet F.HUB_CQ_CFG_enable j = false →
    s.after w F.HUB_CQ_CFG_enable j ≠ 0 →
    let u := s.writeReg .HUB_CQ_CFG j w
    (u.cqRefused j = true → Gives (.cqEnable n w) s fun t =>
      t.get F.HUB_CQ_STAT_enable_refused j = 1 ∧ t.get F.HUB_CQ_CFG_enable j = 0 ∧ t = { s with regs := t.regs }) ∧
    (u.cqRefused j = false → Gives (.cqEnable n w) s fun t =>
      t.get F.HUB_CQ_CFG_enable j = 1 ∧ t.get F.HUB_CQ_STAT_enable_refused j = 0 ∧ t.get F.HUB_CQ_STAT_position j = 0 ∧
      t.get F.HUB_CQ_STAT_head j = 0 ∧ (t.ring j).phase = true ∧ t.ring j = {} ∧
      t = { s with regs := t.regs, rings := t.rings }))) ∧
  ((∀ (n : Fin 65536) (j : Nat) (w : BarAcc) (s : State), Reaches s .HUB_Q_CFG n w j → s.isSet F.HUB_Q_CFG_enable j = true →
    w.touches F.HUB_Q_CFG_enable = true → s.after w F.HUB_Q_CFG_enable j = 0 → Gives (.queueDisable n w) s fun t =>
      t.get F.HUB_Q_CFG_enable j = 0 ∧ (t.queue j).ents = (s.queue j).ents.filter (fun e => e.phase != .fetched) ∧
      (t.queue j).reading = none ∧ ((t.queue j).ents = [] → t.get F.HUB_Q_STAT_state j = 0) ∧
      (∀ m, m ≠ j → t.queue m = s.queue m) ∧ t = { s with regs := t.regs, queues := t.queues }) ∧
  (∀ (n : Fin 65536) (j : Nat) (w : BarAcc) (s : State), Reaches s .HUB_CQ_CFG n w j → s.isSet F.HUB_CQ_CFG_enable j = true →
    w.touches F.HUB_CQ_CFG_enable = true → s.after w F.HUB_CQ_CFG_enable j = 0 → Gives (.cqDisable n w) s fun t =>
      t.get F.HUB_CQ_CFG_enable j = 0 ∧ OnlyRegs [F.HUB_CQ_CFG_enable.key j] s t)) ∧
  (∀ (n : Fin 65536) (w : BarAcc) (s : State),
    (s.boot.phase ≠ .ready → Gives (.doorbell n w) s fun t =>
      t.get F.HUB_EARLY_DOORBELLS_count 0 = min (2 ^ 16 - 1) (s.get F.HUB_EARLY_DOORBELLS_count 0 + 1) ∧
      OnlyRegs [F.HUB_EARLY_DOORBELLS_count.key 0] s t) ∧
    (s.boot.phase = .ready → s.hubUp = true → w.off = 0 → w.size = 8 → ∀ j, s.queueIx w.fn n = some j → w.value.toNat < 2 ^ 16 →
      let size := s.ringSize j
      let old := s.oldestIx j
      let new := w.value.toNat
      let acc := ringDist size old (s.get F.HUB_Q_STAT_tail j)
      (s.takesDoorbell j = false → exec (.doorbell n w) s = .next s) ∧
      (s.takesDoorbell j = true → new < size ∧ acc ≤ ringDist size old new → Gives (.doorbell n w) s fun t =>
        t.get F.HUB_Q_STAT_tail j = new ∧ (t.queue j).accepted = (s.queue j).accepted + (ringDist size old new - acc) ∧
        (t.queue j).ents = (s.queue j).ents ∧ t = { s with regs := t.regs, queues := t.queues } ∧
        KeepsRegs [F.HUB_Q_STAT_tail.key j] s t) ∧
      (s.takesDoorbell j = true → ¬(new < size ∧ acc ≤ ringDist size old new) → Gives (.doorbell n w) s fun t =>
        t.get F.HUB_Q_STAT_state j = 3 ∧ t.get F.HUB_Q_STAT_error_cause j = 2 ∧
        t = { s with regs := t.regs, out := t.out } ∧
        KeepsRegs [F.HUB_Q_STAT_state.key j, F.HUB_Q_STAT_error_cause.key j] s t))) ∧
  ((∀ (n : Fin 65536) (j : Nat) (w : BarAcc) (s : State), Reaches s .HUB_Q_CTRL n w j → w.bits F.HUB_Q_CTRL_resume = 1 →
    s.get F.HUB_Q_STAT_state j = 2 → s.stopActive = false →
    (w.bits F.HUB_Q_CTRL_set_head = 0 → Gives (.queueResume n w) s fun t =>
      t.get F.HUB_Q_STAT_state j = 1 ∧ (t.queue j).ents = (s.queue j).ents ∧
      t = { s with regs := t.regs, queues := t.queues } ∧ KeepsRegs [F.HUB_Q_STAT_state.key j] s t) ∧
    (w.bits F.HUB_Q_CTRL_set_head = 1 →
      let size := s.ringSize j
      let h := w.bits F.HUB_Q_CTRL_new_head
      let lo := (s.get F.HUB_Q_STAT_halt_index j + 1) % size
      (h < size ∧ ringDist size lo h ≤ ringDist size lo (s.get F.HUB_Q_STAT_tail j) → Gives (.queueSetHead n w) s fun t =>
        t.get F.HUB_Q_STAT_state j = 1 ∧ t.get F.HUB_Q_STAT_head j = h ∧
        t = { s with regs := t.regs, queues := t.queues } ∧
        KeepsRegs [F.HUB_Q_STAT_state.key j, F.HUB_Q_STAT_head.key j] s t) ∧
      (¬(h < size ∧ ringDist size lo h ≤ ringDist size lo (s.get F.HUB_Q_STAT_tail j)) →
        exec (.queueSetHead n w) s = .next s))) ∧
  (∀ (n : Fin 65536) (j : Nat) (w : BarAcc) (s : State), s.boot.phase = .ready → s.hubUp = true → w.off = 8 → w.size = 8 →
    s.ringIx w.fn n = some j →
    let size := s.cqSize j
    let h := w.value.toNat % 2 ^ 16
    let cur := s.get F.HUB_CQ_STAT_head j
    (h < size ∧ ringDist size cur h ≤ ringDist size cur (s.get F.HUB_CQ_STAT_position j) → Gives (.cqHeadWrite n w) s fun t =>
      t.get F.HUB_CQ_STAT_head j = h ∧ t = { s with regs := t.regs, rings := t.rings } ∧
      KeepsRegs [F.HUB_CQ_STAT_head.key j] s t) ∧
    (¬(h < size ∧ ringDist size cur h ≤ ringDist size cur (s.get F.HUB_CQ_STAT_position j)) → Gives (.cqHeadWrite n w) s fun t =>
      OnlyRegs [F.HUB_SETUP_LOCK_bad_accesses.key 0] s t)) ∧
  (∀ (n : Fin 65536) (j : Nat) (w : BarAcc) (s : State), s.boot.phase = .ready → s.hubUp = true → w.off = 8 → w.size ≠ 8 →
    s.ringIx w.fn n = some j → Gives (.cqHeadWrite n w) s fun t => OnlyRegs [F.HUB_SETUP_LOCK_bad_accesses.key 0] s t))

/-- DESCRIPTOR_FETCH and DESCRIPTOR_READ_DONE: the fetch asks the host for at most 8 descriptors of the queue served next, from
its head, and moves the head past them; the read's end holds them in ring order; a failed read puts the queue in error with cause 3
(R199).
DESCRIPTOR_DISPATCH: the next descriptor of a running queue, with no fence against it, goes to its unit when it passes the checks
and its wait is satisfied; one that fails them ends with E_FORMAT and the offset of the field, without execution; the first in ring
order goes first (R199, R200). -/
def Obligations.DescriptorFetchAndDispatch : Prop :=
  ((∀ (s : State) (n : Nat), s.mayFetch = true → s.pickQueue = some n →
    let size := s.ringSize n
    let head := s.get F.HUB_Q_STAT_head n
    let cnt := min 8 (min (ringDist size head (s.get F.HUB_Q_STAT_tail n)) (size - head))
    Gives .descriptorFetch s fun t =>
      t.out = .hostRead n (s.get F.HUB_Q_BASE_base n * 4096 + 64 * head) (64 * cnt) :: s.out ∧
      (t.queue n).reading = some (head, cnt) ∧ (t.queue n).ents = (s.queue n).ents ∧
      t.get F.HUB_Q_STAT_head n = (head + cnt) % size % 2 ^ 16 ∧
      t = { s with regs := t.regs, queues := t.queues, served := t.served, out := t.out } ∧
      KeepsRegs [F.HUB_Q_STAT_head.key n] s t) ∧
  (∀ (s : State) (n : Fin 65536) (first cnt : Nat), (s.queue n).reading = some (first, cnt) →
    (∀ bs : List Byte, bs.length = 64 * cnt → (s.queue n).skip = [] → Gives (.descriptorReadDone n (some bs)) s fun t =>
      (t.queue n).reading = none ∧ (t.queue n).ents.length = (s.queue n).ents.length + cnt ∧
      (∀ k < cnt, ∃ e ∈ (t.queue n).ents, e.idx = (first + k) % s.ringSize n ∧ e.bytes = (bs.drop (64 * k)).take 64 ∧
        e.phase = .fetched ∧ e.result = none) ∧
      t = { s with queues := t.queues }) ∧
    Gives (.descriptorReadDone n none) s fun t =>
      (t.queue n).reading = none ∧ t.get F.HUB_Q_STAT_state n = 3 ∧ t.get F.HUB_Q_STAT_error_cause n = 3 ∧
      t = { s with regs := t.regs, queues := t.queues })) ∧
  (∀ (s : State) (n : Fin 65536) (e : QEnt) (rest : List QEnt), s.get F.HUB_Q_STAT_state n = 1 → s.quiescing = false →
    s.stopActive = false → s.unitFrozen 0x10 = false → (s.queue n).ents = e :: rest → e.phase = .fetched → e.flag 0 = false →
    (s.queue n).inFlight < 64 → e.result = none →
    let same (t : State) : Prop :=
      t.order = s.order + 1 ∧ t.time = s.time ∧ t.out = s.out ∧ t.mem = s.mem ∧ t.spad = s.spad ∧ t.hubsp = s.hubsp
    (s.descFault n e.bytes = none → (fieldAt e.bytes 4 4 = 0xFFFFFFFF ∨ fieldAt e.bytes 8 8 ≤ s.syncVal (fieldAt e.bytes 4 4)) →
      Gives (.descriptorDispatch n) s fun t =>
        (∃ e', (t.queue n).ents.head? = some e' ∧ e'.phase = .dispatched ∧ e'.idx = e.idx ∧ e'.bytes = e.bytes ∧
          e'.ctx = s.ctxOf e.ctxId ∧ e'.since = s.time) ∧ same t) ∧
    (∀ d, s.descFault n e.bytes = some d → Gives (.descriptorDispatch n) s fun t =>
      (∃ e', (t.queue n).ents.head? = some e' ∧ e'.phase = .ended ∧ e'.result = some ⟨.eFormat, d⟩ ∧ e'.idx = e.idx ∧
        e'.bytes = e.bytes) ∧ same t))

/-- DESCRIPTOR_COMPLETE: work that has ended posts its 16-byte record in the ring's next slot and the position moves on; with the
ring full but for one slot the writer waits: the ring is marked stalled and no record is posted; work that has not ended is left
as it is (R201, R203).
CQ_STALL_TIMEOUT, INTERRUPT_MODERATION_EXPIRE and RECORD_HINT_EXPIRE: a ring full for 1 ms sends the PF's vector 0; mod_us
after the first pending record the ring's own vector is sent and none is pending; records held under hint are written to the
host after 1 µs, oldest first (R203, R204). -/
def Obligations.DescriptorCompletion : Prop :=
  (∀ (s : State) (n idx : Fin 65536) (e : QEnt) (r : Result), (s.queue n).ent idx = some e → e.result = some r →
    let cq := s.get F.HUB_Q_CFG_cq n
    (e.phase ≠ .ended → exec (.descriptorComplete n idx) s = .next s) ∧
    (e.phase = .ended → s.targetsGone e = true → s.rst.keepers = false → s.unitFrozen 0x11 = false →
      s.isSet F.HUB_CQ_CFG_enable cq = true → s.cqFull cq = true → Gives (.descriptorComplete n idx) s fun t =>
        t.get F.HUB_CQ_STAT_stalled cq = 1 ∧ (t.ring cq).stalledSince ≠ 0 ∧
        t = { s with regs := t.regs, rings := t.rings } ∧ KeepsRegs [F.HUB_CQ_STAT_stalled.key cq] s t) ∧
    (e.phase = .ended → s.targetsGone e = true → s.rst.keepers = false → s.unitFrozen 0x11 = false → s.host.up = true →
      s.isSet F.HUB_CQ_CFG_enable cq = true → s.cqFull cq = false → e.committed = none →
      (s.ring cq).held = [] → e.flag 1 = false → e.flag 2 = false → e.flag 3 = false → Gives (.descriptorComplete n idx) s fun t =>
        (∃ bytes, .hostWrite (s.get F.HUB_CQ_BASE_base cq * 4096 + 16 * s.get F.HUB_CQ_STAT_position cq) bytes ∈ t.out ∧
          bytes.length = 16) ∧
        t.get F.HUB_CQ_STAT_position cq = (s.get F.HUB_CQ_STAT_position cq + 1) % s.cqSize cq % 2 ^ 16)) ∧
  ((∀ (s : State) (n : Fin 65536), (s.ring n).stalledSince ≠ 0 → s.cqFull n = true → s.host.up = true →
    Gives (.cqStallTimeout n) s fun t =>
      t.out = .msix 0 0 :: s.out ∧ (s.ring n).stalledSince - 1 + 1000000 ≤ t.time ∧
      t = { s with rings := t.rings, time := t.time, out := t.out }) ∧
  (∀ (s : State) (n : Fin 65536), (s.ring n).pendInt ≠ 0 → s.get F.HUB_CQ_CFG_mod_us n ≠ 0 → s.host.up = true →
    Gives (.interruptModerationExpire n) s fun t =>
      t.out.head? = some (.msix (s.get F.HUB_CQ_CFG_function n) (s.get F.HUB_CQ_CFG_vector n)) ∧ (t.ring n).pendInt = 0 ∧
      (t.ring n).held = [] ∧ t = { s with rings := t.rings, time := t.time, out := t.out }) ∧
  (∀ (s : State) (n : Fin 65536), (s.ring n).held ≠ [] → s.host.up = true → Gives (.recordHintExpire n) s fun t =>
      t.out = ((s.ring n).held.map fun e => Out.hostWrite e.1 e.2).reverse ++ s.out ∧ (t.ring n).held = [] ∧
      (s.ring n).heldSince + 1000 ≤ t.time ∧ t = { s with rings := t.rings, time := t.time, out := t.out }))

/-- SYNC_OBJECT_WRITE, SYNC_SIGNAL, SYNC_WAIT and SYNC_WAIT_TIMEOUT: a set leaves the larger of the two values, an add the sum
modulo 2^64, and no other object changes; a wait ends with OK once its object holds its value, and with E_TIMEOUT at its limit;
a 4-byte write is ignored (R195, R205). -/
def Obligations.SyncObjects : Prop :=
  (∀ (s : State) (fn : Fin 16) (obj : Fin 262144) (v : BitVec 64), s.hubUp = true → s.ownsSync fn obj = true →
    s.syncVal obj < 2 ^ 64 → Gives (.syncObjectWrite fn obj 8 v) s fun t =>
      t.syncVal obj = max (s.syncVal obj) v.toNat ∧ (∀ o, o ≠ obj.val → t.syncVal o = s.syncVal o) ∧ t = { s with sync := t.sync }) ∧
  (∀ (s : State) (fn : Fin 16) (obj : Fin 262144) (v : BitVec 64), exec (.syncObjectWrite fn obj 4 v) s = .next s) ∧
  (∀ (s : State) (w : Work) (it : Item), s.fresh w 0x07 = some it →
    let obj := fieldAt it.payload 0 4
    let v := fieldAt it.payload 8 8
    (fieldAt it.payload 4 1 = 0 → Gives (.syncSignal w) s fun t =>
      t.syncVal obj = max (s.syncVal obj) v % 2 ^ 64 ∧ (∀ o, o ≠ obj → t.syncVal o = s.syncVal o) ∧ EndedAs s t w .ok 0 ∧
      t = { s with sync := t.sync, queues := t.queues, graphs := t.graphs }) ∧
    (fieldAt it.payload 4 1 = 1 → Gives (.syncSignal w) s fun t =>
      t.syncVal obj = (s.syncVal obj + v) % 2 ^ 64 ∧ (∀ o, o ≠ obj → t.syncVal o = s.syncVal o) ∧ EndedAs s t w .ok 0 ∧
      t = { s with sync := t.sync, queues := t.queues, graphs := t.graphs })) ∧
  (∀ (s : State) (w : Work) (it : Item), s.fresh w 0x08 = some it →
    (fieldAt it.payload 8 8 ≤ s.syncVal (fieldAt it.payload 0 4) → Gives (.syncWait w) s fun t =>
      EndedAs s t w .ok 0 ∧ t = { s with queues := t.queues, graphs := t.graphs }) ∧
    (s.syncVal (fieldAt it.payload 0 4) < fieldAt it.payload 8 8 → Gives (.syncWait w) s fun t =>
      t.item w = some { it with phase := .busy } ∧ t = { s with queues := t.queues, graphs := t.graphs })) ∧
  (∀ (s : State) (w : Work) (it : Item), s.running w 0x08 = some it → fieldAt it.payload 16 4 ≠ 0 →
    Gives (.syncWaitTimeout w) s fun t =>
      EndedAs s t w .eTimeout 0 ∧ it.since + fieldAt it.payload 16 4 * 1000 ≤ t.time ∧
      t = { s with time := t.time, queues := t.queues, graphs := t.graphs })

/-! ## Stream programs (chapter 05) -/

/-- EXEC_PROGRAM: a launch block of legal format, within its context's bounds, on quadrants whose partition is not switching, is
accepted: the launch waits on every quadrant of its mask and the work goes on at its unit; a bad format ends the work with
E_FORMAT and bounds outside the context with E_BOUNDS, and no launch is made.
PROGRAM_LAUNCH: an idle quadrant starts the first launch accepted that waits for it and that its gate admits: s1 and s2 hold the
block's arguments, s3 the quadrant, s4 its rank in the mask, s5 the mask's size, and control starts at the entry. An image that is not
resident is read first, out of another device by READs (R119, R120, R223, Table 5.1).
END and PROGRAM_END: END ends issue; once every instruction the program issued has completed, the quadrant gives its launch up
with the highest-ranked of its causes as status (R121, Table 5.3); until then PROGRAM_END changes nothing. -/
def Obligations.ProgramRuns : Prop :=
  (∀ (s : State) (w : Work) (it : Item), s.fresh w 0x01 = some it →
    let k := launchBlock it.payload
    (launchFormat it.payload = none → (∀ q ∈ maskQuads k.qmask, s.dieSwitching (q / 4) = false) → s.launchBounds it.ctx k = false →
      Gives (.execProgram w) s fun t =>
        (∃ l, t.launches = s.launches ++ [l] ∧ l.work = w ∧ l.block = k ∧ l.ctxId = it.ctxId ∧ l.waiting = maskQuads k.qmask ∧
          l.running = [] ∧ l.ended = []) ∧
        t.item w = some { it with phase := .busy } ∧
        t = { s with order := s.order + 1, launches := t.launches, queues := t.queues, graphs := t.graphs }) ∧
    (∀ d, launchFormat it.payload = some d → Gives (.execProgram w) s fun t =>
      EndedAs s t w .eFormat d ∧ t = { s with queues := t.queues, graphs := t.graphs }) ∧
    (launchFormat it.payload = none → (∀ q ∈ maskQuads k.qmask, s.dieSwitching (q / 4) = false) → s.launchBounds it.ctx k = true →
      Gives (.execProgram w) s fun t => EndedAs s t w .eBounds 0 ∧ t = { s with queues := t.queues, graphs := t.graphs })) ∧
  (∀ (s : State) (q : Fin 16) (l : Launch), s.quadFree q = true →
    (s.launches.find? fun l => l.waiting.contains q.val && s.gateOpen q l.ctxId) = some l →
    (∀ node off key, s.resident q l.block = false → s.memEnd l.block.image (16 * l.block.length) = .remote node off key →
      s.excludedNode node = false → (s.seq q).fetch = none → Gives (.programLaunch q) s fun t =>
        (t.seq q).launch = (s.seq q).launch ∧ (t.seq q).fetch = some (l.id, none) ∧
        (∃ o, t.fab.ops = s.fab.ops ++ [o] ∧ o.origin = .image q l.id ∧ o.code = 1 ∧ o.node = node ∧ o.off = off ∧ o.key = key ∧
          o.len = 16 * l.block.length) ∧ t = { s with seqs := t.seqs, fab := t.fab }) ∧
    ((s.resident q l.block = true ∨ ∃ a, s.memEnd l.block.image (16 * l.block.length) = .here (.mem a) ∧
      s.memHeld a (16 * l.block.length) = false ∧ (s.memRead a (16 * l.block.length)).poisoned = false) →
    Gives (.programLaunch q) s fun t =>
      (t.seq q).launch = some l.id ∧ (t.seq q).pc = l.block.entry ∧ (t.seq q).base = l.block.loadAt ∧
      (t.seq q).len = l.block.length ∧ t.sreg q 0 = 0 ∧ t.sreg q 1 = l.block.arg1 ∧ t.sreg q 2 = l.block.arg2 ∧ t.sreg q 3 = q ∧
      t.sreg q 4 = maskRank l.block.qmask q ∧ t.sreg q 5 = maskCount l.block.qmask ∧ (∀ r, 8 ≤ r → t.sreg q r = 0) ∧
      (t.seq q).loops = [] ∧ (t.seq q).ending = false ∧ (∀ k, k ≠ q.val → t.seq k = s.seq k) ∧
      t = { s with regs := t.regs, engines := t.engines, seqs := t.seqs, ibuf := t.ibuf, launches := t.launches })) ∧
  ((∀ (s : State) (q : Fin 16) (w : Nat), AtOp s q 0x01 w → Gives (.endProgram q) s fun t =>
    (t.seq q).ending = true ∧ (t.seq q).pc = (s.seq q).pc ∧ (t.seq q).launch = (s.seq q).launch ∧
    (∀ k, k ≠ q.val → t.seq k = s.seq k) ∧ t = { s with regs := t.regs, engines := t.engines, seqs := t.seqs }) ∧
  (∀ (s : State) (q : Fin 16) (id : Nat), (s.seq q).launch = some id → (s.seq q).ending = true → (s.seq q).issued = [] →
    s.quadHeld q = false → Gives (.programEnd q) s fun t =>
      (t.seq q).launch = none ∧ (t.seq q).ending = false ∧ t.get F.QD_SEQ_STAT_last_status q = (topStatus (s.seq q).causes).code ∧
      (t.seq q).tags = (s.seq q).tags ∧ (∀ k, k ≠ q.val → t.seq k = s.seq k) ∧ t.mem = s.mem ∧ t.spad = s.spad ∧ t.out = s.out) ∧
  (∀ (s : State) (q : Fin 16), (s.seq q).issued ≠ [] ∨ (s.seq q).ending = false → exec (.programEnd q) s = .next s))

/-- A word of reserved opcode, a word with a reserved field set, and issue past the last loaded instruction fault with E_FORMAT:
the fault is recorded with its index, the program issues nothing further, and no memory, scratchpad or array changes (R122, R123,
R129). Shown for NOP; every instruction issues through the same gate. -/
def Obligations.IssueFaults : Prop :=
  ∀ (s : State) (q : Fin 16), s.mayIssue q = true →
    ((s.seq q).len ≤ (s.seq q).pc ∨ opcodes.contains (slice (s.curWord q) 127 120) = false ∨
      (slice (s.curWord q) 127 120 = 0x00 ∧ wordReservedSet 0x00 (s.curWord q) = true)) →
    Gives (.nop q) s fun t =>
      (t.seq q).ending = true ∧ .eFormat ∈ (t.seq q).causes ∧ t.get F.QD_SEQ_STAT_fault_evt q = 1 ∧
      t.get F.QD_SEQ_STAT_fault_pc q = ((s.seq q).base + (s.seq q).pc) % 2 ^ 12 ∧
      t.get F.QD_SEQ_STAT_last_status q = Status.eFormat.code ∧ t.mayIssue q = false ∧
      t = { s with regs := t.regs, seqs := t.seqs }

/-- NOP, LI, ALU, ALUI and MOVLC: the destination register takes the result, s0 stays 0, no other scalar register changes, and
control passes on as R130 says.
SR_SEED_WRITE and SR_CTR_WRITE: a write of the seed sets it and clears the counter; a write of the counter sets the counter only
(R109). -/
def Obligations.ScalarResults : Prop :=
  ((∀ (s : State) (q : Fin 16) (w : Nat), AtOp s q 0x00 w → Gives (.nop q) s fun t => PassesOn s t q ∧ (t.seq q).sr = (s.seq q).sr) ∧
  (∀ (s : State) (q : Fin 16) (w : Nat), AtOp s q 0x42 w → Gives (.li q) s fun t =>
    PassesOn s t q ∧ SetsScalar s t q (slice w 119 115) (slice w 63 0)) ∧
  (∀ (s : State) (q : Fin 16) (w v : Nat), AtOp s q 0x40 w →
    aluFn (slice w 104 101) (s.sreg q (slice w 114 110)) (s.sreg q (slice w 109 105)) = some v → Gives (.alu q) s fun t =>
      PassesOn s t q ∧ SetsScalar s t q (slice w 119 115) v) ∧
  (∀ (s : State) (q : Fin 16) (w v : Nat), AtOp s q 0x41 w →
    aluFn (slice w 104 101) (s.sreg q (slice w 114 110)) (slice w 63 0) = some v → Gives (.alui q) s fun t =>
      PassesOn s t q ∧ SetsScalar s t q (slice w 119 115) v) ∧
  (∀ (s : State) (q : Fin 16) (w : Nat) (l : LoopLevel), AtOp s q 0x45 w → (s.seq q).loops[slice w 1 0]? = some l →
    Gives (.movlc q) s fun t => PassesOn s t q ∧ SetsScalar s t q (slice w 119 115) l.index)) ∧
  ((∀ (q : Fin 16) (j : Nat) (w : BarAcc) (s : State), Reaches s .QD_SR_SEED q w j → Gives (.srSeedWrite q w) s fun t =>
    t.get F.QD_SR_SEED_seed j = w.merge F.QD_SR_SEED_seed (s.get F.QD_SR_SEED_seed j) % 2 ^ 64 ∧ t.get F.QD_SR_CTR_counter j = 0 ∧
    OnlyRegs [F.QD_SR_SEED_seed.key j, F.QD_SR_CTR_counter.key j] s t) ∧
  (∀ (q : Fin 16) (j : Nat) (w : BarAcc) (s : State), Reaches s .QD_SR_CTR q w j → Gives (.srCtrWrite q w) s fun t =>
    t.get F.QD_SR_CTR_counter j = w.merge F.QD_SR_CTR_counter (s.get F.QD_SR_CTR_counter j) % 2 ^ 64 ∧
    OnlyRegs [F.QD_SR_CTR_counter.key j] s t))

/-- The ALU functions of Table 5.10 are the 64-bit operations they name. -/
def Obligations.AluMatches64Bit : Prop :=
  ∀ a b : BitVec 64,
    aluFn 0x0 a.toNat b.toNat = some (a + b).toNat ∧ aluFn 0x1 a.toNat b.toNat = some (a - b).toNat ∧
    aluFn 0x2 a.toNat b.toNat = some (a * b).toNat ∧ aluFn 0x3 a.toNat b.toNat = some (a &&& b).toNat ∧
    aluFn 0x4 a.toNat b.toNat = some (a ||| b).toNat ∧ aluFn 0x5 a.toNat b.toNat = some (a ^^^ b).toNat ∧
    aluFn 0x6 a.toNat b.toNat = some (a <<< (b.toNat % 64)).toNat ∧ aluFn 0x7 a.toNat b.toNat = some (a >>> (b.toNat % 64)).toNat ∧
    aluFn 0x8 a.toNat b.toNat = some (a.sshiftRight (b.toNat % 64)).toNat ∧
    aluFn 0x9 a.toNat b.toNat = some (if a ≤ b then a else b).toNat ∧
    aluFn 0xA a.toNat b.toNat = some (if a ≤ b then b else a).toNat ∧ (∀ c, 0xA < c → aluFn c a.toNat b.toNat = none)

/-- LD and ST: an aligned access within the scratchpad loads or stores 8 bytes, little-endian, and ST changes no other byte; a
misaligned one faults with E_FORMAT and one past the end with E_BOUNDS, and changes no byte (R124, R129).
BR and LOOP: a taken branch goes to its target and retires the loops whose bodies do not hold it; one not taken passes on; LOOP
enters a level that starts after it with its count less one to go; a count of 0 skips the body; a fifth level, an end that does
not lie after the LOOP or a target past the program faults with E_FORMAT (R129, R130).
WAIT_OBJ, WAIT_OBJ_WAKE, WAIT_TIMEOUT, WAIT_EV, SIGNAL_SET and SIGNAL_ADD: a wait whose object or counter has reached its value
passes on, any other holds issue until it has, or faults with E_TIMEOUT at its limit; a signal takes effect once every instruction
issued earlier has completed and is held until then (R133-R135). -/
def Obligations.ControlAndScalarMemory : Prop :=
  (∀ (s : State) (q : Fin 16) (w : Nat),
    let a := s.addrOf q (slice w 114 110) (slice w 63 0)
    (AtOp s q 0x43 w → a % 8 = 0 → a + 8 ≤ 2 ^ 25 →
      (s.spad.anyBad (spadKey q a) 8 = false → Gives (.ld q) s fun t =>
        PassesOn s t q ∧ SetsScalar s t q (slice w 119 115) (leNat (s.spad.read (spadKey q a) 8))) ∧
      (s.spad.anyBad (spadKey q a) 8 = true → Gives (.ld q) s fun t =>
        (t.seq q).pc = (loopNext (s.seq q).pc (s.seq q).loops).2 ∧ (∀ r, r ≠ slice w 119 115 → t.sreg q r = s.sreg q r) ∧
        t.spad = s.spad)) ∧
    (AtOp s q 0x44 w → a % 8 = 0 → a + 8 ≤ 2 ^ 25 → Gives (.st q) s fun t =>
      (t.seq q).pc = (loopNext (s.seq q).pc (s.seq q).loops).2 ∧ (t.seq q).sr = (s.seq q).sr ∧
      (∀ k < 8, t.spad.byte (spadKey q a + k) = (leBytes 8 (s.sreg q (slice w 109 105))).getD k 0) ∧
      (∀ j, j < spadKey q a ∨ spadKey q a + 8 ≤ j → t.spad.byte j = s.spad.byte j) ∧
      t = { s with regs := t.regs, engines := t.engines, seqs := t.seqs, spad := t.spad }) ∧
    (AtOp s q 0x43 w → a % 8 ≠ 0 → Gives (.ld q) s fun t => (t.seq q).ending = true ∧ .eFormat ∈ (t.seq q).causes ∧ t.spad = s.spad) ∧
    (AtOp s q 0x44 w → a % 8 ≠ 0 → Gives (.st q) s fun t => (t.seq q).ending = true ∧ .eFormat ∈ (t.seq q).causes ∧ t.spad = s.spad) ∧
    (AtOp s q 0x44 w → a % 8 = 0 → 2 ^ 25 < a + 8 → Gives (.st q) s fun t =>
      (t.seq q).ending = true ∧ .eBounds ∈ (t.seq q).causes ∧ t.spad = s.spad)) ∧
  ((∀ (s : State) (q : Fin 16) (w : Nat), AtOp s q 0x08 w → slice w 119 117 ≠ 7 → slice w 11 0 < (s.seq q).len →
    (branchTaken (slice w 119 117) (s.sreg q (slice w 116 112)) (s.sreg q (slice w 111 107)) = true → Gives (.br q) s fun t =>
      (t.seq q).pc = slice w 11 0 ∧ (t.seq q).sr = (s.seq q).sr ∧
      (∀ l ∈ (t.seq q).loops, l.first ≤ slice w 11 0 ∧ slice w 11 0 ≤ l.last) ∧ (t.seq q).loops <:+ (s.seq q).loops ∧
      t = { s with regs := t.regs, engines := t.engines, seqs := t.seqs }) ∧
    (branchTaken (slice w 119 117) (s.sreg q (slice w 116 112)) (s.sreg q (slice w 111 107)) = false → Gives (.br q) s fun t =>
      PassesOn s t q ∧ (t.seq q).sr = (s.seq q).sr)) ∧
  (∀ (s : State) (q : Fin 16) (w : Nat), AtOp s q 0x09 w →
    let e := slice w 11 0
    let n := if slice w 116 112 = 0 then slice w 63 32 else s.sreg q (slice w 116 112) % 2 ^ 32
    (n ≠ 0 → (s.seq q).pc < e → e < (s.seq q).len → (s.seq q).loops.length < 4 → Gives (.loop q) s fun t =>
      (t.seq q).loops = ⟨(s.seq q).pc + 1, e, n - 1, 0⟩ :: (s.seq q).loops ∧ (t.seq q).pc = (s.seq q).pc + 1 ∧
      t = { s with regs := t.regs, engines := t.engines, seqs := t.seqs }) ∧
    (n = 0 → (s.seq q).pc < e → e < (s.seq q).len → Gives (.loop q) s fun t =>
      (t.seq q).pc = (loopNext e (s.seq q).loops).2 ∧ (t.seq q).loops = (loopNext e (s.seq q).loops).1 ∧
      t = { s with regs := t.regs, engines := t.engines, seqs := t.seqs }) ∧
    (n ≠ 0 → 4 ≤ (s.seq q).loops.length → Gives (.loop q) s fun t =>
      (t.seq q).ending = true ∧ .eFormat ∈ (t.seq q).causes ∧ t = { s with regs := t.regs, seqs := t.seqs }))) ∧
  ((∀ (s : State) (q : Fin 16) (w : Nat), AtOp s q 0x38 w → (s.progCtx q).maySync (slice w 114 97) = true →
    (s.syncOperand q w ≤ s.syncVal (slice w 114 97) → Gives (.waitObj q) s fun t => PassesOn s t q) ∧
    (s.syncVal (slice w 114 97) < s.syncOperand q w → Gives (.waitObj q) s fun t =>
      (t.seq q).wait = .obj (slice w 114 97) (s.syncOperand q w) (slice w 92 77) s.time ∧ (t.seq q).pc = (s.seq q).pc ∧
      t.mayIssue q = false)) ∧
  (∀ (s : State) (q : Fin 16) (obj v us since : Nat), (s.seq q).wait = .obj obj v us since → s.quadStopped q = false →
    (v ≤ s.syncVal obj → Gives (.waitObjWake q) s fun t => PassesOn s t q) ∧
    (s.syncVal obj < v → exec (.waitObjWake q) s = .next s) ∧
    (us ≠ 0 → (s.seq q).launch ≠ none → Gives (.waitTimeout q) s fun t =>
      (t.seq q).ending = true ∧ .eTimeout ∈ (t.seq q).causes ∧ since + us * 1000 ≤ t.time ∧ (t.seq q).wait = .none) ∧
    (us = 0 → exec (.waitTimeout q) s = .next s)) ∧
  (∀ (s : State) (q : Fin 16) (w : Nat), AtOp s q 0x39 w →
    (evReached ((s.seq q).evVal (slice w 96 93)) (s.syncOperand q w % 2 ^ 32) = true → Gives (.waitEv q) s fun t => PassesOn s t q) ∧
    (evReached ((s.seq q).evVal (slice w 96 93)) (s.syncOperand q w % 2 ^ 32) = false → Gives (.waitEv q) s fun t =>
      (t.seq q).wait = .ev (slice w 96 93) (s.syncOperand q w % 2 ^ 32) ∧ (t.seq q).pc = (s.seq q).pc ∧ t.mayIssue q = false)) ∧
  (∀ (s : State) (q : Fin 16) (w : Nat), (s.progCtx q).maySync (slice w 114 97) = true → (s.seq q).issued = [] →
    (AtOp s q 0x3A w → Gives (.signalSet q) s fun t =>
      t.syncVal (slice w 114 97) = max (s.syncVal (slice w 114 97)) (s.syncOperand q w) % 2 ^ 64 ∧
      (∀ o, o ≠ slice w 114 97 → t.syncVal o = s.syncVal o) ∧ (t.seq q).pc = (loopNext (s.seq q).pc (s.seq q).loops).2) ∧
    (AtOp s q 0x3B w → Gives (.signalAdd q) s fun t =>
      t.syncVal (slice w 114 97) = (s.syncVal (slice w 114 97) + s.syncOperand q w) % 2 ^ 64 ∧
      (∀ o, o ≠ slice w 114 97 → t.syncVal o = s.syncVal o) ∧ (t.seq q).pc = (loopNext (s.seq q).pc (s.seq q).loops).2)) ∧
  (∀ (s : State) (q : Fin 16) (w : Nat), (s.progCtx q).maySync (slice w 114 97) = true → (s.seq q).issued ≠ [] →
    (AtOp s q 0x3A w → exec (.signalSet q) s = .next s) ∧ (AtOp s q 0x3B w → exec (.signalAdd q) s = .next s)))

/-- SLOAD, WSTREAM, ACC_INIT, ACC_DRAIN and LAMP on array i of the quadrant, alone in the range, with room in its queue and no fault
of format or bounds: the instruction is issued, its operation stands in the array's queue or has been started, and no scratchpad,
accumulator or memory changes; with the queue full of 16, issue holds (R131, R132). -/
def Obligations.ArrayInstructionsIssue : Prop :=
  ∀ (s : State) (q : Fin 16) (w i : Nat), wordArrays w = (i, 1) → i < 64 →
    (16 ≤ (s.arr (64 * q + i)).queue.length →
      (AtOp s q 0x20 w → exec (.accInit q) s = .next s) ∧
      (AtOp s q 0x48 w → slice w 107 104 ≤ 2 → (slice w 107 104 = 0 → slice w 103 72 = 0) → exec (.lamp q) s = .next s)) ∧
    ((s.arr (64 * q + i)).queue.length < 16 →
      (AtOp s q 0x20 w → Gives (.accInit q) s fun t =>
        Issues s t q ∧
        ((∃ d, d.id = (s.seq q).nextId ∧ d.first = slice w 99 90 ∧ d.count = slice w 89 80 + 1 ∧
          (.init d ∈ (t.arr (64 * q + i)).queue ∨ d ∈ (t.arr (64 * q + i)).inits)))) ∧
      (AtOp s q 0x48 w → slice w 107 104 ≤ 2 → (slice w 107 104 = 0 → slice w 103 72 = 0) → Gives (.lamp q) s fun t =>
        (t.seq q).pc = (loopNext (s.seq q).pc (s.seq q).loops).2 ∧ t.acc = s.acc ∧ t.spad = s.spad ∧ t.mem = s.mem ∧
        (t.arr (64 * q + i)).cols = (s.arr (64 * q + i)).cols) ∧
      (AtOp s q 0x10 w →
        let fmt := slice w 107 103
        let red := slice w 95 88 + 1
        let e0 := s.addrOf q (slice w 87 83) (slice w 47 24)
        isTileFmt fmt = true → isBlock fmt = false → bitAt w 101 = false → red ≤ deepest fmt false →
        (∀ m ≤ slice w 100 96, inSpad ((e0 + m * (if slice w 63 48 = 0 then rowBytes fmt red else slice w 63 48)) % 2 ^ 64)
          (rowBytes fmt red) = true) →
        Gives (.sload q) s fun t =>
          Issues s t q ∧
          (∃ x, x.id = (s.seq q).nextId ∧ x.fmt = fmt ∧ x.red = red ∧ x.rows = [slice w 100 96 + 1] ∧
            (if bitAt w 102 then (t.arr (64 * q + i)).infoB else (t.arr (64 * q + i)).infoA) = some x)) ∧
      (∀ l, AtOp s q 0x18 w →
        (if bitAt w 101 then (s.arr (64 * q + i)).infoB else (s.arr (64 * q + i)).infoA) = some l →
        let fmt := slice w 107 103
        let b := s.addrOf q (slice w 89 85) (slice w 47 0)
        let n := s.sreg q (slice w 84 80) % 2 ^ 32
        streamRefused fmt (bitAt w 102) (slice w 71 48) (some l) = false → l.quarter = false → b % 2048 = 0 → 0 < n →
        let len := streamBytes fmt false [n] (slice w 71 48)
        s.copyEndOk (s.progCtx q) 0 b len false = true →
        let starts (t : State) (x : Stream) : Prop := x.id = (s.seq q).nextId ∧ x.fmt = fmt ∧ x.tile = l.id ∧ x.counts = [n] ∧
          (.stream x ∈ (t.arr (64 * q + i)).queue ∨ (t.arr (64 * q + i)).stream = some x)
        (∀ a, s.memEnd b len = .here (.mem a) → Gives (.wstream q) s fun t =>
          Issues s t q ∧ ∃ x, starts t x ∧ x.base = a ∧ x.remote = false) ∧
        (∀ node off key, s.memEnd b len = .remote node off key → s.excludedNode node = false → Gives (.wstream q) s fun t =>
          Issues s { t with fab := s.fab } q ∧ ∃ x, starts t x ∧ x.remote = true ∧ x.data = none ∧
            ∃ o, t.fab.ops = s.fab.ops ++ [o] ∧ o.origin = .stream (64 * q + i) x.id ∧ o.code = 1 ∧ o.node = node ∧ o.off = off ∧
              o.key = key ∧ o.len = len)) ∧
      (AtOp s q 0x21 w →
        let fmt := slice w 107 103
        let n := slice w 89 80 + 1
        let d0 := s.addrOf q (slice w 79 75) (slice w 39 16)
        isTarget fmt = true → isBlock fmt = false → slice w 64 60 + slice w 59 55 + 1 ≤ 32 →
        (∀ m ≤ slice w 59 55, inSpad ((d0 + m * slice w 54 40) % 2 ^ 64) (rowBytes fmt n) = true) → Gives (.accDrain q) s fun t =>
          Issues s t q ∧
          (∃ d, d.id = (s.seq q).nextId ∧ d.fmt = fmt ∧ d.count = n ∧ d.dst = d0 % 2 ^ 64 ∧
            (.drain d ∈ (t.arr (64 * q + i)).queue ∨ ∃ a u, { d with active := a, dual := u } ∈ (t.arr (64 * q + i)).drains)) ∧
          t.get F.QD_SR_CTR_counter q = (if bitAt w 102 then (s.get F.QD_SR_CTR_counter q + 2097152) % 2 ^ 64
            else s.get F.QD_SR_CTR_counter q)))

/-- MXINT8 (format code 0x0B): every element code from -128 to 127 decodes to its value in units of 2^-6, and the conversion of a block
produces no element code but those of -127 to 127, whatever the values and the rounding. -/
def Obligations.Mxint8Codes : Prop :=
  (∀ c < 256, (decodeElem 11 c).units (-6) = signed 8 c) ∧
  (∀ (rd : Nat → Rounding) (xs : List Machine.Num), ∀ c ∈ (blockOut 11 rd xs).codes, c < 256 ∧ -127 ≤ signed 8 c ∧ signed 8 c ≤ 127)

/-- VLOAD, VSTORE, VOP, VRED and VTOPK, on operands of legal format and within the scratchpad, with room in the engine's queue of 32:
each result lands in the registers, bytes or top-k buffer that its row of Table 5.6 names, the instruction stands in the engine's
queue, and control passes on; lanes, registers and bytes outside the destination keep their values (R136, R137). -/
def Obligations.VectorResults : Prop :=
  ∀ (s : State) (q : Fin 16) (w : Nat), (s.seq q).vq.length < 32 →
    let n := slice w 81 72 + 1
    let vd := slice w 119 116
    let va := slice w 115 112
    let lane (u : State) (r k : Nat) := SMap.get 0 u.vreg ((q.val * 16 + r) * 1024 + k)
    let others (t : State) (r : Nat) := ∀ k, k < (q.val * 16 + r) * 1024 ∨ (q.val * 16 + r + 1) * 1024 ≤ k → SMap.get 0 t.vreg k = SMap.get 0 s.vreg k
    (AtOp s q 0x28 w → s.vecMem q w = none → isBlock (slice w 98 94) = false →
      let a := spadKey q (s.addrOf q (slice w 103 99) (slice w 63 40))
      let bytes := s.spad.read a (rowBytes (slice w 98 94) n)
      (s.spad.readOut a (rowBytes (slice w 98 94) n)).poisoned = false → Gives (.vload q) s fun t =>
        VecIssued s t q ∧ (∀ k < n, lane t vd k = toF32 (rowElem (slice w 98 94) bytes [] k)) ∧ others t vd ∧ t.spad = s.spad) ∧
    (AtOp s q 0x29 w → s.vecMem q w = none → isBlock (slice w 98 94) = false →
      let a := spadKey q (s.addrOf q (slice w 103 99) (slice w 63 40))
      Gives (.vstore q) s fun t =>
        VecIssued s t q ∧ t.vreg = s.vreg ∧
        (∀ j, j < a ∨ a + rowBytes (slice w 98 94) n ≤ j → t.spad.byte j = s.spad.byte j) ∧ t.mem = s.mem ∧ t.hubsp = s.hubsp) ∧
    (AtOp s q 0x2A w → slice w 83 82 = 0 →
      (slice w 86 84 = 0 → Gives (.vop q) s fun t =>
        VecIssued s t q ∧ others t vd ∧ t.spad = s.spad ∧
        ∀ k < n, lane t vd k = fmaF32 (lane s va k) (lane s (slice w 111 108) k) (lane s (slice w 107 104) k)) ∧
      (slice w 86 84 = 1 → Gives (.vop q) s fun t =>
        VecIssued s t q ∧ others t vd ∧ t.spad = s.spad ∧ ∀ k < n, lane t vd k = maxF32 (lane s va k) (lane s (slice w 111 108) k)) ∧
      (2 ≤ slice w 86 84 → slice w 86 84 ≤ 5 → Gives (.vop q) s fun t =>
        VecIssued s t q ∧ others t vd ∧ t.spad = s.spad ∧ (∀ k, n ≤ k → k < 1024 → lane t vd k = lane s vd k))) ∧
    (AtOp s q 0x2B w →
      (slice w 86 84 = 0 → Gives (.vred q) s fun t =>
        VecIssued s t q ∧ others t vd ∧ t.spad = s.spad ∧ ∀ k < 1024, lane t vd k = reduceLanes addF32 (s.lanes q va n)) ∧
      (slice w 86 84 = 1 → Gives (.vred q) s fun t =>
        VecIssued s t q ∧ others t vd ∧ t.spad = s.spad ∧ ∀ k < 1024, lane t vd k = reduceLanes maxF32 (s.lanes q va n))) ∧
    (AtOp s q 0x2C w →
      (slice w 86 84 = 0 → Gives (.vtopk q) s fun t =>
        VecIssued s t q ∧ t.vreg = s.vreg ∧ (t.seq q).topkSize = (s.seq q).topkSize ∧
        (t.seq q).topk = topMerge (s.seq q).topkSize (s.seq q).topk
          ((s.lanes q va n).zip ((List.range n).map fun l => (slice w 31 0 + l) % 2 ^ 32))) ∧
      (slice w 86 84 = 2 → 0 < slice w 39 32 → slice w 39 32 ≤ 64 → Gives (.vtopk q) s fun t =>
        VecIssued s t q ∧ t.vreg = s.vreg ∧ (t.seq q).topk = [] ∧ (t.seq q).topkSize = slice w 39 32) ∧
      (slice w 86 84 = 3 → vd ≠ va → Gives (.vtopk q) s fun t =>
        VecIssued s t q ∧ (t.seq q).topk = (s.seq q).topk ∧
        (∀ l < 1024, lane t vd l = (if (s.seq q).topkSize ≤ l then 0 else ((s.seq q).topk.getD l (0xFF800000, 0xFFFFFFFF)).1) ∧
          lane t va l = (if (s.seq q).topkSize ≤ l then 0 else ((s.seq q).topk.getD l (0xFF800000, 0xFFFFFFFF)).2))))

/-- The top-k buffer keeps its order: after a merge its pairs stand greatest value first, ties by the lower index, and there are no
more of them than its size (R102, R137). -/
def Obligations.TopkStaysRanked : Prop :=
  ∀ (k : Nat) (buf new : List (Nat × Nat)), buf.length ≤ k → buf.Pairwise (fun a b => topAbove b a = false) →
    (topMerge k buf new).length ≤ k ∧ (topMerge k buf new).Pairwise (fun a b => topAbove b a = false) ∧
    ∀ p ∈ topMerge k buf new, p ∈ buf ∨ p ∈ new

/-- VECTOR_INSTRUCTION_COMPLETE, QCOPY and QCOPY_COMPLETE: the oldest vector instruction leaves its queue; a copy within bounds
enters the copy engine's queue of 8 and is numbered; a copy between scratchpads moves its bytes and changes no others
(R128, R132, R133). -/
def Obligations.CopyEngine : Prop :=
  (∀ (s : State) (q : Fin 16) (id : Nat) (rest : List Nat), (s.seq q).vq = id :: rest → s.quadStopped q = false →
    Gives (.vectorInstructionComplete q) s fun t =>
      (t.seq q).vq = rest ∧ (∀ i, (s.seq q).issued = [i] → i.id = id → i.left = 1 → (t.seq q).issued = []) ∧
      (∀ k, k ≠ q.val → t.seq k = s.seq k) ∧ t = { s with regs := t.regs, seqs := t.seqs }) ∧
  (∀ (s : State) (q : Fin 16) (w : Nat), AtOp s q 0x30 w →
    let n := if slice w 97 93 = 0 then slice w 87 64 else s.sreg q (slice w 97 93)
    let a := s.addrOf q (slice w 107 103) (slice w 63 32)
    let b := s.addrOf q (slice w 102 98) (slice w 31 0)
    64 ≤ n → n ≤ 2 ^ 30 → n % 64 = 0 → a % 64 = 0 → b % 64 = 0 → slice w 119 118 ∈ [1, 2] → slice w 117 116 ∈ [1, 2] →
    s.copyEndOk (s.progCtx q) (slice w 119 118) a n false = true → s.copyEndOk (s.progCtx q) (slice w 117 116) b n true = true →
    (s.seq q).copies = [] → Gives (.qcopy q) s fun t =>
      (t.seq q).copies = [{ id := (s.seq q).nextId, srcSpace := slice w 119 118, srcQ := q, src := a, dstSpace := slice w 117 116,
                            dstQ := q, dst := b, len := n }] ∧
      (t.seq q).nextId = (s.seq q).nextId + 1 ∧ (t.seq q).pc = (loopNext (s.seq q).pc (s.seq q).loops).2 ∧
      t = { s with regs := t.regs, engines := t.engines, seqs := t.seqs }) ∧
  (∀ (s : State) (q : Fin 16) (c : QCopyOp), (s.seq q).copies = [c] → c.started = false → s.quadStopped q = false →
    (c.srcSpace = 1 ∨ c.srcSpace = 3) → (c.dstSpace = 1 ∨ c.dstSpace = 3) → Gives (.qcopyComplete q) s fun t =>
      (t.seq q).copies = [] ∧
      (∀ k < c.len, t.spad.byte (spadKey c.dstQ c.dst + k) = s.spad.byte (spadKey c.srcQ c.src + k)) ∧
      (∀ j, j < spadKey c.dstQ c.dst ∨ spadKey c.dstQ c.dst + c.len ≤ j → t.spad.byte j = s.spad.byte j) ∧
      t.mem = s.mem ∧ t.hubsp = s.hubsp ∧ t.out = s.out)

/-! ## The matrix arrays (chapter 03) -/

/-- BEAT_ADMIT: a beat that is ready, has credit and is allowed enters: the columns it makes join the array's columns, and no
accumulator changes; a cycle without one, lamplight or not, changes no column, tile, stream or accumulator (R70, R81).
COLUMN_COMPLETE: the oldest column, its tile loaded and no earlier drain or init owing its entry, is added to or stored in the
accumulator entry it names, in every row bank its tile has a row for, returns its credit, and changes no other entry (R62, R65,
R69).
SLOAD_ROW_WRITE, ACC_INIT_ENTRY and DRAIN_ENTRY_READ: a load writes its next row and changes no accumulator; an init clears its
next entry to +0 with no poison in every row bank and no other entry; a drain reads its next entry, changes no accumulator when
the entry reads clean, and leaves the array once its last entry is read (R63-R67). -/
def Obligations.ArrayEvents : Prop :=
  ((∀ (s : State) (a : Fin 1024) (x : Stream), s.quadStopped (quadOf a) = false → (s.arr a).orderOwed = 0 →
    (s.arr a).stream = some x → (s.arr a).rowReady x = true → x.exhausted = false →
    s.beatHeld x = false → (s.arr a).creditFor x x.creditNeed = true → s.burstAllowed (quadOf a) = true →
    let r := s.beatData x
    let ad := x.admitBeat r.bytes r.poisoned
    Gives (.beatAdmit a true) s fun t =>
      (t.arr a).cols = (s.arr a).cols ++ ad.cols ∧ (ad.stream.finished = false → (t.arr a).stream = some ad.stream) ∧
      t.acc = s.acc ∧ t.accBad = s.accBad ∧ t.spad = s.spad ∧ t.mem = s.mem ∧ t.vreg = s.vreg) ∧
  (∀ (s t : State) (a : Fin 1024) (fed : Bool), (0 < (s.arr a).orderOwed ∨ (s.arr a).stream = none) →
    exec (.beatAdmit a fed) s = .next t →
      (t.arr a).cols = (s.arr a).cols ∧ (t.arr a).tiles = (s.arr a).tiles ∧ (t.arr a).stream = (s.arr a).stream ∧
      (t.arr a).queue = (s.arr a).queue ∧ t.acc = s.acc ∧ t.accBad = s.accBad ∧ t.spad = s.spad ∧ t.mem = s.mem)) ∧
  (∀ (s : State) (a : Fin 1024) (bank : Fin 32) (c : Col) (rest : List Col) (x : Tile), s.quadStopped (quadOf a) = false →
    (s.arr a).cols = c :: rest → (s.arr a).colWaits c = false → (s.arr a).tile c.tile = some x → 32 ≤ x.loaded → (∀ p ∈ c.rows x, p.1 < 32) →
    Gives (.columnComplete a bank .clean) s fun t =>
      (t.arr a).cols = rest ∧
      (∀ k, (∀ m < 32, k ≠ accKey a m c.entry) → SMap.get 0 t.acc k = SMap.get 0 s.acc k ∧ SMap.get false t.accBad k = SMap.get false s.accBad k) ∧
      (c.sub = none → c.lower = false → c.entry < 1024 → ∀ m row, m < x.rows.headD 0 → m < 32 → SMap.get none x.data m = some row →
        let v := dotRow c.fmt x.fmt 32 x.red (rowElem x.fmt row.bytes row.scales) (rowElem c.fmt c.bytes c.scales)
        t.accVal a m c.entry = (if c.add then addF32 (s.accVal a m c.entry) v else v) ∧
        t.accPoison a m c.entry = (c.bad || row.bad || (c.add && s.accPoison a m c.entry))) ∧
      t.spad = s.spad ∧ t.mem = s.mem) ∧
  ((∀ (s : State) (a : Fin 1024) (id : Nat) (x : Tile), s.quadStopped (quadOf a) = false → (s.arr a).loading = some id →
    (s.arr a).tile id = some x → x.loaded < 31 → (s.arr a).queue = [] → Gives (.sloadRowWrite a) s fun t =>
      (∃ y, (t.arr a).tile id = some y ∧ y.loaded = x.loaded + 1 ∧
        ∀ p ∈ x.rowsAt x.loaded, SMap.get none y.data p.1 = some (s.readTileRow (quadOf a) x p.2)) ∧
      (t.arr a).loading = some id ∧ t.acc = s.acc ∧ t.accBad = s.accBad ∧ t.spad = s.spad ∧ t.mem = s.mem) ∧
  (∀ (s : State) (a : Fin 1024) (d : InitOp) (rest : List InitOp), s.quadStopped (quadOf a) = false → (s.arr a).inits = d :: rest →
    let entry := (d.first + d.next) % 1024
    (s.arr a).drains = [] → (s.arr a).cols = [] → (s.arr a).stream = none → Gives (.accInitEntry a) s fun t =>
      (∀ m < 32, t.accVal a m entry = 0 ∧ t.accPoison a m entry = false) ∧
      (∀ k, (∀ m < 32, k ≠ accKey a m entry) → SMap.get 0 t.acc k = SMap.get 0 s.acc k ∧ SMap.get false t.accBad k = SMap.get false s.accBad k) ∧
      (t.arr a).inits = (if d.count ≤ d.next + 1 then rest else { d with next := d.next + 1 } :: rest) ∧
      t.spad = s.spad ∧ t.mem = s.mem) ∧
  (∀ (s : State) (a : Fin 1024) (bank : Fin 32) (d : DrainOp) (rest : List DrainOp), s.quadStopped (quadOf a) = false →
    (s.arr a).drains = d :: rest → (s.arr a).writePending d.seq ((d.first + d.next) % 1024) = false →
    Gives (.drainEntryRead a true bank .clean) s fun t =>
      t.acc = s.acc ∧ t.accBad = s.accBad ∧ t.mem = s.mem ∧ t.hubsp = s.hubsp ∧ t.vreg = s.vreg ∧
      (d.count ≤ d.next + 1 → (t.arr a).drains = rest) ∧
      (d.next + 1 < d.count → ∃ e, (t.arr a).drains = e :: rest ∧ e.next = d.next + 1 ∧ e.id = d.id)) ∧
  (∀ (s : State) (a : Fin 1024) (bank : Fin 32) (ecc : AccEcc), (s.arr a).drains ≠ [] →
    exec (.drainEntryRead a false bank ecc) s = .next s))

/-! ## Graphs, copies, power hints, aborts, dumps from a descriptor -/

/-- GRAPH_STORE_BASE_WRITE: held to 127; ignored and counted while a slot is held or the set-up lock is set (R14, R139).
EXEC_GRAPH, GRAPH_NODE_READY and GRAPH_NODE_COMPLETE: an image in another device's memory is asked for, from its header on (R223);
a resident graph starts at iteration 0 with one instance of each node; an image that fails its header check leaves the slot empty and ends with E_FORMAT; a ready node's work is dispatched; a node that
ends signals its object and goes (R140-R143). -/
def Obligations.GraphRuns : Prop :=
  (∀ (w : BarAcc) (s : State), Reaches s .HUB_GRAPH_STORE 0 w 0 → w.touches F.HUB_GRAPH_STORE_base_mib = true →
    (s.setupLocked = false → (s.graphs.any fun g => g.2.held) = false → Gives (.graphStoreBaseWrite w) s fun t =>
      t.get F.HUB_GRAPH_STORE_base_mib 0 = min 127 (w.merge F.HUB_GRAPH_STORE_base_mib (s.get F.HUB_GRAPH_STORE_base_mib 0)) ∧
      OnlyRegs [F.HUB_GRAPH_STORE_base_mib.key 0] s t) ∧
    (s.setupLocked = false → (s.graphs.any fun g => g.2.held) = true → Gives (.graphStoreBaseWrite w) s fun t =>
      OnlyRegs [F.HUB_SETUP_LOCK_bad_accesses.key 0] s t) ∧
    (s.setupLocked = true → Gives (.graphStoreBaseWrite w) s fun t => OnlyRegs [F.HUB_SETUP_LOCK_blocked_writes.key 0] s t)) ∧
  ((∀ (s : State) (w : Work) (it : Item), s.fresh w 0x02 = some it →
    let image := fieldAt it.payload 0 6
    let g := fieldAt it.payload 6 1
    image % 64 = 0 → g < 64 → fieldAt it.payload 7 1 < 2 → (s.graph g).work = none → s.quiescing = false → s.stopActive = false →
    s.copyEndOk it.ctx 0 image 64 false = true →
    (∀ node off key, s.memEnd image 64 = .remote node off key → s.excludedNode node = false → (s.graph g).fetch = none →
      Gives (.execGraph w) s fun t =>
        (∃ o, t.fab.ops = s.fab.ops ++ [o] ∧ o.origin = .graph g ∧ o.code = 1 ∧ o.node = node ∧ o.off = off ∧ o.key = key ∧ o.len = 64) ∧
        t.item w = some it ∧ t = { s with graphs := t.graphs, fab := t.fab }) ∧
    ∀ h : ReadOut, s.graphImage g w it.since image 64 = .ok h → h.poisoned = false →
    (graphHeaderOk h.bytes = true → (s.graph g).held = true → (s.graph g).image = image → (s.graph g).nodes = fieldAt h.bytes 2 2 →
      fieldAt it.payload 7 1 = 0 → Gives (.execGraph w) s fun t =>
        (t.graph g).work = some w ∧ (t.graph g).iter = 0 ∧ (t.graph g).nodes = (s.graph g).nodes ∧
        (∀ n, n < (s.graph g).nodes → ∃ x ∈ (t.graph g).insts, x.node = n ∧ x.iter = 0) ∧
        (t.graph g).garg = fieldAt it.payload 8 8 ∧ t.hubsp = s.hubsp ∧ t.mem = s.mem) ∧
    (graphHeaderOk h.bytes = false → Gives (.execGraph w) s fun t =>
      (t.graph g).held = false ∧ EndedAs s t w .eFormat 0 ∧ t.get F.HUB_GRAPH_STAT_state g = 0 ∧ t.hubsp = s.hubsp ∧ t.mem = s.mem)) ∧
  (∀ (s : State) (g : Fin 64) (node : Fin 1024) (w : Work) (i : GInst), (s.graph g).work = some w → (s.graph g).candidate node = some i →
    s.quiescing = false → s.stopActive = false → s.unitFrozen 0x30 = false →
    let n := s.nodeBytes g node
    (fieldAt n 4 4 = 0xFFFFFFFF ∨ (fieldAt n 8 8 + i.iter * fieldAt n 20 4) % 2 ^ 64 ≤ s.syncVal (fieldAt n 4 4)) →
    fieldAt n 0 1 < 5 → Gives (.graphNodeReady g node) s fun t =>
      (∀ x ∈ (t.graph g).insts, x.node = i.node → x.iter = i.iter → x.phase = .dispatched) ∧
      (∀ k, k ≠ g.val → t.graph k = s.graph k) ∧ t = { s with regs := t.regs, engines := t.engines, graphs := t.graphs }) ∧
  (∀ (s : State) (g : Fin 64) (node : Fin 1024) (i : GInst),
    ((s.graph g).insts.find? fun i => i.node == node.val && i.phase == .ended) = some i →
    let n := s.nodeBytes g node
    Gives (.graphNodeComplete g node) s fun t =>
      (∀ x ∈ (t.graph g).insts, ¬(x.node = i.node ∧ x.iter = i.iter)) ∧
      (fieldAt n 16 4 ≠ 0xFFFFFFFF → t.syncVal (fieldAt n 16 4) = (s.syncVal (fieldAt n 16 4) + fieldAt n 24 8) % 2 ^ 64) ∧
      (fieldAt n 16 4 = 0xFFFFFFFF → t.sync = s.sync) ∧ t.mem = s.mem ∧ t.spad = s.spad ∧ t.hubsp = s.hubsp))

/-- COPY and FILL between hub scratchpad places of a context's window: the bytes arrive, no other byte of the scratchpad changes, and
the work ends with OK; a bad format ends it with E_FORMAT and a place outside the window with E_BOUNDS, and nothing moves; host
data that is not as long as the copy is no command of the table (R193, R206). -/
def Obligations.HubCopies : Prop :=
  (∀ (s : State) (w : Work) (it : Item) (e : Nat), s.fresh w 0x03 = some it →
    let src := fieldAt it.payload 0 8
    let dst := fieldAt it.payload 8 8
    let len := fieldAt it.payload 16 8
    (∀ d, copyFormat false it.payload = some d → Gives (.copy w []) s fun t =>
      EndedAs s t w .eFormat d ∧ t = { s with queues := t.queues, graphs := t.graphs }) ∧
    (copyFormat false it.payload = none → fieldAt it.payload 24 1 = 2 → fieldAt it.payload 25 1 = 2 →
      (it.ctx.mayHub src len && it.ctx.mayHub dst len) = false → Gives (.copy w []) s fun t =>
        EndedAs s t w .eBounds 0 ∧ t = { s with queues := t.queues, graphs := t.graphs }) ∧
    (copyFormat false it.payload = none → fieldAt it.payload 24 1 = 2 → fieldAt it.payload 25 1 = 2 → it.ctx.mayHub src len = true →
      it.ctx.mayHub dst len = true → s.freeEngine it.ctxId = some e → s.copyAhead w = false → s.quiescing = false →
      s.stopActive = false → (s.hubsp.readOut src len).poisoned = false → Gives (.copy w []) s fun t =>
        (∀ k < len, t.hubsp.byte (dst + k) = s.hubsp.byte (src + k)) ∧
        (∀ j, j < dst ∨ dst + len ≤ j → t.hubsp.byte j = s.hubsp.byte j) ∧
        t.resultOf w = some ⟨.ok, 0⟩ ∧ t.mem = s.mem ∧ t.spad = s.spad ∧ t.out = s.out) ∧
    (∀ data : List Byte, copyFormat false it.payload = none → s.hubEndOk it.ctx 1 src len false = true →
      s.hubEndOk it.ctx (fieldAt it.payload 25 1) dst len true = true → fieldAt it.payload 24 1 = 1 → data.length ≠ len →
      exec (.copy w data) s = .fault .illFormed)) ∧
  (∀ (s : State) (w : Work) (it : Item) (e : Nat), s.fresh w 0x04 = some it → copyFormat true it.payload = none →
    fieldAt it.payload 25 1 = 2 →
    let dst := fieldAt it.payload 8 8
    let len := fieldAt it.payload 16 8
    it.ctx.mayHub dst len = true → s.freeEngine it.ctxId = some e → s.copyAhead w = false → s.quiescing = false →
    s.stopActive = false → Gives (.fill w) s fun t =>
      (∀ k < len, t.hubsp.byte (dst + k) = (leBytes 8 (fieldAt it.payload 0 8)).getD (k % 8) 0) ∧
      (∀ j, j < dst ∨ dst + len ≤ j → t.hubsp.byte j = s.hubsp.byte j) ∧
      t.resultOf w = some ⟨.ok, 0⟩ ∧ t.mem = s.mem ∧ t.spad = s.spad ∧ t.out = s.out)

/-- POWER_HINT: a legal hint ends with OK; a target of 0 withdraws; on each named die as many arrays with a valid buffer as the target
asks for get a pre-ramp that starts lead microseconds after the hint; nothing else changes. Illegal fields end it with E_FORMAT
at their offset (R315, R316, Table 11.2).
ABORT: an index the queue has accepted and not reached its outcome yet commits E_ABORTED and the abort ends with OK; one already
past, or committed, ends the abort with E_ABORT_TOO_LATE and changes no outcome; an index never accepted, the abort itself, or a
queue of another function ends it with E_FORMAT (R207-R209). -/
def Obligations.HintsAndAborts : Prop :=
  (∀ (s : State) (w : Work) (it : Item), s.fresh w 0x09 = some it →
    let lead := fieldAt it.payload 0 4
    let hold := fieldAt it.payload 4 4
    let dies := fieldAt it.payload 9 1
    (1000000 < lead → Gives (.powerHint w) s fun t => EndedAs s t w .eFormat 32 ∧ t.arrays = s.arrays) ∧
    (lead ≤ 1000000 → 1000 < hold → Gives (.powerHint w) s fun t => EndedAs s t w .eFormat 36 ∧ t.arrays = s.arrays) ∧
    (lead ≤ 1000000 → hold ≤ 1000 → dies = 0 ∨ 16 ≤ dies → Gives (.powerHint w) s fun t => EndedAs s t w .eFormat 41 ∧ t.arrays = s.arrays) ∧
    (lead ≤ 1000000 → hold ≤ 1000 → 0 < dies → dies < 16 → Gives (.powerHint w) s fun t =>
      EndedAs s t w .ok 0 ∧ t = { s with arrays := t.arrays, queues := t.queues, graphs := t.graphs } ∧
      (∀ a, (t.arr a).stream = (s.arr a).stream ∧ (t.arr a).cols = (s.arr a).cols ∧ (t.arr a).tiles = (s.arr a).tiles) ∧
      (∀ c < 4, bitAt dies c = false → ∀ a, 256 * c ≤ a → a < 256 * (c + 1) → t.arr a = s.arr a))) ∧
  (∀ (s : State) (q k : Nat) (it : Item), s.fresh (.desc q k) 0x0E = some it →
    let n := fieldAt it.payload 0 2
    let i := fieldAt it.payload 2 2
    let same := s.get F.HUB_Q_CFG_function n = s.get F.HUB_Q_CFG_function q
    (¬same → Gives (.abort (.desc q k)) s fun t =>
      EndedAs s t (.desc q k) .eFormat 32 ∧ t = { s with queues := t.queues, graphs := t.graphs }) ∧
    (same → 1 < fieldAt it.payload 4 1 → Gives (.abort (.desc q k)) s fun t =>
      EndedAs s t (.desc q k) .eFormat 36 ∧ t = { s with queues := t.queues, graphs := t.graphs }) ∧
    (same → fieldAt it.payload 4 1 = 0 → (n ≠ q ∨ i ≠ k) → s.placeIx n i = .beyond → Gives (.abort (.desc q k)) s fun t =>
      EndedAs s t (.desc q k) .eFormat 34 ∧ t = { s with queues := t.queues, graphs := t.graphs }) ∧
    (same → fieldAt it.payload 4 1 = 0 → (n ≠ q ∨ i ≠ k) → s.placeIx n i = .before → Gives (.abort (.desc q k)) s fun t =>
      EndedAs s t (.desc q k) .eAbortTooLate 0 ∧ t = { s with queues := t.queues, graphs := t.graphs }) ∧
    (∀ e, same → fieldAt it.payload 4 1 = 0 → n ≠ q → s.placeIx n i = .open_ → (s.queue n).ents = [e] → e.idx = i →
      e.phase = .waiting → e.committed = none → abortProof e.opcode = false → Gives (.abort (.desc q k)) s fun t =>
        t.resultOf (.desc q k) = some ⟨.ok, 0⟩ ∧
        ∃ e', (t.queue n).ent i = some e' ∧ e'.committed.map (fun r => r.status) = some .eAborted))

/-- DUMP and DUMP_START: a legal request starts a dump when none runs, and its descriptor goes on until the dump ends; an illegal field
ends it with E_FORMAT at its offset (R360, Table 12.13).
DUMP_SECTION_DONE, DUMP_UNIT_UNRESPONSIVE and DUMP_TIME_LIMIT: a section is written and the next unit read; an address that cannot be
translated, and the limit of 1 s, end the dump truncated; a unit that does not answer is counted, and read frozen only where the dump
may freeze it (R361-R363). -/
def Obligations.Dumps : Prop :=
  ((∀ (s : State) (w : Work) (it : Item), s.fresh w 0x0F = some it →
    (∀ d, dumpFormat it.payload = some d → Gives (.dump w) s fun t =>
      EndedAs s t w .eFormat d ∧ t = { s with queues := t.queues, graphs := t.graphs }) ∧
    (dumpFormat it.payload = none → s.dump.running = true → exec (.dump w) s = .next s) ∧
    (dumpFormat it.payload = none → s.dump.running = false → s.quiescing = false → s.stopActive = false → Gives (.dump w) s fun t =>
      t.dump.running = true ∧ t.dump.work = some w ∧ t.dump.buffer = fieldAt it.payload 0 8 ∧ t.dump.size = fieldAt it.payload 8 4 ∧
      t.item w = some { it with phase := .busy } ∧ t.mem = s.mem ∧ t.spad = s.spad ∧ t.hubsp = s.hubsp)) ∧
  (∀ (s : State) (w : BarAcc), Reaches s .HUB_DUMP_CTRL 0 w 0 → w.bits F.HUB_DUMP_CTRL_start = 0 → exec (.dumpStart w) s = .next s) ∧
  (∀ (s : State) (w : BarAcc), Reaches s .HUB_DUMP_CTRL 0 w 0 → w.bits F.HUB_DUMP_CTRL_start = 1 → s.host.up = true →
    s.dump.running = false → s.get F.HUB_DUMP_ADDR_addr 0 ≠ 0 →
    let u := s.writeReg .HUB_DUMP_CTRL 0 w
    0x100 ≤ u.get F.HUB_DUMP_CTRL_size_4k 0 → Gives (.dumpStart w) s fun t =>
      t.dump.running = true ∧ t.dump.work = none ∧ t.dump.buffer = s.get F.HUB_DUMP_ADDR_addr 0 * 4096 ∧
      t.dump.size = u.get F.HUB_DUMP_CTRL_size_4k 0 * 4096 ∧ t.mem = s.mem ∧ t.spad = s.spad ∧ t.hubsp = s.hubsp)) ∧
  ((∀ (s : State) (n code kib : Nat), s.dump.running = true → dumpSections[s.dump.next]? = some (code, kib) →
    s.dump.next + 1 < dumpSections.length → s.dump.unresponsive = false → s.unitAbsent code = false → n ≤ 1024 * kib - 32 →
    let len := ceilDiv (32 + n) 4096 * 4096
    s.dump.written + len ≤ s.dump.size → Gives (.dumpSectionDone n true) s fun t =>
      t.dump.next = s.dump.next + 1 ∧ t.dump.written = s.dump.written + len ∧ t.dump.running = true ∧
      (∃ flags, t.out = .dumpSection code flags s.dump.written (32 + n) s.dump.readAt :: s.out) ∧ t = { s with dump := t.dump, out := t.out }) ∧
  (∀ (s : State) (n : Nat), s.dump.running = true → s.dump.next < dumpSections.length → s.dump.work = none → s.rst.run = none →
    Gives (.dumpSectionDone n false) s fun t =>
      t.dump.running = false ∧ t.get F.HUB_DUMP_STAT_state 0 = 3 ∧ t.get F.HUB_DUMP_STAT_done_evt 0 = 1 ∧
      t = { s with dump := t.dump, regs := t.regs, out := t.out }) ∧
  (∀ (s : State) (n : Nat) (ok : Bool), s.dump.running = false → exec (.dumpSectionDone n ok) s = .next s) ∧
  (∀ (s : State) (code : Nat), s.dump.unit = some code → s.dump.unresponsive = false → s.get F.HUB_DUMP_STAT_unresponsive 0 < 63 →
    (s.dump.freeze = false ∨ freezable code = false → Gives .dumpUnitUnresponsive s fun t =>
      t.get F.HUB_DUMP_STAT_unresponsive 0 = s.get F.HUB_DUMP_STAT_unresponsive 0 + 1 ∧
      t.dump = { s.dump with unresponsive := true } ∧ t = { s with dump := t.dump, regs := t.regs }) ∧
    (s.dump.freeze = true → freezable code = true → Gives .dumpUnitUnresponsive s fun t =>
      t.dump = { s.dump with unresponsive := true, frozenNow := true, frozen := s.dump.frozen ++ [code] } ∧
      t.mgmt.frozenReads = s.mgmt.frozenReads + 1 ∧ t.unitFrozen code = true ∧ t.mem = s.mem ∧ t.seqs = s.seqs)) ∧
  (∀ s : State, s.dump.running = true → s.dump.work = none → s.rst.run = none → Gives .dumpTimeLimit s fun t =>
    t.dump.running = false ∧ t.get F.HUB_DUMP_STAT_state 0 = 3 ∧ s.dump.since + 1000000000 ≤ t.time ∧
    t.mem = s.mem ∧ t.spad = s.spad ∧ t.hubsp = s.hubsp ∧ t.seqs = s.seqs) ∧
  (∀ s : State, s.dump.running = false → exec .dumpTimeLimit s = .next s))

/-! ## Configuration banks (R147-R149, R210-R217) -/

/-- CONFIG_COMMIT: the epoch after the highest one, with every selected shadow valid, is taken: the units' shadows are locked and the
first unit starts; any other epoch, and an invalid shadow, end it with E_FORMAT and change no bank, the second with the first unit that
failed in its detail; a second one waits (R200, R212-R215).
COMMIT_UNIT_SWITCHED: the last unit of a commit that meets its condition takes its shadow bank for its live bank and keeps the
old one as its previous bank; the new epoch is committed, the locks are gone and done_evt is set (R213).
COMMIT_LIMIT_MISSED: the commit stops as partial: no bank moves, the unit that missed is named, its work ends with
E_CONFIG_PARTIAL and the mask of units switched, and the shadows of the units left stay locked (R214).
CONFIG_REVERT: after a completed commit the committed epoch names, the units go back in descending order; any other epoch ends it
with E_FORMAT (R216). -/
def Obligations.ConfigCommits : Prop :=
  (∀ (s : State) (w : Work) (it : Item), s.fresh w 0x0A = some it → s.cfgState = 0 →
    let epoch := fieldAt it.payload 0 4
    let high := s.get F.HUB_CFG_EPOCH_highest 0
    let units := if fieldAt it.payload 4 2 = 0 then s.changedUnits else maskUnits (fieldAt it.payload 4 2)
    (s.commit.work.isSome = true → exec (.configCommit w) s = .next s) ∧
    (s.commit.work = none → epoch ≠ (high + 1) % 2 ^ 32 → Gives (.configCommit w) s fun t =>
      EndedAs s t w .eFormat 32 ∧ t = { s with queues := t.queues, graphs := t.graphs }) ∧
    (s.commit.work = none → epoch = (high + 1) % 2 ^ 32 → ∀ u, (units.find? fun u => s.shadowBad units u) = some u → Gives (.configCommit w) s fun t =>
      EndedAs s t w .eFormat (0x100 + u) ∧ t = { s with queues := t.queues, graphs := t.graphs }) ∧
    (∀ u us, s.commit.work = none → epoch = (high + 1) % 2 ^ 32 → (units.any fun u => s.shadowBad units u) = false → units = u :: us →
      u ≠ 6 → Gives (.configCommit w) s fun t =>
        t.get F.HUB_CFG_EPOCH_highest 0 = epoch ∧ t.cfgState = 1 ∧ t.commit.work = some w ∧ t.commit.locks = units ∧
        t.commit.unit = some u ∧ t.commit.todo = us ∧ t.item w = some { it with phase := .busy } ∧
        t = { s with regs := t.regs, commit := t.commit, mem := t.mem, queues := t.queues, graphs := t.graphs } ∧
        KeepsRegs [F.HUB_CFG_EPOCH_highest.key 0, F.HUB_CFG_STATUS_state.key 0, F.HUB_CFG_STATUS_switched.key 0] s t)) ∧
  (∀ (s : State) (u : Nat), s.commit.unit = some u → u ∈ [0, 1, 2, 3, 4, 8] → s.cfgState = 1 → s.unitReady u = true → s.commit.todo = [] →
    Gives .commitUnitSwitched s fun t =>
      (∀ k, bankKey (unitCodes u) 0 k = true → ∀ d,
        SMap.get d t.regs k = SMap.get d s.regs (k + 512) ∧ SMap.get d t.prevBank k = SMap.get d s.regs k ∧
        SMap.get d t.regs (k + 512) = SMap.get d s.regs (k + 512)) ∧
      t.cfgState = 0 ∧ t.commit.unit = none ∧ t.commit.locks = [] ∧ t.get F.HUB_CFG_STATUS_done_evt 0 = 1 ∧
      t.get F.HUB_CFG_EPOCH_committed 0 = s.get F.HUB_CFG_EPOCH_highest 0 % 2 ^ 32 ∧ t.commit.revertible = true ∧
      (∀ w it, s.commit.work = some w → s.item w = some it → it.phase = .busy → t.resultOf w = some ⟨.ok, 0⟩)) ∧
  (∀ (s : State) (u : Nat), s.commit.unit = some u → u < 9 → u ≠ 6 → s.cfgState = 1 → Gives .commitLimitMissed s fun t =>
    t.cfgState = 2 ∧ t.get F.HUB_CFG_STATUS_missed 0 = u ∧ t.get F.HUB_CFG_STATUS_from_revert 0 = 0 ∧
    t.commit.unit = none ∧ t.commit.locks = u :: s.commit.todo ∧ s.commit.since + s.unitLimit u ≤ t.time ∧
    (∀ w it, s.commit.work = some w → s.item w = some it → it.phase = .busy →
      t.resultOf w = some ⟨.eConfigPartial, s.get F.HUB_CFG_STATUS_switched 0⟩) ∧ t.prevBank = s.prevBank ∧
    KeepsRegs [F.HUB_CFG_STATUS_state.key 0, F.HUB_CFG_STATUS_missed.key 0, F.HUB_CFG_STATUS_from_revert.key 0,
      F.HUB_CFG_STATUS_done_evt.key 0] s t) ∧
  (∀ (s : State) (w : Work) (it : Item), s.fresh w 0x0B = some it → s.commit.work = none → s.cfgState = 0 →
    (∀ us u, s.commit.revertible = true → fieldAt it.payload 0 4 = s.get F.HUB_CFG_EPOCH_committed 0 → s.commit.units = us ++ [u] →
      u ∉ [0, 6] → Gives (.configRevert w) s fun t =>
        t.cfgState = 3 ∧ t.commit.unit = some u ∧ t.commit.todo = us.reverse ∧ t.commit.locks = s.commit.units ∧
        t.commit.work = some w ∧ t = { s with regs := t.regs, commit := t.commit, queues := t.queues, graphs := t.graphs }) ∧
    (fieldAt it.payload 0 4 ≠ s.get F.HUB_CFG_EPOCH_committed 0 ∨ s.commit.revertible = false → Gives (.configRevert w) s fun t =>
      EndedAs s t w .eFormat 32 ∧ t = { s with queues := t.queues, graphs := t.graphs }))

/-! ## Memory (chapter 06) -/

/-- The address mapping of Table 6.4 is one to one on a region: two addresses of the region never meet in one byte of the media, no
address of a parity region falls on its line's parity member, and every burst lies in the line blocks that the region takes
(R145, R151). -/
def Obligations.AddressMapping : Prop :=
  ∀ (m : MapEnt), m.stack < 16 → m.size % m.unit = 0 → m.mediaFirst + m.blocks ≤ 36864 →
    (∀ a b, m.covers a = true → m.covers b = true → (m.locate a).key = (m.locate b).key → a = b) ∧
    (∀ a, m.covers a = true → (m.locate a).stack < 16 ∧ (m.locate a).chan < 32 ∧ (m.locate a).byte < 2048 ∧
      m.mediaFirst ≤ (m.locate a).burst / 32 ∧ (m.locate a).burst / 32 < m.mediaFirst + m.blocks ∧
      (m.parity = true → (m.locate a).chan % 16 ≠ (m.locate a).burst % 16))

/-- What is written is read: a write of bytes within one burst of mapped memory that the media can store is returned by the next
read of the same bytes, and every byte of the media outside them is unchanged. -/
def Obligations.MemoryWriteThenRead : Prop :=
  ∀ (s : State) (a : Nat) (bs : List Byte) (l : Loc), bs ≠ [] → a % 2048 + bs.length ≤ 2048 → s.locate a = some l →
    s.locUnwritable l = false →
    let t := (s.memWrite a bs).1
    (t.memRead a bs.length).bytes = bs ∧
    (∀ k, k < l.key ∨ l.key + bs.length ≤ k → t.mem.dram.byte k = s.mem.dram.byte k) ∧
    t = { s with mem := t.mem, refl := t.refl }

/-! ## Configuration banks (R147-R149, R210-R217) -/

/-- ENTRY_ZERO_FILL_DONE: every byte of the entry's media reads 0 and no sector of it is poisoned; every other byte of the stacks is as
it was (R149).
MEM_ACCESS and BAR4_ACCESS: a read of mapped memory answers the bytes stored and changes no byte; a write stores its bytes at the
place the map gives and nowhere else; an unmapped address is refused with E_BOUNDS at the controller and as an unsupported
request through the aperture; an access that is empty or crosses a burst is no command of the table (R153, R156, R190). -/
def Obligations.MemoryAccesses : Prop :=
  (∀ (s : State) (i : Fin 4096), i.val ∈ s.mem.filling →
    let m := bankEnt (s.nextBank 0) i
    Gives (.entryZeroFillDone i) s fun t =>
      (∀ k, m.hasBurst (k / 2048) = true → t.mem.dram.byte k = 0) ∧
      (∀ k, m.hasBurst (k / 2048) = false → t.mem.dram.byte k = s.mem.dram.byte k) ∧
      (∀ k, m.hasBurst (k / 32) = true → t.mem.dram.bad k = false) ∧ t.mem.filling = s.mem.filling.erase i ∧
      t = { s with mem := t.mem }) ∧
  ((∀ (s : State) (addr : BitVec 48) (l : Loc), s.locate addr.toNat = some l → s.servingChan l.stack l.chan l.burst = none ∨
      (∃ i, s.servingChan l.stack l.chan l.burst = some i ∧ s.inSlice i = false) →
    (∀ n, 0 < n → addr.toNat % 2048 + n ≤ 2048 → s.memHeld addr.toNat n = false → Gives (.memAccess addr (.read n) []) s fun t =>
      let r := s.memRead addr.toNat n
      t.out = .accessEnd (if r.poisoned then .ePoison else .ok) r.bytes r.poisoned :: s.out ∧ t = { s with out := t.out }) ∧
    (∀ d : List Byte, d ≠ [] → addr.toNat % 2048 + d.length ≤ 2048 → s.memHeld addr.toNat d.length = false → s.locUnwritable l = false →
      Gives (.memAccess addr (.write d) []) s fun t =>
        (∀ k < d.length, t.mem.dram.byte (l.key + k) = d.getD k 0) ∧
        (∀ k, k < l.key ∨ l.key + d.length ≤ k → t.mem.dram.byte k = s.mem.dram.byte k) ∧
        t = { s with mem := t.mem, refl := t.refl, out := t.out })) ∧
  (∀ (s : State) (addr : BitVec 48) (n : Nat), 0 < n → addr.toNat % 2048 + n ≤ 2048 → s.locate addr.toNat = none →
    Gives (.memAccess addr (.read n) []) s fun t => t.out = .accessEnd .eBounds [] false :: s.out ∧ t = { s with out := t.out }) ∧
  (∀ (s : State) (addr : BitVec 48) (n : Nat), n = 0 ∨ 2048 < addr.toNat % 2048 + n →
    exec (.memAccess addr (.read n) []) s = .fault .illFormed) ∧
  (∀ (s : State) (off : BitVec 48), s.host.up = true → s.hubUp = true →
    let a := s.get F.HUB_BAR4_BASE_base 0 * 2 ^ 30 + off.toNat
    (∀ n, s.mapped a n = true → s.memHeld a n = false → Gives (.bar4Access off (.read n)) s fun t =>
      let r := s.memRead a n
      t.out = .readData 0 (if r.poisoned then 2 ^ (8 * n) - 1 else leNat r.bytes) r.poisoned :: s.out ∧ t = { s with out := t.out }) ∧
    (∀ n, s.mapped a n = false → Gives (.bar4Access off (.read n)) s fun t =>
      t.out.head? = some .unsupportedRequest ∧ t = { s with out := t.out, log := t.log, regs := t.regs, host := t.host }) ∧
    (∀ d : List Byte, s.mapped a d.length = true → s.memHeld a d.length = false →
      exec (.bar4Access off (.write d)) s = .next (s.memWrite a d).1)))

/-! ## Memory (chapter 06) -/

/-- MEM_ACCESS and poison: a read of a sector stored with the poison pattern is delivered marked poisoned and reports E_POISON; a write
that covers the whole sector replaces the poison; a partial write leaves the sector poisoned. -/
def Obligations.PoisonedSectors : Prop :=
  ∀ (s : State) (addr : BitVec 48) (l : Loc), s.locate addr.toNat = some l →
    (∀ i, s.servingChan l.stack l.chan l.burst = some i → s.inSlice i = false) →
    (∀ n, 0 < n → addr.toNat % 64 + n ≤ 64 → s.memHeld addr.toNat n = false → s.mem.bad (l.key / 64) = true →
      Gives (.memAccess addr (.read n) []) s fun t =>
        (∃ bs, t.out = .accessEnd .ePoison bs true :: s.out) ∧ t = { s with out := t.out }) ∧
    (∀ d : List Byte, d.length = 64 → addr.toNat % 64 = 0 → s.memHeld addr.toNat 64 = false → s.locUnwritable l = false →
      Gives (.memAccess addr (.write d) []) s fun t =>
        t.mem.bad (l.key / 64) = false ∧ (∀ k < 64, t.mem.dram.byte (l.key + k) = d.getD k 0) ∧
        (∀ q, q ≠ l.key / 64 → t.mem.bad q = s.mem.bad q)) ∧
    (∀ d : List Byte, d ≠ [] → d.length < 64 → addr.toNat % 64 + d.length ≤ 64 → s.memHeld addr.toNat d.length = false →
      s.mem.bad (l.key / 64) = true → Gives (.memAccess addr (.write d) []) s fun t => t.mem.bad (l.key / 64) = true)

/-- Retrains and lanes: RETRAIN_PERIOD_EXPIRE and CHANNEL_RETRAIN_REQ queue a retrain that an idle stack starts at once;
SLICE_WINDOW gives each running retrain one slice at a multiple of 50 µs and nothing in between; DRAM_LANE_DEGRADED marks the lane
once (R163, R178-R181).
Repairs: EVACUATE_REQ starts an evacuation to a free spare, or logs that there is none; EVACUATION_STEP moves the pointer one burst;
CHANNEL_LOST marks the channel lost and starts a rebuild on a free spare; REBUILD_LINE moves the pointer past the next parity line
(R164-R171).
Scrubs, held writes and the remap list: PATROL_SCRUB goes on to the next burst, PARITY_HOLD_EXPIRE lets the line's held writes go
after 256 ns, ROW_REMAP_DONE asks for the row's entry in the persistent list and REMAP_LIST_WRITE writes the oldest one asked for
(R154, R161, R174, R177). -/
def Obligations.ChannelRepairs : Prop :=
  ((∀ (s : State) (i : Fin 544), s.get F.MEM_REPAIR_CFG_retrain_period 0 ≠ 0 → s.boot.phase = .ready → s.chState i = 1 →
    (s.stk (i / 34)).retrain = none → (s.stk (i / 34)).retrainQ = [] → Gives (.retrainPeriodExpire i) s fun t =>
      (t.stk (i / 34)).retrain = some { phys := i, error := false } ∧ t.chState i = 2 ∧
      (s.chan i).lastTrain + s.get F.MEM_REPAIR_CFG_retrain_period 0 * 60000000000 ≤ t.time ∧
      t = { s with time := t.time, mem := t.mem, regs := t.regs } ∧ KeepsRegs [F.MEM_CH_STAT_state.key i] s t) ∧
  (∀ (s : State) (i : Fin 544) (j : Nat) (w : BarAcc), Reaches s .MEM_CH_CFG i w j → w.bits F.MEM_CH_CFG_retrain_req = 1 → s.chState j = 1 →
    (s.stk (j / 34)).retrain = none → (s.stk (j / 34)).retrainQ = [] → Gives (.channelRetrainReq i w) s fun t =>
      (t.stk (j / 34)).retrain = some { phys := j, error := false } ∧ t.chState j = 2 ∧
      t = { s with mem := t.mem, regs := t.regs } ∧ KeepsRegs [F.MEM_CH_STAT_state.key j] s t) ∧
  (∀ (s : State) (ends : List (Nat × Bool)), s.time % 50000 ≠ 0 → exec (.sliceWindow ends) s = .next s) ∧
  (∀ (s : State), s.time % 50000 = 0 → Gives (.sliceWindow []) s fun t =>
    (∀ k < 16, s.repairPaused k = false → (t.stk k).retrain = (s.stk k).retrain.map fun r => { r with slices := r.slices + 1 }) ∧
    (∀ k < 16, s.repairPaused k = true → (t.stk k).retrain = (s.stk k).retrain) ∧ t = { s with mem := t.mem } ∧
    t.mem.dram = s.mem.dram) ∧
  (∀ (s : State) (i : Fin 544) (lane : Fin 296), lane.val ∉ (s.chan i).degraded → s.get F.MEM_CH_STAT_spare_lanes_used i < 8 →
    Gives (.dramLaneDegraded i lane true) s fun t =>
      lane.val ∈ (t.chan i).degraded ∧ t.get F.MEM_CH_STAT_lane_evt i = 1 ∧ t = { s with mem := t.mem, regs := t.regs } ∧
      t.mem.dram = s.mem.dram) ∧
  (∀ (s : State) (i : Fin 544) (lane : Fin 296), lane.val ∈ (s.chan i).degraded →
    exec (.dramLaneDegraded i lane true) s = .next s)) ∧
  ((∀ (s : State) (i : Fin 544) (j d : Nat) (w : BarAcc), Reaches s .MEM_CH_CFG i w j → w.bits F.MEM_CH_CFG_evacuate_req = 1 → s.chState j = 1 →
    (s.stk (j / 34)).repair = none → (s.stk (j / 34)).repairQ = [] → (s.stk (j / 34)).retrain = none → (s.stk (j / 34)).retrainQ = [] →
    s.freeSpare (j / 34) = some d → Gives (.evacuateReq i w) s fun t =>
      (∃ r, (t.stk (j / 34)).repair = some r ∧ r.rebuild = false ∧ r.src = j ∧ r.dst = d) ∧ t.chState j = 3 ∧ t.chState d = 4 ∧
      t.get F.MEM_CH_STAT_pointer d = 0 ∧ t.mem.dram = s.mem.dram) ∧
  (∀ (s : State) (i : Fin 544) (j : Nat) (w : BarAcc), Reaches s .MEM_CH_CFG i w j → w.bits F.MEM_CH_CFG_evacuate_req = 1 → s.chState j = 1 →
    (s.stk (j / 34)).repairQ = [] → s.freeSpare (j / 34) = none → s.log.staged.length < 8192 → Gives (.evacuateReq i w) s fun t =>
      t.chState j = 1 ∧ (∃ e m, t.log.staged = s.log.staged ++ [e] ∧ e.body = .mem m ∧ m.event = 0x0A) ∧
      t = { s with log := t.log, regs := t.regs }) ∧
  (∀ (s : State) (k : Fin 16) (r : Repair), (s.stk k).repair = some r → r.rebuild = false → s.repairPaused k = false →
    s.get F.MEM_CH_STAT_pointer r.dst + 1 < burstsPerChannel → Gives (.evacuationStep k []) s fun t =>
      t.get F.MEM_CH_STAT_pointer r.dst = s.get F.MEM_CH_STAT_pointer r.dst + 1 ∧ (t.stk k).repair = some r ∧
      t.mem.dram = s.mem.dram ∧ KeepsRegs [F.MEM_CH_STAT_pointer.key r.dst] s t) ∧
  (∀ (s : State) (i : Fin 544) (d : Nat), s.chState i = 1 → (s.stk (i / 34)).repair = none → (s.stk (i / 34)).repairQ = [] →
    (s.stk (i / 34)).retrain = none → (s.stk (i / 34)).retrainQ = [] → s.freeSpare (i / 34) = some d →
    Gives (.channelLost i true) s fun t =>
      t.chState i = 5 ∧ t.get F.MEM_CH_STAT_loss_evt i = 1 ∧ t.chState d = 4 ∧
      (∃ r, (t.stk (i / 34)).repair = some r ∧ r.rebuild = true ∧ r.src = i ∧ r.dst = d) ∧ t.mem.dram = s.mem.dram) ∧
  (∀ (s : State) (k : Fin 16) (r : Repair) (b : Nat), (s.stk k).repair = some r → r.rebuild = true → s.repairPaused k = false →
    s.nextParity k (s.get F.MEM_CH_STAT_pointer r.dst) = some b → s.nextParity k (b + 1) ≠ none → b + 1 < 2 ^ 21 →
    Gives (.rebuildLine k) s fun t =>
      t.get F.MEM_CH_STAT_pointer r.dst = b + 1 ∧ t.mem.dram.bytes = s.mem.dram.bytes ∧
      (∀ x < 32, s.lineBroken k r.logical b x = true → t.mem.dram.bad (sectorOf k r.logical b + x) = true) ∧
      t = { s with mem := t.mem, regs := t.regs } ∧ KeepsRegs [F.MEM_CH_STAT_pointer.key r.dst] s t)) ∧
  ((∀ (s : State) (i : Fin 544), s.chState i = 1 → s.isSet F.MEM_CH_CFG_scrub_dis i = false → s.repairPaused (i / 34) = false →
    Gives (.patrolScrub i []) s fun t =>
      SMap.get 0 t.mem.scrubAt i = (SMap.get 0 s.mem.scrubAt i + 1) % burstsPerChannel ∧ t = { s with mem := t.mem } ∧
      t.mem.dram = s.mem.dram) ∧
  (∀ (s : State) (k : Fin 16) (g : Fin 2) (b : Fin 1179648) (h : PHold),
    (s.mem.holds.find? fun h => h.stack == k.val && h.group == g.val && h.burst == b.val) = some h →
    Gives (.parityHoldExpire k g b) s fun t =>
      t.mem.holds = s.mem.holds.erase h ∧ h.since + 256 ≤ t.time ∧ t = { s with time := t.time, mem := t.mem } ∧
      t.mem.dram = s.mem.dram) ∧
  (∀ (s : State) (i : Fin 544) (x : RowCopy) (xs : List RowCopy), (s.chan i).copies = x :: xs → s.repairPaused (i / 34) = false →
    Gives (.rowRemapDone i) s fun t =>
      (t.chan i).copies = xs ∧ t.mem.remapToWrite = s.mem.remapToWrite ++ [.row i x.row x.spare] ∧
      t.get F.MEM_CH_STAT_repair_evt i = 1 ∧ t.mem.dram = s.mem.dram) ∧
  (∀ (s : State) (k a b : Nat) (es : List RemapEntry), s.mem.remapToWrite = .row k a b :: es → s.mem.remapList.length < 8192 →
    Gives .remapListWrite s fun t =>
      t.mem.remapToWrite = es ∧ .row k a b ∈ t.mem.remapList ∧ .pendingRow k a ∉ t.mem.remapList ∧
      t = { s with mem := t.mem } ∧ t.mem.dram = s.mem.dram))

/-! ## The package: bundles, bring-up, the host link, the node (chapters 01, 07, 08) -/

/-- D2D_FLIT_RECEIVE, D2D_LANE_FAIL and BUNDLE_CHANGE_END: a flit that passes is delivered once; one that fails is owed, and only its
retransmission is taken; a lane that fails in service is replaced by a spare and the bundle pauses until the change ends (R21-R26). -/
def Obligations.BundlesInService : Prop :=
  (∀ (s : State) (b : Fin 400) (flit : BitVec 1024) (lane : Fin 66) (ok : Bool), s.d2dUp = true → (s.bundle b).changing = false →
    s.get F.HUB_D2D_BUNDLE_STAT_width b ≠ 0 → Gives (.d2dFlitReceive b flit ok lane) s fun t =>
      t = { s with bundles := t.bundles } ∧ (∀ c, c ≠ b.val → t.bundle c = s.bundle c) ∧ (t.bundle b).failed = (s.bundle b).failed ∧
      ((s.bundle b).replay = none ∨ (s.bundle b).replay = some flit →
        (ok = true → (t.bundle b).last = some flit ∧ (t.bundle b).replay = none ∧ (t.bundle b).errs = (s.bundle b).errs) ∧
        (ok = false → (t.bundle b).last = (s.bundle b).last ∧ (t.bundle b).replay = some flit ∧ (lane.val, s.time) ∈ (t.bundle b).errs)) ∧
      (∀ f, (s.bundle b).replay = some f → f ≠ flit → (t.bundle b).last = (s.bundle b).last ∧ (t.bundle b).replay = some f)) ∧
  (∀ (s : State) (b : Fin 400) (lane : Fin 66), s.d2dTraining b = false → s.d2dUp = true → (s.bundle b).failed = [] →
    (s.bundle b).queued = [] → (s.bundle b).changing = false → s.get F.HUB_D2D_BUNDLE_STAT_width b = 2 →
    s.get F.HUB_D2D_BUNDLE_STAT_swap_count b < 255 → Gives (.d2dLaneFail b lane .eyeWidth) s fun t =>
      (t.bundle b).failed = [lane.val] ∧ (t.bundle b).changing = true ∧ t.get F.HUB_D2D_BUNDLE_STAT_healthy_lanes b = 65 ∧
      t.get F.HUB_D2D_BUNDLE_STAT_spares_used b = 1 ∧ t.get F.HUB_D2D_BUNDLE_STAT_width b = 2 ∧
      t.get F.HUB_D2D_BUNDLE_STAT_swap_count b = s.get F.HUB_D2D_BUNDLE_STAT_swap_count b + 1 ∧
      t.get F.HUB_D2D_BUNDLE_STAT_degraded_evt b = 1 ∧ (∀ c, c ≠ b.val → t.bundle c = s.bundle c) ∧
      t = { s with bundles := t.bundles, regs := t.regs }) ∧
  (∀ (s : State) (b : Fin 400) (lane : Fin 66), (s.bundle b).errsOf lane s.time < 16 → exec (.d2dLaneFail b lane .crcErrors) s = .next s) ∧
  (∀ (s : State) (b : Fin 400), (s.bundle b).changing = true → (s.bundle b).queued = [] → Gives (.bundleChangeEnd b) s fun t =>
    t.bundle b = { s.bundle b with changing := false } ∧ (∀ c, c ≠ b.val → t.bundle c = s.bundle c) ∧
    t = { s with bundles := t.bundles }) ∧
  (∀ (s : State) (b : Fin 400), (s.bundle b).changing = false → exec (.bundleChangeEnd b) s = .next s)

/-- FEED_QUALIFIED, BRINGUP_STEP_DONE, BRINGUP_STEP_TIMEOUT, FEED_UNDERVOLT_HOLD, BRINGUP_FEED_LOSS, LATCH_RELEASE: a qualified feed
starts bring-up; a step that ends opens the next; a failed identity check and a missed rail hold the device with their cause; a loss
of the feeds turns it off with what flash holds kept (R28, R31, R34, R37, R40, R427, Table 1.8, Table 1.10b). -/
def Obligations.BringUp : Prop :=
  (∀ (s : State) (f : Feed) (va vb : Fin 8192), s.boot.phase = .off →
    4800 ≤ (match f with | .A => va.val | .B => vb.val) → Gives (.feedQualified f va vb) s fun t =>
      t.boot.phase = .bringup ∧ t.boot.done = [1] ∧ t.pwr.inUse = some f ∧ t.get F.PWR_FEED_STAT_feed_a 0 = va ∧
      t.get F.PWR_FEED_STAT_feed_b 0 = vb ∧ t.get F.HUB_BOOT_STATUS_step 0 = 2 ∧
      t = { s with regs := t.regs, pwr := t.pwr, boot := t.boot }) ∧
  (∀ (s : State) (r : IslandRead) (va vb : Fin 8192), s.boot.phase = .off ∨ (s.boot.phase = .bringup ∧ s.boot.done = []) →
    4000 ≤ va.val ∨ 4000 ≤ vb.val → s.boot.resetPending = false → Gives (.feedUndervoltHold r va vb) s fun t =>
      t.boot.phase = .hold ∧ t.get F.HUB_BOOT_STATUS_hold 0 = 1 ∧ t.get F.HUB_BOOT_STATUS_cause 0 = 1 ∧
      t.get F.HUB_BOOT_STATUS_step 0 = 1 ∧ t.get F.PWR_FEED_STAT_feed_a 0 = va ∧ t.get F.PWR_FEED_STAT_feed_b 0 = vb ∧
      t.boot.island = (s.boot.island || decide (s.boot.phase = .off))) ∧
  (∀ s : State, s.boot.phase = .bringup → s.boot.done = [1, 2] → s.quiescing = false → Gives (.bringupStepDone .hubRail) s fun t =>
    t.boot = { s.boot with done := [1, 2, 3], rails := [0] } ∧ t.get F.HUB_BOOT_STATUS_step 0 = 4 ∧ t.mem = s.mem ∧ t.time = s.time) ∧
  (∀ (s : State) (r : IdentityRead), s.stepOpen 6 [5] = true → s.boot.resetPending = false →
    (identityFails r = [] → Gives (.bringupStepDone (.identity r)) s fun t =>
      t.boot.setId = r.hubSet ∧ t.boot.done = s.boot.done ++ [6] ∧ t.get F.HUB_BOOT_STATUS_step 0 = 7 ∧ t.boot.phase = .bringup) ∧
    (∀ f fs, identityFails r = f :: fs → Gives (.bringupStepDone (.identity r)) s fun t =>
      t.boot.phase = .hold ∧ t.get F.HUB_BOOT_STATUS_hold 0 = 1 ∧ t.get F.HUB_BOOT_STATUS_ready 0 = 0 ∧ t.boot.record = f :: fs ∧
      t.get F.HUB_BOOT_STATUS_cause 0 = f.cause % 2 ^ F.HUB_BOOT_STATUS_cause.width ∧
      t.get F.HUB_BOOT_STATUS_cause_unit 0 = f.unit % 2 ^ F.HUB_BOOT_STATUS_cause_unit.width)) ∧
  (∀ (s : State) (rail : Fin 7) (t0 : Nat), s.step5Open = true → s.boot.shift = 0 → s.boot.t0 = some (t0 : Int) →
    s.boot.resetPending = false → Gives (.bringupStepTimeout 5 rail) s fun t =>
      t.boot.phase = .hold ∧ t.get F.HUB_BOOT_STATUS_cause 0 = 2 ∧ t.get F.HUB_BOOT_STATUS_cause_unit 0 = rail ∧
      t0 + 630000000 ≤ t.time) ∧
  (∀ s : State, s.boot.phase = .bringup → Gives .bringupFeedLoss s fun t =>
    t.boot.phase = .off ∧ t.log.flash = s.log.flash ∧ t.log.staged = [] ∧ t.mem.remapList = s.mem.remapList ∧ t.mem.dram = {} ∧
    t.spad = {} ∧ t.hubsp = {} ∧ t.pending = s.pending ∧ t.get F.SEC_ROLLBACK_CTRL_count 0 = s.get F.SEC_ROLLBACK_CTRL_count 0 % 2 ^
      F.SEC_ROLLBACK_CTRL_count.width) ∧
  (∀ s : State, s.boot.phase = .offLatched → exec .latchRelease s = .next { s with boot := { s.boot with phase := .off } })

/-- HOST_LINK_TRAINED, HOST_TRAIN_RETRY, PCIE_DL_DOWN, FUNCTION_LEVEL_RESET, D_STATE_CHANGE and VF_ENABLE: with at least 4 usable
wavelengths the link comes up, as x8 with 8 or 9; a failed retry changes nothing; link-down resets every function; a function-level
reset disables the function's queues (R37, R185, R187, R270). -/
def Obligations.HostLink : Prop :=
  (∀ (s : State) (fast : Bool) (usable : List Nat), s.hostCanTrain = true → s.hostUsable usable = true → s.rst.linkWait = false →
    let n := ((List.range 9).filter fun k => usable.contains k && !(s.port 64).optBad.contains k).length
    (Gives (.hostLinkTrained fast usable) s fun t =>
      t.host = { s.host with up := true, fast := fast, wide := decide (8 ≤ n) } ∧ t.portState 64 = 3 ∧
      t.boot = { s.boot with hostTrained := true, hostDark := false }) ∧
    (s.boot.hostDark = true → Gives (.hostTrainRetry true fast usable) s fun t =>
      t.host = { s.host with up := true, fast := fast, wide := decide (8 ≤ n) } ∧ t.portState 64 = 3 ∧
      t.boot = { s.boot with hostTrained := true, hostDark := false })) ∧
  (∀ (s : State) (fast : Bool) (usable : List Nat), s.hostUsable usable = false → exec (.hostLinkTrained fast usable) s = .next s) ∧
  (∀ (s : State) (fast : Bool) (usable : List Nat), s.hostCanTrain = true → s.boot.hostDark = true →
    exec (.hostTrainRetry false fast usable) s = .next s) ∧
  (∀ s : State, s.host.up = true → Gives .pcieDlDown s fun t =>
    t.host.up = false ∧ t.host.d3 = false ∧ t.host.vfEnabled = false ∧ t.boot.hostDark = true ∧ t.portState 64 = 2) ∧
  (∀ s : State, s.host.up = true → s.hubUp = true → Gives (.functionLevelReset 0) s fun t =>
    t.host.d3 = false ∧ t.host.vfEnabled = false) ∧
  (∀ (s : State) (fn : Fin 16), s.host.up = true → s.hubUp = true → s.functionOn fn = true → fn ≠ 0 → s.queues = [] → s.rst.run = none →
    Gives (.functionLevelReset fn) s fun t =>
      (∀ n, s.get F.HUB_Q_CFG_enable n = 1 → s.get F.CTX_function (s.get F.HUB_Q_CFG_context n) = fn → t.get F.HUB_Q_CFG_enable n = 0) ∧
      t.mem = s.mem) ∧
  (∀ (s : State) (fn : Fin 16), s.functionOn fn = false → exec (.functionLevelReset fn) s = .next s) ∧
  (∀ (s : State) (d3 : Bool), s.host.up = true → s.hubUp = true →
    exec (.dStateChange d3) s = .next { s with host := { s.host with d3 := d3 } }) ∧
  (∀ (s : State) (n : Fin 16), s.host.up = true → s.hubUp = true →
    exec (.vfEnable n) s = .next { s with host := { s.host with numVfs := n, vfEnabled := decide (n.val ≠ 0) } })

/-- NODE_ID_WRITE and FABRIC_ENABLE: the written node becomes the node ID and is assigned, and the set-up lock keeps it; enable is set
where a node ID is assigned and the 64 MiB at flow_base are mapped, and refused with its flags where not (R14, R219, R220). -/
def Obligations.NodeAndEnable : Prop :=
  (∀ (s : State) (w : BarAcc), Reaches s .FAB_NODE_ID 0 w 0 → w.touches F.FAB_NODE_ID_node = true →
    (s.setupLocked = false → Gives (.nodeIdWrite w) s fun t =>
      t.ownNode = w.merge F.FAB_NODE_ID_node s.ownNode % 2 ^ 20 ∧ t.get F.FAB_NODE_ID_assigned 0 = 1 ∧ t.mem = s.mem ∧ t.fab = s.fab) ∧
    (s.setupLocked = true → Gives (.nodeIdWrite w) s fun t =>
      OnlyRegs [F.HUB_SETUP_LOCK_blocked_writes.key 0] s t ∧ t.ownNode = s.ownNode)) ∧
  (∀ (s : State) (w : BarAcc), Reaches s .FAB_CFG 0 w 0 → w.touches F.FAB_CFG_enable = true → w.bits F.FAB_CFG_enable = 1 →
    s.isSet F.FAB_CFG_enable 0 = false →
    let u := s.writeReg .FAB_CFG 0 w
    let base := u.areaMapped (u.get F.FAB_CFG_flow_base 0 * 2 ^ 26, 32)
    (s.isSet F.FAB_NODE_ID_assigned 0 = true → base = true → s.rst.readyOwed = false → s.refl.owe = false →
      Gives (.fabricEnable w) s fun t =>
        t.get F.FAB_CFG_enable 0 = 1 ∧ t.get F.FAB_CFG_bad_base 0 = 0 ∧ t.get F.FAB_CFG_unassigned 0 = 0 ∧
        t = { s with regs := t.regs }) ∧
    (s.isSet F.FAB_NODE_ID_assigned 0 = false ∨ base = false → Gives (.fabricEnable w) s fun t =>
      t.get F.FAB_CFG_enable 0 = 0 ∧ t.isSet F.FAB_CFG_unassigned 0 = !s.isSet F.FAB_NODE_ID_assigned 0 ∧
      t.isSet F.FAB_CFG_bad_base 0 = !base ∧ t = { s with regs := t.regs }))

/-! ## Memory across the fabric (chapter 08) -/

/-- FABRIC_READ, WRITE, WRITE_POSTED, ATOMIC, SEND and FENCE: a legal descriptor becomes one operation of its kind towards its node, and
its work goes on; with the fabric off it ends with E_FORMAT, detail 0; an illegal field ends it with E_FORMAT at its offset; an excluded node
with E_EXCLUDED; a remote offset beyond what a device holds with E_BOUNDS (R219, R224, R379). -/
def Obligations.FabricOpsAccepted : Prop :=
  ∀ (s : State) (w : Work) (it : Item) (data : List Byte), s.fresh w 0x06 = some it →
    let b := it.payload
    let op := fieldAt b 0 1
    let remote := fieldAt b 8 8
    let node := remote / 2 ^ 44
    let space := slice (fieldAt b 1 1) 1 0
    let a := fieldAt b 16 8
    let len := if op = 4 then 8 else fieldAt b 24 8
    (∀ c ∈ [Instr.fabricRead w, .fabricWrite w data, .fabricWritePosted w data, .fabricAtomic w data, .fabricSend w data, .fabricFence w],
      ((isRequest op = false ∨ c = ([Instr.fabricRead w, .fabricWrite w data, .fabricWritePosted w data, .fabricAtomic w data,
          .fabricSend w data, .fabricFence w].getD (op - 1) .calendarSetApply)) →
        (∀ d, fabFormat b = some d → s.fabOn = true → Gives c s fun t =>
          EndedAs s t w .eFormat d ∧ t = { s with queues := t.queues, graphs := t.graphs }) ∧
        (s.fabOn = false → Gives c s fun t =>
          EndedAs s t w .eFormat 0 ∧ t = { s with queues := t.queues, graphs := t.graphs }) ∧
        (fabFormat b = none → s.fabOn = true → op ≠ 6 → s.fabLocalOk it.ctx space a len (op == 1 || op == 4) = true →
          (op = 4 → s.fabLocalOk it.ctx space a len false = true) → (s.routeFor node).isSome = true →
          (op = 5 ∨ remote % 2 ^ 44 < 0x012000000000) → s.excludedNode node = true → Gives c s fun t =>
            EndedAs s t w .eExcluded 0 ∧ t = { s with queues := t.queues, graphs := t.graphs }) ∧
        (fabFormat b = none → s.fabOn = true → op ≠ 6 → s.fabLocalOk it.ctx space a len (op == 1 || op == 4) = false → Gives c s fun t =>
          EndedAs s t w .eBounds 0 ∧ t = { s with queues := t.queues, graphs := t.graphs }) ∧
        (fabFormat b = none → s.fabOn = true → op ≠ 6 → s.fabLocalOk it.ctx space a len (op == 1 || op == 4) = true →
          (op = 4 → s.fabLocalOk it.ctx space a len false = true) → (s.routeFor node).isSome = true →
          (op = 5 ∨ remote % 2 ^ 44 < 0x012000000000) → s.excludedNode node = false →
          (space = 1 → op ≠ 1 → data.length = len) → (space = 0 → s.memHeld a len = false) → s.opsSettled → Gives c s fun t =>
            t.item w = some { it with phase := .busy } ∧
            (∃ o, t.fab.ops = s.fab.ops ++ [o] ∧ o.origin = .work w ∧ o.code = op ∧ o.node = node ∧ o.off = remote % 2 ^ 44 ∧ o.len = len ∧
              o.key = fieldAt b 4 4 ∧ o.next = 0 ∧ (space = 1 → op ≠ 1 → op ≠ 4 → o.data = data)) ∧
            t = { s with fab := t.fab, queues := t.queues, graphs := t.graphs }) ∧
        (fabFormat b = none → s.fabOn = true → op = 6 → bitAt (fieldAt b 2 1) 1 = false → (s.routeFor node).isSome = true →
          s.excludedNode node = false → s.opsSettled → Gives c s fun t =>
            t.item w = some { it with phase := .busy } ∧
            (∃ o, t.fab.ops = s.fab.ops ++ [o] ∧ o.origin = .work w ∧ o.code = 6 ∧ o.nodes = [node] ∧ o.answers = []) ∧
            t = { s with fab := t.fab, queues := t.queues, graphs := t.graphs })))

/-- FABRIC_REQUEST_ISSUE: on an open flow the first operation's next piece leaves on the port of its route as a request of the
operation's kind; while the device quiesces or the fabric is off nothing leaves (R219, R225, R231, R234, R339).
FABRIC_REPLY, FABRIC_NAK and the timeouts: a reply that fits ends its request and, with its last one, the operation, and a READ's data
arrives at the local end; a NAK and 20 µs of silence send the request again; after the fifth attempt the request ends with
E_TIMEOUT and the flow must be opened again, and so does one that found no route for 80 µs + W(h); a reply to nothing changes no
request (R225, R231, R232, R234, R242). -/
def Obligations.FabricRequests : Prop :=
  ((∀ (s : State) (n : Fin 1048576) (x : FlowSrc) (o : FabOp) (q : Nat), s.quiescing = false → s.fabOn = true → n.val ≠ s.ownNode →
    (s.flow n).src = some x → x.opened = true → (s.flow n).place = .onDie → (s.flow n).hold = none → s.unitFrozen 0x50 = false →
    (s.fab.reqs.find? fun r => r.node == n.val && (r.attempts == 0 || r.resend)) = none →
    (s.fab.ops.find? fun o => o.pendingTo n) = some o → o.code = 1 ∨ o.code = 2 → s.fab.reqs.length < 16384 → s.fab.window n < 128 →
    s.fab.busy n = true → s.routePort n = some q → s.opsSettled → (∀ r ∈ s.fab.reqs, r.serial < s.fab.serial) →
    Gives (.fabricRequestIssue n) s fun t =>
      SentFirst s t q o ∧ t.fab.reqs.length = s.fab.reqs.length + 1 ∧ t.mem = s.mem ∧ t.spad = s.spad ∧ t.hubsp = s.hubsp ∧
      t.queues = s.queues) ∧
  (∀ (s : State) (n : Fin 1048576), s.quiescing = true ∨ s.fabOn = false → exec (.fabricRequestIssue n) s = .next s)) ∧
  ((∀ (s : State) (port : Fin 64) (p : Packet) (r : FabReq) (o : FabOp) (w : Work) (it : Item) (a : Nat), s.kept = false →
    s.portReceives port = true → p.kind = 0x80 → s.fab.reqs = [r] → r.tag = p.tag → r.attempts ≠ 0 → r.node = p.src → r.opn = false →
    r.op = some o.id → s.fab.ops = [o] → o.origin = .work w → o.issuedAll = true → o.fail = none → o.poisoned = false →
    o.corrected = false → o.reads = [] → o.code = r.kind → s.item w = some it → it.phase = .busy →
    p.status = Status.ok.code → p.poison = false → r.fits p .ok = true →
    (r.kind = 1 → o.dest = .hub a → Gives (.fabricReply port p) s fun t =>
      t.fab.reqs = [] ∧ t.fab.ops = [] ∧ t.resultOf w = some ⟨.ok, 0⟩ ∧
      (∀ k < r.len, t.hubsp.byte (a + r.pos + k) = p.data.getD k 0) ∧
      (∀ k, k < a + r.pos ∨ a + r.pos + r.len ≤ k → t.hubsp.byte k = s.hubsp.byte k) ∧ t.mem = s.mem ∧ t.spad = s.spad) ∧
    (r.kind = 2 → o.dest = .none → Gives (.fabricReply port p) s fun t =>
      t.fab.reqs = [] ∧ t.fab.ops = [] ∧ t.resultOf w = some ⟨.ok, 0⟩ ∧ t.mem = s.mem ∧ t.spad = s.spad ∧ t.hubsp = s.hubsp)) ∧
  (∀ (s : State) (port : Fin 64) (p : Packet), s.kept = false → s.portReceives port = true → p.kind = 0x80 →
    (s.fab.reqs.find? fun r => r.tag == p.tag && r.attempts != 0 && r.node == p.src) = none → Gives (.fabricReply port p) s fun t =>
      OnlyRegs [F.FAB_EVT_CNT_count.key 8] s t) ∧
  (∀ (s : State) (port : Fin 64) (p : Packet) (r : FabReq) (q : Nat), s.kept = false → s.portReceives port = true → p.kind = 0x81 →
    s.fab.reqs = [r] → r.node = p.src → r.kind ≠ 1 → isReflection r.kind = false → r.opn = false → r.attempts ≠ 0 → r.attempts < 5 →
    r.fseq = p.fseq → s.routePort r.node = some q → Gives (.fabricNak port p) s fun t =>
      (∃ r' k, t.fab.reqs = [r'] ∧ r'.attempts = r.attempts + 1 ∧ r'.fseq = r.fseq ∧ r'.last = s.time ∧ Sent s t q (.packet q k) ∧
        k.retrans = true ∧ k.fseq = r.fseq ∧ k.kind = r.kind) ∧ t.mem = s.mem) ∧
  (∀ (s : State) (tag : Fin 16384) (r : FabReq) (q : Nat), s.fab.reqs = [r] → r.tag = tag → r.attempts ≠ 0 → r.attempts < 5 →
    isReflection r.kind = false → s.routePort r.node = some q → Gives (.fabricRetransmitTimeout tag) s fun t =>
      r.last + 20000 ≤ t.time ∧ (∃ r' k, t.fab.reqs = [r'] ∧ r'.attempts = r.attempts + 1 ∧ r'.fseq = r.fseq ∧ r'.last = t.time ∧
        Sent s t q (.packet q k) ∧ k.retrans = true ∧ k.fseq = r.fseq) ∧ t.mem = s.mem) ∧
  (∀ (s : State) (tag : Fin 16384) (r : FabReq) (o : FabOp) (w : Work) (it : Item), s.fab.reqs = [r] → r.tag = tag → r.attempts = 5 →
    r.opn = false → r.kind = 2 → r.op = some o.id → s.fab.ops = [o] → o.code = 2 → o.origin = .work w → o.fail = none → o.dest = .none →
    o.reads = [] → s.item w = some it → it.phase = .busy → Gives (.fabricFinalTimeout tag) s fun t =>
      t.fab.reqs = [] ∧ t.fab.ops = [] ∧ t.resultOf w = some ⟨.eTimeout, 0⟩ ∧ (t.srcFlow r.node).opened = false ∧
      r.last + s.finalWait r.node ≤ t.time ∧ t.mem = s.mem) ∧
  (∀ (s : State) (tag : Fin 16384) (r : FabReq) (o : FabOp) (w : Work) (it : Item), s.fab.reqs = [r] → r.tag = tag → r.attempts = 0 →
    r.opn = false → r.kind = 2 → r.op = some o.id → s.fab.ops = [o] → o.code = 2 → o.origin = .work w → o.fail = none → o.dest = .none →
    o.reads = [] → s.item w = some it → it.phase = .busy → s.routePort r.node = none → Gives (.routeWaitTimeout tag) s fun t =>
      t.fab.reqs = [] ∧ t.fab.ops = [] ∧ t.resultOf w = some ⟨.eTimeout, 0⟩ ∧
      r.first + 80000 + s.finalWait r.node ≤ t.time ∧ t.mem = s.mem))

/-- WRITE_REQUEST, WRITE_POSTED_REQUEST, READ_REQUEST, ATOMIC_REQUEST, SEND_REQUEST, FENCE_REQUEST and OPEN_REQUEST at the target: in order
and covered by an exported region, a store is applied, advances the expected sequence number and is answered; a READ answers the
bytes and changes none; an atomic leaves the function of old value and operand and answers the old value; an open sets what its
flow expects (R226, R229, R231, R236, R239-R241, Table 8.5, Table 8.8).
What the target refuses: a header that breaks Table 8.11, an offset no region exports, a wrong key, and a store ahead of the order leave
memory as it was, and are answered with the status that Table 8.8 names or a NAK; the last leaves the flow's expected number as it
was too (R231, R236). -/
def Obligations.TargetServes : Prop :=
  (∀ (s : State) (port : Fin 64) (p : Packet) (x : FlowTgt), Admits s port p x →
    let taken (t : State) := ∃ y, (t.flow p.src).tgt = some y ∧ y.epoch = x.epoch ∧ y.expected = (x.expected + 1) % 2 ^ 32 ∧
      ∀ n, n ≠ p.src → t.flow n = s.flow n
    (p.fseq = x.expected → x.expected < 2 ^ 32 → p.poison = false → Exports s p →
      (p.kind = 2 → Gives (.writeRequest port p) s fun t =>
        t.mem = (s.memWrite p.offset p.data).1.mem ∧ taken t ∧
        Replies s t port p (s.memWrite p.offset p.data).2 p.fseq [] ∧ t.spad = s.spad ∧ t.hubsp = s.hubsp ∧ t.regs = s.regs) ∧
      (p.kind = 3 → Gives (.writePostedRequest port p) s fun t =>
        t.mem = (s.memWrite p.offset p.data).1.mem ∧ taken t ∧
        Replies s t port p (s.memWrite p.offset p.data).2 p.fseq [] ∧ t.spad = s.spad ∧ t.hubsp = s.hubsp ∧ t.regs = s.regs)) ∧
    (p.kind = 1 → p.ordered = false → Exports s p → Gives (.readRequest port p) s fun t =>
      let r := s.memRead p.offset p.length
      t.mem = s.mem ∧ Replies s t port p (if r.poisoned then .ePoison else .ok) ((x.expected + 2 ^ 32 - 1) % 2 ^ 32) r.bytes ∧
      (∃ y, (t.flow p.src).tgt = some y ∧ y.expected = x.expected) ∧ t.spad = s.spad ∧ t.hubsp = s.hubsp ∧ t.regs = s.regs) ∧
    (p.kind = 4 → p.fseq = x.expected → x.expected < 2 ^ 32 → Exports s p →
      (s.fab.cache.find? fun c => c.node == p.src && c.epoch == p.srcEpoch && c.aseq == p.aseq) = none →
      p.aseq = (x.hwm + 1) % 65536 → x.hwm < 65536 →
      let n := if p.afnWide then 8 else 4
      let old := leNat (s.memRead p.offset n).bytes
      (s.memRead p.offset n).poisoned = false →
      let w := s.memWrite p.offset (leBytes n (atomicFn p.afnFn p.afnSigned (8 * n) old (fieldAt p.data 0 n) (fieldAt p.data 8 n)))
      Gives (.atomicRequest port p) s fun t =>
        t.mem = w.1.mem ∧ taken t ∧ Replies s t port p w.2 p.fseq (leBytes 8 old) ∧ t.spad = s.spad ∧ t.hubsp = s.hubsp ∧
        ∃ y, (t.flow p.src).tgt = some y ∧ y.hwm = p.aseq) ∧
    (p.kind = 5 → p.fseq = x.expected → x.expected < 2 ^ 32 →
      let n := p.offset % 1024
      let slot := s.get F.FAB_RXQ_PTR_tail n % 2 ^ s.get F.FAB_RXQ_CFG_log2_slots n
      let a := s.get F.FAB_RXQ_CFG_base n * 2048 + slot * 2 ^ s.get F.FAB_RXQ_CFG_log2_slot_size n
      s.isSet F.FAB_RXQ_CFG_enable n = true → p.key = s.get F.FAB_RXQ_CFG_key n →
      p.length + 16 ≤ 2 ^ s.get F.FAB_RXQ_CFG_log2_slot_size n → s.ringFull n = false → s.mapped a (p.length + 16) = true →
      s.memHeld a (p.length + 16) = false →
      Gives (.sendRequest port p) s fun t =>
        let m := leBytes 3 p.src ++ [0] ++ leBytes 2 p.data.length ++ leBytes 2 p.srcEpoch ++ leBytes 8 s.time ++ p.data
        t.mem = (s.memWrite a m).1.mem ∧ t.get F.FAB_RXQ_PTR_tail n = (s.get F.FAB_RXQ_PTR_tail n + 1) % 2 ^ 16 ∧ taken t ∧
        (s.isSet F.FAB_RXQ_CFG_sig_en n = true →
          t.syncVal (s.get F.FAB_RXQ_CFG_sync_obj n) = (s.syncVal (s.get F.FAB_RXQ_CFG_sync_obj n) + 1) % 2 ^ 64) ∧
        (s.isSet F.FAB_RXQ_CFG_sig_en n = false → t.sync = s.sync)) ∧
    (p.kind = 6 → p.opn = false → p.fseq = x.expected → x.expected < 2 ^ 32 → Gives (.fenceRequest port p) s fun t =>
      t.mem = s.mem ∧ taken t ∧ Replies s t port p .ok p.fseq [] ∧ t.spad = s.spad ∧ t.hubsp = s.hubsp ∧ t.regs = s.regs) ∧
    (p.kind = 6 → p.opn = true → Gives (.openRequest port p) s fun t =>
      (t.flow p.src).tgt = some { epoch := p.srcEpoch, expected := p.fseq, hwm := (p.aseq + 65535) % 65536, lastReq := s.time
                                  keyLog := x.keyLog } ∧
      t.mem.dram = s.mem.dram)) ∧
  ((∀ (s : State) (port : Fin 64) (p : Packet) (st : Status), s.kept = false → s.portReceives port = true → s.unitFrozen 0x50 = false →
    s.headerFault p = some st → s.discarding p.src = false → (s.fab.held.any fun h => h.2.src == p.src) = false → p.isKind 2 = true →
    s.log.staged.length < 8192 → Gives (.writeRequest port p) s fun t => t.mem = s.mem ∧ t.fab.flows = s.fab.flows ∧
      ∃ r : Packet, Sent s t port (.packet port r) ∧ r.kind = 0x80 ∧ r.dst = p.src ∧ r.tag = p.tag ∧ r.status = st.code ∧ r.data = []) ∧
  (∀ (s : State) (port : Fin 64) (p : Packet) (x : FlowTgt), Admits s port p x → p.kind = 2 →
    (p.fseq = x.expected → x.expected < 2 ^ 32 → s.regionFor p.offset = none → Gives (.writeRequest port p) s fun t =>
      t.mem = s.mem ∧ Replies s t port p .eNotExported p.fseq []) ∧
    (∀ i, p.fseq = x.expected → x.expected < 2 ^ 32 → s.regionFor p.offset = some i → p.key ≠ s.get F.FAB_REGION_key i →
      Gives (.writeRequest port p) s fun t => t.mem = s.mem ∧ Replies s t port p .eKey p.fseq []) ∧
    (∀ d, 0 < d → d ≤ 128 → p.fseq = (x.expected + d) % 2 ^ 32 → x.expected < 2 ^ 32 → Gives (.writeRequest port p) s fun t =>
      t.mem = s.mem ∧ (∃ y, (t.flow p.src).tgt = some y ∧ y.expected = x.expected) ∧
      ∃ r : Packet, Sent s t port (.packet port r) ∧ r.kind = 0x81 ∧ r.dst = p.src ∧ r.tag = p.tag ∧ r.fseq = x.expected)))

/-- Flow contexts, result cache, flood rule and receive rings: a context that has been fetched is on die; an idle one is given up; an open
that waited 1 ms is answered E_TIMEOUT; cached results older than 200 µs go; more than 1,024 violations in 1 ms make a source's
violating packets be discarded for 10 ms; a receive ring's head moves as written and its disable resets it (R233, R235, R239, R241,
R244). -/
def Obligations.FabricHousekeeping : Prop :=
  (∀ (s : State) (node : Fin 1048576) (f : Flow), s.flow node = f → f.place = .fetching → f.src.isSome = true →
    (s.fab.held.any fun h => h.2.src == node.val || (s.flow h.2.src).place == .backing) = false →
    (s.fab.onDie.length < 16384 → Gives (.flowContextFetchDone true node false) s fun t =>
      t.flow node = { f with place := .onDie, touched := s.time } ∧ (∀ n, n ≠ node.val → t.flow n = s.flow n) ∧ t = { s with fab := t.fab }) ∧
    Gives (.flowContextFetchDone true node true) s fun t =>
      t.flow node = { hold := some s.time } ∧ (∀ n, n ≠ node.val → t.flow n = s.flow n) ∧ t = { s with fab := t.fab }) ∧
  (∀ (s : State) (node : Fin 1048576) (h : Nat), (s.flow node).hold = some h → Gives (.poisonedContextHoldEnd node) s fun t =>
    (t.flow node).hold = none ∧ (∀ n, n ≠ node.val → t.flow n = s.flow n) ∧ h + 1000000 ≤ t.time ∧ t = { s with time := t.time, fab := t.fab }) ∧
  (∀ (s : State) (node : Fin 1048576) (x : FlowSrc), (s.flow node).src = some x → s.fab.opens = [] → s.fab.busy node = false →
    (s.fab.ops.any fun o => o.node == node.val || o.nodes.contains node.val) = false → x.posted = none →
    Gives (.flowContextReclaim true node) s fun t =>
      (t.flow node).src = none ∧ (t.flow node).tgt = (s.flow node).tgt ∧ (∀ n, n ≠ node.val → t.flow n = s.flow n) ∧
      x.lastUse + 1000000 ≤ t.time ∧ t = { s with time := t.time, fab := t.fab }) ∧
  (∀ (s : State) (node : Fin 1048576) (e : Nat × Nat × Packet), (s.fab.opens.find? fun e => e.2.2.src == node.val) = some e →
    s.portReceives e.2.1 = true → Gives (.flowContextWaitTimeout node) s fun t =>
      t.fab.opens = s.fab.opens.erase e ∧ e.1 + 1000000 ≤ t.time ∧ t.mem = s.mem ∧
      ∃ r : Packet, Sent s t e.2.1 (.packet e.2.1 r) ∧ r.status = Status.eTimeout.code ∧ r.dst = e.2.2.src ∧ r.tag = e.2.2.tag) ∧
  (∀ s : State, exec .resultCacheSweep s =
    .next { s with fab := { s.fab with cache := s.fab.cache.filter fun c => decide (s.time < c.time + 200000) } }) ∧
  (∀ (s : State) (node : Fin 1048576), s.discarding node = false →
    let n := ((SMap.get [] s.fab.viol node).filter fun t => decide (s.time < t + 1000000)).length
    (1024 < n → Gives (.sourceViolationFlood node) s fun t =>
      t.discarding node = true ∧ (∀ k, k ≠ node.val → t.discarding k = s.discarding k) ∧ t = { s with fab := t.fab }) ∧
    (n ≤ 1024 → exec (.sourceViolationFlood node) s = .next s)) ∧
  (∀ (s : State) (node : Fin 1048576) (since : Nat), SMap.get none s.fab.discard node = some since → Gives (.violationDiscardEnd node) s fun t =>
    t.discarding node = false ∧ since + 10000000 ≤ t.time ∧ t = { s with time := t.time, fab := t.fab }) ∧
  (∀ (s : State) (n : Fin 1024) (j : Nat) (w : BarAcc), Reaches s .FAB_RXQ_PTR n w j → Gives (.rxqHeadWrite n w) s fun t =>
    t.get F.FAB_RXQ_PTR_head j = w.merge F.FAB_RXQ_PTR_head (s.get F.FAB_RXQ_PTR_head j) % 2 ^ 16 ∧
    OnlyRegs [F.FAB_RXQ_PTR_head.key j] s t) ∧
  (∀ (s : State) (n : Fin 1024) (j : Nat) (w : BarAcc), Reaches s .FAB_RXQ_CFG n w j → s.isSet F.FAB_RXQ_CFG_enable j = true →
    w.touches F.FAB_RXQ_CFG_enable = true → s.after w F.FAB_RXQ_CFG_enable j = 0 → Gives (.rxqDisable n w) s fun t =>
      t.get F.FAB_RXQ_CFG_enable j = 0 ∧ t.get F.FAB_RXQ_PTR_head j = 0 ∧ t.get F.FAB_RXQ_PTR_tail j = 0 ∧
      OnlyRegs [F.FAB_RXQ_CFG_enable.key j, F.FAB_RXQ_PTR_head.key j, F.FAB_RXQ_PTR_tail.key j] s t)

/-- BOARD_WINDOW_ACCESS: in the device's own slot it is an access to local memory; in another node's it becomes one operation towards
that node; a slot that names none is refused with E_BOUNDS (R222, R223). -/
def Obligations.BoardWindow : Prop :=
  ∀ (s : State) (addr : BitVec 48) (n : Nat), isBoard addr.toNat = true →
    (s.winPlace addr.toNat n = .refused → Gives (.boardWindowAccess addr (.read n)) s fun t =>
      t.out = .accessEnd .eBounds [] false :: s.out ∧ t = { s with out := t.out }) ∧
    (∀ x, s.winPlace addr.toNat n = .here x → s.memHeld x n = false → Gives (.boardWindowAccess addr (.read n)) s fun t =>
      let r := s.memRead x n
      t.out = .accessEnd (if r.poisoned then .ePoison else .ok) r.bytes r.poisoned :: s.out ∧ t = { s with out := t.out }) ∧
    (∀ x (d : List Byte), d.length = n → s.winPlace addr.toNat n = .here x → s.memHeld x n = false →
      Gives (.boardWindowAccess addr (.write d)) s fun t => t.mem = (s.memWrite x d).1.mem ∧ t.regs = s.regs) ∧
    (∀ node off key, s.winPlace addr.toNat n = .remote node off key → s.excludedNode node = false → 0 < n → s.opsSettled →
      Gives (.boardWindowAccess addr (.read n)) s fun t =>
        (∃ o, t.fab.ops = s.fab.ops ++ [o] ∧ o.origin = .window ∧ o.code = 1 ∧ o.node = node ∧ o.off = off ∧ o.key = key ∧ o.len = n) ∧
        t = { s with fab := t.fab })

/-! ## Window dies (chapter 09) -/

/-- Training: TRAINING_STEP_DONE opens the next step, the sixth with FEC_MODE, and a port with too few usable
wavelengths fails; TRAINING_STEP_TIMEOUT comes at the
step's limit; TRAINING_RETRY_TIMER and PARTNER_LIGHT_DETECT start it, PORT_DOWN, PORT_RETRAIN_REQ and RETRAIN restart it at step 1;
RECAL_REQ takes the port down until RING_CALIBRATION_DONE trains it or reports it; PORT_HOLD_EXPIRE makes a held port search (R268,
R269, R272, R278, Table 9.10).
Rings and light: a tuning loop moves its heater by at most 8 codes and keeps it within 0-1023; an activity index moves each filter one
step and an absent one counts as 0; launch powers are kept and sent every 1 ms; a located loss is recorded in its port's register
(R248-R250, R260, R266, R267; within the 8 codes the move is open, log entry 1). -/
def Obligations.PortTraining : Prop :=
  ((∀ (s : State) (p : Fin 64) (r : TrainRead), s.portState p = 2 →
    ((s.port p).step = 1 → Gives (.trainingStepDone p r) s fun t =>
      (t.port p).step = 2 ∧ (t.port p).stepAt = s.time ∧ (∀ q, q ≠ p.val → t.port q = s.port q) ∧ t = { s with ports := t.ports }) ∧
    ((s.port p).step = 2 → Gives (.trainingStepDone p r) s fun t =>
      (t.port p).step = 3 ∧ (t.port p).usable = (List.range 18).filter (fun n => r.usable.contains n) ∧
      (∀ q, q ≠ p.val → t.port q = s.port q) ∧ t = { s with ports := t.ports }) ∧
    ((s.port p).step = 5 →
      let left := (s.port p).usable.filter fun n => r.usable.contains n && !(s.port p).optBad.contains n
      (s.minWidth p ≤ left.length → Gives (.trainingStepDone p r) s fun t =>
        (t.port p).step = 6 ∧ (t.port p).usable = left ∧ Sent s t p (.ctl p (.fecMode (s.isSet F.WIN_PORT_CFG_fec_long p))) ∧
        t = { s with ports := t.ports, out := t.out }) ∧
      (left.length < s.minWidth p → (s.port p).fails < 15 → Gives (.trainingStepDone p r) s fun t =>
        (t.port p).step = 0 ∧ (t.port p).fails = (s.port p).fails + 1 ∧ (t.port p).retryAt = s.time + 1000000 ∧
        t.portState p = 2 ∧ t = { s with ports := t.ports }) ∧
      (left.length < s.minWidth p → 15 ≤ (s.port p).fails → Gives (.trainingStepDone p r) s fun t =>
        (t.port p).trainFail = true ∧ (t.port p).retryAt = s.time + 100000000 ∧ t = { s with ports := t.ports }))) ∧
  (∀ (s : State) (p : Fin 64), s.portState p = 2 → (s.port p).step = 4 → Gives (.trainingStepTimeout p) s fun t =>
    (t.port p).step = 0 ∧ (t.port p).fails = (s.port p).fails + 1 ∧ (s.port p).stepAt + 420000 ≤ t.time ∧
    t = { s with time := t.time, ports := t.ports }) ∧
  (∀ (s : State) (p : Fin 64), s.portState p = 2 → (s.port p).step = 0 → Gives (.trainingRetryTimer p) s fun t =>
    (t.port p).step = 1 ∧ t.portState p = 2 ∧ (s.port p).retryAt ≤ t.time ∧ (t.port p).stepAt = t.time ∧
    t = { s with time := t.time, ports := t.ports, regs := t.regs } ∧ KeepsRegs [F.WIN_PORT_STAT_state.key p] s t) ∧
  (∀ (s : State) (p : Fin 64), s.portState p = 1 ∨ s.portState p = 5 → Gives (.partnerLightDetect p) s fun t =>
    (t.port p).step = 3 ∧ t.portState p = 2 ∧ (∀ q, q ≠ p.val → t.port q = s.port q) ∧ t = { s with ports := t.ports, regs := t.regs } ∧
    KeepsRegs [F.WIN_PORT_STAT_state.key p] s t) ∧
  (∀ (s : State) (p : Fin 64), s.portState p = 3 ∨ s.portState p = 4 →
    let back (t : State) := (t.port p).step = 1 ∧ t.portState p = 2 ∧ (t.port p).helloDone = false ∧ (t.port p).txItems = [] ∧
      t.get F.WIN_PORT_STAT_down_evt p = 1 ∧
      t.get F.WIN_PORT_STAT_retrains p = min (2 ^ F.WIN_PORT_STAT_retrains.width - 1) (s.get F.WIN_PORT_STAT_retrains p + 1) ∧
      t.mem = s.mem ∧ t.spad = s.spad ∧ t.hubsp = s.hubsp
    Gives (.portDown p) s back ∧ Gives (.retrain p) s back ∧
    (∀ (w : BarAcc) (i : Fin 65), Reaches s .WIN_PORT_CTRL i w p → w.bits F.WIN_PORT_CTRL_retrain_req = 1 →
      Gives (.portRetrainReq i w) s back)) ∧
  (∀ (s : State) (p : Fin 64), s.portState p ≠ 3 → s.portState p ≠ 4 → exec (.portDown p) s = .next s) ∧
  (∀ (s : State) (i : Fin 65) (j : Nat) (w : BarAcc), Reaches s .WIN_PORT_CTRL i w j → w.bits F.WIN_PORT_CTRL_recal_req = 1 →
    s.isSet F.WIN_PORT_CFG_enable (min j 63) = true → Gives (.recalReq i w) s fun t =>
      t.portState j = 0 ∧ (t.port j).calibrated = false ∧ (t.port j).step = 0 ∧ (t.port j).txItems = [] ∧ t.mem = s.mem) ∧
  (∀ (s : State) (p : Fin 65), s.portState p = 0 → (s.port p).calibrated = false → s.boot.phase = .ready →
    (Gives (.ringCalibrationDone p true) s fun t =>
      (t.port p).calibrated = true ∧ (t.port p).step = 1 ∧ t.portState p = 2 ∧ t = { s with ports := t.ports, regs := t.regs } ∧
      KeepsRegs [F.WIN_PORT_STAT_state.key p] s t) ∧
    Gives (.ringCalibrationDone p false) s fun t =>
      t.out = .pldm (.portCalFail p) :: s.out ∧ t = { s with mgmt := t.mgmt, out := t.out }) ∧
  (∀ (s : State) (p : Fin 64) (h : Nat), (s.port p).heldSince = some h → s.portState p = 6 → Gives (.portHoldExpire p) s fun t =>
    t.portState p = 1 ∧ (t.port p).heldSince = none ∧ h + 1000000000 ≤ t.time ∧
    t = { s with time := t.time, ports := t.ports, regs := t.regs } ∧ KeepsRegs [F.WIN_PORT_STAT_state.key p] s t)) ∧
  ((∀ (s : State) (ring : Fin 2340) (offset : Int), ring.val / 2 < 1161 → (ring.val / 2 / 18 = 64 ∨ (s.port (ring.val / 2 / 18)).calibrated = true) →
    let fld := if ring.val % 2 = 0 then F.WIN_LANE_STAT_tx_heater else F.WIN_LANE_STAT_rx_heater
    s.get fld (ring.val / 2) ≤ 1023 → -12 ≤ offset → offset ≤ 12 → Gives (.tuningLoopUpdate ring offset) s fun t =>
      t.get fld (ring.val / 2) ≤ 1023 ∧ t.get fld (ring.val / 2) ≤ s.get fld (ring.val / 2) + 8 ∧
      s.get fld (ring.val / 2) ≤ t.get fld (ring.val / 2) + 8 ∧ t.mem = s.mem ∧ t.fab = s.fab) ∧
  (∀ (s : State) (w : Fin 4) (a0 a1 a2 a3 : BitVec 8),
    let tau (c : Nat) := max 1 (s.get F.WIN_FF_CFG_tau_us (4 * w + c))
    (Gives (.activityIndex w a0 a1 a2 a3) s fun t =>
      (∀ c < 4, t.filtered w c = filterStep (s.filtered w c) ([a0.toNat, a1.toNat, a2.toNat, a3.toNat].getD c 0) (tau c)) ∧
      SMap.get 0 t.win.indexAt w = s.time ∧ t = { s with win := t.win }) ∧
    Gives (.activityIndexAbsent w) s fun t =>
      (∀ c < 4, t.filtered w c = filterStep (s.filtered w c) 0 (tau c)) ∧ SMap.get 0 s.win.indexAt w + 3000 ≤ t.time ∧
      t = { s with time := t.time, win := t.win }) ∧
  (∀ (s : State) (p : Fin 64) (v : List Int), s.linkUp p = true → s.portState p ≠ 6 → Gives (.launchPower p v) s fun t =>
    t.port p = { s.port p with launch := v } ∧ (∀ q, q ≠ p.val → t.port q = s.port q) ∧ t = { s with ports := t.ports }) ∧
  (∀ (s : State) (p : Fin 64), s.portState p = 3 → Gives (.launchPowerTimer p) s fun t =>
    (s.port p).lastLaunch + 1000000 ≤ t.time ∧ (t.port p).lastLaunch = t.time ∧
    Sent s t p (.ctl p (.launchPower (s.port p).reading.bank)) ∧ t.regs = s.regs) ∧
  (∀ (s : State) (p : Fin 65) (r : OptRead), r.drop = [] →
    ((s.port p).locate r = none → Gives (.lossLocation p r) s fun t =>
      t.port p = { s.port p with reading := r } ∧ t = { s with ports := t.ports }) ∧
    (∀ l, (s.port p).locate r = some l → l.stage ≠ 1 → l.stage < 8 → l.wavelength < 32 → Gives (.lossLocation p r) s fun t =>
      t.get F.WIN_LOSS_STAT_stage p = l.stage ∧ t.get F.WIN_LOSS_STAT_wavelength p = l.wavelength ∧
      t.get F.WIN_LOSS_STAT_excess p = min l.excess.toNat 0x7FF ∧ t.isSet F.WIN_LOSS_STAT_failed p = decide (600 ≤ l.excess) ∧
      t.get F.WIN_PORT_STAT_loss_evt p = 1 ∧ t = { s with ports := t.ports, regs := t.regs })))

/-- Flits: one in order that passes its CRC is taken and one that fails asks for its replay; an acknowledgement lets go what it covers;
16 µs without one replay what is outstanding; a flood of violations retrains the port, and the third within 1 s holds it (R255-R258,
R278).
Lanes: a lane in the stripe that fails is marked, told to the partner, and a map that puts a spare in its place is proposed; a good
LANE_MAP is adopted and a bad one is a violation; a map unanswered for 10 µs is sent again; an alias is recovered; the host port's
spare steps in at once (R261-R265, R270).
FEC_MODE, DRAIN, PORT_DRAINED, EXPECT_DARK and DARK_WAIT_TIMEOUT: the partner's mode is kept in training; a DRAIN stops new flows on
the port; a drained port adopts its shadow; the ports a legal EXPECT_DARK names wait in the dark, and one whose wait ends searches
and, as the last, ends the work with E_TIMEOUT; an illegal field ends it with E_FORMAT (R259, R260, R271-R273). -/
def Obligations.LinkService : Prop :=
  ((∀ (s : State) (p : Fin 64) (f : Flit), s.linkUp p = true → f.corrected = [] → f.newMap = false → f.rsvFlag = false → f.nak = false →
    f.pause = false → (s.port p).txItems = [] → (s.port p).txWait = [] → f.ack = (s.port p).txNext → (s.port p).txNext < 65536 →
    (f.crcOk = true → f.typ = .linkControl → f.badCtl = false → f.seq = (s.port p).rxNext → Gives (.linkFlitReceive p f) s fun t =>
      (t.port p).rxNext = ((s.port p).rxNext + 1) % 65536 ∧ (∀ q, q ≠ p.val → t.port q = s.port q) ∧ t = { s with ports := t.ports }) ∧
    (f.crcOk = false → (s.port p).nakAt = none → Gives (.linkFlitReceive p f) s fun t =>
      (t.port p).rxNext = (s.port p).rxNext ∧ t.out = .linkNak p (s.port p).rxNext :: s.out ∧ (t.port p).nakAt = some s.time ∧
      t.get F.WIN_EVT_CNT_count (16 * p) = min (2 ^ F.WIN_EVT_CNT_count.width - 1) (s.get F.WIN_EVT_CNT_count (16 * p) + 1) ∧
      t = { s with ports := t.ports, regs := t.regs, out := t.out })) ∧
  (∀ (s : State) (p : Fin 64) (f : Flit) (i : TxItem), s.linkUp p = true → f.corrected = [] → f.newMap = false → f.rsvFlag = false →
    f.nak = false → f.crcOk = true → f.typ = .idle → (s.port p).txItems = [i] → (s.port p).txWait = [] → 0 < i.n → i.n < 65536 →
    (s.port p).txNext < 65536 → f.ack = (s.port p).txNext → i.seq = ((s.port p).txNext + 65536 - i.n) % 65536 →
    Gives (.linkFlitReceive p f) s fun t =>
      (t.port p).txItems = [] ∧ (t.port p).paused = f.pause ∧ (t.port p).ackAt = s.time ∧ t = { s with ports := t.ports }) ∧
  (∀ (s : State) (p : Fin 64) (f : Flit), s.linkUp p = false → s.portState p ≠ 2 → exec (.linkFlitReceive p f) s = .next s) ∧
  (∀ (s : State) (p : Fin 64) (i : TxItem) (l : List TxItem), s.linkUp p = true → (s.port p).txItems = i :: l →
    (∀ x ∈ i :: l, x.replays < 7) → Gives (.linkReplayTimeout p) s fun t =>
      t.out = .replay p i.seq :: s.out ∧ (s.port p).ackAt + 16000 ≤ t.time ∧ (t.port p).ackAt = t.time ∧
      (t.port p).txItems.map (fun x => x.seq) = (i :: l).map (fun x => x.seq) ∧
      t = { s with time := t.time, ports := t.ports, regs := t.regs, out := t.out }) ∧
  (∀ (s : State) (p : Fin 64), ((s.port p).viols.filter fun t => decide (s.time < t + 1000000)).length ≤ 1024 →
    exec (.linkViolationFlood p) s = .next s) ∧
  (∀ (s : State) (p : Fin 64), 1024 < ((s.port p).viols.filter fun t => decide (s.time < t + 1000000)).length →
    (s.portState p = 3 ∨ s.portState p = 4) →
    let n := ((s.port p).floods.filter fun t => decide (s.time < t + 1000000000)).length
    (n < 2 → Gives (.linkViolationFlood p) s fun t =>
      (t.port p).viols = [] ∧ (t.port p).step = 1 ∧ t.portState p = 2 ∧ (t.port p).floods.length = n + 1) ∧
    (2 ≤ n → Gives (.linkViolationFlood p) s fun t =>
      (t.port p).viols = [] ∧ t.portState p = 6 ∧ (t.port p).heldSince = some s.time ∧ (t.port p).step = 0))) ∧
  ((∀ (s : State) (p : Fin 65) (n : Fin 18) (c : LaneFault), s.inStripe p n = false → exec (.laneFailDetect p n c) s = .next s) ∧
  (∀ (s : State) (p : Fin 65) (n : Fin 18) (c : LaneFault), p ≠ 64 → s.inStripe p n = true → (s.port p).proposal = none →
    (s.port p).failed = [] →
    let m := changedMap (s.port p).rxMap [n.val] n 0
    s.minWidth p ≤ mapWidth m → Gives (.laneFailDetect p n c) s fun t =>
      t.get F.WIN_LANE_STAT_lock (18 * p + n) = 4 ∧ t.get F.WIN_LANE_STAT_fault_evt (18 * p + n) = 1 ∧
      t.get F.WIN_PORT_STAT_lane_evt p = 1 ∧ (t.port p).proposal = some (m, 1, s.time) ∧ (t.port p).rxMap = (s.port p).rxMap ∧
      (t.port p).failed = [n.val] ∧ t = { s with ports := t.ports, regs := t.regs, out := t.out }) ∧
  (∀ (s : State) (n : Fin 18) (c : LaneFault), s.inStripe 64 n = true → (s.port 64).failed = [] → Gives (.laneFailDetect 64 n c) s fun t =>
    (t.port 64).rxMap = changedMap (s.port 64).rxMap [n.val] n 0 ∧ t.get F.WIN_LANE_STAT_lock (18 * 64 + n) = 4 ∧
    t.portState 64 = s.portState 64 ∧ t = { s with ports := t.ports, regs := t.regs }) ∧
  (∀ (s : State) (p : Fin 64) (g : Fin 256) (m : LaneMap), s.linkUp p = true → s.portState p ≠ 6 →
    (s.goodMap p g m = true → Gives (.laneMap p g m) s fun t =>
      (t.port p).txMap = m ∧ t.get F.WIN_PORT_STAT_map_gen_tx p = g ∧ t = { s with ports := t.ports, regs := t.regs }) ∧
    (s.goodMap p g m = false → Gives (.laneMap p g m) s fun t =>
      (t.port p).txMap = (s.port p).txMap ∧ s.time ∈ (t.port p).viols ∧
      t.get F.WIN_EVT_CNT_count (16 * p + 3) = min (2 ^ F.WIN_EVT_CNT_count.width - 1) (s.get F.WIN_EVT_CNT_count (16 * p + 3) + 1) ∧
      t = { s with ports := t.ports, regs := t.regs })) ∧
  (∀ (s : State) (p : Fin 64) (m : List Nat) (k a : Nat), (s.port p).proposal = some (m, k, a) → k < 3 → s.linkUp p = true →
    Gives (.laneMapTimeout p) s fun t =>
      (t.port p).proposal = some (m, k + 1, t.time) ∧ a + 10000 ≤ t.time ∧
      Sent s t p (.ctl p (.laneMap ((s.get F.WIN_PORT_STAT_map_gen_rx p + 1) % 256) m)) ∧ t.regs = s.regs) ∧
  (∀ (s : State) (p : Fin 64) (n : Fin 18) (id : Fin 256), s.linkUp p = true → s.portState p ≠ 6 → Gives (.laneFault p n .txAlias id) s fun t =>
    t.get F.WIN_LANE_STAT_lock (18 * p + n) = 3 ∧ (n.val, true) ∈ (t.port p).recovering ∧ t.get F.WIN_PORT_STAT_lane_evt p = 1 ∧
    t = { s with ports := t.ports, regs := t.regs }) ∧
  (∀ (s : State) (n : Fin 18) (id : Fin 256), s.inStripe 64 n = true → id.val = n + 1 → Gives (.aliasLockDetect 64 n false id) s fun t =>
    t.get F.WIN_LANE_STAT_lock (18 * 64 + n) = 3 ∧ (n.val, false) ∈ (t.port 64).recovering ∧
    t = { s with ports := t.ports, regs := t.regs }) ∧
  (∀ (s : State) (p : Fin 65) (n : Fin 18), ((s.port p).recovering.find? fun e => e.1 == n.val) = some (n.val, true) →
    (Gives (.aliasRecoveryEnd p n true) s fun t =>
      t.get F.WIN_LANE_STAT_lock (18 * p + n) = 2 ∧ (t.port p).recovering = (s.port p).recovering.erase (n.val, true) ∧
      t = { s with ports := t.ports, regs := t.regs }) ∧
    Gives (.aliasRecoveryEnd p n false) s fun t =>
      t.get F.WIN_LANE_STAT_lock (18 * p + n) = 4 ∧ (t.port p).recovering = (s.port p).recovering.erase (n.val, true) ∧
      t = { s with ports := t.ports, regs := t.regs })) ∧
  ((∀ (s : State) (p : Fin 64) (long : Bool), s.portState p = 2 → Gives (.fecMode p long) s fun t =>
    t.port p = { s.port p with partnerLong := long } ∧ (∀ q, q ≠ p.val → t.port q = s.port q) ∧ t = { s with ports := t.ports }) ∧
  (∀ (s : State) (p : Fin 64) (reason : Fin 3) (us : BitVec 32), s.fab.reqs = [] →
    (s.portState p = 3 → Gives (.drain p reason us) s fun t =>
      t.portState p = 4 ∧ OnlyRegs [F.WIN_PORT_STAT_state.key p] s t) ∧
    (s.portState p ≠ 3 → exec (.drain p reason us) s = .next s)) ∧
  (∀ (s : State) (p : Fin 64), s.portState p = 4 → (s.port p).adopting = true → (s.port p).txItems = [] →
    s.incoming F.WIN_PORT_CFG_enable p = 1 → Gives (.portDrained p) s fun t =>
      t.portState p = 2 ∧ (t.port p).step = 1 ∧ (t.port p).adopting = false ∧ t.get F.WIN_PORT_CFG_enable p = 1 ∧
      t.get F.WIN_PORT_CFG_min_width p = s.incoming F.WIN_PORT_CFG_min_width p % 2 ^ F.WIN_PORT_CFG_min_width.width ∧
      t.get F.WIN_PORT_STAT_down_evt p = 1) ∧
  (∀ (s : State) (p : Fin 64), (s.port p).adopting = false → exec (.portDrained p) s = .next s) ∧
  (∀ (s : State) (w : Work) (it : Item), s.fresh w 0x0D = some it →
    (∀ d, s.darkFormat it.payload = some d → Gives (.expectDark w) s fun t =>
      EndedAs s t w .eFormat d ∧ t = { s with queues := t.queues, graphs := t.graphs }) ∧
    (s.darkFormat it.payload = none → s.fab.reqs = [] → Gives (.expectDark w) s fun t =>
      t.item w = some { it with phase := .busy } ∧
      (∀ p ∈ darkPorts it.payload, t.portState p = 5 ∧
        ∃ d, (t.port p).dark = some d ∧ d.work = w ∧ d.until_ = s.time + fieldAt it.payload 8 4 * 1000) ∧
      (∀ p, p ∉ darkPorts it.payload → t.portState p = s.portState p ∧ t.port p = s.port p))) ∧
  (∀ (s : State) (p : Fin 64) (d : DarkWait) (it : Item), (s.port p).dark = some d → s.item d.work = some it → it.phase = .busy →
    darkPorts it.payload = [p.val] → Gives (.darkWaitTimeout p) s fun t =>
      t.portState p = 1 ∧ (t.port p).dark = none ∧ d.until_ ≤ t.time ∧ t.resultOf d.work = some ⟨.eTimeout, 0⟩))

/-! ## Collectives (chapter 10) -/

/-- COLLECTIVE_SETUP, JOIN, its timers, TEARDOWN, and the ends of a session: a legal descriptor makes an idle session joining, with its
staging taken from the pool; the last matching JOIN makes it ready and ends the set-up with OK, and no match by its limit returns it
to idle with E_TIMEOUT; a teardown gives the staging back; an ABORT and a neighbour's silence break it, with the first cause and node
kept (R281-R285, R299, R300). -/
def Obligations.CollectiveSessions : Prop :=
  (∀ (s : State) (w : Work) (it : Item), s.fresh w 0x05 = some it → fieldAt it.payload 0 1 = 0 →
    let k := fieldAt it.payload 1 1
    let a := fieldAt it.payload 8 8
    let d := s.memRead a 64
    let x := (s.sessionValues d.bytes)
    let fp := 2 * x.2.1 * x.1 / 128
    (∀ f, colFormat it.payload = some f → Gives (.collectiveSetup w) s fun t =>
      EndedAs s t w .eFormat f ∧ t = { s with queues := t.queues, graphs := t.graphs }) ∧
    (colFormat it.payload = none → s.isSet F.SEC_EXCL_STAT_shutter 0 = false → s.sessState k ≠ 0 → Gives (.collectiveSetup w) s fun t =>
      EndedAs s t w .eFormat 33 ∧ t = { s with queues := t.queues, graphs := t.graphs }) ∧
    (colFormat it.payload = none → s.isSet F.SEC_EXCL_STAT_shutter 0 = false → s.sessState k = 0 → s.mayLocal it.ctx a 64 false = true →
      s.memHeld a 64 = false → d.poisoned = false → s.sessionBad k d.bytes = false → fp ≤ s.get F.COL_POOL_free_units 0 →
      sessionEdges s.ownNode d.bytes ≠ some [] → Gives (.collectiveSetup w) s fun t =>
        t.sessState k = 1 ∧ t.get F.COL_SESSION_STAT_generation k = fieldAt d.bytes 4 2 ∧
        t.get F.COL_POOL_free_units 0 = (s.get F.COL_POOL_free_units 0 - fp) % 2 ^ F.COL_POOL_free_units.width ∧
        some (t.sess k).edges = sessionEdges s.ownNode d.bytes ∧ (t.sess k).setup = some w ∧ (t.sess k).run = none ∧
        t.item w = some { it with phase := .busy } ∧ t.mem = s.mem)) ∧
  (∀ (s : State) (port : Fin 64) (p : ColPacket) (e : ColEdge) (w : Work) (it : Item), p.kind = 0x93 → s.kept = false →
    s.portReceives port = true → s.unitFrozen 0x40 = false → p.rsv = false → p.length = 8 → p.data.length = 8 → p.dst = s.ownNode → p.tree < 2 →
    p.session < 8 → s.ownDigest ≠ 0 → leNat p.data = s.ownDigest → s.sessState p.session = 1 → (s.sess p.session).edges = [e] →
    e.node = p.src → (s.sess p.session).setup = some w → s.item w = some it → it.phase = .busy →
    (s.joinMatches p e = true → Gives (.join port p) s fun t =>
      t.sessState p.session = 2 ∧ t.resultOf w = some ⟨.ok, 0⟩ ∧ (t.sess p.session).setup = none ∧
      ∃ e', (t.sess p.session).edges = [e'] ∧ e'.joined = true ∧ e'.epoch = p.srcEpoch ∧ e'.node = e.node) ∧
    (s.joinMatches p e = false → Gives (.join port p) s fun t =>
      t.sessState p.session = 0 ∧ t.resultOf w = some ⟨.eProtocol, 0⟩)) ∧
  (∀ (s : State) (k : Fin 8), s.sessState k = 1 →
    (Gives (.joinTimer k) s fun t =>
      (s.sess k).lastJoin + 100000 ≤ t.time ∧ (t.sess k).lastJoin = t.time ∧ t.sessState k = 1 ∧ t.mem = s.mem) ∧
    (∀ w it, (s.sess k).setup = some w → s.item w = some it → it.phase = .busy → Gives (.joinLimitExpire k) s fun t =>
      t.sessState k = 0 ∧ (s.sess k).since + (s.sess k).joinMs * 1000000 ≤ t.time ∧ t.resultOf w = some ⟨.eTimeout, 0⟩ ∧
      t.get F.COL_POOL_free_units 0 = (s.get F.COL_POOL_free_units 0 + (s.sess k).footprint) % 2 ^ F.COL_POOL_free_units.width ∧
      (t.sess k).edges = [])) ∧
  (∀ (s : State) (w : Work) (it : Item), s.fresh w 0x05 = some it → fieldAt it.payload 0 1 = 5 → colFormat it.payload = none →
    let k := fieldAt it.payload 1 1
    ((s.sessState k = 2 ∨ s.sessState k = 4) → (s.sess k).run = none → (s.sess k).waiting = [] → Gives (.teardown w) s fun t =>
      t.sessState k = 0 ∧ t.resultOf w = some ⟨.ok, 0⟩ ∧
      t.get F.COL_POOL_free_units 0 = (s.get F.COL_POOL_free_units 0 + (s.sess k).footprint) % 2 ^ F.COL_POOL_free_units.width) ∧
    (s.sessState k = 2 → (s.sess k).run ≠ none → Gives (.teardown w) s fun t =>
      EndedAs s t w .eFormat 33 ∧ t = { s with queues := t.queues, graphs := t.graphs })) ∧
  (∀ (s : State) (port : Fin 64) (p : ColPacket), p.kind = 0x92 → s.kept = false → s.portReceives port = true →
    s.unitFrozen 0x40 = false → p.rsv = false → p.length = p.data.length → p.dst = s.ownNode → p.tree < 2 → p.session < 8 →
    s.sessState p.session = 2 → p.generation = s.get F.COL_SESSION_STAT_generation p.session → p.key = (s.sess p.session).key →
    s.get F.COL_SESSION_STAT_cause p.session = 0 → (s.sess p.session).run = none → Gives (.abortChunk port p) s fun t =>
      t.sessState p.session = 4 ∧ t.get F.COL_SESSION_STAT_cause p.session = p.fmtCause % 2 ^ F.COL_SESSION_STAT_cause.width ∧
      t.get F.COL_SESSION_STAT_lost_node p.session = p.src % 2 ^ F.COL_SESSION_STAT_lost_node.width ∧
      t.get F.COL_SESSION_STAT_abort_evt p.session = 1 ∧ (t.sess p.session).waiting = [] ∧ t.mem = s.mem) ∧
  (∀ (s : State) (k : Fin 8) (n : Fin 1048576) (e : ColEdge), ((s.sess k).edges.find? fun e => e.node == n.val) = some e →
    s.sessState k = 2 → (s.sess k).run = none → s.get F.COL_SESSION_STAT_cause k = 0 → Gives (.sessionTimeout k n) s fun t =>
      t.sessState k = 4 ∧ t.get F.COL_SESSION_STAT_cause k = 1 ∧ t.get F.COL_SESSION_STAT_lost_node k = n ∧
      e.heard + (s.sess k).timeout * 100000 ≤ t.time ∧ t.mem = s.mem)

/-- ALL_REDUCE, REDUCE, BROADCAST, BARRIER and COLLECTIVE_RUN_START: a legal operation enters its session's line, one on an idle session
ends with E_FORMAT and on a broken one with E_PEER_LOST; a ready session's first run starts and takes the next run number (R283,
R286, R287). -/
def Obligations.CollectiveRuns : Prop :=
  (∀ (s : State) (w : Work) (it : Item) (op : Nat) (c : Instr), s.fresh w 0x05 = some it → fieldAt it.payload 0 1 = op →
    (op, c) ∈ [(1, Instr.allReduce w), (2, .reduce w), (3, .broadcast w), (4, .barrier w)] →
    let b := it.payload
    let k := fieldAt b 1 1
    let n := fieldAt b 24 8 * colElem (fieldAt b 2 1)
    (∀ f, colFormat b = some f → Gives c s fun t => EndedAs s t w .eFormat f ∧ t = { s with queues := t.queues, graphs := t.graphs }) ∧
    (colFormat b = none → s.isSet F.SEC_EXCL_STAT_shutter 0 = false →
      (s.sessState k = 0 → Gives c s fun t => EndedAs s t w .eFormat 33 ∧ t = { s with queues := t.queues, graphs := t.graphs }) ∧
      (op = 4 ∨ (s.mayLocal it.ctx (fieldAt b 8 8) n false = true ∧ s.mayLocal it.ctx (fieldAt b 16 8) n true = true) →
        (s.sessState k = 4 → Gives c s fun t => EndedAs s t w .ePeerLost 0 ∧ t = { s with queues := t.queues, graphs := t.graphs }) ∧
        (s.sessState k ≠ 0 → s.sessState k ≠ 4 → Gives c s fun t =>
          t.item w = some { it with phase := .busy } ∧
          (∃ r, (t.sess k).waiting = (s.sess k).waiting ++ [r] ∧ r.work = w ∧ r.op = op ∧ r.fmt = fieldAt b 2 1 ∧ r.src = fieldAt b 8 8 ∧
            r.dst = fieldAt b 16 8 ∧ r.count = fieldAt b 24 8) ∧
          t = { s with col := t.col, queues := t.queues, graphs := t.graphs })))) ∧
  (∀ (s : State) (k : Fin 8) (r : ColRun) (rest : List ColRun), (s.sess k).waiting = r :: rest → s.sessState k = 2 →
    s.colMay r.ctxId = true → 256 ≤ s.adderLanes →
    (r.op = 4 ∨ (s.memHeld r.src (r.count * colElem r.fmt) = false ∧ s.memHeld r.dst (r.count * colElem r.fmt) = false)) →
    Gives (.collectiveRunStart k) s fun t =>
      (t.sess k).waiting = rest ∧ (t.sess k).nextRun = ((s.sess k).nextRun + 1) % 65536 ∧ (t.sess k).lastOp = r.op ∧
      t.get F.COL_SESSION_STAT_run k = (s.sess k).nextRun % 2 ^ F.COL_SESSION_STAT_run.width) ∧
  (∀ (s : State) (k : Fin 8), (s.sess k).waiting = [] ∨ s.sessState k ≠ 2 → exec (.collectiveRunStart k) s = .next s)

/-- CHUNK, CREDIT, the keepalive and the retransmission of chunks, and COL_POOL_WRITE: a child's piece is added element by element into
its slot's sums; the parent's piece is stored at its place in dst; a credit sets the limit and raises the acknowledgement; 100 µs
bring credits and 20 µs of silence bring chunks again; the pool moves only while every session is idle (R281, R288, R291-R293). -/
def Obligations.CollectiveData : Prop :=
  (∀ (s : State) (port : Fin 64) (p : ColPacket) (e : ColEdge) (r : ColRun) (adder : List (List Nat)), p.kind = 0x90 → s.kept = false →
    s.portReceives port = true → s.unitFrozen 0x40 = false → p.rsv = false → p.length = p.data.length → p.dst = s.ownNode → p.tree < 2 →
    p.session < 8 → s.sessState p.session = 3 → (s.sess p.session).edge p.tree p.src = some e → e.joined = true → s.agrees p e = true →
    (s.sess p.session).run = some r → p.run = r.number → p.op = r.op → p.fmtCause = r.fmt → p.count = r.count → p.down = e.parent →
    p.seq < e.granted →
    let c := (s.sess p.session).chunk
    p.seq < r.total c p.tree → p.piece < r.pieces c p.tree p.seq → p.data.length = min 4096 (r.wire c p.tree p.seq - 4096 * p.piece) →
    e.rxAck ≤ p.seq → (p.seq, p.piece) ∉ e.held → p.poison = false → r.bad = [] →
    (p.down = true → r.op = 3 → r.slots = [] → r.unstored = false →
      let w := s.memWrite (r.dst + (r.span c p.tree p.seq).1 * colElem r.fmt + 4096 * p.piece) p.data
      w.2 = .ok → Gives (.chunk port p adder) s fun t => t.mem = w.1.mem ∧ t.spad = s.spad ∧ t.hubsp = s.hubsp) ∧
    (p.down = false → r.op = 1 → adder = [] → 256 ≤ s.adderLanes → r.written = [] → r.freed = [] →
      (∀ u ∈ r.slots, u.full = false) → (∃ e2 ∈ (s.sess p.session).edges, e2.tree = p.tree ∧ e2.parent = false ∧ e2.node ≠ p.src ∧
        e2.rxAck = 0 ∧ e2.held = []) →
      (∀ u ∈ r.slots, u.tree = p.tree) → Gives (.chunk port p adder) s fun t =>
        (∃ r', (t.sess p.session).run = some r' ∧ r'.slots = (r.addInto p.tree p.seq p.piece (widen r.fmt p.data)).slots) ∧
        t.mem = s.mem ∧ t.spad = s.spad ∧ t.hubsp = s.hubsp)) ∧
  (∀ (s : State) (port : Fin 64) (p : ColPacket) (e : ColEdge), p.kind = 0x91 → s.kept = false → s.portReceives port = true →
    s.unitFrozen 0x40 = false → p.rsv = false → p.length = p.data.length → p.dst = s.ownNode → p.tree < 2 → p.session < 8 →
    (s.sess p.session).edge p.tree p.src = some e → e.joined = true → s.agrees p e = true →
    (s.sessState p.session = 2 → (s.sess p.session).run = none → Gives (.credit port p) s fun t =>
      (∃ e', (t.sess p.session).edge p.tree p.src = some e' ∧ e'.credit = some (p.run, p.limit, p.ack) ∧ e'.heard = s.time) ∧
      t = { s with col := t.col }) ∧
    (∀ r, s.sessState p.session = 3 → (s.sess p.session).run = some r → p.run = r.number → p.op = 0 → Gives (.credit port p) s fun t =>
      ∃ e', (t.sess p.session).edge p.tree p.src = some e' ∧ e'.limit = p.limit ∧
        e'.ack = max e.ack (min p.ack (r.total (s.sess p.session).chunk p.tree)))) ∧
  (∀ (s : State) (k : Fin 8), s.sessState k = 2 ∨ s.sessState k = 3 → Gives (.creditKeepaliveTimer k) s fun t =>
    (s.sess k).lastKeep + 100000 ≤ t.time ∧ (t.sess k).lastKeep = t.time ∧ t.mem = s.mem) ∧
  (∀ (s : State) (k : Fin 8) (n : Fin 1048576) (e : ColEdge) (i : Nat), (s.sess k).edges = [e] → e.node = n → e.sent ≠ [] →
    e.resendable = some i → Gives (.chunkRetransmitTimeout k n) s fun t =>
      e.ackAt + 20000 ≤ t.time ∧ (∃ e', (t.sess k).edges = [e'] ∧ e'.ackAt = t.time ∧ e'.sent = e.sent) ∧ t.mem = s.mem) ∧
  (∀ (s : State) (w : BarAcc), Reaches s .COL_POOL 0 w 0 → (w.touches F.COL_POOL_size_mib || w.touches F.COL_POOL_base_mib) = true →
    s.setupLocked = false →
    (((List.range 8).any fun k => s.sessState k != 0) = true → exec (.colPoolWrite w) s = .next s) ∧
    (((List.range 8).any fun k => s.sessState k != 0) = false →
      let base := min 127 (w.merge F.COL_POOL_base_mib (s.get F.COL_POOL_base_mib 0))
      let size := min (128 - base) (max 1 (w.merge F.COL_POOL_size_mib (s.get F.COL_POOL_size_mib 0)))
      Gives (.colPoolWrite w) s fun t =>
        t.get F.COL_POOL_base_mib 0 = base ∧ t.get F.COL_POOL_size_mib 0 = size ∧ t.get F.COL_POOL_free_units 0 = 8 * size ∧
        OnlyRegs [F.COL_POOL_base_mib.key 0, F.COL_POOL_size_mib.key 0, F.COL_POOL_free_units.key 0] s t))

/-! ## Power and temperature (chapter 11) -/

/-- Feeds: FEED_SWITCH and FEED_SWITCH_BACK change the feed in use, counted and logged; FEED_OVERVOLTAGE makes a feed count as none;
HOLD_UP ends everything when neither feed stands at 40 V, HOLD_UP_RAILS_OFF and HUB_RAIL_FAULT turn the module off (R305-R308).
POWER_CONTROL_TICK, POWER_EVALUATION and what they raise: each microsecond shows the activity and the allowance and starts a new
count; the power counted is the larger of estimate and measurement, without a measurement 1.15 times the estimate plus 150 W; a cap
out of reach and a mismatch are logged in their time (R309, R310, R318-R321). -/
def Obligations.FeedsAndPower : Prop :=
  ((∀ (s : State) (va vb : Fin 8192), s.powered = true → s.pwr.overs = [] →
    s.get F.PWR_FEED_STAT_switches 0 < 2 ^ F.PWR_FEED_STAT_switches.width - 1 → s.log.staged.length < 8192 →
    (s.pwr.inUse = some .A → va.val < 4400 → 4400 ≤ vb.val → Gives (.feedSwitch va vb) s fun t =>
      t.pwr = { s.pwr with inUse := some .B } ∧ t.get F.PWR_STAT_feed 0 = 1 ∧ t.get F.PWR_FEED_STAT_switch_evt 0 = 1 ∧
      t.get F.PWR_FEED_STAT_switches 0 = s.get F.PWR_FEED_STAT_switches 0 + 1 ∧
      (∃ e, t.log.staged = s.log.staged ++ [e] ∧ e.body = .event 0x0002 0 [0, 1, va, vb]) ∧
      t = { s with regs := t.regs, pwr := t.pwr, log := t.log }) ∧
    (s.pwr.inUse = some .B → 4800 ≤ va.val → Gives (.feedSwitchBack va vb) s fun t =>
      t.pwr = { s.pwr with inUse := some .A } ∧ t.get F.PWR_STAT_feed 0 = 0 ∧
      (∃ e, t.log.staged = s.log.staged ++ [e] ∧ e.body = .event 0x0002 0 [1, 0, va, vb])) ∧
    (s.pwr.inUse = some .A → Gives (.feedSwitchBack va vb) s fun t =>
      t.pwr = s.pwr ∧ OnlyRegs [F.PWR_FEED_STAT_feed_a.key 0, F.PWR_FEED_STAT_feed_b.key 0] s t) ∧
    (∀ f : Feed, 6000 < (match f with | .A => va.val | .B => vb.val) → Gives (.feedOvervoltage f va vb) s fun t =>
      t.pwr = { s.pwr with overs := [(f, none)] } ∧ t.feedAs f = 0 ∧ t.get F.PWR_FEED_STAT_feed_a 0 = va ∧
      t.get F.PWR_FEED_STAT_feed_b 0 = vb ∧ t = { s with regs := t.regs, pwr := t.pwr })) ∧
  (∀ (s : State) (va vb : Fin 8192), s.powered = true → s.boot.phase ≠ .bringup → s.pwr.overs = [] → va.val < 4000 → vb.val < 4000 →
    s.dump.running = false → Gives (.holdUp va vb) s fun t =>
      t.get F.PWR_STAT_feed 0 = 2 ∧ t.queues = [] ∧ t.launches = [] ∧ t.graphs = [] ∧ t.rst.run = none ∧ t.log.staged = [] ∧
      (∀ c < 4, t.get F.HUB_ARRAY_CLK_current_mhz c = 0) ∧ t.mem.dram = s.mem.dram) ∧
  (∀ s : State, s.get F.PWR_STAT_feed 0 = 2 → s.boot.phase = .ready → Gives .holdUpRailsOff s fun t =>
    t.boot.phase = .off ∧ t.log.flash = s.log.flash ∧ t.mem.dram = {} ∧ t.queues = []) ∧
  (∀ s : State, s.powered = true → 0 ∈ s.boot.rails → s.dump.running = false → Gives .hubRailFault s fun t =>
    t.boot.phase = .offLatched ∧ t.mem.dram = {} ∧ t.queues = [] ∧ t.log.staged = []) ∧
  (∀ (s : State) (va vb : Fin 8192), s.powered = false →
    exec (.feedSwitch va vb) s = .next s ∧ exec (.feedSwitchBack va vb) s = .next s ∧ exec (.holdUp va vb) s = .next s ∧
    exec .hubRailFault s = .next s)) ∧
  ((∀ s : State, s.boot.island = true → Gives .powerControlTick s fun t =>
    let budget := min (s.pwr.beats + stepBeats) (s.nextAllow * stepBeats)
    t.get F.PWR_STAT_activity 0 = in255 s.pwr.beats ∧ t.get F.PWR_STAT_allowance 0 = in255 budget ∧ t.pwr.budget = budget ∧
    t.pwr.allow = s.nextAllow ∧ t.pwr.beats = 0 ∧ t.pwr.demand = [] ∧ s.pwr.tickAt + 1000 ≤ t.time ∧ t.pwr.tickAt = t.time ∧
    (∀ a, (t.arr a).stream = (s.arr a).stream ∧ (t.arr a).tiles = (s.arr a).tiles) ∧
    t = { s with time := t.time, regs := t.regs, pwr := t.pwr, arrays := t.arrays }) ∧
  (∀ (s : State) (est m : Nat) (va vb : Fin 8192) (f : Feed), s.powered = true → s.pwr.inUse = some f → s.boot.phase = .ready →
    let v := match f with | .A => va.val | .B => vb.val
    (Gives (.powerEvaluation (some m) est va vb) s fun t =>
      t.pwr.used = 100 * max est m ∧ t.pwr.lastMeas = m ∧ t.pwr.lost = false ∧ s.pwr.evalAt + 10000 ≤ t.time ∧ t.pwr.evalAt = t.time ∧
      t.pwr.limit = min ((if s.isSet F.HUB_BOOT_STATUS_ready 0 then s.get F.PWR_CAP_cap_w 0 else 1200) * 100) (88 * v) ∧
      t.get F.PWR_STAT_estimate_w 0 = min 0x3FFF est ∧ t.get F.PWR_STAT_measured_w 0 = min 0x3FFF m ∧
      t = { s with time := t.time, regs := t.regs, pwr := t.pwr }) ∧
    (s.pwr.lost = true → Gives (.powerEvaluation none est va vb) s fun t =>
      t.pwr.used = 115 * est + 15000 ∧ t.pwr.lost = true ∧ t.pwr.excSince = none)) ∧
  (∀ s : State, s.powered = true → s.pwr.lost = false → Gives .measurementLost s fun t =>
    t.pwr.lost = true ∧ t.pwr.used = 115 * s.get F.PWR_STAT_estimate_w 0 + 15000 ∧ t.get F.PWR_FEED_STAT_meas_lost_evt 0 = 1 ∧
    s.pwr.measAt + 100000 ≤ t.time ∧ t = { s with time := t.time, regs := t.regs, pwr := t.pwr }) ∧
  (∀ (s : State) (b : Nat), s.pwr.capSince = some b → s.log.staged.length < 8192 →
    (s.pwr.capRaised = false → Gives .capUnreachable s fun t =>
      t.pwr = { s.pwr with capRaised := true } ∧ b + 10000000 ≤ t.time ∧
      (∃ e, t.log.staged = s.log.staged ++ [e] ∧ e.body = .event 0x0004 0 []) ∧
      t = { s with time := t.time, regs := t.regs, pwr := t.pwr, log := t.log }) ∧
    (s.pwr.capRaised = true → exec .capUnreachable s = .next s)) ∧
  (∀ (s : State) (b : Nat), s.pwr.misSince = some b → s.log.staged.length < 8192 → Gives .estimateMismatch s fun t =>
    (s.pwr.misNext = 0 → b + 5000000 ≤ t.time) ∧ (s.pwr.misNext ≠ 0 → s.pwr.misNext ≤ t.time) ∧ t.pwr.misNext = t.time + 1000000000 ∧
    t.get F.PWR_FEED_STAT_mismatch_evt 0 = 1 ∧ (∃ e, t.log.staged = s.log.staged ++ [e] ∧ e.body = .event 0x0005 0 [])) ∧
  (∀ (s : State) (die : Fin 4) (i : Nat) (p : PreRamp), 256 * die.val ≤ i → i < 256 * die.val + 256 → (s.arr i).pre = some p →
    (p.phase = .waiting → Gives (.preRampStart die) s fun t =>
      (p.begins ≤ t.time → (t.arr i).pre = some { p with phase := .ramped }) ∧ (t.time < p.begins → (t.arr i).pre = some p) ∧
      (∀ a, (t.arr a).stream = (s.arr a).stream ∧ (a < 256 * die.val ∨ 256 * die.val + 256 ≤ a → t.arr a = s.arr a)) ∧
      t = { s with time := t.time, arrays := t.arrays }) ∧
    (p.phase = .ramped → Gives (.preRampHoldEnd die) s fun t =>
      (p.stop ≤ t.time → p.met = false → (t.arr i).pre = some { p with phase := .past }) ∧
      (p.stop ≤ t.time → p.met = true → (t.arr i).pre = none) ∧ (t.time < p.stop → (t.arr i).pre = some p) ∧
      t = { s with time := t.time, arrays := t.arrays })))

/-- DIE_DIODE_SAMPLE, STACK_SENSOR_SAMPLE and SENSOR_LOST: a valid sample is shown and judged, an invalid one is counted and flagged; two
readings at the stop threshold, and a sensor lost, begin a stop that names its cause and sensor (R322-R324, R327). -/
def Obligations.TemperatureSamples : Prop :=
  (∀ (s : State) (die : Fin 9), s.boot.island = true →
    (∀ x, validTemp x = true → s.boot.phase = .hold → Gives (.dieDiodeSample die (some x)) s fun t =>
      t.getI F.THM_TEMP_temp die = x ∧ t.get F.THM_TEMP_fault die = 0 ∧ (t.sensor die).bad = 0 ∧
      (∀ i, i ≠ die.val → t.sensor i = s.sensor i) ∧ t = { s with time := t.time, regs := t.regs, thm := t.thm, pwr := t.pwr }) ∧
    (∀ x e es, s.boot.phase = .hold → validTemp x = true → (s.sensor die).hist = e :: es → (s.sensor die).hot = false → 950 ≤ x → 950 ≤ e.1 →
      Gives (.dieDiodeSample die (some x)) s fun t => (t.sensor die).hot = true ∧ t.get F.THM_TEMP_throttle die = 1 ∧
        t.get F.THM_TEMP_throttle_evt die = 1) ∧
    (Gives (.dieDiodeSample die none) s fun t =>
      (t.sensor die).bad = (s.sensor die).bad + 1 ∧ (t.sensor die).hist = (s.sensor die).hist ∧ t.get F.THM_TEMP_fault die = 1 ∧
      t = { s with regs := t.regs, thm := t.thm } ∧ KeepsRegs [F.THM_TEMP_fault.key die] s t)) ∧
  (∀ (s : State) (k : Fin 16), s.boot.island = true →
    (∀ x, validTemp x = true → s.boot.phase = .hold → Gives (.stackSensorSample k (some x)) s fun t =>
      t.getI F.THM_TEMP_temp (9 + k) = x ∧ t.get F.THM_TEMP_fault (9 + k) = 0 ∧
      t = { s with time := t.time, regs := t.regs, thm := t.thm, pwr := t.pwr }) ∧
    (∀ x, validTemp x = false → Gives (.stackSensorSample k (some x)) s fun t =>
      (t.sensor (9 + k)).bad = (s.sensor (9 + k)).bad + 1 ∧ t.get F.THM_TEMP_fault (9 + k) = 1)) ∧
  (∀ (s : State) (die : Fin 9) (x y : Int) (at_ : Nat), s.boot.island = true → s.boot.phase = .ready → s.get F.PWR_STAT_feed 0 ≠ 2 →
    s.rst.keepers = false → s.quiescing = false → s.rst.run = none → s.rst.queue = [] → s.rst.absorbed = [] → s.stopState = 0 →
    (s.sensor die).hist = [(y, at_)] → s.time < at_ + 700000 → 1050 ≤ y → y < 1150 → 1050 ≤ x → x ≤ y → s.dump.running = false →
    Gives (.dieDiodeSample die (some x)) s fun t =>
      t.stopState = 1 ∧ t.get F.THM_STOP_STAT_cause 0 = 1 ∧ t.get F.THM_STOP_STAT_unit 0 = die ∧ t.get F.THM_STOP_STAT_stop_evt 0 = 1 ∧
      t.thm.step = 1 ∧ t.mem.dram = s.mem.dram) ∧
  (∀ (s : State) (i : Fin 25), s.boot.phase = .ready → s.get F.PWR_STAT_feed 0 ≠ 2 → s.rst.keepers = false → s.quiescing = false →
    s.stopState = 0 → s.rst.run = none → s.rst.queue = [] → s.rst.absorbed = [] →
    ((if i.val < 9 then 10 else 3) ≤ (s.sensor i).bad → Gives (.sensorLost i) s fun t =>
      t.stopState = 1 ∧ t.get F.THM_STOP_STAT_cause 0 = 4 ∧ t.get F.THM_STOP_STAT_unit 0 = i ∧ t.thm.since = s.time ∧
      t.mem.dram = s.mem.dram) ∧
    ((s.sensor i).bad < (if i.val < 9 then 10 else 3) → exec (.sensorLost i) s = .next s))

/-- Stops: RAIL_FAULT and COOLANT_FAULT_ASSERT begin an emergency stop, POWER_EXCESS an orderly one, each with its cause; STOP_STEP_DONE and
STOP_STEP_LIMIT lead to the stopped state with clocks off and stacks in self-refresh; STOP_RESET_RELEASE lets a held chip reset go on
once it is cool; the analogue trip asserts its pin whatever the logic does (R308, R321, R327-R331, R333, R334, Table 11.5). -/
def Obligations.Stops : Prop :=
  (∀ s : State, s.boot.phase = .ready → s.get F.PWR_STAT_feed 0 ≠ 2 → s.rst.keepers = false → s.quiescing = false → s.stopState = 0 →
    s.rst.run = none → s.rst.queue = [] → s.rst.absorbed = [] → s.dump.running = false →
    (∀ rail : Fin 7, rail ≠ 0 → rail.val ∈ s.boot.rails → s.thm.rail = none → Gives (.railFault rail) s fun t =>
      t.stopState = 2 ∧ t.get F.THM_STOP_STAT_cause 0 = 6 ∧ t.get F.THM_STOP_STAT_unit 0 = rail ∧ t.thm.rail = some rail.val ∧
      t.thm.step = 1 ∧ t.mem.dram = s.mem.dram) ∧
    (Gives .coolantFaultAssert s fun t =>
      t.stopState = 2 ∧ t.get F.THM_STOP_STAT_cause 0 = 7 ∧ t.get F.THM_STOP_STAT_unit 0 = 0x1F ∧ t.thm.coolant = true ∧
      t.mem.dram = s.mem.dram) ∧
    (∀ b, s.pwr.excSince = some b → Gives .powerExcess s fun t =>
      t.stopState = 1 ∧ t.get F.THM_STOP_STAT_cause 0 = 5 ∧ b + 1000000 ≤ t.time ∧ t.thm.since = t.time ∧ t.mem.dram = s.mem.dram)) ∧
  (∀ s : State, s.boot.phase = .off → exec .coolantFaultAssert s = .next { s with thm := { s.thm with coolant := true } }) ∧
  (∀ s : State, (s.boot.phase = .ready → exec .coolantFaultDeassertHeld s = .next { s with thm := { s.thm with coolant := false } }) ∧
    (s.boot.phase = .bringup → s.boot.coolantWait = true → exec .coolantFaultDeassertHeld s =
      .next { s with thm := { s.thm with coolant := false }, boot := { s.boot with coolantWait := false, shift := s.time } })) ∧
  (∀ s : State, s.stopState = 1 → s.thm.step = 6 → s.thm.rail = none → s.chipWaits = false →
    let end_ (t : State) := t.stopState = 3 ∧ t.thm.step = 0 ∧ t.mem.refresh = [0, 1, 2, 3] ∧ t.mem.dram = s.mem.dram ∧
      (∀ c < 4, t.get F.HUB_ARRAY_CLK_current_mhz c = 0)
    Gives .stopStepDone s end_ ∧ Gives .stopStepLimit s fun t => end_ t ∧ s.thm.since + 400000 ≤ t.time) ∧
  (∀ s : State, s.stopState = 1 → s.thm.step = 2 → s.unitsIdle = false → exec .stopStepDone s = .next s) ∧
  (∀ s : State, s.stopState ≠ 1 → s.stopState ≠ 2 → exec .stopStepLimit s = .next s) ∧
  (∀ s : State, (s.coolEnough = false → exec .stopResetRelease s = .next s) ∧
    (s.coolEnough = true → s.rst.causeHeld = true → s.rst.keepers = true → s.get F.HUB_RESET_STAT_state 0 = 7 →
      Gives .stopResetRelease s fun t =>
        t.get F.HUB_RESET_STAT_state 0 = 5 ∧ t.rst = { s.rst with causeHeld := false } ∧ t = { s with rst := t.rst, regs := t.regs })) ∧
  (∀ (s : State) (c : Fin 4), s.boot.phase ≠ .off → s.boot.phase ≠ .offLatched →
    exec (.analogueThermTrip c) s = .next { s with thm := { s.thm with thermTrip := true } })

/-! ## Resets (chapter 12) -/

/-- CONTEXT_RESET, ENGINE_RESET, ENGINE_RESET_END, PARTITION_RESET and its stages: a context reset disables the context's queues and
returns the sync objects of its range to 0; an engine reset clears the quadrant's sequencer and keeps its scratchpad; a partition
reset stops the die's clock, keeps its stacks through self-refresh and clears its scratchpads; each end is shown with its result.
A request inside the reset in progress is absorbed by it, one during a stop ends at once, and one with a reserved field is counted
only (R340, R341, R343-R345). -/
def Obligations.WorkResets : Prop :=
  (∀ (s : State) (w : BarAcc), AsksReset s w .context → s.resetsIdle → s.idleWork → Gives (.contextReset w) s fun t =>
    let x := (resetReq w .context).target
    (∀ i, (s.ctxOf x).maySync i = true → t.syncVal i = 0) ∧ (∀ i, (s.ctxOf x).maySync i = false → t.syncVal i = s.syncVal i) ∧
    (∀ n, s.get F.HUB_Q_CFG_enable n = 1 → s.get F.HUB_Q_CFG_context n = x → t.get F.HUB_Q_CFG_enable n = 0) ∧
    ShowsEnd t 1 x 0 ∧ t.get F.HUB_RESET_STAT_state 0 = 0 ∧ t.rst = s.rst ∧ t.mem = s.mem ∧ t.spad = s.spad ∧ t.hubsp = s.hubsp ∧
    t.seqs = s.seqs) ∧
  (∀ (s : State) (w : BarAcc), AsksReset s w .engine → s.resetsIdle → s.fab.ops = [] →
    let e := (resetReq w .engine).target
    e < 16 → Gives (.engineReset w) s fun t =>
      t.seq e = { nextId := (s.seq e).nextId } ∧ (∀ k, k ≠ e → t.seq k = s.seq k) ∧
      (∀ id, (s.seq e).launch = some id → t.get F.QD_SEQ_STAT_last_status e = Status.eAborted.code) ∧
      t.get F.HUB_RESET_STAT_state 0 = 2 ∧ t.rst.run = some { req := resetReq w .engine, since := s.time } ∧ t.spad = s.spad ∧ t.mem = s.mem) ∧
  (∀ (s : State) (r : RRun), s.rst.run = some r → r.req.kind = .engine → s.noFollowers → Gives .engineResetEnd s fun t =>
    ShowsEnd t 2 (r.req.target % 2 ^ 12) 0 ∧ t.get F.HUB_RESET_STAT_state 0 = 0 ∧ t.rst = { s.rst with run := none } ∧
    t = { s with regs := t.regs, log := t.log, rst := t.rst, out := t.out }) ∧
  (∀ s : State, s.rst.run = none → exec .engineResetEnd s = .next s) ∧
  (∀ (s : State) (w : BarAcc), AsksReset s w .partition → s.resetsIdle → Gives (.partitionReset w) s fun t =>
    t.get F.HUB_RESET_STAT_state 0 = 3 ∧ t.rst = { s.rst with run := some { req := resetReq w .partition, stage := 1, since := s.time } } ∧
    t = { s with regs := t.regs, rst := t.rst, dump := t.dump }) ∧
  (∀ (s : State) (r : RRun) (c : Fin 4) (short : ShortLanes) (bad : List Nat), s.rst.run = some r → r.req.kind = .partition →
    r.req.target = c.val →
    (r.stage = 1 → s.fab.ops = [] → Gives (.partitionStageDone c short bad) s fun t =>
      (∀ k < 4, t.seq (4 * c + k) = { nextId := (s.seq (4 * c + k)).nextId }) ∧ t.rst.run = some { r with stage := 2 } ∧
      t.spad = s.spad ∧ t.mem = s.mem) ∧
    (r.stage = 2 → Gives (.partitionStageDone c short bad) s fun t =>
      c.val ∈ t.mem.refresh ∧ t.get F.HUB_ARRAY_CLK_current_mhz c = 0 ∧ t.rst.run = some { r with stage := 3 } ∧
      t.mem.dram = s.mem.dram ∧ t = { s with mem := t.mem, pwr := t.pwr, regs := t.regs, rst := t.rst }) ∧
    (r.stage = 3 → (computeLink c).boot ≤ (s.trainBundles (64 * c) 64 short).linkHalves (computeLink c) →
      Gives (.partitionStageDone c short bad) s fun t =>
        t.rst.run = some { r with stage := 4 } ∧ t = { s with bundles := t.bundles, regs := t.regs, rst := t.rst }) ∧
    (r.stage = 3 → (s.trainBundles (64 * c) 64 short).linkHalves (computeLink c) < (computeLink c).boot → r.req.escalate = false →
      s.noFollowers → Gives (.partitionStageDone c short bad) s fun t => t.rst.run = none ∧ ShowsEnd t 3 c 1) ∧
    (r.stage = 4 → s.fab.held = [] → Gives (.partitionStageDone c short []) s fun t =>
      c.val ∉ t.mem.refresh ∧ t.mem.dram = s.mem.dram ∧ t.rst.run = some { r with stage := 5 } ∧ t = { s with mem := t.mem, rst := t.rst }) ∧
    (r.stage = 5 → Gives (.partitionStageDone c short bad) s fun t =>
      (∀ k, spadKey (4 * c) 0 ≤ k → k < spadKey (4 * c + 4) 0 → t.spad.byte k = 0) ∧
      (∀ k, k < spadKey (4 * c) 0 ∨ spadKey (4 * c + 4) 0 ≤ k → t.spad.byte k = s.spad.byte k) ∧
      t.rst.run = some { r with stage := 6 } ∧ t = { s with spad := t.spad, rst := t.rst }) ∧
    (r.stage = 6 → s.noFollowers → Gives (.partitionStageDone c short bad) s fun t =>
      ShowsEnd t 3 c 0 ∧ t.rst = { s.rst with run := none } ∧ t.mem = s.mem)) ∧
  (∀ (s : State) (w : BarAcc) (v : RRun), AsksReset s w .engine → s.stopActive = false → s.rst.cycleWait = false → s.rst.run = some v →
    (resetReq w .engine).inside v.req = true →
    exec (.engineReset w) s = .next { s with rst := { s.rst with absorbed := s.rst.absorbed ++ [resetReq w .engine] } }) ∧
  (∀ (s : State) (w : BarAcc), s.stopActive = true → AsksReset s w .context → Gives (.contextReset w) s fun t =>
    ShowsEnd t 1 (resetReq w .context).target 3 ∧ t = { s with regs := t.regs, log := t.log, out := t.out }) ∧
  (∀ (s : State) (w : BarAcc), Reaches s .HUB_RESET_CTRL 0 w 0 → w.resetBad = true →
    ∀ c ∈ [(RKind.context, Instr.contextReset w), (.engine, .engineReset w), (.partition, .partitionReset w), (.chip, .chipReset w),
      (.powerCycle, .powerCycle w)], w.resetKind = c.1.code → Gives c.2 s fun t => OnlyRegs [F.HUB_SETUP_LOCK_bad_accesses.key 0] s t)

/-- CHIP_RESET, POWER_CYCLE, PLDM_CHIP_RESET, PLDM_POWER_CYCLE, CHIP_RESET_TAKEOVER, CHIP_RESET_STAGE_DONE and WINDOW_HANDOVER: a request
starts the quiesce, or a dump first where it asks for one; in boot hold it restarts bring-up with the epoch advanced; the takeover
advances the epoch, empties the hub and keeps what the stacks hold; the stages run in the order of Table 1.11; the handover ends the
reset with the ports given back and the node ID unassigned; a power cycle writes the log and asserts its pin (R41, R346-R349, R355,
R364, Table 12.2). The speed a clock starts at is the model's choice (log entry 1).
RESET_LIMIT_EXPIRE and ENDPOINT_NOTICE_TIMER: a reset that misses its limit fails, or the next larger one starts where it was asked to
escalate; a chip reset that fails leaves the device held; the keepers repeat the notice every 10 ms on every port that is up (R342,
R350, Table 12.1). -/
def Obligations.ChipResets : Prop :=
  ((∀ (s : State) (w : BarAcc), AsksReset s w .chip → s.boot.phase = .ready → s.resetsIdle → s.idleWork → s.dump.running = false →
    ((resetReq w .chip).dumpFirst = false → Gives (.chipReset w) s fun t =>
      t.get F.HUB_RESET_STAT_state 0 = 4 ∧ t.rst.run = some { req := resetReq w .chip, stage := 1, since := s.time } ∧
      t = { s with regs := t.regs, rst := t.rst }) ∧
    ((resetReq w .chip).dumpFirst = true → s.mayDump = true → Gives (.chipReset w) s fun t =>
      t.dump.running = true ∧ t.dump.trigger = 2 ∧ t.get F.HUB_RESET_STAT_state 0 = 7 ∧
      t.rst.run = some { req := resetReq w .chip, stage := 0, since := s.time } ∧ t = { s with regs := t.regs, rst := t.rst, dump := t.dump })) ∧
  (∀ (s : State) (w : BarAcc), AsksReset s w .chip → s.boot.phase = .bringup → s.boot.done.contains 5 = false →
    exec (.chipReset w) s = .next { s with boot := { s.boot with resetPending := true } }) ∧
  (∀ (s : State) (w : BarAcc), AsksReset s w .chip → s.boot.phase = .hold → Gives (.chipReset w) s fun t =>
    t.boot.phase = .bringup ∧ t.get F.HUB_BOOT_STATUS_hold 0 = 0 ∧ t.get F.HUB_BOOT_STATUS_cause 0 = 0 ∧ t.time = s.time ∧
    (∀ e, s.rst.stored = some e → e < 0xFFFF → t.epoch = e + 1) ∧ (s.rst.stored = some 0xFFFF → t.epoch = 1)) ∧
  (∀ (s : State) (w : BarAcc), AsksReset s w .powerCycle → s.boot.phase = .ready → s.resetsIdle → s.idleWork → s.dump.running = false →
    (resetReq w .powerCycle).dumpFirst = false → Gives (.powerCycle w) s fun t =>
      t.get F.HUB_RESET_STAT_state 0 = 6 ∧ t.rst.run = some { req := resetReq w .powerCycle, stage := 1, since := s.time } ∧
      t = { s with regs := t.regs, rst := t.rst }) ∧
  (∀ s : State, s.mgmtUp = true → s.resetsIdle → s.idleWork → s.dump.running = false → s.rst.keepers = false →
    (s.boot.phase = .ready → Gives .pldmChipReset s fun t =>
      t.get F.HUB_RESET_STAT_state 0 = 4 ∧ t.rst.run = some { req := { kind := .chip, cause := 2 }, stage := 1, since := s.time } ∧
      t = { s with regs := t.regs, rst := t.rst }) ∧
    (s.boot.phase = .ready → Gives .pldmPowerCycle s fun t =>
      t.get F.HUB_RESET_STAT_state 0 = 6 ∧ t.rst.run = some { req := { kind := .powerCycle, cause := 2 }, stage := 1, since := s.time } ∧
      t = { s with regs := t.regs, rst := t.rst }) ∧
    (s.boot.phase = .hold → Gives .pldmPowerCycle s fun t =>
      t.thm.cycleReq = true ∧ t.rst.cycleWait = true ∧ t.log.staged = [] ∧ t.get F.HUB_RESET_STAT_state 0 = 6)) ∧
  (∀ (s : State) (r : RRun), s.rst.run = some r → r.stage = 1 → s.rst.keepers = false →
    (r.req.kind = .chip → s.quiet = true → s.epoch < 0xFFFF → Gives .chipResetTakeover s fun t =>
      t.rst.keepers = true ∧ t.rst.prevEpoch = s.epoch ∧ t.epoch = s.epoch + 1 ∧ t.rst.run = some { r with stage := 2 } ∧
      t.get F.HUB_RESET_STAT_state 0 = 5 ∧ t.get F.HUB_BOOT_STATUS_ready 0 = 0 ∧ t.queues = [] ∧ t.rings = [] ∧ t.sync = [] ∧ t.launches = [] ∧
      t.host.up = false ∧ t.mem.refresh = [0, 1, 2, 3] ∧ t.mem.dram = s.mem.dram ∧ t.time = s.time) ∧
    (r.req.kind = .chip → s.quiet = false → Gives .chipResetTakeover s fun t =>
      t.rst.keepers = true ∧ t.get F.HUB_RESET_STAT_flush_incomplete 0 = 1 ∧ t.queues = [] ∧ t.launches = [] ∧ r.since + 120000 ≤ t.time) ∧
    (r.req.kind = .powerCycle → s.quiet = true → Gives .chipResetTakeover s fun t =>
      t.thm.cycleReq = true ∧ t.rst.cycleWait = true ∧ t.rst.keepers = true ∧ t.rst.run = none ∧ t.get F.HUB_RESET_STAT_state 0 = 6 ∧
      t.log.staged = [] ∧ t.host.up = false ∧ t.mem.dram = s.mem.dram)) ∧
  (∀ (s : State) (r : RRun), s.rst.run = some r → r.req.kind = .chip →
    (r.stage = 2 → Gives (.chipResetStageDone (.image true true)) s fun t =>
      t.rst.run = some { r with stage := 3 } ∧ t.rst.stored = some s.epoch ∧ t = { s with rst := t.rst }) ∧
    (r.stage = 2 → s.noFollowers → s.boot.resetPending = false → Gives (.chipResetStageDone (.image false true)) s fun t =>
      t.boot.phase = .hold ∧ t.get F.HUB_BOOT_STATUS_cause 0 = 3 ∧ t.rst.run = none) ∧
    (∀ x, r.stage = 3 → identityFails x = [] → exec (.chipResetStageDone (.identity x)) s =
      .next { s with rst := { s.rst with run := some { r with stage := 4 } } }) ∧
    (∀ short, r.stage = 4 → (s.trainBundles 0 400 short).belowBoot = none → Gives (.chipResetStageDone (.d2d short)) s fun t =>
      t.rst.run = some { r with stage := 5 } ∧ t.mem = s.mem) ∧
    (r.stage = 5 → s.rst.causeHeld = false → Gives (.chipResetStageDone (.refreshExit [])) s fun t =>
      t.mem.refresh = [] ∧ t.rst.run = some { r with stage := 6 }) ∧
    (r.stage = 6 → Gives (.chipResetStageDone .sram) s fun t =>
      t.spad = {} ∧ t.hubsp = {} ∧ t.acc = [] ∧ t.vreg = [] ∧ t.rst.run = some { r with stage := 7 } ∧ t.mem = s.mem) ∧
    (r.stage = 6 → ∀ x, exec (.chipResetStageDone (.identity x)) s = .next s) ∧
    (r.stage = 7 → s.noFollowers → s.boot.phase = .ready → Gives .windowHandover s fun t =>
      t.rst.keepers = false ∧ t.rst.run = none ∧ t.get F.FAB_NODE_ID_assigned 0 = 0 ∧ ShowsEnd t 4 (r.req.target % 2 ^ 12) 0 ∧
      t.get F.HUB_RESET_STAT_state 0 = 0 ∧ t.epoch = s.epoch ∧ t.mem = s.mem ∧ t.time = s.time ∧
      (s.boot.hostDark = true → t.get F.HUB_BOOT_STATUS_ready 0 = 1) ∧
      (∀ c < 4, 600 ≤ t.get F.HUB_ARRAY_CLK_current_mhz c ∧ t.get F.HUB_ARRAY_CLK_current_mhz c % 50 = 0)))) ∧
  ((∀ (s : State) (r : RRun), s.rst.run = some r → s.rst.causeHeld = false →
    (r.req.kind = .engine → r.req.escalate = false → s.noFollowers → Gives .resetLimitExpire s fun t =>
      r.since + 1000000 ≤ t.time ∧ ShowsEnd t 2 (r.req.target % 2 ^ 12) 1 ∧ t.get F.HUB_RESET_STAT_state 0 = 0 ∧
      t.rst = { s.rst with run := none } ∧ t.mem = s.mem) ∧
    (r.req.kind = .engine → r.req.escalate = true → r.req.target < 16 → Gives .resetLimitExpire s fun t =>
      r.since + 1000000 ≤ t.time ∧ ShowsEnd t 2 r.req.target 2 ∧ t.get F.HUB_RESET_STAT_state 0 = 3 ∧
      t.rst.run = some { req := { kind := .partition, target := r.req.target / 4, escalate := true, cause := 4 }, stage := 1, since := t.time }) ∧
    (r.req.kind = .partition → r.req.escalate = false → s.noFollowers → Gives .resetLimitExpire s fun t =>
      r.since + 20000000 ≤ t.time ∧ ShowsEnd t 3 (r.req.target % 2 ^ 12) 1) ∧
    (r.req.kind = .chip → 0 < r.stage → r.req.escalate = false → s.noFollowers → Gives .resetLimitExpire s fun t =>
      r.since + 500000000 ≤ t.time ∧ ShowsEnd t 4 (r.req.target % 2 ^ 12) 1 ∧ t.rst.heldFailed = true ∧ t.get F.HUB_RESET_STAT_state 0 = 7) ∧
    (r.req.kind = .powerCycle → exec .resetLimitExpire s = .next s)) ∧
  (∀ s : State, s.kept = true → Gives .endpointNoticeTimer s fun t =>
    s.rst.lastNotice + 10000000 ≤ t.time ∧ t.rst = { s.rst with lastNotice := t.time } ∧
    (s.thm.rail ≠ some 5 → s.thm.rail ≠ some 6 → ∀ p < 64, s.portState p = 3 ∨ s.portState p = 4 →
      ∃ n : EndNotice, n.node = s.ownNode ∧ n.kind ≠ .ready ∧
        (Out.ctl p (.endpointNotice n) ∈ t.out ∨ Out.ctl p (.endpointNotice n) ∈ (t.port p).txWait)) ∧
    t = { s with time := t.time, rst := t.rst, ports := t.ports, out := t.out }) ∧
  (∀ s : State, s.kept = false → exec .endpointNoticeTimer s = .next s))

/-! ## Acting as one (chapter 13) -/

/-- HELLO, HELLO_TIMER and ENDPOINT_NOTICE: a hello that completes the exchange brings the port up with its outcome shown; one of the own
node holds the port; one of another version is a violation; the keepers answer as resetting; the port repeats its hello every 100 ms. A
notice of the port's partner closes the flow, READY opens it afresh under the new epoch, and one of any other node is a violation (R350,
R352, R365-R371). -/
def Obligations.HelloExchange : Prop :=
  (∀ (s : State) (port : Fin 64) (h : Hello), s.portState port = 2 → (s.port port).step = 7 → s.kept = false → h.version = 1 →
    h.rsv = false → s.helloOutcome h = { code := 1 } → (s.port port).dark = none → s.helloCompletes h = true →
    (s.flow h.node).src = none → (s.flow h.node).tgt = none → s.reflState = 0 → Gives (.hello port h) s fun t =>
      t.portState port = 3 ∧ (t.port port).helloDone = true ∧ (t.port port).partner = some h ∧
      t.get F.FAB_HELLO_STAT_outcome port = 1 ∧ t.get F.FAB_HELLO_STAT_node port = h.node % 2 ^ F.FAB_HELLO_STAT_node.width ∧
      t.get F.FAB_HELLO_STAT_epoch port = h.epoch % 2 ^ F.FAB_HELLO_STAT_epoch.width ∧ t.mem = s.mem ∧ t.fab = s.fab) ∧
  (∀ (s : State) (port : Fin 64) (h : Hello), s.linkUp port = true → (s.portState port = 2 → (s.port port).step = 7) → s.portState port ≠ 6 →
    s.kept = false → h.version = 1 → h.rsv = false → (s.helloOutcome h).code = 3 ∨ (s.helloOutcome h).code = 4 →
    Gives (.hello port h) s fun t =>
      t.portState port = 6 ∧ t.get F.FAB_HELLO_STAT_outcome port = (s.helloOutcome h).code ∧ t.mem = s.mem) ∧
  (∀ (s : State) (port : Fin 64) (h : Hello), s.linkUp port = true → (s.portState port = 2 → (s.port port).step = 7) → s.kept = false →
    h.version ≠ 1 ∨ h.rsv = true → Gives (.hello port h) s fun t =>
      OnlyRegs [F.WIN_EVT_CNT_count.key (16 * port + 3)] { s with ports := t.ports } t ∧ (t.port port).partner = (s.port port).partner) ∧
  (∀ (s : State) (port : Fin 64) (h b : Hello), s.linkUp port = true → (s.portState port = 2 → (s.port port).step = 7) → s.kept = true →
    (s.port port).lastBody = some b → Gives (.hello port h) s fun t =>
      (∃ o : Hello, Sent s t port (.ctl port (.hello o)) ∧ o.resetting = true ∧ o.epoch = s.rst.prevEpoch ∧ o.ack = true ∧ o.node = b.node) ∧
      t = { s with ports := t.ports, out := t.out }) ∧
  (∀ (s : State) (port : Fin 64) (h : Hello), s.linkUp port = false → exec (.hello port h) s = .next s) ∧
  (∀ (s : State) (port : Fin 64), s.portState port = 3 → s.kept = false → Gives (.helloTimer port) s fun t =>
    (s.port port).lastHello + 100000000 ≤ t.time ∧ (t.port port).lastHello = t.time ∧
    (∃ h : Hello, Sent s t port (.ctl port (.hello h)) ∧ h.epoch = s.epoch ∧ h.digest = s.ownDigest) ∧
    t = { s with time := t.time, ports := t.ports, out := t.out }) ∧
  (∀ (s : State) (port : Fin 64) (n : EndNotice), s.linkUp port = true → s.portState port ≠ 6 → s.kept = false →
    (((s.port port).partner.map fun h => h.node) ≠ some n.node → Gives (.endpointNotice port n) s fun t =>
      OnlyRegs [F.WIN_EVT_CNT_count.key (16 * port + 3)] { s with ports := t.ports } t) ∧
    (((s.port port).partner.map fun h => h.node) = some n.node → s.reflState = 0 →
      (n.kind = .ready → Gives (.endpointNotice port n) s fun t =>
        ((s.flow n.node).src.isSome = true → (t.srcFlow n.node).opened = false ∧ (t.srcFlow n.node).epoch = n.epoch) ∧
        (∀ k, k ≠ n.node → t.flow k = s.flow k) ∧ t = { s with fab := t.fab }) ∧
      (n.kind ≠ .ready → s.fab.reqs = [] → s.fab.ops = [] → (∀ k < 8, s.sessState k = 0) → Gives (.endpointNotice port n) s fun t =>
        n.node ∈ t.fab.noticed ∧ ((s.flow n.node).src.isSome = true → (t.srcFlow n.node).opened = false) ∧
        (∀ k, k ≠ n.node → t.flow k = s.flow k) ∧ t = { s with fab := t.fab })))

/-- JOB_INSTALL, JOB_CLEAR, NOTICE_SUBMIT, PLDM_NOTICE, SIGNED_NOTICE, FRAGMENT_GAP_TIMEOUT, NOTICE_VERIFIED and PENDING_NOTICE_EXPIRE: a
good block is installed with its k and n, an empty list and generation 0; a notice reaches the verification queue by each of its three
paths, unless that is full; the next generation with a quorum is applied and its node excluded; a notice without a job, malformed, of
another job or short of a quorum changes nothing but what Table 13.9 reports (R372-R377, R379, Table 13.9). -/
def Obligations.JobsAndNotices : Prop :=
  (∀ (s : State) (w : BarAcc), Reaches s .SEC_JOB_CTRL 0 w 0 → w.bits F.SEC_JOB_CTRL_install = 1 →
    let u := s.writeReg .SEC_JOB_CTRL 0 w
    let a := u.get F.SEC_JOB_CTRL_addr 0 * 4096
    let b := (u.memRead a 4096).bytes
    (u.installResult a = 1 → Gives (.jobInstall w) s fun t =>
      t.get F.SEC_JOB_STAT_installed 0 = 1 ∧ t.get F.SEC_JOB_STAT_result 0 = 1 ∧ t.get F.SEC_JOB_STAT_k 0 = fieldAt b 8 1 ∧
      t.get F.SEC_JOB_STAT_n 0 = fieldAt b 9 1 ∧ t.get F.SEC_EXCL_STAT_generation 0 = 0 ∧ t.get F.SEC_EXCL_STAT_entries 0 = 0 ∧
      t.job = { s.job with block := b.take 3904, excl := [], held := [] } ∧ t.mem = s.mem) ∧
    (u.installResult a ≠ 1 → Gives (.jobInstall w) s fun t =>
      t.get F.SEC_JOB_STAT_result 0 = u.installResult a ∧ t = { s with regs := t.regs })) ∧
  (∀ (s : State) (w : BarAcc), Reaches s .SEC_JOB_CTRL 0 w 0 → w.bits F.SEC_JOB_CTRL_clear = 1 → w.bits F.SEC_JOB_CTRL_install ≠ 1 →
    (s.isSet F.SEC_EXCL_STAT_shutter 0 = false → (∀ k < 8, s.sessState k = 0) → s.reflState = 0 → Gives (.jobClear w) s fun t =>
      t.get F.SEC_JOB_STAT_installed 0 = 0 ∧ t.get F.SEC_JOB_STAT_result 0 = 1 ∧ t.job = { s.job with block := [], excl := [], held := [] } ∧
      t.ownDigest = 0 ∧ t.mem = s.mem) ∧
    (s.isSet F.SEC_EXCL_STAT_shutter 0 = true ∨ s.reflState ≠ 0 → Gives (.jobClear w) s fun t =>
      t.get F.SEC_JOB_STAT_result 0 = 4 ∧ t = { s with regs := t.regs })) ∧
  (∀ (s : State) (w : BarAcc), Reaches s .SEC_NOTICE_SUBMIT 0 w 0 → w.touches F.SEC_NOTICE_SUBMIT_addr = true →
    let a := w.bits F.SEC_NOTICE_SUBMIT_addr * 4096
    let n := fieldAt (s.memRead a 64).bytes 3 1
    let d := s.memRead a (64 + 516 * n)
    0 < n → n ≤ 7 → s.mapped a 64 = true → s.mapped a (64 + 516 * n) = true → d.poisoned = false →
    (s.job.queue.length < 16 →
      exec (.noticeSubmit w) s = .next { s with job := { s.job with queue := s.job.queue ++ [d.bytes] } }) ∧
    (16 ≤ s.job.queue.length → Gives (.noticeSubmit w) s fun t =>
      t.get F.SEC_EXCL_STAT_last_result 0 = 8 ∧ t = { s with regs := t.regs, log := t.log })) ∧
  (∀ (s : State) (n : List Byte), s.mgmtUp = true →
    (s.kept = false → s.job.queue.length < 16 →
      exec (.pldmNotice n) s = .next { s with job := { s.job with queue := s.job.queue ++ [n] } }) ∧
    (s.kept = true → exec (.pldmNotice n) s = .next { s with out := .pldmRefused :: s.out })) ∧
  (∀ (s : State) (port : Fin 64) (f : NoticeFrag), s.linkUp port = true → s.portState port ≠ 6 → s.kept = false → f.rsv = false →
    (f.index = 0 → f.count = 1 → f.data.length ≤ 232 → s.job.queue.length < 16 → Gives (.signedNotice port f) s fun t =>
      t.job = { s.job with queue := s.job.queue ++ [f.data] } ∧ (t.port port).frag = none ∧ t = { s with job := t.job, ports := t.ports }) ∧
    (f.index = 0 → 1 < f.count → f.count ≤ 16 → f.data.length = 232 → Gives (.signedNotice port f) s fun t =>
      (t.port port).frag = some (f.data, 1, f.count, s.time) ∧ t = { s with ports := t.ports }) ∧
    (∀ bs t0, (s.port port).frag = some (bs, f.index, f.count, t0) → 0 < f.index → f.index + 1 < f.count → f.count ≤ 16 → f.data.length = 232 →
      (s.time ≤ t0 + 1000000 → fieldAt bs 4 4 = f.generation → Gives (.signedNotice port f) s fun t =>
        (t.port port).frag = some (bs ++ f.data, f.index + 1, f.count, s.time) ∧ t = { s with ports := t.ports }) ∧
      (t0 + 1000000 < s.time → Gives (.signedNotice port f) s fun t => (t.port port).frag = none ∧ t = { s with ports := t.ports }))) ∧
  (∀ (s : State) (port : Fin 64) (bs : List Byte) (i n t0 : Nat), (s.port port).frag = some (bs, i, n, t0) →
    Gives (.fragmentGapTimeout port) s fun t =>
      t.port port = { s.port port with frag := none } ∧ t0 + 1000000 < t.time ∧ t = { s with time := t.time, ports := t.ports }) ∧
  (∀ (s : State) (b : List Byte) (rest : List (List Byte)) (good : List Nat), s.job.queue = b :: rest →
    let valid := noticeManagers b good (s.get F.SEC_JOB_STAT_n 0)
    let n := fieldAt b 16 3
    let g := fieldAt b 4 4
    let told (code : Nat) (t : State) := t.get F.SEC_EXCL_STAT_last_result 0 = code ∧ t.job = { s.job with queue := rest } ∧
      t = { s with regs := t.regs, log := t.log, job := t.job }
    (s.isSet F.SEC_JOB_STAT_installed 0 = false → Gives (.noticeVerified good) s (told 7)) ∧
    (s.isSet F.SEC_JOB_STAT_installed 0 = true → noticeBad b = true → Gives (.noticeVerified good) s (told 5)) ∧
    (s.isSet F.SEC_JOB_STAT_installed 0 = true → noticeBad b = false → fieldAt b 8 8 ≠ fieldAt s.job.block 0 8 →
      Gives (.noticeVerified good) s (told 4)) ∧
    (s.isSet F.SEC_JOB_STAT_installed 0 = true → noticeBad b = false → fieldAt b 8 8 = fieldAt s.job.block 0 8 →
      g = s.get F.SEC_EXCL_STAT_generation 0 + 1 → valid.length < s.get F.SEC_JOB_STAT_k 0 → Gives (.noticeVerified good) s (told 3)) ∧
    (s.isSet F.SEC_JOB_STAT_installed 0 = true → noticeBad b = false → fieldAt b 8 8 = fieldAt s.job.block 0 8 →
      g = s.get F.SEC_EXCL_STAT_generation 0 + 1 → s.get F.SEC_JOB_STAT_k 0 ≤ valid.length → fieldAt b 2 1 = 1 → n ≠ s.ownNode →
      n ∉ s.job.excl → s.job.excl.length < 4096 → s.job.held = [] → s.fab.reqs = [] → s.fab.ops = [] → (∀ k < 8, s.sessState k = 0) →
      s.reflState = 0 → Gives (.noticeVerified good) s fun t =>
        t.job = { s.job with queue := rest, excl := s.job.excl ++ [n] } ∧ t.get F.SEC_EXCL_STAT_generation 0 = g ∧
        t.get F.SEC_EXCL_STAT_entries 0 = s.job.excl.length + 1 ∧ t.get F.SEC_EXCL_STAT_last_result 0 = 0 ∧
        t.get F.SEC_EXCL_STAT_excl_evt 0 = 1)) ∧
  (∀ (s : State) (good : List Nat), s.job.queue = [] → exec (.noticeVerified good) s = .next s) ∧
  (∀ (s : State) (g : BitVec 32) (e : List Byte × Nat), (s.job.held.find? fun e => fieldAt e.1 4 4 == g.toNat) = some e →
    Gives (.pendingNoticeExpire g) s fun t =>
      t.job = { s.job with held := s.job.held.erase e } ∧ e.2 + 10000000000 ≤ t.time ∧ t = { s with time := t.time, job := t.job, regs := t.regs })

/-! ## Reflection pairs (chapter 13) -/

/-- BIND, MARK and UNBIND: a legal bind block makes an unbound device binding with its partner; the next generation in order is created and
waits for its RMARK; an unbind leaves the device unbound with the shadow area as it was; an illegal field, a bound device, a lost
partner and a generation out of order end the descriptor with the status R383-R392 give.
REFLECT_BURST_SEND, RBIND_TIMER, RKEEP_TIMER and REFLECT_REPLY: what is owed is sent to the partner: an RRESUME first, then a generation
whose bursts have gone, then the lowest dirty burst with its present content, then the copy's next burst; nothing leaves an unbound
device; a good reply to an RMARK makes its generation durable and ends its MARK, one to an RBURST cleans the burst (R384-R386, R388,
R391). The order among these is the model's choice where the manual leaves it open. -/
def Obligations.ReflectionSends : Prop :=
  (∀ (s : State) (w : Work) (it : Item), s.fresh w 0x0C = some it →
    let op := fieldAt it.payload 0 1
    let a := fieldAt it.payload 8 8
    let g := fieldAt it.payload 16 4
    let only (t : State) := t = { s with queues := t.queues, graphs := t.graphs }
    (op = 1 →
      (∀ d, reflFormat it.payload = some d → Gives (.bind w) s fun t => EndedAs s t w .eFormat d ∧ only t) ∧
      (reflFormat it.payload = none → s.reflState ≠ 0 → Gives (.bind w) s fun t => EndedAs s t w .eFormat 40 ∧ only t) ∧
      (reflFormat it.payload = none → s.reflState = 0 → s.mayLocal it.ctx a 64 false = false → Gives (.bind w) s fun t =>
        EndedAs s t w .eBounds 0 ∧ only t) ∧
      (let n := fieldAt (s.memRead a 64).bytes 6 2
       let d := s.memRead a (64 + 16 * n)
       reflFormat it.payload = none → s.reflState = 0 → s.mayLocal it.ctx a 64 false = true → s.memHeld a 64 = false → 0 < n → n ≤ 64 →
       s.mayLocal it.ctx a (64 + 16 * n) false = true → s.memHeld a (64 + 16 * n) = false → d.poisoned = false →
       (s.blockBad d.bytes = true → Gives (.bind w) s fun t => EndedAs s t w .eFormat 40 ∧ only t) ∧
       (s.blockBad d.bytes = false → (∀ x ∈ blockRegions d.bytes ++ blockAreas d.bytes, s.areaMapped x = true) →
        anyOverlap (blockRegions d.bytes ++ blockAreas d.bytes) = false → fieldAt d.bytes 0 4 ∉ s.job.excl →
        s.isSet F.SEC_EXCL_STAT_shutter 0 = false → Gives (.bind w) s fun t =>
          t.reflState = 1 ∧ t.reflPartner = fieldAt d.bytes 0 4 ∧ t.get F.FAB_REFLECT_STAT_cause 0 = 0 ∧ t.refl.work = some w ∧
          t.refl.regions = blockRegions d.bytes ∧ t.refl.shadow = fieldAt d.bytes 16 8 ∧ t.refl.shadowSize = fieldAt d.bytes 24 4 ∧
          t.refl.since = s.time ∧ t.refl.tracking = false))) ∧
    (op = 0 →
      (∀ d, reflFormat it.payload = some d → Gives (.mark w) s fun t => EndedAs s t w .eFormat d ∧ only t) ∧
      (reflFormat it.payload = none → s.reflState = 5 → Gives (.mark w) s fun t => EndedAs s t w .ePeerLost 0 ∧ only t) ∧
      (reflFormat it.payload = none → s.reflState < 2 → s.refl.rolling = none → Gives (.mark w) s fun t => EndedAs s t w .eFormat 0 ∧ only t) ∧
      (reflFormat it.payload = none → s.reflBound = true → g ≠ s.get F.FAB_REFLECT_GEN_created 0 + 1 → Gives (.mark w) s fun t =>
        EndedAs s t w .eFormat 48 ∧ only t) ∧
      (reflFormat it.payload = none → s.reflBound = true → g = s.get F.FAB_REFLECT_GEN_created 0 + 1 → Gives (.mark w) s fun t =>
        t.get F.FAB_REFLECT_GEN_created 0 = g ∧ t.item w = some { it with phase := .busy } ∧
        (∃ m, t.refl.marks = s.refl.marks ++ [m] ∧ m.gen = g ∧ m.work = some w ∧ m.sent = false) ∧
        t = { s with regs := t.regs, refl := t.refl, queues := t.queues, graphs := t.graphs })) ∧
    (op = 2 →
      (∀ d, reflFormat it.payload = some d → Gives (.unbind w) s fun t => EndedAs s t w .eFormat d ∧ only t) ∧
      (reflFormat it.payload = none → s.refl.marks = [] → s.refl.work = none → Gives (.unbind w) s fun t =>
        EndedAs s t w .ok 0 ∧ t.reflState = 0 ∧ t.reflPartner = 0 ∧ t.get F.FAB_REFLECT_STAT_shadow 0 = 0 ∧ t.refl = {} ∧
        t = { s with fab := t.fab, refl := t.refl, regs := t.regs, queues := t.queues, graphs := t.graphs }))) ∧
  ((∀ s : State, s.reflBound = false ∨ s.reflMay = false → exec .reflectBurstSend s = .next s) ∧
  (∀ s : State, s.reflBound = true → s.reflMay = true → s.reflWaiting = false → (∀ r ∈ s.fab.reqs, r.serial < s.fab.serial) →
    let carries (t : State) (kind : Nat) (P : FabReq → Prop) := ∃ r ∈ t.fab.reqs, r.kind = kind ∧ r.node = s.reflPartner ∧ P r
    (s.reflState = 4 → s.refl.owe = true → Gives .reflectBurstSend s fun t =>
      t.refl.owe = false ∧ t.mem = s.mem ∧ carries t 0xA4 fun r => r.data = leBytes 4 (s.get F.FAB_REFLECT_STAT_shadow_gen 0)) ∧
    (s.reflState = 4 → s.refl.owe = false → exec .reflectBurstSend s = .next s) ∧
    (∀ g, s.reflState ≠ 4 → s.refl.markDue = some g → Gives .reflectBurstSend s fun t =>
      t.mem = s.mem ∧ carries t 0xA2 fun r => r.key = g ∧ r.off = if g = 1 then 1 else 0) ∧
    (∀ b a, s.reflState ≠ 4 → s.refl.markDue = none → s.refl.nextDirty = some b → reflAddr s.refl.regions b = some a →
      s.memHeld a 2048 = false → Gives .reflectBurstSend s fun t =>
        t.mem = s.mem ∧ SMap.get 0 t.refl.dirty b = 2 + s.fab.serial ∧
        carries t 0xA1 fun r => r.off = 2048 * b ∧ r.data = (s.memRead a 2048).bytes ∧ r.poison = (s.memRead a 2048).poisoned) ∧
    (∀ c a, s.reflState ≠ 4 → s.refl.markDue = none → s.refl.nextDirty = none → s.refl.copyAt = some c → c + 1 < s.refl.total * 1024 →
      reflAddr s.refl.regions c = some a → s.memHeld a 2048 = false → Gives .reflectBurstSend s fun t =>
        t.mem = s.mem ∧ t.refl.copyAt = some (c + 1) ∧
        carries t 0xA1 fun r => r.off = 2048 * c ∧ r.data = (s.memRead a 2048).bytes) ∧
    (s.reflState ≠ 4 → Gives .rkeepTimer s fun t =>
      s.refl.lastSent + 100000 ≤ t.time ∧ t.refl.lastSent = t.time ∧ t.mem = s.mem ∧ carries t 0xA3 fun r => r.data = [])) ∧
  (∀ s : State, s.reflState = 1 → s.reflMay = true → (∀ r ∈ s.fab.reqs, r.serial < s.fab.serial) → Gives .rbindTimer s fun t =>
    s.refl.lastSent + 100000 ≤ t.time ∧ t.refl.lastSent = t.time ∧ t.reflState = 1 ∧ t.mem = s.mem ∧
    (s.mayJoin s.reflPartner = true → s.reflWaiting = false → ∃ r ∈ t.fab.reqs, r.kind = 0xA0 ∧ r.node = s.reflPartner ∧
      r.data = leBytes 8 s.ownDigest ++ leBytes 4 s.refl.total ++ leBytes 4 s.refl.shadowSize)) ∧
  (∀ (s : State) (port : Fin 64) (p : Packet) (r : FabReq), s.kept = false → s.portReceives port = true → p.kind = 0x80 → s.fab.reqs = [r] →
    s.fab.ops = [] → r.tag = p.tag → r.attempts ≠ 0 → r.node = p.src → r.opn = false → r.op = none → r.node = s.reflPartner →
    p.status = Status.ok.code → r.fits p .ok = true → s.reflBound = true →
    (∀ m w it, r.kind = 0xA2 → s.refl.marks = [m] → m.gen = r.key → m.work = some w → s.item w = some it → it.phase = .busy →
      r.key < 2 ^ 32 → s.get F.FAB_REFLECT_GEN_durable 0 < r.key → Gives (.reflectReply port p) s fun t =>
        t.get F.FAB_REFLECT_GEN_durable 0 = r.key ∧ t.resultOf w = some ⟨.ok, 0⟩ ∧ t.refl.marks = [] ∧ t.fab.reqs = [] ∧ t.mem = s.mem) ∧
    (r.kind = 0xA1 → SMap.get 0 s.refl.dirty (r.off / 2048) = 2 + r.serial → Gives (.reflectReply port p) s fun t =>
      SMap.get 0 t.refl.dirty (r.off / 2048) = 0 ∧ (∀ b, b ≠ r.off / 2048 → SMap.get 0 t.refl.dirty b = SMap.get 0 s.refl.dirty b) ∧
      t.fab.reqs = [] ∧ t.mem = s.mem)))

/-- RBIND, RBURST, RMARK, RKEEP and RRESUME at the target, and the losses: the bound partner's burst reaches the shadow, its old content
entered in the undo log once it is DURABLE; its RMARK empties the log and makes the generation durable here; a partner that is not the
bound one is answered E_NOT_EXPORTED and changes no memory; a partner not heard in its time is lost, a DURABLE shadow is rolled back
first, and a bind that does not form in 1 s ends E_TIMEOUT (R384, R387-R391). -/
def Obligations.ReflectionReceives : Prop :=
  (∀ (s : State) (port : Fin 64) (p : Packet) (x : FlowTgt), Admits s port p x → p.fseq = x.expected → x.expected < 2 ^ 32 →
    (s.reflBound = true → s.reflPartner = p.src → s.refl.epoch = p.srcEpoch →
      (p.kind = 0xA1 → p.offset + 2048 ≤ s.refl.shadowSize * 2 ^ 21 → s.mapped (s.refl.shadow + p.offset) 2048 = true → p.poison = false →
        let m := s.memWrite (s.refl.shadow + p.offset) p.data
        let old := s.memRead (s.refl.shadow + p.offset) 2048
        (s.get F.FAB_REFLECT_STAT_shadow 0 = 1 → Gives (.rburst port p) s fun t =>
          t.mem = m.1.mem ∧ t.refl.log = s.refl.log ∧ Replies s t port p m.2 p.fseq [] ∧ t.spad = s.spad ∧ t.hubsp = s.hubsp) ∧
        (s.get F.FAB_REFLECT_STAT_shadow 0 ≠ 1 → (s.refl.log.any fun u => u.burst == p.offset / 2048) = false →
          s.refl.log.length < s.refl.undoMax → Gives (.rburst port p) s fun t =>
            t.mem = m.1.mem ∧ (∃ u, t.refl.log = u :: s.refl.log ∧ u.burst = p.offset / 2048 ∧ u.bytes = old.bytes ∧ u.bad = old.bad) ∧
            Replies s t port p m.2 p.fseq [] ∧ t.spad = s.spad ∧ t.hubsp = s.hubsp)) ∧
      (p.kind = 0xA2 → s.get F.FAB_REFLECT_STAT_shadow_gen 0 < p.key → p.key < 2 ^ 32 →
        (s.get F.FAB_REFLECT_STAT_shadow 0 = 1 → p.offset ≠ 0) → Gives (.rmark port p) s fun t =>
          t.get F.FAB_REFLECT_STAT_shadow_gen 0 = p.key ∧ t.get F.FAB_REFLECT_STAT_shadow 0 = 2 ∧ t.refl.log = [] ∧ t.mem = s.mem ∧
          Replies s t port p .ok p.fseq []) ∧
      (p.kind = 0xA3 → Gives (.rkeep port p) s fun t => t.refl.heard = s.time ∧ t.mem = s.mem ∧ Replies s t port p .ok p.fseq []) ∧
      (p.kind = 0xA4 → Gives (.rresume port p) s fun t =>
        (t.reflState = 2 ∨ t.reflState = 3) ∧ t.refl.quiet = none ∧ t.refl.owe = false ∧ t.mem = s.mem ∧ Replies s t port p .ok p.fseq [])) ∧
    (s.reflState = 1 → s.reflPartner = p.src → p.kind = 0xA0 → s.refl.given = false → fieldAt p.data 8 4 ≤ s.refl.shadowSize →
      s.refl.total ≤ fieldAt p.data 12 4 → Gives (.rbind port p) s fun t =>
        t.reflState = 1 ∧ t.refl.took = true ∧ t.refl.epoch = p.srcEpoch ∧ t.mem = s.mem ∧ Replies s t port p .ok p.fseq []) ∧
    (s.reflPartner ≠ p.src →
      ∀ c ∈ [(0xA0, Instr.rbind port p), (0xA1, .rburst port p), (0xA2, .rmark port p), (0xA3, .rkeep port p), (0xA4, .rresume port p)],
        p.kind = c.1 → Gives c.2 s fun t => t.mem = s.mem ∧ t.refl = s.refl ∧ Replies s t port p .eNotExported p.fseq [])) ∧
  (∀ s : State, s.reflState = 1 →
    (∀ w it, s.refl.work = some w → s.item w = some it → it.phase = .busy → Gives .bindTimeout s fun t =>
      t.resultOf w = some ⟨.eTimeout, 0⟩ ∧ t.reflState = 0 ∧ t.reflPartner = 0 ∧ t.refl = {} ∧ s.refl.since + 1000000000 ≤ t.time ∧
      t.mem = s.mem)) ∧
  (∀ s : State, s.reflBound = true → s.refl.marks = [] →
    (s.refl.quiet = none → s.refl.owe = false → s.get F.FAB_REFLECT_STAT_shadow 0 = 1 → Gives .partnerLossTimeout s fun t =>
      t.reflState = 5 ∧ t.get F.FAB_REFLECT_STAT_cause 0 = 1 ∧ t.get F.FAB_REFLECT_STAT_lost_evt 0 = 1 ∧ t.refl.tracking = false ∧
      s.refl.heard + s.refl.timeout * 100000 ≤ t.time ∧ t.mem = s.mem) ∧
    (∀ q, s.refl.quiet = some q → s.get F.FAB_REFLECT_STAT_shadow 0 = 1 → Gives .partnerLossTimeout s fun t =>
      t.reflState = 5 ∧ t.get F.FAB_REFLECT_STAT_cause 0 = 4 ∧ q + 1000000000 ≤ t.time ∧ t.mem = s.mem) ∧
    (s.refl.quiet = none → s.refl.owe = false → s.get F.FAB_REFLECT_STAT_shadow 0 = 2 → s.isSet F.FAB_REFLECT_STAT_overflow 0 = false →
      Gives .partnerLossTimeout s fun t =>
        t.refl.rolling = some (1, t.time) ∧ t.refl.log = s.refl.log ∧ t.refl.tracking = false ∧ t.reflBound = false ∧ t.mem = s.mem)) ∧
  (∀ s : State, s.reflBound = false → exec .partnerLossTimeout s = .next s) ∧
  (∀ (s : State) (cause t0 : Nat), s.refl.rolling = some (cause, t0) → cause < 8 → Gives .rollbackDone s fun t =>
    t.reflState = 5 ∧ t.refl.rolling = none ∧ t.refl.log = [] ∧ t.get F.FAB_REFLECT_STAT_cause 0 = cause ∧
    t0 + 32 * s.refl.log.length ≤ t.time ∧ t.mem = ({ s with time := t.time }).rollback.mem) ∧
  (∀ s : State, s.refl.rolling = none → exec .rollbackDone s = .next s)

/-! ## Monitors, margins, the log and trust (chapter 14) -/

/-- A sample that a unit takes updates its min and max, adds 1 to its count, v to its sum and 1 to one histogram bin; count and sum
saturate, which sets the flag; the bin is the one that lo, shift and log2 give. -/
def Obligations.MonitorAccumulates : Prop :=
  (∀ (s : State) (u : Fin 128) (x : BitVec 32), s.monOn u = true → s.rst.keepers = false →
    s.time < (s.monUnit u).start + s.monWindow u → 2 ^ s.get F.TEL_MON_CFG_decimate u ≤ (s.monUnit u).skipped + 1 →
    let m := s.monUnit u
    let v := x.toInt
    let b := s.monBin u v
    let full := decide (2 ^ 32 - 1 ≤ m.count) || decide (m.sum + v < -(2 ^ 63 : Int)) || decide ((2 ^ 63 : Int) ≤ m.sum + v)
    SMap.get 0 m.hist b < 2 ^ 32 - 1 → Gives (.monitorSample u x) s fun t =>
      let n := t.monUnit u
      n.min = min m.min v ∧ n.max = max m.max v ∧ n.count = min (m.count + 1) (2 ^ 32 - 1) ∧
      n.sum = max (-(2 ^ 63 : Int)) (min (2 ^ 63 - 1) (m.sum + v)) ∧ n.saturated = (m.saturated || full) ∧
      SMap.get 0 n.hist b = SMap.get 0 m.hist b + 1 ∧ (∀ k, k ≠ b → SMap.get 0 n.hist k = SMap.get 0 m.hist k) ∧ n.start = m.start ∧
      ∀ k, k ≠ u.val → t.monUnit k = s.monUnit k) ∧
  (∀ (s : State) (u : Nat) (v : Int),
    let lo := s.getI F.TEL_MON_CFG_lo u
    let sh := s.get F.TEL_MON_CFG_shift u
    let x := max (v - lo) 0
    (s.get F.TEL_MON_CFG_log2 u = 0 → (s.monBin u v : Int) = max 0 (min 31 ((v - lo) / (2 ^ sh : Nat)))) ∧
    (s.get F.TEL_MON_CFG_log2 u = 1 →
      (s.monBin u v = 0 ↔ x < (2 ^ sh : Nat)) ∧
      (∀ b, 1 ≤ b → b ≤ 30 → (s.monBin u v = b ↔ ((2 ^ (b - 1 + sh) : Nat) : Int) ≤ x ∧ x < (2 ^ (b + sh) : Nat))) ∧
      (s.monBin u v = 31 ↔ ((2 ^ (30 + sh) : Nat) : Int) ≤ x)))

/-- MONITOR_SAMPLE and MONITOR_WINDOW_END: the first sample at the limit raises
the alarm, once in a window; of 2^decimate samples one is taken; at a window's end everything moves to the read bank, seq advances and
the accumulators start anew; a unit that is off, or a device whose ports the keepers hold, takes none (R397-R399). -/
def Obligations.Monitors : Prop :=
  (∀ (s : State) (u : Fin 128) (x : BitVec 32), s.monOn u = true → s.rst.keepers = false →
    s.time < (s.monUnit u).start + s.monWindow u →
    let m := s.monUnit u
    let v := x.toInt
    (2 ^ s.get F.TEL_MON_CFG_decimate u ≤ m.skipped + 1 →
      (s.isSet F.TEL_MON_CFG_alarm_en u = true → m.alarmed = false → s.getI F.TEL_MON_CFG_limit u ≤ v → Gives (.monitorSample u x) s fun t =>
        t.get F.TEL_MON_STAT_alarm_evt u = 1 ∧ (t.monUnit u).alarmed = true ∧ t.out = .pldm (.monitorAlarm u v) :: s.out) ∧
      (s.isSet F.TEL_MON_CFG_alarm_en u = false ∨ m.alarmed = true ∨ v < s.getI F.TEL_MON_CFG_limit u → Gives (.monitorSample u x) s fun t =>
        (t.monUnit u).alarmed = m.alarmed ∧ t = { s with mon := t.mon })) ∧
    (m.skipped + 1 < 2 ^ s.get F.TEL_MON_CFG_decimate u → Gives (.monitorSample u x) s fun t =>
      t.monUnit u = { m with skipped := m.skipped + 1 } ∧ t = { s with mon := t.mon })) ∧
  (∀ (s : State) (u : Fin 128) (x : BitVec 32), s.monOn u = false ∨ s.rst.keepers = true →
    exec (.monitorSample u x) s = .next s ∧ exec (.monitorWindowEnd u) s = .next s) ∧
  (∀ (s : State) (u : Fin 128), s.monOn u = true → s.rst.keepers = false → 0 < s.monWindow u →
    s.time ≤ (s.monUnit u).start + s.monWindow u →
    let m := s.monUnit u
    Gives (.monitorWindowEnd u) s fun t =>
      t.time = m.start + s.monWindow u ∧ t.get F.TEL_MON_STAT_seq u = (s.get F.TEL_MON_STAT_seq u + 1) % 2 ^ 24 ∧
      t.get F.TEL_MON_STAT_count u = m.count % 2 ^ 32 ∧ t.isSet F.TEL_MON_STAT_saturated u = m.saturated ∧
      t.isSet F.TEL_MON_STAT_partial u = m.cut ∧
      (-(2 ^ 31 : Int) ≤ m.min → m.min < 2 ^ 31 → t.getI F.TEL_MON_MINMAX_min u = m.min) ∧
      (-(2 ^ 31 : Int) ≤ m.max → m.max < 2 ^ 31 → t.getI F.TEL_MON_MINMAX_max u = m.max) ∧
      (-(2 ^ 63 : Int) ≤ m.sum → m.sum < 2 ^ 63 → t.getI F.TEL_MON_SUM_sum u = m.sum) ∧
      (∀ b < 32, t.get F.TEL_MON_HIST_count (32 * u + b) = SMap.get 0 m.hist b % 2 ^ F.TEL_MON_HIST_count.width) ∧
      t.monUnit u = { start := t.time, skipped := m.skipped } ∧ (∀ k, k ≠ u.val → t.monUnit k = s.monUnit k) ∧
      t = { s with time := t.time, regs := t.regs, mon := t.mon })

/-- MARGIN_MEASUREMENT, LOG_FLUSH, LOG_SELECT_WRITE and PLDM_SENSOR_READ: a margin at or above its warning writes no record; one that falls
below its floor writes a record of severity 2, with no other effect where Table 14.7 gives none; a unit that a kind does not have stops
by name; staged entries reach flash in order; the selected entry is presented; a temperature read answers the register's value, the boot
status its register and every recorded failure, and the ROM refuses what it does not serve (R400-R405). -/
def Obligations.MarginsAndLog : Prop :=
  (∀ (s : State) (kind : MarginKind) (unit sub : Nat) (v : Int), marginHas kind unit sub = false →
    exec (.marginMeasurement kind unit sub v) s = .fault .illFormed) ∧
  (∀ (s : State) (kind : MarginKind) (unit sub : Nat) (v : Int), marginHas kind unit sub = true → s.boot.island = true →
    kind ≠ .dramV → kind ≠ .dramT → kind ≠ .optRx → (SMap.get {} s.margins (marginKey kind.code unit sub)).severity = 0 →
    (s.marginLimits kind unit).2 ≤ v → (s.marginLimits kind unit).1 ≤ v → exec (.marginMeasurement kind unit sub v) s = .next s) ∧
  (∀ (s : State) (kind : MarginKind) (unit sub : Nat) (v : Int), marginHas kind unit sub = true → s.boot.island = true →
    kind = .laserTrend ∨ kind = .coreSlack → (SMap.get {} s.margins (marginKey kind.code unit sub)).severity < 2 →
    s.log.staged.length < 8192 → v < (s.marginLimits kind unit).2 → Gives (.marginMeasurement kind unit sub v) s fun t =>
      (∃ e, t.log.staged = s.log.staged ++ [e] ∧ e.time = s.time ∧ e.body = .margin kind.code 2 unit sub v (s.marginLimits kind unit).2) ∧
      (SMap.get {} t.margins (marginKey kind.code unit sub)).severity = 2 ∧ t.out = .pldm (.marginFloor kind.code unit sub) :: s.out ∧
      t = { s with log := t.log, regs := t.regs, margins := t.margins, mgmt := t.mgmt, out := t.out }) ∧
  (∀ s : State, s.boot.island = true → s.mem.remapToWrite = [] → Gives .logFlush s fun t =>
    let l := s.log.flash ++ s.log.staged
    t.log = { s.log with staged := [], flash := l.drop (l.length - 753664) } ∧ t.get F.TEL_LOG_STAT_held 0 = 0 ∧
    t = { s with log := t.log, regs := t.regs }) ∧
  (∀ s : State, s.mem.remapToWrite ≠ [] → exec .logFlush s = .next s) ∧
  (∀ (s : State) (w : BarAcc), Reaches s .TEL_LOG_SEL 0 w 0 → Gives (.logSelectWrite w) s fun t =>
    t.get F.TEL_LOG_SEL_seq 0 = w.merge F.TEL_LOG_SEL_seq (s.get F.TEL_LOG_SEL_seq 0) % 2 ^ F.TEL_LOG_SEL_seq.width ∧
    (∀ e, s.log.find (t.get F.TEL_LOG_SEL_seq 0) = some e → ∀ i < 8, t.get F.TEL_LOG_DATA_data i = fieldAt e.bytes (8 * i) 8) ∧
    (s.log.find (t.get F.TEL_LOG_SEL_seq 0) = none → ∀ i < 8, t.get F.TEL_LOG_DATA_data i = 0) ∧ t = { s with regs := t.regs }) ∧
  (∀ (s : State) (i : Nat), s.mgmtUp = true →
    (s.romServes = false → i < 25 → exec (.pldmSensorRead (.temperature i)) s =
      .next { s with out := .pldmValue (s.getI F.THM_TEMP_temp i) :: s.out }) ∧
    (s.romServes = true → exec (.pldmSensorRead (.temperature i)) s = .next { s with out := .pldmRefused :: s.out }) ∧
    (let boot := Out.pldmBoot (s.regImage .HUB_BOOT_STATUS 0) (s.boot.record.map fun f => (f.cause, f.unit))
    exec (.pldmSensorRead .bootStatus) s = .next { s with out := boot :: s.out }))

/-- FW_UPDATE_TRANSFER, FW_VERIFY, ACTIVATE_FIRMWARE, FIRMWARE_SLOT_SELECT, ROLLBACK_ADVANCE, ROLLBACK_CTRL_WRITE and FUSE_STEP_DONE: a
transfer makes the slot that is not active invalid; verification makes it valid or leaves it invalid; a verified slot becomes pending;
what may not be asked for is refused; an advance blows one fuse after another up to its target (R406, R407, R411, R413). -/
def Obligations.FirmwareAndRollback : Prop :=
  (∀ (s : State) (n : Nat) (sv : Fin 65), s.mgmtUp = true →
    (s.mgmt.fw = .idle → n ≤ 2 ^ 25 → Gives (.fwUpdateTransfer n sv false) s fun t =>
      t.mgmt = { s.mgmt with fw := .transferring, fwBytes := n } ∧ t.slotValid s.otherSlot = false ∧ t.get F.SEC_FW_STAT_updating 0 = 1 ∧
      t.activeSlot = s.activeSlot ∧ t = { s with regs := t.regs, log := t.log, mgmt := t.mgmt }) ∧
    (s.mgmt.fw = .transferring → s.mgmt.fwBytes + n ≤ 2 ^ 25 → Gives (.fwUpdateTransfer n sv true) s fun t =>
      t.mgmt.fw = .written ∧ t.mgmt.fwBytes = s.mgmt.fwBytes + n ∧ t.slotSv s.otherSlot = sv ∧ t.activeSlot = s.activeSlot) ∧
    (s.mgmt.fw = .written ∨ s.mgmt.fw = .verified ∨ (s.mgmt.fw = .transferring ∧ 2 ^ 25 < s.mgmt.fwBytes + n) →
      ∀ last, exec (.fwUpdateTransfer n sv last) s = .next { s with out := .pldmRefused :: s.out })) ∧
  (∀ (s : State) (keyOk sigOk : Bool), s.mgmtUp = true → s.mgmt.fw = .written →
    (keyOk = true → sigOk = true → s.fused ≤ s.slotSv s.otherSlot → Gives (.fwVerify keyOk sigOk) s fun t =>
      t.mgmt = { s.mgmt with fw := .verified } ∧ t.slotValid s.otherSlot = true ∧ t = { s with regs := t.regs, log := t.log, mgmt := t.mgmt }) ∧
    (keyOk = false ∨ sigOk = false ∨ s.slotSv s.otherSlot < s.fused → Gives (.fwVerify keyOk sigOk) s fun t =>
      t.mgmt = { s.mgmt with fw := .idle } ∧ t.slotValid s.otherSlot = false ∧ t.get F.SEC_FW_STAT_updating 0 = 0 ∧
      t = { s with regs := t.regs, log := t.log, mgmt := t.mgmt })) ∧
  (∀ s : State, s.mgmtUp = true →
    (s.mgmt.fw = .verified → s.fused ≤ s.slotSv s.otherSlot → Gives .activateFirmware s fun t =>
      t.mgmt.fw = .idle ∧ t.get F.SEC_FW_STAT_pending 0 = 1 ∧ t.get F.SEC_FW_STAT_updating 0 = 0 ∧ t.activeSlot = s.activeSlot) ∧
    (s.mgmt.fw ≠ .verified → exec .activateFirmware s = .next { s with out := .pldmRefused :: s.out }) ∧
    (s.slotValid s.otherSlot = true → s.fused ≤ s.slotSv s.otherSlot → Gives .firmwareSlotSelect s fun t =>
      t.get F.SEC_FW_STAT_pending 0 = 1 ∧ t.activeSlot = s.activeSlot ∧ t.mgmt.fw = s.mgmt.fw) ∧
    (s.slotValid s.otherSlot = false → exec .firmwareSlotSelect s = .next { s with out := .pldmRefused :: s.out }) ∧
    (∀ v, s.mayAdvance v = true → Gives (.rollbackAdvance v) s fun t =>
      t.mgmt = { s.mgmt with advance := some v } ∧ t.get F.SEC_ROLLBACK_CTRL_busy 0 = 1 ∧ t = { s with regs := t.regs, mgmt := t.mgmt }) ∧
    (∀ v, s.mayAdvance v = false → exec (.rollbackAdvance v) s = .next { s with out := .pldmRefused :: s.out })) ∧
  (∀ (s : State) (w : BarAcc), Reaches s .SEC_ROLLBACK_CTRL 0 w 0 → w.touches F.SEC_ROLLBACK_CTRL_target = true →
    (s.mayAdvance (w.bits F.SEC_ROLLBACK_CTRL_target) = true → Gives (.rollbackCtrlWrite w) s fun t =>
      t.mgmt = { s.mgmt with advance := some (w.bits F.SEC_ROLLBACK_CTRL_target) } ∧ t.get F.SEC_ROLLBACK_CTRL_busy 0 = 1 ∧
      t = { s with regs := t.regs, mgmt := t.mgmt }) ∧
    (s.mayAdvance (w.bits F.SEC_ROLLBACK_CTRL_target) = false → exec (.rollbackCtrlWrite w) s = .next s)) ∧
  (∀ (s : State) (v : Nat), s.mgmt.advance = some v → s.fused < 255 → Gives .fuseStepDone s fun t =>
    t.fused = s.fused + 1 ∧ (v ≤ s.fused + 1 → t.mgmt.advance = none ∧ t.get F.SEC_ROLLBACK_CTRL_busy 0 = 0) ∧
    (s.fused + 1 < v → t.mgmt.advance = some v) ∧ t = { s with regs := t.regs, mgmt := t.mgmt, log := t.log }) ∧
  (∀ s : State, s.mgmt.advance = none → exec .fuseStepDone s = .next s)

/-- The twelve SPDM requests: over a transport that is up, with firmware that answers, each is answered in its order, and only the
transport's own session state changes; out of order, and from the ROM, it is answered ERROR; over a transport that is down nothing
happens (R404, R410). The order asked for is the model's choice: negotiation, then certificates and measurements, then sessions. -/
def Obligations.SpdmResponder : Prop :=
  ∀ (s : State) (tr : Transport) (id : Nat),
    let x := s.spdmOf tr
    let all : List Instr := [.getVersion tr, .getCapabilities tr, .negotiateAlgorithms tr, .getDigests tr, .getCertificate tr, .challenge tr,
      .getMeasurements tr, .keyExchange tr, .finish tr id, .heartbeat tr id, .keyUpdate tr id, .endSession tr id]
    let answers (c : Instr) (r : SpdmReq) (body : List Nat) (y : Spdm) :=
      Gives c s fun t => t.spdmOf tr = y ∧ t.out = .spdm tr r body :: s.out ∧ t = { s with mgmt := t.mgmt, out := t.out } ∧
        ∀ o, o ≠ tr → t.spdmOf o = s.spdmOf o
    let error (c : Instr) := exec c s = .next { s with out := .spdmError tr :: s.out }
    (s.spdmUp tr = false → ∀ c ∈ all, exec c s = .next s) ∧
    (s.spdmUp tr = true → s.romServes = true → ∀ c ∈ all, error c) ∧
    (s.spdmUp tr = true → s.romServes = false →
      answers (.getVersion tr) .getVersion [0x12] { x with stage := 1 } ∧
      (1 ≤ x.stage → ∃ b, answers (.getCapabilities tr) .getCapabilities b { x with stage := max 2 x.stage }) ∧
      (2 ≤ x.stage → ∃ b, answers (.negotiateAlgorithms tr) .negotiateAlgorithms b { x with stage := 3 }) ∧
      (3 ≤ x.stage → (∃ b, answers (.getDigests tr) .getDigests b x) ∧ (∃ b, answers (.getCertificate tr) .getCertificate b x) ∧
        (∃ b, answers (.challenge tr) .challenge b x) ∧ (∃ sig, answers (.getMeasurements tr) .getMeasurements (s.measurements ++ [sig]) x) ∧
        (x.sessions.length < 4 → answers (.keyExchange tr) .keyExchange [x.nextId]
          { x with sessions := x.sessions ++ [(x.nextId, false)], nextId := x.nextId + 1 }) ∧
        (4 ≤ x.sessions.length → error (.keyExchange tr))) ∧
      ((id, false) ∈ x.sessions → ∃ y, answers (.finish tr id) .finish [id] y ∧ y.open_ id = true) ∧
      (x.open_ id = true → answers (.heartbeat tr id) .heartbeat [id] x ∧ answers (.keyUpdate tr id) .keyUpdate [id] x ∧
        ∃ y, answers (.endSession tr id) .endSession [id] y ∧ y.open_ id = false) ∧
      (x.open_ id = false → error (.heartbeat tr id) ∧ error (.keyUpdate tr id) ∧ error (.endSession tr id)) ∧
      (x.stage < 3 → error (.getDigests tr) ∧ error (.challenge tr) ∧ error (.getMeasurements tr) ∧ error (.keyExchange tr)))
end

