-- ==== Sys2Proof/Laws/SMap.lean ====
section
/-! SUPPORT. Laws of sparse maps: what a read sees after a write, and that every operation keeps the canonical form. -/

namespace Sys2Proof.SMap

variable {α : Type}

/-! ## Reads after writes (of any list, canonical or not) -/

theorem get_erase_same (d : α) (m : SMap α) (k : Nat) : get d (erase m k) k = d := by
  induction m with
  | nil => rfl
  | cons e m ih =>
    obtain ⟨k', v⟩ := e
    by_cases h : k = k' <;> simp [erase, get, h, ih]
    simpa [h] using ih

theorem get_erase_other (d : α) (m : SMap α) {k j : Nat} (h : j ≠ k) : get d (erase m k) j = get d m j := by
  induction m with
  | nil => rfl
  | cons e m ih =>
    obtain ⟨k', v⟩ := e
    by_cases hk : k = k'
    · subst hk
      simp [erase, get, h, ih]
    · by_cases hj : j = k' <;> simp [erase, get, hk, hj, ih]

theorem get_insert_same (d : α) (m : SMap α) (k : Nat) (v : α) : get d (insert m k v) k = v := by
  induction m with
  | nil => simp [insert, get]
  | cons e m ih =>
    obtain ⟨k', w⟩ := e
    by_cases h : k = k'
    · simp [insert, get, h]
    · by_cases hl : k < k' <;> simp [insert, get, h, hl, ih]

theorem get_insert_other (d : α) (m : SMap α) {k j : Nat} (v : α) (h : j ≠ k) : get d (insert m k v) j = get d m j := by
  induction m with
  | nil => simp [insert, get, h]
  | cons e m ih =>
    obtain ⟨k', w⟩ := e
    by_cases hk : k = k'
    · subst hk
      simp [insert, get, h]
    · by_cases hl : k < k'
      · simp [insert, get, hk, hl, h]
      · by_cases hj : j = k' <;> simp [insert, get, hk, hl, hj, ih]

variable [DecidableEq α]

@[simp] theorem get_set_same (d : α) (m : SMap α) (k : Nat) (v : α) : get d (set d m k v) k = v := by
  unfold set
  split
  · next h => rw [get_erase_same, h]
  · exact get_insert_same d m k v

/-- A write leaves every other key alone, whatever an unlisted key is read as. -/
theorem get_set_other (d d' : α) (m : SMap α) {k j : Nat} (v : α) (h : j ≠ k) : get d' (set d m k v) j = get d' m j := by
  unfold set
  split
  · exact get_erase_other d' m h
  · exact get_insert_other d' m v h

theorem get_set (d : α) (m : SMap α) (k j : Nat) (v : α) : get d (set d m k v) j = if j = k then v else get d m j := by
  by_cases h : j = k
  · subst h
    simp
  · simp [h, get_set_other d d m v h]

omit [DecidableEq α] in
@[simp] theorem get_nil (d : α) (k : Nat) : get d ([] : SMap α) k = d := rfl

/-! ## The canonical form -/

omit [DecidableEq α] in
theorem sortedFrom_mono {b c : Nat} {m : SMap α} (h : b ≤ c) (hs : sortedFrom c m = true) : sortedFrom b m = true := by
  cases m with
  | nil => rfl
  | cons e m =>
    obtain ⟨k, v⟩ := e
    simp only [sortedFrom, Bool.and_eq_true, decide_eq_true_eq] at hs ⊢
    exact ⟨Nat.le_trans h hs.1, hs.2⟩

omit [DecidableEq α] in
theorem sortedFrom_erase {b : Nat} {m : SMap α} (k : Nat) (hs : sortedFrom b m = true) : sortedFrom b (erase m k) = true := by
  induction m generalizing b with
  | nil => rfl
  | cons e m ih =>
    obtain ⟨k', v⟩ := e
    simp only [sortedFrom, Bool.and_eq_true, decide_eq_true_eq] at hs
    unfold erase
    split
    · exact sortedFrom_mono (by omega) (ih hs.2)
    · simp only [sortedFrom, Bool.and_eq_true, decide_eq_true_eq]
      exact ⟨hs.1, ih hs.2⟩

omit [DecidableEq α] in
theorem sortedFrom_insert {b : Nat} {m : SMap α} {k : Nat} (v : α) (hb : b ≤ k) (hs : sortedFrom b m = true) :
    sortedFrom b (insert m k v) = true := by
  induction m generalizing b with
  | nil => simp [insert, sortedFrom, hb]
  | cons e m ih =>
    obtain ⟨k', w⟩ := e
    simp only [sortedFrom, Bool.and_eq_true, decide_eq_true_eq] at hs
    unfold insert
    split
    · next h =>
      subst h
      simp [sortedFrom, hb, hs.2]
    · split
      · next h h' =>
        simp only [sortedFrom, Bool.and_eq_true, decide_eq_true_eq]
        exact ⟨hb, by omega, hs.2⟩
      · next h h' =>
        simp only [sortedFrom, Bool.and_eq_true, decide_eq_true_eq]
        exact ⟨hs.1, ih (by omega) hs.2⟩

omit [DecidableEq α] in
theorem mem_erase {m : SMap α} {k : Nat} {e : Nat × α} (h : e ∈ erase m k) : e ∈ m := by
  induction m with
  | nil => simp [erase] at h
  | cons f m ih =>
    obtain ⟨k', v⟩ := f
    unfold erase at h
    split at h
    · exact List.mem_cons_of_mem _ (ih h)
    · rcases List.mem_cons.1 h with rfl | h
      · exact List.mem_cons_self
      · exact List.mem_cons_of_mem _ (ih h)

omit [DecidableEq α] in
theorem mem_insert {m : SMap α} {k : Nat} {v : α} {e : Nat × α} (h : e ∈ insert m k v) : e = (k, v) ∨ e ∈ m := by
  induction m with
  | nil => simpa [insert] using h
  | cons f m ih =>
    obtain ⟨k', w⟩ := f
    unfold insert at h
    split at h
    · rcases List.mem_cons.1 h with rfl | h
      · exact .inl rfl
      · exact .inr (List.mem_cons_of_mem _ h)
    · split at h
      · rcases List.mem_cons.1 h with rfl | h
        · exact .inl rfl
        · exact .inr h
      · rcases List.mem_cons.1 h with rfl | h
        · exact .inr List.mem_cons_self
        · exact (ih h).imp_right (List.mem_cons_of_mem _)

theorem wf_iff {d : α} {m : SMap α} : wf d m = true ↔ sortedFrom 0 m = true ∧ ∀ e ∈ m, e.2 ≠ d := by
  simp [wf]

@[simp] theorem wf_nil (d : α) : wf d ([] : SMap α) = true := rfl

theorem wf_erase {d : α} {m : SMap α} (k : Nat) (h : wf d m = true) : wf d (erase m k) = true := by
  rw [wf_iff] at h ⊢
  exact ⟨sortedFrom_erase k h.1, fun e he => h.2 e (mem_erase he)⟩

/-- A write keeps the canonical form. -/
theorem wf_set {d : α} {m : SMap α} (k : Nat) (v : α) (h : wf d m = true) : wf d (set d m k v) = true := by
  unfold set
  split
  · exact wf_erase k h
  · next hv =>
    rw [wf_iff] at h ⊢
    refine ⟨sortedFrom_insert v (Nat.zero_le k) h.1, fun e he => ?_⟩
    rcases mem_insert he with rfl | he
    · exact hv
    · exact h.2 e he

theorem wf_setRun {d : α} (vs : List α) : ∀ (m : SMap α) (k : Nat), wf d m = true → wf d (setRun d m k vs) = true := by
  induction vs with
  | nil => exact fun m k h => h
  | cons v vs ih => exact fun m k h => ih _ _ (wf_set k v h)

omit [DecidableEq α] in
theorem sortedFrom_filter {b : Nat} {m : SMap α} (p : Nat × α → Bool) (hs : sortedFrom b m = true) :
    sortedFrom b (m.filter p) = true := by
  induction m generalizing b with
  | nil => rfl
  | cons e m ih =>
    obtain ⟨k, v⟩ := e
    simp only [sortedFrom, Bool.and_eq_true, decide_eq_true_eq] at hs
    rw [List.filter_cons]
    split
    · simp only [sortedFrom, Bool.and_eq_true, decide_eq_true_eq]
      exact ⟨hs.1, ih hs.2⟩
    · exact sortedFrom_mono (by omega) (ih hs.2)

theorem wf_filter {d : α} {m : SMap α} (p : Nat × α → Bool) (h : wf d m = true) : wf d (m.filter p) = true := by
  rw [wf_iff] at h ⊢
  exact ⟨sortedFrom_filter p h.1, fun e he => h.2 e (List.mem_filter.1 he).1⟩

theorem wf_drop {d : α} {m : SMap α} (p : Nat → Bool) (h : wf d m = true) : wf d (drop m p) = true := wf_filter _ h

/-- Two maps in canonical form that read alike at every key are equal. -/
theorem ext_of_wf {d : α} {m n : SMap α} (hm : wf d m = true) (hn : wf d n = true) (h : ∀ k, get d m k = get d n k) : m = n := by
  rw [wf_iff] at hm hn
  obtain ⟨sm, vm⟩ := hm
  obtain ⟨sn, vn⟩ := hn
  have below : ∀ {b : Nat} {m : SMap α}, sortedFrom b m = true → ∀ k < b, get d m k = d := by
    intro b m hs k hk
    induction m generalizing b with
    | nil => rfl
    | cons e m ih =>
      obtain ⟨k', v⟩ := e
      simp only [sortedFrom, Bool.and_eq_true, decide_eq_true_eq] at hs
      have : k ≠ k' := by omega
      simp only [get, this, if_false]
      exact ih hs.2 (by omega)
  generalize hb : (0 : Nat) = b at sm sn
  clear hb
  induction m generalizing n b with
  | nil =>
    cases n with
    | nil => rfl
    | cons f n =>
      obtain ⟨k, v⟩ := f
      have := h k
      simp only [get, if_true] at this
      exact absurd this.symm (vn _ List.mem_cons_self)
  | cons e m ih =>
    obtain ⟨k, v⟩ := e
    cases n with
    | nil =>
      have := h k
      simp only [get, if_true] at this
      exact absurd this (vm _ List.mem_cons_self)
    | cons f n =>
      obtain ⟨k', v'⟩ := f
      simp only [sortedFrom, Bool.and_eq_true, decide_eq_true_eq] at sm sn
      have hk : k = k' := by
        rcases Nat.lt_trichotomy k k' with hl | hl | hl
        · have h1 := h k
          have : k ≠ k' := by omega
          simp only [get, if_true, this, if_false, below sn.2 k (by omega)] at h1
          exact absurd h1 (vm _ List.mem_cons_self)
        · exact hl
        · have h1 := h k'
          have : k' ≠ k := by omega
          simp only [get, if_true, this, if_false, below sm.2 k' (by omega)] at h1
          exact absurd h1.symm (vn _ List.mem_cons_self)
      subst hk
      have hv : v = v' := by simpa [get] using h k
      subst hv
      have := ih (n := n) (fun j => by
        by_cases hj : j = k
        · subst hj
          rw [below sm.2 j (by omega), below sn.2 j (by omega)]
        · simpa [get, hj] using h j) (fun e he => vm e (List.mem_cons_of_mem _ he))
          (fun e he => vn e (List.mem_cons_of_mem _ he)) (k + 1) sm.2 sn.2
      rw [this]

end Sys2Proof.SMap
end

