-- ==== Sys2Proof/Laws/State.lean ====
section
/-! SUPPORT. What each named update of the state leaves alone, field by field, and what the accessors read after it. -/

namespace Sys2Proof.Machine

variable (s : State)

/-! ## put -/

@[simp] theorem State.put_pending (f : Fld) (v i : Nat) : (s.put f v i).pending = s.pending := rfl
@[simp] theorem State.put_out (f : Fld) (v i : Nat) : (s.put f v i).out = s.out := rfl
@[simp] theorem State.put_freeCtr (f : Fld) (v i : Nat) : (s.put f v i).freeCtr = s.freeCtr := rfl
@[simp] theorem State.put_time (f : Fld) (v i : Nat) : (s.put f v i).time = s.time := rfl
@[simp] theorem State.put_prevBank (f : Fld) (v i : Nat) : (s.put f v i).prevBank = s.prevBank := rfl
@[simp] theorem State.put_boot (f : Fld) (v i : Nat) : (s.put f v i).boot = s.boot := rfl
@[simp] theorem State.put_bundles (f : Fld) (v i : Nat) : (s.put f v i).bundles = s.bundles := rfl
@[simp] theorem State.put_cal (f : Fld) (v i : Nat) : (s.put f v i).cal = s.cal := rfl
@[simp] theorem State.put_log (f : Fld) (v i : Nat) : (s.put f v i).log = s.log := rfl
@[simp] theorem State.put_mon (f : Fld) (v i : Nat) : (s.put f v i).mon = s.mon := rfl
@[simp] theorem State.put_margins (f : Fld) (v i : Nat) : (s.put f v i).margins = s.margins := rfl
@[simp] theorem State.put_mgmt (f : Fld) (v i : Nat) : (s.put f v i).mgmt = s.mgmt := rfl
@[simp] theorem State.put_sync (f : Fld) (v i : Nat) : (s.put f v i).sync = s.sync := rfl
@[simp] theorem State.put_queues (f : Fld) (v i : Nat) : (s.put f v i).queues = s.queues := rfl
@[simp] theorem State.put_rings (f : Fld) (v i : Nat) : (s.put f v i).rings = s.rings := rfl
@[simp] theorem State.put_served (f : Fld) (v i : Nat) : (s.put f v i).served = s.served := rfl
@[simp] theorem State.put_order (f : Fld) (v i : Nat) : (s.put f v i).order = s.order := rfl
@[simp] theorem State.put_engines (f : Fld) (v i : Nat) : (s.put f v i).engines = s.engines := rfl
@[simp] theorem State.put_host (f : Fld) (v i : Nat) : (s.put f v i).host = s.host := rfl
@[simp] theorem State.put_commit (f : Fld) (v i : Nat) : (s.put f v i).commit = s.commit := rfl
@[simp] theorem State.put_launches (f : Fld) (v i : Nat) : (s.put f v i).launches = s.launches := rfl
@[simp] theorem State.put_seqs (f : Fld) (v i : Nat) : (s.put f v i).seqs = s.seqs := rfl
@[simp] theorem State.put_ibuf (f : Fld) (v i : Nat) : (s.put f v i).ibuf = s.ibuf := rfl
@[simp] theorem State.put_spad (f : Fld) (v i : Nat) : (s.put f v i).spad = s.spad := rfl
@[simp] theorem State.put_hubsp (f : Fld) (v i : Nat) : (s.put f v i).hubsp = s.hubsp := rfl
@[simp] theorem State.put_arrays (f : Fld) (v i : Nat) : (s.put f v i).arrays = s.arrays := rfl
@[simp] theorem State.put_acc (f : Fld) (v i : Nat) : (s.put f v i).acc = s.acc := rfl
@[simp] theorem State.put_accBad (f : Fld) (v i : Nat) : (s.put f v i).accBad = s.accBad := rfl
@[simp] theorem State.put_vreg (f : Fld) (v i : Nat) : (s.put f v i).vreg = s.vreg := rfl
@[simp] theorem State.put_graphs (f : Fld) (v i : Nat) : (s.put f v i).graphs = s.graphs := rfl
@[simp] theorem State.put_mem (f : Fld) (v i : Nat) : (s.put f v i).mem = s.mem := rfl
@[simp] theorem State.put_fab (f : Fld) (v i : Nat) : (s.put f v i).fab = s.fab := rfl
@[simp] theorem State.put_col (f : Fld) (v i : Nat) : (s.put f v i).col = s.col := rfl
@[simp] theorem State.put_job (f : Fld) (v i : Nat) : (s.put f v i).job = s.job := rfl
@[simp] theorem State.put_refl (f : Fld) (v i : Nat) : (s.put f v i).refl = s.refl := rfl
@[simp] theorem State.put_ports (f : Fld) (v i : Nat) : (s.put f v i).ports = s.ports := rfl
@[simp] theorem State.put_win (f : Fld) (v i : Nat) : (s.put f v i).win = s.win := rfl
@[simp] theorem State.put_pwr (f : Fld) (v i : Nat) : (s.put f v i).pwr = s.pwr := rfl
@[simp] theorem State.put_thm (f : Fld) (v i : Nat) : (s.put f v i).thm = s.thm := rfl
@[simp] theorem State.put_dump (f : Fld) (v i : Nat) : (s.put f v i).dump = s.dump := rfl
@[simp] theorem State.put_rst (f : Fld) (v i : Nat) : (s.put f v i).rst = s.rst := rfl

/-! ## putB -/

@[simp] theorem State.putB_pending (f : Fld) (b : Bool) (i : Nat) : (s.putB f b i).pending = s.pending := rfl
@[simp] theorem State.putB_out (f : Fld) (b : Bool) (i : Nat) : (s.putB f b i).out = s.out := rfl
@[simp] theorem State.putB_freeCtr (f : Fld) (b : Bool) (i : Nat) : (s.putB f b i).freeCtr = s.freeCtr := rfl
@[simp] theorem State.putB_time (f : Fld) (b : Bool) (i : Nat) : (s.putB f b i).time = s.time := rfl
@[simp] theorem State.putB_prevBank (f : Fld) (b : Bool) (i : Nat) : (s.putB f b i).prevBank = s.prevBank := rfl
@[simp] theorem State.putB_boot (f : Fld) (b : Bool) (i : Nat) : (s.putB f b i).boot = s.boot := rfl
@[simp] theorem State.putB_bundles (f : Fld) (b : Bool) (i : Nat) : (s.putB f b i).bundles = s.bundles := rfl
@[simp] theorem State.putB_cal (f : Fld) (b : Bool) (i : Nat) : (s.putB f b i).cal = s.cal := rfl
@[simp] theorem State.putB_log (f : Fld) (b : Bool) (i : Nat) : (s.putB f b i).log = s.log := rfl
@[simp] theorem State.putB_mon (f : Fld) (b : Bool) (i : Nat) : (s.putB f b i).mon = s.mon := rfl
@[simp] theorem State.putB_margins (f : Fld) (b : Bool) (i : Nat) : (s.putB f b i).margins = s.margins := rfl
@[simp] theorem State.putB_mgmt (f : Fld) (b : Bool) (i : Nat) : (s.putB f b i).mgmt = s.mgmt := rfl
@[simp] theorem State.putB_sync (f : Fld) (b : Bool) (i : Nat) : (s.putB f b i).sync = s.sync := rfl
@[simp] theorem State.putB_queues (f : Fld) (b : Bool) (i : Nat) : (s.putB f b i).queues = s.queues := rfl
@[simp] theorem State.putB_rings (f : Fld) (b : Bool) (i : Nat) : (s.putB f b i).rings = s.rings := rfl
@[simp] theorem State.putB_served (f : Fld) (b : Bool) (i : Nat) : (s.putB f b i).served = s.served := rfl
@[simp] theorem State.putB_order (f : Fld) (b : Bool) (i : Nat) : (s.putB f b i).order = s.order := rfl
@[simp] theorem State.putB_engines (f : Fld) (b : Bool) (i : Nat) : (s.putB f b i).engines = s.engines := rfl
@[simp] theorem State.putB_host (f : Fld) (b : Bool) (i : Nat) : (s.putB f b i).host = s.host := rfl
@[simp] theorem State.putB_commit (f : Fld) (b : Bool) (i : Nat) : (s.putB f b i).commit = s.commit := rfl
@[simp] theorem State.putB_launches (f : Fld) (b : Bool) (i : Nat) : (s.putB f b i).launches = s.launches := rfl
@[simp] theorem State.putB_seqs (f : Fld) (b : Bool) (i : Nat) : (s.putB f b i).seqs = s.seqs := rfl
@[simp] theorem State.putB_ibuf (f : Fld) (b : Bool) (i : Nat) : (s.putB f b i).ibuf = s.ibuf := rfl
@[simp] theorem State.putB_spad (f : Fld) (b : Bool) (i : Nat) : (s.putB f b i).spad = s.spad := rfl
@[simp] theorem State.putB_hubsp (f : Fld) (b : Bool) (i : Nat) : (s.putB f b i).hubsp = s.hubsp := rfl
@[simp] theorem State.putB_arrays (f : Fld) (b : Bool) (i : Nat) : (s.putB f b i).arrays = s.arrays := rfl
@[simp] theorem State.putB_acc (f : Fld) (b : Bool) (i : Nat) : (s.putB f b i).acc = s.acc := rfl
@[simp] theorem State.putB_accBad (f : Fld) (b : Bool) (i : Nat) : (s.putB f b i).accBad = s.accBad := rfl
@[simp] theorem State.putB_vreg (f : Fld) (b : Bool) (i : Nat) : (s.putB f b i).vreg = s.vreg := rfl
@[simp] theorem State.putB_graphs (f : Fld) (b : Bool) (i : Nat) : (s.putB f b i).graphs = s.graphs := rfl
@[simp] theorem State.putB_mem (f : Fld) (b : Bool) (i : Nat) : (s.putB f b i).mem = s.mem := rfl
@[simp] theorem State.putB_fab (f : Fld) (b : Bool) (i : Nat) : (s.putB f b i).fab = s.fab := rfl
@[simp] theorem State.putB_col (f : Fld) (b : Bool) (i : Nat) : (s.putB f b i).col = s.col := rfl
@[simp] theorem State.putB_job (f : Fld) (b : Bool) (i : Nat) : (s.putB f b i).job = s.job := rfl
@[simp] theorem State.putB_refl (f : Fld) (b : Bool) (i : Nat) : (s.putB f b i).refl = s.refl := rfl
@[simp] theorem State.putB_ports (f : Fld) (b : Bool) (i : Nat) : (s.putB f b i).ports = s.ports := rfl
@[simp] theorem State.putB_win (f : Fld) (b : Bool) (i : Nat) : (s.putB f b i).win = s.win := rfl
@[simp] theorem State.putB_pwr (f : Fld) (b : Bool) (i : Nat) : (s.putB f b i).pwr = s.pwr := rfl
@[simp] theorem State.putB_thm (f : Fld) (b : Bool) (i : Nat) : (s.putB f b i).thm = s.thm := rfl
@[simp] theorem State.putB_dump (f : Fld) (b : Bool) (i : Nat) : (s.putB f b i).dump = s.dump := rfl
@[simp] theorem State.putB_rst (f : Fld) (b : Bool) (i : Nat) : (s.putB f b i).rst = s.rst := rfl

/-! ## bump -/

@[simp] theorem State.bump_pending (f : Fld) (n i : Nat) : (s.bump f n i).pending = s.pending := rfl
@[simp] theorem State.bump_out (f : Fld) (n i : Nat) : (s.bump f n i).out = s.out := rfl
@[simp] theorem State.bump_freeCtr (f : Fld) (n i : Nat) : (s.bump f n i).freeCtr = s.freeCtr := rfl
@[simp] theorem State.bump_time (f : Fld) (n i : Nat) : (s.bump f n i).time = s.time := rfl
@[simp] theorem State.bump_prevBank (f : Fld) (n i : Nat) : (s.bump f n i).prevBank = s.prevBank := rfl
@[simp] theorem State.bump_boot (f : Fld) (n i : Nat) : (s.bump f n i).boot = s.boot := rfl
@[simp] theorem State.bump_bundles (f : Fld) (n i : Nat) : (s.bump f n i).bundles = s.bundles := rfl
@[simp] theorem State.bump_cal (f : Fld) (n i : Nat) : (s.bump f n i).cal = s.cal := rfl
@[simp] theorem State.bump_log (f : Fld) (n i : Nat) : (s.bump f n i).log = s.log := rfl
@[simp] theorem State.bump_mon (f : Fld) (n i : Nat) : (s.bump f n i).mon = s.mon := rfl
@[simp] theorem State.bump_margins (f : Fld) (n i : Nat) : (s.bump f n i).margins = s.margins := rfl
@[simp] theorem State.bump_mgmt (f : Fld) (n i : Nat) : (s.bump f n i).mgmt = s.mgmt := rfl
@[simp] theorem State.bump_sync (f : Fld) (n i : Nat) : (s.bump f n i).sync = s.sync := rfl
@[simp] theorem State.bump_queues (f : Fld) (n i : Nat) : (s.bump f n i).queues = s.queues := rfl
@[simp] theorem State.bump_rings (f : Fld) (n i : Nat) : (s.bump f n i).rings = s.rings := rfl
@[simp] theorem State.bump_served (f : Fld) (n i : Nat) : (s.bump f n i).served = s.served := rfl
@[simp] theorem State.bump_order (f : Fld) (n i : Nat) : (s.bump f n i).order = s.order := rfl
@[simp] theorem State.bump_engines (f : Fld) (n i : Nat) : (s.bump f n i).engines = s.engines := rfl
@[simp] theorem State.bump_host (f : Fld) (n i : Nat) : (s.bump f n i).host = s.host := rfl
@[simp] theorem State.bump_commit (f : Fld) (n i : Nat) : (s.bump f n i).commit = s.commit := rfl
@[simp] theorem State.bump_launches (f : Fld) (n i : Nat) : (s.bump f n i).launches = s.launches := rfl
@[simp] theorem State.bump_seqs (f : Fld) (n i : Nat) : (s.bump f n i).seqs = s.seqs := rfl
@[simp] theorem State.bump_ibuf (f : Fld) (n i : Nat) : (s.bump f n i).ibuf = s.ibuf := rfl
@[simp] theorem State.bump_spad (f : Fld) (n i : Nat) : (s.bump f n i).spad = s.spad := rfl
@[simp] theorem State.bump_hubsp (f : Fld) (n i : Nat) : (s.bump f n i).hubsp = s.hubsp := rfl
@[simp] theorem State.bump_arrays (f : Fld) (n i : Nat) : (s.bump f n i).arrays = s.arrays := rfl
@[simp] theorem State.bump_acc (f : Fld) (n i : Nat) : (s.bump f n i).acc = s.acc := rfl
@[simp] theorem State.bump_accBad (f : Fld) (n i : Nat) : (s.bump f n i).accBad = s.accBad := rfl
@[simp] theorem State.bump_vreg (f : Fld) (n i : Nat) : (s.bump f n i).vreg = s.vreg := rfl
@[simp] theorem State.bump_graphs (f : Fld) (n i : Nat) : (s.bump f n i).graphs = s.graphs := rfl
@[simp] theorem State.bump_mem (f : Fld) (n i : Nat) : (s.bump f n i).mem = s.mem := rfl
@[simp] theorem State.bump_fab (f : Fld) (n i : Nat) : (s.bump f n i).fab = s.fab := rfl
@[simp] theorem State.bump_col (f : Fld) (n i : Nat) : (s.bump f n i).col = s.col := rfl
@[simp] theorem State.bump_job (f : Fld) (n i : Nat) : (s.bump f n i).job = s.job := rfl
@[simp] theorem State.bump_refl (f : Fld) (n i : Nat) : (s.bump f n i).refl = s.refl := rfl
@[simp] theorem State.bump_ports (f : Fld) (n i : Nat) : (s.bump f n i).ports = s.ports := rfl
@[simp] theorem State.bump_win (f : Fld) (n i : Nat) : (s.bump f n i).win = s.win := rfl
@[simp] theorem State.bump_pwr (f : Fld) (n i : Nat) : (s.bump f n i).pwr = s.pwr := rfl
@[simp] theorem State.bump_thm (f : Fld) (n i : Nat) : (s.bump f n i).thm = s.thm := rfl
@[simp] theorem State.bump_dump (f : Fld) (n i : Nat) : (s.bump f n i).dump = s.dump := rfl
@[simp] theorem State.bump_rst (f : Fld) (n i : Nat) : (s.bump f n i).rst = s.rst := rfl

/-! ## due -/

@[simp] theorem State.due_pending (x : Nat) : (s.due x).pending = s.pending := rfl
@[simp] theorem State.due_out (x : Nat) : (s.due x).out = s.out := rfl
@[simp] theorem State.due_freeCtr (x : Nat) : (s.due x).freeCtr = s.freeCtr := rfl
@[simp] theorem State.due_regs (x : Nat) : (s.due x).regs = s.regs := rfl
@[simp] theorem State.due_prevBank (x : Nat) : (s.due x).prevBank = s.prevBank := rfl
@[simp] theorem State.due_boot (x : Nat) : (s.due x).boot = s.boot := rfl
@[simp] theorem State.due_bundles (x : Nat) : (s.due x).bundles = s.bundles := rfl
@[simp] theorem State.due_cal (x : Nat) : (s.due x).cal = s.cal := rfl
@[simp] theorem State.due_log (x : Nat) : (s.due x).log = s.log := rfl
@[simp] theorem State.due_mon (x : Nat) : (s.due x).mon = s.mon := rfl
@[simp] theorem State.due_margins (x : Nat) : (s.due x).margins = s.margins := rfl
@[simp] theorem State.due_mgmt (x : Nat) : (s.due x).mgmt = s.mgmt := rfl
@[simp] theorem State.due_sync (x : Nat) : (s.due x).sync = s.sync := rfl
@[simp] theorem State.due_queues (x : Nat) : (s.due x).queues = s.queues := rfl
@[simp] theorem State.due_rings (x : Nat) : (s.due x).rings = s.rings := rfl
@[simp] theorem State.due_served (x : Nat) : (s.due x).served = s.served := rfl
@[simp] theorem State.due_order (x : Nat) : (s.due x).order = s.order := rfl
@[simp] theorem State.due_engines (x : Nat) : (s.due x).engines = s.engines := rfl
@[simp] theorem State.due_host (x : Nat) : (s.due x).host = s.host := rfl
@[simp] theorem State.due_commit (x : Nat) : (s.due x).commit = s.commit := rfl
@[simp] theorem State.due_launches (x : Nat) : (s.due x).launches = s.launches := rfl
@[simp] theorem State.due_seqs (x : Nat) : (s.due x).seqs = s.seqs := rfl
@[simp] theorem State.due_ibuf (x : Nat) : (s.due x).ibuf = s.ibuf := rfl
@[simp] theorem State.due_spad (x : Nat) : (s.due x).spad = s.spad := rfl
@[simp] theorem State.due_hubsp (x : Nat) : (s.due x).hubsp = s.hubsp := rfl
@[simp] theorem State.due_arrays (x : Nat) : (s.due x).arrays = s.arrays := rfl
@[simp] theorem State.due_acc (x : Nat) : (s.due x).acc = s.acc := rfl
@[simp] theorem State.due_accBad (x : Nat) : (s.due x).accBad = s.accBad := rfl
@[simp] theorem State.due_vreg (x : Nat) : (s.due x).vreg = s.vreg := rfl
@[simp] theorem State.due_graphs (x : Nat) : (s.due x).graphs = s.graphs := rfl
@[simp] theorem State.due_mem (x : Nat) : (s.due x).mem = s.mem := rfl
@[simp] theorem State.due_fab (x : Nat) : (s.due x).fab = s.fab := rfl
@[simp] theorem State.due_col (x : Nat) : (s.due x).col = s.col := rfl
@[simp] theorem State.due_job (x : Nat) : (s.due x).job = s.job := rfl
@[simp] theorem State.due_refl (x : Nat) : (s.due x).refl = s.refl := rfl
@[simp] theorem State.due_ports (x : Nat) : (s.due x).ports = s.ports := rfl
@[simp] theorem State.due_win (x : Nat) : (s.due x).win = s.win := rfl
@[simp] theorem State.due_pwr (x : Nat) : (s.due x).pwr = s.pwr := rfl
@[simp] theorem State.due_thm (x : Nat) : (s.due x).thm = s.thm := rfl
@[simp] theorem State.due_dump (x : Nat) : (s.due x).dump = s.dump := rfl
@[simp] theorem State.due_rst (x : Nat) : (s.due x).rst = s.rst := rfl

/-! ## setPort -/

@[simp] theorem State.setPort_pending (p : Nat) (v : Port) : (s.setPort p v).pending = s.pending := rfl
@[simp] theorem State.setPort_out (p : Nat) (v : Port) : (s.setPort p v).out = s.out := rfl
@[simp] theorem State.setPort_freeCtr (p : Nat) (v : Port) : (s.setPort p v).freeCtr = s.freeCtr := rfl
@[simp] theorem State.setPort_time (p : Nat) (v : Port) : (s.setPort p v).time = s.time := rfl
@[simp] theorem State.setPort_regs (p : Nat) (v : Port) : (s.setPort p v).regs = s.regs := rfl
@[simp] theorem State.setPort_prevBank (p : Nat) (v : Port) : (s.setPort p v).prevBank = s.prevBank := rfl
@[simp] theorem State.setPort_boot (p : Nat) (v : Port) : (s.setPort p v).boot = s.boot := rfl
@[simp] theorem State.setPort_bundles (p : Nat) (v : Port) : (s.setPort p v).bundles = s.bundles := rfl
@[simp] theorem State.setPort_cal (p : Nat) (v : Port) : (s.setPort p v).cal = s.cal := rfl
@[simp] theorem State.setPort_log (p : Nat) (v : Port) : (s.setPort p v).log = s.log := rfl
@[simp] theorem State.setPort_mon (p : Nat) (v : Port) : (s.setPort p v).mon = s.mon := rfl
@[simp] theorem State.setPort_margins (p : Nat) (v : Port) : (s.setPort p v).margins = s.margins := rfl
@[simp] theorem State.setPort_mgmt (p : Nat) (v : Port) : (s.setPort p v).mgmt = s.mgmt := rfl
@[simp] theorem State.setPort_sync (p : Nat) (v : Port) : (s.setPort p v).sync = s.sync := rfl
@[simp] theorem State.setPort_queues (p : Nat) (v : Port) : (s.setPort p v).queues = s.queues := rfl
@[simp] theorem State.setPort_rings (p : Nat) (v : Port) : (s.setPort p v).rings = s.rings := rfl
@[simp] theorem State.setPort_served (p : Nat) (v : Port) : (s.setPort p v).served = s.served := rfl
@[simp] theorem State.setPort_order (p : Nat) (v : Port) : (s.setPort p v).order = s.order := rfl
@[simp] theorem State.setPort_engines (p : Nat) (v : Port) : (s.setPort p v).engines = s.engines := rfl
@[simp] theorem State.setPort_host (p : Nat) (v : Port) : (s.setPort p v).host = s.host := rfl
@[simp] theorem State.setPort_commit (p : Nat) (v : Port) : (s.setPort p v).commit = s.commit := rfl
@[simp] theorem State.setPort_launches (p : Nat) (v : Port) : (s.setPort p v).launches = s.launches := rfl
@[simp] theorem State.setPort_seqs (p : Nat) (v : Port) : (s.setPort p v).seqs = s.seqs := rfl
@[simp] theorem State.setPort_ibuf (p : Nat) (v : Port) : (s.setPort p v).ibuf = s.ibuf := rfl
@[simp] theorem State.setPort_spad (p : Nat) (v : Port) : (s.setPort p v).spad = s.spad := rfl
@[simp] theorem State.setPort_hubsp (p : Nat) (v : Port) : (s.setPort p v).hubsp = s.hubsp := rfl
@[simp] theorem State.setPort_arrays (p : Nat) (v : Port) : (s.setPort p v).arrays = s.arrays := rfl
@[simp] theorem State.setPort_acc (p : Nat) (v : Port) : (s.setPort p v).acc = s.acc := rfl
@[simp] theorem State.setPort_accBad (p : Nat) (v : Port) : (s.setPort p v).accBad = s.accBad := rfl
@[simp] theorem State.setPort_vreg (p : Nat) (v : Port) : (s.setPort p v).vreg = s.vreg := rfl
@[simp] theorem State.setPort_graphs (p : Nat) (v : Port) : (s.setPort p v).graphs = s.graphs := rfl
@[simp] theorem State.setPort_mem (p : Nat) (v : Port) : (s.setPort p v).mem = s.mem := rfl
@[simp] theorem State.setPort_fab (p : Nat) (v : Port) : (s.setPort p v).fab = s.fab := rfl
@[simp] theorem State.setPort_col (p : Nat) (v : Port) : (s.setPort p v).col = s.col := rfl
@[simp] theorem State.setPort_job (p : Nat) (v : Port) : (s.setPort p v).job = s.job := rfl
@[simp] theorem State.setPort_refl (p : Nat) (v : Port) : (s.setPort p v).refl = s.refl := rfl
@[simp] theorem State.setPort_win (p : Nat) (v : Port) : (s.setPort p v).win = s.win := rfl
@[simp] theorem State.setPort_pwr (p : Nat) (v : Port) : (s.setPort p v).pwr = s.pwr := rfl
@[simp] theorem State.setPort_thm (p : Nat) (v : Port) : (s.setPort p v).thm = s.thm := rfl
@[simp] theorem State.setPort_dump (p : Nat) (v : Port) : (s.setPort p v).dump = s.dump := rfl
@[simp] theorem State.setPort_rst (p : Nat) (v : Port) : (s.setPort p v).rst = s.rst := rfl

/-! ## setQueue -/

@[simp] theorem State.setQueue_pending (n : Nat) (v : Queue) : (s.setQueue n v).pending = s.pending := rfl
@[simp] theorem State.setQueue_out (n : Nat) (v : Queue) : (s.setQueue n v).out = s.out := rfl
@[simp] theorem State.setQueue_freeCtr (n : Nat) (v : Queue) : (s.setQueue n v).freeCtr = s.freeCtr := rfl
@[simp] theorem State.setQueue_time (n : Nat) (v : Queue) : (s.setQueue n v).time = s.time := rfl
@[simp] theorem State.setQueue_regs (n : Nat) (v : Queue) : (s.setQueue n v).regs = s.regs := rfl
@[simp] theorem State.setQueue_prevBank (n : Nat) (v : Queue) : (s.setQueue n v).prevBank = s.prevBank := rfl
@[simp] theorem State.setQueue_boot (n : Nat) (v : Queue) : (s.setQueue n v).boot = s.boot := rfl
@[simp] theorem State.setQueue_bundles (n : Nat) (v : Queue) : (s.setQueue n v).bundles = s.bundles := rfl
@[simp] theorem State.setQueue_cal (n : Nat) (v : Queue) : (s.setQueue n v).cal = s.cal := rfl
@[simp] theorem State.setQueue_log (n : Nat) (v : Queue) : (s.setQueue n v).log = s.log := rfl
@[simp] theorem State.setQueue_mon (n : Nat) (v : Queue) : (s.setQueue n v).mon = s.mon := rfl
@[simp] theorem State.setQueue_margins (n : Nat) (v : Queue) : (s.setQueue n v).margins = s.margins := rfl
@[simp] theorem State.setQueue_mgmt (n : Nat) (v : Queue) : (s.setQueue n v).mgmt = s.mgmt := rfl
@[simp] theorem State.setQueue_sync (n : Nat) (v : Queue) : (s.setQueue n v).sync = s.sync := rfl
@[simp] theorem State.setQueue_rings (n : Nat) (v : Queue) : (s.setQueue n v).rings = s.rings := rfl
@[simp] theorem State.setQueue_served (n : Nat) (v : Queue) : (s.setQueue n v).served = s.served := rfl
@[simp] theorem State.setQueue_order (n : Nat) (v : Queue) : (s.setQueue n v).order = s.order := rfl
@[simp] theorem State.setQueue_engines (n : Nat) (v : Queue) : (s.setQueue n v).engines = s.engines := rfl
@[simp] theorem State.setQueue_host (n : Nat) (v : Queue) : (s.setQueue n v).host = s.host := rfl
@[simp] theorem State.setQueue_commit (n : Nat) (v : Queue) : (s.setQueue n v).commit = s.commit := rfl
@[simp] theorem State.setQueue_launches (n : Nat) (v : Queue) : (s.setQueue n v).launches = s.launches := rfl
@[simp] theorem State.setQueue_seqs (n : Nat) (v : Queue) : (s.setQueue n v).seqs = s.seqs := rfl
@[simp] theorem State.setQueue_ibuf (n : Nat) (v : Queue) : (s.setQueue n v).ibuf = s.ibuf := rfl
@[simp] theorem State.setQueue_spad (n : Nat) (v : Queue) : (s.setQueue n v).spad = s.spad := rfl
@[simp] theorem State.setQueue_hubsp (n : Nat) (v : Queue) : (s.setQueue n v).hubsp = s.hubsp := rfl
@[simp] theorem State.setQueue_arrays (n : Nat) (v : Queue) : (s.setQueue n v).arrays = s.arrays := rfl
@[simp] theorem State.setQueue_acc (n : Nat) (v : Queue) : (s.setQueue n v).acc = s.acc := rfl
@[simp] theorem State.setQueue_accBad (n : Nat) (v : Queue) : (s.setQueue n v).accBad = s.accBad := rfl
@[simp] theorem State.setQueue_vreg (n : Nat) (v : Queue) : (s.setQueue n v).vreg = s.vreg := rfl
@[simp] theorem State.setQueue_graphs (n : Nat) (v : Queue) : (s.setQueue n v).graphs = s.graphs := rfl
@[simp] theorem State.setQueue_mem (n : Nat) (v : Queue) : (s.setQueue n v).mem = s.mem := rfl
@[simp] theorem State.setQueue_fab (n : Nat) (v : Queue) : (s.setQueue n v).fab = s.fab := rfl
@[simp] theorem State.setQueue_col (n : Nat) (v : Queue) : (s.setQueue n v).col = s.col := rfl
@[simp] theorem State.setQueue_job (n : Nat) (v : Queue) : (s.setQueue n v).job = s.job := rfl
@[simp] theorem State.setQueue_refl (n : Nat) (v : Queue) : (s.setQueue n v).refl = s.refl := rfl
@[simp] theorem State.setQueue_ports (n : Nat) (v : Queue) : (s.setQueue n v).ports = s.ports := rfl
@[simp] theorem State.setQueue_win (n : Nat) (v : Queue) : (s.setQueue n v).win = s.win := rfl
@[simp] theorem State.setQueue_pwr (n : Nat) (v : Queue) : (s.setQueue n v).pwr = s.pwr := rfl
@[simp] theorem State.setQueue_thm (n : Nat) (v : Queue) : (s.setQueue n v).thm = s.thm := rfl
@[simp] theorem State.setQueue_dump (n : Nat) (v : Queue) : (s.setQueue n v).dump = s.dump := rfl
@[simp] theorem State.setQueue_rst (n : Nat) (v : Queue) : (s.setQueue n v).rst = s.rst := rfl

/-! ## setRing -/

@[simp] theorem State.setRing_pending (n : Nat) (v : CRing) : (s.setRing n v).pending = s.pending := rfl
@[simp] theorem State.setRing_out (n : Nat) (v : CRing) : (s.setRing n v).out = s.out := rfl
@[simp] theorem State.setRing_freeCtr (n : Nat) (v : CRing) : (s.setRing n v).freeCtr = s.freeCtr := rfl
@[simp] theorem State.setRing_time (n : Nat) (v : CRing) : (s.setRing n v).time = s.time := rfl
@[simp] theorem State.setRing_regs (n : Nat) (v : CRing) : (s.setRing n v).regs = s.regs := rfl
@[simp] theorem State.setRing_prevBank (n : Nat) (v : CRing) : (s.setRing n v).prevBank = s.prevBank := rfl
@[simp] theorem State.setRing_boot (n : Nat) (v : CRing) : (s.setRing n v).boot = s.boot := rfl
@[simp] theorem State.setRing_bundles (n : Nat) (v : CRing) : (s.setRing n v).bundles = s.bundles := rfl
@[simp] theorem State.setRing_cal (n : Nat) (v : CRing) : (s.setRing n v).cal = s.cal := rfl
@[simp] theorem State.setRing_log (n : Nat) (v : CRing) : (s.setRing n v).log = s.log := rfl
@[simp] theorem State.setRing_mon (n : Nat) (v : CRing) : (s.setRing n v).mon = s.mon := rfl
@[simp] theorem State.setRing_margins (n : Nat) (v : CRing) : (s.setRing n v).margins = s.margins := rfl
@[simp] theorem State.setRing_mgmt (n : Nat) (v : CRing) : (s.setRing n v).mgmt = s.mgmt := rfl
@[simp] theorem State.setRing_sync (n : Nat) (v : CRing) : (s.setRing n v).sync = s.sync := rfl
@[simp] theorem State.setRing_queues (n : Nat) (v : CRing) : (s.setRing n v).queues = s.queues := rfl
@[simp] theorem State.setRing_served (n : Nat) (v : CRing) : (s.setRing n v).served = s.served := rfl
@[simp] theorem State.setRing_order (n : Nat) (v : CRing) : (s.setRing n v).order = s.order := rfl
@[simp] theorem State.setRing_engines (n : Nat) (v : CRing) : (s.setRing n v).engines = s.engines := rfl
@[simp] theorem State.setRing_host (n : Nat) (v : CRing) : (s.setRing n v).host = s.host := rfl
@[simp] theorem State.setRing_commit (n : Nat) (v : CRing) : (s.setRing n v).commit = s.commit := rfl
@[simp] theorem State.setRing_launches (n : Nat) (v : CRing) : (s.setRing n v).launches = s.launches := rfl
@[simp] theorem State.setRing_seqs (n : Nat) (v : CRing) : (s.setRing n v).seqs = s.seqs := rfl
@[simp] theorem State.setRing_ibuf (n : Nat) (v : CRing) : (s.setRing n v).ibuf = s.ibuf := rfl
@[simp] theorem State.setRing_spad (n : Nat) (v : CRing) : (s.setRing n v).spad = s.spad := rfl
@[simp] theorem State.setRing_hubsp (n : Nat) (v : CRing) : (s.setRing n v).hubsp = s.hubsp := rfl
@[simp] theorem State.setRing_arrays (n : Nat) (v : CRing) : (s.setRing n v).arrays = s.arrays := rfl
@[simp] theorem State.setRing_acc (n : Nat) (v : CRing) : (s.setRing n v).acc = s.acc := rfl
@[simp] theorem State.setRing_accBad (n : Nat) (v : CRing) : (s.setRing n v).accBad = s.accBad := rfl
@[simp] theorem State.setRing_vreg (n : Nat) (v : CRing) : (s.setRing n v).vreg = s.vreg := rfl
@[simp] theorem State.setRing_graphs (n : Nat) (v : CRing) : (s.setRing n v).graphs = s.graphs := rfl
@[simp] theorem State.setRing_mem (n : Nat) (v : CRing) : (s.setRing n v).mem = s.mem := rfl
@[simp] theorem State.setRing_fab (n : Nat) (v : CRing) : (s.setRing n v).fab = s.fab := rfl
@[simp] theorem State.setRing_col (n : Nat) (v : CRing) : (s.setRing n v).col = s.col := rfl
@[simp] theorem State.setRing_job (n : Nat) (v : CRing) : (s.setRing n v).job = s.job := rfl
@[simp] theorem State.setRing_refl (n : Nat) (v : CRing) : (s.setRing n v).refl = s.refl := rfl
@[simp] theorem State.setRing_ports (n : Nat) (v : CRing) : (s.setRing n v).ports = s.ports := rfl
@[simp] theorem State.setRing_win (n : Nat) (v : CRing) : (s.setRing n v).win = s.win := rfl
@[simp] theorem State.setRing_pwr (n : Nat) (v : CRing) : (s.setRing n v).pwr = s.pwr := rfl
@[simp] theorem State.setRing_thm (n : Nat) (v : CRing) : (s.setRing n v).thm = s.thm := rfl
@[simp] theorem State.setRing_dump (n : Nat) (v : CRing) : (s.setRing n v).dump = s.dump := rfl
@[simp] theorem State.setRing_rst (n : Nat) (v : CRing) : (s.setRing n v).rst = s.rst := rfl

/-! ## setGraph -/

@[simp] theorem State.setGraph_pending (g : Nat) (v : GSlot) : (s.setGraph g v).pending = s.pending := rfl
@[simp] theorem State.setGraph_out (g : Nat) (v : GSlot) : (s.setGraph g v).out = s.out := rfl
@[simp] theorem State.setGraph_freeCtr (g : Nat) (v : GSlot) : (s.setGraph g v).freeCtr = s.freeCtr := rfl
@[simp] theorem State.setGraph_time (g : Nat) (v : GSlot) : (s.setGraph g v).time = s.time := rfl
@[simp] theorem State.setGraph_regs (g : Nat) (v : GSlot) : (s.setGraph g v).regs = s.regs := rfl
@[simp] theorem State.setGraph_prevBank (g : Nat) (v : GSlot) : (s.setGraph g v).prevBank = s.prevBank := rfl
@[simp] theorem State.setGraph_boot (g : Nat) (v : GSlot) : (s.setGraph g v).boot = s.boot := rfl
@[simp] theorem State.setGraph_bundles (g : Nat) (v : GSlot) : (s.setGraph g v).bundles = s.bundles := rfl
@[simp] theorem State.setGraph_cal (g : Nat) (v : GSlot) : (s.setGraph g v).cal = s.cal := rfl
@[simp] theorem State.setGraph_log (g : Nat) (v : GSlot) : (s.setGraph g v).log = s.log := rfl
@[simp] theorem State.setGraph_mon (g : Nat) (v : GSlot) : (s.setGraph g v).mon = s.mon := rfl
@[simp] theorem State.setGraph_margins (g : Nat) (v : GSlot) : (s.setGraph g v).margins = s.margins := rfl
@[simp] theorem State.setGraph_mgmt (g : Nat) (v : GSlot) : (s.setGraph g v).mgmt = s.mgmt := rfl
@[simp] theorem State.setGraph_sync (g : Nat) (v : GSlot) : (s.setGraph g v).sync = s.sync := rfl
@[simp] theorem State.setGraph_queues (g : Nat) (v : GSlot) : (s.setGraph g v).queues = s.queues := rfl
@[simp] theorem State.setGraph_rings (g : Nat) (v : GSlot) : (s.setGraph g v).rings = s.rings := rfl
@[simp] theorem State.setGraph_served (g : Nat) (v : GSlot) : (s.setGraph g v).served = s.served := rfl
@[simp] theorem State.setGraph_order (g : Nat) (v : GSlot) : (s.setGraph g v).order = s.order := rfl
@[simp] theorem State.setGraph_engines (g : Nat) (v : GSlot) : (s.setGraph g v).engines = s.engines := rfl
@[simp] theorem State.setGraph_host (g : Nat) (v : GSlot) : (s.setGraph g v).host = s.host := rfl
@[simp] theorem State.setGraph_commit (g : Nat) (v : GSlot) : (s.setGraph g v).commit = s.commit := rfl
@[simp] theorem State.setGraph_launches (g : Nat) (v : GSlot) : (s.setGraph g v).launches = s.launches := rfl
@[simp] theorem State.setGraph_seqs (g : Nat) (v : GSlot) : (s.setGraph g v).seqs = s.seqs := rfl
@[simp] theorem State.setGraph_ibuf (g : Nat) (v : GSlot) : (s.setGraph g v).ibuf = s.ibuf := rfl
@[simp] theorem State.setGraph_spad (g : Nat) (v : GSlot) : (s.setGraph g v).spad = s.spad := rfl
@[simp] theorem State.setGraph_hubsp (g : Nat) (v : GSlot) : (s.setGraph g v).hubsp = s.hubsp := rfl
@[simp] theorem State.setGraph_arrays (g : Nat) (v : GSlot) : (s.setGraph g v).arrays = s.arrays := rfl
@[simp] theorem State.setGraph_acc (g : Nat) (v : GSlot) : (s.setGraph g v).acc = s.acc := rfl
@[simp] theorem State.setGraph_accBad (g : Nat) (v : GSlot) : (s.setGraph g v).accBad = s.accBad := rfl
@[simp] theorem State.setGraph_vreg (g : Nat) (v : GSlot) : (s.setGraph g v).vreg = s.vreg := rfl
@[simp] theorem State.setGraph_mem (g : Nat) (v : GSlot) : (s.setGraph g v).mem = s.mem := rfl
@[simp] theorem State.setGraph_fab (g : Nat) (v : GSlot) : (s.setGraph g v).fab = s.fab := rfl
@[simp] theorem State.setGraph_col (g : Nat) (v : GSlot) : (s.setGraph g v).col = s.col := rfl
@[simp] theorem State.setGraph_job (g : Nat) (v : GSlot) : (s.setGraph g v).job = s.job := rfl
@[simp] theorem State.setGraph_refl (g : Nat) (v : GSlot) : (s.setGraph g v).refl = s.refl := rfl
@[simp] theorem State.setGraph_ports (g : Nat) (v : GSlot) : (s.setGraph g v).ports = s.ports := rfl
@[simp] theorem State.setGraph_win (g : Nat) (v : GSlot) : (s.setGraph g v).win = s.win := rfl
@[simp] theorem State.setGraph_pwr (g : Nat) (v : GSlot) : (s.setGraph g v).pwr = s.pwr := rfl
@[simp] theorem State.setGraph_thm (g : Nat) (v : GSlot) : (s.setGraph g v).thm = s.thm := rfl
@[simp] theorem State.setGraph_dump (g : Nat) (v : GSlot) : (s.setGraph g v).dump = s.dump := rfl
@[simp] theorem State.setGraph_rst (g : Nat) (v : GSlot) : (s.setGraph g v).rst = s.rst := rfl

/-! ## setSeq -/

@[simp] theorem State.setSeq_pending (q : Nat) (v : Seq) : (s.setSeq q v).pending = s.pending := rfl
@[simp] theorem State.setSeq_out (q : Nat) (v : Seq) : (s.setSeq q v).out = s.out := rfl
@[simp] theorem State.setSeq_freeCtr (q : Nat) (v : Seq) : (s.setSeq q v).freeCtr = s.freeCtr := rfl
@[simp] theorem State.setSeq_time (q : Nat) (v : Seq) : (s.setSeq q v).time = s.time := rfl
@[simp] theorem State.setSeq_regs (q : Nat) (v : Seq) : (s.setSeq q v).regs = s.regs := rfl
@[simp] theorem State.setSeq_prevBank (q : Nat) (v : Seq) : (s.setSeq q v).prevBank = s.prevBank := rfl
@[simp] theorem State.setSeq_boot (q : Nat) (v : Seq) : (s.setSeq q v).boot = s.boot := rfl
@[simp] theorem State.setSeq_bundles (q : Nat) (v : Seq) : (s.setSeq q v).bundles = s.bundles := rfl
@[simp] theorem State.setSeq_cal (q : Nat) (v : Seq) : (s.setSeq q v).cal = s.cal := rfl
@[simp] theorem State.setSeq_log (q : Nat) (v : Seq) : (s.setSeq q v).log = s.log := rfl
@[simp] theorem State.setSeq_mon (q : Nat) (v : Seq) : (s.setSeq q v).mon = s.mon := rfl
@[simp] theorem State.setSeq_margins (q : Nat) (v : Seq) : (s.setSeq q v).margins = s.margins := rfl
@[simp] theorem State.setSeq_mgmt (q : Nat) (v : Seq) : (s.setSeq q v).mgmt = s.mgmt := rfl
@[simp] theorem State.setSeq_sync (q : Nat) (v : Seq) : (s.setSeq q v).sync = s.sync := rfl
@[simp] theorem State.setSeq_queues (q : Nat) (v : Seq) : (s.setSeq q v).queues = s.queues := rfl
@[simp] theorem State.setSeq_rings (q : Nat) (v : Seq) : (s.setSeq q v).rings = s.rings := rfl
@[simp] theorem State.setSeq_served (q : Nat) (v : Seq) : (s.setSeq q v).served = s.served := rfl
@[simp] theorem State.setSeq_order (q : Nat) (v : Seq) : (s.setSeq q v).order = s.order := rfl
@[simp] theorem State.setSeq_engines (q : Nat) (v : Seq) : (s.setSeq q v).engines = s.engines := rfl
@[simp] theorem State.setSeq_host (q : Nat) (v : Seq) : (s.setSeq q v).host = s.host := rfl
@[simp] theorem State.setSeq_commit (q : Nat) (v : Seq) : (s.setSeq q v).commit = s.commit := rfl
@[simp] theorem State.setSeq_launches (q : Nat) (v : Seq) : (s.setSeq q v).launches = s.launches := rfl
@[simp] theorem State.setSeq_ibuf (q : Nat) (v : Seq) : (s.setSeq q v).ibuf = s.ibuf := rfl
@[simp] theorem State.setSeq_spad (q : Nat) (v : Seq) : (s.setSeq q v).spad = s.spad := rfl
@[simp] theorem State.setSeq_hubsp (q : Nat) (v : Seq) : (s.setSeq q v).hubsp = s.hubsp := rfl
@[simp] theorem State.setSeq_arrays (q : Nat) (v : Seq) : (s.setSeq q v).arrays = s.arrays := rfl
@[simp] theorem State.setSeq_acc (q : Nat) (v : Seq) : (s.setSeq q v).acc = s.acc := rfl
@[simp] theorem State.setSeq_accBad (q : Nat) (v : Seq) : (s.setSeq q v).accBad = s.accBad := rfl
@[simp] theorem State.setSeq_vreg (q : Nat) (v : Seq) : (s.setSeq q v).vreg = s.vreg := rfl
@[simp] theorem State.setSeq_graphs (q : Nat) (v : Seq) : (s.setSeq q v).graphs = s.graphs := rfl
@[simp] theorem State.setSeq_mem (q : Nat) (v : Seq) : (s.setSeq q v).mem = s.mem := rfl
@[simp] theorem State.setSeq_fab (q : Nat) (v : Seq) : (s.setSeq q v).fab = s.fab := rfl
@[simp] theorem State.setSeq_col (q : Nat) (v : Seq) : (s.setSeq q v).col = s.col := rfl
@[simp] theorem State.setSeq_job (q : Nat) (v : Seq) : (s.setSeq q v).job = s.job := rfl
@[simp] theorem State.setSeq_refl (q : Nat) (v : Seq) : (s.setSeq q v).refl = s.refl := rfl
@[simp] theorem State.setSeq_ports (q : Nat) (v : Seq) : (s.setSeq q v).ports = s.ports := rfl
@[simp] theorem State.setSeq_win (q : Nat) (v : Seq) : (s.setSeq q v).win = s.win := rfl
@[simp] theorem State.setSeq_pwr (q : Nat) (v : Seq) : (s.setSeq q v).pwr = s.pwr := rfl
@[simp] theorem State.setSeq_thm (q : Nat) (v : Seq) : (s.setSeq q v).thm = s.thm := rfl
@[simp] theorem State.setSeq_dump (q : Nat) (v : Seq) : (s.setSeq q v).dump = s.dump := rfl
@[simp] theorem State.setSeq_rst (q : Nat) (v : Seq) : (s.setSeq q v).rst = s.rst := rfl

/-! ## setArr -/

@[simp] theorem State.setArr_pending (i : Nat) (v : Arr) : (s.setArr i v).pending = s.pending := rfl
@[simp] theorem State.setArr_out (i : Nat) (v : Arr) : (s.setArr i v).out = s.out := rfl
@[simp] theorem State.setArr_freeCtr (i : Nat) (v : Arr) : (s.setArr i v).freeCtr = s.freeCtr := rfl
@[simp] theorem State.setArr_time (i : Nat) (v : Arr) : (s.setArr i v).time = s.time := rfl
@[simp] theorem State.setArr_regs (i : Nat) (v : Arr) : (s.setArr i v).regs = s.regs := rfl
@[simp] theorem State.setArr_prevBank (i : Nat) (v : Arr) : (s.setArr i v).prevBank = s.prevBank := rfl
@[simp] theorem State.setArr_boot (i : Nat) (v : Arr) : (s.setArr i v).boot = s.boot := rfl
@[simp] theorem State.setArr_bundles (i : Nat) (v : Arr) : (s.setArr i v).bundles = s.bundles := rfl
@[simp] theorem State.setArr_cal (i : Nat) (v : Arr) : (s.setArr i v).cal = s.cal := rfl
@[simp] theorem State.setArr_log (i : Nat) (v : Arr) : (s.setArr i v).log = s.log := rfl
@[simp] theorem State.setArr_mon (i : Nat) (v : Arr) : (s.setArr i v).mon = s.mon := rfl
@[simp] theorem State.setArr_margins (i : Nat) (v : Arr) : (s.setArr i v).margins = s.margins := rfl
@[simp] theorem State.setArr_mgmt (i : Nat) (v : Arr) : (s.setArr i v).mgmt = s.mgmt := rfl
@[simp] theorem State.setArr_sync (i : Nat) (v : Arr) : (s.setArr i v).sync = s.sync := rfl
@[simp] theorem State.setArr_queues (i : Nat) (v : Arr) : (s.setArr i v).queues = s.queues := rfl
@[simp] theorem State.setArr_rings (i : Nat) (v : Arr) : (s.setArr i v).rings = s.rings := rfl
@[simp] theorem State.setArr_served (i : Nat) (v : Arr) : (s.setArr i v).served = s.served := rfl
@[simp] theorem State.setArr_order (i : Nat) (v : Arr) : (s.setArr i v).order = s.order := rfl
@[simp] theorem State.setArr_engines (i : Nat) (v : Arr) : (s.setArr i v).engines = s.engines := rfl
@[simp] theorem State.setArr_host (i : Nat) (v : Arr) : (s.setArr i v).host = s.host := rfl
@[simp] theorem State.setArr_commit (i : Nat) (v : Arr) : (s.setArr i v).commit = s.commit := rfl
@[simp] theorem State.setArr_launches (i : Nat) (v : Arr) : (s.setArr i v).launches = s.launches := rfl
@[simp] theorem State.setArr_seqs (i : Nat) (v : Arr) : (s.setArr i v).seqs = s.seqs := rfl
@[simp] theorem State.setArr_ibuf (i : Nat) (v : Arr) : (s.setArr i v).ibuf = s.ibuf := rfl
@[simp] theorem State.setArr_spad (i : Nat) (v : Arr) : (s.setArr i v).spad = s.spad := rfl
@[simp] theorem State.setArr_hubsp (i : Nat) (v : Arr) : (s.setArr i v).hubsp = s.hubsp := rfl
@[simp] theorem State.setArr_acc (i : Nat) (v : Arr) : (s.setArr i v).acc = s.acc := rfl
@[simp] theorem State.setArr_accBad (i : Nat) (v : Arr) : (s.setArr i v).accBad = s.accBad := rfl
@[simp] theorem State.setArr_vreg (i : Nat) (v : Arr) : (s.setArr i v).vreg = s.vreg := rfl
@[simp] theorem State.setArr_graphs (i : Nat) (v : Arr) : (s.setArr i v).graphs = s.graphs := rfl
@[simp] theorem State.setArr_mem (i : Nat) (v : Arr) : (s.setArr i v).mem = s.mem := rfl
@[simp] theorem State.setArr_fab (i : Nat) (v : Arr) : (s.setArr i v).fab = s.fab := rfl
@[simp] theorem State.setArr_col (i : Nat) (v : Arr) : (s.setArr i v).col = s.col := rfl
@[simp] theorem State.setArr_job (i : Nat) (v : Arr) : (s.setArr i v).job = s.job := rfl
@[simp] theorem State.setArr_refl (i : Nat) (v : Arr) : (s.setArr i v).refl = s.refl := rfl
@[simp] theorem State.setArr_ports (i : Nat) (v : Arr) : (s.setArr i v).ports = s.ports := rfl
@[simp] theorem State.setArr_win (i : Nat) (v : Arr) : (s.setArr i v).win = s.win := rfl
@[simp] theorem State.setArr_pwr (i : Nat) (v : Arr) : (s.setArr i v).pwr = s.pwr := rfl
@[simp] theorem State.setArr_thm (i : Nat) (v : Arr) : (s.setArr i v).thm = s.thm := rfl
@[simp] theorem State.setArr_dump (i : Nat) (v : Arr) : (s.setArr i v).dump = s.dump := rfl
@[simp] theorem State.setArr_rst (i : Nat) (v : Arr) : (s.setArr i v).rst = s.rst := rfl

/-! ## setSpad -/

@[simp] theorem State.setSpad_pending (m : Mem) : (s.setSpad m).pending = s.pending := rfl
@[simp] theorem State.setSpad_out (m : Mem) : (s.setSpad m).out = s.out := rfl
@[simp] theorem State.setSpad_freeCtr (m : Mem) : (s.setSpad m).freeCtr = s.freeCtr := rfl
@[simp] theorem State.setSpad_time (m : Mem) : (s.setSpad m).time = s.time := rfl
@[simp] theorem State.setSpad_regs (m : Mem) : (s.setSpad m).regs = s.regs := rfl
@[simp] theorem State.setSpad_prevBank (m : Mem) : (s.setSpad m).prevBank = s.prevBank := rfl
@[simp] theorem State.setSpad_boot (m : Mem) : (s.setSpad m).boot = s.boot := rfl
@[simp] theorem State.setSpad_bundles (m : Mem) : (s.setSpad m).bundles = s.bundles := rfl
@[simp] theorem State.setSpad_cal (m : Mem) : (s.setSpad m).cal = s.cal := rfl
@[simp] theorem State.setSpad_log (m : Mem) : (s.setSpad m).log = s.log := rfl
@[simp] theorem State.setSpad_mon (m : Mem) : (s.setSpad m).mon = s.mon := rfl
@[simp] theorem State.setSpad_margins (m : Mem) : (s.setSpad m).margins = s.margins := rfl
@[simp] theorem State.setSpad_mgmt (m : Mem) : (s.setSpad m).mgmt = s.mgmt := rfl
@[simp] theorem State.setSpad_sync (m : Mem) : (s.setSpad m).sync = s.sync := rfl
@[simp] theorem State.setSpad_queues (m : Mem) : (s.setSpad m).queues = s.queues := rfl
@[simp] theorem State.setSpad_rings (m : Mem) : (s.setSpad m).rings = s.rings := rfl
@[simp] theorem State.setSpad_served (m : Mem) : (s.setSpad m).served = s.served := rfl
@[simp] theorem State.setSpad_order (m : Mem) : (s.setSpad m).order = s.order := rfl
@[simp] theorem State.setSpad_engines (m : Mem) : (s.setSpad m).engines = s.engines := rfl
@[simp] theorem State.setSpad_host (m : Mem) : (s.setSpad m).host = s.host := rfl
@[simp] theorem State.setSpad_commit (m : Mem) : (s.setSpad m).commit = s.commit := rfl
@[simp] theorem State.setSpad_launches (m : Mem) : (s.setSpad m).launches = s.launches := rfl
@[simp] theorem State.setSpad_seqs (m : Mem) : (s.setSpad m).seqs = s.seqs := rfl
@[simp] theorem State.setSpad_ibuf (m : Mem) : (s.setSpad m).ibuf = s.ibuf := rfl
@[simp] theorem State.setSpad_hubsp (m : Mem) : (s.setSpad m).hubsp = s.hubsp := rfl
@[simp] theorem State.setSpad_arrays (m : Mem) : (s.setSpad m).arrays = s.arrays := rfl
@[simp] theorem State.setSpad_acc (m : Mem) : (s.setSpad m).acc = s.acc := rfl
@[simp] theorem State.setSpad_accBad (m : Mem) : (s.setSpad m).accBad = s.accBad := rfl
@[simp] theorem State.setSpad_vreg (m : Mem) : (s.setSpad m).vreg = s.vreg := rfl
@[simp] theorem State.setSpad_graphs (m : Mem) : (s.setSpad m).graphs = s.graphs := rfl
@[simp] theorem State.setSpad_mem (m : Mem) : (s.setSpad m).mem = s.mem := rfl
@[simp] theorem State.setSpad_fab (m : Mem) : (s.setSpad m).fab = s.fab := rfl
@[simp] theorem State.setSpad_col (m : Mem) : (s.setSpad m).col = s.col := rfl
@[simp] theorem State.setSpad_job (m : Mem) : (s.setSpad m).job = s.job := rfl
@[simp] theorem State.setSpad_refl (m : Mem) : (s.setSpad m).refl = s.refl := rfl
@[simp] theorem State.setSpad_ports (m : Mem) : (s.setSpad m).ports = s.ports := rfl
@[simp] theorem State.setSpad_win (m : Mem) : (s.setSpad m).win = s.win := rfl
@[simp] theorem State.setSpad_pwr (m : Mem) : (s.setSpad m).pwr = s.pwr := rfl
@[simp] theorem State.setSpad_thm (m : Mem) : (s.setSpad m).thm = s.thm := rfl
@[simp] theorem State.setSpad_dump (m : Mem) : (s.setSpad m).dump = s.dump := rfl
@[simp] theorem State.setSpad_rst (m : Mem) : (s.setSpad m).rst = s.rst := rfl

/-! ## setHub -/

@[simp] theorem State.setHub_pending (m : Mem) : (s.setHub m).pending = s.pending := rfl
@[simp] theorem State.setHub_out (m : Mem) : (s.setHub m).out = s.out := rfl
@[simp] theorem State.setHub_freeCtr (m : Mem) : (s.setHub m).freeCtr = s.freeCtr := rfl
@[simp] theorem State.setHub_time (m : Mem) : (s.setHub m).time = s.time := rfl
@[simp] theorem State.setHub_regs (m : Mem) : (s.setHub m).regs = s.regs := rfl
@[simp] theorem State.setHub_prevBank (m : Mem) : (s.setHub m).prevBank = s.prevBank := rfl
@[simp] theorem State.setHub_boot (m : Mem) : (s.setHub m).boot = s.boot := rfl
@[simp] theorem State.setHub_bundles (m : Mem) : (s.setHub m).bundles = s.bundles := rfl
@[simp] theorem State.setHub_cal (m : Mem) : (s.setHub m).cal = s.cal := rfl
@[simp] theorem State.setHub_log (m : Mem) : (s.setHub m).log = s.log := rfl
@[simp] theorem State.setHub_mon (m : Mem) : (s.setHub m).mon = s.mon := rfl
@[simp] theorem State.setHub_margins (m : Mem) : (s.setHub m).margins = s.margins := rfl
@[simp] theorem State.setHub_mgmt (m : Mem) : (s.setHub m).mgmt = s.mgmt := rfl
@[simp] theorem State.setHub_sync (m : Mem) : (s.setHub m).sync = s.sync := rfl
@[simp] theorem State.setHub_queues (m : Mem) : (s.setHub m).queues = s.queues := rfl
@[simp] theorem State.setHub_rings (m : Mem) : (s.setHub m).rings = s.rings := rfl
@[simp] theorem State.setHub_served (m : Mem) : (s.setHub m).served = s.served := rfl
@[simp] theorem State.setHub_order (m : Mem) : (s.setHub m).order = s.order := rfl
@[simp] theorem State.setHub_engines (m : Mem) : (s.setHub m).engines = s.engines := rfl
@[simp] theorem State.setHub_host (m : Mem) : (s.setHub m).host = s.host := rfl
@[simp] theorem State.setHub_commit (m : Mem) : (s.setHub m).commit = s.commit := rfl
@[simp] theorem State.setHub_launches (m : Mem) : (s.setHub m).launches = s.launches := rfl
@[simp] theorem State.setHub_seqs (m : Mem) : (s.setHub m).seqs = s.seqs := rfl
@[simp] theorem State.setHub_ibuf (m : Mem) : (s.setHub m).ibuf = s.ibuf := rfl
@[simp] theorem State.setHub_spad (m : Mem) : (s.setHub m).spad = s.spad := rfl
@[simp] theorem State.setHub_arrays (m : Mem) : (s.setHub m).arrays = s.arrays := rfl
@[simp] theorem State.setHub_acc (m : Mem) : (s.setHub m).acc = s.acc := rfl
@[simp] theorem State.setHub_accBad (m : Mem) : (s.setHub m).accBad = s.accBad := rfl
@[simp] theorem State.setHub_vreg (m : Mem) : (s.setHub m).vreg = s.vreg := rfl
@[simp] theorem State.setHub_graphs (m : Mem) : (s.setHub m).graphs = s.graphs := rfl
@[simp] theorem State.setHub_mem (m : Mem) : (s.setHub m).mem = s.mem := rfl
@[simp] theorem State.setHub_fab (m : Mem) : (s.setHub m).fab = s.fab := rfl
@[simp] theorem State.setHub_col (m : Mem) : (s.setHub m).col = s.col := rfl
@[simp] theorem State.setHub_job (m : Mem) : (s.setHub m).job = s.job := rfl
@[simp] theorem State.setHub_refl (m : Mem) : (s.setHub m).refl = s.refl := rfl
@[simp] theorem State.setHub_ports (m : Mem) : (s.setHub m).ports = s.ports := rfl
@[simp] theorem State.setHub_win (m : Mem) : (s.setHub m).win = s.win := rfl
@[simp] theorem State.setHub_pwr (m : Mem) : (s.setHub m).pwr = s.pwr := rfl
@[simp] theorem State.setHub_thm (m : Mem) : (s.setHub m).thm = s.thm := rfl
@[simp] theorem State.setHub_dump (m : Mem) : (s.setHub m).dump = s.dump := rfl
@[simp] theorem State.setHub_rst (m : Mem) : (s.setHub m).rst = s.rst := rfl

/-! ## setDram -/

@[simp] theorem State.setDram_pending (m : Mem) : (s.setDram m).pending = s.pending := rfl
@[simp] theorem State.setDram_out (m : Mem) : (s.setDram m).out = s.out := rfl
@[simp] theorem State.setDram_freeCtr (m : Mem) : (s.setDram m).freeCtr = s.freeCtr := rfl
@[simp] theorem State.setDram_time (m : Mem) : (s.setDram m).time = s.time := rfl
@[simp] theorem State.setDram_regs (m : Mem) : (s.setDram m).regs = s.regs := rfl
@[simp] theorem State.setDram_prevBank (m : Mem) : (s.setDram m).prevBank = s.prevBank := rfl
@[simp] theorem State.setDram_boot (m : Mem) : (s.setDram m).boot = s.boot := rfl
@[simp] theorem State.setDram_bundles (m : Mem) : (s.setDram m).bundles = s.bundles := rfl
@[simp] theorem State.setDram_cal (m : Mem) : (s.setDram m).cal = s.cal := rfl
@[simp] theorem State.setDram_log (m : Mem) : (s.setDram m).log = s.log := rfl
@[simp] theorem State.setDram_mon (m : Mem) : (s.setDram m).mon = s.mon := rfl
@[simp] theorem State.setDram_margins (m : Mem) : (s.setDram m).margins = s.margins := rfl
@[simp] theorem State.setDram_mgmt (m : Mem) : (s.setDram m).mgmt = s.mgmt := rfl
@[simp] theorem State.setDram_sync (m : Mem) : (s.setDram m).sync = s.sync := rfl
@[simp] theorem State.setDram_queues (m : Mem) : (s.setDram m).queues = s.queues := rfl
@[simp] theorem State.setDram_rings (m : Mem) : (s.setDram m).rings = s.rings := rfl
@[simp] theorem State.setDram_served (m : Mem) : (s.setDram m).served = s.served := rfl
@[simp] theorem State.setDram_order (m : Mem) : (s.setDram m).order = s.order := rfl
@[simp] theorem State.setDram_engines (m : Mem) : (s.setDram m).engines = s.engines := rfl
@[simp] theorem State.setDram_host (m : Mem) : (s.setDram m).host = s.host := rfl
@[simp] theorem State.setDram_commit (m : Mem) : (s.setDram m).commit = s.commit := rfl
@[simp] theorem State.setDram_launches (m : Mem) : (s.setDram m).launches = s.launches := rfl
@[simp] theorem State.setDram_seqs (m : Mem) : (s.setDram m).seqs = s.seqs := rfl
@[simp] theorem State.setDram_ibuf (m : Mem) : (s.setDram m).ibuf = s.ibuf := rfl
@[simp] theorem State.setDram_spad (m : Mem) : (s.setDram m).spad = s.spad := rfl
@[simp] theorem State.setDram_hubsp (m : Mem) : (s.setDram m).hubsp = s.hubsp := rfl
@[simp] theorem State.setDram_arrays (m : Mem) : (s.setDram m).arrays = s.arrays := rfl
@[simp] theorem State.setDram_acc (m : Mem) : (s.setDram m).acc = s.acc := rfl
@[simp] theorem State.setDram_accBad (m : Mem) : (s.setDram m).accBad = s.accBad := rfl
@[simp] theorem State.setDram_vreg (m : Mem) : (s.setDram m).vreg = s.vreg := rfl
@[simp] theorem State.setDram_graphs (m : Mem) : (s.setDram m).graphs = s.graphs := rfl
@[simp] theorem State.setDram_fab (m : Mem) : (s.setDram m).fab = s.fab := rfl
@[simp] theorem State.setDram_col (m : Mem) : (s.setDram m).col = s.col := rfl
@[simp] theorem State.setDram_job (m : Mem) : (s.setDram m).job = s.job := rfl
@[simp] theorem State.setDram_refl (m : Mem) : (s.setDram m).refl = s.refl := rfl
@[simp] theorem State.setDram_ports (m : Mem) : (s.setDram m).ports = s.ports := rfl
@[simp] theorem State.setDram_win (m : Mem) : (s.setDram m).win = s.win := rfl
@[simp] theorem State.setDram_pwr (m : Mem) : (s.setDram m).pwr = s.pwr := rfl
@[simp] theorem State.setDram_thm (m : Mem) : (s.setDram m).thm = s.thm := rfl
@[simp] theorem State.setDram_dump (m : Mem) : (s.setDram m).dump = s.dump := rfl
@[simp] theorem State.setDram_rst (m : Mem) : (s.setDram m).rst = s.rst := rfl

/-! ## storeMedia -/

@[simp] theorem State.storeMedia_pending (k : Nat) (bs : List Byte) : (s.storeMedia k bs).pending = s.pending := rfl
@[simp] theorem State.storeMedia_out (k : Nat) (bs : List Byte) : (s.storeMedia k bs).out = s.out := rfl
@[simp] theorem State.storeMedia_freeCtr (k : Nat) (bs : List Byte) : (s.storeMedia k bs).freeCtr = s.freeCtr := rfl
@[simp] theorem State.storeMedia_time (k : Nat) (bs : List Byte) : (s.storeMedia k bs).time = s.time := rfl
@[simp] theorem State.storeMedia_regs (k : Nat) (bs : List Byte) : (s.storeMedia k bs).regs = s.regs := rfl
@[simp] theorem State.storeMedia_prevBank (k : Nat) (bs : List Byte) : (s.storeMedia k bs).prevBank = s.prevBank := rfl
@[simp] theorem State.storeMedia_boot (k : Nat) (bs : List Byte) : (s.storeMedia k bs).boot = s.boot := rfl
@[simp] theorem State.storeMedia_bundles (k : Nat) (bs : List Byte) : (s.storeMedia k bs).bundles = s.bundles := rfl
@[simp] theorem State.storeMedia_cal (k : Nat) (bs : List Byte) : (s.storeMedia k bs).cal = s.cal := rfl
@[simp] theorem State.storeMedia_log (k : Nat) (bs : List Byte) : (s.storeMedia k bs).log = s.log := rfl
@[simp] theorem State.storeMedia_mon (k : Nat) (bs : List Byte) : (s.storeMedia k bs).mon = s.mon := rfl
@[simp] theorem State.storeMedia_margins (k : Nat) (bs : List Byte) : (s.storeMedia k bs).margins = s.margins := rfl
@[simp] theorem State.storeMedia_mgmt (k : Nat) (bs : List Byte) : (s.storeMedia k bs).mgmt = s.mgmt := rfl
@[simp] theorem State.storeMedia_sync (k : Nat) (bs : List Byte) : (s.storeMedia k bs).sync = s.sync := rfl
@[simp] theorem State.storeMedia_queues (k : Nat) (bs : List Byte) : (s.storeMedia k bs).queues = s.queues := rfl
@[simp] theorem State.storeMedia_rings (k : Nat) (bs : List Byte) : (s.storeMedia k bs).rings = s.rings := rfl
@[simp] theorem State.storeMedia_served (k : Nat) (bs : List Byte) : (s.storeMedia k bs).served = s.served := rfl
@[simp] theorem State.storeMedia_order (k : Nat) (bs : List Byte) : (s.storeMedia k bs).order = s.order := rfl
@[simp] theorem State.storeMedia_engines (k : Nat) (bs : List Byte) : (s.storeMedia k bs).engines = s.engines := rfl
@[simp] theorem State.storeMedia_host (k : Nat) (bs : List Byte) : (s.storeMedia k bs).host = s.host := rfl
@[simp] theorem State.storeMedia_commit (k : Nat) (bs : List Byte) : (s.storeMedia k bs).commit = s.commit := rfl
@[simp] theorem State.storeMedia_launches (k : Nat) (bs : List Byte) : (s.storeMedia k bs).launches = s.launches := rfl
@[simp] theorem State.storeMedia_seqs (k : Nat) (bs : List Byte) : (s.storeMedia k bs).seqs = s.seqs := rfl
@[simp] theorem State.storeMedia_ibuf (k : Nat) (bs : List Byte) : (s.storeMedia k bs).ibuf = s.ibuf := rfl
@[simp] theorem State.storeMedia_spad (k : Nat) (bs : List Byte) : (s.storeMedia k bs).spad = s.spad := rfl
@[simp] theorem State.storeMedia_hubsp (k : Nat) (bs : List Byte) : (s.storeMedia k bs).hubsp = s.hubsp := rfl
@[simp] theorem State.storeMedia_arrays (k : Nat) (bs : List Byte) : (s.storeMedia k bs).arrays = s.arrays := rfl
@[simp] theorem State.storeMedia_acc (k : Nat) (bs : List Byte) : (s.storeMedia k bs).acc = s.acc := rfl
@[simp] theorem State.storeMedia_accBad (k : Nat) (bs : List Byte) : (s.storeMedia k bs).accBad = s.accBad := rfl
@[simp] theorem State.storeMedia_vreg (k : Nat) (bs : List Byte) : (s.storeMedia k bs).vreg = s.vreg := rfl
@[simp] theorem State.storeMedia_graphs (k : Nat) (bs : List Byte) : (s.storeMedia k bs).graphs = s.graphs := rfl
@[simp] theorem State.storeMedia_fab (k : Nat) (bs : List Byte) : (s.storeMedia k bs).fab = s.fab := rfl
@[simp] theorem State.storeMedia_col (k : Nat) (bs : List Byte) : (s.storeMedia k bs).col = s.col := rfl
@[simp] theorem State.storeMedia_job (k : Nat) (bs : List Byte) : (s.storeMedia k bs).job = s.job := rfl
@[simp] theorem State.storeMedia_refl (k : Nat) (bs : List Byte) : (s.storeMedia k bs).refl = s.refl := rfl
@[simp] theorem State.storeMedia_ports (k : Nat) (bs : List Byte) : (s.storeMedia k bs).ports = s.ports := rfl
@[simp] theorem State.storeMedia_win (k : Nat) (bs : List Byte) : (s.storeMedia k bs).win = s.win := rfl
@[simp] theorem State.storeMedia_pwr (k : Nat) (bs : List Byte) : (s.storeMedia k bs).pwr = s.pwr := rfl
@[simp] theorem State.storeMedia_thm (k : Nat) (bs : List Byte) : (s.storeMedia k bs).thm = s.thm := rfl
@[simp] theorem State.storeMedia_dump (k : Nat) (bs : List Byte) : (s.storeMedia k bs).dump = s.dump := rfl
@[simp] theorem State.storeMedia_rst (k : Nat) (bs : List Byte) : (s.storeMedia k bs).rst = s.rst := rfl

/-! ## setChan -/

@[simp] theorem State.setChan_pending (i : Nat) (c : Chan) : (s.setChan i c).pending = s.pending := rfl
@[simp] theorem State.setChan_out (i : Nat) (c : Chan) : (s.setChan i c).out = s.out := rfl
@[simp] theorem State.setChan_freeCtr (i : Nat) (c : Chan) : (s.setChan i c).freeCtr = s.freeCtr := rfl
@[simp] theorem State.setChan_time (i : Nat) (c : Chan) : (s.setChan i c).time = s.time := rfl
@[simp] theorem State.setChan_regs (i : Nat) (c : Chan) : (s.setChan i c).regs = s.regs := rfl
@[simp] theorem State.setChan_prevBank (i : Nat) (c : Chan) : (s.setChan i c).prevBank = s.prevBank := rfl
@[simp] theorem State.setChan_boot (i : Nat) (c : Chan) : (s.setChan i c).boot = s.boot := rfl
@[simp] theorem State.setChan_bundles (i : Nat) (c : Chan) : (s.setChan i c).bundles = s.bundles := rfl
@[simp] theorem State.setChan_cal (i : Nat) (c : Chan) : (s.setChan i c).cal = s.cal := rfl
@[simp] theorem State.setChan_log (i : Nat) (c : Chan) : (s.setChan i c).log = s.log := rfl
@[simp] theorem State.setChan_mon (i : Nat) (c : Chan) : (s.setChan i c).mon = s.mon := rfl
@[simp] theorem State.setChan_margins (i : Nat) (c : Chan) : (s.setChan i c).margins = s.margins := rfl
@[simp] theorem State.setChan_mgmt (i : Nat) (c : Chan) : (s.setChan i c).mgmt = s.mgmt := rfl
@[simp] theorem State.setChan_sync (i : Nat) (c : Chan) : (s.setChan i c).sync = s.sync := rfl
@[simp] theorem State.setChan_queues (i : Nat) (c : Chan) : (s.setChan i c).queues = s.queues := rfl
@[simp] theorem State.setChan_rings (i : Nat) (c : Chan) : (s.setChan i c).rings = s.rings := rfl
@[simp] theorem State.setChan_served (i : Nat) (c : Chan) : (s.setChan i c).served = s.served := rfl
@[simp] theorem State.setChan_order (i : Nat) (c : Chan) : (s.setChan i c).order = s.order := rfl
@[simp] theorem State.setChan_engines (i : Nat) (c : Chan) : (s.setChan i c).engines = s.engines := rfl
@[simp] theorem State.setChan_host (i : Nat) (c : Chan) : (s.setChan i c).host = s.host := rfl
@[simp] theorem State.setChan_commit (i : Nat) (c : Chan) : (s.setChan i c).commit = s.commit := rfl
@[simp] theorem State.setChan_launches (i : Nat) (c : Chan) : (s.setChan i c).launches = s.launches := rfl
@[simp] theorem State.setChan_seqs (i : Nat) (c : Chan) : (s.setChan i c).seqs = s.seqs := rfl
@[simp] theorem State.setChan_ibuf (i : Nat) (c : Chan) : (s.setChan i c).ibuf = s.ibuf := rfl
@[simp] theorem State.setChan_spad (i : Nat) (c : Chan) : (s.setChan i c).spad = s.spad := rfl
@[simp] theorem State.setChan_hubsp (i : Nat) (c : Chan) : (s.setChan i c).hubsp = s.hubsp := rfl
@[simp] theorem State.setChan_arrays (i : Nat) (c : Chan) : (s.setChan i c).arrays = s.arrays := rfl
@[simp] theorem State.setChan_acc (i : Nat) (c : Chan) : (s.setChan i c).acc = s.acc := rfl
@[simp] theorem State.setChan_accBad (i : Nat) (c : Chan) : (s.setChan i c).accBad = s.accBad := rfl
@[simp] theorem State.setChan_vreg (i : Nat) (c : Chan) : (s.setChan i c).vreg = s.vreg := rfl
@[simp] theorem State.setChan_graphs (i : Nat) (c : Chan) : (s.setChan i c).graphs = s.graphs := rfl
@[simp] theorem State.setChan_fab (i : Nat) (c : Chan) : (s.setChan i c).fab = s.fab := rfl
@[simp] theorem State.setChan_col (i : Nat) (c : Chan) : (s.setChan i c).col = s.col := rfl
@[simp] theorem State.setChan_job (i : Nat) (c : Chan) : (s.setChan i c).job = s.job := rfl
@[simp] theorem State.setChan_refl (i : Nat) (c : Chan) : (s.setChan i c).refl = s.refl := rfl
@[simp] theorem State.setChan_ports (i : Nat) (c : Chan) : (s.setChan i c).ports = s.ports := rfl
@[simp] theorem State.setChan_win (i : Nat) (c : Chan) : (s.setChan i c).win = s.win := rfl
@[simp] theorem State.setChan_pwr (i : Nat) (c : Chan) : (s.setChan i c).pwr = s.pwr := rfl
@[simp] theorem State.setChan_thm (i : Nat) (c : Chan) : (s.setChan i c).thm = s.thm := rfl
@[simp] theorem State.setChan_dump (i : Nat) (c : Chan) : (s.setChan i c).dump = s.dump := rfl
@[simp] theorem State.setChan_rst (i : Nat) (c : Chan) : (s.setChan i c).rst = s.rst := rfl

/-! ## setStk -/

@[simp] theorem State.setStk_pending (i : Nat) (c : Stack) : (s.setStk i c).pending = s.pending := rfl
@[simp] theorem State.setStk_out (i : Nat) (c : Stack) : (s.setStk i c).out = s.out := rfl
@[simp] theorem State.setStk_freeCtr (i : Nat) (c : Stack) : (s.setStk i c).freeCtr = s.freeCtr := rfl
@[simp] theorem State.setStk_time (i : Nat) (c : Stack) : (s.setStk i c).time = s.time := rfl
@[simp] theorem State.setStk_regs (i : Nat) (c : Stack) : (s.setStk i c).regs = s.regs := rfl
@[simp] theorem State.setStk_prevBank (i : Nat) (c : Stack) : (s.setStk i c).prevBank = s.prevBank := rfl
@[simp] theorem State.setStk_boot (i : Nat) (c : Stack) : (s.setStk i c).boot = s.boot := rfl
@[simp] theorem State.setStk_bundles (i : Nat) (c : Stack) : (s.setStk i c).bundles = s.bundles := rfl
@[simp] theorem State.setStk_cal (i : Nat) (c : Stack) : (s.setStk i c).cal = s.cal := rfl
@[simp] theorem State.setStk_log (i : Nat) (c : Stack) : (s.setStk i c).log = s.log := rfl
@[simp] theorem State.setStk_mon (i : Nat) (c : Stack) : (s.setStk i c).mon = s.mon := rfl
@[simp] theorem State.setStk_margins (i : Nat) (c : Stack) : (s.setStk i c).margins = s.margins := rfl
@[simp] theorem State.setStk_mgmt (i : Nat) (c : Stack) : (s.setStk i c).mgmt = s.mgmt := rfl
@[simp] theorem State.setStk_sync (i : Nat) (c : Stack) : (s.setStk i c).sync = s.sync := rfl
@[simp] theorem State.setStk_queues (i : Nat) (c : Stack) : (s.setStk i c).queues = s.queues := rfl
@[simp] theorem State.setStk_rings (i : Nat) (c : Stack) : (s.setStk i c).rings = s.rings := rfl
@[simp] theorem State.setStk_served (i : Nat) (c : Stack) : (s.setStk i c).served = s.served := rfl
@[simp] theorem State.setStk_order (i : Nat) (c : Stack) : (s.setStk i c).order = s.order := rfl
@[simp] theorem State.setStk_engines (i : Nat) (c : Stack) : (s.setStk i c).engines = s.engines := rfl
@[simp] theorem State.setStk_host (i : Nat) (c : Stack) : (s.setStk i c).host = s.host := rfl
@[simp] theorem State.setStk_commit (i : Nat) (c : Stack) : (s.setStk i c).commit = s.commit := rfl
@[simp] theorem State.setStk_launches (i : Nat) (c : Stack) : (s.setStk i c).launches = s.launches := rfl
@[simp] theorem State.setStk_seqs (i : Nat) (c : Stack) : (s.setStk i c).seqs = s.seqs := rfl
@[simp] theorem State.setStk_ibuf (i : Nat) (c : Stack) : (s.setStk i c).ibuf = s.ibuf := rfl
@[simp] theorem State.setStk_spad (i : Nat) (c : Stack) : (s.setStk i c).spad = s.spad := rfl
@[simp] theorem State.setStk_hubsp (i : Nat) (c : Stack) : (s.setStk i c).hubsp = s.hubsp := rfl
@[simp] theorem State.setStk_arrays (i : Nat) (c : Stack) : (s.setStk i c).arrays = s.arrays := rfl
@[simp] theorem State.setStk_acc (i : Nat) (c : Stack) : (s.setStk i c).acc = s.acc := rfl
@[simp] theorem State.setStk_accBad (i : Nat) (c : Stack) : (s.setStk i c).accBad = s.accBad := rfl
@[simp] theorem State.setStk_vreg (i : Nat) (c : Stack) : (s.setStk i c).vreg = s.vreg := rfl
@[simp] theorem State.setStk_graphs (i : Nat) (c : Stack) : (s.setStk i c).graphs = s.graphs := rfl
@[simp] theorem State.setStk_fab (i : Nat) (c : Stack) : (s.setStk i c).fab = s.fab := rfl
@[simp] theorem State.setStk_col (i : Nat) (c : Stack) : (s.setStk i c).col = s.col := rfl
@[simp] theorem State.setStk_job (i : Nat) (c : Stack) : (s.setStk i c).job = s.job := rfl
@[simp] theorem State.setStk_refl (i : Nat) (c : Stack) : (s.setStk i c).refl = s.refl := rfl
@[simp] theorem State.setStk_ports (i : Nat) (c : Stack) : (s.setStk i c).ports = s.ports := rfl
@[simp] theorem State.setStk_win (i : Nat) (c : Stack) : (s.setStk i c).win = s.win := rfl
@[simp] theorem State.setStk_pwr (i : Nat) (c : Stack) : (s.setStk i c).pwr = s.pwr := rfl
@[simp] theorem State.setStk_thm (i : Nat) (c : Stack) : (s.setStk i c).thm = s.thm := rfl
@[simp] theorem State.setStk_dump (i : Nat) (c : Stack) : (s.setStk i c).dump = s.dump := rfl
@[simp] theorem State.setStk_rst (i : Nat) (c : Stack) : (s.setStk i c).rst = s.rst := rfl

/-! ## syncSet -/

@[simp] theorem State.syncSet_pending (i v : Nat) : (s.syncSet i v).pending = s.pending := rfl
@[simp] theorem State.syncSet_out (i v : Nat) : (s.syncSet i v).out = s.out := rfl
@[simp] theorem State.syncSet_freeCtr (i v : Nat) : (s.syncSet i v).freeCtr = s.freeCtr := rfl
@[simp] theorem State.syncSet_time (i v : Nat) : (s.syncSet i v).time = s.time := rfl
@[simp] theorem State.syncSet_regs (i v : Nat) : (s.syncSet i v).regs = s.regs := rfl
@[simp] theorem State.syncSet_prevBank (i v : Nat) : (s.syncSet i v).prevBank = s.prevBank := rfl
@[simp] theorem State.syncSet_boot (i v : Nat) : (s.syncSet i v).boot = s.boot := rfl
@[simp] theorem State.syncSet_bundles (i v : Nat) : (s.syncSet i v).bundles = s.bundles := rfl
@[simp] theorem State.syncSet_cal (i v : Nat) : (s.syncSet i v).cal = s.cal := rfl
@[simp] theorem State.syncSet_log (i v : Nat) : (s.syncSet i v).log = s.log := rfl
@[simp] theorem State.syncSet_mon (i v : Nat) : (s.syncSet i v).mon = s.mon := rfl
@[simp] theorem State.syncSet_margins (i v : Nat) : (s.syncSet i v).margins = s.margins := rfl
@[simp] theorem State.syncSet_mgmt (i v : Nat) : (s.syncSet i v).mgmt = s.mgmt := rfl
@[simp] theorem State.syncSet_queues (i v : Nat) : (s.syncSet i v).queues = s.queues := rfl
@[simp] theorem State.syncSet_rings (i v : Nat) : (s.syncSet i v).rings = s.rings := rfl
@[simp] theorem State.syncSet_served (i v : Nat) : (s.syncSet i v).served = s.served := rfl
@[simp] theorem State.syncSet_order (i v : Nat) : (s.syncSet i v).order = s.order := rfl
@[simp] theorem State.syncSet_engines (i v : Nat) : (s.syncSet i v).engines = s.engines := rfl
@[simp] theorem State.syncSet_host (i v : Nat) : (s.syncSet i v).host = s.host := rfl
@[simp] theorem State.syncSet_commit (i v : Nat) : (s.syncSet i v).commit = s.commit := rfl
@[simp] theorem State.syncSet_launches (i v : Nat) : (s.syncSet i v).launches = s.launches := rfl
@[simp] theorem State.syncSet_seqs (i v : Nat) : (s.syncSet i v).seqs = s.seqs := rfl
@[simp] theorem State.syncSet_ibuf (i v : Nat) : (s.syncSet i v).ibuf = s.ibuf := rfl
@[simp] theorem State.syncSet_spad (i v : Nat) : (s.syncSet i v).spad = s.spad := rfl
@[simp] theorem State.syncSet_hubsp (i v : Nat) : (s.syncSet i v).hubsp = s.hubsp := rfl
@[simp] theorem State.syncSet_arrays (i v : Nat) : (s.syncSet i v).arrays = s.arrays := rfl
@[simp] theorem State.syncSet_acc (i v : Nat) : (s.syncSet i v).acc = s.acc := rfl
@[simp] theorem State.syncSet_accBad (i v : Nat) : (s.syncSet i v).accBad = s.accBad := rfl
@[simp] theorem State.syncSet_vreg (i v : Nat) : (s.syncSet i v).vreg = s.vreg := rfl
@[simp] theorem State.syncSet_graphs (i v : Nat) : (s.syncSet i v).graphs = s.graphs := rfl
@[simp] theorem State.syncSet_mem (i v : Nat) : (s.syncSet i v).mem = s.mem := rfl
@[simp] theorem State.syncSet_fab (i v : Nat) : (s.syncSet i v).fab = s.fab := rfl
@[simp] theorem State.syncSet_col (i v : Nat) : (s.syncSet i v).col = s.col := rfl
@[simp] theorem State.syncSet_job (i v : Nat) : (s.syncSet i v).job = s.job := rfl
@[simp] theorem State.syncSet_refl (i v : Nat) : (s.syncSet i v).refl = s.refl := rfl
@[simp] theorem State.syncSet_ports (i v : Nat) : (s.syncSet i v).ports = s.ports := rfl
@[simp] theorem State.syncSet_win (i v : Nat) : (s.syncSet i v).win = s.win := rfl
@[simp] theorem State.syncSet_pwr (i v : Nat) : (s.syncSet i v).pwr = s.pwr := rfl
@[simp] theorem State.syncSet_thm (i v : Nat) : (s.syncSet i v).thm = s.thm := rfl
@[simp] theorem State.syncSet_dump (i v : Nat) : (s.syncSet i v).dump = s.dump := rfl
@[simp] theorem State.syncSet_rst (i v : Nat) : (s.syncSet i v).rst = s.rst := rfl

/-! ## syncAdd -/

@[simp] theorem State.syncAdd_pending (i v : Nat) : (s.syncAdd i v).pending = s.pending := rfl
@[simp] theorem State.syncAdd_out (i v : Nat) : (s.syncAdd i v).out = s.out := rfl
@[simp] theorem State.syncAdd_freeCtr (i v : Nat) : (s.syncAdd i v).freeCtr = s.freeCtr := rfl
@[simp] theorem State.syncAdd_time (i v : Nat) : (s.syncAdd i v).time = s.time := rfl
@[simp] theorem State.syncAdd_regs (i v : Nat) : (s.syncAdd i v).regs = s.regs := rfl
@[simp] theorem State.syncAdd_prevBank (i v : Nat) : (s.syncAdd i v).prevBank = s.prevBank := rfl
@[simp] theorem State.syncAdd_boot (i v : Nat) : (s.syncAdd i v).boot = s.boot := rfl
@[simp] theorem State.syncAdd_bundles (i v : Nat) : (s.syncAdd i v).bundles = s.bundles := rfl
@[simp] theorem State.syncAdd_cal (i v : Nat) : (s.syncAdd i v).cal = s.cal := rfl
@[simp] theorem State.syncAdd_log (i v : Nat) : (s.syncAdd i v).log = s.log := rfl
@[simp] theorem State.syncAdd_mon (i v : Nat) : (s.syncAdd i v).mon = s.mon := rfl
@[simp] theorem State.syncAdd_margins (i v : Nat) : (s.syncAdd i v).margins = s.margins := rfl
@[simp] theorem State.syncAdd_mgmt (i v : Nat) : (s.syncAdd i v).mgmt = s.mgmt := rfl
@[simp] theorem State.syncAdd_queues (i v : Nat) : (s.syncAdd i v).queues = s.queues := rfl
@[simp] theorem State.syncAdd_rings (i v : Nat) : (s.syncAdd i v).rings = s.rings := rfl
@[simp] theorem State.syncAdd_served (i v : Nat) : (s.syncAdd i v).served = s.served := rfl
@[simp] theorem State.syncAdd_order (i v : Nat) : (s.syncAdd i v).order = s.order := rfl
@[simp] theorem State.syncAdd_engines (i v : Nat) : (s.syncAdd i v).engines = s.engines := rfl
@[simp] theorem State.syncAdd_host (i v : Nat) : (s.syncAdd i v).host = s.host := rfl
@[simp] theorem State.syncAdd_commit (i v : Nat) : (s.syncAdd i v).commit = s.commit := rfl
@[simp] theorem State.syncAdd_launches (i v : Nat) : (s.syncAdd i v).launches = s.launches := rfl
@[simp] theorem State.syncAdd_seqs (i v : Nat) : (s.syncAdd i v).seqs = s.seqs := rfl
@[simp] theorem State.syncAdd_ibuf (i v : Nat) : (s.syncAdd i v).ibuf = s.ibuf := rfl
@[simp] theorem State.syncAdd_spad (i v : Nat) : (s.syncAdd i v).spad = s.spad := rfl
@[simp] theorem State.syncAdd_hubsp (i v : Nat) : (s.syncAdd i v).hubsp = s.hubsp := rfl
@[simp] theorem State.syncAdd_arrays (i v : Nat) : (s.syncAdd i v).arrays = s.arrays := rfl
@[simp] theorem State.syncAdd_acc (i v : Nat) : (s.syncAdd i v).acc = s.acc := rfl
@[simp] theorem State.syncAdd_accBad (i v : Nat) : (s.syncAdd i v).accBad = s.accBad := rfl
@[simp] theorem State.syncAdd_vreg (i v : Nat) : (s.syncAdd i v).vreg = s.vreg := rfl
@[simp] theorem State.syncAdd_graphs (i v : Nat) : (s.syncAdd i v).graphs = s.graphs := rfl
@[simp] theorem State.syncAdd_mem (i v : Nat) : (s.syncAdd i v).mem = s.mem := rfl
@[simp] theorem State.syncAdd_fab (i v : Nat) : (s.syncAdd i v).fab = s.fab := rfl
@[simp] theorem State.syncAdd_col (i v : Nat) : (s.syncAdd i v).col = s.col := rfl
@[simp] theorem State.syncAdd_job (i v : Nat) : (s.syncAdd i v).job = s.job := rfl
@[simp] theorem State.syncAdd_refl (i v : Nat) : (s.syncAdd i v).refl = s.refl := rfl
@[simp] theorem State.syncAdd_ports (i v : Nat) : (s.syncAdd i v).ports = s.ports := rfl
@[simp] theorem State.syncAdd_win (i v : Nat) : (s.syncAdd i v).win = s.win := rfl
@[simp] theorem State.syncAdd_pwr (i v : Nat) : (s.syncAdd i v).pwr = s.pwr := rfl
@[simp] theorem State.syncAdd_thm (i v : Nat) : (s.syncAdd i v).thm = s.thm := rfl
@[simp] theorem State.syncAdd_dump (i v : Nat) : (s.syncAdd i v).dump = s.dump := rfl
@[simp] theorem State.syncAdd_rst (i v : Nat) : (s.syncAdd i v).rst = s.rst := rfl

/-! ## setPwr -/

@[simp] theorem State.setPwr_pending (p : Pwr) : (s.setPwr p).pending = s.pending := rfl
@[simp] theorem State.setPwr_out (p : Pwr) : (s.setPwr p).out = s.out := rfl
@[simp] theorem State.setPwr_freeCtr (p : Pwr) : (s.setPwr p).freeCtr = s.freeCtr := rfl
@[simp] theorem State.setPwr_time (p : Pwr) : (s.setPwr p).time = s.time := rfl
@[simp] theorem State.setPwr_regs (p : Pwr) : (s.setPwr p).regs = s.regs := rfl
@[simp] theorem State.setPwr_prevBank (p : Pwr) : (s.setPwr p).prevBank = s.prevBank := rfl
@[simp] theorem State.setPwr_boot (p : Pwr) : (s.setPwr p).boot = s.boot := rfl
@[simp] theorem State.setPwr_bundles (p : Pwr) : (s.setPwr p).bundles = s.bundles := rfl
@[simp] theorem State.setPwr_cal (p : Pwr) : (s.setPwr p).cal = s.cal := rfl
@[simp] theorem State.setPwr_log (p : Pwr) : (s.setPwr p).log = s.log := rfl
@[simp] theorem State.setPwr_mon (p : Pwr) : (s.setPwr p).mon = s.mon := rfl
@[simp] theorem State.setPwr_margins (p : Pwr) : (s.setPwr p).margins = s.margins := rfl
@[simp] theorem State.setPwr_mgmt (p : Pwr) : (s.setPwr p).mgmt = s.mgmt := rfl
@[simp] theorem State.setPwr_sync (p : Pwr) : (s.setPwr p).sync = s.sync := rfl
@[simp] theorem State.setPwr_queues (p : Pwr) : (s.setPwr p).queues = s.queues := rfl
@[simp] theorem State.setPwr_rings (p : Pwr) : (s.setPwr p).rings = s.rings := rfl
@[simp] theorem State.setPwr_served (p : Pwr) : (s.setPwr p).served = s.served := rfl
@[simp] theorem State.setPwr_order (p : Pwr) : (s.setPwr p).order = s.order := rfl
@[simp] theorem State.setPwr_engines (p : Pwr) : (s.setPwr p).engines = s.engines := rfl
@[simp] theorem State.setPwr_host (p : Pwr) : (s.setPwr p).host = s.host := rfl
@[simp] theorem State.setPwr_commit (p : Pwr) : (s.setPwr p).commit = s.commit := rfl
@[simp] theorem State.setPwr_launches (p : Pwr) : (s.setPwr p).launches = s.launches := rfl
@[simp] theorem State.setPwr_seqs (p : Pwr) : (s.setPwr p).seqs = s.seqs := rfl
@[simp] theorem State.setPwr_ibuf (p : Pwr) : (s.setPwr p).ibuf = s.ibuf := rfl
@[simp] theorem State.setPwr_spad (p : Pwr) : (s.setPwr p).spad = s.spad := rfl
@[simp] theorem State.setPwr_hubsp (p : Pwr) : (s.setPwr p).hubsp = s.hubsp := rfl
@[simp] theorem State.setPwr_arrays (p : Pwr) : (s.setPwr p).arrays = s.arrays := rfl
@[simp] theorem State.setPwr_acc (p : Pwr) : (s.setPwr p).acc = s.acc := rfl
@[simp] theorem State.setPwr_accBad (p : Pwr) : (s.setPwr p).accBad = s.accBad := rfl
@[simp] theorem State.setPwr_vreg (p : Pwr) : (s.setPwr p).vreg = s.vreg := rfl
@[simp] theorem State.setPwr_graphs (p : Pwr) : (s.setPwr p).graphs = s.graphs := rfl
@[simp] theorem State.setPwr_mem (p : Pwr) : (s.setPwr p).mem = s.mem := rfl
@[simp] theorem State.setPwr_fab (p : Pwr) : (s.setPwr p).fab = s.fab := rfl
@[simp] theorem State.setPwr_col (p : Pwr) : (s.setPwr p).col = s.col := rfl
@[simp] theorem State.setPwr_job (p : Pwr) : (s.setPwr p).job = s.job := rfl
@[simp] theorem State.setPwr_refl (p : Pwr) : (s.setPwr p).refl = s.refl := rfl
@[simp] theorem State.setPwr_ports (p : Pwr) : (s.setPwr p).ports = s.ports := rfl
@[simp] theorem State.setPwr_win (p : Pwr) : (s.setPwr p).win = s.win := rfl
@[simp] theorem State.setPwr_thm (p : Pwr) : (s.setPwr p).thm = s.thm := rfl
@[simp] theorem State.setPwr_dump (p : Pwr) : (s.setPwr p).dump = s.dump := rfl
@[simp] theorem State.setPwr_rst (p : Pwr) : (s.setPwr p).rst = s.rst := rfl

/-! ## setThm -/

@[simp] theorem State.setThm_pending (v : Therm) : (s.setThm v).pending = s.pending := rfl
@[simp] theorem State.setThm_out (v : Therm) : (s.setThm v).out = s.out := rfl
@[simp] theorem State.setThm_freeCtr (v : Therm) : (s.setThm v).freeCtr = s.freeCtr := rfl
@[simp] theorem State.setThm_time (v : Therm) : (s.setThm v).time = s.time := rfl
@[simp] theorem State.setThm_regs (v : Therm) : (s.setThm v).regs = s.regs := rfl
@[simp] theorem State.setThm_prevBank (v : Therm) : (s.setThm v).prevBank = s.prevBank := rfl
@[simp] theorem State.setThm_boot (v : Therm) : (s.setThm v).boot = s.boot := rfl
@[simp] theorem State.setThm_bundles (v : Therm) : (s.setThm v).bundles = s.bundles := rfl
@[simp] theorem State.setThm_cal (v : Therm) : (s.setThm v).cal = s.cal := rfl
@[simp] theorem State.setThm_log (v : Therm) : (s.setThm v).log = s.log := rfl
@[simp] theorem State.setThm_mon (v : Therm) : (s.setThm v).mon = s.mon := rfl
@[simp] theorem State.setThm_margins (v : Therm) : (s.setThm v).margins = s.margins := rfl
@[simp] theorem State.setThm_mgmt (v : Therm) : (s.setThm v).mgmt = s.mgmt := rfl
@[simp] theorem State.setThm_sync (v : Therm) : (s.setThm v).sync = s.sync := rfl
@[simp] theorem State.setThm_queues (v : Therm) : (s.setThm v).queues = s.queues := rfl
@[simp] theorem State.setThm_rings (v : Therm) : (s.setThm v).rings = s.rings := rfl
@[simp] theorem State.setThm_served (v : Therm) : (s.setThm v).served = s.served := rfl
@[simp] theorem State.setThm_order (v : Therm) : (s.setThm v).order = s.order := rfl
@[simp] theorem State.setThm_engines (v : Therm) : (s.setThm v).engines = s.engines := rfl
@[simp] theorem State.setThm_host (v : Therm) : (s.setThm v).host = s.host := rfl
@[simp] theorem State.setThm_commit (v : Therm) : (s.setThm v).commit = s.commit := rfl
@[simp] theorem State.setThm_launches (v : Therm) : (s.setThm v).launches = s.launches := rfl
@[simp] theorem State.setThm_seqs (v : Therm) : (s.setThm v).seqs = s.seqs := rfl
@[simp] theorem State.setThm_ibuf (v : Therm) : (s.setThm v).ibuf = s.ibuf := rfl
@[simp] theorem State.setThm_spad (v : Therm) : (s.setThm v).spad = s.spad := rfl
@[simp] theorem State.setThm_hubsp (v : Therm) : (s.setThm v).hubsp = s.hubsp := rfl
@[simp] theorem State.setThm_arrays (v : Therm) : (s.setThm v).arrays = s.arrays := rfl
@[simp] theorem State.setThm_acc (v : Therm) : (s.setThm v).acc = s.acc := rfl
@[simp] theorem State.setThm_accBad (v : Therm) : (s.setThm v).accBad = s.accBad := rfl
@[simp] theorem State.setThm_vreg (v : Therm) : (s.setThm v).vreg = s.vreg := rfl
@[simp] theorem State.setThm_graphs (v : Therm) : (s.setThm v).graphs = s.graphs := rfl
@[simp] theorem State.setThm_mem (v : Therm) : (s.setThm v).mem = s.mem := rfl
@[simp] theorem State.setThm_fab (v : Therm) : (s.setThm v).fab = s.fab := rfl
@[simp] theorem State.setThm_col (v : Therm) : (s.setThm v).col = s.col := rfl
@[simp] theorem State.setThm_job (v : Therm) : (s.setThm v).job = s.job := rfl
@[simp] theorem State.setThm_refl (v : Therm) : (s.setThm v).refl = s.refl := rfl
@[simp] theorem State.setThm_ports (v : Therm) : (s.setThm v).ports = s.ports := rfl
@[simp] theorem State.setThm_win (v : Therm) : (s.setThm v).win = s.win := rfl
@[simp] theorem State.setThm_pwr (v : Therm) : (s.setThm v).pwr = s.pwr := rfl
@[simp] theorem State.setThm_dump (v : Therm) : (s.setThm v).dump = s.dump := rfl
@[simp] theorem State.setThm_rst (v : Therm) : (s.setThm v).rst = s.rst := rfl

/-! ## setRefl -/

@[simp] theorem State.setRefl_pending (r : Refl) : (s.setRefl r).pending = s.pending := rfl
@[simp] theorem State.setRefl_out (r : Refl) : (s.setRefl r).out = s.out := rfl
@[simp] theorem State.setRefl_freeCtr (r : Refl) : (s.setRefl r).freeCtr = s.freeCtr := rfl
@[simp] theorem State.setRefl_time (r : Refl) : (s.setRefl r).time = s.time := rfl
@[simp] theorem State.setRefl_regs (r : Refl) : (s.setRefl r).regs = s.regs := rfl
@[simp] theorem State.setRefl_prevBank (r : Refl) : (s.setRefl r).prevBank = s.prevBank := rfl
@[simp] theorem State.setRefl_boot (r : Refl) : (s.setRefl r).boot = s.boot := rfl
@[simp] theorem State.setRefl_bundles (r : Refl) : (s.setRefl r).bundles = s.bundles := rfl
@[simp] theorem State.setRefl_cal (r : Refl) : (s.setRefl r).cal = s.cal := rfl
@[simp] theorem State.setRefl_log (r : Refl) : (s.setRefl r).log = s.log := rfl
@[simp] theorem State.setRefl_mon (r : Refl) : (s.setRefl r).mon = s.mon := rfl
@[simp] theorem State.setRefl_margins (r : Refl) : (s.setRefl r).margins = s.margins := rfl
@[simp] theorem State.setRefl_mgmt (r : Refl) : (s.setRefl r).mgmt = s.mgmt := rfl
@[simp] theorem State.setRefl_sync (r : Refl) : (s.setRefl r).sync = s.sync := rfl
@[simp] theorem State.setRefl_queues (r : Refl) : (s.setRefl r).queues = s.queues := rfl
@[simp] theorem State.setRefl_rings (r : Refl) : (s.setRefl r).rings = s.rings := rfl
@[simp] theorem State.setRefl_served (r : Refl) : (s.setRefl r).served = s.served := rfl
@[simp] theorem State.setRefl_order (r : Refl) : (s.setRefl r).order = s.order := rfl
@[simp] theorem State.setRefl_engines (r : Refl) : (s.setRefl r).engines = s.engines := rfl
@[simp] theorem State.setRefl_host (r : Refl) : (s.setRefl r).host = s.host := rfl
@[simp] theorem State.setRefl_commit (r : Refl) : (s.setRefl r).commit = s.commit := rfl
@[simp] theorem State.setRefl_launches (r : Refl) : (s.setRefl r).launches = s.launches := rfl
@[simp] theorem State.setRefl_seqs (r : Refl) : (s.setRefl r).seqs = s.seqs := rfl
@[simp] theorem State.setRefl_ibuf (r : Refl) : (s.setRefl r).ibuf = s.ibuf := rfl
@[simp] theorem State.setRefl_spad (r : Refl) : (s.setRefl r).spad = s.spad := rfl
@[simp] theorem State.setRefl_hubsp (r : Refl) : (s.setRefl r).hubsp = s.hubsp := rfl
@[simp] theorem State.setRefl_arrays (r : Refl) : (s.setRefl r).arrays = s.arrays := rfl
@[simp] theorem State.setRefl_acc (r : Refl) : (s.setRefl r).acc = s.acc := rfl
@[simp] theorem State.setRefl_accBad (r : Refl) : (s.setRefl r).accBad = s.accBad := rfl
@[simp] theorem State.setRefl_vreg (r : Refl) : (s.setRefl r).vreg = s.vreg := rfl
@[simp] theorem State.setRefl_graphs (r : Refl) : (s.setRefl r).graphs = s.graphs := rfl
@[simp] theorem State.setRefl_mem (r : Refl) : (s.setRefl r).mem = s.mem := rfl
@[simp] theorem State.setRefl_fab (r : Refl) : (s.setRefl r).fab = s.fab := rfl
@[simp] theorem State.setRefl_col (r : Refl) : (s.setRefl r).col = s.col := rfl
@[simp] theorem State.setRefl_job (r : Refl) : (s.setRefl r).job = s.job := rfl
@[simp] theorem State.setRefl_ports (r : Refl) : (s.setRefl r).ports = s.ports := rfl
@[simp] theorem State.setRefl_win (r : Refl) : (s.setRefl r).win = s.win := rfl
@[simp] theorem State.setRefl_pwr (r : Refl) : (s.setRefl r).pwr = s.pwr := rfl
@[simp] theorem State.setRefl_thm (r : Refl) : (s.setRefl r).thm = s.thm := rfl
@[simp] theorem State.setRefl_dump (r : Refl) : (s.setRefl r).dump = s.dump := rfl
@[simp] theorem State.setRefl_rst (r : Refl) : (s.setRefl r).rst = s.rst := rfl

/-! ## setFab -/

@[simp] theorem State.setFab_pending (f : Fabric) : (s.setFab f).pending = s.pending := rfl
@[simp] theorem State.setFab_out (f : Fabric) : (s.setFab f).out = s.out := rfl
@[simp] theorem State.setFab_freeCtr (f : Fabric) : (s.setFab f).freeCtr = s.freeCtr := rfl
@[simp] theorem State.setFab_time (f : Fabric) : (s.setFab f).time = s.time := rfl
@[simp] theorem State.setFab_regs (f : Fabric) : (s.setFab f).regs = s.regs := rfl
@[simp] theorem State.setFab_prevBank (f : Fabric) : (s.setFab f).prevBank = s.prevBank := rfl
@[simp] theorem State.setFab_boot (f : Fabric) : (s.setFab f).boot = s.boot := rfl
@[simp] theorem State.setFab_bundles (f : Fabric) : (s.setFab f).bundles = s.bundles := rfl
@[simp] theorem State.setFab_cal (f : Fabric) : (s.setFab f).cal = s.cal := rfl
@[simp] theorem State.setFab_log (f : Fabric) : (s.setFab f).log = s.log := rfl
@[simp] theorem State.setFab_mon (f : Fabric) : (s.setFab f).mon = s.mon := rfl
@[simp] theorem State.setFab_margins (f : Fabric) : (s.setFab f).margins = s.margins := rfl
@[simp] theorem State.setFab_mgmt (f : Fabric) : (s.setFab f).mgmt = s.mgmt := rfl
@[simp] theorem State.setFab_sync (f : Fabric) : (s.setFab f).sync = s.sync := rfl
@[simp] theorem State.setFab_queues (f : Fabric) : (s.setFab f).queues = s.queues := rfl
@[simp] theorem State.setFab_rings (f : Fabric) : (s.setFab f).rings = s.rings := rfl
@[simp] theorem State.setFab_served (f : Fabric) : (s.setFab f).served = s.served := rfl
@[simp] theorem State.setFab_order (f : Fabric) : (s.setFab f).order = s.order := rfl
@[simp] theorem State.setFab_engines (f : Fabric) : (s.setFab f).engines = s.engines := rfl
@[simp] theorem State.setFab_host (f : Fabric) : (s.setFab f).host = s.host := rfl
@[simp] theorem State.setFab_commit (f : Fabric) : (s.setFab f).commit = s.commit := rfl
@[simp] theorem State.setFab_launches (f : Fabric) : (s.setFab f).launches = s.launches := rfl
@[simp] theorem State.setFab_seqs (f : Fabric) : (s.setFab f).seqs = s.seqs := rfl
@[simp] theorem State.setFab_ibuf (f : Fabric) : (s.setFab f).ibuf = s.ibuf := rfl
@[simp] theorem State.setFab_spad (f : Fabric) : (s.setFab f).spad = s.spad := rfl
@[simp] theorem State.setFab_hubsp (f : Fabric) : (s.setFab f).hubsp = s.hubsp := rfl
@[simp] theorem State.setFab_arrays (f : Fabric) : (s.setFab f).arrays = s.arrays := rfl
@[simp] theorem State.setFab_acc (f : Fabric) : (s.setFab f).acc = s.acc := rfl
@[simp] theorem State.setFab_accBad (f : Fabric) : (s.setFab f).accBad = s.accBad := rfl
@[simp] theorem State.setFab_vreg (f : Fabric) : (s.setFab f).vreg = s.vreg := rfl
@[simp] theorem State.setFab_graphs (f : Fabric) : (s.setFab f).graphs = s.graphs := rfl
@[simp] theorem State.setFab_mem (f : Fabric) : (s.setFab f).mem = s.mem := rfl
@[simp] theorem State.setFab_col (f : Fabric) : (s.setFab f).col = s.col := rfl
@[simp] theorem State.setFab_job (f : Fabric) : (s.setFab f).job = s.job := rfl
@[simp] theorem State.setFab_refl (f : Fabric) : (s.setFab f).refl = s.refl := rfl
@[simp] theorem State.setFab_ports (f : Fabric) : (s.setFab f).ports = s.ports := rfl
@[simp] theorem State.setFab_win (f : Fabric) : (s.setFab f).win = s.win := rfl
@[simp] theorem State.setFab_pwr (f : Fabric) : (s.setFab f).pwr = s.pwr := rfl
@[simp] theorem State.setFab_thm (f : Fabric) : (s.setFab f).thm = s.thm := rfl
@[simp] theorem State.setFab_dump (f : Fabric) : (s.setFab f).dump = s.dump := rfl
@[simp] theorem State.setFab_rst (f : Fabric) : (s.setFab f).rst = s.rst := rfl

/-! ## setSess -/

@[simp] theorem State.setSess_pending (k : Nat) (v : ColSession) : (s.setSess k v).pending = s.pending := rfl
@[simp] theorem State.setSess_out (k : Nat) (v : ColSession) : (s.setSess k v).out = s.out := rfl
@[simp] theorem State.setSess_freeCtr (k : Nat) (v : ColSession) : (s.setSess k v).freeCtr = s.freeCtr := rfl
@[simp] theorem State.setSess_time (k : Nat) (v : ColSession) : (s.setSess k v).time = s.time := rfl
@[simp] theorem State.setSess_regs (k : Nat) (v : ColSession) : (s.setSess k v).regs = s.regs := rfl
@[simp] theorem State.setSess_prevBank (k : Nat) (v : ColSession) : (s.setSess k v).prevBank = s.prevBank := rfl
@[simp] theorem State.setSess_boot (k : Nat) (v : ColSession) : (s.setSess k v).boot = s.boot := rfl
@[simp] theorem State.setSess_bundles (k : Nat) (v : ColSession) : (s.setSess k v).bundles = s.bundles := rfl
@[simp] theorem State.setSess_cal (k : Nat) (v : ColSession) : (s.setSess k v).cal = s.cal := rfl
@[simp] theorem State.setSess_log (k : Nat) (v : ColSession) : (s.setSess k v).log = s.log := rfl
@[simp] theorem State.setSess_mon (k : Nat) (v : ColSession) : (s.setSess k v).mon = s.mon := rfl
@[simp] theorem State.setSess_margins (k : Nat) (v : ColSession) : (s.setSess k v).margins = s.margins := rfl
@[simp] theorem State.setSess_mgmt (k : Nat) (v : ColSession) : (s.setSess k v).mgmt = s.mgmt := rfl
@[simp] theorem State.setSess_sync (k : Nat) (v : ColSession) : (s.setSess k v).sync = s.sync := rfl
@[simp] theorem State.setSess_queues (k : Nat) (v : ColSession) : (s.setSess k v).queues = s.queues := rfl
@[simp] theorem State.setSess_rings (k : Nat) (v : ColSession) : (s.setSess k v).rings = s.rings := rfl
@[simp] theorem State.setSess_served (k : Nat) (v : ColSession) : (s.setSess k v).served = s.served := rfl
@[simp] theorem State.setSess_order (k : Nat) (v : ColSession) : (s.setSess k v).order = s.order := rfl
@[simp] theorem State.setSess_engines (k : Nat) (v : ColSession) : (s.setSess k v).engines = s.engines := rfl
@[simp] theorem State.setSess_host (k : Nat) (v : ColSession) : (s.setSess k v).host = s.host := rfl
@[simp] theorem State.setSess_commit (k : Nat) (v : ColSession) : (s.setSess k v).commit = s.commit := rfl
@[simp] theorem State.setSess_launches (k : Nat) (v : ColSession) : (s.setSess k v).launches = s.launches := rfl
@[simp] theorem State.setSess_seqs (k : Nat) (v : ColSession) : (s.setSess k v).seqs = s.seqs := rfl
@[simp] theorem State.setSess_ibuf (k : Nat) (v : ColSession) : (s.setSess k v).ibuf = s.ibuf := rfl
@[simp] theorem State.setSess_spad (k : Nat) (v : ColSession) : (s.setSess k v).spad = s.spad := rfl
@[simp] theorem State.setSess_hubsp (k : Nat) (v : ColSession) : (s.setSess k v).hubsp = s.hubsp := rfl
@[simp] theorem State.setSess_arrays (k : Nat) (v : ColSession) : (s.setSess k v).arrays = s.arrays := rfl
@[simp] theorem State.setSess_acc (k : Nat) (v : ColSession) : (s.setSess k v).acc = s.acc := rfl
@[simp] theorem State.setSess_accBad (k : Nat) (v : ColSession) : (s.setSess k v).accBad = s.accBad := rfl
@[simp] theorem State.setSess_vreg (k : Nat) (v : ColSession) : (s.setSess k v).vreg = s.vreg := rfl
@[simp] theorem State.setSess_graphs (k : Nat) (v : ColSession) : (s.setSess k v).graphs = s.graphs := rfl
@[simp] theorem State.setSess_mem (k : Nat) (v : ColSession) : (s.setSess k v).mem = s.mem := rfl
@[simp] theorem State.setSess_fab (k : Nat) (v : ColSession) : (s.setSess k v).fab = s.fab := rfl
@[simp] theorem State.setSess_job (k : Nat) (v : ColSession) : (s.setSess k v).job = s.job := rfl
@[simp] theorem State.setSess_refl (k : Nat) (v : ColSession) : (s.setSess k v).refl = s.refl := rfl
@[simp] theorem State.setSess_ports (k : Nat) (v : ColSession) : (s.setSess k v).ports = s.ports := rfl
@[simp] theorem State.setSess_win (k : Nat) (v : ColSession) : (s.setSess k v).win = s.win := rfl
@[simp] theorem State.setSess_pwr (k : Nat) (v : ColSession) : (s.setSess k v).pwr = s.pwr := rfl
@[simp] theorem State.setSess_thm (k : Nat) (v : ColSession) : (s.setSess k v).thm = s.thm := rfl
@[simp] theorem State.setSess_dump (k : Nat) (v : ColSession) : (s.setSess k v).dump = s.dump := rfl
@[simp] theorem State.setSess_rst (k : Nat) (v : ColSession) : (s.setSess k v).rst = s.rst := rfl

/-! ## setBundle -/

@[simp] theorem State.setBundle_pending (b : Nat) (v : Bundle) : (s.setBundle b v).pending = s.pending := rfl
@[simp] theorem State.setBundle_out (b : Nat) (v : Bundle) : (s.setBundle b v).out = s.out := rfl
@[simp] theorem State.setBundle_freeCtr (b : Nat) (v : Bundle) : (s.setBundle b v).freeCtr = s.freeCtr := rfl
@[simp] theorem State.setBundle_time (b : Nat) (v : Bundle) : (s.setBundle b v).time = s.time := rfl
@[simp] theorem State.setBundle_regs (b : Nat) (v : Bundle) : (s.setBundle b v).regs = s.regs := rfl
@[simp] theorem State.setBundle_prevBank (b : Nat) (v : Bundle) : (s.setBundle b v).prevBank = s.prevBank := rfl
@[simp] theorem State.setBundle_boot (b : Nat) (v : Bundle) : (s.setBundle b v).boot = s.boot := rfl
@[simp] theorem State.setBundle_cal (b : Nat) (v : Bundle) : (s.setBundle b v).cal = s.cal := rfl
@[simp] theorem State.setBundle_log (b : Nat) (v : Bundle) : (s.setBundle b v).log = s.log := rfl
@[simp] theorem State.setBundle_mon (b : Nat) (v : Bundle) : (s.setBundle b v).mon = s.mon := rfl
@[simp] theorem State.setBundle_margins (b : Nat) (v : Bundle) : (s.setBundle b v).margins = s.margins := rfl
@[simp] theorem State.setBundle_mgmt (b : Nat) (v : Bundle) : (s.setBundle b v).mgmt = s.mgmt := rfl
@[simp] theorem State.setBundle_sync (b : Nat) (v : Bundle) : (s.setBundle b v).sync = s.sync := rfl
@[simp] theorem State.setBundle_queues (b : Nat) (v : Bundle) : (s.setBundle b v).queues = s.queues := rfl
@[simp] theorem State.setBundle_rings (b : Nat) (v : Bundle) : (s.setBundle b v).rings = s.rings := rfl
@[simp] theorem State.setBundle_served (b : Nat) (v : Bundle) : (s.setBundle b v).served = s.served := rfl
@[simp] theorem State.setBundle_order (b : Nat) (v : Bundle) : (s.setBundle b v).order = s.order := rfl
@[simp] theorem State.setBundle_engines (b : Nat) (v : Bundle) : (s.setBundle b v).engines = s.engines := rfl
@[simp] theorem State.setBundle_host (b : Nat) (v : Bundle) : (s.setBundle b v).host = s.host := rfl
@[simp] theorem State.setBundle_commit (b : Nat) (v : Bundle) : (s.setBundle b v).commit = s.commit := rfl
@[simp] theorem State.setBundle_launches (b : Nat) (v : Bundle) : (s.setBundle b v).launches = s.launches := rfl
@[simp] theorem State.setBundle_seqs (b : Nat) (v : Bundle) : (s.setBundle b v).seqs = s.seqs := rfl
@[simp] theorem State.setBundle_ibuf (b : Nat) (v : Bundle) : (s.setBundle b v).ibuf = s.ibuf := rfl
@[simp] theorem State.setBundle_spad (b : Nat) (v : Bundle) : (s.setBundle b v).spad = s.spad := rfl
@[simp] theorem State.setBundle_hubsp (b : Nat) (v : Bundle) : (s.setBundle b v).hubsp = s.hubsp := rfl
@[simp] theorem State.setBundle_arrays (b : Nat) (v : Bundle) : (s.setBundle b v).arrays = s.arrays := rfl
@[simp] theorem State.setBundle_acc (b : Nat) (v : Bundle) : (s.setBundle b v).acc = s.acc := rfl
@[simp] theorem State.setBundle_accBad (b : Nat) (v : Bundle) : (s.setBundle b v).accBad = s.accBad := rfl
@[simp] theorem State.setBundle_vreg (b : Nat) (v : Bundle) : (s.setBundle b v).vreg = s.vreg := rfl
@[simp] theorem State.setBundle_graphs (b : Nat) (v : Bundle) : (s.setBundle b v).graphs = s.graphs := rfl
@[simp] theorem State.setBundle_mem (b : Nat) (v : Bundle) : (s.setBundle b v).mem = s.mem := rfl
@[simp] theorem State.setBundle_fab (b : Nat) (v : Bundle) : (s.setBundle b v).fab = s.fab := rfl
@[simp] theorem State.setBundle_col (b : Nat) (v : Bundle) : (s.setBundle b v).col = s.col := rfl
@[simp] theorem State.setBundle_job (b : Nat) (v : Bundle) : (s.setBundle b v).job = s.job := rfl
@[simp] theorem State.setBundle_refl (b : Nat) (v : Bundle) : (s.setBundle b v).refl = s.refl := rfl
@[simp] theorem State.setBundle_ports (b : Nat) (v : Bundle) : (s.setBundle b v).ports = s.ports := rfl
@[simp] theorem State.setBundle_win (b : Nat) (v : Bundle) : (s.setBundle b v).win = s.win := rfl
@[simp] theorem State.setBundle_pwr (b : Nat) (v : Bundle) : (s.setBundle b v).pwr = s.pwr := rfl
@[simp] theorem State.setBundle_thm (b : Nat) (v : Bundle) : (s.setBundle b v).thm = s.thm := rfl
@[simp] theorem State.setBundle_dump (b : Nat) (v : Bundle) : (s.setBundle b v).dump = s.dump := rfl
@[simp] theorem State.setBundle_rst (b : Nat) (v : Bundle) : (s.setBundle b v).rst = s.rst := rfl

/-! ## setMonUnit -/

@[simp] theorem State.setMonUnit_pending (u : Nat) (m : Mon) : (s.setMonUnit u m).pending = s.pending := rfl
@[simp] theorem State.setMonUnit_out (u : Nat) (m : Mon) : (s.setMonUnit u m).out = s.out := rfl
@[simp] theorem State.setMonUnit_freeCtr (u : Nat) (m : Mon) : (s.setMonUnit u m).freeCtr = s.freeCtr := rfl
@[simp] theorem State.setMonUnit_time (u : Nat) (m : Mon) : (s.setMonUnit u m).time = s.time := rfl
@[simp] theorem State.setMonUnit_regs (u : Nat) (m : Mon) : (s.setMonUnit u m).regs = s.regs := rfl
@[simp] theorem State.setMonUnit_prevBank (u : Nat) (m : Mon) : (s.setMonUnit u m).prevBank = s.prevBank := rfl
@[simp] theorem State.setMonUnit_boot (u : Nat) (m : Mon) : (s.setMonUnit u m).boot = s.boot := rfl
@[simp] theorem State.setMonUnit_bundles (u : Nat) (m : Mon) : (s.setMonUnit u m).bundles = s.bundles := rfl
@[simp] theorem State.setMonUnit_cal (u : Nat) (m : Mon) : (s.setMonUnit u m).cal = s.cal := rfl
@[simp] theorem State.setMonUnit_log (u : Nat) (m : Mon) : (s.setMonUnit u m).log = s.log := rfl
@[simp] theorem State.setMonUnit_margins (u : Nat) (m : Mon) : (s.setMonUnit u m).margins = s.margins := rfl
@[simp] theorem State.setMonUnit_mgmt (u : Nat) (m : Mon) : (s.setMonUnit u m).mgmt = s.mgmt := rfl
@[simp] theorem State.setMonUnit_sync (u : Nat) (m : Mon) : (s.setMonUnit u m).sync = s.sync := rfl
@[simp] theorem State.setMonUnit_queues (u : Nat) (m : Mon) : (s.setMonUnit u m).queues = s.queues := rfl
@[simp] theorem State.setMonUnit_rings (u : Nat) (m : Mon) : (s.setMonUnit u m).rings = s.rings := rfl
@[simp] theorem State.setMonUnit_served (u : Nat) (m : Mon) : (s.setMonUnit u m).served = s.served := rfl
@[simp] theorem State.setMonUnit_order (u : Nat) (m : Mon) : (s.setMonUnit u m).order = s.order := rfl
@[simp] theorem State.setMonUnit_engines (u : Nat) (m : Mon) : (s.setMonUnit u m).engines = s.engines := rfl
@[simp] theorem State.setMonUnit_host (u : Nat) (m : Mon) : (s.setMonUnit u m).host = s.host := rfl
@[simp] theorem State.setMonUnit_commit (u : Nat) (m : Mon) : (s.setMonUnit u m).commit = s.commit := rfl
@[simp] theorem State.setMonUnit_launches (u : Nat) (m : Mon) : (s.setMonUnit u m).launches = s.launches := rfl
@[simp] theorem State.setMonUnit_seqs (u : Nat) (m : Mon) : (s.setMonUnit u m).seqs = s.seqs := rfl
@[simp] theorem State.setMonUnit_ibuf (u : Nat) (m : Mon) : (s.setMonUnit u m).ibuf = s.ibuf := rfl
@[simp] theorem State.setMonUnit_spad (u : Nat) (m : Mon) : (s.setMonUnit u m).spad = s.spad := rfl
@[simp] theorem State.setMonUnit_hubsp (u : Nat) (m : Mon) : (s.setMonUnit u m).hubsp = s.hubsp := rfl
@[simp] theorem State.setMonUnit_arrays (u : Nat) (m : Mon) : (s.setMonUnit u m).arrays = s.arrays := rfl
@[simp] theorem State.setMonUnit_acc (u : Nat) (m : Mon) : (s.setMonUnit u m).acc = s.acc := rfl
@[simp] theorem State.setMonUnit_accBad (u : Nat) (m : Mon) : (s.setMonUnit u m).accBad = s.accBad := rfl
@[simp] theorem State.setMonUnit_vreg (u : Nat) (m : Mon) : (s.setMonUnit u m).vreg = s.vreg := rfl
@[simp] theorem State.setMonUnit_graphs (u : Nat) (m : Mon) : (s.setMonUnit u m).graphs = s.graphs := rfl
@[simp] theorem State.setMonUnit_mem (u : Nat) (m : Mon) : (s.setMonUnit u m).mem = s.mem := rfl
@[simp] theorem State.setMonUnit_fab (u : Nat) (m : Mon) : (s.setMonUnit u m).fab = s.fab := rfl
@[simp] theorem State.setMonUnit_col (u : Nat) (m : Mon) : (s.setMonUnit u m).col = s.col := rfl
@[simp] theorem State.setMonUnit_job (u : Nat) (m : Mon) : (s.setMonUnit u m).job = s.job := rfl
@[simp] theorem State.setMonUnit_refl (u : Nat) (m : Mon) : (s.setMonUnit u m).refl = s.refl := rfl
@[simp] theorem State.setMonUnit_ports (u : Nat) (m : Mon) : (s.setMonUnit u m).ports = s.ports := rfl
@[simp] theorem State.setMonUnit_win (u : Nat) (m : Mon) : (s.setMonUnit u m).win = s.win := rfl
@[simp] theorem State.setMonUnit_pwr (u : Nat) (m : Mon) : (s.setMonUnit u m).pwr = s.pwr := rfl
@[simp] theorem State.setMonUnit_thm (u : Nat) (m : Mon) : (s.setMonUnit u m).thm = s.thm := rfl
@[simp] theorem State.setMonUnit_dump (u : Nat) (m : Mon) : (s.setMonUnit u m).dump = s.dump := rfl
@[simp] theorem State.setMonUnit_rst (u : Nat) (m : Mon) : (s.setMonUnit u m).rst = s.rst := rfl

/-! ## Register fields -/

@[simp] theorem State.due_get (x : Nat) (f : Fld) (i : Nat) : (s.due x).get f i = s.get f i := rfl
@[simp] theorem State.setPort_get (p : Nat) (v : Port) (f : Fld) (i : Nat) : (s.setPort p v).get f i = s.get f i := rfl
@[simp] theorem State.setQueue_get (n : Nat) (v : Queue) (f : Fld) (i : Nat) : (s.setQueue n v).get f i = s.get f i := rfl
@[simp] theorem State.setRing_get (n : Nat) (v : CRing) (f : Fld) (i : Nat) : (s.setRing n v).get f i = s.get f i := rfl
@[simp] theorem State.setGraph_get (g : Nat) (v : GSlot) (f : Fld) (i : Nat) : (s.setGraph g v).get f i = s.get f i := rfl
@[simp] theorem State.setSeq_get (q : Nat) (v : Seq) (f : Fld) (i : Nat) : (s.setSeq q v).get f i = s.get f i := rfl
@[simp] theorem State.setArr_get (j : Nat) (v : Arr) (f : Fld) (i : Nat) : (s.setArr j v).get f i = s.get f i := rfl
@[simp] theorem State.setSpad_get (m : Mem) (f : Fld) (i : Nat) : (s.setSpad m).get f i = s.get f i := rfl
@[simp] theorem State.setHub_get (m : Mem) (f : Fld) (i : Nat) : (s.setHub m).get f i = s.get f i := rfl
@[simp] theorem State.setDram_get (m : Mem) (f : Fld) (i : Nat) : (s.setDram m).get f i = s.get f i := rfl
@[simp] theorem State.storeMedia_get (k : Nat) (bs : List Byte) (f : Fld) (i : Nat) : (s.storeMedia k bs).get f i = s.get f i := rfl
@[simp] theorem State.setChan_get (j : Nat) (c : Chan) (f : Fld) (i : Nat) : (s.setChan j c).get f i = s.get f i := rfl
@[simp] theorem State.setStk_get (k : Nat) (c : Stack) (f : Fld) (i : Nat) : (s.setStk k c).get f i = s.get f i := rfl
@[simp] theorem State.syncSet_get (j v : Nat) (f : Fld) (i : Nat) : (s.syncSet j v).get f i = s.get f i := rfl
@[simp] theorem State.syncAdd_get (j v : Nat) (f : Fld) (i : Nat) : (s.syncAdd j v).get f i = s.get f i := rfl
@[simp] theorem State.setPwr_get (p : Pwr) (f : Fld) (i : Nat) : (s.setPwr p).get f i = s.get f i := rfl
@[simp] theorem State.setThm_get (v : Therm) (f : Fld) (i : Nat) : (s.setThm v).get f i = s.get f i := rfl
@[simp] theorem State.setRefl_get (r : Refl) (f : Fld) (i : Nat) : (s.setRefl r).get f i = s.get f i := rfl
@[simp] theorem State.setFab_get (x : Fabric) (f : Fld) (i : Nat) : (s.setFab x).get f i = s.get f i := rfl
@[simp] theorem State.setSess_get (k : Nat) (v : ColSession) (f : Fld) (i : Nat) : (s.setSess k v).get f i = s.get f i := rfl
@[simp] theorem State.setBundle_get (b : Nat) (v : Bundle) (f : Fld) (i : Nat) : (s.setBundle b v).get f i = s.get f i := rfl
@[simp] theorem State.setMonUnit_get (u : Nat) (m : Mon) (f : Fld) (i : Nat) : (s.setMonUnit u m).get f i = s.get f i := rfl

/-- A field holds what was written, held to its width. -/
@[simp] theorem State.put_get_same (f : Fld) (v i : Nat) : (s.put f v i).get f i = v % 2 ^ f.width := by
  simp [State.get, State.put, putField]

/-- A write of one field instance leaves every instance at another key alone. -/
theorem State.put_get_other {f g : Fld} {v i j : Nat} (h : g.key j ≠ f.key i) : (s.put f v i).get g j = s.get g j := by
  simp [State.get, State.put, putField, SMap.get_set_other _ _ _ _ h]

/-- The same, read at any key and with any value for an unlisted key. -/
theorem State.put_regs_other {f : Fld} {v i k : Nat} (d : Nat) (h : k ≠ f.key i) :
    SMap.get d (s.put f v i).regs k = SMap.get d s.regs k := by
  simp [State.put, putField, SMap.get_set_other _ _ _ _ h]

/-- Fields with different codes below 1,024 never share a key. -/
theorem Fld.key_ne {f g : Fld} {i j : Nat} (hf : f.code < 1024) (hg : g.code < 1024) (h : g.code ≠ f.code) : g.key j ≠ f.key i := by
  simp only [Fld.key]
  omega

theorem Fld.key_inj {f : Fld} {i j : Nat} : f.key i = f.key j ↔ i = j := by
  simp only [Fld.key]
  omega

/-! ## Parts kept by number -/

@[simp] theorem State.setPort_same (p : Nat) (v : Port) : (s.setPort p v).port p = v := by simp [State.port, State.setPort]
theorem State.setPort_other {p q : Nat} (v : Port) (h : q ≠ p) : (s.setPort p v).port q = s.port q := by
  simp [State.port, State.setPort, SMap.get_set_other _ _ _ _ h]
@[simp] theorem State.setQueue_same (n : Nat) (v : Queue) : (s.setQueue n v).queue n = v := by simp [State.queue, State.setQueue]
theorem State.setQueue_other {n m : Nat} (v : Queue) (h : m ≠ n) : (s.setQueue n v).queue m = s.queue m := by
  simp [State.queue, State.setQueue, SMap.get_set_other _ _ _ _ h]
@[simp] theorem State.setRing_same (n : Nat) (v : CRing) : (s.setRing n v).ring n = v := by simp [State.ring, State.setRing]
theorem State.setRing_other {n m : Nat} (v : CRing) (h : m ≠ n) : (s.setRing n v).ring m = s.ring m := by
  simp [State.ring, State.setRing, SMap.get_set_other _ _ _ _ h]
@[simp] theorem State.setGraph_same (n : Nat) (v : GSlot) : (s.setGraph n v).graph n = v := by simp [State.graph, State.setGraph]
theorem State.setGraph_other {n m : Nat} (v : GSlot) (h : m ≠ n) : (s.setGraph n v).graph m = s.graph m := by
  simp [State.graph, State.setGraph, SMap.get_set_other _ _ _ _ h]
@[simp] theorem State.setSeq_same (n : Nat) (v : Seq) : (s.setSeq n v).seq n = v := by simp [State.seq, State.setSeq]
theorem State.setSeq_other {n m : Nat} (v : Seq) (h : m ≠ n) : (s.setSeq n v).seq m = s.seq m := by
  simp [State.seq, State.setSeq, SMap.get_set_other _ _ _ _ h]
@[simp] theorem State.setArr_same (n : Nat) (v : Arr) : (s.setArr n v).arr n = v := by simp [State.arr, State.setArr]
theorem State.setArr_other {n m : Nat} (v : Arr) (h : m ≠ n) : (s.setArr n v).arr m = s.arr m := by
  simp [State.arr, State.setArr, SMap.get_set_other _ _ _ _ h]
@[simp] theorem State.setChan_same (n : Nat) (v : Chan) : (s.setChan n v).chan n = v := by simp [State.chan, State.setChan]
theorem State.setChan_other {n m : Nat} (v : Chan) (h : m ≠ n) : (s.setChan n v).chan m = s.chan m := by
  simp [State.chan, State.setChan, SMap.get_set_other _ _ _ _ h]
@[simp] theorem State.setStk_same (n : Nat) (v : Stack) : (s.setStk n v).stk n = v := by simp [State.stk, State.setStk]
theorem State.setStk_other {n m : Nat} (v : Stack) (h : m ≠ n) : (s.setStk n v).stk m = s.stk m := by
  simp [State.stk, State.setStk, SMap.get_set_other _ _ _ _ h]
@[simp] theorem State.setBundle_same (n : Nat) (v : Bundle) : (s.setBundle n v).bundle n = v := by
  simp [State.bundle, State.setBundle]
theorem State.setBundle_other {n m : Nat} (v : Bundle) (h : m ≠ n) : (s.setBundle n v).bundle m = s.bundle m := by
  simp [State.bundle, State.setBundle, SMap.get_set_other _ _ _ _ h]

/-! ## Sync objects (R195) -/

@[simp] theorem State.syncSet_same (i v : Nat) : (s.syncSet i v).syncVal i = max (s.syncVal i) v % 2 ^ 64 := by
  simp [State.syncVal, State.syncSet]
theorem State.syncSet_other {i j : Nat} (v : Nat) (h : j ≠ i) : (s.syncSet i v).syncVal j = s.syncVal j := by
  simp [State.syncVal, State.syncSet, SMap.get_set_other _ _ _ _ h]
@[simp] theorem State.syncAdd_same (i v : Nat) : (s.syncAdd i v).syncVal i = (s.syncVal i + v) % 2 ^ 64 := by
  simp [State.syncVal, State.syncAdd]
theorem State.syncAdd_other {i j : Nat} (v : Nat) (h : j ≠ i) : (s.syncAdd i v).syncVal j = s.syncVal j := by
  simp [State.syncVal, State.syncAdd, SMap.get_set_other _ _ _ _ h]

/-! ## Outputs and the error log: what they can change -/

/-- Sending something changes the record of what has left the device and nothing else. -/
theorem State.emit_eq (o : Out) : ∃ l, s.emit o = { s with out := l } := by
  unfold State.emit
  split
  · exact ⟨s.out, rfl⟩
  · exact ⟨o :: s.out, rfl⟩

theorem State.emitAll_eq (os : List Out) : ∃ l, s.emitAll os = { s with out := l } := by
  induction os generalizing s with
  | nil => exact ⟨s.out, rfl⟩
  | cons o os ih =>
    obtain ⟨l, hl⟩ := s.emit_eq o
    obtain ⟨l', hl'⟩ := ih (s.emit o)
    refine ⟨l', ?_⟩
    simp only [State.emitAll, List.foldl_cons] at hl' ⊢
    rw [hl', hl]

/-- Writing a log entry changes the log and the log's status register and nothing else. -/
theorem State.logPut_eq (b : LogBody) : ∃ l r, s.logPut b = { s with log := l, regs := r } := by
  unfold State.logPut
  split
  · exact ⟨_, _, rfl⟩
  · exact ⟨s.log, _, rfl⟩

theorem State.logEvent_eq (code unit : Nat) (args : List Nat) :
    ∃ l r, s.logEvent code unit args = { s with log := l, regs := r } := s.logPut_eq _

/-- Setting the phase of work changes queues and graph slots and nothing else. -/
theorem State.setPhase_eq (w : Work) (p : WPhase) : ∃ q g, s.setPhase w p = { s with queues := q, graphs := g } := by
  cases w with
  | desc n i => exact ⟨_, s.graphs, rfl⟩
  | node g k it => exact ⟨s.queues, _, rfl⟩

/-- Ending work changes queues and graph slots and nothing else. -/
theorem State.finish_eq (w : Work) (st : Status) (d : Nat) : ∃ q g, s.finish w st d = { s with queues := q, graphs := g } := by
  cases w with
  | desc n i => exact ⟨_, s.graphs, rfl⟩
  | node g k it => exact ⟨s.queues, _, rfl⟩

/-- A register write that the access gate accepts reaches the meaning; any other changes at most the count of bad accesses. -/
theorem State.onWrite_cases (r : RegName) (i : Nat) (w : BarAcc) (k : Nat → State) :
    s.onWrite r i w k = s ∨ s.onWrite r i w k = s.badAccess ∨
    (∃ j, s.hubUp = true ∧ w.aligned = true ∧ s.regIx r w.fn i = some j ∧ j < r.count ∧ 8 * w.off < r.width ∧ s.onWrite r i w k = k j) := by
  unfold State.onWrite
  split
  · exact .inl rfl
  · next hu =>
    split
    · exact .inr (.inl rfl)
    · next ha =>
      split
      · exact .inl rfl
      · next j hj =>
        split
        · next h => exact .inr (.inr ⟨j, by simpa using hu, by simpa using ha, hj, h.1, h.2, rfl⟩)
        · exact .inl rfl

end Sys2Proof.Machine
end

