-- ==== Sys2Proof/Laws/Memory.lean ====
section
/-! SUPPORT. Byte memories: every operation keeps the canonical form, and the state the machine starts in has it. -/

namespace Sys2Proof.Machine

/-! ## Byte memories -/

@[simp] theorem Mem.wf_empty : Mem.wf {} = true := rfl

theorem Mem.wf_mark {m : Mem} (k : Nat) (b : Bool) (h : m.wf = true) : (m.mark k b).wf = true := by
  simp only [Mem.wf, Bool.and_eq_true, Mem.mark] at h ⊢
  exact ⟨h.1, SMap.wf_set k b h.2⟩

theorem Mem.wf_clearSectors (n : Nat) : ∀ {m : Mem} (k : Nat), m.wf = true → (m.clearSectors k n).wf = true := by
  induction n with
  | zero => exact fun _ h => h
  | succ n ih => exact fun k h => ih (k + 1) (Mem.wf_mark k false h)

theorem Mem.wf_poisonSectors (n : Nat) : ∀ {m : Mem} (k : Nat), m.wf = true → (m.poisonSectors k n).wf = true := by
  induction n with
  | zero => exact fun _ h => h
  | succ n ih => exact fun k h => ih (k + 1) (Mem.wf_mark k true h)

theorem Mem.wf_write {m : Mem} (a : Nat) (bs : List Byte) (h : m.wf = true) : (m.write a bs).wf = true := by
  unfold Mem.write
  apply Mem.wf_clearSectors
  simp only [Mem.wf, Bool.and_eq_true] at h ⊢
  exact ⟨SMap.wf_setRun bs _ _ h.1, h.2⟩

theorem Mem.wf_clearRange {m : Mem} (lo hi : Nat) (h : m.wf = true) : (m.clearRange lo hi).wf = true := by
  simp only [Mem.wf, Bool.and_eq_true, Mem.clearRange] at h ⊢
  exact ⟨SMap.wf_drop _ h.1, SMap.wf_drop _ h.2⟩

/-- A fold of operations that each keep the canonical form keeps it. -/
theorem Mem.wf_foldl {α : Type} (f : Mem → α → Mem) (hf : ∀ m a, m.wf = true → (f m a).wf = true) (l : List α) {m : Mem}
    (h : m.wf = true) : (l.foldl f m).wf = true := by
  induction l generalizing m with
  | nil => exact h
  | cons a l ih => exact ih (hf m a h)

theorem Mem.wf_writeOut {m : Mem} (a : Nat) (r : ReadOut) (h : m.wf = true) : (m.writeOut a r).wf = true := by
  apply Mem.wf_foldl _ _ _ (Mem.wf_write a r.bytes h)
  intro m k hm
  split
  · exact Mem.wf_mark _ _ hm
  · exact hm

theorem clearSectors_bytes (n : Nat) : ∀ (m : Mem) (k : Nat), (m.clearSectors k n).bytes = m.bytes := by
  induction n with
  | zero => exact fun _ _ => rfl
  | succ n ih => exact fun m k => ih _ _

theorem setRun_before {α : Type} [DecidableEq α] (d : α) (vs : List α) :
    ∀ (m : SMap α) (k j : Nat), j < k → SMap.get d (SMap.setRun d m k vs) j = SMap.get d m j := by
  induction vs with
  | nil => exact fun _ _ _ _ => rfl
  | cons v vs ih =>
    intro m k j h
    rw [SMap.setRun, ih _ _ _ (by omega), SMap.get_set_other _ _ _ _ (by omega)]

/-- What a run of writes leaves at each key. -/
theorem get_setRun {α : Type} [DecidableEq α] (d : α) (vs : List α) :
    ∀ (m : SMap α) (k j : Nat), SMap.get d (SMap.setRun d m k vs) j = if k ≤ j ∧ j < k + vs.length then vs.getD (j - k) d else SMap.get d m j := by
  induction vs with
  | nil =>
    intro m k j
    have : ¬(k ≤ j ∧ j < k + ([] : List α).length) := by simp only [List.length_nil]; omega
    rw [if_neg this]
    rfl
  | cons v vs ih =>
    intro m k j
    rw [SMap.setRun, ih]
    rcases Nat.lt_trichotomy j k with h | h | h
    · have h1 : ¬(k + 1 ≤ j ∧ j < k + 1 + vs.length) := by omega
      have h2 : ¬(k ≤ j ∧ j < k + (v :: vs).length) := by omega
      rw [if_neg h1, if_neg h2, SMap.get_set_other _ _ _ _ (by omega)]
    · subst h
      have h1 : ¬(j + 1 ≤ j ∧ j < j + 1 + vs.length) := by omega
      have h2 : j ≤ j ∧ j < j + (v :: vs).length := by simp
      rw [if_neg h1, if_pos h2, SMap.get_set_same]
      simp
    · by_cases hl : j < k + 1 + vs.length
      · have h1 : k + 1 ≤ j ∧ j < k + 1 + vs.length := by omega
        have h2 : k ≤ j ∧ j < k + (v :: vs).length := by simp only [List.length_cons]; omega
        obtain ⟨n, rfl⟩ : ∃ n, j = k + 1 + n := ⟨j - (k + 1), by omega⟩
        rw [if_pos h1, if_pos h2]
        have e1 : k + 1 + n - (k + 1) = n := by omega
        have e2 : k + 1 + n - k = n + 1 := by omega
        rw [e1, e2]
        rfl
      · have h1 : ¬(k + 1 ≤ j ∧ j < k + 1 + vs.length) := by omega
        have h2 : ¬(k ≤ j ∧ j < k + (v :: vs).length) := by simp only [List.length_cons]; omega
        rw [if_neg h1, if_neg h2, SMap.get_set_other _ _ _ _ (by omega)]

/-- A byte after a store: the stored one inside it, the old one everywhere else. -/
theorem Mem.byte_write (m : Mem) (a : Nat) (bs : List Byte) (j : Nat) :
    (m.write a bs).byte j = if a ≤ j ∧ j < a + bs.length then bs.getD (j - a) 0 else m.byte j := by
  simp only [Mem.byte, Mem.write, clearSectors_bytes, get_setRun]

/-! ## The stores of the machine -/

theorem State.wf_iff {s : State} : s.wf = true ↔ s.spad.wf = true ∧ s.hubsp.wf = true ∧ s.mem.dram.wf = true := by
  simp [State.wf, and_assoc]

/-- The form is a matter of the three stores alone. -/
theorem State.wf_of_same {s t : State} (h : s.wf = true) (h1 : t.spad = s.spad) (h2 : t.hubsp = s.hubsp)
    (h3 : t.mem.dram = s.mem.dram) : t.wf = true := by
  simp only [State.wf, h1, h2, h3] at h ⊢
  exact h

theorem State.wf_reset : State.reset.wf = true := rfl

theorem State.wf_setSpad {s : State} {m : Mem} (h : s.wf = true) (hm : m.wf = true) : (s.setSpad m).wf = true :=
  wf_iff.2 ⟨hm, (wf_iff.1 h).2⟩

theorem State.wf_setHub {s : State} {m : Mem} (h : s.wf = true) (hm : m.wf = true) : (s.setHub m).wf = true :=
  wf_iff.2 ⟨(wf_iff.1 h).1, hm, (wf_iff.1 h).2.2⟩

theorem State.wf_setDram {s : State} {m : Mem} (h : s.wf = true) (hm : m.wf = true) : (s.setDram m).wf = true :=
  wf_iff.2 ⟨(wf_iff.1 h).1, (wf_iff.1 h).2.1, hm⟩

theorem State.wf_storeMedia {s : State} (k : Nat) (bs : List Byte) (h : s.wf = true) : (s.storeMedia k bs).wf = true :=
  wf_iff.2 ⟨(wf_iff.1 h).1, (wf_iff.1 h).2.1, Mem.wf_write k bs (wf_iff.1 h).2.2⟩

theorem State.wf_dirtyAt {s : State} (a : Nat) (h : s.wf = true) : (s.dirtyAt a).wf = true := by
  unfold State.dirtyAt
  split
  · exact h
  · split
    · exact h
    · exact h

/-- A fold of operations that each keep the form keeps it. -/
theorem State.wf_foldl {α : Type} (f : State → α → State) (hf : ∀ s a, s.wf = true → (f s a).wf = true) (l : List α) {s : State}
    (h : s.wf = true) : (l.foldl f s).wf = true := by
  induction l generalizing s with
  | nil => exact h
  | cons a l ih => exact ih (hf s a h)

theorem State.wf_writePiece {sr : State × Status} (a : Nat) (bs : List Byte) (h : sr.1.wf = true) :
    (State.writePiece sr a bs).1.wf = true := by
  unfold State.writePiece
  dsimp only
  split
  · exact h
  · split
    · exact h
    · exact wf_dirtyAt a (wf_storeMedia _ bs h)

theorem State.wf_writePieces (ps : List (Nat × Nat)) : ∀ (sr : State × Status) (bs : List Byte), sr.1.wf = true →
    (State.writePieces sr ps bs).1.wf = true := by
  induction ps with
  | nil => exact fun _ _ h => h
  | cons p ps ih => exact fun sr bs h => ih _ _ (wf_writePiece p.1 _ h)

theorem State.wf_memWrite {s : State} (a : Nat) (bs : List Byte) (h : s.wf = true) : (s.memWrite a bs).1.wf = true :=
  wf_writePieces _ _ _ h

theorem State.wf_memPoison {s : State} (a n : Nat) (h : s.wf = true) : (s.memPoison a n).wf = true := by
  apply wf_foldl _ _ _ h
  intro s p hs
  split
  · exact hs
  · exact wf_dirtyAt _ (wf_setDram hs (Mem.wf_poisonSectors _ _ (wf_iff.1 hs).2.2))

theorem State.wf_memWriteBad {s : State} (a : Nat) (r : ReadOut) (h : s.wf = true) : (s.memWriteBad a r).1.wf = true := by
  apply wf_foldl _ _ _ (wf_memWrite a r.bytes h)
  intro s k hs
  split
  · exact wf_memPoison _ _ hs
  · exact hs

/-! ## What a store to local memory can change -/

theorem State.dirtyAt_eq (s : State) (a : Nat) : ∃ r, s.dirtyAt a = { s with refl := r } := by
  unfold State.dirtyAt
  split
  · exact ⟨s.refl, rfl⟩
  · split
    · exact ⟨s.refl, rfl⟩
    · exact ⟨_, rfl⟩

theorem State.storeMedia_eq (s : State) (k : Nat) (bs : List Byte) : ∃ m, s.storeMedia k bs = { s with mem := m } := ⟨_, rfl⟩

theorem State.storeDirty_eq (s : State) (k a : Nat) (bs : List Byte) :
    ∃ m r, (s.storeMedia k bs).dirtyAt a = { s with mem := m, refl := r } := by
  obtain ⟨m, hm⟩ := s.storeMedia_eq k bs
  rw [hm]
  obtain ⟨r, hr⟩ := State.dirtyAt_eq { s with mem := m } a
  exact ⟨m, r, hr⟩

theorem State.writePiece_eq (sr : State × Status) (a : Nat) (bs : List Byte) :
    ∃ m r, (State.writePiece sr a bs).1 = { sr.1 with mem := m, refl := r } := by
  simp only [State.writePiece]
  split
  · exact ⟨_, _, rfl⟩
  · split
    · exact ⟨_, _, rfl⟩
    · exact State.storeDirty_eq _ _ _ _

theorem State.writePieces_eq (ps : List (Nat × Nat)) : ∀ (sr : State × Status) (bs : List Byte),
    ∃ m r, (State.writePieces sr ps bs).1 = { sr.1 with mem := m, refl := r } := by
  induction ps with
  | nil => exact fun sr _ => ⟨sr.1.mem, sr.1.refl, rfl⟩
  | cons p ps ih =>
    intro sr bs
    obtain ⟨m, r, h⟩ := ih (State.writePiece sr p.1 (bs.take p.2)) (bs.drop p.2)
    obtain ⟨m', r', h'⟩ := State.writePiece_eq sr p.1 (bs.take p.2)
    refine ⟨m, r, ?_⟩
    simp only [State.writePieces, h, h']

/-- A store to local memory changes the media and the dirty list of a reflection binding and nothing else. -/
theorem State.memWrite_eq (s : State) (a : Nat) (bs : List Byte) : ∃ m r, (s.memWrite a bs).1 = { s with mem := m, refl := r } :=
  State.writePieces_eq _ _ _

end Sys2Proof.Machine
end

