-- ==== Sys2Proof/Laws/Package.lean ====
section
/-! SUPPORT. What training D2D bundles without a failed lane leaves: every bundle trained at its full width. -/

namespace Sys2Proof.Machine

/-- Training a bundle in which nothing failed leaves a bundle without failed lanes. -/
theorem State.trainBundle_bundle (s : State) (b j : Nat) (h : ∀ k, (s.bundle k).found = []) :
    ((s.trainBundle b []).bundle j).found = [] := by
  have e : (s.trainBundle b []).bundle j = if j = b then { failed := [] } else s.bundle j := by
    simp only [State.trainBundle, h]
    simp [State.bundle, State.setBundle, State.put, SMap.get_set]
  rw [e]
  split
  · rfl
  · exact h j

/-- The width a bundle has after one bundle trained in which nothing failed: 2 for that one, unchanged for the others. -/
theorem State.trainBundle_width (s : State) (b j : Nat) (h : ∀ k, (s.bundle k).found = []) :
    (s.trainBundle b []).get F.HUB_D2D_BUNDLE_STAT_width j = if j = b then 2 else s.get F.HUB_D2D_BUNDLE_STAT_width j := by
  simp only [State.trainBundle, h]
  split
  next e => subst e; simp [widthOf, Fld.width, F.HUB_D2D_BUNDLE_STAT_width]
  next e =>
    rw [State.put_get_other _ (fun c => e (Fld.key_inj.mp c)), State.put_get_other _ (Fld.key_ne (by decide) (by decide) (by decide)),
      State.put_get_other _ (Fld.key_ne (by decide) (by decide) (by decide)), State.setBundle_get]

/-- Bundles trained with no failed lane, one after another: each has its full width, the others keep theirs. -/
theorem State.trainBundles_width (s : State) (first j : Nat) (h : ∀ k, (s.bundle k).found = []) : ∀ n,
    (∀ k, ((s.trainBundles first n []).bundle k).found = []) ∧
    (s.trainBundles first n []).get F.HUB_D2D_BUNDLE_STAT_width j =
      if first ≤ j ∧ j < first + n then 2 else s.get F.HUB_D2D_BUNDLE_STAT_width j := by
  intro n
  induction n with
  | zero => exact ⟨h, by rw [if_neg (by omega)]; rfl⟩
  | succ n ih =>
    have e : s.trainBundles first (n + 1) [] = (s.trainBundles first n []).trainBundle (first + n) [] := by
      simp [State.trainBundles, List.range_succ]
    refine ⟨fun k => by rw [e]; exact State.trainBundle_bundle _ _ _ ih.1, ?_⟩
    rw [e, State.trainBundle_width _ _ _ ih.1, ih.2]
    split <;> split <;> first | rfl | (split <;> first | rfl | omega) | omega

/-- All 400 bundles trained without a failed lane: every link has at least the lanes it boots with. -/
theorem State.trainBundles_belowBoot (s : State) (h : ∀ k, (s.bundle k).found = []) : (s.trainBundles 0 400 []).belowBoot = none := by
  have w : ∀ j, j < 400 → (s.trainBundles 0 400 []).get F.HUB_D2D_BUNDLE_STAT_width j = 2 := fun j hj => by
    rw [(State.trainBundles_width s 0 j h 400).2, if_pos (by omega)]
  have dir : ∀ (l : D2DLink) (d : Nat), l.first + 2 * l.per ≤ 400 → d < 2 → (s.trainBundles 0 400 []).dirHalves l d = 2 * l.per := by
    intro l d hl hd
    have c : ∀ k ∈ List.range l.per,
        (s.trainBundles 0 400 []).get F.HUB_D2D_BUNDLE_STAT_width (l.first + d * l.per + k) = (fun _ : Nat => 2) k := by
      intro k hk
      rw [List.mem_range] at hk
      refine w _ ?_
      have : d * l.per ≤ l.per := by
        calc d * l.per ≤ 1 * l.per := Nat.mul_le_mul_right _ (by omega)
          _ = l.per := Nat.one_mul _
      omega
    rw [State.dirHalves, List.map_congr_left c, List.map_const', List.sum_replicate]
    simp [Nat.mul_comm]
  have hl : ∀ l ∈ allLinks, l.first + 2 * l.per ≤ 400 ∧ l.boot ≤ 2 * l.per := by decide
  have hn : (allLinks.find? fun l => decide ((s.trainBundles 0 400 []).linkHalves l < l.boot)) = none := by
    rw [List.find?_eq_none]
    intro l m
    obtain ⟨a, b⟩ := hl l m
    simp only [State.linkHalves, dir l 0 a (by omega), dir l 1 a (by omega), Nat.min_self, decide_eq_true_eq]
    omega
  simp [State.belowBoot, hn]

end Sys2Proof.Machine
end

