-- ==== Sys2Proof/WellFormed.lean ====
section
/-! DEFINITION. Which commands can occur: operands within the ranges of the manual's tables. The meanings are total on every command; an
ill-formed one is no event of the device. -/

namespace Sys2Proof.Machine

/-- An access through BAR0 or BAR2 moves 1 to 8 bytes. -/
def BarAcc.wf (w : BarAcc) : Bool := decide (1 ≤ w.size) && decide (w.size ≤ 8)

/-- A queue and ring index, or a graph slot, node and iteration (Tables 7.13, 5.16). -/
def Work.wf : Work → Bool
  | .desc q i => decide (q < 65536) && decide (i < 65536)
  | .node g n i => decide (g < 64) && decide (n < 1024) && decide (i < 2 ^ 32)

/-- A memory access of at least one byte. -/
def MemOp.wf : MemOp → Bool
  | .read n => decide (1 ≤ n)
  | .write d => !d.isEmpty

/-- The bytes of an access. -/
def MemOp.bytes : MemOp → Nat
  | .read n => n
  | .write d => d.length

/-- An access within one burst (R151). -/
def MemOp.inBurst (op : MemOp) (addr : Nat) : Bool := op.wf && decide (addr % 2048 + op.bytes ≤ 2048)

/-- Sectors of a burst, each named once. -/
def findsWf (l : List (Nat × EccFind)) : Bool := l.all fun e => decide (e.1 < 32)

/-- Lanes of bundles. -/
def shortWf (l : ShortLanes) : Bool := l.all fun e => decide (e.1 < 400) && e.2.all fun k => decide (k < 66)

/-- Wavelengths. -/
def wavesWf (l : List Nat) : Bool := l.all fun n => decide (n < 18)

/-- Calendar time in its widths (Table 2.4). -/
def Calendar.wf (c : Calendar) : Bool := decide (c.seconds < 2 ^ 48) && decide (c.fraction < 2 ^ 15)

/-- Nine dies and sixteen stacks answer for themselves (Table 1.5). -/
def IdentityRead.wf (r : IdentityRead) : Bool :=
  decide (r.dies.length = 9) && decide (r.stackSerials.length = 16) &&
  (r.dies.all fun d => decide (d.strap < 16) && decide (d.kind < 2 ^ 16) && decide (d.setId < 2 ^ 64) && decide (d.serial < 2 ^ 64)) &&
  r.stackSerials.all fun x => decide (x.getD 0 < 2 ^ 64)

/-- What a bring-up step reports. -/
def StepResult.wf : StepResult → Bool
  | .island r => r.calendar.wf
  | .identity r => r.wf
  | .d2d short => shortWf short
  | .hostPort _ usable => usable.all fun n => decide (n < 9)
  | .selfTest bad adder => (List.contains [0, 1, 2, 3, 4, 8, 9, 10, 11] (bad.getD 0)) && adder.all fun l => decide (l < 528)
  | .ringCal bad => bad.all fun p => decide (p < 64)
  | .dram bs bc ls => (bs.all fun k => decide (k < 16)) && (bc.all fun i => decide (i < 544)) &&
    ls.all fun l => decide (l.1 < 544) && decide (l.2 < 296)
  | .hubRail => true
  | .image _ _ => true
  | .mainRails => true

/-- What a stage of a chip reset reports. -/
def StageResult.wf : StageResult → Bool
  | .identity r => r.wf
  | .d2d short => shortWf short
  | .image _ _ => true
  | .refreshExit _ => true
  | .sram => true

/-- A fabric packet in the widths of Table 8.6a. -/
def Packet.wf (p : Packet) : Bool :=
  decide (p.kind < 256) && decide (p.tag < 2 ^ 14) && decide (p.dst < 2 ^ 20) && decide (p.afnFn < 8) && decide (p.src < 2 ^ 20) &&
  decide (p.status < 256) && decide (p.dstEpoch < 2 ^ 16) && decide (p.srcEpoch < 2 ^ 16) && decide (p.fseq < 2 ^ 32) &&
  decide (p.aseq < 2 ^ 16) && decide (p.length < 2 ^ 16) && decide (p.key < 2 ^ 32) && decide (p.offset < 2 ^ 44)

/-- A collective packet in the widths of Table 10.5. -/
def ColPacket.wf (p : ColPacket) : Bool :=
  decide (p.kind < 256) && decide (p.tree < 2) && decide (p.session < 8) && decide (p.fmtCause < 256) && decide (p.dst < 2 ^ 20) &&
  decide (p.op < 256) && decide (p.src < 2 ^ 20) && decide (p.dstEpoch < 2 ^ 16) && decide (p.srcEpoch < 2 ^ 16) &&
  decide (p.generation < 2 ^ 16) && decide (p.run < 2 ^ 16) && decide (p.seq < 2 ^ 32) && decide (p.piece < 2 ^ 16) &&
  decide (p.length < 2 ^ 16) && decide (p.key < 2 ^ 32) && decide (p.count < 2 ^ 35) && decide (p.ack < 2 ^ 32) &&
  decide (p.limit < 2 ^ 32) && decide (p.chunkKib < 2 ^ 16)

/-- A HELLO body in the widths of Table 13.1. -/
def Hello.wf (h : Hello) : Bool :=
  decide (h.version < 256) && decide (h.fwMajor < 256) && decide (h.fwMinor < 256) && decide (h.stepping < 256) &&
  decide (h.node < 2 ^ 20) && decide (h.seen < 2 ^ 24) && decide (h.epoch < 2 ^ 16) && decide (h.port < 256) &&
  decide (h.setId < 2 ^ 64) && decide (h.exclGen < 2 ^ 32) && decide (h.digest < 2 ^ 64) && h.calendar.wf

/-- An ENDPOINT_NOTICE body in the widths of Table 12.7. -/
def EndNotice.wf (n : EndNotice) : Bool :=
  decide (n.node < 2 ^ 20) && decide (n.epoch < 2 ^ 16) && decide (n.prevEpoch < 2 ^ 16) && decide (n.cause < 256) &&
  decide (n.expectMs < 2 ^ 16) && decide (n.time < 2 ^ 64)

/-- A SIGNED_NOTICE fragment in the widths of Table 13.10. -/
def NoticeFrag.wf (f : NoticeFrag) : Bool :=
  decide (f.generation < 2 ^ 32) && decide (f.index < 256) && decide (f.count < 256) && decide (f.data.length ≤ 232)

/-- A flit in the widths of Table 9.4. -/
def Flit.wf (f : Flit) : Bool :=
  decide (f.seq < 2 ^ 16) && decide (f.ack < 2 ^ 16) && decide (f.first < 256) && decide (f.payload.length ≤ 242) && wavesWf f.corrected

end Sys2Proof.Machine

namespace Sys2Proof

open Sys2Proof.Machine

/-- The operand ranges of each command. -/
def Instr.wellFormed : Instr → Bool
  | .registerWrite r i w => decide (i < r.count) && w.wf
  | .setupLockWrite w => w.wf
  | .d2dFlitReceive _ _ _ _ => true
  | .d2dLaneFail _ _ _ => true
  | .bundleChangeEnd _ => true
  | .feedQualified _ _ _ => true
  | .feedUndervoltHold r _ _ => r.calendar.wf
  | .bringupStepDone r => r.wf
  | .bringupStepTimeout _ _ => true
  | .hostTrainRetry _ _ usable => (usable.all fun n => decide (n < 9))
  | .bringupFeedLoss => true
  | .latchRelease => true
  | .arrayClkCeilingWrite _ w => w.wf
  | .arrayClockStep _ _ => true
  | .deviceTimeLowRead _ => true
  | .calendarSetWrite w => w.wf
  | .pldmCalendarSet _ _ => true
  | .calendarSetApply => true
  | .beatAdmit _ _ => true
  | .columnComplete _ _ _ => true
  | .sloadRowWrite _ => true
  | .drainEntryRead _ _ _ _ => true
  | .accInitEntry _ => true
  | .srSeedWrite _ w => w.wf
  | .srCtrWrite _ w => w.wf
  | .programLaunch _ => true
  | .programEnd _ => true
  | .nop _ => true
  | .endProgram _ => true
  | .br _ => true
  | .loop _ => true
  | .sload _ => true
  | .wstream _ => true
  | .accInit _ => true
  | .accDrain _ => true
  | .vload _ => true
  | .vstore _ => true
  | .vop _ => true
  | .vred _ => true
  | .vtopk _ => true
  | .qcopy _ => true
  | .qcopyComplete _ => true
  | .waitObj _ => true
  | .waitObjWake _ => true
  | .waitTimeout _ => true
  | .waitEv _ => true
  | .signalSet _ => true
  | .signalAdd _ => true
  | .alu _ => true
  | .alui _ => true
  | .li _ => true
  | .ld _ => true
  | .st _ => true
  | .movlc _ => true
  | .lamp _ => true
  | .graphStoreBaseWrite w => w.wf
  | .graphNodeReady _ _ => true
  | .graphNodeComplete _ _ => true
  | .memAccess addr op finds => op.inBurst addr.toNat && findsWf finds
  | .parityHoldExpire _ _ _ => true
  | .patrolScrub _ finds => findsWf finds
  | .dramLaneDegraded _ _ _ => true
  | .sliceWindow ends => (ends.all fun e => decide (e.1 < 544))
  | .retrainPeriodExpire _ => true
  | .channelRetrainReq _ w => w.wf
  | .evacuateReq _ w => w.wf
  | .evacuationStep _ finds => findsWf finds
  | .channelLost _ _ => true
  | .rebuildLine _ => true
  | .rowRemapDone _ => true
  | .remapListWrite => true
  | .entryZeroFillDone _ => true
  | .pcieDlDown => true
  | .functionLevelReset _ => true
  | .bar4Access _ op => op.wf
  | .syncObjectWrite _ _ size _ => decide (1 ≤ size) && decide (size ≤ 8)
  | .queueEnable _ w => w.wf
  | .queueDisable _ w => w.wf
  | .queueResume _ w => w.wf
  | .queueSetHead _ w => w.wf
  | .cqEnable _ w => w.wf
  | .cqDisable _ w => w.wf
  | .doorbell _ w => w.wf
  | .cqHeadWrite _ w => w.wf
  | .descriptorFetch => true
  | .descriptorReadDone _ data => (match data with | some d => decide (d.length % 64 = 0) && decide (d.length ≤ 512) | none => true)
  | .descriptorDispatch _ => true
  | .descriptorComplete _ _ => true
  | .cqStallTimeout _ => true
  | .interruptModerationExpire _ => true
  | .recordHintExpire _ => true
  | .execProgram work => work.wf
  | .execGraph work => work.wf
  | .copy work _ => work.wf
  | .fill work => work.wf
  | .syncSignal work => work.wf
  | .syncWait work => work.wf
  | .syncWaitTimeout work => work.wf
  | .powerHint work => work.wf
  | .configCommit work => work.wf
  | .commitUnitSwitched => true
  | .commitLimitMissed => true
  | .configRevert work => work.wf
  | .expectDark work => work.wf
  | .abort work => work.wf
  | .dump work => work.wf
  | .nodeIdWrite w => w.wf
  | .fabricEnable w => w.wf
  | .boardWindowAccess _ op => op.wf
  | .fabricRead work => work.wf
  | .fabricWrite work _ => work.wf
  | .fabricWritePosted work _ => work.wf
  | .fabricAtomic work _ => work.wf
  | .fabricSend work _ => work.wf
  | .fabricFence work => work.wf
  | .fabricRequestIssue _ => true
  | .readRequest _ p => p.wf
  | .writeRequest _ p => p.wf
  | .writePostedRequest _ p => p.wf
  | .atomicRequest _ p => p.wf
  | .sendRequest _ p => p.wf
  | .fenceRequest _ p => p.wf
  | .openRequest _ p => p.wf
  | .fabricReply _ p => p.wf
  | .fabricNak _ p => p.wf
  | .fabricRetransmitTimeout _ => true
  | .fabricFinalTimeout _ => true
  | .routeWaitTimeout _ => true
  | .flowContextReclaim _ _ => true
  | .flowContextFetchDone _ _ _ => true
  | .resultCacheSweep => true
  | .rxqHeadWrite _ w => w.wf
  | .rxqDisable _ w => w.wf
  | .sourceViolationFlood _ => true
  | .tuningLoopUpdate _ _ => true
  | .activityIndex _ _ _ _ _ => true
  | .activityIndexAbsent _ => true
  | .linkFlitReceive _ f => f.wf
  | .linkReplayTimeout _ => true
  | .laneMap _ _ entries => decide (entries.length = 18) && (entries.all fun e => decide (e < 256))
  | .laneMapTimeout _ => true
  | .laneFault _ _ _ _ => true
  | .fecMode _ _ => true
  | .launchPower _ values => decide (values.length = 18)
  | .launchPowerTimer _ => true
  | .drain _ _ _ => true
  | .retrain _ => true
  | .laneFailDetect _ _ _ => true
  | .aliasLockDetect _ _ _ _ => true
  | .aliasRecoveryEnd _ _ _ => true
  | .lossLocation _ _ => true
  | .partnerLightDetect _ => true
  | .trainingStepDone _ r => wavesWf r.usable
  | .trainingStepTimeout _ => true
  | .trainingRetryTimer _ => true
  | .portDown _ => true
  | .portRetrainReq _ w => w.wf
  | .recalReq _ w => w.wf
  | .ringCalibrationDone _ _ => true
  | .portDrained _ => true
  | .darkWaitTimeout _ => true
  | .linkViolationFlood _ => true
  | .portHoldExpire _ => true
  | .hostLinkTrained _ usable => (usable.all fun n => decide (n < 9))
  | .collectiveSetup work => work.wf
  | .allReduce work => work.wf
  | .reduce work => work.wf
  | .broadcast work => work.wf
  | .barrier work => work.wf
  | .teardown work => work.wf
  | .collectiveRunStart _ => true
  | .join _ p => p.wf
  | .joinTimer _ => true
  | .joinLimitExpire _ => true
  | .chunk _ p adder => p.wf && (adder.all fun l => l.all fun k => decide (k < 528))
  | .credit _ p => p.wf
  | .creditKeepaliveTimer _ => true
  | .chunkRetransmitTimeout _ _ => true
  | .abortChunk _ p => p.wf
  | .sessionTimeout _ _ => true
  | .colPoolWrite w => w.wf
  | .feedSwitch _ _ => true
  | .feedSwitchBack _ _ => true
  | .feedOvervoltage _ _ _ => true
  | .holdUp _ _ => true
  | .holdUpRailsOff => true
  | .railFault _ => true
  | .hubRailFault => true
  | .powerControlTick => true
  | .powerEvaluation _ _ _ _ => true
  | .measurementLost => true
  | .capUnreachable => true
  | .estimateMismatch => true
  | .powerExcess => true
  | .dieDiodeSample _ _ => true
  | .stackSensorSample _ _ => true
  | .sensorLost _ => true
  | .stopStepDone => true
  | .stopStepLimit => true
  | .analogueThermTrip _ => true
  | .preRampStart _ => true
  | .preRampHoldEnd _ => true
  | .stopResetRelease => true
  | .contextReset w => w.wf
  | .engineReset w => w.wf
  | .partitionReset w => w.wf
  | .partitionStageDone _ short _ => shortWf short
  | .chipReset w => w.wf
  | .powerCycle w => w.wf
  | .pldmChipReset => true
  | .pldmPowerCycle => true
  | .resetLimitExpire => true
  | .chipResetTakeover => true
  | .chipResetStageDone r => r.wf
  | .windowHandover => true
  | .endpointNoticeTimer => true
  | .endpointNotice _ n => n.wf
  | .dumpStart w => w.wf
  | .dumpSectionDone _ _ => true
  | .dumpUnitUnresponsive => true
  | .dumpTimeLimit => true
  | .hello _ h => h.wf
  | .helloTimer _ => true
  | .jobInstall w => w.wf
  | .jobClear w => w.wf
  | .noticeSubmit w => w.wf
  | .pldmNotice n => decide (n.length ≤ 4096)
  | .signedNotice _ f => f.wf
  | .fragmentGapTimeout _ => true
  | .noticeVerified good => (good.all fun k => decide (k < 256))
  | .pendingNoticeExpire _ => true
  | .bind work => work.wf
  | .mark work => work.wf
  | .unbind work => work.wf
  | .rbind _ p => p.wf
  | .rbindTimer => true
  | .bindTimeout => true
  | .rburst _ p => p.wf
  | .rmark _ p => p.wf
  | .rkeep _ p => p.wf
  | .rkeepTimer => true
  | .rresume _ p => p.wf
  | .reflectBurstSend => true
  | .reflectReply _ p => p.wf
  | .partnerLossTimeout => true
  | .rollbackDone => true
  | .monitorSample _ _ => true
  | .monitorWindowEnd _ => true
  | .marginMeasurement kind unit sub _ => marginHas kind unit sub
  | .logFlush => true
  | .logSelectWrite w => w.wf
  | .pldmSensorRead _ => true
  | .fwUpdateTransfer _ _ _ => true
  | .fwVerify _ _ => true
  | .activateFirmware => true
  | .firmwareSlotSelect => true
  | .rollbackAdvance v => decide (v < 128)
  | .rollbackCtrlWrite w => w.wf
  | .fuseStepDone => true
  | .getVersion _ => true
  | .getCapabilities _ => true
  | .negotiateAlgorithms _ => true
  | .getDigests _ => true
  | .getCertificate _ => true
  | .challenge _ => true
  | .getMeasurements _ => true
  | .keyExchange _ => true
  | .finish _ session => decide (session < 2 ^ 32)
  | .heartbeat _ session => decide (session < 2 ^ 32)
  | .keyUpdate _ session => decide (session < 2 ^ 32)
  | .endSession _ session => decide (session < 2 ^ 32)
  | .coolantFaultAssert => true
  | .coolantFaultDeassertHeld => true
  | .engineResetEnd => true
  | .vectorInstructionComplete _ => true
  | .flowContextWaitTimeout _ => true
  | .poisonedContextHoldEnd _ => true
  | .violationDiscardEnd _ => true
  | .dStateChange _ => true
  | .vfEnable _ => true

end Sys2Proof
end

