-- ==== Sys2Proof/Tests/Slice0.lean ====
section
/-! SUPPORT. Tests: one step on small states with values taken from the manual, the manual's worked examples, the commands that
WellFormed refuses, and for each obligation with hypotheses a concrete state and operands that meet them all. -/

set_option maxRecDepth 100000
set_option Elab.async false

namespace Sys2Proof.Machine

/-- The state with register fields written: field, instance, value. -/
def State.with (s : State) (l : List (Fld × Nat × Nat)) : State := l.foldl (fun t x => t.put x.1 x.2.2 x.2.1) s

/-- A module in service: brought up, its host link up, its keys verified, an hour of device time behind it; memory map entry 0 puts
the first 32 MiB on stack 0, and context 0 may touch the first 1 GiB, the hub scratchpad and sync objects below 100, and read the
first 2 MiB of board slot 7. -/
def rdy : State :=
  ({ State.reset with
    time := 3600000000000, host := { up := true }, mgmt := { verified := true }
    boot := { phase := .ready, island := true, done := [1, 2, 3, 4, 5, 6, 7, 8, 9, 10, 11], rails := [0, 1, 2, 3, 4, 5, 6], hostTrained := true } }).with
    [(F.HUB_ARRAY_CLK_current_mhz, 0, 2000), (F.HUB_ARRAY_CLK_current_mhz, 1, 2000), (F.HUB_ARRAY_CLK_current_mhz, 2, 2000),
     (F.HUB_ARRAY_CLK_current_mhz, 3, 2000), (F.HUB_BOOT_STATUS_ready, 0, 1),
     (F.MEM_MAP_valid, 0, 1), (F.MEM_MAP_size, 0, 16), (F.CTX_r0_size, 0, 512), (F.CTX_r0_read, 0, 1), (F.CTX_r0_write, 0, 1),
     (F.CTX_r1_base, 0, 0x4E0000000000), (F.CTX_r1_size, 0, 1), (F.CTX_r1_read, 0, 1),
     (F.CTX_sync_count, 0, 100), (F.CTX_hubsp_size, 0, 2 ^ 27), (F.CTX_fabric, 0, 1), (F.CTX_reflect, 0, 1)]

/-- The state with its fabric enabled and node 9 in board slot 7. -/
def State.board (s : State) : State :=
  s.with [(F.FAB_CFG_enable, 0, 1), (F.FAB_ROUTE_valid, 0, 1), (F.FAB_BOARD_valid, 7, 1), (F.FAB_BOARD_node, 7, 9), (F.FAB_BOARD_key, 7, 77)]

/-- A BAR access of 8 bytes at offset 0, by the physical function unless another is named. -/
def acc (v : Nat) (off size : Nat) (fn : Fin 16) : BarAcc := { fn := fn, off := off, size := size, value := BitVec.ofNat 64 v }

/-- n bytes holding fields: offset, length, value. -/
def bytesOf (n : Nat) (fs : List (Nat × Nat × Nat)) : List Byte :=
  leBytes n (fs.foldl (fun v f => v + f.2.2 % 2 ^ (8 * f.2.1) * 2 ^ (8 * f.1)) 0)

/-- A descriptor of the administrator's context 0 with this opcode, waiting for nothing, at ring index idx. -/
def ent (op idx : Nat) (phase : WPhase) (payload : List (Nat × Nat × Nat)) : QEnt :=
  { idx := idx, phase := phase, ctx := rdy.ctxOf 0
    bytes := bytesOf 32 [(0, 1, op), (4, 4, 0xFFFFFFFF)] ++ bytesOf 32 payload }

/-- The state with one queue's descriptors. -/
def State.work (s : State) (q : Nat) (l : List QEnt) : State :=
  (s.setQueue q { s.queue q with ents := l }).with [(F.HUB_Q_CFG_enable, q, 1), (F.HUB_Q_CFG_log2_entries, q, 6), (F.HUB_Q_STAT_state, q, 1), (F.HUB_Q_STAT_tail, q, 8)]

/-- The state with work dispatched at index 3 of queue 0. -/
def State.jobAt (s : State) (op : Nat) (payload : List (Nat × Nat × Nat)) : State := s.work 0 [ent op 3 .dispatched payload]

/-- That work's name. -/
def d3 : Work := .desc 0 3

/-- An instruction word: opcode and fields at bit positions. -/
def word (op : Nat) (fs : List (Nat × Nat)) : Nat := fs.foldl (fun v f => v + f.2 * 2 ^ f.1) (op * 2 ^ 120)

/-- A launched program of context 0 on quadrant q. -/
def run1 (q : Nat) : Launch :=
  { id := 1, work := d3, ctxId := 0, ctx := rdy.ctxOf 0, waiting := [], running := [q]
    block := { image := 0, qmask := 2 ^ q, length := 2, loadAt := 0, entry := 0, reload := false, arg1 := 0, arg2 := 0 } }

/-- The state with a program of these words in sequencer q, standing at the first. -/
def State.prog (s : State) (q : Nat) (ws : List Nat) (x : Seq) : State :=
  { s.setSeq q { x with launch := some 1, len := ws.length } with ibuf := SMap.setRun 0 s.ibuf (4096 * q) ws, launches := [run1 q] }

/-- The work as its unit sees it. -/
def State.it (s : State) (w : Work) : Item := (s.item w).getD { opcode := 0, ctxId := 0, ctx := {}, payload := [], phase := .fetched }

/-- A module in service as node 5, its fabric enabled, every node routed through port 3, whose partner's hello has been accepted. -/
def fab : State :=
  { rdy.with [(F.FAB_CFG_enable, 0, 1), (F.FAB_NODE_ID_assigned, 0, 1), (F.FAB_NODE_ID_node, 0, 5), (F.FAB_ROUTE_valid, 0, 1),
      (F.FAB_ROUTE_ports, 0, 8), (F.WIN_PORT_STAT_state, 3, 3), (F.FAB_HELLO_STAT_outcome, 3, 1), (F.HUB_RESET_STAT_epoch, 0, 7)] with
    ports := [(3, { helloDone := true, calibrated := true })] }

/-- The state an outcome answers, or another where it answers none. -/
def outState (o : Host.Outcome State Fault Refusal) (d : State) : State := match o with | .next t => t | _ => d

/-- Whether an outcome is a next state. -/
def isNext (o : Host.Outcome State Fault Refusal) : Bool := match o with | .next _ => true | _ => false

/-- An outcome that is a next state is the next state it answers. -/
theorem outState_eq {o : Host.Outcome State Fault Refusal} {d : State} (h : isNext o = true) : o = .next (outState o d) := by
  cases o <;> simp_all [isNext, outState]

/-- An identity read in which every die and stack is the one the module was built with. -/
def goodRead : IdentityRead :=
  { dies := (List.range 9).map fun i =>
      { strap := positions.getD i 0, present := true, kind := Config.dieKind i, setId := setIdOf (List.range 9) (List.range 16), serial := i }
    stackSerials := (List.range 16).map some }

/-- Such a read fails no check. -/
theorem goodRead_passes : identityFails goodRead = [] := by
  have hs : ((goodRead.at_.filter fun e => e.2.present).filter fun e =>
      !positions.contains e.2.strap ||
        decide (1 < ((goodRead.at_.filter fun e => e.2.present).filter fun f => f.2.strap == e.2.strap).length)) = [] := by
    decide +kernel
  have ha : (goodRead.at_.filter fun e => !e.2.present) = [] := by decide +kernel
  have hk : ((goodRead.at_.filter fun e => e.2.present).filter fun e => e.2.kind != Config.dieKind e.1) = [] := by
    simp [goodRead, IdentityRead.at_, List.range, List.range.loop]
  have ht : ((goodRead.at_.filter fun e => e.2.present).filter fun e => e.2.setId != goodRead.hubSet) = [] := by
    simp [goodRead, IdentityRead.at_, IdentityRead.hubSet, List.range, List.range.loop]
  have hx : (goodRead.stackSerials.zipIdx.filter fun e => e.1.isNone) = [] := by decide +kernel
  have hd : setIdOf (goodRead.dies.map fun d => d.serial) (goodRead.stackSerials.map fun x => x.getD 0) = goodRead.hubSet := by
    simp [goodRead, IdentityRead.hubSet, List.range, List.range.loop]
  simp only [identityFails, hs, ha, hk, ht, hx, hd]
  simp

/-- A node with one usable port is reached through that port, whatever the route's hash. -/
theorem routePort_one {s : State} {n p : Nat} (h : s.routePorts n = [p]) : s.routePort n = some p := by
  simp [State.routePort, h, Nat.mod_one]

/-- A hello from another node, of this firmware, neither resetting nor shut out, is accepted. -/
theorem helloOutcome_ok {s : State} {h : Hello} (own : s.isSet F.FAB_NODE_ID_assigned 0 = true) (sw : h.switch = false)
    (na : h.unassigned = false) (hn : h.node ≠ s.ownNode) (hr : h.resetting = false) (v : h.fwMajor = Config.fwMajor)
    (m : h.fwMinor = Config.fwMinor) (hx : s.job.excl.contains h.node = false) (ht : h.shutter = false) :
    s.helloOutcome h = { code := 1 } := by
  have hx' : h.node ∉ s.job.excl := by simpa using hx
  simp [State.helloOutcome, own, sw, na, hn, hr, v, m, hx', ht]

/-! ## One step on a small state, with the value the manual's words give -/

/-- The command gives a next state of which p holds. -/
def after (c : Instr) (s : State) (p : State → Bool) : Bool := match exec c s with | .next t => p t | _ => false

/-- Table 5.4's ADD wraps at 64 bits: 5 + (2^64 - 1) = 4. -/
theorem test_alu_add_wraps :
    after (.alu 15) (rdy.prog 15 [word 0x40 [(115, 1), (110, 1), (105, 2)]] { sr := [(1, 5), (2, 2 ^ 64 - 1)] })
      (fun t => t.sreg 15 1 == 4 && (t.seq 15).pc == 1) = true := by decide +kernel

/-- Register s0 reads 0 and discards writes (R110). -/
theorem test_s0_reads_zero :
    after (.li 3) (rdy.prog 3 [word 0x42 [(0, 9)]] {}) (fun t => t.sreg 3 0 == 0 && (t.seq 3).pc == 1) = true := by decide +kernel

/-- ST puts the register's bytes at s[ra] + offset, lowest byte first: 0x0102 at the last eight bytes of quadrant 15. -/
theorem test_st_little_endian :
    after (.st 15) (rdy.prog 15 [word 0x44 [(110, 1), (105, 2)]] { sr := [(1, 2 ^ 25 - 8), (2, 0x0102)] })
      (fun t => t.spad.byte (16 * 2 ^ 25 - 8) == 2 && t.spad.byte (16 * 2 ^ 25 - 7) == 1) = true := by decide +kernel

/-- An LD of eight bytes that would run past the scratchpad ends the run with E_BOUNDS and reads nothing (R124). -/
theorem test_ld_past_the_end :
    after (.ld 15) (rdy.prog 15 [word 0x43 [(115, 2), (110, 3)]] { sr := [(3, 2 ^ 25 - 7)] })
      (fun t => t.sreg 15 2 == 0) = true := by decide +kernel

/-- SIGNAL_ADD wraps modulo 2^64: 5 + (2^64 - 1) = 4. -/
theorem test_sync_signal_add_wraps :
    after (.syncSignal d3) ({ (rdy.jobAt 7 [(0, 4, 9), (4, 1, 1), (8, 8, 2 ^ 64 - 1)]) with sync := [(9, 5)] })
      (fun t => t.syncVal 9 == 4) = true := by decide +kernel

/-- A doorbell write moves the queue's tail. -/
theorem test_doorbell_moves_tail :
    after (.doorbell 0 (acc 12 0 8 0)) (rdy.work 0 []) (fun t => t.get F.HUB_Q_STAT_tail 0 == 12) = true := by decide +kernel

/-- A ceiling above 2,000 MHz is held to 2,000 MHz. -/
theorem test_ceiling_above_range :
    after (.arrayClkCeilingWrite 3 (acc 2500 0 8 0)) rdy (fun t => t.get F.HUB_ARRAY_CLK_ceiling_mhz 3 == 2000) = true := by decide +kernel

/-! ## The manual's worked examples -/

/-- The values of the manual's SS4 block, in units of 2^-6: sub-blocks 0 to 3. -/
def ss4Example : List Machine.Num :=
  [6, -3, 4, 0, 12, -8, 2, 10, 96, -48, 16, 64, -32, 8, 48, 24, 48, 32, -16, 4, 24, -48, 12, 16, 0, 0, 0, 0, 0, 0, 0, 0].map
    fun k : Int => .fin (decide (k < 0)) k.natAbs (-6)

/-- The SS4 block of the example after Table 4.4's rules: scale 0x7A, step byte 0x2C, and its sixteen element bytes. -/
theorem test_ss4_example :
    (blockOut 12 (fun _ => .nearest) ss4Example).scales = [0x7A, 0x2C] ∧
    packCodes 4 (blockOut 12 (fun _ => .nearest) ss4Example).codes =
      [0xB5, 0x04, 0xE7, 0x62, 0xD7, 0x62, 0x1C, 0x35, 0x67, 0x1C, 0xF5, 0x43, 0x00, 0x00, 0x00, 0x00] := by decide +kernel

/-- The same block as MXFP4 (code 10) takes one scale of 2^-2; its sub-block 0 keeps only 0.125, 0.25 and -0.125. -/
theorem test_mxfp4_example :
    (blockOut 10 (fun _ => .nearest) ss4Example).scales = [125] ∧
    (blockOut 10 (fun _ => .nearest) ss4Example).codes.take 8 = [1, 8, 0, 0, 2, 9, 0, 1] := by decide +kernel

/-- The spread region of the example of R151. -/
def spreadExample : MapEnt :=
  { valid := true, spread := true, parity := true, stack := 0, mediaFirst := 20000, base := 0x40000, size := 480 }

/-- Address 0x80_0012_3456 lies in stack 6, channel 7, burst 640,001, in the burst's sector 17. -/
theorem test_address_example :
    (spreadExample.locate 0x8000123456).stack = 6 ∧ (spreadExample.locate 0x8000123456).chan = 7 ∧
    (spreadExample.locate 0x8000123456).burst = 640001 ∧ (spreadExample.locate 0x8000123456).byte / 64 = 17 := by decide +kernel

/-- Unit 5 of the example of R399: bins of width class 2^6 and up from 0. -/
def binExample : State := rdy.with [(F.TEL_MON_CFG_log2, 5, 1), (F.TEL_MON_CFG_shift, 5, 6)]

/-- 40 ns falls in bin 0, 1,300 ns in bin 5, 21,400 ns in bin 9; only 2^36 ns or more reaches bin 31. -/
theorem test_monitor_bins :
    binExample.monBin 5 40 = 0 ∧ binExample.monBin 5 1300 = 5 ∧ binExample.monBin 5 21400 = 9 ∧
    binExample.monBin 5 (2 ^ 36 - 1) = 30 ∧ binExample.monBin 5 (2 ^ 36) = 31 := by decide +kernel

/-- The example of FIPS 180-4: the first 64 bits of the SHA-512 digest of "abc". -/
theorem test_sha512_abc : Sha512.top64 [0x61, 0x62, 0x63] = 0xddaf35a193617aba := by decide +kernel

/-! ## Operands outside the manual's ranges are refused by WellFormed -/

/-- BAR accesses of no byte and of nine. -/
theorem test_wf_bar_size :
    [0, 9].all (fun n => !(Instr.chipReset { size := n, value := 1 }).wellFormed) = true := by decide

/-- A register instance past the array's end, for every register. -/
theorem test_wf_register_instance (r : RegName) (w : BarAcc) : (Instr.registerWrite r r.count w).wellFormed = false := by
  simp [Instr.wellFormed]

/-- Queue 65,536; graph slot 64; node 1,024; iteration 2^32. -/
theorem test_wf_work :
    [Work.desc 65536 0, .desc 0 65536, .node 64 0 0, .node 0 1024 0, .node 0 0 (2 ^ 32)].all (fun w =>
      !(Instr.fill w).wellFormed) = true := by decide

/-- An access of no byte; one that leaves its burst; a finding in sector 32. -/
theorem test_wf_memory_access :
    [Instr.memAccess 0 (.read 0) [], .memAccess 0 (.write []) [], .memAccess 2047 (.read 2) [], .memAccess 0 (.read 1) [(32, .clean)],
     .bar4Access 0 (.write []), .boardWindowAccess 0 (.read 0), .patrolScrub 0 [(32, .clean)]].all (fun c => !c.wellFormed) = true := by
  decide

/-- Bundle 400; lane 66; wavelength 18; host wavelength 9; channel 544; adder lane 528. -/
theorem test_wf_units :
    [Instr.partitionStageDone 0 [(400, [])] [], .partitionStageDone 0 [(0, [66])] [], .trainingStepDone 0 { usable := [18] },
     .hostTrainRetry true true [9], .hostLinkTrained true [9], .sliceWindow [(544, true)],
     .chunk 0 { kind := 0 } [[528]]].all (fun c => !c.wellFormed) = true := by decide

/-- Calendar seconds of 49 bits; a fraction of 16 bits. -/
theorem test_wf_calendar :
    [{ seconds := 2 ^ 48, fraction := 0 }, { seconds := 0, fraction := 2 ^ 15 }].all (fun c : Calendar =>
      !(Instr.hello 0 { calendar := c }).wellFormed) = true := by decide

/-- Identity readings of eight dies, of fifteen stacks, of a strap code of five bits. -/
theorem test_wf_identity :
    [{ goodRead with dies := goodRead.dies.take 8 }, { goodRead with stackSerials := goodRead.stackSerials.take 15 },
     { goodRead with dies := goodRead.dies.map fun d => { d with strap := 16 } }].all (fun r : IdentityRead =>
      !(Instr.bringupStepDone (.identity r)).wellFormed) = true := by decide +kernel

/-- Step results naming host wavelength 9, strap code 5, adder lane 528, port 64, stack 16, channel 544. -/
theorem test_wf_step_result :
    [StepResult.hostPort true [9], .selfTest (some 5) [], .selfTest none [528], .ringCal [64], .dram [16] [] [],
     .dram [] [544] [], .dram [] [] [(0, 296)], .d2d [(400, [])]].all (fun r => !(Instr.bringupStepDone r).wellFormed) = true := by decide

/-- Stage results naming bundle 400 or fifteen stacks. -/
theorem test_wf_stage_result :
    [StageResult.d2d [(400, [])], .identity { goodRead with stackSerials := [] }].all (fun r =>
      !(Instr.chipResetStageDone r).wellFormed) = true := by decide

/-- Packet fields one past their widths. -/
theorem test_wf_packet :
    [{ kind := 256 }, { kind := 0, tag := 2 ^ 14 }, { kind := 0, dst := 2 ^ 20 }, { kind := 0, afnFn := 8 }, { kind := 0, src := 2 ^ 20 },
     { kind := 0, offset := 2 ^ 44 }].all (fun p : Packet => !(Instr.readRequest 0 p).wellFormed) = true := by decide

/-- Collective packet fields one past their widths. -/
theorem test_wf_collective_packet :
    [{ kind := 256 }, { kind := 0, tree := 2 }, { kind := 0, session := 8 }, { kind := 0, dst := 2 ^ 20 },
     { kind := 0, count := 2 ^ 35 }].all (fun p : ColPacket => !(Instr.join 0 p).wellFormed) = true := by decide

/-- Control message bodies one past their widths. -/
theorem test_wf_control_messages :
    [Instr.hello 0 { node := 2 ^ 20 }, .hello 0 { seen := 2 ^ 24 }, .endpointNotice 0 { kind := .ready, node := 2 ^ 20, epoch := 0 },
     .endpointNotice 0 { kind := .ready, node := 0, epoch := 2 ^ 16 },
     .signedNotice 0 { generation := 0, index := 0, count := 1, data := List.replicate 233 0 },
     .linkFlitReceive 0 { typ := .idle, seq := 2 ^ 16 }, .linkFlitReceive 0 { typ := .idle, corrected := [18] },
     .laneMap 0 0 [0], .laneMap 0 0 (List.replicate 18 256), .launchPower 0 (List.replicate 17 0)].all (fun c => !c.wellFormed) = true := by
  decide +kernel

/-- A sync object write of nine bytes; descriptor reads of 65 and of 576 bytes; session 2^32; security version 128; entry 256 of a
notice. -/
theorem test_wf_others :
    [Instr.syncObjectWrite 0 0 9 0, .descriptorReadDone 0 (some (List.replicate 65 0)),
     .descriptorReadDone 0 (some (List.replicate 576 0)), .finish .i3c (2 ^ 32), .endSession .doe (2 ^ 32), .rollbackAdvance 128,
     .noticeVerified [256], .marginMeasurement .d2dEye 400 0 0, .marginMeasurement .coreSlack 0 1 0].all (fun c => !c.wellFormed) = true := by
  decide +kernel

/-- A notice of 4,097 bytes over PLDM. -/
theorem test_wf_pldm_notice : (Instr.pldmNotice (List.replicate 4097 0)).wellFormed = false := by
  simp [Instr.wellFormed]

/-! ## Witnesses of the obligations -/

theorem wit_StepRunsFront :
  (∃ (c : Instr) (cs : List Instr) (s : State), s.pending = c :: cs) ∧
  (∃ (s : State), s.pending = []) :=
  ⟨⟨.nop 3, [.nop 4], { rdy with pending := [.nop 3, .nop 4] }, by decide +kernel⟩,
   ⟨rdy, by decide +kernel⟩⟩

theorem wit_ResetState :
  (∃ (f : Fld) (i : Nat), f.key i ∉ [F.CTX_valid.key 0, F.CTX_admin.key 0, F.CTX_SHADOW_valid.key 0, F.CTX_SHADOW_admin.key 0,
    F.SEC_FW_STAT_valid.key 0]) :=
  ⟨F.HUB_ARRAY_CLK_ceiling_mhz, 1023, by decide +kernel⟩

theorem wit_RegisterWriteByAccessCode :
  (∃ (r : RegName) (i : Nat) (j : Nat) (w : BarAcc) (s : State), Reaches s r i w j ∧ r.ownRow = false ∧ r.shadowUnit = none) :=
  ⟨.HUB_DUMP_ADDR, 0, 0, acc 0xFFFFFFFFFFFFFFFF 0 8 0, rdy, by unfold Reaches; decide +kernel⟩

theorem wit_RegisterWriteRefused :
  (∃ (w : BarAcc) (s : State), s.hubUp = true ∧ w.aligned = false) ∧
  (∃ (s : State), s.hubUp = false) ∧
  (∃ (r : RegName) (i : Nat) (w : BarAcc) (s : State), s.regIx r w.fn i = none ∧ w.aligned = true) ∧
  (∃ (w : BarAcc) (s : State), Reaches s .HUB_SETUP_LOCK 0 w 0 ∧ w.touches F.HUB_SETUP_LOCK_locked = true ∧ w.bits F.HUB_SETUP_LOCK_locked
    = 1) ∧
  (∃ (w : BarAcc) (s : State) (t : State), s.setupLocked = true ∧ exec (.setupLockWrite w) s = .next t) ∧
  (∃ (r : RegName) (i : Nat) (j : Nat) (w : BarAcc) (s : State) (f : Fld), Reaches s r i w j ∧ r.ownRow = false ∧ r.shadowUnit = none ∧ f
    ∈ r.fields ∧ f.acc = .RWL ∧ w.touches f = true ∧ s.setupLocked = true) :=
  ⟨⟨acc 1 2 4 0, rdy, by decide +kernel⟩,
   ⟨State.reset, by decide +kernel⟩,
   ⟨.HUB_CFG_EPOCH, 0, acc 1 0 4 1, rdy, by decide +kernel⟩,
   ⟨acc 1 0 8 0, rdy, by unfold Reaches; decide +kernel⟩,
   ⟨acc 0 0 8 0, rdy.with [(F.HUB_SETUP_LOCK_locked, 0, 1)], (outState (exec (.setupLockWrite (acc 0 0 8 0)) (rdy.with
     [(F.HUB_SETUP_LOCK_locked, 0, 1)])) ((rdy.with [(F.HUB_SETUP_LOCK_locked, 0, 1)]))), by decide +kernel, outState_eq
     (by decide +kernel)⟩,
   ⟨.HUB_BAR4_BASE, 0, 0, acc (2^30) 0 8 0, rdy.with [(F.HUB_SETUP_LOCK_locked, 0, 1)], F.HUB_BAR4_BASE_base,
     by unfold Reaches; decide +kernel⟩⟩

theorem wit_ArrayClocks :
  (∃ (c : Fin 4) (j : Nat) (w : BarAcc) (s : State), Reaches s .HUB_ARRAY_CLK c w j ∧ w.touches F.HUB_ARRAY_CLK_ceiling_mhz = true) ∧
  (∃ (c : Fin 4) (s : State), 50 ≤ s.get F.HUB_ARRAY_CLK_current_mhz c ∧ s.get F.HUB_ARRAY_CLK_current_mhz c ≤ 2000 ∧ s.clockFalls c =
    true) ∧
  (∃ (c : Fin 4) (s : State) (t : _), 50 ≤ s.get F.HUB_ARRAY_CLK_current_mhz c ∧ s.get F.HUB_ARRAY_CLK_current_mhz c ≤ 2000 ∧ exec
    (.arrayClockStep c true) s = .next t) ∧
  (∃ (c : Fin 4) (s : State), 50 ≤ s.get F.HUB_ARRAY_CLK_current_mhz c ∧ s.get F.HUB_ARRAY_CLK_current_mhz c ≤ 2000 ∧ s.clockFalls c =
    false) :=
  ⟨⟨3, 3, acc 5000 0 8 0, rdy, by unfold Reaches; decide +kernel⟩,
   ⟨3, { rdy.with [(F.HUB_ARRAY_CLK_current_mhz, 3, 2000)] with pwr := { used := 120001 } }, by decide +kernel⟩,
   ⟨3, rdy.with [(F.HUB_ARRAY_CLK_current_mhz, 3, 1950)], (outState (exec (.arrayClockStep 3 true) (rdy.with [(F.HUB_ARRAY_CLK_current_mhz,
     3, 1950)])) ((rdy.with [(F.HUB_ARRAY_CLK_current_mhz, 3, 1950)]))), by decide +kernel, by decide +kernel, outState_eq
     (by decide +kernel)⟩,
   ⟨3, rdy.with [(F.HUB_ARRAY_CLK_current_mhz, 3, 2000), (F.HUB_ARRAY_CLK_ceiling_mhz, 3, 2000)], by decide +kernel⟩⟩

theorem wit_TimeAndCalendar :
  (∃ (s : State), s.hubUp = true) ∧
  (∃ (w : BarAcc) (s : State), Reaches s .HUB_CALENDAR_SET 0 w 0 ∧ w.size = 8) ∧
  (∃ (w : BarAcc) (s : State), Reaches s .HUB_CALENDAR_SET 0 w 0 ∧ w.size = 4) ∧
  (∃ (s : State), s.mgmtUp = true ∧ s.romServes = false) ∧
  (∃ (v : Calendar) (src : CalSource) (s : State), s.cal.pending = some (v, src) ∧ s.log.staged.length < 8192) :=
  ⟨⟨{ rdy with time := 2 ^ 32 + 5 }, by decide +kernel⟩,
   ⟨acc (2^64-1) 0 8 0, rdy, by unfold Reaches; decide +kernel⟩,
   ⟨acc (2^64-1) 0 4 0, rdy, by unfold Reaches; decide +kernel⟩,
   ⟨rdy, by decide +kernel⟩,
   ⟨{ valid := true, seconds := 9 }, .i3c, { rdy with cal := { pending := some ({ valid := true, seconds := 9 }, .i3c) } },
     by decide +kernel⟩⟩

theorem wit_QueueControl :
  (∃ (n : Fin 65536) (j : Nat) (w : BarAcc) (s : State), Reaches s .HUB_Q_CFG n w j ∧ s.isSet F.HUB_Q_CFG_enable j = false ∧ s.after w
    F.HUB_Q_CFG_enable j ≠ 0 ∧ (let u := s.writeReg .HUB_Q_CFG j w; u.enableRefused j = true)) ∧
  (∃ (n : Fin 65536) (j : Nat) (w : BarAcc) (s : State), Reaches s .HUB_Q_CFG n w j ∧ s.isSet F.HUB_Q_CFG_enable j = false ∧ s.after w
    F.HUB_Q_CFG_enable j ≠ 0 ∧ (let u := s.writeReg .HUB_Q_CFG j w; u.enableRefused j = false)) ∧
  (∃ (n : Fin 65536) (j : Nat) (w : BarAcc) (s : State), Reaches s .HUB_CQ_CFG n w j ∧ s.isSet F.HUB_CQ_CFG_enable j = false ∧ s.after w
    F.HUB_CQ_CFG_enable j ≠ 0 ∧ (let u := s.writeReg .HUB_CQ_CFG j w; u.cqRefused j = true)) ∧
  (∃ (n : Fin 65536) (j : Nat) (w : BarAcc) (s : State), Reaches s .HUB_CQ_CFG n w j ∧ s.isSet F.HUB_CQ_CFG_enable j = false ∧ s.after w
    F.HUB_CQ_CFG_enable j ≠ 0 ∧ (let u := s.writeReg .HUB_CQ_CFG j w; u.cqRefused j = false)) ∧
  (∃ (n : Fin 65536) (j : Nat) (w : BarAcc) (s : State), Reaches s .HUB_Q_CFG n w j ∧ s.isSet F.HUB_Q_CFG_enable j = true ∧ w.touches
    F.HUB_Q_CFG_enable = true ∧ s.after w F.HUB_Q_CFG_enable j = 0) ∧
  (∃ (n : Fin 65536) (j : Nat) (w : BarAcc) (s : State), Reaches s .HUB_CQ_CFG n w j ∧ s.isSet F.HUB_CQ_CFG_enable j = true ∧ w.touches
    F.HUB_CQ_CFG_enable = true ∧ s.after w F.HUB_CQ_CFG_enable j = 0) ∧
  (∃ (s : State), s.boot.phase ≠ .ready) ∧
  (∃ (n : Fin 65536) (w : BarAcc) (s : State) (j : _), s.boot.phase = .ready ∧ s.hubUp = true ∧ w.off = 0 ∧ w.size = 8 ∧ s.queueIx w.fn n
    = some j ∧ w.value.toNat < 2 ^ 16 ∧ s.takesDoorbell j = false) ∧
  (∃ (n : Fin 65536) (w : BarAcc) (s : State) (j : _), s.boot.phase = .ready ∧ s.hubUp = true ∧ w.off = 0 ∧ w.size = 8 ∧ s.queueIx w.fn n
    = some j ∧ w.value.toNat < 2 ^ 16 ∧ (let size := s.ringSize j; (let old := s.oldestIx j; (let new := w.value.toNat;
    (let acc := ringDist size old (s.get F.HUB_Q_STAT_tail j); s.takesDoorbell j = true ∧ (new < size ∧ acc ≤ ringDist size old
    new)))))) ∧
  (∃ (n : Fin 65536) (w : BarAcc) (s : State) (j : _), s.boot.phase = .ready ∧ s.hubUp = true ∧ w.off = 0 ∧ w.size = 8 ∧ s.queueIx w.fn n
    = some j ∧ w.value.toNat < 2 ^ 16 ∧ (let size := s.ringSize j; (let old := s.oldestIx j; (let new := w.value.toNat;
    (let acc := ringDist size old (s.get F.HUB_Q_STAT_tail j); s.takesDoorbell j = true ∧ (¬(new < size ∧ acc ≤ ringDist size old
    new))))))) ∧
  (∃ (n : Fin 65536) (j : Nat) (w : BarAcc) (s : State), Reaches s .HUB_Q_CTRL n w j ∧ w.bits F.HUB_Q_CTRL_resume = 1 ∧ s.get
    F.HUB_Q_STAT_state j = 2 ∧ s.stopActive = false ∧ w.bits F.HUB_Q_CTRL_set_head = 0) ∧
  (∃ (n : Fin 65536) (j : Nat) (w : BarAcc) (s : State), Reaches s .HUB_Q_CTRL n w j ∧ w.bits F.HUB_Q_CTRL_resume = 1 ∧ s.get
    F.HUB_Q_STAT_state j = 2 ∧ s.stopActive = false ∧ w.bits F.HUB_Q_CTRL_set_head = 1 ∧ (let size := s.ringSize j;
    (let h := w.bits F.HUB_Q_CTRL_new_head; (let lo := (s.get F.HUB_Q_STAT_halt_index j + 1) % size; (h < size ∧ ringDist size lo h ≤
    ringDist size lo (s.get F.HUB_Q_STAT_tail j)))))) ∧
  (∃ (n : Fin 65536) (j : Nat) (w : BarAcc) (s : State), Reaches s .HUB_Q_CTRL n w j ∧ w.bits F.HUB_Q_CTRL_resume = 1 ∧ s.get
    F.HUB_Q_STAT_state j = 2 ∧ s.stopActive = false ∧ w.bits F.HUB_Q_CTRL_set_head = 1 ∧ (let size := s.ringSize j;
    (let h := w.bits F.HUB_Q_CTRL_new_head; (let lo := (s.get F.HUB_Q_STAT_halt_index j + 1) % size; (¬(h < size ∧ ringDist size lo h ≤
    ringDist size lo (s.get F.HUB_Q_STAT_tail j))))))) ∧
  (∃ (n : Fin 65536) (j : Nat) (w : BarAcc) (s : State), s.boot.phase = .ready ∧ s.hubUp = true ∧ w.off = 8 ∧ w.size = 8 ∧ s.ringIx w.fn n
    = some j ∧ (let size := s.cqSize j; (let h := w.value.toNat % 2 ^ 16; (let cur := s.get F.HUB_CQ_STAT_head j; (h < size ∧ ringDist
    size cur h ≤ ringDist size cur (s.get F.HUB_CQ_STAT_position j)))))) ∧
  (∃ (n : Fin 65536) (j : Nat) (w : BarAcc) (s : State), s.boot.phase = .ready ∧ s.hubUp = true ∧ w.off = 8 ∧ w.size = 8 ∧ s.ringIx w.fn n
    = some j ∧ (let size := s.cqSize j; (let h := w.value.toNat % 2 ^ 16; (let cur := s.get F.HUB_CQ_STAT_head j; (¬(h < size ∧ ringDist
    size cur h ≤ ringDist size cur (s.get F.HUB_CQ_STAT_position j))))))) ∧
  (∃ (n : Fin 65536) (j : Nat) (w : BarAcc) (s : State), s.boot.phase = .ready ∧ s.hubUp = true ∧ w.off = 8 ∧ w.size ≠ 8 ∧ s.ringIx w.fn n
    = some j) :=
  ⟨⟨5, 5, acc (2 ^ 63 + 5 * 2 ^ 52) 0 8 0, rdy.with [(F.HUB_CQ_CFG_enable, 3, 1), (F.HUB_Q_CFG_cq, 5, 3)],
     by dsimp only; unfold Reaches; decide +kernel⟩,
   ⟨5, 5, acc (2 ^ 63 + 6 * 2 ^ 52 + 3 * 2 ^ 16) 0 8 0, rdy.with [(F.HUB_CQ_CFG_enable, 3, 1), (F.HUB_Q_CFG_cq, 5, 3)],
     by dsimp only; unfold Reaches; decide +kernel⟩,
   ⟨5, 5, acc (2 ^ 63 + 17 * 2 ^ 57) 0 8 0, rdy, by dsimp only; unfold Reaches; decide +kernel⟩,
   ⟨5, 5, acc (2 ^ 63 + 16 * 2 ^ 57) 0 8 0, rdy, by dsimp only; unfold Reaches; decide +kernel⟩,
   ⟨5, 5, acc 0 0 8 0, rdy.work 5 [ent 1 0 .busy [], ent 1 1 .fetched []], by unfold Reaches; decide +kernel⟩,
   ⟨5, 5, acc 0 0 8 0, rdy.with [(F.HUB_CQ_CFG_enable, 5, 1)], by unfold Reaches; decide +kernel⟩,
   ⟨State.reset, by decide +kernel⟩,
   ⟨5, acc 3 0 8 0, rdy, 5, by decide +kernel⟩,
   ⟨5, acc 63 0 8 0, rdy.work 5 [], 5, by dsimp only; decide +kernel⟩,
   ⟨5, acc 64 0 8 0, rdy.work 5 [], 5, by dsimp only; decide +kernel⟩,
   ⟨5, 5, acc 1 0 8 0, (rdy.work 5 [ent 1 0 .busy []]).with [(F.HUB_Q_STAT_state, 5, 2), (F.HUB_Q_STAT_halt_index, 5, 3)],
     by unfold Reaches; decide +kernel⟩,
   ⟨5, 5, acc (3 + 4 * 8) 0 8 0, (rdy.work 5 [ent 1 0 .busy []]).with [(F.HUB_Q_STAT_state, 5, 2), (F.HUB_Q_STAT_halt_index, 5, 3)],
     by dsimp only; unfold Reaches; decide +kernel⟩,
   ⟨5, 5, acc (3 + 4 * 9) 0 8 0, (rdy.work 5 [ent 1 0 .busy []]).with [(F.HUB_Q_STAT_state, 5, 2), (F.HUB_Q_STAT_halt_index, 5, 3)],
     by dsimp only; unfold Reaches; decide +kernel⟩,
   ⟨5, 5, acc 4 8 8 0, rdy.with [(F.HUB_CQ_STAT_head, 5, 2), (F.HUB_CQ_STAT_position, 5, 4)], by dsimp only; decide +kernel⟩,
   ⟨5, 5, acc 5 8 8 0, rdy.with [(F.HUB_CQ_STAT_head, 5, 2), (F.HUB_CQ_STAT_position, 5, 4)], by dsimp only; decide +kernel⟩,
   ⟨5, 5, acc 4 8 4 0, rdy.with [(F.HUB_CQ_STAT_head, 5, 2), (F.HUB_CQ_STAT_position, 5, 4)], by decide +kernel⟩⟩

theorem wit_DescriptorFetchAndDispatch :
  (∃ (s : State) (n : Nat), s.mayFetch = true ∧ s.pickQueue = some n) ∧
  (∃ (s : State) (n : Fin 65536) (first : Nat) (cnt : Nat) (bs : List Byte), (s.queue n).reading = some (first, cnt) ∧ bs.length = 64 *
    cnt ∧ (s.queue n).skip = []) ∧
  (∃ (s : State) (n : Fin 65536) (first : Nat) (cnt : Nat), (s.queue n).reading = some (first, cnt)) ∧
  (∃ (s : State) (n : Fin 65536) (e : QEnt) (rest : List QEnt), s.get F.HUB_Q_STAT_state n = 1 ∧ s.quiescing = false ∧ s.stopActive =
    false ∧ s.unitFrozen 0x10 = false ∧ (s.queue n).ents = e :: rest ∧ e.phase = .fetched ∧ e.flag 0 = false ∧ (s.queue n).inFlight < 64
    ∧ e.result = none ∧ s.descFault n e.bytes = none ∧ (fieldAt e.bytes 4 4 = 0xFFFFFFFF ∨ fieldAt e.bytes 8 8 ≤ s.syncVal (fieldAt
    e.bytes 4 4))) ∧
  (∃ (s : State) (n : Fin 65536) (e : QEnt) (rest : List QEnt) (d : _), s.get F.HUB_Q_STAT_state n = 1 ∧ s.quiescing = false ∧
    s.stopActive = false ∧ s.unitFrozen 0x10 = false ∧ (s.queue n).ents = e :: rest ∧ e.phase = .fetched ∧ e.flag 0 = false ∧ (s.queue
    n).inFlight < 64 ∧ e.result = none ∧ s.descFault n e.bytes = some d) :=
  ⟨⟨rdy.work 5 [], 5, by decide +kernel⟩,
   ⟨(rdy.work 5 []).setQueue 5 { reading := some (63, 2) }, 5, 63, 2, bytesOf 128 [], by decide +kernel⟩,
   ⟨(rdy.work 5 []).setQueue 5 { reading := some (63, 2) }, 5, 63, 2, by decide +kernel⟩,
   ⟨rdy.work 5 [ent 7 3 .fetched [], ent 7 4 .fetched []], 5, ent 7 3 .fetched [], [ent 7 4 .fetched []], by decide +kernel⟩,
   ⟨rdy.work 5 [ent 0x10 3 .fetched [], ent 7 4 .fetched []], 5, ent 0x10 3 .fetched [], [ent 7 4 .fetched []], 0, by decide +kernel⟩⟩

theorem wit_DescriptorCompletion :
  (∃ (s : State) (n : Fin 65536) (idx : Fin 65536) (e : QEnt) (r : Result), (s.queue n).ent idx = some e ∧ e.result = some r ∧ e.phase ≠
    .ended) ∧
  (∃ (s : State) (n : Fin 65536) (idx : Fin 65536) (e : QEnt) (r : Result), (s.queue n).ent idx = some e ∧ e.result = some r ∧
    (let cq := s.get F.HUB_Q_CFG_cq n; e.phase = .ended ∧ s.targetsGone e = true ∧ s.rst.keepers = false ∧ s.unitFrozen 0x11 = false ∧
    s.isSet F.HUB_CQ_CFG_enable cq = true ∧ s.cqFull cq = true)) ∧
  (∃ (s : State) (n : Fin 65536) (idx : Fin 65536) (e : QEnt) (r : Result), (s.queue n).ent idx = some e ∧ e.result = some r ∧
    (let cq := s.get F.HUB_Q_CFG_cq n; e.phase = .ended ∧ s.targetsGone e = true ∧ s.rst.keepers = false ∧ s.unitFrozen 0x11 = false ∧
    s.host.up = true ∧ s.isSet F.HUB_CQ_CFG_enable cq = true ∧ s.cqFull cq = false ∧ e.committed = none ∧ (s.ring cq).held = [] ∧ e.flag
    1 = false ∧ e.flag 2 = false ∧ e.flag 3 = false)) ∧
  (∃ (s : State) (n : Fin 65536), (s.ring n).stalledSince ≠ 0 ∧ s.cqFull n = true ∧ s.host.up = true) ∧
  (∃ (s : State) (n : Fin 65536), (s.ring n).pendInt ≠ 0 ∧ s.get F.HUB_CQ_CFG_mod_us n ≠ 0 ∧ s.host.up = true) ∧
  (∃ (s : State) (n : Fin 65536), (s.ring n).held ≠ [] ∧ s.host.up = true) :=
  ⟨⟨rdy.work 5 [{ ent 7 3 .busy [] with result := some ⟨.ok, 0⟩ }], 5, 3, { ent 7 3 .busy [] with result := some ⟨.ok, 0⟩ }, ⟨.ok, 0⟩,
     by decide +kernel⟩,
   ⟨(rdy.work 5 [{ ent 7 3 .ended [] with result := some ⟨.ok, 0⟩ }]).with [(F.HUB_CQ_CFG_enable, 0, 1), (F.HUB_CQ_STAT_position, 0, 63)],
     5, 3, { ent 7 3 .ended [] with result := some ⟨.ok, 0⟩ }, ⟨.ok, 0⟩, by dsimp only; decide +kernel⟩,
   ⟨(rdy.work 5 [{ ent 7 3 .ended [] with result := some ⟨.ok, 0⟩ }]).with [(F.HUB_CQ_CFG_enable, 0, 1), (F.HUB_CQ_STAT_position, 0, 62)],
     5, 3, { ent 7 3 .ended [] with result := some ⟨.ok, 0⟩ }, ⟨.ok, 0⟩, by dsimp only; decide +kernel⟩,
   ⟨(rdy.setRing 5 { stalledSince := 7 }).with [(F.HUB_CQ_STAT_position, 5, 63)], 5, by decide +kernel⟩,
   ⟨(rdy.setRing 5 { pendInt := 2, pendSince := 9 }).with [(F.HUB_CQ_CFG_mod_us, 5, 4), (F.HUB_CQ_CFG_vector, 5, 9)], 5, by decide +kernel⟩,
   ⟨rdy.setRing 5 { held := [(4096, bytesOf 16 []), (4112, bytesOf 16 [])] }, 5, by decide +kernel⟩⟩

theorem wit_SyncObjects :
  (∃ (s : State) (fn : Fin 16) (obj : Fin 262144), s.hubUp = true ∧ s.ownsSync fn obj = true ∧ s.syncVal obj < 2 ^ 64) ∧
  (∃ (s : State) (w : Work) (it : Item), s.fresh w 0x07 = some it ∧ fieldAt it.payload 4 1 = 0) ∧
  (∃ (s : State) (w : Work) (it : Item), s.fresh w 0x07 = some it ∧ fieldAt it.payload 4 1 = 1) ∧
  (∃ (s : State) (w : Work) (it : Item), s.fresh w 0x08 = some it ∧ fieldAt it.payload 8 8 ≤ s.syncVal (fieldAt it.payload 0 4)) ∧
  (∃ (s : State) (w : Work) (it : Item), s.fresh w 0x08 = some it ∧ s.syncVal (fieldAt it.payload 0 4) < fieldAt it.payload 8 8) ∧
  (∃ (s : State) (w : Work) (it : Item), s.running w 0x08 = some it ∧ fieldAt it.payload 16 4 ≠ 0) :=
  ⟨⟨{ rdy with sync := [(9, 5)] }, 0, 9, by decide +kernel⟩,
   ⟨{ (rdy.jobAt 7 [(0, 4, 9), (8, 8, 2 ^ 64 - 1)]) with sync := [(9, 5), (10, 3)] }, d3,
     ({ (rdy.jobAt 7 [(0, 4, 9), (8, 8, 2 ^ 64 - 1)]) with sync := [(9, 5), (10, 3)] }).it d3, by decide +kernel⟩,
   ⟨{ (rdy.jobAt 7 [(0, 4, 9), (4, 1, 1), (8, 8, 2 ^ 64 - 1)]) with sync := [(9, 5), (10, 3)] }, d3,
     ({ (rdy.jobAt 7 [(0, 4, 9), (4, 1, 1), (8, 8, 2 ^ 64 - 1)]) with sync := [(9, 5), (10, 3)] }).it d3, by decide +kernel⟩,
   ⟨{ (rdy.jobAt 8 [(0, 4, 9), (8, 8, 5)]) with sync := [(9, 5), (10, 3)] }, d3,
     ({ (rdy.jobAt 8 [(0, 4, 9), (8, 8, 5)]) with sync := [(9, 5), (10, 3)] }).it d3, by decide +kernel⟩,
   ⟨{ (rdy.jobAt 8 [(0, 4, 9), (8, 8, 6)]) with sync := [(9, 5), (10, 3)] }, d3,
     ({ (rdy.jobAt 8 [(0, 4, 9), (8, 8, 6)]) with sync := [(9, 5), (10, 3)] }).it d3, by decide +kernel⟩,
   ⟨{ (rdy.work 0 [ent 8 3 .busy [(0, 4, 9), (8, 8, 6), (16, 4, 3)]]) with sync := [(9, 5), (10, 3)] }, d3,
     ({ (rdy.work 0 [ent 8 3 .busy [(0, 4, 9), (8, 8, 6), (16, 4, 3)]]) with sync := [(9, 5), (10, 3)] }).it d3, by decide +kernel⟩⟩

theorem wit_ProgramRuns :
  (∃ (s : State) (w : Work) (it : Item), s.fresh w 0x01 = some it ∧ (let k := launchBlock it.payload; launchFormat it.payload = none ∧ (∀
    q ∈ maskQuads k.qmask, s.dieSwitching (q / 4) = false) ∧ s.launchBounds it.ctx k = false)) ∧
  (∃ (s : State) (w : Work) (it : Item) (d : _), s.fresh w 0x01 = some it ∧ launchFormat it.payload = some d) ∧
  (∃ (s : State) (w : Work) (it : Item), s.fresh w 0x01 = some it ∧ (let k := launchBlock it.payload; launchFormat it.payload = none ∧ (∀
    q ∈ maskQuads k.qmask, s.dieSwitching (q / 4) = false) ∧ s.launchBounds it.ctx k = true)) ∧
  (∃ (s : State) (q : Fin 16) (l : Launch) (node : _) (off : _) (key : _), s.quadFree q = true ∧ (s.launches.find? fun l =>
    l.waiting.contains q.val && s.gateOpen q l.ctxId) = some l ∧ s.resident q l.block = false ∧ s.memEnd l.block.image (16 *
    l.block.length) = .remote node off key ∧ s.excludedNode node = false ∧ (s.seq q).fetch = none) ∧
  (∃ (s : State) (q : Fin 16) (l : Launch), s.quadFree q = true ∧ (s.launches.find? fun l => l.waiting.contains q.val && s.gateOpen q
    l.ctxId) = some l ∧ (s.resident q l.block = true ∨ ∃ a, s.memEnd l.block.image (16 * l.block.length) = .here (.mem a) ∧ s.memHeld a
    (16 * l.block.length) = false ∧ (s.memRead a (16 * l.block.length)).poisoned = false)) ∧
  (∃ (s : State) (q : Fin 16) (w : Nat), AtOp s q 0x01 w) ∧
  (∃ (s : State) (q : Fin 16) (id : Nat), (s.seq q).launch = some id ∧ (s.seq q).ending = true ∧ (s.seq q).issued = [] ∧ s.quadHeld q =
    false) ∧
  (∃ (s : State) (q : Fin 16), ((s.seq q).issued ≠ [] ∨ (s.seq q).ending = false)) :=
  ⟨⟨(rdy.jobAt 1 [(0, 6, 4096), (6, 2, 0x8001), (8, 2, 4096), (10, 2, 0), (12, 2, 4095), (16, 8, 7)]), d3, ((rdy.jobAt 1 [(0, 6, 4096), (6,
     2, 0x8001), (8, 2, 4096), (10, 2, 0), (12, 2, 4095), (16, 8, 7)])).it d3, by dsimp only; decide +kernel⟩,
   ⟨(rdy.jobAt 1 [(0, 6, 4096), (6, 2, 1)]), d3, ((rdy.jobAt 1 [(0, 6, 4096), (6, 2, 1)])).it d3, 40, by decide +kernel⟩,
   ⟨(rdy.jobAt 1 [(0, 6, 2 ^ 30), (6, 2, 0x8001), (8, 2, 4096), (10, 2, 0), (12, 2, 4095), (16, 8, 7)]), d3, ((rdy.jobAt 1 [(0, 6, 2 ^ 30),
     (6, 2, 0x8001), (8, 2, 4096), (10, 2, 0), (12, 2, 4095), (16, 8, 7)])).it d3, by dsimp only; decide +kernel⟩,
   ⟨{ (rdy.jobAt 1 []).board with launches := [{ run1 15 with waiting := [15], running := [], block := { (run1 15).block with image := 0x4E0000000000, entry := 1, arg1 := 5, arg2 := 6 } }] },
     15,
     { run1 15 with waiting := [15], running := [], block := { (run1 15).block with image := 0x4E0000000000, entry := 1, arg1 := 5, arg2 := 6 } },
     9, 0, 77, by decide +kernel⟩,
   ⟨{ rdy.jobAt 1 [] with launches := [{ run1 15 with waiting := [15], running := [], block := { (run1 15).block with entry := 1, arg1 := 5, arg2 := 6 } }] },
     15, { run1 15 with waiting := [15], running := [], block := { (run1 15).block with entry := 1, arg1 := 5, arg2 := 6 } },
     by decide +kernel, by decide +kernel, .inr ⟨0, by decide +kernel⟩⟩,
   ⟨(rdy.jobAt 1 []).prog 15 [word 1 []] {}, 15, word 1 [], by unfold AtOp; decide +kernel⟩,
   ⟨(rdy.jobAt 1 []).prog 15 [word 1 []] { ending := true }, 15, 1, by decide +kernel⟩,
   ⟨rdy.prog 15 [word 1 []] {}, 15, by decide +kernel⟩⟩

theorem wit_IssueFaults :
  (∃ (s : State) (q : Fin 16), s.mayIssue q = true ∧ ((s.seq q).len ≤ (s.seq q).pc ∨ opcodes.contains (slice (s.curWord q) 127 120) =
    false ∨ (slice (s.curWord q) 127 120 = 0x00 ∧ wordReservedSet 0x00 (s.curWord q) = true))) :=
  ⟨rdy.prog 15 [word 0 [(0, 1)]] {}, 15, by decide +kernel⟩

theorem wit_ScalarResults :
  (∃ (s : State) (q : Fin 16) (w : Nat), AtOp s q 0x00 w) ∧
  (∃ (s : State) (q : Fin 16) (w : Nat), AtOp s q 0x42 w) ∧
  (∃ (s : State) (q : Fin 16) (w : Nat) (v : Nat), AtOp s q 0x40 w ∧ aluFn (slice w 104 101) (s.sreg q (slice w 114 110)) (s.sreg q (slice
    w 109 105)) = some v) ∧
  (∃ (s : State) (q : Fin 16) (w : Nat) (v : Nat), AtOp s q 0x41 w ∧ aluFn (slice w 104 101) (s.sreg q (slice w 114 110)) (slice w 63 0) =
    some v) ∧
  (∃ (s : State) (q : Fin 16) (w : Nat) (l : LoopLevel), AtOp s q 0x45 w ∧ (s.seq q).loops[slice w 1 0]? = some l) ∧
  (∃ (q : Fin 16) (j : Nat) (w : BarAcc) (s : State), Reaches s .QD_SR_SEED q w j) ∧
  (∃ (q : Fin 16) (j : Nat) (w : BarAcc) (s : State), Reaches s .QD_SR_CTR q w j) :=
  ⟨⟨rdy.prog 15 [word 0x00 [], word 0 []] {}, 15, word 0x00 [], by unfold AtOp; decide +kernel⟩,
   ⟨rdy.prog 15 [word 0x42 [(115, 31), (0, (2 ^ 64 - 1))], word 0 []] {}, 15, word 0x42 [(115, 31), (0, (2 ^ 64 - 1))],
     by unfold AtOp; decide +kernel⟩,
   ⟨rdy.prog 15 [word 0x40 [(115, 1), (110, 1), (105, 2), (101, 8)], word 0 []] { sr := [(1, 5), (2, 2 ^ 64 - 1)] }, 15, word 0x40 [(115,
     1), (110, 1), (105, 2), (101, 8)], 0, by unfold AtOp; decide +kernel⟩,
   ⟨rdy.prog 15 [word 0x41 [(115, 1), (110, 2), (101, 2), (0, 2)], word 0 []] { sr := [(1, 5), (2, 2 ^ 64 - 1)] }, 15, word 0x41 [(115, 1),
     (110, 2), (101, 2), (0, 2)], 2 ^ 64 - 2, by unfold AtOp; decide +kernel⟩,
   ⟨rdy.prog 15 [word 0x45 [(115, 3), (0, 1)], word 0 []] { loops := [⟨0, 1, 0, 0⟩, ⟨0, 1, 5, 7⟩] }, 15, word 0x45 [(115, 3), (0, 1)], ⟨0,
     1, 5, 7⟩, by unfold AtOp; decide +kernel⟩,
   ⟨15, 15, acc (2 ^ 64 - 1) 0 8 0, rdy, by unfold Reaches; decide +kernel⟩,
   ⟨15, 15, acc (2 ^ 64 - 1) 0 8 0, rdy, by unfold Reaches; decide +kernel⟩⟩

theorem wit_AluMatches64Bit :
  (∃ (c : _), 0xA < c) :=
  ⟨11, by decide +kernel⟩

theorem wit_ControlAndScalarMemory :
  (∃ (s : State) (q : Fin 16) (w : Nat), (let a := s.addrOf q (slice w 114 110) (slice w 63 0); AtOp s q 0x43 w ∧ a % 8 = 0 ∧ a + 8 ≤ 2 ^
    25 ∧ s.spad.anyBad (spadKey q a) 8 = false)) ∧
  (∃ (s : State) (q : Fin 16) (w : Nat), (let a := s.addrOf q (slice w 114 110) (slice w 63 0); AtOp s q 0x43 w ∧ a % 8 = 0 ∧ a + 8 ≤ 2 ^
    25 ∧ s.spad.anyBad (spadKey q a) 8 = true)) ∧
  (∃ (s : State) (q : Fin 16) (w : Nat), (let a := s.addrOf q (slice w 114 110) (slice w 63 0); AtOp s q 0x44 w ∧ a % 8 = 0 ∧ a + 8 ≤ 2 ^
    25)) ∧
  (∃ (s : State) (q : Fin 16) (w : Nat), (let a := s.addrOf q (slice w 114 110) (slice w 63 0); AtOp s q 0x43 w ∧ a % 8 ≠ 0)) ∧
  (∃ (s : State) (q : Fin 16) (w : Nat), (let a := s.addrOf q (slice w 114 110) (slice w 63 0); AtOp s q 0x44 w ∧ a % 8 ≠ 0)) ∧
  (∃ (s : State) (q : Fin 16) (w : Nat), (let a := s.addrOf q (slice w 114 110) (slice w 63 0); AtOp s q 0x44 w ∧ a % 8 = 0 ∧ 2 ^ 25 < a +
    8)) ∧
  (∃ (s : State) (q : Fin 16) (w : Nat), AtOp s q 0x08 w ∧ slice w 119 117 ≠ 7 ∧ slice w 11 0 < (s.seq q).len ∧ branchTaken (slice w 119
    117) (s.sreg q (slice w 116 112)) (s.sreg q (slice w 111 107)) = true) ∧
  (∃ (s : State) (q : Fin 16) (w : Nat), AtOp s q 0x08 w ∧ slice w 119 117 ≠ 7 ∧ slice w 11 0 < (s.seq q).len ∧ branchTaken (slice w 119
    117) (s.sreg q (slice w 116 112)) (s.sreg q (slice w 111 107)) = false) ∧
  (∃ (s : State) (q : Fin 16) (w : Nat), AtOp s q 0x09 w ∧ (let e := slice w 11 0;
    (let n := if slice w 116 112 = 0 then slice w 63 32 else s.sreg q (slice w 116 112) % 2 ^ 32; n ≠ 0 ∧ (s.seq q).pc < e ∧ e < (s.seq
    q).len ∧ (s.seq q).loops.length < 4))) ∧
  (∃ (s : State) (q : Fin 16) (w : Nat), AtOp s q 0x09 w ∧ (let e := slice w 11 0;
    (let n := if slice w 116 112 = 0 then slice w 63 32 else s.sreg q (slice w 116 112) % 2 ^ 32; n = 0 ∧ (s.seq q).pc < e ∧ e < (s.seq
    q).len))) ∧
  (∃ (s : State) (q : Fin 16) (w : Nat), AtOp s q 0x09 w ∧
    (let n := if slice w 116 112 = 0 then slice w 63 32 else s.sreg q (slice w 116 112) % 2 ^ 32; n ≠ 0 ∧ 4 ≤ (s.seq q).loops.length)) ∧
  (∃ (s : State) (q : Fin 16) (w : Nat), AtOp s q 0x38 w ∧ (s.progCtx q).maySync (slice w 114 97) = true ∧ s.syncOperand q w ≤ s.syncVal
    (slice w 114 97)) ∧
  (∃ (s : State) (q : Fin 16) (w : Nat), AtOp s q 0x38 w ∧ (s.progCtx q).maySync (slice w 114 97) = true ∧ s.syncVal (slice w 114 97) <
    s.syncOperand q w) ∧
  (∃ (s : State) (q : Fin 16) (obj : Nat) (v : Nat) (us : Nat) (since : Nat), (s.seq q).wait = .obj obj v us since ∧ s.quadStopped q =
    false ∧ v ≤ s.syncVal obj) ∧
  (∃ (s : State) (q : Fin 16) (obj : Nat) (v : Nat) (us : Nat) (since : Nat), (s.seq q).wait = .obj obj v us since ∧ s.quadStopped q =
    false ∧ s.syncVal obj < v) ∧
  (∃ (s : State) (q : Fin 16) (obj : Nat) (v : Nat) (us : Nat) (since : Nat), (s.seq q).wait = .obj obj v us since ∧ s.quadStopped q =
    false ∧ us ≠ 0 ∧ (s.seq q).launch ≠ none) ∧
  (∃ (s : State) (q : Fin 16) (obj : Nat) (v : Nat) (us : Nat) (since : Nat), (s.seq q).wait = .obj obj v us since ∧ s.quadStopped q =
    false ∧ us = 0) ∧
  (∃ (s : State) (q : Fin 16) (w : Nat), AtOp s q 0x39 w ∧ evReached ((s.seq q).evVal (slice w 96 93)) (s.syncOperand q w % 2 ^ 32) =
    true) ∧
  (∃ (s : State) (q : Fin 16) (w : Nat), AtOp s q 0x39 w ∧ evReached ((s.seq q).evVal (slice w 96 93)) (s.syncOperand q w % 2 ^ 32) =
    false) ∧
  (∃ (s : State) (q : Fin 16) (w : Nat), (s.progCtx q).maySync (slice w 114 97) = true ∧ (s.seq q).issued = [] ∧ AtOp s q 0x3A w) ∧
  (∃ (s : State) (q : Fin 16) (w : Nat), (s.progCtx q).maySync (slice w 114 97) = true ∧ (s.seq q).issued = [] ∧ AtOp s q 0x3B w) ∧
  (∃ (s : State) (q : Fin 16) (w : Nat), (s.progCtx q).maySync (slice w 114 97) = true ∧ (s.seq q).issued ≠ [] ∧ AtOp s q 0x3A w) ∧
  (∃ (s : State) (q : Fin 16) (w : Nat), (s.progCtx q).maySync (slice w 114 97) = true ∧ (s.seq q).issued ≠ [] ∧ AtOp s q 0x3B w) :=
  ⟨⟨({ rdy with spad := { bytes := [(16 * 2 ^ 25 - 8, 9)] } }).prog 15 [word 0x43 [(115, 2), (110, 1)], word 0 []]
     { sr := [(1, 2 ^ 25 - 8), (2, 77), (3, 2 ^ 25 - 9)] }, 15, word 0x43 [(115, 2), (110, 1)],
     by dsimp only; unfold AtOp; decide +kernel⟩,
   ⟨({ rdy with spad := { bytes := [(16 * 2 ^ 25 - 8, 9)], poison := [(2 ^ 23 - 1, true)] } }).prog 15 [word 0x43 [(115, 2), (110, 1)],
     word 0 []] { sr := [(1, 2 ^ 25 - 8), (2, 77), (3, 2 ^ 25 - 9)] }, 15, word 0x43 [(115, 2), (110, 1)],
     by dsimp only; unfold AtOp; decide +kernel⟩,
   ⟨({ rdy with spad := { bytes := [(16 * 2 ^ 25 - 8, 9)] } }).prog 15 [word 0x44 [(110, 1), (105, 2)], word 0 []]
     { sr := [(1, 2 ^ 25 - 8), (2, 77), (3, 2 ^ 25 - 9)] }, 15, word 0x44 [(110, 1), (105, 2)],
     by dsimp only; unfold AtOp; decide +kernel⟩,
   ⟨rdy.prog 15 [word 0x43 [(115, 2), (110, 3)], word 0 []] { sr := [(1, 2 ^ 25 - 8), (2, 77), (3, 2 ^ 25 - 9)] }, 15, word 0x43 [(115, 2),
     (110, 3)], by dsimp only; unfold AtOp; decide +kernel⟩,
   ⟨rdy.prog 15 [word 0x44 [(110, 3), (105, 2)], word 0 []] { sr := [(1, 2 ^ 25 - 8), (2, 77), (3, 2 ^ 25 - 9)] }, 15, word 0x44 [(110, 3),
     (105, 2)], by dsimp only; unfold AtOp; decide +kernel⟩,
   ⟨rdy.prog 15 [word 0x44 [(110, 1), (105, 2), (0, 8)], word 0 []] { sr := [(1, 2 ^ 25 - 8), (2, 77), (3, 2 ^ 25 - 9)] }, 15, word 0x44
     [(110, 1), (105, 2), (0, 8)], by dsimp only; unfold AtOp; decide +kernel⟩,
   ⟨rdy.prog 15 [word 0x08 [(117, 3), (112, 1), (107, 3), (0, 1)], word 0 []]
     { sr := [(1, 1), (3, 2)], loops := [⟨0, 1, 3, 0⟩, ⟨2, 5, 3, 0⟩] }, 15, word 0x08 [(117, 3), (112, 1), (107, 3), (0, 1)],
     by unfold AtOp; decide +kernel⟩,
   ⟨rdy.prog 15 [word 0x08 [(117, 1), (112, 1), (107, 3), (0, 1)], word 0 []] { sr := [(1, 1), (3, 2)] }, 15, word 0x08 [(117, 1), (112,
     1), (107, 3), (0, 1)], by unfold AtOp; decide +kernel⟩,
   ⟨rdy.prog 15 [word 0x09 [(0, 1), (32, 3)], word 0 []] {}, 15, word 0x09 [(0, 1), (32, 3)], by dsimp only; unfold AtOp; decide +kernel⟩,
   ⟨rdy.prog 15 [word 0x09 [(0, 1), (112, 1)], word 0 []] { sr := [(1, 2 ^ 32)] }, 15, word 0x09 [(0, 1), (112, 1)],
     by dsimp only; unfold AtOp; decide +kernel⟩,
   ⟨rdy.prog 15 [word 0x09 [(0, 1), (32, 3)], word 0 []] { loops := [⟨0, 1, 0, 0⟩, ⟨0, 1, 5, 7⟩, ⟨0, 1, 5, 7⟩, ⟨0, 1, 5, 7⟩] }, 15, word
     0x09 [(0, 1), (32, 3)], by dsimp only; unfold AtOp; decide +kernel⟩,
   ⟨({ rdy with sync := [(9, 5)] }).prog 15 [word 0x38 [(97, 9), (115, 1)], word 0 []] { sr := [(1, 5)] }, 15, word 0x38 [(97, 9), (115,
     1)], by unfold AtOp; decide +kernel⟩,
   ⟨({ rdy with sync := [(9, 5)] }).prog 15 [word 0x38 [(97, 9), (115, 1), (77, 1000)], word 0 []] { sr := [(1, 6)] }, 15, word 0x38 [(97,
     9), (115, 1), (77, 1000)], by unfold AtOp; decide +kernel⟩,
   ⟨({ rdy with sync := [(9, 5)] }).prog 15 [word 0x38 [(97, 9)]] { wait := .obj 9 5 1000 7 }, 15, 9, 5, 1000, 7, by decide +kernel⟩,
   ⟨({ rdy with sync := [(9, 5)] }).prog 15 [word 0x38 [(97, 9)]] { wait := .obj 9 6 1000 7 }, 15, 9, 6, 1000, 7, by decide +kernel⟩,
   ⟨({ rdy with sync := [(9, 5)] }).prog 15 [word 0x38 [(97, 9)]] { wait := .obj 9 6 1000 7 }, 15, 9, 6, 1000, 7, by decide +kernel⟩,
   ⟨({ rdy with sync := [(9, 5)] }).prog 15 [word 0x38 [(97, 9)]] { wait := .obj 9 6 0 7 }, 15, 9, 6, 0, 7, by decide +kernel⟩,
   ⟨rdy.prog 15 [word 0x39 [(93, 15), (0, 7)], word 0 []] { ev := [(15, 7)] }, 15, word 0x39 [(93, 15), (0, 7)],
     by unfold AtOp; decide +kernel⟩,
   ⟨rdy.prog 15 [word 0x39 [(93, 15), (0, 8)], word 0 []] { ev := [(15, 7)] }, 15, word 0x39 [(93, 15), (0, 8)],
     by unfold AtOp; decide +kernel⟩,
   ⟨({ rdy with sync := [(9, 5)] }).prog 15 [word 0x3A [(97, 9), (0, 9)], word 0 []] {}, 15, word 0x3A [(97, 9), (0, 9)],
     by unfold AtOp; decide +kernel⟩,
   ⟨({ rdy with sync := [(9, 5)] }).prog 15 [word 0x3B [(97, 9), (0, (2 ^ 64 - 1))], word 0 []] {}, 15, word 0x3B [(97, 9), (0, (2 ^ 64 -
     1))], by unfold AtOp; decide +kernel⟩,
   ⟨({ rdy with sync := [(9, 5)] }).prog 15 [word 0x3A [(97, 9)], word 0 []] { issued := [{ id := 0 }] }, 15, word 0x3A [(97, 9)],
     by unfold AtOp; decide +kernel⟩,
   ⟨({ rdy with sync := [(9, 5)] }).prog 15 [word 0x3B [(97, 9)], word 0 []] { issued := [{ id := 0 }] }, 15, word 0x3B [(97, 9)],
     by unfold AtOp; decide +kernel⟩⟩

theorem wit_ArrayInstructionsIssue :
  (∃ (s : State) (q : Fin 16) (w : Nat) (i : Nat), wordArrays w = (i, 1) ∧ i < 64 ∧ 16 ≤ (s.arr (64 * q + i)).queue.length ∧ AtOp s q 0x20
    w) ∧
  (∃ (s : State) (q : Fin 16) (w : Nat) (i : Nat), wordArrays w = (i, 1) ∧ i < 64 ∧ 16 ≤ (s.arr (64 * q + i)).queue.length ∧ AtOp s q 0x48
    w ∧ slice w 107 104 ≤ 2 ∧ (slice w 107 104 = 0 → slice w 103 72 = 0)) ∧
  (∃ (s : State) (q : Fin 16) (w : Nat) (i : Nat), wordArrays w = (i, 1) ∧ i < 64 ∧ (s.arr (64 * q + i)).queue.length < 16 ∧ AtOp s q 0x20
    w) ∧
  (∃ (s : State) (q : Fin 16) (w : Nat) (i : Nat), wordArrays w = (i, 1) ∧ i < 64 ∧ (s.arr (64 * q + i)).queue.length < 16 ∧ AtOp s q 0x48
    w ∧ slice w 107 104 ≤ 2 ∧ (slice w 107 104 = 0 → slice w 103 72 = 0)) ∧
  (∃ (s : State) (q : Fin 16) (w : Nat) (i : Nat), wordArrays w = (i, 1) ∧ i < 64 ∧ (s.arr (64 * q + i)).queue.length < 16 ∧ AtOp s q 0x10
    w ∧ (let fmt := slice w 107 103; (let red := slice w 95 88 + 1; (let e0 := s.addrOf q (slice w 87 83) (slice w 47 24); isTileFmt fmt
    = true ∧ isBlock fmt = false ∧ bitAt w 101 = false ∧ red ≤ deepest fmt false ∧ (∀ m ≤ slice w 100 96, inSpad ((e0 + m * (if slice w
    63 48 = 0 then rowBytes fmt red else slice w 63 48)) % 2 ^ 64) (rowBytes fmt red) = true))))) ∧
  (∃ (s : State) (q : Fin 16) (w : Nat) (i : Nat) (l : _) (a : _), wordArrays w = (i, 1) ∧ i < 64 ∧ (s.arr (64 * q + i)).queue.length < 16
    ∧ AtOp s q 0x18 w ∧ (if bitAt w 101 then (s.arr (64 * q + i)).infoB else (s.arr (64 * q + i)).infoA) = some l ∧
    (let fmt := slice w 107 103; (let b := s.addrOf q (slice w 89 85) (slice w 47 0); (let n := s.sreg q (slice w 84 80) % 2 ^ 32;
    streamRefused fmt (bitAt w 102) (slice w 71 48) (some l) = false ∧ l.quarter = false ∧ b % 2048 = 0 ∧ 0 < n ∧
    (let len := streamBytes fmt false [n] (slice w 71 48); s.copyEndOk (s.progCtx q) 0 b len false = true ∧ s.memEnd b len = .here (.mem
    a)))))) ∧
  (∃ (s : State) (q : Fin 16) (w : Nat) (i : Nat) (l : _) (node : _) (off : _) (key : _), wordArrays w = (i, 1) ∧ i < 64 ∧ (s.arr (64 * q
    + i)).queue.length < 16 ∧ AtOp s q 0x18 w ∧ (if bitAt w 101 then (s.arr (64 * q + i)).infoB else (s.arr (64 * q + i)).infoA) = some
    l ∧ (let fmt := slice w 107 103; (let b := s.addrOf q (slice w 89 85) (slice w 47 0); (let n := s.sreg q (slice w 84 80) % 2 ^ 32;
    streamRefused fmt (bitAt w 102) (slice w 71 48) (some l) = false ∧ l.quarter = false ∧ b % 2048 = 0 ∧ 0 < n ∧
    (let len := streamBytes fmt false [n] (slice w 71 48); s.copyEndOk (s.progCtx q) 0 b len false = true ∧ s.memEnd b len = .remote
    node off key ∧ s.excludedNode node = false))))) ∧
  (∃ (s : State) (q : Fin 16) (w : Nat) (i : Nat), wordArrays w = (i, 1) ∧ i < 64 ∧ (s.arr (64 * q + i)).queue.length < 16 ∧ AtOp s q 0x21
    w ∧ (let fmt := slice w 107 103; (let n := slice w 89 80 + 1; (let d0 := s.addrOf q (slice w 79 75) (slice w 39 16); isTarget fmt =
    true ∧ isBlock fmt = false ∧ slice w 64 60 + slice w 59 55 + 1 ≤ 32 ∧ (∀ m ≤ slice w 59 55, inSpad ((d0 + m * slice w 54 40) % 2 ^
    64) (rowBytes fmt n) = true))))) :=
  ⟨⟨(rdy.setArr 1023 { queue := List.replicate 16 (.lamp 0 0) }).prog 15 [word 0x20 [(114, 63)], word 0 []] {}, 15, word 0x20 [(114, 63)],
     63, by unfold AtOp; decide +kernel⟩,
   ⟨(rdy.setArr 1023 { queue := List.replicate 16 (.lamp 0 0) }).prog 15 [word 0x48 [(114, 63), (104, 2), (72, 9)], word 0 []] {}, 15, word
     0x48 [(114, 63), (104, 2), (72, 9)], 63, by unfold AtOp; decide +kernel⟩,
   ⟨(rdy).prog 15 [word 0x20 [(114, 63), (90, 1023), (80, 1023)], word 0 []] {}, 15, word 0x20 [(114, 63), (90, 1023), (80, 1023)], 63,
     by unfold AtOp; decide +kernel⟩,
   ⟨(rdy).prog 15 [word 0x48 [(114, 63), (104, 2), (72, 9)], word 0 []] {}, 15, word 0x48 [(114, 63), (104, 2), (72, 9)], 63,
     by unfold AtOp; decide +kernel⟩,
   ⟨(rdy).prog 15 [word 0x10 [(114, 63), (103, 3), (102, 1), (96, 31), (88, 31), (48, 32), (83, 1)], word 0 []]
     { sr := [(1, 2 ^ 25 - 1024)] }, 15, word 0x10 [(114, 63), (103, 3), (102, 1), (96, 31), (88, 31), (48, 32), (83, 1)], 63,
     by dsimp only; unfold AtOp; decide +kernel⟩,
   ⟨(rdy.setArr 1023 { infoA := some { id := 4, fmt := 3, red := 32, quarter := false, rows := [32] } }).prog 15 [word 0x18 [(114, 63),
     (103, 3), (80, 1), (0, 2048)], word 0 []] { sr := [(1, 40)] }, 15, word 0x18 [(114, 63), (103, 3), (80, 1), (0, 2048)], 63,
     { id := 4, fmt := 3, red := 32, quarter := false, rows := [32] }, 2048, by dsimp only; unfold AtOp; decide +kernel⟩,
   ⟨(rdy.board.setArr 1023 { infoA := some { id := 4, fmt := 3, red := 32, quarter := false, rows := [32] } }).prog 15 [word 0x18
     [(114,63),(103,3),(85,2),(80,1),(0,2048)]] { sr := [(1, 40), (2, 0x4E0000000000)] }, 15, word 0x18
     [(114,63),(103,3),(85,2),(80,1),(0,2048)], 63, { id := 4, fmt := 3, red := 32, quarter := false, rows := [32] }, 9, 2048, 77,
     by dsimp only; unfold AtOp; decide +kernel⟩,
   ⟨(rdy).prog 15 [word 0x21 [(114, 63), (103, 1), (102, 1), (80, 3), (55, 31), (40, 8), (75, 1)], word 0 []]
     { sr := [(1, 2 ^ 25 - 256)] }, 15, word 0x21 [(114, 63), (103, 1), (102, 1), (80, 3), (55, 31), (40, 8), (75, 1)], 63,
     by dsimp only; unfold AtOp; decide +kernel⟩⟩

theorem wit_Mxint8Codes :
  (∃ (c : _), c < 256) ∧
  (∃ (rd : Nat → Rounding) (xs : List Machine.Num) (c : _), c ∈ (blockOut 11 rd xs).codes) :=
  ⟨⟨128, by decide +kernel⟩,
   ⟨fun _ => .nearest, [.fin true 255 0, .fin true 127 1], 129, by decide +kernel⟩⟩

theorem wit_VectorResults :
  (∃ (s : State) (q : Fin 16) (w : Nat), (s.seq q).vq.length < 32 ∧ (let n := slice w 81 72 + 1; AtOp s q 0x28 w ∧ s.vecMem q w = none ∧
    isBlock (slice w 98 94) = false ∧ (let a := spadKey q (s.addrOf q (slice w 103 99) (slice w 63 40)); (s.spad.readOut a (rowBytes
    (slice w 98 94) n)).poisoned = false))) ∧
  (∃ (s : State) (q : Fin 16) (w : Nat), (s.seq q).vq.length < 32 ∧ AtOp s q 0x29 w ∧ s.vecMem q w = none ∧ isBlock (slice w 98 94) =
    false) ∧
  (∃ (s : State) (q : Fin 16) (w : Nat), (s.seq q).vq.length < 32 ∧ AtOp s q 0x2A w ∧ slice w 83 82 = 0 ∧ slice w 86 84 = 0) ∧
  (∃ (s : State) (q : Fin 16) (w : Nat), (s.seq q).vq.length < 32 ∧ AtOp s q 0x2A w ∧ slice w 83 82 = 0 ∧ slice w 86 84 = 1) ∧
  (∃ (s : State) (q : Fin 16) (w : Nat), (s.seq q).vq.length < 32 ∧ AtOp s q 0x2A w ∧ slice w 83 82 = 0 ∧ 2 ≤ slice w 86 84 ∧ slice w 86
    84 ≤ 5) ∧
  (∃ (s : State) (q : Fin 16) (w : Nat), (s.seq q).vq.length < 32 ∧ AtOp s q 0x2B w ∧ slice w 86 84 = 0) ∧
  (∃ (s : State) (q : Fin 16) (w : Nat), (s.seq q).vq.length < 32 ∧ AtOp s q 0x2B w ∧ slice w 86 84 = 1) ∧
  (∃ (s : State) (q : Fin 16) (w : Nat), (s.seq q).vq.length < 32 ∧ AtOp s q 0x2C w ∧ slice w 86 84 = 0) ∧
  (∃ (s : State) (q : Fin 16) (w : Nat), (s.seq q).vq.length < 32 ∧ AtOp s q 0x2C w ∧ slice w 86 84 = 2 ∧ 0 < slice w 39 32 ∧ slice w 39
    32 ≤ 64) ∧
  (∃ (s : State) (q : Fin 16) (w : Nat), (s.seq q).vq.length < 32 ∧ (let vd := slice w 119 116; (let va := slice w 115 112; AtOp s q 0x2C
    w ∧ slice w 86 84 = 3 ∧ vd ≠ va))) :=
  ⟨⟨({ rdy with spad := { bytes := [(16 * 2 ^ 25 - 8, 9), (16 * 2 ^ 25 - 7, 0x40)] } }).prog 15 [word 0x28 [(116, 15), (112, 14), (94, 1),
     (72, 2), (99, 1)], word 0 []] { sr := [(1, 2 ^ 25 - 8)] }, 15, word 0x28 [(116, 15), (112, 14), (94, 1), (72, 2), (99, 1)],
     by dsimp only; unfold AtOp; decide +kernel⟩,
   ⟨({ rdy with vreg := SMap.setRun 0 [] ((15 * 16 + 14) * 1024) [0x3F800000, 0xC0000000, 0x7FC00000] }).prog 15 [word 0x29 [(116, 15),
     (112, 14), (94, 1), (72, 2), (99, 1)], word 0 []] { sr := [(1, 2 ^ 25 - 8)] }, 15, word 0x29 [(116, 15), (112, 14), (94, 1), (72,
     2), (99, 1)], by unfold AtOp; decide +kernel⟩,
   ⟨({ rdy with vreg := SMap.setRun 0 [] ((15 * 16 + 14) * 1024) [0x3F800000, 0xC0000000, 0x7FC00000] }).prog 15 [word 0x2A [(116, 15),
     (112, 14), (72, 2)], word 0 []] {}, 15, word 0x2A [(116, 15), (112, 14), (72, 2)], by unfold AtOp; decide +kernel⟩,
   ⟨({ rdy with vreg := SMap.setRun 0 [] ((15 * 16 + 14) * 1024) [0x3F800000, 0xC0000000, 0x7FC00000] }).prog 15 [word 0x2A [(116, 15),
     (112, 14), (84, 1), (72, 2)], word 0 []] {}, 15, word 0x2A [(116, 15), (112, 14), (84, 1), (72, 2)],
     by unfold AtOp; decide +kernel⟩,
   ⟨({ rdy with vreg := SMap.setRun 0 [] ((15 * 16 + 14) * 1024) [0x3F800000, 0xC0000000, 0x7FC00000] }).prog 15 [word 0x2A [(116, 15),
     (112, 14), (84, 3), (72, 2)], word 0 []] {}, 15, word 0x2A [(116, 15), (112, 14), (84, 3), (72, 2)],
     by unfold AtOp; decide +kernel⟩,
   ⟨({ rdy with vreg := SMap.setRun 0 [] ((15 * 16 + 14) * 1024) [0x3F800000, 0xC0000000, 0x7FC00000] }).prog 15 [word 0x2B [(116, 15),
     (112, 14), (72, 2)], word 0 []] {}, 15, word 0x2B [(116, 15), (112, 14), (72, 2)], by unfold AtOp; decide +kernel⟩,
   ⟨({ rdy with vreg := SMap.setRun 0 [] ((15 * 16 + 14) * 1024) [0x3F800000, 0xC0000000, 0x7FC00000] }).prog 15 [word 0x2B [(116, 15),
     (112, 14), (84, 1), (72, 2)], word 0 []] {}, 15, word 0x2B [(116, 15), (112, 14), (84, 1), (72, 2)],
     by unfold AtOp; decide +kernel⟩,
   ⟨({ rdy with vreg := SMap.setRun 0 [] ((15 * 16 + 14) * 1024) [0x3F800000, 0xC0000000, 0x7FC00000] }).prog 15 [word 0x2C [(116, 15),
     (112, 14), (72, 2)], word 0 []] { topkSize := 2, topk := [(0x3F000000, 7)] }, 15, word 0x2C [(116, 15), (112, 14), (72, 2)],
     by unfold AtOp; decide +kernel⟩,
   ⟨({ rdy with vreg := SMap.setRun 0 [] ((15 * 16 + 14) * 1024) [0x3F800000, 0xC0000000, 0x7FC00000] }).prog 15 [word 0x2C [(116, 15),
     (112, 14), (84, 2), (32, 64)], word 0 []] {}, 15, word 0x2C [(116, 15), (112, 14), (84, 2), (32, 64)],
     by unfold AtOp; decide +kernel⟩,
   ⟨({ rdy with vreg := SMap.setRun 0 [] ((15 * 16 + 14) * 1024) [0x3F800000, 0xC0000000, 0x7FC00000] }).prog 15 [word 0x2C [(116, 15),
     (112, 14), (84, 3), (72, 2)], word 0 []] { topkSize := 2, topk := [(0x3F000000, 7)] }, 15, word 0x2C [(116, 15), (112, 14), (84,
     3), (72, 2)], by dsimp only; unfold AtOp; decide +kernel⟩⟩

theorem wit_TopkStaysRanked :
  (∃ (k : Nat) (buf : List (Nat × Nat)), buf.length ≤ k ∧ buf.Pairwise (fun a b => topAbove b a = false)) :=
  ⟨2, [(0x40000000, 3), (0x3F800000, 1)], by decide +kernel⟩

theorem wit_CopyEngine :
  (∃ (s : State) (q : Fin 16) (id : Nat) (rest : List Nat), (s.seq q).vq = id :: rest ∧ s.quadStopped q = false) ∧
  (∃ (s : State) (q : Fin 16) (w : Nat), AtOp s q 0x30 w ∧
    (let n := if slice w 97 93 = 0 then slice w 87 64 else s.sreg q (slice w 97 93);
    (let a := s.addrOf q (slice w 107 103) (slice w 63 32); (let b := s.addrOf q (slice w 102 98) (slice w 31 0); 64 ≤ n ∧ n ≤ 2 ^ 30 ∧
    n % 64 = 0 ∧ a % 64 = 0 ∧ b % 64 = 0 ∧ slice w 119 118 ∈ [1, 2] ∧ slice w 117 116 ∈ [1, 2] ∧ s.copyEndOk (s.progCtx q) (slice w 119
    118) a n false = true ∧ s.copyEndOk (s.progCtx q) (slice w 117 116) b n true = true ∧ (s.seq q).copies = [])))) ∧
  (∃ (s : State) (q : Fin 16) (c : QCopyOp), (s.seq q).copies = [c] ∧ c.started = false ∧ s.quadStopped q = false ∧ (c.srcSpace = 1 ∨
    c.srcSpace = 3) ∧ (c.dstSpace = 1 ∨ c.dstSpace = 3)) :=
  ⟨⟨rdy.prog 15 [word 0 []] { vq := [4, 6], issued := [{ id := 4, ev := some 3 }, { id := 6 }] }, 15, 4, [6], by decide +kernel⟩,
   ⟨rdy.prog 15 [word 0x30 [(118, 1), (116, 2), (64, 2 ^ 16), (32, 64), (0, 128)], 0] {}, 15, word 0x30 [(118, 1), (116, 2), (64, 2 ^ 16),
     (32, 64), (0, 128)], by dsimp only; unfold AtOp; decide +kernel⟩,
   ⟨({ rdy with spad := { bytes := [(16 * 2 ^ 25 - 8, 9)] } }).prog 15 [word 0 []]
     { copies := [{ id := 0, srcSpace := 1, srcQ := 15, src := 2 ^ 25 - 64, dstSpace := 3, dstQ := 14, dst := 64, len := 64 }] }, 15,
     { id := 0, srcSpace := 1, srcQ := 15, src := 2 ^ 25 - 64, dstSpace := 3, dstQ := 14, dst := 64, len := 64 }, by decide +kernel⟩⟩

theorem wit_ArrayEvents :
  (∃ (s : State) (a : Fin 1024) (x : Stream), s.quadStopped (quadOf a) = false ∧ (s.arr a).orderOwed = 0 ∧ (s.arr a).stream = some x ∧
    (s.arr a).rowReady x = true ∧ x.exhausted = false ∧ s.beatHeld x = false ∧ (s.arr a).creditFor x x.creditNeed = true ∧
    s.burstAllowed (quadOf a) = true) ∧
  (∃ (s : State) (t : State) (a : Fin 1024) (fed : Bool), (0 < (s.arr a).orderOwed ∨ (s.arr a).stream = none) ∧ exec (.beatAdmit a fed) s
    = .next t) ∧
  (∃ (s : State) (a : Fin 1024) (c : Col) (rest : List Col) (x : Tile), s.quadStopped (quadOf a) = false ∧ (s.arr a).cols = c :: rest ∧
    (s.arr a).colWaits c = false ∧ (s.arr a).tile c.tile = some x ∧ 32 ≤ x.loaded ∧ (∀ p ∈ c.rows x, p.1 < 32)) ∧
  (∃ (s : State) (a : Fin 1024) (id : Nat) (x : Tile), s.quadStopped (quadOf a) = false ∧ (s.arr a).loading = some id ∧ (s.arr a).tile id
    = some x ∧ x.loaded < 31 ∧ (s.arr a).queue = []) ∧
  (∃ (s : State) (a : Fin 1024) (d : InitOp) (rest : List InitOp), s.quadStopped (quadOf a) = false ∧ (s.arr a).inits = d :: rest ∧ (s.arr
    a).drains = [] ∧ (s.arr a).cols = [] ∧ (s.arr a).stream = none) ∧
  (∃ (s : State) (a : Fin 1024) (d : DrainOp) (rest : List DrainOp), s.quadStopped (quadOf a) = false ∧ (s.arr a).drains = d :: rest ∧
    (s.arr a).writePending d.seq ((d.first + d.next) % 1024) = false) ∧
  (∃ (s : State) (a : Fin 1024), (s.arr a).drains ≠ []) :=
  ⟨⟨({ rdy.setArr 1023 { tiles := [{ id := 4, bufB := false, fmt := 3, quarter := false, red := 32, rows := [32], elemBase := 0, scaleBase := 0, rowStride := 32, loaded := 32, data := [(0, some { bytes := bytesOf 32 [(0, 1, 0x38)], scales := [], bad := false })] }], stream := some { id := 6, seq := 3, tile := 4, fmt := 3, cmp := false, add := false, colBase := 1023, counts := [5], base := 2048, bursts := 0, quarter := false, dual := false, rows := [32] } } with mem := { rdy.mem with dram := { bytes := [(5 * 2048, 0x38)] } } }),
     1023,
     { id := 6, seq := 3, tile := 4, fmt := 3, cmp := false, add := false, colBase := 1023, counts := [5], base := 2048, bursts := 0, quarter := false, dual := false, rows := [32] },
     by decide +kernel⟩,
   ⟨rdy.setArr 1023
     { orderOwed := 2, stream := some { id := 6, seq := 3, tile := 4, fmt := 3, cmp := false, add := false, colBase := 1023, counts := [5], base := 2048, bursts := 0, quarter := false, dual := false, rows := [32] } },
     (outState (exec (.beatAdmit 1023 true) (rdy.setArr 1023
     { orderOwed := 2, stream := some { id := 6, seq := 3, tile := 4, fmt := 3, cmp := false, add := false, colBase := 1023, counts := [5], base := 2048, bursts := 0, quarter := false, dual := false, rows := [32] } }))
     ((rdy.setArr 1023
     { orderOwed := 2, stream := some { id := 6, seq := 3, tile := 4, fmt := 3, cmp := false, add := false, colBase := 1023, counts := [5], base := 2048, bursts := 0, quarter := false, dual := false, rows := [32] } }))),
     1023, true, by decide +kernel, outState_eq (by decide +kernel)⟩,
   ⟨({ rdy.setArr 1023 { tiles := [{ id := 4, bufB := false, fmt := 3, quarter := false, red := 32, rows := [32], elemBase := 0, scaleBase := 0, rowStride := 32, loaded := 32, data := [(0, some { bytes := bytesOf 32 [(0, 1, 0x38)], scales := [], bad := false })] }], cols := [{ id := 6, seq := 3, tile := 4, fmt := 3, add := true, entry := 1023, sub := none, lower := false, bytes := bytesOf 32 [(0, 1, 0x40)], scales := [], bad := false }] } with acc := [(accKey 1023 0 1023, 0x3F800000)] }),
     1023,
     { id := 6, seq := 3, tile := 4, fmt := 3, add := true, entry := 1023, sub := none, lower := false, bytes := bytesOf 32 [(0, 1, 0x40)], scales := [], bad := false },
     [],
     { id := 4, bufB := false, fmt := 3, quarter := false, red := 32, rows := [32], elemBase := 0, scaleBase := 0, rowStride := 32, loaded := 32, data := [(0, some { bytes := bytesOf 32 [(0, 1, 0x38)], scales := [], bad := false })] },
     by decide +kernel⟩,
   ⟨rdy.setArr 1023
     { loading := some 4, tiles := [{ id := 4, bufB := false, fmt := 3, quarter := false, red := 32, rows := [32], elemBase := 0, scaleBase := 0, rowStride := 32, loaded := 30, data := [(0, some { bytes := bytesOf 32 [(0, 1, 0x38)], scales := [], bad := false })] }] },
     1023, 4,
     { id := 4, bufB := false, fmt := 3, quarter := false, red := 32, rows := [32], elemBase := 0, scaleBase := 0, rowStride := 32, loaded := 30, data := [(0, some { bytes := bytesOf 32 [(0, 1, 0x38)], scales := [], bad := false })] },
     by decide +kernel⟩,
   ⟨({ rdy.setArr 1023 { inits := [{ id := 5, seq := 1, first := 1020, count := 6, next := 5 }] } with acc := [(accKey 1023 0 1, 7), (accKey 1023 31 1, 8)] }),
     1023, { id := 5, seq := 1, first := 1020, count := 6, next := 5 }, [], by decide +kernel⟩,
   ⟨({ rdy.setArr 1023 { drains := [{ id := 5, seq := 1, fmt := 1, stoch := false, sat := false, first := 1023, count := 2, rowFirst := 31, rows := 1, dst := 64, scaleDst := 0, rowStride := 64, number := 0, seed := 0, next := 1 }] } with acc := [(accKey 1023 31 0, 0x3F800000)] }),
     1023,
     { id := 5, seq := 1, fmt := 1, stoch := false, sat := false, first := 1023, count := 2, rowFirst := 31, rows := 1, dst := 64, scaleDst := 0, rowStride := 64, number := 0, seed := 0, next := 1 },
     [], by decide +kernel⟩,
   ⟨rdy.setArr 1023
     { drains := [{ id := 5, seq := 1, fmt := 1, stoch := false, sat := false, first := 1023, count := 2, rowFirst := 31, rows := 1, dst := 64, scaleDst := 0, rowStride := 64, number := 0, seed := 0, next := 1 }] },
     1023, by decide +kernel⟩⟩

theorem wit_GraphRuns :
  (∃ (w : BarAcc) (s : State), Reaches s .HUB_GRAPH_STORE 0 w 0 ∧ w.touches F.HUB_GRAPH_STORE_base_mib = true ∧ s.setupLocked = false ∧
    (s.graphs.any fun g => g.2.held) = false) ∧
  (∃ (w : BarAcc) (s : State), Reaches s .HUB_GRAPH_STORE 0 w 0 ∧ w.touches F.HUB_GRAPH_STORE_base_mib = true ∧ s.setupLocked = false ∧
    (s.graphs.any fun g => g.2.held) = true) ∧
  (∃ (w : BarAcc) (s : State), Reaches s .HUB_GRAPH_STORE 0 w 0 ∧ w.touches F.HUB_GRAPH_STORE_base_mib = true ∧ s.setupLocked = true) ∧
  (∃ (s : State) (w : Work) (it : Item) (node : _) (off : _) (key : _), s.fresh w 0x02 = some it ∧ (let image := fieldAt it.payload 0 6;
    (let g := fieldAt it.payload 6 1; image % 64 = 0 ∧ g < 64 ∧ fieldAt it.payload 7 1 < 2 ∧ (s.graph g).work = none ∧ s.quiescing =
    false ∧ s.stopActive = false ∧ s.copyEndOk it.ctx 0 image 64 false = true ∧ s.memEnd image 64 = .remote node off key ∧
    s.excludedNode node = false ∧ (s.graph g).fetch = none))) ∧
  (∃ (s : State) (w : Work) (it : Item) (h : ReadOut), s.fresh w 0x02 = some it ∧ (let image := fieldAt it.payload 0 6;
    (let g := fieldAt it.payload 6 1; image % 64 = 0 ∧ g < 64 ∧ fieldAt it.payload 7 1 < 2 ∧ (s.graph g).work = none ∧ s.quiescing =
    false ∧ s.stopActive = false ∧ s.copyEndOk it.ctx 0 image 64 false = true ∧ s.graphImage g w it.since image 64 = .ok h ∧ h.poisoned
    = false ∧ graphHeaderOk h.bytes = true ∧ (s.graph g).held = true ∧ (s.graph g).image = image ∧ (s.graph g).nodes = fieldAt h.bytes 2
    2 ∧ fieldAt it.payload 7 1 = 0))) ∧
  (∃ (s : State) (w : Work) (it : Item) (h : ReadOut), s.fresh w 0x02 = some it ∧ (let image := fieldAt it.payload 0 6;
    (let g := fieldAt it.payload 6 1; image % 64 = 0 ∧ g < 64 ∧ fieldAt it.payload 7 1 < 2 ∧ (s.graph g).work = none ∧ s.quiescing =
    false ∧ s.stopActive = false ∧ s.copyEndOk it.ctx 0 image 64 false = true ∧ s.graphImage g w it.since image 64 = .ok h ∧ h.poisoned
    = false ∧ graphHeaderOk h.bytes = false))) ∧
  (∃ (s : State) (g : Fin 64) (node : Fin 1024) (w : Work) (i : GInst), (s.graph g).work = some w ∧ (s.graph g).candidate node = some i ∧
    s.quiescing = false ∧ s.stopActive = false ∧ s.unitFrozen 0x30 = false ∧ (let n := s.nodeBytes g node; (fieldAt n 4 4 = 0xFFFFFFFF ∨
    (fieldAt n 8 8 + i.iter * fieldAt n 20 4) % 2 ^ 64 ≤ s.syncVal (fieldAt n 4 4)) ∧ fieldAt n 0 1 < 5)) ∧
  (∃ (s : State) (g : Fin 64) (node : Fin 1024) (i : GInst), ((s.graph g).insts.find? fun i => i.node == node.val && i.phase == .ended) =
    some i) :=
  ⟨⟨acc 200 0 4 0, rdy, by unfold Reaches; decide +kernel⟩,
   ⟨acc 200 0 4 0, { rdy with graphs := [(63, { held := true })] }, by unfold Reaches; decide +kernel⟩,
   ⟨acc 200 0 4 0, rdy.with [(F.HUB_SETUP_LOCK_locked, 0, 1)], by unfold Reaches; decide +kernel⟩,
   ⟨((rdy.jobAt 2 [(0, 6, 0x4E0000000000), (6, 1, 63)])).board, d3, (((rdy.jobAt 2 [(0, 6, 0x4E0000000000), (6, 1, 63)])).board).it d3, 9,
     0, 77, by dsimp only; decide +kernel⟩,
   ⟨{ (rdy.jobAt 2 [(0, 6, 64), (6, 1, 63), (8, 8, 77)]) with graphs := [(63, { held := true, image := 64, nodes := 2, places := [0, 1], iterLimit := 4 })], mem := { rdy.mem with dram := { bytes := [(64, 1), (66, 2), (68, 9)] } } },
     d3,
     ({ (rdy.jobAt 2 [(0, 6, 64), (6, 1, 63), (8, 8, 77)]) with graphs := [(63, { held := true, image := 64, nodes := 2, places := [0, 1], iterLimit := 4 })], mem := { rdy.mem with dram := { bytes := [(64, 1), (66, 2), (68, 9)] } } }).it
     d3,
     ({ (rdy.jobAt 2 [(0, 6, 64), (6, 1, 63), (8, 8, 77)]) with graphs := [(63, { held := true, image := 64, nodes := 2, places := [0, 1], iterLimit := 4 })], mem := { rdy.mem with dram := { bytes := [(64, 1), (66, 2), (68, 9)] } } }).memRead
     64 64, by dsimp only; decide +kernel⟩,
   ⟨{ (rdy.jobAt 2 [(0, 6, 64), (6, 1, 63), (8, 8, 77)]) with graphs := [(63, { held := true, image := 64, nodes := 2, places := [0, 1], iterLimit := 4 })], mem := { rdy.mem with dram := { bytes := [(64, 1), (66, 2), (68, 9), (90, 1)] } } },
     d3,
     ({ (rdy.jobAt 2 [(0, 6, 64), (6, 1, 63), (8, 8, 77)]) with graphs := [(63, { held := true, image := 64, nodes := 2, places := [0, 1], iterLimit := 4 })], mem := { rdy.mem with dram := { bytes := [(64, 1), (66, 2), (68, 9), (90, 1)] } } }).it
     d3,
     ({ (rdy.jobAt 2 [(0, 6, 64), (6, 1, 63), (8, 8, 77)]) with graphs := [(63, { held := true, image := 64, nodes := 2, places := [0, 1], iterLimit := 4 })], mem := { rdy.mem with dram := { bytes := [(64, 1), (66, 2), (68, 9), (90, 1)] } } }).memRead
     64 64, by dsimp only; decide +kernel⟩,
   ⟨{ rdy.setGraph 63 { held := true, nodes := 2, places := [0, 1], iterLimit := 4, work := some d3, insts := [{ node := 1, iter := 2 }] } with hubsp := { bytes := [(64, 3), (68, 9)] }, sync := [(9, 5)] },
     63, 1, d3, { node := 1, iter := 2 }, by dsimp only; decide +kernel⟩,
   ⟨{ rdy.setGraph 63 { held := true, nodes := 2, places := [0, 1], iterLimit := 4, work := some d3, insts := [{ node := 1, iter := 2, phase := .ended, result := some ⟨.ok, 0⟩ }] } with hubsp := { bytes := [(64, 3), (80, 9), (88, 4)] }, sync := [(9, 5)] },
     63, 1, { node := 1, iter := 2, phase := .ended, result := some ⟨.ok, 0⟩ }, by decide +kernel⟩⟩

theorem wit_HubCopies :
  (∃ (s : State) (w : Work) (it : Item) (d : _), s.fresh w 0x03 = some it ∧ copyFormat false it.payload = some d) ∧
  (∃ (s : State) (w : Work) (it : Item), s.fresh w 0x03 = some it ∧ (let src := fieldAt it.payload 0 8;
    (let dst := fieldAt it.payload 8 8; (let len := fieldAt it.payload 16 8; copyFormat false it.payload = none ∧ fieldAt it.payload 24
    1 = 2 ∧ fieldAt it.payload 25 1 = 2 ∧ (it.ctx.mayHub src len && it.ctx.mayHub dst len) = false)))) ∧
  (∃ (s : State) (w : Work) (it : Item) (e : Nat), s.fresh w 0x03 = some it ∧ (let src := fieldAt it.payload 0 8;
    (let dst := fieldAt it.payload 8 8; (let len := fieldAt it.payload 16 8; copyFormat false it.payload = none ∧ fieldAt it.payload 24
    1 = 2 ∧ fieldAt it.payload 25 1 = 2 ∧ it.ctx.mayHub src len = true ∧ it.ctx.mayHub dst len = true ∧ s.freeEngine it.ctxId = some e ∧
    s.copyAhead w = false ∧ s.quiescing = false ∧ s.stopActive = false ∧ (s.hubsp.readOut src len).poisoned = false)))) ∧
  (∃ (s : State) (w : Work) (it : Item) (data : List Byte), s.fresh w 0x03 = some it ∧ (let src := fieldAt it.payload 0 8;
    (let dst := fieldAt it.payload 8 8; (let len := fieldAt it.payload 16 8; copyFormat false it.payload = none ∧ s.hubEndOk it.ctx 1
    src len false = true ∧ s.hubEndOk it.ctx (fieldAt it.payload 25 1) dst len true = true ∧ fieldAt it.payload 24 1 = 1 ∧ data.length ≠
    len)))) ∧
  (∃ (s : State) (w : Work) (it : Item) (e : Nat), s.fresh w 0x04 = some it ∧ copyFormat true it.payload = none ∧ fieldAt it.payload 25 1
    = 2 ∧ (let dst := fieldAt it.payload 8 8; (let len := fieldAt it.payload 16 8; it.ctx.mayHub dst len = true ∧ s.freeEngine it.ctxId
    = some e ∧ s.copyAhead w = false ∧ s.quiescing = false ∧ s.stopActive = false))) :=
  ⟨⟨{ (rdy.jobAt 3 [(24, 1, 2), (25, 1, 2)]) with hubsp := { bytes := [(5, 7), (127, 9)] } }, d3,
     ({ (rdy.jobAt 3 [(24, 1, 2), (25, 1, 2)]) with hubsp := { bytes := [(5, 7), (127, 9)] } }).it d3, 48, by decide +kernel⟩,
   ⟨{ (rdy.jobAt 3 [(0, 8, 2 ^ 27), (8, 8, 64), (16, 8, 64), (24, 1, 2), (25, 1, 2)]) with hubsp := { bytes := [(5, 7), (127, 9)] } }, d3,
     ({ (rdy.jobAt 3 [(0, 8, 2 ^ 27), (8, 8, 64), (16, 8, 64), (24, 1, 2), (25, 1, 2)]) with hubsp := { bytes := [(5, 7), (127, 9)] } }).it
     d3, by dsimp only; decide +kernel⟩,
   ⟨{ (rdy.jobAt 3 [(0, 8, 0), (8, 8, 2 ^ 27 - 128), (16, 8, 128), (24, 1, 2), (25, 1, 2)]) with hubsp := { bytes := [(5, 7), (127, 9)] } },
     d3,
     ({ (rdy.jobAt 3 [(0, 8, 0), (8, 8, 2 ^ 27 - 128), (16, 8, 128), (24, 1, 2), (25, 1, 2)]) with hubsp := { bytes := [(5, 7), (127, 9)] } }).it
     d3, 0, by dsimp only; decide +kernel⟩,
   ⟨{ (rdy.jobAt 3 [(0, 8, 64), (16, 8, 64), (24, 1, 1), (25, 1, 2)]) with hubsp := { bytes := [(5, 7), (127, 9)] } }, d3,
     ({ (rdy.jobAt 3 [(0, 8, 64), (16, 8, 64), (24, 1, 1), (25, 1, 2)]) with hubsp := { bytes := [(5, 7), (127, 9)] } }).it d3, [],
     by dsimp only; decide +kernel⟩,
   ⟨(rdy.jobAt 4 [(0, 8, 0x0807060504030201), (8, 8, 2 ^ 27 - 16), (16, 8, 16), (25, 1, 2)]), d3, ((rdy.jobAt 4 [(0, 8,
     0x0807060504030201), (8, 8, 2 ^ 27 - 16), (16, 8, 16), (25, 1, 2)])).it d3, 0, by dsimp only; decide +kernel⟩⟩

theorem wit_HintsAndAborts :
  (∃ (s : State) (w : Work) (it : Item), s.fresh w 0x09 = some it ∧ (let lead := fieldAt it.payload 0 4; 1000000 < lead)) ∧
  (∃ (s : State) (w : Work) (it : Item), s.fresh w 0x09 = some it ∧ (let lead := fieldAt it.payload 0 4;
    (let hold := fieldAt it.payload 4 4; lead ≤ 1000000 ∧ 1000 < hold))) ∧
  (∃ (s : State) (w : Work) (it : Item), s.fresh w 0x09 = some it ∧ (let lead := fieldAt it.payload 0 4;
    (let hold := fieldAt it.payload 4 4; (let dies := fieldAt it.payload 9 1; lead ≤ 1000000 ∧ hold ≤ 1000 ∧ (dies = 0 ∨ 16 ≤ dies))))) ∧
  (∃ (s : State) (w : Work) (it : Item), s.fresh w 0x09 = some it ∧ (let lead := fieldAt it.payload 0 4;
    (let hold := fieldAt it.payload 4 4; (let dies := fieldAt it.payload 9 1; lead ≤ 1000000 ∧ hold ≤ 1000 ∧ 0 < dies ∧ dies < 16)))) ∧
  (∃ (s : State) (q : Nat) (k : Nat) (it : Item), s.fresh (.desc q k) 0x0E = some it ∧ (let n := fieldAt it.payload 0 2;
    (let same := s.get F.HUB_Q_CFG_function n = s.get F.HUB_Q_CFG_function q; ¬same))) ∧
  (∃ (s : State) (q : Nat) (k : Nat) (it : Item), s.fresh (.desc q k) 0x0E = some it ∧ (let n := fieldAt it.payload 0 2;
    (let same := s.get F.HUB_Q_CFG_function n = s.get F.HUB_Q_CFG_function q; same ∧ 1 < fieldAt it.payload 4 1))) ∧
  (∃ (s : State) (q : Nat) (k : Nat) (it : Item), s.fresh (.desc q k) 0x0E = some it ∧ (let n := fieldAt it.payload 0 2;
    (let i := fieldAt it.payload 2 2; (let same := s.get F.HUB_Q_CFG_function n = s.get F.HUB_Q_CFG_function q; same ∧ fieldAt
    it.payload 4 1 = 0 ∧ (n ≠ q ∨ i ≠ k) ∧ s.placeIx n i = .beyond)))) ∧
  (∃ (s : State) (q : Nat) (k : Nat) (it : Item), s.fresh (.desc q k) 0x0E = some it ∧ (let n := fieldAt it.payload 0 2;
    (let i := fieldAt it.payload 2 2; (let same := s.get F.HUB_Q_CFG_function n = s.get F.HUB_Q_CFG_function q; same ∧ fieldAt
    it.payload 4 1 = 0 ∧ (n ≠ q ∨ i ≠ k) ∧ s.placeIx n i = .before)))) ∧
  (∃ (s : State) (q : Nat) (k : Nat) (it : Item) (e : _), s.fresh (.desc q k) 0x0E = some it ∧ (let n := fieldAt it.payload 0 2;
    (let i := fieldAt it.payload 2 2; (let same := s.get F.HUB_Q_CFG_function n = s.get F.HUB_Q_CFG_function q; same ∧ fieldAt
    it.payload 4 1 = 0 ∧ n ≠ q ∧ s.placeIx n i = .open_ ∧ (s.queue n).ents = [e] ∧ e.idx = i ∧ e.phase = .waiting ∧ e.committed = none ∧
    abortProof e.opcode = false)))) :=
  ⟨⟨(rdy.jobAt 9 [(0, 4, 1000001), (9, 1, 15)]), d3, ((rdy.jobAt 9 [(0, 4, 1000001), (9, 1, 15)])).it d3, by dsimp only; decide +kernel⟩,
   ⟨(rdy.jobAt 9 [(0, 4, 1000000), (4, 4, 1001), (9, 1, 15)]), d3, ((rdy.jobAt 9 [(0, 4, 1000000), (4, 4, 1001), (9, 1, 15)])).it d3,
     by dsimp only; decide +kernel⟩,
   ⟨(rdy.jobAt 9 [(0, 4, 1000000), (4, 4, 1000)]), d3, ((rdy.jobAt 9 [(0, 4, 1000000), (4, 4, 1000)])).it d3,
     by dsimp only; decide +kernel⟩,
   ⟨(rdy.jobAt 9 [(0, 4, 1000000), (4, 4, 1000), (9, 1, 15), (8, 1, 1)]), d3, ((rdy.jobAt 9 [(0, 4, 1000000), (4, 4, 1000), (9, 1, 15), (8,
     1, 1)])).it d3, by dsimp only; decide +kernel⟩,
   ⟨((rdy.jobAt 14 [(0, 2, 5)])).with [(F.HUB_Q_CFG_function, 5, 1)], 0, 3, (((rdy.jobAt 14 [(0, 2, 5)])).with [(F.HUB_Q_CFG_function, 5,
     1)]).it (.desc 0 3), by dsimp only; decide +kernel⟩,
   ⟨(rdy.jobAt 14 [(0, 2, 5), (4, 1, 2)]), 0, 3, ((rdy.jobAt 14 [(0, 2, 5), (4, 1, 2)])).it (.desc 0 3), by dsimp only; decide +kernel⟩,
   ⟨(rdy.jobAt 14 [(0, 2, 0), (2, 2, 8)]), 0, 3, ((rdy.jobAt 14 [(0, 2, 0), (2, 2, 8)])).it (.desc 0 3), by dsimp only; decide +kernel⟩,
   ⟨((rdy.jobAt 14 [(0, 2, 0), (2, 2, 2)])).setQueue 0 { ents := [ent 14 3 .dispatched [(0, 2, 0), (2, 2, 2)]], accepted := 8 }, 0, 3,
     (((rdy.jobAt 14 [(0, 2, 0), (2, 2, 2)])).setQueue 0 { ents := [ent 14 3 .dispatched [(0, 2, 0), (2, 2, 2)]], accepted := 8 }).it
     (.desc 0 3), by dsimp only; decide +kernel⟩,
   ⟨(((rdy.jobAt 14 [(0, 2, 5), (2, 2, 4)])).work 5 [{ ent 8 4 .waiting [] with order := 1 }]), 0, 3, ((((rdy.jobAt 14 [(0, 2, 5), (2, 2,
     4)])).work 5 [{ ent 8 4 .waiting [] with order := 1 }])).it (.desc 0 3), { ent 8 4 .waiting [] with order := 1 },
     by dsimp only; decide +kernel⟩⟩

theorem wit_Dumps :
  (∃ (s : State) (w : Work) (it : Item) (d : _), s.fresh w 0x0F = some it ∧ dumpFormat it.payload = some d) ∧
  (∃ (s : State) (w : Work) (it : Item), s.fresh w 0x0F = some it ∧ dumpFormat it.payload = none ∧ s.dump.running = true) ∧
  (∃ (s : State) (w : Work) (it : Item), s.fresh w 0x0F = some it ∧ dumpFormat it.payload = none ∧ s.dump.running = false ∧ s.quiescing =
    false ∧ s.stopActive = false) ∧
  (∃ (s : State) (w : BarAcc), Reaches s .HUB_DUMP_CTRL 0 w 0 ∧ w.bits F.HUB_DUMP_CTRL_start = 0) ∧
  (∃ (s : State) (w : BarAcc), Reaches s .HUB_DUMP_CTRL 0 w 0 ∧ w.bits F.HUB_DUMP_CTRL_start = 1 ∧ s.host.up = true ∧ s.dump.running =
    false ∧ s.get F.HUB_DUMP_ADDR_addr 0 ≠ 0 ∧ (let u := s.writeReg .HUB_DUMP_CTRL 0 w; 0x100 ≤ u.get F.HUB_DUMP_CTRL_size_4k 0)) ∧
  (∃ (s : State) (n : Nat) (code : Nat) (kib : Nat), s.dump.running = true ∧ dumpSections[s.dump.next]? = some (code, kib) ∧ s.dump.next +
    1 < dumpSections.length ∧ s.dump.unresponsive = false ∧ s.unitAbsent code = false ∧ n ≤ 1024 * kib - 32 ∧
    (let len := ceilDiv (32 + n) 4096 * 4096; s.dump.written + len ≤ s.dump.size)) ∧
  (∃ (s : State), s.dump.running = true ∧ s.dump.next < dumpSections.length ∧ s.dump.work = none ∧ s.rst.run = none) ∧
  (∃ (s : State), s.dump.running = false) ∧
  (∃ (s : State) (code : Nat), s.dump.unit = some code ∧ s.dump.unresponsive = false ∧ s.get F.HUB_DUMP_STAT_unresponsive 0 < 63 ∧
    (s.dump.freeze = false ∨ freezable code = false)) ∧
  (∃ (s : State) (code : Nat), s.dump.unit = some code ∧ s.dump.unresponsive = false ∧ s.get F.HUB_DUMP_STAT_unresponsive 0 < 63 ∧
    s.dump.freeze = true ∧ freezable code = true) ∧
  (∃ (s : State), s.dump.running = true ∧ s.dump.work = none ∧ s.rst.run = none) :=
  ⟨⟨(rdy.jobAt 15 [(0, 8, 4096), (8, 4, 4096)]), d3, ((rdy.jobAt 15 [(0, 8, 4096), (8, 4, 4096)])).it d3, 40, by decide +kernel⟩,
   ⟨{ (rdy.jobAt 15 [(0, 8, 4096), (8, 4, 2 ^ 20)]) with dump := { running := true } }, d3,
     ({ (rdy.jobAt 15 [(0, 8, 4096), (8, 4, 2 ^ 20)]) with dump := { running := true } }).it d3, by decide +kernel⟩,
   ⟨(rdy.jobAt 15 [(0, 8, 4096), (8, 4, 2 ^ 20)]), d3, ((rdy.jobAt 15 [(0, 8, 4096), (8, 4, 2 ^ 20)])).it d3, by decide +kernel⟩,
   ⟨rdy, acc 0 0 8 0, by unfold Reaches; decide +kernel⟩,
   ⟨rdy.with [(F.HUB_DUMP_ADDR_addr, 0, 5)], acc (2 ^ 31 + 0x100) 0 4 0, by dsimp only; unfold Reaches; decide +kernel⟩,
   ⟨{ rdy with dump := { running := true, buffer := 4096, size := 2 ^ 20, next := 6 } }, 100, 0x20, 256, by dsimp only; decide +kernel⟩,
   ⟨{ rdy with dump := { running := true, buffer := 4096, size := 2 ^ 20, next := 6 } }, by decide +kernel⟩,
   ⟨rdy, by decide +kernel⟩,
   ⟨{ rdy with dump := { running := true, buffer := 4096, size := 2 ^ 20, next := 6 } }, 0x20, by decide +kernel⟩,
   ⟨{ rdy with dump := { running := true, buffer := 4096, size := 2 ^ 20, next := 6, freeze := true } }, 0x20, by decide +kernel⟩,
   ⟨{ rdy with dump := { running := true, buffer := 4096, size := 2 ^ 20, next := 6 } }, by decide +kernel⟩⟩

theorem wit_ConfigCommits :
  (∃ (s : State) (w : Work) (it : Item), s.fresh w 0x0A = some it ∧ s.cfgState = 0 ∧ s.commit.work.isSome = true) ∧
  (∃ (s : State) (w : Work) (it : Item), s.fresh w 0x0A = some it ∧ s.cfgState = 0 ∧ (let epoch := fieldAt it.payload 0 4;
    (let high := s.get F.HUB_CFG_EPOCH_highest 0; s.commit.work = none ∧ epoch ≠ (high + 1) % 2 ^ 32))) ∧
  (∃ (s : State) (w : Work) (it : Item) (u : _), s.fresh w 0x0A = some it ∧ s.cfgState = 0 ∧ (let epoch := fieldAt it.payload 0 4;
    (let high := s.get F.HUB_CFG_EPOCH_highest 0;
    (let units := if fieldAt it.payload 4 2 = 0 then s.changedUnits else maskUnits (fieldAt it.payload 4 2); s.commit.work = none ∧
    epoch = (high + 1) % 2 ^ 32 ∧ (units.find? fun u => s.shadowBad units u) = some u)))) ∧
  (∃ (s : State) (w : Work) (it : Item) (u : _) (us : _), s.fresh w 0x0A = some it ∧ s.cfgState = 0 ∧
    (let epoch := fieldAt it.payload 0 4; (let high := s.get F.HUB_CFG_EPOCH_highest 0;
    (let units := if fieldAt it.payload 4 2 = 0 then s.changedUnits else maskUnits (fieldAt it.payload 4 2); s.commit.work = none ∧
    epoch = (high + 1) % 2 ^ 32 ∧ (units.any fun u => s.shadowBad units u) = false ∧ units = u :: us ∧ u ≠ 6)))) ∧
  (∃ (s : State) (u : Nat), s.commit.unit = some u ∧ u ∈ [0, 1, 2, 3, 4, 8] ∧ s.cfgState = 1 ∧ s.unitReady u = true ∧ s.commit.todo = []) ∧
  (∃ (s : State) (u : Nat), s.commit.unit = some u ∧ u < 9 ∧ u ≠ 6 ∧ s.cfgState = 1) ∧
  (∃ (s : State) (w : Work) (it : Item) (us : _) (u : _), s.fresh w 0x0B = some it ∧ s.commit.work = none ∧ s.cfgState = 0 ∧
    s.commit.revertible = true ∧ fieldAt it.payload 0 4 = s.get F.HUB_CFG_EPOCH_committed 0 ∧ s.commit.units = us ++ [u] ∧ u ∉ [0, 6]) ∧
  (∃ (s : State) (w : Work) (it : Item), s.fresh w 0x0B = some it ∧ s.commit.work = none ∧ s.cfgState = 0 ∧ (fieldAt it.payload 0 4 ≠
    s.get F.HUB_CFG_EPOCH_committed 0 ∨ s.commit.revertible = false)) :=
  ⟨⟨{ (rdy.jobAt 10 [(0, 4, 1)]) with commit := { work := some (.desc 5 5) } }, d3,
     ({ (rdy.jobAt 10 [(0, 4, 1)]) with commit := { work := some (.desc 5 5) } }).it d3, by decide +kernel⟩,
   ⟨((rdy.jobAt 10 [(0, 4, 2)])).with [(F.PWR_CAP_SHADOW_cap_w, 0, 3000), (F.HUB_PART_MAP_SHADOW_c0_functions, 0, 3)], d3, (((rdy.jobAt 10
     [(0, 4, 2)])).with [(F.PWR_CAP_SHADOW_cap_w, 0, 3000), (F.HUB_PART_MAP_SHADOW_c0_functions, 0, 3)]).it d3,
     by dsimp only; decide +kernel⟩,
   ⟨((rdy.jobAt 10 [(0, 4, 1), (4, 2, 256)])).with [(F.PWR_CAP_SHADOW_cap_w, 0, 4201)], d3, (((rdy.jobAt 10 [(0, 4, 1), (4, 2, 256)])).with
     [(F.PWR_CAP_SHADOW_cap_w, 0, 4201)]).it d3, 8, by dsimp only; decide +kernel⟩,
   ⟨((rdy.jobAt 10 [(0, 4, 1), (4, 2, 264)])).with [(F.PWR_CAP_SHADOW_cap_w, 0, 3000), (F.HUB_PART_MAP_SHADOW_c0_functions, 0, 3)], d3,
     (((rdy.jobAt 10 [(0, 4, 1), (4, 2, 264)])).with [(F.PWR_CAP_SHADOW_cap_w, 0, 3000), (F.HUB_PART_MAP_SHADOW_c0_functions, 0, 3)]).it
     d3, 3, [8], by dsimp only; decide +kernel⟩,
   ⟨{ (((rdy.work 0 [ent 10 3 .busy [(0, 4, 1)]])).with [(F.PWR_CAP_SHADOW_cap_w, 0, 3000), (F.HUB_PART_MAP_SHADOW_c0_functions, 0, 3)]).with [(F.HUB_CFG_STATUS_state, 0, 1), (F.HUB_CFG_EPOCH_highest, 0, 1)] with commit := { work := some d3, unit := some 8, todo := [], locks := [3, 8], units := [3, 8] } },
     8, by decide +kernel⟩,
   ⟨{ (((rdy.work 0 [ent 10 3 .busy [(0, 4, 1)]])).with [(F.PWR_CAP_SHADOW_cap_w, 0, 3000), (F.HUB_PART_MAP_SHADOW_c0_functions, 0, 3)]).with [(F.HUB_CFG_STATUS_state, 0, 1), (F.HUB_CFG_EPOCH_highest, 0, 1)] with commit := { work := some d3, unit := some 3, todo := [], locks := [3, 8], units := [3, 8] } },
     3, by decide +kernel⟩,
   ⟨{ ((rdy.jobAt 11 [(0, 4, 1)])).with [(F.HUB_CFG_EPOCH_highest, 0, 1), (F.HUB_CFG_EPOCH_committed, 0, 1)] with commit := { units := [3, 8], revertible := true } },
     d3,
     ({ ((rdy.jobAt 11 [(0, 4, 1)])).with [(F.HUB_CFG_EPOCH_highest, 0, 1), (F.HUB_CFG_EPOCH_committed, 0, 1)] with commit := { units := [3, 8], revertible := true } }).it
     d3, [3], 8, by decide +kernel⟩,
   ⟨{ ((rdy.jobAt 11 [(0, 4, 1)])).with [(F.HUB_CFG_EPOCH_highest, 0, 1), (F.HUB_CFG_EPOCH_committed, 0, 1)] with commit := { units := [3, 8], revertible := false } },
     d3,
     ({ ((rdy.jobAt 11 [(0, 4, 1)])).with [(F.HUB_CFG_EPOCH_highest, 0, 1), (F.HUB_CFG_EPOCH_committed, 0, 1)] with commit := { units := [3, 8], revertible := false } }).it
     d3, by decide +kernel⟩⟩

theorem wit_AddressMapping :
  (∃ (m : MapEnt) (a : _) (b : _), m.stack < 16 ∧ m.size % m.unit = 0 ∧ m.mediaFirst + m.blocks ≤ 36864 ∧ m.covers a = true ∧ m.covers b =
    true ∧ (m.locate a).key = (m.locate b).key) ∧
  (∃ (m : MapEnt) (a : _), m.stack < 16 ∧ m.size % m.unit = 0 ∧ m.mediaFirst + m.blocks ≤ 36864 ∧ m.covers a = true) ∧
  (∃ (m : MapEnt) (a : _), m.stack < 16 ∧ m.size % m.unit = 0 ∧ m.mediaFirst + m.blocks ≤ 36864 ∧ m.covers a = true ∧ m.parity = true) :=
  ⟨⟨{ valid := true, spread := true, parity := true, stack := 15, mediaFirst := 36863, base := 3, size := 15 }, 3 * 2 ^ 21, 3 * 2 ^ 21,
     by decide +kernel⟩,
   ⟨{ valid := true, spread := true, parity := true, stack := 15, mediaFirst := 36863, base := 3, size := 15 }, 18 * 2 ^ 21 - 1,
     by decide +kernel⟩,
   ⟨{ valid := true, spread := true, parity := true, stack := 15, mediaFirst := 36863, base := 3, size := 15 }, 18 * 2 ^ 21 - 1,
     by decide +kernel⟩⟩

theorem wit_MemoryWriteThenRead :
  (∃ (s : State) (a : Nat) (bs : List Byte) (l : Loc), bs ≠ [] ∧ a % 2048 + bs.length ≤ 2048 ∧ s.locate a = some l ∧ s.locUnwritable l =
    false) ∧
  (∃ (s : State) (a : Nat) (bs : List Byte) (l : Loc) (k : _), bs ≠ [] ∧ a % 2048 + bs.length ≤ 2048 ∧ s.locate a = some l ∧
    s.locUnwritable l = false ∧ (k < l.key ∨ l.key + bs.length ≤ k)) :=
  ⟨⟨{ rdy with mem := { rdy.mem with dram := { bytes := [(5, 7), (70, 9)], poison := [(1, true)] } } }, 60, [1, 0, 3, 4, 5, 6, 7, 8, 9, 10,
     0, 12], ⟨0, 0, 0, 60, false⟩, by decide +kernel⟩,
   ⟨{ rdy with mem := { rdy.mem with dram := { bytes := [(5, 7), (70, 9)], poison := [(1, true)] } } }, 60, [1, 0, 3, 4, 5, 6, 7, 8, 9, 10,
     0, 12], ⟨0, 0, 0, 60, false⟩, 59, by decide +kernel⟩⟩

theorem wit_MemoryAccesses :
  (∃ (s : State) (i : Fin 4096), i.val ∈ s.mem.filling) ∧
  (∃ (s : State) (addr : BitVec 48) (l : Loc) (n : _), s.locate addr.toNat = some l ∧ (s.servingChan l.stack l.chan l.burst = none ∨ (∃ i,
    s.servingChan l.stack l.chan l.burst = some i ∧ s.inSlice i = false)) ∧ 0 < n ∧ addr.toNat % 2048 + n ≤ 2048 ∧ s.memHeld addr.toNat
    n = false) ∧
  (∃ (s : State) (addr : BitVec 48) (l : Loc) (d : List Byte), s.locate addr.toNat = some l ∧ (s.servingChan l.stack l.chan l.burst = none
    ∨ (∃ i, s.servingChan l.stack l.chan l.burst = some i ∧ s.inSlice i = false)) ∧ d ≠ [] ∧ addr.toNat % 2048 + d.length ≤ 2048 ∧
    s.memHeld addr.toNat d.length = false ∧ s.locUnwritable l = false) ∧
  (∃ (s : State) (addr : BitVec 48) (n : Nat), 0 < n ∧ addr.toNat % 2048 + n ≤ 2048 ∧ s.locate addr.toNat = none) ∧
  (∃ (addr : BitVec 48) (n : Nat), (n = 0 ∨ 2048 < addr.toNat % 2048 + n)) ∧
  (∃ (s : State) (off : BitVec 48) (n : _), s.host.up = true ∧ s.hubUp = true ∧
    (let a := s.get F.HUB_BAR4_BASE_base 0 * 2 ^ 30 + off.toNat; s.mapped a n = true ∧ s.memHeld a n = false)) ∧
  (∃ (s : State) (off : BitVec 48) (n : _), s.host.up = true ∧ s.hubUp = true ∧
    (let a := s.get F.HUB_BAR4_BASE_base 0 * 2 ^ 30 + off.toNat; s.mapped a n = false)) ∧
  (∃ (s : State) (off : BitVec 48) (d : List Byte), s.host.up = true ∧ s.hubUp = true ∧
    (let a := s.get F.HUB_BAR4_BASE_base 0 * 2 ^ 30 + off.toNat; s.mapped a d.length = true ∧ s.memHeld a d.length = false)) :=
  ⟨⟨{ rdy.with [(F.MEM_MAP_SHADOW_valid, 5, 1), (F.MEM_MAP_SHADOW_size, 5, 2), (F.MEM_MAP_SHADOW_stack, 5, 15)] with mem := { rdy.mem with filling := [5], dram := { bytes := [(9, 9), (((15 * 32 + 31) * 1179648 + 63) * 2048, 8), (((15 * 32 + 31) * 1179648 + 64) * 2048, 8)] } } },
     5, by decide +kernel⟩,
   ⟨{ rdy with mem := { rdy.mem with dram := { bytes := [(5, 7), (2040, 9)] } } }, 2040, ⟨0, 0, 0, 2040, false⟩, 8, by decide +kernel⟩,
   ⟨{ rdy with mem := { rdy.mem with dram := { bytes := [(5, 7), (2040, 9)] } } }, 2040, ⟨0, 0, 0, 2040, false⟩, [1, 2, 3, 4, 5, 6, 7, 0],
     by decide +kernel⟩,
   ⟨rdy, 32 * 2 ^ 20, 64, by decide +kernel⟩,
   ⟨2040, 9, by decide +kernel⟩,
   ⟨{ rdy.with [(F.HUB_BAR4_BASE_base, 0, 0)] with mem := { rdy.mem with dram := { bytes := [(5, 7), (2040, 9)] } } }, 2040, 8,
     by dsimp only; decide +kernel⟩,
   ⟨rdy.with [(F.HUB_BAR4_BASE_base, 0, 1)], 2040, 8, by dsimp only; decide +kernel⟩,
   ⟨{ rdy.with [(F.HUB_BAR4_BASE_base, 0, 0)] with mem := { rdy.mem with dram := { bytes := [(5, 7), (2040, 9)] } } }, 2040, [1, 2],
     by dsimp only; decide +kernel⟩⟩

theorem wit_PoisonedSectors :
  (∃ (s : State) (addr : BitVec 48) (l : Loc) (n : _), s.locate addr.toNat = some l ∧ (∀ i, s.servingChan l.stack l.chan l.burst = some i
    → s.inSlice i = false) ∧ 0 < n ∧ addr.toNat % 64 + n ≤ 64 ∧ s.memHeld addr.toNat n = false ∧ s.mem.bad (l.key / 64) = true) ∧
  (∃ (s : State) (addr : BitVec 48) (l : Loc) (d : List Byte), s.locate addr.toNat = some l ∧ (∀ i, s.servingChan l.stack l.chan l.burst =
    some i → s.inSlice i = false) ∧ d.length = 64 ∧ addr.toNat % 64 = 0 ∧ s.memHeld addr.toNat 64 = false ∧ s.locUnwritable l = false) ∧
  (∃ (s : State) (addr : BitVec 48) (l : Loc) (d : List Byte), s.locate addr.toNat = some l ∧ (∀ i, s.servingChan l.stack l.chan l.burst =
    some i → s.inSlice i = false) ∧ d ≠ [] ∧ d.length < 64 ∧ addr.toNat % 64 + d.length ≤ 64 ∧ s.memHeld addr.toNat d.length = false ∧
    s.mem.bad (l.key / 64) = true) :=
  ⟨⟨{ rdy with mem := { rdy.mem with dram := { bytes := [(5, 7), (2040, 9)], poison := [(31, true)] } } }, 2040, ⟨0, 0, 0, 2040, false⟩, 8,
     by decide +kernel⟩,
   ⟨{ rdy with mem := { rdy.mem with dram := { bytes := [(5, 7), (2040, 9)], poison := [(31, true)] } } }, 1984, ⟨0, 0, 0, 1984, false⟩,
     List.replicate 64 7, by decide +kernel⟩,
   ⟨{ rdy with mem := { rdy.mem with dram := { bytes := [(5, 7), (2040, 9)], poison := [(31, true)] } } }, 2040, ⟨0, 0, 0, 2040, false⟩,
     [1, 2, 3, 4, 5, 6, 7, 0], by decide +kernel⟩⟩

theorem wit_ChannelRepairs :
  (∃ (s : State) (i : Fin 544), s.get F.MEM_REPAIR_CFG_retrain_period 0 ≠ 0 ∧ s.boot.phase = .ready ∧ s.chState i = 1 ∧ (s.stk (i /
    34)).retrain = none ∧ (s.stk (i / 34)).retrainQ = []) ∧
  (∃ (s : State) (i : Fin 544) (j : Nat) (w : BarAcc), Reaches s .MEM_CH_CFG i w j ∧ w.bits F.MEM_CH_CFG_retrain_req = 1 ∧ s.chState j = 1
    ∧ (s.stk (j / 34)).retrain = none ∧ (s.stk (j / 34)).retrainQ = []) ∧
  (∃ (s : State), s.time % 50000 ≠ 0) ∧
  (∃ (s : State), s.time % 50000 = 0) ∧
  (∃ (s : State) (i : Fin 544) (lane : Fin 296), lane.val ∉ (s.chan i).degraded ∧ s.get F.MEM_CH_STAT_spare_lanes_used i < 8) ∧
  (∃ (s : State) (i : Fin 544) (lane : Fin 296), lane.val ∈ (s.chan i).degraded) ∧
  (∃ (s : State) (i : Fin 544) (j : Nat) (d : Nat) (w : BarAcc), Reaches s .MEM_CH_CFG i w j ∧ w.bits F.MEM_CH_CFG_evacuate_req = 1 ∧
    s.chState j = 1 ∧ (s.stk (j / 34)).repair = none ∧ (s.stk (j / 34)).repairQ = [] ∧ (s.stk (j / 34)).retrain = none ∧ (s.stk (j /
    34)).retrainQ = [] ∧ s.freeSpare (j / 34) = some d) ∧
  (∃ (s : State) (i : Fin 544) (j : Nat) (w : BarAcc), Reaches s .MEM_CH_CFG i w j ∧ w.bits F.MEM_CH_CFG_evacuate_req = 1 ∧ s.chState j =
    1 ∧ (s.stk (j / 34)).repairQ = [] ∧ s.freeSpare (j / 34) = none ∧ s.log.staged.length < 8192) ∧
  (∃ (s : State) (k : Fin 16) (r : Repair), (s.stk k).repair = some r ∧ r.rebuild = false ∧ s.repairPaused k = false ∧ s.get
    F.MEM_CH_STAT_pointer r.dst + 1 < burstsPerChannel) ∧
  (∃ (s : State) (i : Fin 544) (d : Nat), s.chState i = 1 ∧ (s.stk (i / 34)).repair = none ∧ (s.stk (i / 34)).repairQ = [] ∧ (s.stk (i /
    34)).retrain = none ∧ (s.stk (i / 34)).retrainQ = [] ∧ s.freeSpare (i / 34) = some d) ∧
  (∃ (s : State) (k : Fin 16) (r : Repair) (b : Nat), (s.stk k).repair = some r ∧ r.rebuild = true ∧ s.repairPaused k = false ∧
    s.nextParity k (s.get F.MEM_CH_STAT_pointer r.dst) = some b ∧ s.nextParity k (b + 1) ≠ none ∧ b + 1 < 2 ^ 21) ∧
  (∃ (s : State) (i : Fin 544), s.chState i = 1 ∧ s.isSet F.MEM_CH_CFG_scrub_dis i = false ∧ s.repairPaused (i / 34) = false) ∧
  (∃ (s : State) (k : Fin 16) (g : Fin 2) (b : Fin 1179648) (h : PHold), (s.mem.holds.find? fun h => h.stack == k.val && h.group == g.val
    && h.burst == b.val) = some h) ∧
  (∃ (s : State) (i : Fin 544) (x : RowCopy) (xs : List RowCopy), (s.chan i).copies = x :: xs ∧ s.repairPaused (i / 34) = false) ∧
  (∃ (s : State) (k : Nat) (a : Nat) (b : Nat) (es : List RemapEntry), s.mem.remapToWrite = .row k a b :: es ∧ s.mem.remapList.length <
    8192) :=
  ⟨⟨rdy.with [(F.MEM_CH_STAT_state, 543, 1), (F.MEM_CH_STAT_logical, 543, 31), (F.MEM_REPAIR_CFG_retrain_period, 0, 1)], 543,
     by decide +kernel⟩,
   ⟨rdy.with [(F.MEM_CH_STAT_state, 543, 1), (F.MEM_CH_STAT_logical, 543, 31)], 543, 543, acc (2 ^ 64 - 1) 0 8 0,
     by unfold Reaches; decide +kernel⟩,
   ⟨{ rdy with time := 49999 }, by decide +kernel⟩,
   ⟨{ rdy.with [(F.MEM_CH_STAT_state, 543, 2)] with time := 50000, mem := { rdy.mem with stk := [(15, { retrain := some { phys := 543, error := false } })] } },
     by decide +kernel⟩,
   ⟨rdy.with [(F.MEM_CH_STAT_state, 543, 1), (F.MEM_CH_STAT_logical, 543, 31)], 543, 295, by decide +kernel⟩,
   ⟨{ rdy.with [(F.MEM_CH_STAT_state, 543, 1), (F.MEM_CH_STAT_logical, 543, 31)] with mem := { rdy.mem with chans := [(543, { degraded := [295] })] } },
     543, 295, by decide +kernel⟩,
   ⟨rdy.with [(F.MEM_CH_STAT_state, 543, 1), (F.MEM_CH_STAT_logical, 543, 31), (F.MEM_CH_STAT_state, 540, 0)], 543, 543, 510, acc (2 ^ 64 -
     1) 0 8 0, by unfold Reaches; decide +kernel⟩,
   ⟨(rdy.with ((List.range 34).map fun k => (F.MEM_CH_STAT_state, 510 + k, 1))), 543, 543, acc (2 ^ 64 - 1) 0 8 0,
     by unfold Reaches; decide +kernel⟩,
   ⟨{ rdy.with [(F.MEM_CH_STAT_state, 543, 1), (F.MEM_CH_STAT_logical, 543, 31), (F.MEM_CH_STAT_state, 543, 3), (F.MEM_CH_STAT_state, 510, 4)] with mem := { rdy.mem with stk := [(15, { repair := some { rebuild := false, src := 543, dst := 510, logical := 31, detected := 5 } })] } },
     15, { rebuild := false, src := 543, dst := 510, logical := 31, detected := 5 }, by decide +kernel⟩,
   ⟨rdy.with [(F.MEM_CH_STAT_state, 543, 1), (F.MEM_CH_STAT_logical, 543, 31)], 543, 510, by decide +kernel⟩,
   ⟨{ rdy.with [(F.MEM_CH_STAT_state, 543, 1), (F.MEM_CH_STAT_logical, 543, 31), (F.MEM_CH_STAT_state, 543, 5), (F.MEM_CH_STAT_state, 510, 4), (F.MEM_MAP_parity, 0, 1), (F.MEM_MAP_stack, 0, 15), (F.MEM_MAP_size, 0, 15)] with mem := { rdy.mem with stk := [(15, { repair := some { rebuild := true, src := 543, dst := 510, logical := 31, detected := 5 } })] } },
     15, { rebuild := true, src := 543, dst := 510, logical := 31, detected := 5 }, 0, by decide +kernel⟩,
   ⟨rdy.with [(F.MEM_CH_STAT_state, 543, 1), (F.MEM_CH_STAT_logical, 543, 31)], 543, by decide +kernel⟩,
   ⟨{ rdy with mem := { rdy.mem with holds := [{ stack := 15, group := 1, burst := 1179647, members := [3], since := 9 }] } }, 15, 1,
     1179647, { stack := 15, group := 1, burst := 1179647, members := [3], since := 9 }, by decide +kernel⟩,
   ⟨{ rdy.with [(F.MEM_CH_STAT_state, 543, 1), (F.MEM_CH_STAT_logical, 543, 31)] with mem := { rdy.mem with chans := [(543, { copies := [{ row := 7, spare := 1 }] })] } },
     543, { row := 7, spare := 1 }, [], by decide +kernel⟩,
   ⟨{ rdy with mem := { rdy.mem with remapToWrite := [.row 543 9 1, .lane 3 4] } }, 543, 9, 1, [.lane 3 4], by decide +kernel⟩⟩

theorem wit_BundlesInService :
  (∃ (s : State) (b : Fin 400), s.d2dUp = true ∧ (s.bundle b).changing = false ∧ s.get F.HUB_D2D_BUNDLE_STAT_width b ≠ 0) ∧
  (∃ (s : State) (b : Fin 400), s.d2dTraining b = false ∧ s.d2dUp = true ∧ (s.bundle b).failed = [] ∧ (s.bundle b).queued = [] ∧ (s.bundle
    b).changing = false ∧ s.get F.HUB_D2D_BUNDLE_STAT_width b = 2 ∧ s.get F.HUB_D2D_BUNDLE_STAT_swap_count b < 255) ∧
  (∃ (s : State) (b : Fin 400) (lane : Fin 66), (s.bundle b).errsOf lane s.time < 16) ∧
  (∃ (s : State) (b : Fin 400), (s.bundle b).changing = true ∧ (s.bundle b).queued = []) ∧
  (∃ (s : State) (b : Fin 400), (s.bundle b).changing = false) :=
  ⟨⟨rdy.with [(F.HUB_D2D_BUNDLE_STAT_width, 399, 2)], 399, by decide +kernel⟩,
   ⟨rdy.with [(F.HUB_D2D_BUNDLE_STAT_width, 399, 2)], 399, by decide +kernel⟩,
   ⟨rdy.with [(F.HUB_D2D_BUNDLE_STAT_width, 399, 2)], 399, 65, by decide +kernel⟩,
   ⟨{ rdy.with [(F.HUB_D2D_BUNDLE_STAT_width, 399, 2)] with bundles := [(399, { changing := true, failed := [65] })] }, 399,
     by decide +kernel⟩,
   ⟨rdy.with [(F.HUB_D2D_BUNDLE_STAT_width, 399, 2)], 399, by decide +kernel⟩⟩

theorem wit_BringUp :
  (∃ (s : State) (f : Feed) (va : Fin 8192) (vb : Fin 8192), s.boot.phase = .off ∧ 4800 ≤ (match f with | .A => va.val | .B => vb.val)) ∧
  (∃ (s : State) (va : Fin 8192) (vb : Fin 8192), (s.boot.phase = .off ∨ (s.boot.phase = .bringup ∧ s.boot.done = [])) ∧ (4000 ≤ va.val ∨
    4000 ≤ vb.val) ∧ s.boot.resetPending = false) ∧
  (∃ (s : State), s.boot.phase = .bringup ∧ s.boot.done = [1, 2] ∧ s.quiescing = false) ∧
  (∃ (s : State) (r : IdentityRead), s.stepOpen 6 [5] = true ∧ s.boot.resetPending = false ∧ identityFails r = []) ∧
  (∃ (s : State) (r : IdentityRead) (f : _) (fs : _), s.stepOpen 6 [5] = true ∧ s.boot.resetPending = false ∧ identityFails r = f :: fs) ∧
  (∃ (s : State) (t0 : Nat), s.step5Open = true ∧ s.boot.shift = 0 ∧ s.boot.t0 = some (t0 : Int) ∧ s.boot.resetPending = false) ∧
  (∃ (s : State), s.boot.phase = .bringup) ∧
  (∃ (s : State), s.boot.phase = .offLatched) :=
  ⟨⟨State.reset, .A, 4800, 0, by decide +kernel⟩,
   ⟨State.reset, 0, 4000, by decide +kernel⟩,
   ⟨{ State.reset with boot := { phase := .bringup, island := true, done := [1, 2], rails := [0] } }, by decide +kernel⟩,
   ⟨{ State.reset with boot := { phase := .bringup, island := true, done := [1, 2, 3, 4, 5], rails := [0] } }, goodRead, by decide +kernel,
     by decide +kernel, by exact goodRead_passes⟩,
   ⟨{ State.reset with boot := { phase := .bringup, island := true, done := [1, 2, 3, 4, 5], rails := [0] } },
     { dies := [], stackSerials := [none] }, ((identityFails { dies := [], stackSerials := [none] }).headD ⟨0, 0⟩), ((identityFails
     { dies := [], stackSerials := [none] }).tail), by decide +kernel⟩,
   ⟨{ State.reset with boot := { phase := .bringup, island := true, done := [1, 2, 3, 4], rails := [0], t0 := some 5 } }, 5,
     by decide +kernel⟩,
   ⟨{ State.reset with boot := { phase := .bringup, island := true, done := [1, 2, 3, 4], rails := [0] } }, by decide +kernel⟩,
   ⟨{ State.reset with boot := { phase := .offLatched } }, by decide +kernel⟩⟩

theorem wit_HostLink :
  (∃ (s : State) (usable : List Nat), s.hostCanTrain = true ∧ s.hostUsable usable = true ∧ s.rst.linkWait = false) ∧
  (∃ (s : State) (usable : List Nat), s.hostCanTrain = true ∧ s.hostUsable usable = true ∧ s.rst.linkWait = false ∧ s.boot.hostDark =
    true) ∧
  (∃ (s : State) (usable : List Nat), s.hostUsable usable = false) ∧
  (∃ (s : State), s.hostCanTrain = true ∧ s.boot.hostDark = true) ∧
  (∃ (s : State), s.host.up = true) ∧
  (∃ (s : State), s.host.up = true ∧ s.hubUp = true) ∧
  (∃ (s : State) (fn : Fin 16), s.host.up = true ∧ s.hubUp = true ∧ s.functionOn fn = true ∧ fn ≠ 0 ∧ s.queues = [] ∧ s.rst.run = none) ∧
  (∃ (s : State) (fn : Fin 16), s.functionOn fn = false) :=
  ⟨⟨{ rdy with host := {} }, [0, 1, 2, 8], by decide +kernel⟩,
   ⟨{ rdy with host := {}, boot := { rdy.boot with hostDark := true } }, [0, 1, 2, 8], by decide +kernel⟩,
   ⟨{ rdy with host := {} }, [0, 1, 2], by decide +kernel⟩,
   ⟨{ rdy with host := {}, boot := { rdy.boot with hostDark := true } }, by decide +kernel⟩,
   ⟨rdy, by decide +kernel⟩,
   ⟨{ rdy with host := {up := true, d3 := true, numVfs := 5, vfEnabled := true}}, by decide +kernel⟩,
   ⟨{ rdy.with [(F.HUB_Q_CFG_enable, 9, 1), (F.HUB_Q_CFG_context, 9, 4095), (F.CTX_function, 4095, 15), (F.CTX_valid, 4095, 1)] with host := { up := true, numVfs := 15, vfEnabled := true } },
     15, by decide +kernel⟩,
   ⟨rdy, 15, by decide +kernel⟩⟩

theorem wit_NodeAndEnable :
  (∃ (s : State) (w : BarAcc), Reaches s .FAB_NODE_ID 0 w 0 ∧ w.touches F.FAB_NODE_ID_node = true ∧ s.setupLocked = false) ∧
  (∃ (s : State) (w : BarAcc), Reaches s .FAB_NODE_ID 0 w 0 ∧ w.touches F.FAB_NODE_ID_node = true ∧ s.setupLocked = true) ∧
  (∃ (s : State) (w : BarAcc), Reaches s .FAB_CFG 0 w 0 ∧ w.touches F.FAB_CFG_enable = true ∧ w.bits F.FAB_CFG_enable = 1 ∧ s.isSet
    F.FAB_CFG_enable 0 = false ∧ (let u := s.writeReg .FAB_CFG 0 w;
    (let base := u.areaMapped (u.get F.FAB_CFG_flow_base 0 * 2 ^ 26, 32); s.isSet F.FAB_NODE_ID_assigned 0 = true ∧ base = true ∧
    s.rst.readyOwed = false ∧ s.refl.owe = false))) ∧
  (∃ (s : State) (w : BarAcc), Reaches s .FAB_CFG 0 w 0 ∧ w.touches F.FAB_CFG_enable = true ∧ w.bits F.FAB_CFG_enable = 1 ∧ s.isSet
    F.FAB_CFG_enable 0 = false ∧ (let u := s.writeReg .FAB_CFG 0 w;
    (let base := u.areaMapped (u.get F.FAB_CFG_flow_base 0 * 2 ^ 26, 32); (s.isSet F.FAB_NODE_ID_assigned 0 = false ∨ base = false)))) :=
  ⟨⟨fab, acc (2 ^ 20 - 2) 0 4 0, by unfold Reaches; decide +kernel⟩,
   ⟨fab.with [(F.HUB_SETUP_LOCK_locked, 0, 1)], acc 9 0 4 0, by unfold Reaches; decide +kernel⟩,
   ⟨fab.with [(F.FAB_CFG_enable, 0, 0), (F.MEM_MAP_base, 0, 32), (F.MEM_MAP_size, 0, 32)], acc (2 ^ 63 + 2 ^ 26) 0 8 0,
     by dsimp only; unfold Reaches; decide +kernel⟩,
   ⟨fab.with [(F.FAB_CFG_enable, 0, 0), (F.MEM_MAP_base, 0, 32), (F.MEM_MAP_size, 0, 32)], acc (2 ^ 63 + 2 ^ 27) 0 8 0,
     by dsimp only; unfold Reaches; decide +kernel⟩⟩

theorem wit_FabricOpsAccepted :
  (∃ (s : State) (w : Work) (it : Item) (data : List Byte) (c : _) (d : _), s.fresh w 0x06 = some it ∧ (let b := it.payload;
    (let op := fieldAt b 0 1; c ∈ [Instr.fabricRead w, .fabricWrite w data, .fabricWritePosted w data, .fabricAtomic w data, .fabricSend
    w data, .fabricFence w] ∧ (isRequest op = false ∨ c = ([Instr.fabricRead w, .fabricWrite w data, .fabricWritePosted w data,
    .fabricAtomic w data, .fabricSend w data, .fabricFence w].getD (op - 1) .calendarSetApply)) ∧ fabFormat b = some d ∧ s.fabOn =
    true))) ∧
  (∃ (s : State) (w : Work) (it : Item) (data : List Byte) (c : _), s.fresh w 0x06 = some it ∧ (let b := it.payload;
    (let op := fieldAt b 0 1; c ∈ [Instr.fabricRead w, .fabricWrite w data, .fabricWritePosted w data, .fabricAtomic w data, .fabricSend
    w data, .fabricFence w] ∧ (isRequest op = false ∨ c = ([Instr.fabricRead w, .fabricWrite w data, .fabricWritePosted w data,
    .fabricAtomic w data, .fabricSend w data, .fabricFence w].getD (op - 1) .calendarSetApply)) ∧ s.fabOn = false))) ∧
  (∃ (s : State) (w : Work) (it : Item) (data : List Byte) (c : _), s.fresh w 0x06 = some it ∧ (let b := it.payload;
    (let op := fieldAt b 0 1; (let remote := fieldAt b 8 8; (let node := remote / 2 ^ 44; (let space := slice (fieldAt b 1 1) 1 0;
    (let a := fieldAt b 16 8; (let len := if op = 4 then 8 else fieldAt b 24 8; c ∈ [Instr.fabricRead w, .fabricWrite w data,
    .fabricWritePosted w data, .fabricAtomic w data, .fabricSend w data, .fabricFence w] ∧ (isRequest op = false ∨ c =
    ([Instr.fabricRead w, .fabricWrite w data, .fabricWritePosted w data, .fabricAtomic w data, .fabricSend w data, .fabricFence w].getD
    (op - 1) .calendarSetApply)) ∧ fabFormat b = none ∧ s.fabOn = true ∧ op ≠ 6 ∧ s.fabLocalOk it.ctx space a len (op == 1 || op == 4) =
    true ∧ (op = 4 → s.fabLocalOk it.ctx space a len false = true) ∧ (s.routeFor node).isSome = true ∧ (op = 5 ∨ remote % 2 ^ 44 <
    0x012000000000) ∧ s.excludedNode node = true)))))))) ∧
  (∃ (s : State) (w : Work) (it : Item) (data : List Byte) (c : _), s.fresh w 0x06 = some it ∧ (let b := it.payload;
    (let op := fieldAt b 0 1; (let space := slice (fieldAt b 1 1) 1 0; (let a := fieldAt b 16 8;
    (let len := if op = 4 then 8 else fieldAt b 24 8; c ∈ [Instr.fabricRead w, .fabricWrite w data, .fabricWritePosted w data,
    .fabricAtomic w data, .fabricSend w data, .fabricFence w] ∧ (isRequest op = false ∨ c = ([Instr.fabricRead w, .fabricWrite w data,
    .fabricWritePosted w data, .fabricAtomic w data, .fabricSend w data, .fabricFence w].getD (op - 1) .calendarSetApply)) ∧ fabFormat b
    = none ∧ s.fabOn = true ∧ op ≠ 6 ∧ s.fabLocalOk it.ctx space a len (op == 1 || op == 4) = false)))))) ∧
  (∃ (s : State) (w : Work) (it : Item) (data : List Byte) (c : _), s.fresh w 0x06 = some it ∧ (let b := it.payload;
    (let op := fieldAt b 0 1; (let remote := fieldAt b 8 8; (let node := remote / 2 ^ 44; (let space := slice (fieldAt b 1 1) 1 0;
    (let a := fieldAt b 16 8; (let len := if op = 4 then 8 else fieldAt b 24 8; c ∈ [Instr.fabricRead w, .fabricWrite w data,
    .fabricWritePosted w data, .fabricAtomic w data, .fabricSend w data, .fabricFence w] ∧ (isRequest op = false ∨ c =
    ([Instr.fabricRead w, .fabricWrite w data, .fabricWritePosted w data, .fabricAtomic w data, .fabricSend w data, .fabricFence w].getD
    (op - 1) .calendarSetApply)) ∧ fabFormat b = none ∧ s.fabOn = true ∧ op ≠ 6 ∧ s.fabLocalOk it.ctx space a len (op == 1 || op == 4) =
    true ∧ (op = 4 → s.fabLocalOk it.ctx space a len false = true) ∧ (s.routeFor node).isSome = true ∧ (op = 5 ∨ remote % 2 ^ 44 <
    0x012000000000) ∧ s.excludedNode node = false ∧ (space = 1 → op ≠ 1 → data.length = len) ∧ (space = 0 → s.memHeld a len = false) ∧
    s.opsSettled)))))))) ∧
  (∃ (s : State) (w : Work) (it : Item) (data : List Byte) (c : _), s.fresh w 0x06 = some it ∧ (let b := it.payload;
    (let op := fieldAt b 0 1; (let remote := fieldAt b 8 8; (let node := remote / 2 ^ 44; c ∈ [Instr.fabricRead w, .fabricWrite w data,
    .fabricWritePosted w data, .fabricAtomic w data, .fabricSend w data, .fabricFence w] ∧ (isRequest op = false ∨ c =
    ([Instr.fabricRead w, .fabricWrite w data, .fabricWritePosted w data, .fabricAtomic w data, .fabricSend w data, .fabricFence w].getD
    (op - 1) .calendarSetApply)) ∧ fabFormat b = none ∧ s.fabOn = true ∧ op = 6 ∧ bitAt (fieldAt b 2 1) 1 = false ∧ (s.routeFor
    node).isSome = true ∧ s.excludedNode node = false ∧ s.opsSettled))))) :=
  ⟨⟨((fab.work 0 [ent 6 3 .dispatched [(0, 1, 1), (1, 1, 2)]])), d3, (((fab.work 0 [ent 6 3 .dispatched [(0, 1, 1), (1, 1, 2)]]))).it d3,
     [], .fabricRead d3, 56, by dsimp only; decide +kernel⟩,
   ⟨((fab.work 0 [ent 6 3 .dispatched [(0, 1, 1), (1, 1, 2), (4, 4, 77), (8, 8, 9 * 2 ^ 44 + 64), (16, 8, 128), (24, 8, 64)]])).with
     [(F.FAB_CFG_enable, 0, 0)], d3, (((fab.work 0 [ent 6 3 .dispatched [(0, 1, 1), (1, 1, 2), (4, 4, 77), (8, 8, 9 * 2 ^ 44 + 64), (16,
     8, 128), (24, 8, 64)]])).with [(F.FAB_CFG_enable, 0, 0)]).it d3, [], .fabricRead d3, by dsimp only; decide +kernel⟩,
   ⟨{ (fab.work 0 [ent 6 3 .dispatched [(0, 1, 1), (1, 1, 2), (4, 4, 77), (8, 8, 9 * 2 ^ 44 + 64), (16, 8, 128), (24, 8, 64)]]) with job := { excl := [9] } },
     d3,
     ({ (fab.work 0 [ent 6 3 .dispatched [(0, 1, 1), (1, 1, 2), (4, 4, 77), (8, 8, 9 * 2 ^ 44 + 64), (16, 8, 128), (24, 8, 64)]]) with job := { excl := [9] } }).it
     d3, [], .fabricRead d3, by dsimp only; decide +kernel⟩,
   ⟨((fab.work 0 [ent 6 3 .dispatched [(0, 1, 1), (1, 1, 2), (4, 4, 77), (8, 8, 9 * 2 ^ 44 + 64), (16, 8, 128), (24, 8, 2 ^ 27)]])), d3,
     (((fab.work 0 [ent 6 3 .dispatched [(0, 1, 1), (1, 1, 2), (4, 4, 77), (8, 8, 9 * 2 ^ 44 + 64), (16, 8, 128), (24, 8, 2 ^
     27)]]))).it d3, [], .fabricRead d3, by dsimp only; decide +kernel⟩,
   ⟨((fab.work 0 [ent 6 3 .dispatched [(0, 1, 1), (1, 1, 2), (4, 4, 77), (8, 8, 9 * 2 ^ 44 + 64), (16, 8, 128), (24, 8, 64)]])), d3,
     (((fab.work 0 [ent 6 3 .dispatched [(0, 1, 1), (1, 1, 2), (4, 4, 77), (8, 8, 9 * 2 ^ 44 + 64), (16, 8, 128), (24, 8, 64)]]))).it
     d3, [], .fabricRead d3, by dsimp only; unfold State.opsSettled; decide +kernel⟩,
   ⟨((fab.work 0 [ent 6 3 .dispatched [(0, 1, 6), (8, 8, 9 * 2 ^ 44)]])), d3, (((fab.work 0 [ent 6 3 .dispatched [(0, 1, 6), (8, 8, 9 * 2 ^
     44)]]))).it d3, [], .fabricFence d3, by dsimp only; unfold State.opsSettled; decide +kernel⟩⟩

theorem wit_FabricRequests :
  (∃ (s : State) (n : Fin 1048576) (x : FlowSrc) (o : FabOp) (q : Nat), s.quiescing = false ∧ s.fabOn = true ∧ n.val ≠ s.ownNode ∧ (s.flow
    n).src = some x ∧ x.opened = true ∧ (s.flow n).place = .onDie ∧ (s.flow n).hold = none ∧ s.unitFrozen 0x50 = false ∧
    (s.fab.reqs.find? fun r => r.node == n.val && (r.attempts == 0 || r.resend)) = none ∧ (s.fab.ops.find? fun o => o.pendingTo n) =
    some o ∧ (o.code = 1 ∨ o.code = 2) ∧ s.fab.reqs.length < 16384 ∧ s.fab.window n < 128 ∧ s.fab.busy n = true ∧ s.routePort n = some q
    ∧ s.opsSettled ∧ (∀ r ∈ s.fab.reqs, r.serial < s.fab.serial)) ∧
  (∃ (s : State), (s.quiescing = true ∨ s.fabOn = false)) ∧
  (∃ (s : State) (port : Fin 64) (p : Packet) (r : FabReq) (o : FabOp) (w : Work) (it : Item) (a : Nat), s.kept = false ∧ s.portReceives
    port = true ∧ p.kind = 0x80 ∧ s.fab.reqs = [r] ∧ r.tag = p.tag ∧ r.attempts ≠ 0 ∧ r.node = p.src ∧ r.opn = false ∧ r.op = some o.id
    ∧ s.fab.ops = [o] ∧ o.origin = .work w ∧ o.issuedAll = true ∧ o.fail = none ∧ o.poisoned = false ∧ o.corrected = false ∧ o.reads =
    [] ∧ o.code = r.kind ∧ s.item w = some it ∧ it.phase = .busy ∧ p.status = Status.ok.code ∧ p.poison = false ∧ r.fits p .ok = true ∧
    r.kind = 1 ∧ o.dest = .hub a) ∧
  (∃ (s : State) (port : Fin 64) (p : Packet) (r : FabReq) (o : FabOp) (w : Work) (it : Item), s.kept = false ∧ s.portReceives port = true
    ∧ p.kind = 0x80 ∧ s.fab.reqs = [r] ∧ r.tag = p.tag ∧ r.attempts ≠ 0 ∧ r.node = p.src ∧ r.opn = false ∧ r.op = some o.id ∧ s.fab.ops
    = [o] ∧ o.origin = .work w ∧ o.issuedAll = true ∧ o.fail = none ∧ o.poisoned = false ∧ o.corrected = false ∧ o.reads = [] ∧ o.code =
    r.kind ∧ s.item w = some it ∧ it.phase = .busy ∧ p.status = Status.ok.code ∧ p.poison = false ∧ r.fits p .ok = true ∧ r.kind = 2 ∧
    o.dest = .none) ∧
  (∃ (s : State) (port : Fin 64) (p : Packet), s.kept = false ∧ s.portReceives port = true ∧ p.kind = 0x80 ∧ (s.fab.reqs.find? fun r =>
    r.tag == p.tag && r.attempts != 0 && r.node == p.src) = none) ∧
  (∃ (s : State) (port : Fin 64) (p : Packet) (r : FabReq) (q : Nat), s.kept = false ∧ s.portReceives port = true ∧ p.kind = 0x81 ∧
    s.fab.reqs = [r] ∧ r.node = p.src ∧ r.kind ≠ 1 ∧ isReflection r.kind = false ∧ r.opn = false ∧ r.attempts ≠ 0 ∧ r.attempts < 5 ∧
    r.fseq = p.fseq ∧ s.routePort r.node = some q) ∧
  (∃ (s : State) (tag : Fin 16384) (r : FabReq) (q : Nat), s.fab.reqs = [r] ∧ r.tag = tag ∧ r.attempts ≠ 0 ∧ r.attempts < 5 ∧ isReflection
    r.kind = false ∧ s.routePort r.node = some q) ∧
  (∃ (s : State) (tag : Fin 16384) (r : FabReq) (o : FabOp) (w : Work) (it : Item), s.fab.reqs = [r] ∧ r.tag = tag ∧ r.attempts = 5 ∧
    r.opn = false ∧ r.kind = 2 ∧ r.op = some o.id ∧ s.fab.ops = [o] ∧ o.code = 2 ∧ o.origin = .work w ∧ o.fail = none ∧ o.dest = .none ∧
    o.reads = [] ∧ s.item w = some it ∧ it.phase = .busy) ∧
  (∃ (s : State) (tag : Fin 16384) (r : FabReq) (o : FabOp) (w : Work) (it : Item), s.fab.reqs = [r] ∧ r.tag = tag ∧ r.attempts = 0 ∧
    r.opn = false ∧ r.kind = 2 ∧ r.op = some o.id ∧ s.fab.ops = [o] ∧ o.code = 2 ∧ o.origin = .work w ∧ o.fail = none ∧ o.dest = .none ∧
    o.reads = [] ∧ s.item w = some it ∧ it.phase = .busy ∧ s.routePort r.node = none) :=
  ⟨⟨{ fab with fab := { flows := [(9, { src := some { opened := true, epoch := 3 } })], ops := [{ id := 1, origin := .work d3, code := 2, node := 9, off := 56, key := 77, len := 12, next := 12 }, { id := 2, origin := .work d3, code := 1, node := 9, off := 56, key := 77, len := 12, dest := .hub 100 }], reqs := [{ serial := 4, tag := 7, op := some 1, node := 9, kind := 2, attempts := 1, port := 3, fseq := 6 }], serial := 5 } },
     9, { opened := true, epoch := 3 },
     { id := 2, origin := .work d3, code := 1, node := 9, off := 56, key := 77, len := 12, dest := .hub 100 }, 3, by decide +kernel,
     by decide +kernel, by decide +kernel, by decide +kernel, by decide +kernel, by decide +kernel, by decide +kernel,
     by decide +kernel, by decide +kernel, by decide +kernel, by decide +kernel, by decide +kernel, by decide +kernel,
     by decide +kernel, by exact routePort_one (by decide +kernel), by unfold State.opsSettled; decide +kernel, by decide +kernel⟩,
   ⟨rdy, by decide +kernel⟩,
   ⟨{ (fab.work 0 [ent 6 3 .busy []]) with fab := { flows := [(9, { src := some { opened := true, epoch := 3 } })], ops := [{ id := 2, origin := .work d3, code := 1, node := 9, off := 56, key := 77, len := 12, next := 12, dest := .hub 100 }], reqs := [{ serial := 4, tag := 16383, op := some 2, node := 9, kind := 1, off := 64, len := 4, pos := 8, fseq := 6, port := 3, attempts := 1 }], serial := 5 } },
     3, { kind := 0x80, tag := 16383, src := 9, dst := 5, length := 4, data := [1, 2, 3, 4] },
     { serial := 4, tag := 16383, op := some 2, node := 9, kind := 1, off := 64, len := 4, pos := 8, fseq := 6, port := 3, attempts := 1 },
     { id := 2, origin := .work d3, code := 1, node := 9, off := 56, key := 77, len := 12, next := 12, dest := .hub 100 }, d3, (fab.work
     0 [ent 6 3 .busy []]).it d3, 100, by decide +kernel⟩,
   ⟨{ (fab.work 0 [ent 6 3 .busy []]) with fab := { flows := [(9, { src := some { opened := true, epoch := 3 } })], ops := [{ id := 2, origin := .work d3, code := 2, node := 9, off := 56, key := 77, len := 12, next := 12 }], reqs := [{ serial := 4, tag := 16383, op := some 2, node := 9, kind := 2, off := 64, len := 4, pos := 8, fseq := 6, port := 3, attempts := 1 }], serial := 5 } },
     3, { kind := 0x80, tag := 16383, src := 9, dst := 5 },
     { serial := 4, tag := 16383, op := some 2, node := 9, kind := 2, off := 64, len := 4, pos := 8, fseq := 6, port := 3, attempts := 1 },
     { id := 2, origin := .work d3, code := 2, node := 9, off := 56, key := 77, len := 12, next := 12 }, d3, (fab.work 0 [ent 6 3 .busy
     []]).it d3, by decide +kernel⟩,
   ⟨fab, 3, { kind := 0x80, tag := 16383, src := 9, dst := 5 }, by decide +kernel⟩,
   ⟨{ fab with fab := { flows := [(9, { src := some { opened := true, epoch := 3 } })], ops := [], reqs := [{ serial := 4, tag := 16383, op := some 2, node := 9, kind := 2, off := 64, len := 4, pos := 8, fseq := 6, port := 3, attempts := 4 }], serial := 5 } },
     3, { kind := 0x81, src := 9, dst := 5, fseq := 6 },
     { serial := 4, tag := 16383, op := some 2, node := 9, kind := 2, off := 64, len := 4, pos := 8, fseq := 6, port := 3, attempts := 4 },
     3, by decide +kernel, by decide +kernel, by decide +kernel, by decide +kernel, by decide +kernel, by decide +kernel,
     by decide +kernel, by decide +kernel, by decide +kernel, by decide +kernel, by decide +kernel,
     by exact routePort_one (by decide +kernel)⟩,
   ⟨{ fab with fab := { flows := [(9, { src := some { opened := true, epoch := 3 } })], ops := [], reqs := [{ serial := 4, tag := 16383, op := some 2, node := 9, kind := 2, off := 64, len := 4, pos := 8, fseq := 6, port := 3, attempts := 4 }], serial := 5 } },
     16383,
     { serial := 4, tag := 16383, op := some 2, node := 9, kind := 2, off := 64, len := 4, pos := 8, fseq := 6, port := 3, attempts := 4 },
     3, by decide +kernel, by decide +kernel, by decide +kernel, by decide +kernel, by decide +kernel,
     by exact routePort_one (by decide +kernel)⟩,
   ⟨{ (fab.work 0 [ent 6 3 .busy []]) with fab := { flows := [(9, { src := some { opened := true, epoch := 3 } })], ops := [{ id := 2, origin := .work d3, code := 2, node := 9, off := 56, key := 77, len := 12, next := 12 }], reqs := [{ serial := 4, tag := 16383, op := some 2, node := 9, kind := 2, off := 64, len := 4, pos := 8, fseq := 6, port := 3, attempts := 5 }], serial := 5 } },
     16383,
     { serial := 4, tag := 16383, op := some 2, node := 9, kind := 2, off := 64, len := 4, pos := 8, fseq := 6, port := 3, attempts := 5 },
     { id := 2, origin := .work d3, code := 2, node := 9, off := 56, key := 77, len := 12, next := 12 }, d3, (fab.work 0 [ent 6 3 .busy
     []]).it d3, by decide +kernel⟩,
   ⟨({ (fab.work 0 [ent 6 3 .busy []]) with fab := { flows := [(9, { src := some { opened := true, epoch := 3 } })], ops := [{ id := 2, origin := .work d3, code := 2, node := 9, off := 56, key := 77, len := 12, next := 12 }], reqs := [{ serial := 4, tag := 16383, op := some 2, node := 9, kind := 2, off := 64, len := 4, pos := 8, fseq := 6, port := 3 }], serial := 5 } }).with
     [(F.FAB_ROUTE_ports, 0, 0)], 16383,
     { serial := 4, tag := 16383, op := some 2, node := 9, kind := 2, off := 64, len := 4, pos := 8, fseq := 6, port := 3 },
     { id := 2, origin := .work d3, code := 2, node := 9, off := 56, key := 77, len := 12, next := 12 }, d3, (fab.work 0 [ent 6 3 .busy
     []]).it d3, by decide +kernel⟩⟩

theorem wit_TargetServes :
  (∃ (s : State) (port : Fin 64) (p : Packet) (x : FlowTgt), Admits s port p x ∧ p.fseq = x.expected ∧ x.expected < 2 ^ 32 ∧ p.poison =
    false ∧ Exports s p ∧ p.kind = 2) ∧
  (∃ (s : State) (port : Fin 64) (p : Packet) (x : FlowTgt), Admits s port p x ∧ p.fseq = x.expected ∧ x.expected < 2 ^ 32 ∧ p.poison =
    false ∧ Exports s p ∧ p.kind = 3) ∧
  (∃ (s : State) (port : Fin 64) (p : Packet) (x : FlowTgt), Admits s port p x ∧ p.kind = 1 ∧ p.ordered = false ∧ Exports s p) ∧
  (∃ (s : State) (port : Fin 64) (p : Packet) (x : FlowTgt), Admits s port p x ∧ p.kind = 4 ∧ p.fseq = x.expected ∧ x.expected < 2 ^ 32 ∧
    Exports s p ∧ (s.fab.cache.find? fun c => c.node == p.src && c.epoch == p.srcEpoch && c.aseq == p.aseq) = none ∧ p.aseq = (x.hwm +
    1) % 65536 ∧ x.hwm < 65536 ∧ (let n := if p.afnWide then 8 else 4; (s.memRead p.offset n).poisoned = false)) ∧
  (∃ (s : State) (port : Fin 64) (p : Packet) (x : FlowTgt), Admits s port p x ∧ p.kind = 5 ∧ p.fseq = x.expected ∧ x.expected < 2 ^ 32 ∧
    (let n := p.offset % 1024; (let slot := s.get F.FAB_RXQ_PTR_tail n % 2 ^ s.get F.FAB_RXQ_CFG_log2_slots n;
    (let a := s.get F.FAB_RXQ_CFG_base n * 2048 + slot * 2 ^ s.get F.FAB_RXQ_CFG_log2_slot_size n; s.isSet F.FAB_RXQ_CFG_enable n = true
    ∧ p.key = s.get F.FAB_RXQ_CFG_key n ∧ p.length + 16 ≤ 2 ^ s.get F.FAB_RXQ_CFG_log2_slot_size n ∧ s.ringFull n = false ∧ s.mapped a
    (p.length + 16) = true ∧ s.memHeld a (p.length + 16) = false)))) ∧
  (∃ (s : State) (port : Fin 64) (p : Packet) (x : FlowTgt), Admits s port p x ∧ p.kind = 6 ∧ p.opn = false ∧ p.fseq = x.expected ∧
    x.expected < 2 ^ 32) ∧
  (∃ (s : State) (port : Fin 64) (p : Packet) (x : FlowTgt), Admits s port p x ∧ p.kind = 6 ∧ p.opn = true) ∧
  (∃ (s : State) (port : Fin 64) (p : Packet) (st : Status), s.kept = false ∧ s.portReceives port = true ∧ s.unitFrozen 0x50 = false ∧
    s.headerFault p = some st ∧ s.discarding p.src = false ∧ (s.fab.held.any fun h => h.2.src == p.src) = false ∧ p.isKind 2 = true ∧
    s.log.staged.length < 8192) ∧
  (∃ (s : State) (port : Fin 64) (p : Packet) (x : FlowTgt), Admits s port p x ∧ p.kind = 2 ∧ p.fseq = x.expected ∧ x.expected < 2 ^ 32 ∧
    s.regionFor p.offset = none) ∧
  (∃ (s : State) (port : Fin 64) (p : Packet) (x : FlowTgt) (i : _), Admits s port p x ∧ p.kind = 2 ∧ p.fseq = x.expected ∧ x.expected < 2
    ^ 32 ∧ s.regionFor p.offset = some i ∧ p.key ≠ s.get F.FAB_REGION_key i) ∧
  (∃ (s : State) (port : Fin 64) (p : Packet) (x : FlowTgt) (d : _), Admits s port p x ∧ p.kind = 2 ∧ 0 < d ∧ d ≤ 128 ∧ p.fseq =
    (x.expected + d) % 2 ^ 32 ∧ x.expected < 2 ^ 32) :=
  ⟨⟨{ fab.with [(F.FAB_REGION_valid, 255, 1), (F.FAB_REGION_size, 255, 1), (F.FAB_REGION_key, 255, 77), (F.FAB_REGION_read, 255, 1), (F.FAB_REGION_write, 255, 1), (F.FAB_REGION_atomic, 255, 1)] with fab := { flows := [(9, { tgt := some { epoch := 3, expected := 6, hwm := 8 } })] }, mem := { rdy.mem with dram := { bytes := [(100, 5)] } } },
     3,
     { kind := 2, tag := 55, dst := 5, src := 9, dstEpoch := 7, srcEpoch := 3, fseq := 6, key := 77, offset := 100, length := 3, data := [1, 0, 3] },
     { epoch := 3, expected := 6, hwm := 8 }, by unfold Admits Exports; decide +kernel⟩,
   ⟨{ fab.with [(F.FAB_REGION_valid, 255, 1), (F.FAB_REGION_size, 255, 1), (F.FAB_REGION_key, 255, 77), (F.FAB_REGION_read, 255, 1), (F.FAB_REGION_write, 255, 1), (F.FAB_REGION_atomic, 255, 1)] with fab := { flows := [(9, { tgt := some { epoch := 3, expected := 6, hwm := 8 } })] }, mem := { rdy.mem with dram := { bytes := [(100, 5)] } } },
     3,
     { kind := 3, tag := 55, dst := 5, src := 9, dstEpoch := 7, srcEpoch := 3, fseq := 6, key := 77, offset := 100, length := 3, data := [1, 0, 3] },
     { epoch := 3, expected := 6, hwm := 8 }, by unfold Admits Exports; decide +kernel⟩,
   ⟨{ fab.with [(F.FAB_REGION_valid, 255, 1), (F.FAB_REGION_size, 255, 1), (F.FAB_REGION_key, 255, 77), (F.FAB_REGION_read, 255, 1), (F.FAB_REGION_write, 255, 1), (F.FAB_REGION_atomic, 255, 1)] with fab := { flows := [(9, { tgt := some { epoch := 3, expected := 6, hwm := 8 } })] }, mem := { rdy.mem with dram := { bytes := [(100, 5)] } } },
     3, { kind := 1, tag := 55, dst := 5, src := 9, dstEpoch := 7, srcEpoch := 3, fseq := 6, key := 77, offset := 100, length := 3 },
     { epoch := 3, expected := 6, hwm := 8 }, by unfold Admits Exports; decide +kernel⟩,
   ⟨{ fab.with [(F.FAB_REGION_valid, 255, 1), (F.FAB_REGION_size, 255, 1), (F.FAB_REGION_key, 255, 77), (F.FAB_REGION_read, 255, 1), (F.FAB_REGION_write, 255, 1), (F.FAB_REGION_atomic, 255, 1)] with fab := { flows := [(9, { tgt := some { epoch := 3, expected := 6, hwm := 8 } })] }, mem := { rdy.mem with dram := { bytes := [(100, 5)] } } },
     3,
     { kind := 4, tag := 55, dst := 5, src := 9, dstEpoch := 7, srcEpoch := 3, fseq := 6, key := 77, offset := 96, length := 8, aseq := 9, afnWide := true, data := leBytes 8 9 ++ leBytes 8 0 },
     { epoch := 3, expected := 6, hwm := 8 }, by dsimp only; unfold Admits Exports; decide +kernel⟩,
   ⟨{ fab.with [(F.FAB_RXQ_CFG_enable, 1023, 1), (F.FAB_RXQ_CFG_key, 1023, 77), (F.FAB_RXQ_CFG_sig_en, 1023, 1), (F.FAB_RXQ_CFG_base, 1023, 1), (F.FAB_RXQ_PTR_tail, 1023, 65535)] with fab := { flows := [(9, { tgt := some { epoch := 3, expected := 6, hwm := 8 } })] }, mem := { rdy.mem with dram := { bytes := [(100, 5)] } } },
     3,
     { kind := 5, tag := 55, dst := 5, src := 9, dstEpoch := 7, srcEpoch := 3, fseq := 6, key := 77, offset := 1023, length := 48, data := List.replicate 48 7 },
     { epoch := 3, expected := 6, hwm := 8 }, by dsimp only; unfold Admits; decide +kernel⟩,
   ⟨{ fab.with [(F.FAB_REGION_valid, 255, 1), (F.FAB_REGION_size, 255, 1), (F.FAB_REGION_key, 255, 77), (F.FAB_REGION_read, 255, 1), (F.FAB_REGION_write, 255, 1), (F.FAB_REGION_atomic, 255, 1)] with fab := { flows := [(9, { tgt := some { epoch := 3, expected := 6, hwm := 8 } })] }, mem := { rdy.mem with dram := { bytes := [(100, 5)] } } },
     3, { kind := 6, tag := 55, dst := 5, src := 9, dstEpoch := 7, srcEpoch := 3, fseq := 6, key := 77 },
     { epoch := 3, expected := 6, hwm := 8 }, by unfold Admits; decide +kernel⟩,
   ⟨{ fab.with [(F.FAB_REGION_valid, 255, 1), (F.FAB_REGION_size, 255, 1), (F.FAB_REGION_key, 255, 77), (F.FAB_REGION_read, 255, 1), (F.FAB_REGION_write, 255, 1), (F.FAB_REGION_atomic, 255, 1)] with fab := { flows := [(9, { tgt := some { epoch := 3, expected := 6, hwm := 8 } })] }, mem := { rdy.mem with dram := { bytes := [(100, 5)] } } },
     3, { kind := 6, tag := 55, dst := 5, src := 9, dstEpoch := 7, srcEpoch := 3, fseq := 6, key := 77, opn := true },
     { epoch := 3, expected := 6, hwm := 8 }, by unfold Admits; decide +kernel⟩,
   ⟨{ fab.with [(F.FAB_REGION_valid, 255, 1), (F.FAB_REGION_size, 255, 1), (F.FAB_REGION_key, 255, 77), (F.FAB_REGION_read, 255, 1), (F.FAB_REGION_write, 255, 1), (F.FAB_REGION_atomic, 255, 1)] with fab := { flows := [(9, { tgt := some { epoch := 3, expected := 6, hwm := 8 } })] }, mem := { rdy.mem with dram := { bytes := [(100, 5)] } } },
     3,
     { kind := 2, tag := 55, dst := 5, src := 9, dstEpoch := 7, srcEpoch := 3, fseq := 6, key := 77, offset := 100, length := 3, data := [1, 0, 3], rsv := true },
     .eProtocol, by decide +kernel⟩,
   ⟨{ fab.with [(F.FAB_REGION_valid, 255, 1), (F.FAB_REGION_size, 255, 1), (F.FAB_REGION_key, 255, 77), (F.FAB_REGION_read, 255, 1), (F.FAB_REGION_write, 255, 1), (F.FAB_REGION_atomic, 255, 1)] with fab := { flows := [(9, { tgt := some { epoch := 3, expected := 6, hwm := 8 } })] }, mem := { rdy.mem with dram := { bytes := [(100, 5)] } } },
     3,
     { kind := 2, tag := 55, dst := 5, src := 9, dstEpoch := 7, srcEpoch := 3, fseq := 6, key := 77, offset := 2 ^ 21, length := 3, data := [1, 0, 3] },
     { epoch := 3, expected := 6, hwm := 8 }, by unfold Admits; decide +kernel⟩,
   ⟨{ fab.with [(F.FAB_REGION_valid, 255, 1), (F.FAB_REGION_size, 255, 1), (F.FAB_REGION_key, 255, 77), (F.FAB_REGION_read, 255, 1), (F.FAB_REGION_write, 255, 1), (F.FAB_REGION_atomic, 255, 1)] with fab := { flows := [(9, { tgt := some { epoch := 3, expected := 6, hwm := 8 } })] }, mem := { rdy.mem with dram := { bytes := [(100, 5)] } } },
     3,
     { kind := 2, tag := 55, dst := 5, src := 9, dstEpoch := 7, srcEpoch := 3, fseq := 6, key := 78, offset := 100, length := 3, data := [1, 0, 3] },
     { epoch := 3, expected := 6, hwm := 8 }, 255, by unfold Admits; decide +kernel⟩,
   ⟨{ fab.with [(F.FAB_REGION_valid, 255, 1), (F.FAB_REGION_size, 255, 1), (F.FAB_REGION_key, 255, 77), (F.FAB_REGION_read, 255, 1), (F.FAB_REGION_write, 255, 1), (F.FAB_REGION_atomic, 255, 1)] with fab := { flows := [(9, { tgt := some { epoch := 3, expected := 6, hwm := 8 } })] }, mem := { rdy.mem with dram := { bytes := [(100, 5)] } } },
     3,
     { kind := 2, tag := 55, dst := 5, src := 9, dstEpoch := 7, srcEpoch := 3, fseq := 134, key := 77, offset := 100, length := 3, data := [1, 0, 3] },
     { epoch := 3, expected := 6, hwm := 8 }, 128, by unfold Admits; decide +kernel⟩⟩

theorem wit_FabricHousekeeping :
  (∃ (s : State) (node : Fin 1048576) (f : Flow), s.flow node = f ∧ f.place = .fetching ∧ f.src.isSome = true ∧ (s.fab.held.any fun h =>
    h.2.src == node.val || (s.flow h.2.src).place == .backing) = false ∧ s.fab.onDie.length < 16384) ∧
  (∃ (s : State) (node : Fin 1048576) (f : Flow), s.flow node = f ∧ f.place = .fetching ∧ f.src.isSome = true ∧ (s.fab.held.any fun h =>
    h.2.src == node.val || (s.flow h.2.src).place == .backing) = false) ∧
  (∃ (s : State) (node : Fin 1048576) (h : Nat), (s.flow node).hold = some h) ∧
  (∃ (s : State) (node : Fin 1048576) (x : FlowSrc), (s.flow node).src = some x ∧ s.fab.opens = [] ∧ s.fab.busy node = false ∧
    (s.fab.ops.any fun o => o.node == node.val || o.nodes.contains node.val) = false ∧ x.posted = none) ∧
  (∃ (s : State) (node : Fin 1048576) (e : Nat × Nat × Packet), (s.fab.opens.find? fun e => e.2.2.src == node.val) = some e ∧
    s.portReceives e.2.1 = true) ∧
  (∃ (s : State) (node : Fin 1048576), s.discarding node = false ∧
    (let n := ((SMap.get [] s.fab.viol node).filter fun t => decide (s.time < t + 1000000)).length; 1024 < n)) ∧
  (∃ (s : State) (node : Fin 1048576), s.discarding node = false ∧
    (let n := ((SMap.get [] s.fab.viol node).filter fun t => decide (s.time < t + 1000000)).length; n ≤ 1024)) ∧
  (∃ (s : State) (node : Fin 1048576) (since : Nat), SMap.get none s.fab.discard node = some since) ∧
  (∃ (s : State) (n : Fin 1024) (j : Nat) (w : BarAcc), Reaches s .FAB_RXQ_PTR n w j) ∧
  (∃ (s : State) (n : Fin 1024) (j : Nat) (w : BarAcc), Reaches s .FAB_RXQ_CFG n w j ∧ s.isSet F.FAB_RXQ_CFG_enable j = true ∧ w.touches
    F.FAB_RXQ_CFG_enable = true ∧ s.after w F.FAB_RXQ_CFG_enable j = 0) :=
  ⟨⟨{ fab with fab := { flows := [(9, { place := .fetching, src := some { opened := true } })] } }, 9,
     { place := .fetching, src := some { opened := true } }, by decide +kernel⟩,
   ⟨{ fab with fab := { flows := [(9, { place := .fetching, src := some { opened := true } })] } }, 9,
     { place := .fetching, src := some { opened := true } }, by decide +kernel⟩,
   ⟨{ fab with fab := { flows := [(9, { hold := some 77 }), (12, { hold := some 8 })] } }, 9, 77, by decide +kernel⟩,
   ⟨{ fab with fab := { flows := [(9, { src := some { opened := true, lastUse := 4 } })] } }, 9, { opened := true, lastUse := 4 },
     by decide +kernel⟩,
   ⟨{ fab with fab := { opens := [(5, 3, { kind := 6, opn := true, src := 9, tag := 4 })] } }, 9, (5, 3,
     { kind := 6, opn := true, src := 9, tag := 4 }), by decide +kernel⟩,
   ⟨{ rdy with fab := { viol := [(9, List.replicate 1025 3600000000000)] } }, 9, by dsimp only; decide +kernel⟩,
   ⟨{ rdy with fab := { viol := [(9, List.replicate 1024 3600000000000)] } }, 9, by dsimp only; decide +kernel⟩,
   ⟨{ rdy with fab := { discard := [(9, some 7), (12, some 5)] } }, 9, 7, by decide +kernel⟩,
   ⟨rdy, 1023, 1023, acc (2 ^ 64 - 1) 0 8 0, by unfold Reaches; decide +kernel⟩,
   ⟨rdy.with [(F.FAB_RXQ_CFG_enable, 1023, 1), (F.FAB_RXQ_PTR_tail, 1023, 5)], 1023, 1023, acc 0 8 8 0, by unfold Reaches; decide +kernel⟩⟩

theorem wit_BoardWindow :
  (∃ (s : State) (addr : BitVec 48) (n : Nat), isBoard addr.toNat = true ∧ s.winPlace addr.toNat n = .refused) ∧
  (∃ (s : State) (addr : BitVec 48) (n : Nat) (x : _), isBoard addr.toNat = true ∧ s.winPlace addr.toNat n = .here x ∧ s.memHeld x n =
    false) ∧
  (∃ (s : State) (addr : BitVec 48) (n : Nat) (x : _) (d : List Byte), isBoard addr.toNat = true ∧ d.length = n ∧ s.winPlace addr.toNat n
    = .here x ∧ s.memHeld x n = false) ∧
  (∃ (s : State) (addr : BitVec 48) (n : Nat) (node : _) (off : _) (key : _), isBoard addr.toNat = true ∧ s.winPlace addr.toNat n =
    .remote node off key ∧ s.excludedNode node = false ∧ 0 < n ∧ s.opsSettled) :=
  ⟨⟨rdy, 0x420000000000, 64, by decide +kernel⟩,
   ⟨rdy, 0x400000000040, 64, 64, by decide +kernel⟩,
   ⟨rdy, 0x400000000040, 2, 64, [1, 2], by decide +kernel⟩,
   ⟨fab.with [(F.FAB_BOARD_valid, 7, 1), (F.FAB_BOARD_node, 7, 9), (F.FAB_BOARD_key, 7, 77)], 0x4E0000000040, 64, 9, 64, 77,
     by unfold State.opsSettled; decide +kernel⟩⟩

theorem wit_PortTraining :
  (∃ (s : State) (p : Fin 64), s.portState p = 2 ∧ (s.port p).step = 1) ∧
  (∃ (s : State) (p : Fin 64), s.portState p = 2 ∧ (s.port p).step = 2) ∧
  (∃ (s : State) (p : Fin 64) (r : TrainRead), s.portState p = 2 ∧ (s.port p).step = 5 ∧
    (let left := (s.port p).usable.filter fun n => r.usable.contains n && !(s.port p).optBad.contains n; s.minWidth p ≤ left.length)) ∧
  (∃ (s : State) (p : Fin 64) (r : TrainRead), s.portState p = 2 ∧ (s.port p).step = 5 ∧
    (let left := (s.port p).usable.filter fun n => r.usable.contains n && !(s.port p).optBad.contains n; left.length < s.minWidth p ∧
    (s.port p).fails < 15)) ∧
  (∃ (s : State) (p : Fin 64) (r : TrainRead), s.portState p = 2 ∧ (s.port p).step = 5 ∧
    (let left := (s.port p).usable.filter fun n => r.usable.contains n && !(s.port p).optBad.contains n; left.length < s.minWidth p ∧ 15
    ≤ (s.port p).fails)) ∧
  (∃ (s : State) (p : Fin 64), s.portState p = 2 ∧ (s.port p).step = 4) ∧
  (∃ (s : State) (p : Fin 64), s.portState p = 2 ∧ (s.port p).step = 0) ∧
  (∃ (s : State) (p : Fin 64), (s.portState p = 1 ∨ s.portState p = 5)) ∧
  (∃ (s : State) (p : Fin 64), (s.portState p = 3 ∨ s.portState p = 4)) ∧
  (∃ (s : State) (p : Fin 64) (w : BarAcc) (i : Fin 65), (s.portState p = 3 ∨ s.portState p = 4) ∧ Reaches s .WIN_PORT_CTRL i w p ∧ w.bits
    F.WIN_PORT_CTRL_retrain_req = 1) ∧
  (∃ (s : State) (p : Fin 64), s.portState p ≠ 3 ∧ s.portState p ≠ 4) ∧
  (∃ (s : State) (i : Fin 65) (j : Nat) (w : BarAcc), Reaches s .WIN_PORT_CTRL i w j ∧ w.bits F.WIN_PORT_CTRL_recal_req = 1 ∧ s.isSet
    F.WIN_PORT_CFG_enable (min j 63) = true) ∧
  (∃ (s : State) (p : Fin 65), s.portState p = 0 ∧ (s.port p).calibrated = false ∧ s.boot.phase = .ready) ∧
  (∃ (s : State) (p : Fin 64) (h : Nat), (s.port p).heldSince = some h ∧ s.portState p = 6) ∧
  (∃ (s : State) (ring : Fin 2340) (offset : Int), ring.val / 2 < 1161 ∧ (ring.val / 2 / 18 = 64 ∨ (s.port (ring.val / 2 / 18)).calibrated
    = true) ∧ (let fld := if ring.val % 2 = 0 then F.WIN_LANE_STAT_tx_heater else F.WIN_LANE_STAT_rx_heater; s.get fld (ring.val / 2) ≤
    1023 ∧ -12 ≤ offset ∧ offset ≤ 12)) ∧
  (∃ (s : State) (p : Fin 64), s.linkUp p = true ∧ s.portState p ≠ 6) ∧
  (∃ (s : State) (p : Fin 64), s.portState p = 3) ∧
  (∃ (s : State) (p : Fin 65) (r : OptRead), r.drop = [] ∧ (s.port p).locate r = none) ∧
  (∃ (s : State) (p : Fin 65) (r : OptRead) (l : _), r.drop = [] ∧ (s.port p).locate r = some l ∧ l.stage ≠ 1 ∧ l.stage < 8 ∧ l.wavelength
    < 32) :=
  ⟨⟨{ rdy.with [(F.WIN_PORT_STAT_state, 63, 2)] with ports := [(63, { step := 1, calibrated := true })] }, 63, by decide +kernel⟩,
   ⟨{ rdy.with [(F.WIN_PORT_STAT_state, 63, 2)] with ports := [(63, { step := 2, calibrated := true })] }, 63, by decide +kernel⟩,
   ⟨{ rdy.with [(F.WIN_PORT_STAT_state, 63, 2)] with ports := [(63, { step := 5, calibrated := true, usable := List.range 18, optBad := [8] })] },
     63, { usable := List.range 9 }, by dsimp only; decide +kernel⟩,
   ⟨{ rdy.with [(F.WIN_PORT_STAT_state, 63, 2)] with ports := [(63, { step := 5, calibrated := true, usable := List.range 18, optBad := [7], fails := 14 })] },
     63, { usable := List.range 8 }, by dsimp only; decide +kernel⟩,
   ⟨{ rdy.with [(F.WIN_PORT_STAT_state, 63, 2)] with ports := [(63, { step := 5, calibrated := true, usable := List.range 18, optBad := [7], fails := 15 })] },
     63, { usable := List.range 8 }, by dsimp only; decide +kernel⟩,
   ⟨{ rdy.with [(F.WIN_PORT_STAT_state, 63, 2)] with ports := [(63, { step := 4, calibrated := true })] }, 63, by decide +kernel⟩,
   ⟨{ rdy.with [(F.WIN_PORT_STAT_state, 63, 2)] with ports := [(63, { step := 0, calibrated := true })] }, 63, by decide +kernel⟩,
   ⟨rdy.with [(F.WIN_PORT_STAT_state, 63, 1)], 63, by decide +kernel⟩,
   ⟨{ rdy.with [(F.WIN_PORT_STAT_state, 63, 3)] with ports := [(63, { step := 6, calibrated := true, helloDone := true, txItems := [{ seq := 4, n := 1, out := .linkNak 63 0 }] })] },
     63, by decide +kernel⟩,
   ⟨{ rdy.with [(F.WIN_PORT_STAT_state, 63, 3)] with ports := [(63, { step := 6, calibrated := true, helloDone := true, txItems := [{ seq := 4, n := 1, out := .linkNak 63 0 }] })] },
     63, acc 2 0 8 0, 63, by unfold Reaches; decide +kernel⟩,
   ⟨rdy, 63, by decide +kernel⟩,
   ⟨rdy, 64, 64, acc 4 0 8 0, by unfold Reaches; decide +kernel⟩,
   ⟨rdy, 64, by decide +kernel⟩,
   ⟨{ rdy.with [(F.WIN_PORT_STAT_state, 63, 6)] with ports := [(63, { heldSince := some 9 })] }, 63, 9, by decide +kernel⟩,
   ⟨rdy.with [(F.WIN_LANE_STAT_rx_heater, 1160, 1020)], 2321, 12, by dsimp only; decide +kernel⟩,
   ⟨rdy.with [(F.WIN_PORT_STAT_state, 63, 4)], 63, by decide +kernel⟩,
   ⟨rdy.with [(F.WIN_PORT_STAT_state, 63, 3)], 63, by decide +kernel⟩,
   ⟨rdy, 64, { laser := 2260, splitter := 2260, bank := List.replicate 18 2260 }, by decide +kernel⟩,
   ⟨{ rdy with ports := [(64, { refr := { laser := 2500, splitter := 2500, bank := List.replicate 18 2500 } })] }, 64,
     { laser := 2500, splitter := 1899, bank := List.replicate 18 1899 }, ⟨2, 31, 601⟩, by decide +kernel⟩⟩

theorem wit_LinkService :
  (∃ (s : State) (p : Fin 64) (f : Flit), s.linkUp p = true ∧ f.corrected = [] ∧ f.newMap = false ∧ f.rsvFlag = false ∧ f.nak = false ∧
    f.pause = false ∧ (s.port p).txItems = [] ∧ (s.port p).txWait = [] ∧ f.ack = (s.port p).txNext ∧ (s.port p).txNext < 65536 ∧ f.crcOk
    = true ∧ f.typ = .linkControl ∧ f.badCtl = false ∧ f.seq = (s.port p).rxNext) ∧
  (∃ (s : State) (p : Fin 64) (f : Flit), s.linkUp p = true ∧ f.corrected = [] ∧ f.newMap = false ∧ f.rsvFlag = false ∧ f.nak = false ∧
    f.pause = false ∧ (s.port p).txItems = [] ∧ (s.port p).txWait = [] ∧ f.ack = (s.port p).txNext ∧ (s.port p).txNext < 65536 ∧ f.crcOk
    = false ∧ (s.port p).nakAt = none) ∧
  (∃ (s : State) (p : Fin 64) (f : Flit) (i : TxItem), s.linkUp p = true ∧ f.corrected = [] ∧ f.newMap = false ∧ f.rsvFlag = false ∧ f.nak
    = false ∧ f.crcOk = true ∧ f.typ = .idle ∧ (s.port p).txItems = [i] ∧ (s.port p).txWait = [] ∧ 0 < i.n ∧ i.n < 65536 ∧ (s.port
    p).txNext < 65536 ∧ f.ack = (s.port p).txNext ∧ i.seq = ((s.port p).txNext + 65536 - i.n) % 65536) ∧
  (∃ (s : State) (p : Fin 64), s.linkUp p = false ∧ s.portState p ≠ 2) ∧
  (∃ (s : State) (p : Fin 64) (i : TxItem) (l : List TxItem), s.linkUp p = true ∧ (s.port p).txItems = i :: l ∧ (∀ x ∈ i :: l, x.replays <
    7)) ∧
  (∃ (s : State) (p : Fin 64), ((s.port p).viols.filter fun t => decide (s.time < t + 1000000)).length ≤ 1024) ∧
  (∃ (s : State) (p : Fin 64), 1024 < ((s.port p).viols.filter fun t => decide (s.time < t + 1000000)).length ∧ (s.portState p = 3 ∨
    s.portState p = 4) ∧ (let n := ((s.port p).floods.filter fun t => decide (s.time < t + 1000000000)).length; n < 2)) ∧
  (∃ (s : State) (p : Fin 64), 1024 < ((s.port p).viols.filter fun t => decide (s.time < t + 1000000)).length ∧ (s.portState p = 3 ∨
    s.portState p = 4) ∧ (let n := ((s.port p).floods.filter fun t => decide (s.time < t + 1000000000)).length; 2 ≤ n)) ∧
  (∃ (s : State) (p : Fin 65) (n : Fin 18), s.inStripe p n = false) ∧
  (∃ (s : State) (p : Fin 65) (n : Fin 18), p ≠ 64 ∧ s.inStripe p n = true ∧ (s.port p).proposal = none ∧ (s.port p).failed = [] ∧
    (let m := changedMap (s.port p).rxMap [n.val] n 0; s.minWidth p ≤ mapWidth m)) ∧
  (∃ (s : State) (n : Fin 18), s.inStripe 64 n = true ∧ (s.port 64).failed = []) ∧
  (∃ (s : State) (p : Fin 64) (g : Fin 256) (m : LaneMap), s.linkUp p = true ∧ s.portState p ≠ 6 ∧ s.goodMap p g m = true) ∧
  (∃ (s : State) (p : Fin 64) (g : Fin 256) (m : LaneMap), s.linkUp p = true ∧ s.portState p ≠ 6 ∧ s.goodMap p g m = false) ∧
  (∃ (s : State) (p : Fin 64) (m : List Nat) (k : Nat) (a : Nat), (s.port p).proposal = some (m, k, a) ∧ k < 3 ∧ s.linkUp p = true) ∧
  (∃ (s : State) (p : Fin 64), s.linkUp p = true ∧ s.portState p ≠ 6) ∧
  (∃ (s : State) (n : Fin 18) (id : Fin 256), s.inStripe 64 n = true ∧ id.val = n + 1) ∧
  (∃ (s : State) (p : Fin 65) (n : Fin 18), ((s.port p).recovering.find? fun e => e.1 == n.val) = some (n.val, true)) ∧
  (∃ (s : State) (p : Fin 64), s.portState p = 2) ∧
  (∃ (s : State) (p : Fin 64), s.fab.reqs = [] ∧ s.portState p = 3) ∧
  (∃ (s : State) (p : Fin 64), s.fab.reqs = [] ∧ s.portState p ≠ 3) ∧
  (∃ (s : State) (p : Fin 64), s.portState p = 4 ∧ (s.port p).adopting = true ∧ (s.port p).txItems = [] ∧ s.incoming F.WIN_PORT_CFG_enable
    p = 1) ∧
  (∃ (s : State) (p : Fin 64), (s.port p).adopting = false) ∧
  (∃ (s : State) (w : Work) (it : Item) (d : _), s.fresh w 0x0D = some it ∧ s.darkFormat it.payload = some d) ∧
  (∃ (s : State) (w : Work) (it : Item), s.fresh w 0x0D = some it ∧ s.darkFormat it.payload = none ∧ s.fab.reqs = []) ∧
  (∃ (s : State) (p : Fin 64) (d : DarkWait) (it : Item), (s.port p).dark = some d ∧ s.item d.work = some it ∧ it.phase = .busy ∧
    darkPorts it.payload = [p.val]) :=
  ⟨⟨{ rdy.with [(F.WIN_PORT_STAT_state, 63, 3)] with ports := [(63, { calibrated := true, rxNext := 65535, txNext := 65535 })] }, 63,
     { typ := .linkControl, seq := 65535, ack := 65535 }, by decide +kernel⟩,
   ⟨{ rdy.with [(F.WIN_PORT_STAT_state, 63, 3)] with ports := [(63, { calibrated := true, rxNext := 65535, txNext := 65535 })] }, 63,
     { typ := .linkControl, seq := 65535, ack := 65535, crcOk := false }, by decide +kernel⟩,
   ⟨{ rdy.with [(F.WIN_PORT_STAT_state, 63, 3)] with ports := [(63, { calibrated := true, txNext := 1, txItems := [{ seq := 65534, n := 3, out := .linkNak 63 0 }] })] },
     63, { typ := .idle, ack := 1, pause := true }, { seq := 65534, n := 3, out := .linkNak 63 0 }, by decide +kernel⟩,
   ⟨rdy, 63, by decide +kernel⟩,
   ⟨{ rdy.with [(F.WIN_PORT_STAT_state, 63, 3)] with ports := [(63, { calibrated := true, txItems := [{ seq := 4, n := 1, out := .linkNak 63 0, replays := 6 }] })] },
     63, { seq := 4, n := 1, out := .linkNak 63 0, replays := 6 }, [], by decide +kernel⟩,
   ⟨{ rdy.with [(F.WIN_PORT_STAT_state, 63, 3)] with ports := [(63, { calibrated := true, viols := List.replicate 1024 3600000000000 })] },
     63, by decide +kernel⟩,
   ⟨{ rdy.with [(F.WIN_PORT_STAT_state, 63, 3)] with ports := [(63, { calibrated := true, viols := List.replicate 1025 3600000000000, floods := [3600000000000] })] },
     63, by dsimp only; decide +kernel⟩,
   ⟨{ rdy.with [(F.WIN_PORT_STAT_state, 63, 3)] with ports := [(63, { calibrated := true, viols := List.replicate 1025 3600000000000, floods := [3600000000000, 3600000000000] })] },
     63, by dsimp only; decide +kernel⟩,
   ⟨rdy, 64, 17, by decide +kernel⟩,
   ⟨{ rdy.with [(F.WIN_PORT_STAT_state, 63, 3)] with ports := [(63, { calibrated := true, rxMap := (List.range 16 ++ [0xFE, 0xFE]) })] },
     63, 15, by dsimp only; decide +kernel⟩,
   ⟨{ rdy.with [(F.WIN_PORT_STAT_state, 64, 3)] with ports := [(64, { calibrated := true, rxMap := (List.range 9 ++ List.replicate 9 0xFF) })] },
     8, by decide +kernel⟩,
   ⟨{ rdy.with [(F.WIN_PORT_STAT_state, 63, 3), (F.WIN_PORT_STAT_map_gen_tx, 63, 255)] with ports := [(63, { calibrated := true })] }, 63,
     0, (List.range 16 ++ [0xFF, 0xFE]), by decide +kernel⟩,
   ⟨{ rdy.with [(F.WIN_PORT_STAT_state, 63, 3)] with ports := [(63, { calibrated := true })] }, 63, 2, (List.range 16 ++ [0xFF, 0xFE]),
     by decide +kernel⟩,
   ⟨{ rdy.with [(F.WIN_PORT_STAT_state, 63, 3)] with ports := [(63, { calibrated := true, proposal := some ((List.range 16 ++ [0xFF, 0xFE]), 2, 5) })] },
     63, (List.range 16 ++ [0xFF, 0xFE]), 2, 5, by decide +kernel⟩,
   ⟨{ rdy.with [(F.WIN_PORT_STAT_state, 63, 3)] with ports := [(63, { calibrated := true, txMap := (List.range 16 ++ [0xFE, 0xFE]) })] },
     63, by decide +kernel⟩,
   ⟨{ rdy.with [(F.WIN_PORT_STAT_state, 64, 3)] with ports := [(64, { calibrated := true, rxMap := (List.range 9 ++ List.replicate 9 0xFF) })] },
     7, 8, by decide +kernel⟩,
   ⟨{ rdy.with [(F.WIN_PORT_STAT_state, 63, 3)] with ports := [(63, { calibrated := true, recovering := [(15, true)], rxMap := (List.range 16 ++ [0xFE, 0xFE]) })] },
     63, 15, by decide +kernel⟩,
   ⟨rdy.with [(F.WIN_PORT_STAT_state, 63, 2)], 63, by decide +kernel⟩,
   ⟨{ rdy.with [(F.WIN_PORT_STAT_state, 63, 3)] with ports := [(63, { calibrated := true })] }, 63, by decide +kernel⟩,
   ⟨{ rdy.with [(F.WIN_PORT_STAT_state, 63, 4)] with ports := [(63, { calibrated := true })] }, 63, by decide +kernel⟩,
   ⟨{ rdy.with [(F.WIN_PORT_STAT_state, 63, 4)] with ports := [(63, { calibrated := true, adopting := true })] }, 63, by decide +kernel⟩,
   ⟨{ rdy.with [(F.WIN_PORT_STAT_state, 63, 4)] with ports := [(63, { calibrated := true })] }, 63, by decide +kernel⟩,
   ⟨(rdy.jobAt 13 [(0, 8, 2 ^ 63)]), d3, ((rdy.jobAt 13 [(0, 8, 2 ^ 63)])).it d3, 40, by decide +kernel⟩,
   ⟨{ (rdy.jobAt 13 [(0, 8, 2 ^ 63), (8, 4, 5000)]).with [(F.WIN_PORT_STAT_state, 63, 3)] with ports := [] }, d3,
     ({ (rdy.jobAt 13 [(0, 8, 2 ^ 63), (8, 4, 5000)]).with [(F.WIN_PORT_STAT_state, 63, 3)] with ports := [] }).it d3,
     by decide +kernel⟩,
   ⟨{ (rdy.work 0 [ent 13 3 .busy [(0, 8, 2 ^ 63), (8, 4, 5000)]]).with [(F.WIN_PORT_STAT_state, 63, 1)] with ports := [(63, { dark := some { work := d3, until_ := 77, node := none } })] },
     63, { work := d3, until_ := 77, node := none },
     ({ (rdy.work 0 [ent 13 3 .busy [(0, 8, 2 ^ 63), (8, 4, 5000)]]).with [(F.WIN_PORT_STAT_state, 63, 1)] with ports := [(63, { dark := some { work := d3, until_ := 77, node := none } })] }).it
     d3, by decide +kernel⟩⟩

theorem wit_CollectiveSessions :
  (∃ (s : State) (w : Work) (it : Item) (f : _), s.fresh w 0x05 = some it ∧ fieldAt it.payload 0 1 = 0 ∧ colFormat it.payload = some f) ∧
  (∃ (s : State) (w : Work) (it : Item), s.fresh w 0x05 = some it ∧ fieldAt it.payload 0 1 = 0 ∧ (let k := fieldAt it.payload 1 1;
    colFormat it.payload = none ∧ s.isSet F.SEC_EXCL_STAT_shutter 0 = false ∧ s.sessState k ≠ 0)) ∧
  (∃ (s : State) (w : Work) (it : Item), s.fresh w 0x05 = some it ∧ fieldAt it.payload 0 1 = 0 ∧ (let k := fieldAt it.payload 1 1;
    (let a := fieldAt it.payload 8 8; (let d := s.memRead a 64; (let x := (s.sessionValues d.bytes); (let fp := 2 * x.2.1 * x.1 / 128;
    colFormat it.payload = none ∧ s.isSet F.SEC_EXCL_STAT_shutter 0 = false ∧ s.sessState k = 0 ∧ s.mayLocal it.ctx a 64 false = true ∧
    s.memHeld a 64 = false ∧ d.poisoned = false ∧ s.sessionBad k d.bytes = false ∧ fp ≤ s.get F.COL_POOL_free_units 0 ∧ sessionEdges
    s.ownNode d.bytes ≠ some [])))))) ∧
  (∃ (s : State) (port : Fin 64) (p : ColPacket) (e : ColEdge) (w : Work) (it : Item), p.kind = 0x93 ∧ s.kept = false ∧ s.portReceives
    port = true ∧ s.unitFrozen 0x40 = false ∧ p.rsv = false ∧ p.length = 8 ∧ p.data.length = 8 ∧ p.dst = s.ownNode ∧ p.tree < 2 ∧
    p.session < 8 ∧ s.ownDigest ≠ 0 ∧ leNat p.data = s.ownDigest ∧ s.sessState p.session = 1 ∧ (s.sess p.session).edges = [e] ∧ e.node =
    p.src ∧ (s.sess p.session).setup = some w ∧ s.item w = some it ∧ it.phase = .busy ∧ s.joinMatches p e = true) ∧
  (∃ (s : State) (port : Fin 64) (p : ColPacket) (e : ColEdge) (w : Work) (it : Item), p.kind = 0x93 ∧ s.kept = false ∧ s.portReceives
    port = true ∧ s.unitFrozen 0x40 = false ∧ p.rsv = false ∧ p.length = 8 ∧ p.data.length = 8 ∧ p.dst = s.ownNode ∧ p.tree < 2 ∧
    p.session < 8 ∧ s.ownDigest ≠ 0 ∧ leNat p.data = s.ownDigest ∧ s.sessState p.session = 1 ∧ (s.sess p.session).edges = [e] ∧ e.node =
    p.src ∧ (s.sess p.session).setup = some w ∧ s.item w = some it ∧ it.phase = .busy ∧ s.joinMatches p e = false) ∧
  (∃ (s : State) (k : Fin 8), s.sessState k = 1) ∧
  (∃ (s : State) (k : Fin 8) (w : _) (it : _), s.sessState k = 1 ∧ (s.sess k).setup = some w ∧ s.item w = some it ∧ it.phase = .busy) ∧
  (∃ (s : State) (w : Work) (it : Item), s.fresh w 0x05 = some it ∧ fieldAt it.payload 0 1 = 5 ∧ colFormat it.payload = none ∧
    (let k := fieldAt it.payload 1 1; (s.sessState k = 2 ∨ s.sessState k = 4) ∧ (s.sess k).run = none ∧ (s.sess k).waiting = [])) ∧
  (∃ (s : State) (w : Work) (it : Item), s.fresh w 0x05 = some it ∧ fieldAt it.payload 0 1 = 5 ∧ colFormat it.payload = none ∧
    (let k := fieldAt it.payload 1 1; s.sessState k = 2 ∧ (s.sess k).run ≠ none)) ∧
  (∃ (s : State) (port : Fin 64) (p : ColPacket), p.kind = 0x92 ∧ s.kept = false ∧ s.portReceives port = true ∧ s.unitFrozen 0x40 = false
    ∧ p.rsv = false ∧ p.length = p.data.length ∧ p.dst = s.ownNode ∧ p.tree < 2 ∧ p.session < 8 ∧ s.sessState p.session = 2 ∧
    p.generation = s.get F.COL_SESSION_STAT_generation p.session ∧ p.key = (s.sess p.session).key ∧ s.get F.COL_SESSION_STAT_cause
    p.session = 0 ∧ (s.sess p.session).run = none) ∧
  (∃ (s : State) (k : Fin 8) (n : Fin 1048576) (e : ColEdge), ((s.sess k).edges.find? fun e => e.node == n.val) = some e ∧ s.sessState k =
    2 ∧ (s.sess k).run = none ∧ s.get F.COL_SESSION_STAT_cause k = 0) :=
  ⟨⟨(fab.work 0 [ent 5 3 .dispatched [(1, 1, 7), (8, 8, 65)]]), d3, ((fab.work 0 [ent 5 3 .dispatched [(1, 1, 7), (8, 8, 65)]])).it d3, 40,
     by decide +kernel⟩,
   ⟨((fab.work 0 [ent 5 3 .dispatched [(1, 1, 7), (8, 8, 64)]])).with [(F.COL_SESSION_STAT_state, 7, 2), (F.COL_SESSION_STAT_generation, 7,
     44)], d3, (((fab.work 0 [ent 5 3 .dispatched [(1, 1, 7), (8, 8, 64)]])).with [(F.COL_SESSION_STAT_state, 7, 2),
     (F.COL_SESSION_STAT_generation, 7, 44)]).it d3, by dsimp only; decide +kernel⟩,
   ⟨{ (fab.work 0 [ent 5 3 .dispatched [(1, 1, 7), (8, 8, 64)]]) with mem := { rdy.mem with dram := { bytes := (SMap.setRun 0 [] 64 (bytesOf 64 [(0, 1, 1), (4, 2, 9), (6, 2, 500), (8, 4, 9), (12, 4, 12), (16, 4, 0xFFFFFFFF), (20, 4, 0xFFFFFFFF), (24, 4, 9), (28, 4, 0xFFFFFFFF), (40, 4, 77)])) } } },
     d3,
     ({ (fab.work 0 [ent 5 3 .dispatched [(1, 1, 7), (8, 8, 64)]]) with mem := { rdy.mem with dram := { bytes := (SMap.setRun 0 [] 64 (bytesOf 64 [(0, 1, 1), (4, 2, 9), (6, 2, 500), (8, 4, 9), (12, 4, 12), (16, 4, 0xFFFFFFFF), (20, 4, 0xFFFFFFFF), (24, 4, 9), (28, 4, 0xFFFFFFFF), (40, 4, 77)])) } } }).it
     d3, by dsimp only; decide +kernel⟩,
   ⟨{ ((fab.work 0 [ent 5 3 .busy []])).with [(F.COL_SESSION_STAT_state, 7, 1), (F.COL_SESSION_STAT_generation, 7, 44), (F.SEC_CFG_DIGEST_digest, 0, 0x1122334455667788)] with col := { sessions := [(7, { key := 77, chunkKib := 16, slots := 4, timeout := 2, joinMs := 500, since := 9, setup := some d3, edges := [{ tree := 0, node := 9, parent := true }] })] } },
     3,
     { kind := 0x93, session := 7, tree := 0, dst := 5, src := 9, dstEpoch := 7, srcEpoch := 3, generation := 44, key := 77, chunkKib := 16, seq := 1, length := 8, data := leBytes 8 0x1122334455667788 },
     { tree := 0, node := 9, parent := true }, d3, ((fab.work 0 [ent 5 3 .busy []]).it d3), by decide +kernel⟩,
   ⟨{ ((fab.work 0 [ent 5 3 .busy []])).with [(F.COL_SESSION_STAT_state, 7, 1), (F.COL_SESSION_STAT_generation, 7, 44), (F.SEC_CFG_DIGEST_digest, 0, 0x1122334455667788)] with col := { sessions := [(7, { key := 77, chunkKib := 16, slots := 4, timeout := 2, joinMs := 500, since := 9, setup := some d3, edges := [{ tree := 0, node := 9, parent := true }] })] } },
     3,
     { kind := 0x93, session := 7, tree := 0, dst := 5, src := 9, dstEpoch := 7, srcEpoch := 3, generation := 44, key := 78, chunkKib := 16, seq := 1, length := 8, data := leBytes 8 0x1122334455667788 },
     { tree := 0, node := 9, parent := true }, d3, ((fab.work 0 [ent 5 3 .busy []]).it d3), by decide +kernel⟩,
   ⟨{ ((fab.work 0 [ent 5 3 .busy []])).with [(F.COL_SESSION_STAT_state, 7, 1), (F.COL_SESSION_STAT_generation, 7, 44), (F.SEC_CFG_DIGEST_digest, 0, 0x1122334455667788)] with col := { sessions := [(7, { key := 77, chunkKib := 16, slots := 4, timeout := 2, joinMs := 500, since := 9, setup := some d3, edges := [{ tree := 0, node := 9, parent := true }] })] } },
     7, by decide +kernel⟩,
   ⟨{ ((fab.work 0 [ent 5 3 .busy []])).with [(F.COL_SESSION_STAT_state, 7, 1), (F.COL_SESSION_STAT_generation, 7, 44), (F.SEC_CFG_DIGEST_digest, 0, 0x1122334455667788)] with col := { sessions := [(7, { key := 77, chunkKib := 16, slots := 4, timeout := 2, joinMs := 500, since := 9, setup := some d3, edges := [{ tree := 0, node := 9, parent := true }] })] } },
     7, d3, ((fab.work 0 [ent 5 3 .busy []]).it d3), by decide +kernel⟩,
   ⟨((fab.work 0 [ent 5 3 .dispatched [(0, 1, 5), (1, 1, 7)]])).with [(F.COL_SESSION_STAT_state, 7, 2), (F.COL_SESSION_STAT_generation, 7,
     44)], d3, (((fab.work 0 [ent 5 3 .dispatched [(0, 1, 5), (1, 1, 7)]])).with [(F.COL_SESSION_STAT_state, 7, 2),
     (F.COL_SESSION_STAT_generation, 7, 44)]).it d3, by dsimp only; decide +kernel⟩,
   ⟨{ ((fab.work 0 [ent 5 3 .dispatched [(0, 1, 5), (1, 1, 7)]])).with [(F.COL_SESSION_STAT_state, 7, 2), (F.COL_SESSION_STAT_generation, 7, 44)] with col := { sessions := [(7, { run := some { work := d3, ctxId := 0, op := 1, fmt := 0, stoch := false, sat := false, src := 0, dst := 4096, count := 16 } })] } },
     d3,
     ({ ((fab.work 0 [ent 5 3 .dispatched [(0, 1, 5), (1, 1, 7)]])).with [(F.COL_SESSION_STAT_state, 7, 2), (F.COL_SESSION_STAT_generation, 7, 44)] with col := { sessions := [(7, { run := some { work := d3, ctxId := 0, op := 1, fmt := 0, stoch := false, sat := false, src := 0, dst := 4096, count := 16 } })] } }).it
     d3, by dsimp only; decide +kernel⟩,
   ⟨{ ((fab.work 0 [ent 5 3 .busy []])).with [(F.COL_SESSION_STAT_state, 7, 2), (F.COL_SESSION_STAT_generation, 7, 44), (F.SEC_CFG_DIGEST_digest, 0, 0x1122334455667788)] with col := { sessions := [(7, { key := 77, chunkKib := 16, slots := 4, timeout := 2, joinMs := 500, since := 9, edges := [{ tree := 0, node := 9, parent := true, joined := true, epoch := 3 }] })] } },
     3,
     { kind := 0x92, session := 7, tree := 0, dst := 5, src := 9, dstEpoch := 7, srcEpoch := 3, generation := 44, key := 77, fmtCause := 3 },
     by decide +kernel⟩,
   ⟨{ ((fab.work 0 [ent 5 3 .busy []])).with [(F.COL_SESSION_STAT_state, 7, 2), (F.COL_SESSION_STAT_generation, 7, 44), (F.SEC_CFG_DIGEST_digest, 0, 0x1122334455667788)] with col := { sessions := [(7, { key := 77, chunkKib := 16, slots := 4, timeout := 2, joinMs := 500, since := 9, edges := [{ tree := 0, node := 9, parent := true, joined := true, epoch := 3 }] })] } },
     7, 9, { tree := 0, node := 9, parent := true, joined := true, epoch := 3 }, by decide +kernel⟩⟩

theorem wit_CollectiveRuns :
  (∃ (s : State) (w : Work) (it : Item) (op : Nat) (c : Instr) (f : _), s.fresh w 0x05 = some it ∧ fieldAt it.payload 0 1 = op ∧ (op, c) ∈
    [(1, Instr.allReduce w), (2, .reduce w), (3, .broadcast w), (4, .barrier w)] ∧ (let b := it.payload; colFormat b = some f)) ∧
  (∃ (s : State) (w : Work) (it : Item) (op : Nat) (c : Instr), s.fresh w 0x05 = some it ∧ fieldAt it.payload 0 1 = op ∧ (op, c) ∈ [(1,
    Instr.allReduce w), (2, .reduce w), (3, .broadcast w), (4, .barrier w)] ∧ (let b := it.payload; (let k := fieldAt b 1 1; colFormat b
    = none ∧ s.isSet F.SEC_EXCL_STAT_shutter 0 = false ∧ s.sessState k = 0))) ∧
  (∃ (s : State) (w : Work) (it : Item) (op : Nat) (c : Instr), s.fresh w 0x05 = some it ∧ fieldAt it.payload 0 1 = op ∧ (op, c) ∈ [(1,
    Instr.allReduce w), (2, .reduce w), (3, .broadcast w), (4, .barrier w)] ∧ (let b := it.payload; (let k := fieldAt b 1 1;
    (let n := fieldAt b 24 8 * colElem (fieldAt b 2 1); colFormat b = none ∧ s.isSet F.SEC_EXCL_STAT_shutter 0 = false ∧ (op = 4 ∨
    (s.mayLocal it.ctx (fieldAt b 8 8) n false = true ∧ s.mayLocal it.ctx (fieldAt b 16 8) n true = true)) ∧ s.sessState k = 4)))) ∧
  (∃ (s : State) (w : Work) (it : Item) (op : Nat) (c : Instr), s.fresh w 0x05 = some it ∧ fieldAt it.payload 0 1 = op ∧ (op, c) ∈ [(1,
    Instr.allReduce w), (2, .reduce w), (3, .broadcast w), (4, .barrier w)] ∧ (let b := it.payload; (let k := fieldAt b 1 1;
    (let n := fieldAt b 24 8 * colElem (fieldAt b 2 1); colFormat b = none ∧ s.isSet F.SEC_EXCL_STAT_shutter 0 = false ∧ (op = 4 ∨
    (s.mayLocal it.ctx (fieldAt b 8 8) n false = true ∧ s.mayLocal it.ctx (fieldAt b 16 8) n true = true)) ∧ s.sessState k ≠ 0 ∧
    s.sessState k ≠ 4)))) ∧
  (∃ (s : State) (k : Fin 8) (r : ColRun) (rest : List ColRun), (s.sess k).waiting = r :: rest ∧ s.sessState k = 2 ∧ s.colMay r.ctxId =
    true ∧ 256 ≤ s.adderLanes ∧ (r.op = 4 ∨ (s.memHeld r.src (r.count * colElem r.fmt) = false ∧ s.memHeld r.dst (r.count * colElem
    r.fmt) = false))) ∧
  (∃ (s : State) (k : Fin 8), ((s.sess k).waiting = [] ∨ s.sessState k ≠ 2)) :=
  ⟨⟨(fab.work 0 [ent 5 3 .dispatched [(0, 1, 1), (1, 1, 7), (16, 8, 4096)]]), d3, ((fab.work 0 [ent 5 3 .dispatched [(0, 1, 1), (1, 1, 7),
     (16, 8, 4096)]])).it d3, 1, .allReduce d3, 56, by dsimp only; decide +kernel⟩,
   ⟨(fab.work 0 [ent 5 3 .dispatched [(0, 1, 1), (1, 1, 7), (16, 8, 4096), (24, 8, 16)]]), d3, ((fab.work 0 [ent 5 3 .dispatched [(0, 1,
     1), (1, 1, 7), (16, 8, 4096), (24, 8, 16)]])).it d3, 1, .allReduce d3, by dsimp only; decide +kernel⟩,
   ⟨((fab.work 0 [ent 5 3 .dispatched [(0, 1, 1), (1, 1, 7), (16, 8, 4096), (24, 8, 16)]])).with [(F.COL_SESSION_STAT_state, 7, 4),
     (F.COL_SESSION_STAT_generation, 7, 44)], d3, (((fab.work 0 [ent 5 3 .dispatched [(0, 1, 1), (1, 1, 7), (16, 8, 4096), (24, 8,
     16)]])).with [(F.COL_SESSION_STAT_state, 7, 4), (F.COL_SESSION_STAT_generation, 7, 44)]).it d3, 1, .allReduce d3,
     by dsimp only; decide +kernel⟩,
   ⟨((fab.work 0 [ent 5 3 .dispatched [(0, 1, 2), (1, 1, 7), (16, 8, 4096), (24, 8, 16)]])).with [(F.COL_SESSION_STAT_state, 7, 3),
     (F.COL_SESSION_STAT_generation, 7, 44)], d3, (((fab.work 0 [ent 5 3 .dispatched [(0, 1, 2), (1, 1, 7), (16, 8, 4096), (24, 8,
     16)]])).with [(F.COL_SESSION_STAT_state, 7, 3), (F.COL_SESSION_STAT_generation, 7, 44)]).it d3, 2, .reduce d3,
     by dsimp only; decide +kernel⟩,
   ⟨{ ((fab.work 0 [ent 5 3 .busy []])).with [(F.COL_SESSION_STAT_state, 7, 2), (F.COL_SESSION_STAT_generation, 7, 44), (F.SEC_CFG_DIGEST_digest, 0, 0x1122334455667788)] with col := { sessions := [(7, { key := 77, chunkKib := 16, slots := 4, timeout := 2, joinMs := 500, since := 9, nextRun := 65535, edges := [{ tree := 0, node := 9, parent := true, joined := true, epoch := 3 }], waiting := [{ work := d3, ctxId := 0, op := 1, fmt := 0, stoch := false, sat := false, src := 0, dst := 4096, count := 16 }] })] } },
     7, { work := d3, ctxId := 0, op := 1, fmt := 0, stoch := false, sat := false, src := 0, dst := 4096, count := 16 }, [],
     by decide +kernel⟩,
   ⟨{ ((fab.work 0 [ent 5 3 .busy []])).with [(F.COL_SESSION_STAT_state, 7, 2), (F.COL_SESSION_STAT_generation, 7, 44), (F.SEC_CFG_DIGEST_digest, 0, 0x1122334455667788)] with col := { sessions := [(7, { key := 77, chunkKib := 16, slots := 4, timeout := 2, joinMs := 500, since := 9 })] } },
     7, by decide +kernel⟩⟩

theorem wit_CollectiveData :
  (∃ (s : State) (port : Fin 64) (p : ColPacket) (e : ColEdge) (r : ColRun), p.kind = 0x90 ∧ s.kept = false ∧ s.portReceives port = true ∧
    s.unitFrozen 0x40 = false ∧ p.rsv = false ∧ p.length = p.data.length ∧ p.dst = s.ownNode ∧ p.tree < 2 ∧ p.session < 8 ∧ s.sessState
    p.session = 3 ∧ (s.sess p.session).edge p.tree p.src = some e ∧ e.joined = true ∧ s.agrees p e = true ∧ (s.sess p.session).run =
    some r ∧ p.run = r.number ∧ p.op = r.op ∧ p.fmtCause = r.fmt ∧ p.count = r.count ∧ p.down = e.parent ∧ p.seq < e.granted ∧
    (let c := (s.sess p.session).chunk; p.seq < r.total c p.tree ∧ p.piece < r.pieces c p.tree p.seq ∧ p.data.length = min 4096 (r.wire
    c p.tree p.seq - 4096 * p.piece) ∧ e.rxAck ≤ p.seq ∧ (p.seq, p.piece) ∉ e.held ∧ p.poison = false ∧ r.bad = [] ∧ p.down = true ∧
    r.op = 3 ∧ r.slots = [] ∧ r.unstored = false ∧
    (let w := s.memWrite (r.dst + (r.span c p.tree p.seq).1 * colElem r.fmt + 4096 * p.piece) p.data; w.2 = .ok))) ∧
  (∃ (s : State) (port : Fin 64) (p : ColPacket) (e : ColEdge) (r : ColRun) (adder : List (List Nat)), p.kind = 0x90 ∧ s.kept = false ∧
    s.portReceives port = true ∧ s.unitFrozen 0x40 = false ∧ p.rsv = false ∧ p.length = p.data.length ∧ p.dst = s.ownNode ∧ p.tree < 2 ∧
    p.session < 8 ∧ s.sessState p.session = 3 ∧ (s.sess p.session).edge p.tree p.src = some e ∧ e.joined = true ∧ s.agrees p e = true ∧
    (s.sess p.session).run = some r ∧ p.run = r.number ∧ p.op = r.op ∧ p.fmtCause = r.fmt ∧ p.count = r.count ∧ p.down = e.parent ∧
    p.seq < e.granted ∧ (let c := (s.sess p.session).chunk; p.seq < r.total c p.tree ∧ p.piece < r.pieces c p.tree p.seq ∧ p.data.length
    = min 4096 (r.wire c p.tree p.seq - 4096 * p.piece) ∧ e.rxAck ≤ p.seq ∧ (p.seq, p.piece) ∉ e.held ∧ p.poison = false ∧ r.bad = [] ∧
    p.down = false ∧ r.op = 1 ∧ adder = [] ∧ 256 ≤ s.adderLanes ∧ r.written = [] ∧ r.freed = [] ∧ (∀ u ∈ r.slots, u.full = false) ∧ (∃
    e2 ∈ (s.sess p.session).edges, e2.tree = p.tree ∧ e2.parent = false ∧ e2.node ≠ p.src ∧ e2.rxAck = 0 ∧ e2.held = []) ∧ (∀ u ∈
    r.slots, u.tree = p.tree))) ∧
  (∃ (s : State) (port : Fin 64) (p : ColPacket) (e : ColEdge), p.kind = 0x91 ∧ s.kept = false ∧ s.portReceives port = true ∧ s.unitFrozen
    0x40 = false ∧ p.rsv = false ∧ p.length = p.data.length ∧ p.dst = s.ownNode ∧ p.tree < 2 ∧ p.session < 8 ∧ (s.sess p.session).edge
    p.tree p.src = some e ∧ e.joined = true ∧ s.agrees p e = true ∧ s.sessState p.session = 2 ∧ (s.sess p.session).run = none) ∧
  (∃ (s : State) (port : Fin 64) (p : ColPacket) (e : ColEdge) (r : _), p.kind = 0x91 ∧ s.kept = false ∧ s.portReceives port = true ∧
    s.unitFrozen 0x40 = false ∧ p.rsv = false ∧ p.length = p.data.length ∧ p.dst = s.ownNode ∧ p.tree < 2 ∧ p.session < 8 ∧ (s.sess
    p.session).edge p.tree p.src = some e ∧ e.joined = true ∧ s.agrees p e = true ∧ s.sessState p.session = 3 ∧ (s.sess p.session).run =
    some r ∧ p.run = r.number ∧ p.op = 0) ∧
  (∃ (s : State) (k : Fin 8), (s.sessState k = 2 ∨ s.sessState k = 3)) ∧
  (∃ (s : State) (k : Fin 8) (n : Fin 1048576) (e : ColEdge) (i : Nat), (s.sess k).edges = [e] ∧ e.node = n ∧ e.sent ≠ [] ∧ e.resendable =
    some i) ∧
  (∃ (s : State) (w : BarAcc), Reaches s .COL_POOL 0 w 0 ∧ (w.touches F.COL_POOL_size_mib || w.touches F.COL_POOL_base_mib) = true ∧
    s.setupLocked = false ∧ ((List.range 8).any fun k => s.sessState k != 0) = true) ∧
  (∃ (s : State) (w : BarAcc), Reaches s .COL_POOL 0 w 0 ∧ (w.touches F.COL_POOL_size_mib || w.touches F.COL_POOL_base_mib) = true ∧
    s.setupLocked = false ∧ ((List.range 8).any fun k => s.sessState k != 0) = false) :=
  ⟨⟨{ ((fab.work 0 [ent 5 3 .busy []])).with [(F.COL_SESSION_STAT_state, 7, 3), (F.COL_SESSION_STAT_generation, 7, 44), (F.SEC_CFG_DIGEST_digest, 0, 0x1122334455667788)] with col := { sessions := [(7, { key := 77, chunkKib := 16, slots := 4, timeout := 2, joinMs := 500, since := 9, edges := [{ tree := 0, node := 9, parent := true, joined := true, epoch := 3, granted := 4 }], run := some { work := d3, ctxId := 0, op := 3, fmt := 0, stoch := false, sat := false, src := 0, dst := 4096, count := 16, number := 6 } })] } },
     3,
     { kind := 0x90, session := 7, tree := 0, dst := 5, src := 9, dstEpoch := 7, srcEpoch := 3, generation := 44, key := 77, run := 6, op := 3, count := 16, down := true, length := 64, data := List.replicate 64 7 },
     { tree := 0, node := 9, parent := true, joined := true, epoch := 3, granted := 4 },
     { work := d3, ctxId := 0, op := 3, fmt := 0, stoch := false, sat := false, src := 0, dst := 4096, count := 16, number := 6 },
     by dsimp only; decide +kernel⟩,
   ⟨{ ((fab.work 0 [ent 5 3 .busy []])).with [(F.COL_SESSION_STAT_state, 7, 3), (F.COL_SESSION_STAT_generation, 7, 44), (F.SEC_CFG_DIGEST_digest, 0, 0x1122334455667788)] with col := { sessions := [(7, { key := 77, chunkKib := 16, slots := 4, timeout := 2, joinMs := 500, since := 9, edges := [{ tree := 0, node := 9, parent := false, joined := true, epoch := 3, granted := 4 }, { tree := 0, node := 12, parent := false, joined := true, epoch := 3, granted := 4 }], run := some { work := d3, ctxId := 0, op := 1, fmt := 0, stoch := false, sat := false, src := 0, dst := 4096, count := 16, number := 6, slots := [{ tree := 0, seq := 0, vals := List.replicate 16 0 }] } })] } },
     3,
     { kind := 0x90, session := 7, tree := 0, dst := 5, src := 9, dstEpoch := 7, srcEpoch := 3, generation := 44, key := 77, run := 6, op := 1, count := 16, down := false, length := 64, data := List.replicate 64 7 },
     { tree := 0, node := 9, parent := false, joined := true, epoch := 3, granted := 4 },
     { work := d3, ctxId := 0, op := 1, fmt := 0, stoch := false, sat := false, src := 0, dst := 4096, count := 16, number := 6, slots := [{ tree := 0, seq := 0, vals := List.replicate 16 0 }] },
     [], by dsimp only; decide +kernel⟩,
   ⟨{ ((fab.work 0 [ent 5 3 .busy []])).with [(F.COL_SESSION_STAT_state, 7, 2), (F.COL_SESSION_STAT_generation, 7, 44), (F.SEC_CFG_DIGEST_digest, 0, 0x1122334455667788)] with col := { sessions := [(7, { key := 77, chunkKib := 16, slots := 4, timeout := 2, joinMs := 500, since := 9, edges := [{ tree := 0, node := 9, parent := true, joined := true, epoch := 3 }] })] } },
     3,
     { kind := 0x91, session := 7, tree := 0, dst := 5, src := 9, dstEpoch := 7, srcEpoch := 3, generation := 44, key := 77, run := 6, limit := 9, ack := 5 },
     { tree := 0, node := 9, parent := true, joined := true, epoch := 3 }, by decide +kernel⟩,
   ⟨{ ((fab.work 0 [ent 5 3 .busy []])).with [(F.COL_SESSION_STAT_state, 7, 3), (F.COL_SESSION_STAT_generation, 7, 44), (F.SEC_CFG_DIGEST_digest, 0, 0x1122334455667788)] with col := { sessions := [(7, { key := 77, chunkKib := 16, slots := 4, timeout := 2, joinMs := 500, since := 9, edges := [{ tree := 0, node := 9, parent := true, joined := true, epoch := 3, granted := 4 }], run := some { work := d3, ctxId := 0, op := 3, fmt := 0, stoch := false, sat := false, src := 0, dst := 4096, count := 16, number := 6 } })] } },
     3,
     { kind := 0x91, session := 7, tree := 0, dst := 5, src := 9, dstEpoch := 7, srcEpoch := 3, generation := 44, key := 77, run := 6, limit := 9, ack := 5 },
     { tree := 0, node := 9, parent := true, joined := true, epoch := 3, granted := 4 },
     { work := d3, ctxId := 0, op := 3, fmt := 0, stoch := false, sat := false, src := 0, dst := 4096, count := 16, number := 6 },
     by decide +kernel⟩,
   ⟨{ ((fab.work 0 [ent 5 3 .busy []])).with [(F.COL_SESSION_STAT_state, 7, 2), (F.COL_SESSION_STAT_generation, 7, 44), (F.SEC_CFG_DIGEST_digest, 0, 0x1122334455667788)] with col := { sessions := [(7, { key := 77, chunkKib := 16, slots := 4, timeout := 2, joinMs := 500, since := 9, edges := [{ tree := 0, node := 9, parent := true, joined := true, epoch := 3 }] })] } },
     7, by decide +kernel⟩,
   ⟨{ ((fab.work 0 [ent 5 3 .busy []])).with [(F.COL_SESSION_STAT_state, 7, 3), (F.COL_SESSION_STAT_generation, 7, 44), (F.SEC_CFG_DIGEST_digest, 0, 0x1122334455667788)] with col := { sessions := [(7, { key := 77, chunkKib := 16, slots := 4, timeout := 2, joinMs := 500, since := 9, edges := [{ tree := 0, node := 9, parent := true, joined := true, epoch := 3, sent := [(3, 0), (2, 1)], ackAt := 4 }], run := some { work := d3, ctxId := 0, op := 3, fmt := 0, stoch := false, sat := false, src := 0, dst := 4096, count := 16, number := 6 } })] } },
     7, 9, { tree := 0, node := 9, parent := true, joined := true, epoch := 3, sent := [(3, 0), (2, 1)], ackAt := 4 }, 2,
     by decide +kernel⟩,
   ⟨{ ((fab.work 0 [ent 5 3 .busy []])).with [(F.COL_SESSION_STAT_state, 7, 2), (F.COL_SESSION_STAT_generation, 7, 44), (F.SEC_CFG_DIGEST_digest, 0, 0x1122334455667788)] with col := { sessions := [(7, { key := 77, chunkKib := 16, slots := 4, timeout := 2, joinMs := 500, since := 9 })] } },
     acc (96 * 2 ^ 32) 0 8 0, by unfold Reaches; decide +kernel⟩,
   ⟨rdy, acc (200 * 2 ^ 32 + 127 * 2 ^ 24) 0 8 0, by unfold Reaches; decide +kernel⟩⟩

theorem wit_FeedsAndPower :
  (∃ (s : State) (va : Fin 8192) (vb : Fin 8192), s.powered = true ∧ s.pwr.overs = [] ∧ s.get F.PWR_FEED_STAT_switches 0 < 2 ^
    F.PWR_FEED_STAT_switches.width - 1 ∧ s.log.staged.length < 8192 ∧ s.pwr.inUse = some .A ∧ va.val < 4400 ∧ 4400 ≤ vb.val) ∧
  (∃ (s : State) (va : Fin 8192), s.powered = true ∧ s.pwr.overs = [] ∧ s.get F.PWR_FEED_STAT_switches 0 < 2 ^
    F.PWR_FEED_STAT_switches.width - 1 ∧ s.log.staged.length < 8192 ∧ s.pwr.inUse = some .B ∧ 4800 ≤ va.val) ∧
  (∃ (s : State), s.powered = true ∧ s.pwr.overs = [] ∧ s.get F.PWR_FEED_STAT_switches 0 < 2 ^ F.PWR_FEED_STAT_switches.width - 1 ∧
    s.log.staged.length < 8192 ∧ s.pwr.inUse = some .A) ∧
  (∃ (s : State) (va : Fin 8192) (vb : Fin 8192) (f : Feed), s.powered = true ∧ s.pwr.overs = [] ∧ s.get F.PWR_FEED_STAT_switches 0 < 2 ^
    F.PWR_FEED_STAT_switches.width - 1 ∧ s.log.staged.length < 8192 ∧ 6000 < (match f with | .A => va.val | .B => vb.val)) ∧
  (∃ (s : State) (va : Fin 8192) (vb : Fin 8192), s.powered = true ∧ s.boot.phase ≠ .bringup ∧ s.pwr.overs = [] ∧ va.val < 4000 ∧ vb.val <
    4000 ∧ s.dump.running = false) ∧
  (∃ (s : State), s.get F.PWR_STAT_feed 0 = 2 ∧ s.boot.phase = .ready) ∧
  (∃ (s : State), s.powered = true ∧ 0 ∈ s.boot.rails ∧ s.dump.running = false) ∧
  (∃ (s : State), s.powered = false) ∧
  (∃ (s : State), s.boot.island = true) ∧
  (∃ (s : State) (f : Feed), s.powered = true ∧ s.pwr.inUse = some f ∧ s.boot.phase = .ready) ∧
  (∃ (s : State) (f : Feed), s.powered = true ∧ s.pwr.inUse = some f ∧ s.boot.phase = .ready ∧ s.pwr.lost = true) ∧
  (∃ (s : State), s.powered = true ∧ s.pwr.lost = false) ∧
  (∃ (s : State) (b : Nat), s.pwr.capSince = some b ∧ s.log.staged.length < 8192 ∧ s.pwr.capRaised = false) ∧
  (∃ (s : State) (b : Nat), s.pwr.capSince = some b ∧ s.log.staged.length < 8192 ∧ s.pwr.capRaised = true) ∧
  (∃ (s : State) (b : Nat), s.pwr.misSince = some b ∧ s.log.staged.length < 8192) ∧
  (∃ (s : State) (die : Fin 4) (i : Nat) (p : PreRamp), 256 * die.val ≤ i ∧ i < 256 * die.val + 256 ∧ (s.arr i).pre = some p ∧ p.phase =
    .waiting) ∧
  (∃ (s : State) (die : Fin 4) (i : Nat) (p : PreRamp), 256 * die.val ≤ i ∧ i < 256 * die.val + 256 ∧ (s.arr i).pre = some p ∧ p.phase =
    .ramped) :=
  ⟨⟨{ rdy with pwr := { inUse := some .A } }, 4399, 4400, by decide +kernel⟩,
   ⟨{ rdy with pwr := { inUse := some .B } }, 4800, by decide +kernel⟩,
   ⟨{ rdy with pwr := { inUse := some .A } }, by decide +kernel⟩,
   ⟨{ rdy with pwr := { inUse := some .A } }, 6001, 0, .A, by decide +kernel⟩,
   ⟨{ { rdy with pwr := { inUse := some .A } } with launches := [run1 3], graphs := [(3, { held := true })] }, 3999, 3999,
     by decide +kernel⟩,
   ⟨({ rdy with pwr := { inUse := some .A } }).with [(F.PWR_STAT_feed, 0, 2)], by decide +kernel⟩,
   ⟨{ rdy with pwr := { inUse := some .A } }, by decide +kernel⟩,
   ⟨rdy, by decide +kernel⟩,
   ⟨{ rdy with pwr := { beats := 70000, demand := [(3, 9)], tickAt := 3599999999500 } }, by decide +kernel⟩,
   ⟨{ rdy with pwr := { inUse := some .A } }, .A, by decide +kernel⟩,
   ⟨{ rdy with pwr := { inUse := some .A, lost := true } }, .A, by decide +kernel⟩,
   ⟨{ rdy with pwr := { inUse := some .A } }, by decide +kernel⟩,
   ⟨{ rdy with pwr := { inUse := some .A, capSince := some 3600000000000 } }, 3600000000000, by decide +kernel⟩,
   ⟨{ rdy with pwr := { inUse := some .A, capSince := some 9, capRaised := true } }, 9, by decide +kernel⟩,
   ⟨{ rdy with pwr := { inUse := some .A, misSince := some 9, misNext := 10 } }, 9, by decide +kernel⟩,
   ⟨rdy.setArr 1023 { pre := some { start := 3600000005000, stop := 3600000009000, since := 7 } }, 3, 1023,
     { start := 3600000005000, stop := 3600000009000, since := 7 }, by decide +kernel⟩,
   ⟨rdy.setArr 1023 { pre := some { start := 3600000005000, stop := 3600000009000, since := 7, phase := .ramped } }, 3, 1023,
     { start := 3600000005000, stop := 3600000009000, since := 7, phase := .ramped }, by decide +kernel⟩⟩

theorem wit_TemperatureSamples :
  (∃ (s : State) (x : _), s.boot.island = true ∧ validTemp x = true ∧ s.boot.phase = .hold) ∧
  (∃ (s : State) (die : Fin 9) (x : _) (e : _) (es : _), s.boot.island = true ∧ s.boot.phase = .hold ∧ validTemp x = true ∧ (s.sensor
    die).hist = e :: es ∧ (s.sensor die).hot = false ∧ 950 ≤ x ∧ 950 ≤ e.1) ∧
  (∃ (s : State), s.boot.island = true) ∧
  (∃ (s : State) (x : _), s.boot.island = true ∧ validTemp x = false) ∧
  (∃ (s : State) (die : Fin 9) (x : Int) (y : Int) (at_ : Nat), s.boot.island = true ∧ s.boot.phase = .ready ∧ s.get F.PWR_STAT_feed 0 ≠ 2
    ∧ s.rst.keepers = false ∧ s.quiescing = false ∧ s.rst.run = none ∧ s.rst.queue = [] ∧ s.rst.absorbed = [] ∧ s.stopState = 0 ∧
    (s.sensor die).hist = [(y, at_)] ∧ s.time < at_ + 700000 ∧ 1050 ≤ y ∧ y < 1150 ∧ 1050 ≤ x ∧ x ≤ y ∧ s.dump.running = false) ∧
  (∃ (s : State) (i : Fin 25), s.boot.phase = .ready ∧ s.get F.PWR_STAT_feed 0 ≠ 2 ∧ s.rst.keepers = false ∧ s.quiescing = false ∧
    s.stopState = 0 ∧ s.rst.run = none ∧ s.rst.queue = [] ∧ s.rst.absorbed = [] ∧ (if i.val < 9 then 10 else 3) ≤ (s.sensor i).bad) ∧
  (∃ (s : State) (i : Fin 25), s.boot.phase = .ready ∧ s.get F.PWR_STAT_feed 0 ≠ 2 ∧ s.rst.keepers = false ∧ s.quiescing = false ∧
    s.stopState = 0 ∧ s.rst.run = none ∧ s.rst.queue = [] ∧ s.rst.absorbed = [] ∧ (s.sensor i).bad < (if i.val < 9 then 10 else 3)) :=
  ⟨⟨{ rdy with boot := { rdy.boot with phase := .hold } }, -200, by decide +kernel⟩,
   ⟨{ { rdy with boot := { rdy.boot with phase := .hold } } with thm := { sensors := [(8, { hist := [(950, 9)] })] } }, 8, 950, (950, 9),
     [], by decide +kernel⟩,
   ⟨{ { rdy with boot := { rdy.boot with phase := .hold } } with thm := { sensors := [(8, { bad := 9 })] } }, by decide +kernel⟩,
   ⟨{ rdy with boot := { rdy.boot with phase := .hold } }, 1501, by decide +kernel⟩,
   ⟨{ rdy with thm := { sensors := [(8, { hist := [(1149, 3599999990000)] })] } }, 8, 1050, 1149, 3599999990000, by decide +kernel⟩,
   ⟨{ rdy with thm := { sensors := [(24, { bad := 3 })] } }, 24, by decide +kernel⟩,
   ⟨{ rdy with thm := { sensors := [(8, { bad := 9 })] } }, 8, by decide +kernel⟩⟩

theorem wit_Stops :
  (∃ (s : State) (rail : Fin 7), s.boot.phase = .ready ∧ s.get F.PWR_STAT_feed 0 ≠ 2 ∧ s.rst.keepers = false ∧ s.quiescing = false ∧
    s.stopState = 0 ∧ s.rst.run = none ∧ s.rst.queue = [] ∧ s.rst.absorbed = [] ∧ s.dump.running = false ∧ rail ≠ 0 ∧ rail.val ∈
    s.boot.rails ∧ s.thm.rail = none) ∧
  (∃ (s : State), s.boot.phase = .ready ∧ s.get F.PWR_STAT_feed 0 ≠ 2 ∧ s.rst.keepers = false ∧ s.quiescing = false ∧ s.stopState = 0 ∧
    s.rst.run = none ∧ s.rst.queue = [] ∧ s.rst.absorbed = [] ∧ s.dump.running = false) ∧
  (∃ (s : State) (b : _), s.boot.phase = .ready ∧ s.get F.PWR_STAT_feed 0 ≠ 2 ∧ s.rst.keepers = false ∧ s.quiescing = false ∧ s.stopState
    = 0 ∧ s.rst.run = none ∧ s.rst.queue = [] ∧ s.rst.absorbed = [] ∧ s.dump.running = false ∧ s.pwr.excSince = some b) ∧
  (∃ (s : State), s.boot.phase = .off) ∧
  (∃ (s : State), s.boot.phase = .ready) ∧
  (∃ (s : State), s.boot.phase = .bringup ∧ s.boot.coolantWait = true) ∧
  (∃ (s : State), s.stopState = 1 ∧ s.thm.step = 6 ∧ s.thm.rail = none ∧ s.chipWaits = false) ∧
  (∃ (s : State), s.stopState = 1 ∧ s.thm.step = 2 ∧ s.unitsIdle = false) ∧
  (∃ (s : State), s.stopState ≠ 1 ∧ s.stopState ≠ 2) ∧
  (∃ (s : State), s.coolEnough = false) ∧
  (∃ (s : State), s.coolEnough = true ∧ s.rst.causeHeld = true ∧ s.rst.keepers = true ∧ s.get F.HUB_RESET_STAT_state 0 = 7) ∧
  (∃ (s : State), s.boot.phase ≠ .off ∧ s.boot.phase ≠ .offLatched) :=
  ⟨⟨rdy, 6, by decide +kernel⟩,
   ⟨rdy, by decide +kernel⟩,
   ⟨{ rdy with pwr := { inUse := some .A, excSince := some 3599999999999 } }, 3599999999999, by decide +kernel⟩,
   ⟨State.reset, by decide +kernel⟩,
   ⟨{ rdy with thm := { coolant := true } }, by decide +kernel⟩,
   ⟨{ rdy with boot := { phase := .bringup, island := true, done := [1, 2, 3, 4], coolantWait := true }, thm := { coolant := true } },
     by decide +kernel⟩,
   ⟨{ rdy.with [(F.THM_STOP_STAT_state, 0, 1)] with thm := { step := 6, since := 3599999999999 } }, by decide +kernel⟩,
   ⟨{ rdy.with [(F.THM_STOP_STAT_state, 0, 1)] with thm := { step := 2 }, seqs := [(15, { launch := some 1 })] }, by decide +kernel⟩,
   ⟨rdy, by decide +kernel⟩,
   ⟨{ rdy with thm := { coolant := true } }, by decide +kernel⟩,
   ⟨{ rdy.with [(F.HUB_RESET_STAT_state, 0, 7), (F.PWR_FEED_STAT_feed_a, 0, 4400)] with pwr := { inUse := some .A }, rst := { causeHeld := true, keepers := true } },
     by decide +kernel⟩,
   ⟨rdy, by decide +kernel⟩⟩

theorem wit_WorkResets :
  (∃ (s : State) (w : BarAcc), AsksReset s w .context ∧ s.resetsIdle ∧ s.idleWork) ∧
  (∃ (s : State) (w : BarAcc), AsksReset s w .engine ∧ s.resetsIdle ∧ s.fab.ops = [] ∧ (let e := (resetReq w .engine).target; e < 16)) ∧
  (∃ (s : State) (r : RRun), s.rst.run = some r ∧ r.req.kind = .engine ∧ s.noFollowers) ∧
  (∃ (s : State), s.rst.run = none) ∧
  (∃ (s : State) (w : BarAcc), AsksReset s w .partition ∧ s.resetsIdle) ∧
  (∃ (s : State) (r : RRun) (c : Fin 4), s.rst.run = some r ∧ r.req.kind = .partition ∧ r.req.target = c.val ∧ r.stage = 1 ∧ s.fab.ops =
    []) ∧
  (∃ (s : State) (r : RRun) (c : Fin 4), s.rst.run = some r ∧ r.req.kind = .partition ∧ r.req.target = c.val ∧ r.stage = 2) ∧
  (∃ (s : State) (r : RRun) (c : Fin 4) (short : ShortLanes), s.rst.run = some r ∧ r.req.kind = .partition ∧ r.req.target = c.val ∧
    r.stage = 3 ∧ (computeLink c).boot ≤ (s.trainBundles (64 * c) 64 short).linkHalves (computeLink c)) ∧
  (∃ (s : State) (r : RRun) (c : Fin 4) (short : ShortLanes), s.rst.run = some r ∧ r.req.kind = .partition ∧ r.req.target = c.val ∧
    r.stage = 3 ∧ (s.trainBundles (64 * c) 64 short).linkHalves (computeLink c) < (computeLink c).boot ∧ r.req.escalate = false ∧
    s.noFollowers) ∧
  (∃ (s : State) (r : RRun) (c : Fin 4), s.rst.run = some r ∧ r.req.kind = .partition ∧ r.req.target = c.val ∧ r.stage = 4 ∧ s.fab.held =
    []) ∧
  (∃ (s : State) (r : RRun) (c : Fin 4), s.rst.run = some r ∧ r.req.kind = .partition ∧ r.req.target = c.val ∧ r.stage = 5) ∧
  (∃ (s : State) (r : RRun) (c : Fin 4), s.rst.run = some r ∧ r.req.kind = .partition ∧ r.req.target = c.val ∧ r.stage = 6 ∧
    s.noFollowers) ∧
  (∃ (s : State) (w : BarAcc) (v : RRun), AsksReset s w .engine ∧ s.stopActive = false ∧ s.rst.cycleWait = false ∧ s.rst.run = some v ∧
    (resetReq w .engine).inside v.req = true) ∧
  (∃ (s : State) (w : BarAcc), s.stopActive = true ∧ AsksReset s w .context) ∧
  (∃ (s : State) (w : BarAcc) (c : _), Reaches s .HUB_RESET_CTRL 0 w 0 ∧ w.resetBad = true ∧ c ∈ [(RKind.context, Instr.contextReset w),
    (.engine, .engineReset w), (.partition, .partitionReset w), (.chip, .chipReset w), (.powerCycle, .powerCycle w)] ∧ w.resetKind =
    c.1.code) :=
  ⟨⟨rdy.with [(F.CTX_valid, 4095, 1)], acc (1 + 4095 * 2 ^ 16) 0 4 0,
     by unfold AsksReset Reaches State.resetsIdle State.idleWork State.noFollowers; decide +kernel⟩,
   ⟨rdy.prog 15 [word 1 []] { nextId := 5, vq := [4] }, acc (2 + 15 * 2 ^ 16) 0 4 0,
     by dsimp only; unfold AsksReset Reaches State.resetsIdle State.noFollowers; decide +kernel⟩,
   ⟨{ rdy with rst := { run := some { req := { kind := .engine, target := 24 } } } }, { req := { kind := .engine, target := 24 } },
     by unfold State.noFollowers; decide +kernel⟩,
   ⟨rdy, by decide +kernel⟩,
   ⟨rdy, acc (3 + 3 * 2 ^ 16) 0 4 0, by unfold AsksReset Reaches State.resetsIdle State.noFollowers; decide +kernel⟩,
   ⟨{ ((rdy.prog 15 [word 1 []] { nextId := 5 }).setSeq 3 { nextId := 7 }) with rst := { run := some { req := { kind := .partition, target := 3 }, stage := 1 } }, spad := { bytes := [(5, 6), (16 * 2 ^ 25 - 1, 9)] } },
     { req := { kind := .partition, target := 3 }, stage := 1 }, 3, by decide +kernel⟩,
   ⟨{ ((rdy.prog 15 [word 1 []] { nextId := 5 }).setSeq 3 { nextId := 7 }) with rst := { run := some { req := { kind := .partition, target := 3 }, stage := 2 } }, spad := { bytes := [(5, 6), (16 * 2 ^ 25 - 1, 9)] } },
     { req := { kind := .partition, target := 3 }, stage := 2 }, 3, by decide +kernel⟩,
   ⟨{ ((rdy.prog 15 [word 1 []] { nextId := 5 }).setSeq 3 { nextId := 7 }) with rst := { run := some { req := { kind := .partition, target := 3 }, stage := 3 } }, spad := { bytes := [(5, 6), (16 * 2 ^ 25 - 1, 9)] } },
     { req := { kind := .partition, target := 3 }, stage := 3 }, 3, [], by decide +kernel⟩,
   ⟨{ ((rdy.prog 15 [word 1 []] { nextId := 5 }).setSeq 3 { nextId := 7 }) with rst := { run := some { req := { kind := .partition, target := 3 }, stage := 3 } }, spad := { bytes := [(5, 6), (16 * 2 ^ 25 - 1, 9)] } },
     { req := { kind := .partition, target := 3 }, stage := 3 }, 3, ((List.range 64).map fun k => (192 + k, List.range 66)),
     by unfold State.noFollowers; decide +kernel⟩,
   ⟨{ { ((rdy.prog 15 [word 1 []] { nextId := 5 }).setSeq 3 { nextId := 7 }) with rst := { run := some { req := { kind := .partition, target := 3 }, stage := 4 } }, spad := { bytes := [(5, 6), (16 * 2 ^ 25 - 1, 9)] } } with mem := { rdy.mem with refresh := [3] } },
     { req := { kind := .partition, target := 3 }, stage := 4 }, 3, by decide +kernel⟩,
   ⟨{ ((rdy.prog 15 [word 1 []] { nextId := 5 }).setSeq 3 { nextId := 7 }) with rst := { run := some { req := { kind := .partition, target := 3 }, stage := 5 } }, spad := { bytes := [(5, 6), (16 * 2 ^ 25 - 1, 9)] } },
     { req := { kind := .partition, target := 3 }, stage := 5 }, 3, by decide +kernel⟩,
   ⟨{ ((rdy.prog 15 [word 1 []] { nextId := 5 }).setSeq 3 { nextId := 7 }) with rst := { run := some { req := { kind := .partition, target := 3 }, stage := 6 } }, spad := { bytes := [(5, 6), (16 * 2 ^ 25 - 1, 9)] } },
     { req := { kind := .partition, target := 3 }, stage := 6 }, 3, by unfold State.noFollowers; decide +kernel⟩,
   ⟨{ rdy with rst := { run := some { req := { kind := .partition, target := 3 } } } }, acc (2 + 15 * 2 ^ 16) 0 4 0,
     { req := { kind := .partition, target := 3 } }, by unfold AsksReset Reaches; decide +kernel⟩,
   ⟨rdy.with [(F.THM_STOP_STAT_state, 0, 2)], acc (1 + 4095 * 2 ^ 16) 0 4 0, by unfold AsksReset Reaches; decide +kernel⟩,
   ⟨rdy, acc (2 + 25 * 2 ^ 16) 0 4 0, (.engine, .engineReset (acc (2 + 25 * 2 ^ 16) 0 4 0)), by unfold Reaches; decide +kernel⟩⟩

theorem wit_ChipResets :
  (∃ (s : State) (w : BarAcc), AsksReset s w .chip ∧ s.boot.phase = .ready ∧ s.resetsIdle ∧ s.idleWork ∧ s.dump.running = false ∧
    (resetReq w .chip).dumpFirst = false) ∧
  (∃ (s : State) (w : BarAcc), AsksReset s w .chip ∧ s.boot.phase = .ready ∧ s.resetsIdle ∧ s.idleWork ∧ s.dump.running = false ∧
    (resetReq w .chip).dumpFirst = true ∧ s.mayDump = true) ∧
  (∃ (s : State) (w : BarAcc), AsksReset s w .chip ∧ s.boot.phase = .bringup ∧ s.boot.done.contains 5 = false) ∧
  (∃ (s : State) (w : BarAcc), AsksReset s w .chip ∧ s.boot.phase = .hold) ∧
  (∃ (s : State) (w : BarAcc), AsksReset s w .powerCycle ∧ s.boot.phase = .ready ∧ s.resetsIdle ∧ s.idleWork ∧ s.dump.running = false ∧
    (resetReq w .powerCycle).dumpFirst = false) ∧
  (∃ (s : State), s.mgmtUp = true ∧ s.resetsIdle ∧ s.idleWork ∧ s.dump.running = false ∧ s.rst.keepers = false ∧ s.boot.phase = .ready) ∧
  (∃ (s : State), s.mgmtUp = true ∧ s.resetsIdle ∧ s.idleWork ∧ s.dump.running = false ∧ s.rst.keepers = false ∧ s.boot.phase = .hold) ∧
  (∃ (s : State) (r : RRun), s.rst.run = some r ∧ r.stage = 1 ∧ s.rst.keepers = false ∧ r.req.kind = .chip ∧ s.quiet = true ∧ s.epoch <
    0xFFFF) ∧
  (∃ (s : State) (r : RRun), s.rst.run = some r ∧ r.stage = 1 ∧ s.rst.keepers = false ∧ r.req.kind = .chip ∧ s.quiet = false) ∧
  (∃ (s : State) (r : RRun), s.rst.run = some r ∧ r.stage = 1 ∧ s.rst.keepers = false ∧ r.req.kind = .powerCycle ∧ s.quiet = true) ∧
  (∃ (s : State) (r : RRun), s.rst.run = some r ∧ r.req.kind = .chip ∧ r.stage = 2) ∧
  (∃ (s : State) (r : RRun), s.rst.run = some r ∧ r.req.kind = .chip ∧ r.stage = 2 ∧ s.noFollowers ∧ s.boot.resetPending = false) ∧
  (∃ (s : State) (r : RRun) (x : _), s.rst.run = some r ∧ r.req.kind = .chip ∧ r.stage = 3 ∧ identityFails x = []) ∧
  (∃ (s : State) (r : RRun) (short : _), s.rst.run = some r ∧ r.req.kind = .chip ∧ r.stage = 4 ∧ (s.trainBundles 0 400 short).belowBoot =
    none) ∧
  (∃ (s : State) (r : RRun), s.rst.run = some r ∧ r.req.kind = .chip ∧ r.stage = 5 ∧ s.rst.causeHeld = false) ∧
  (∃ (s : State) (r : RRun), s.rst.run = some r ∧ r.req.kind = .chip ∧ r.stage = 6) ∧
  (∃ (s : State) (r : RRun), s.rst.run = some r ∧ r.req.kind = .chip ∧ r.stage = 7 ∧ s.noFollowers ∧ s.boot.phase = .ready) ∧
  (∃ (s : State) (r : RRun), s.rst.run = some r ∧ s.rst.causeHeld = false ∧ r.req.kind = .engine ∧ r.req.escalate = false ∧ s.noFollowers) ∧
  (∃ (s : State) (r : RRun), s.rst.run = some r ∧ s.rst.causeHeld = false ∧ r.req.kind = .engine ∧ r.req.escalate = true ∧ r.req.target <
    16) ∧
  (∃ (s : State) (r : RRun), s.rst.run = some r ∧ s.rst.causeHeld = false ∧ r.req.kind = .partition ∧ r.req.escalate = false ∧
    s.noFollowers) ∧
  (∃ (s : State) (r : RRun), s.rst.run = some r ∧ s.rst.causeHeld = false ∧ r.req.kind = .chip ∧ 0 < r.stage ∧ r.req.escalate = false ∧
    s.noFollowers) ∧
  (∃ (s : State) (r : RRun), s.rst.run = some r ∧ s.rst.causeHeld = false ∧ r.req.kind = .powerCycle) ∧
  (∃ (s : State), s.kept = true) ∧
  (∃ (s : State), s.kept = false) :=
  ⟨⟨rdy, acc 4 0 4 0, by unfold AsksReset Reaches State.resetsIdle State.idleWork State.noFollowers; decide +kernel⟩,
   ⟨rdy.with [(F.HUB_DUMP_ADDR_addr, 0, 5)], acc (4 + 32) 0 4 0,
     by unfold AsksReset Reaches State.resetsIdle State.idleWork State.noFollowers; decide +kernel⟩,
   ⟨{ State.reset with boot := { phase := .bringup, island := true, done := [1, 2, 3] } }, acc 4 0 4 0,
     by unfold AsksReset Reaches; decide +kernel⟩,
   ⟨{ State.reset with boot := { phase := .hold, island := true, done := [1, 2, 3] } }, acc 4 0 4 0,
     by unfold AsksReset Reaches; decide +kernel⟩,
   ⟨rdy, acc 5 0 4 0, by unfold AsksReset Reaches State.resetsIdle State.idleWork State.noFollowers; decide +kernel⟩,
   ⟨rdy, by unfold State.resetsIdle State.idleWork State.noFollowers; decide +kernel⟩,
   ⟨{ rdy with boot := { rdy.boot with phase := .hold } }, by unfold State.resetsIdle State.idleWork State.noFollowers; decide +kernel⟩,
   ⟨{ fab with rst := { run := some { req := { kind := .chip, target := 0 }, stage := 1 } } },
     { req := { kind := .chip, target := 0 }, stage := 1 }, by decide +kernel⟩,
   ⟨{ { fab with launches := [run1 3] } with rst := { run := some { req := { kind := .chip, target := 0 }, stage := 1 } } },
     { req := { kind := .chip, target := 0 }, stage := 1 }, by decide +kernel⟩,
   ⟨{ fab with rst := { run := some { req := { kind := .powerCycle, target := 0 }, stage := 1 } } },
     { req := { kind := .powerCycle, target := 0 }, stage := 1 }, by decide +kernel⟩,
   ⟨{ fab with rst := { run := some { req := { kind := .chip, target := 0 }, stage := 2 }, keepers := true } },
     { req := { kind := .chip, target := 0 }, stage := 2 }, by decide +kernel⟩,
   ⟨{ fab with rst := { run := some { req := { kind := .chip, target := 0 }, stage := 2 }, keepers := true } },
     { req := { kind := .chip, target := 0 }, stage := 2 }, by unfold State.noFollowers; decide +kernel⟩,
   ⟨{ fab with rst := { run := some { req := { kind := .chip, target := 0 }, stage := 3 }, keepers := true } },
     { req := { kind := .chip, target := 0 }, stage := 3 }, goodRead, by decide +kernel, by decide +kernel, by decide +kernel,
     by exact goodRead_passes⟩,
   ⟨{ fab with rst := { run := some { req := { kind := .chip, target := 0 }, stage := 4 }, keepers := true } },
     { req := { kind := .chip, target := 0 }, stage := 4 }, [], by decide +kernel, by decide +kernel, by decide +kernel,
     by exact State.trainBundles_belowBoot _ (fun _ => rfl)⟩,
   ⟨{ { fab with mem := { rdy.mem with refresh := [0, 1, 2, 3] } } with rst := { run := some { req := { kind := .chip, target := 0 }, stage := 5 }, keepers := true } },
     { req := { kind := .chip, target := 0 }, stage := 5 }, by decide +kernel⟩,
   ⟨{ { fab with spad := { bytes := [(5, 6)] } } with rst := { run := some { req := { kind := .chip, target := 0 }, stage := 6 }, keepers := true } },
     { req := { kind := .chip, target := 0 }, stage := 6 }, by decide +kernel⟩,
   ⟨{ fab with rst := { run := some { req := { kind := .chip, target := 0 }, stage := 7 }, keepers := true } },
     { req := { kind := .chip, target := 0 }, stage := 7 }, by unfold State.noFollowers; decide +kernel⟩,
   ⟨{ fab with rst := { run := some { req := { kind := .engine, target := 24 } } } }, { req := { kind := .engine, target := 24 } },
     by unfold State.noFollowers; decide +kernel⟩,
   ⟨{ fab with rst := { run := some { req := { kind := .engine, target := 15, escalate := true } } } },
     { req := { kind := .engine, target := 15, escalate := true } }, by decide +kernel⟩,
   ⟨{ fab with rst := { run := some { req := { kind := .partition, target := 3 }, stage := 2 } } },
     { req := { kind := .partition, target := 3 }, stage := 2 }, by unfold State.noFollowers; decide +kernel⟩,
   ⟨{ fab with rst := { run := some { req := { kind := .chip, target := 0 }, stage := 1 } } },
     { req := { kind := .chip, target := 0 }, stage := 1 }, by unfold State.noFollowers; decide +kernel⟩,
   ⟨{ fab with rst := { run := some { req := { kind := .powerCycle, target := 0 }, stage := 1 } } },
     { req := { kind := .powerCycle, target := 0 }, stage := 1 }, by decide +kernel⟩,
   ⟨{ fab with rst := { keepers := true } }, by decide +kernel⟩,
   ⟨fab, by decide +kernel⟩⟩

theorem wit_HelloExchange :
  (∃ (s : State) (port : Fin 64) (h : Hello), s.portState port = 2 ∧ (s.port port).step = 7 ∧ s.kept = false ∧ h.version = 1 ∧ h.rsv =
    false ∧ s.helloOutcome h = { code := 1 } ∧ (s.port port).dark = none ∧ s.helloCompletes h = true ∧ (s.flow h.node).src = none ∧
    (s.flow h.node).tgt = none ∧ s.reflState = 0) ∧
  (∃ (s : State) (port : Fin 64) (h : Hello), s.linkUp port = true ∧ (s.portState port = 2 → (s.port port).step = 7) ∧ s.portState port ≠
    6 ∧ s.kept = false ∧ h.version = 1 ∧ h.rsv = false ∧ ((s.helloOutcome h).code = 3 ∨ (s.helloOutcome h).code = 4)) ∧
  (∃ (s : State) (port : Fin 64) (h : Hello), s.linkUp port = true ∧ (s.portState port = 2 → (s.port port).step = 7) ∧ s.kept = false ∧
    (h.version ≠ 1 ∨ h.rsv = true)) ∧
  (∃ (s : State) (port : Fin 64) (b : Hello), s.linkUp port = true ∧ (s.portState port = 2 → (s.port port).step = 7) ∧ s.kept = true ∧
    (s.port port).lastBody = some b) ∧
  (∃ (s : State) (port : Fin 64), s.linkUp port = false) ∧
  (∃ (s : State) (port : Fin 64), s.portState port = 3 ∧ s.kept = false) ∧
  (∃ (s : State) (port : Fin 64) (n : EndNotice), s.linkUp port = true ∧ s.portState port ≠ 6 ∧ s.kept = false ∧ ((s.port
    port).partner.map fun h => h.node) ≠ some n.node) ∧
  (∃ (s : State) (port : Fin 64) (n : EndNotice), s.linkUp port = true ∧ s.portState port ≠ 6 ∧ s.kept = false ∧ ((s.port
    port).partner.map fun h => h.node) = some n.node ∧ s.reflState = 0 ∧ n.kind = .ready) ∧
  (∃ (s : State) (port : Fin 64) (n : EndNotice), s.linkUp port = true ∧ s.portState port ≠ 6 ∧ s.kept = false ∧ ((s.port
    port).partner.map fun h => h.node) = some n.node ∧ s.reflState = 0 ∧ n.kind ≠ .ready ∧ s.fab.reqs = [] ∧ s.fab.ops = [] ∧ (∀ k < 8,
    s.sessState k = 0)) :=
  ⟨⟨{ fab.with [(F.WIN_PORT_STAT_state, 63, 2)] with ports := [(63, { step := 7, calibrated := true })] }, 63,
     { fwMajor := Config.fwMajor, fwMinor := Config.fwMinor, node := 9, seen := 5, ack := true, epoch := 3 }, by decide +kernel,
     by decide +kernel, by decide +kernel, by decide +kernel, by decide +kernel,
     by exact helloOutcome_ok (by decide +kernel) rfl rfl (by decide +kernel) rfl rfl rfl (by decide +kernel) rfl, by decide +kernel,
     by decide +kernel, by decide +kernel, by decide +kernel, by decide +kernel⟩,
   ⟨{ fab.with [(F.WIN_PORT_STAT_state, 63, 2)] with ports := [(63, { step := 7, calibrated := true })] }, 63,
     { node := 5, seen := 5, ack := true, epoch := 3 }, by decide +kernel⟩,
   ⟨{ fab.with [(F.WIN_PORT_STAT_state, 63, 2)] with ports := [(63, { step := 7, calibrated := true })] }, 63, { version := 2 },
     by decide +kernel⟩,
   ⟨{ fab.with [(F.WIN_PORT_STAT_state, 63, 3)] with ports := [(63, { lastBody := some { node := 5 } })], rst := { keepers := true, prevEpoch := 6 } },
     63, { node := 5 }, by decide +kernel⟩,
   ⟨rdy, 63, by decide +kernel⟩,
   ⟨fab, 3, by decide +kernel⟩,
   ⟨fab, 3, { kind := .ready, node := 9, epoch := 4 }, by decide +kernel⟩,
   ⟨{ fab with ports := [(3, { helloDone := true, partner := some { node := 9 } })], fab := { flows := [(9, { src := some { opened := true, epoch := 3 } })] } },
     3, { kind := .ready, node := 9, epoch := 4 }, by decide +kernel⟩,
   ⟨{ fab with ports := [(3, { helloDone := true, partner := some { node := 9 } })], fab := { flows := [(9, { src := some { opened := true, epoch := 3 } })] } },
     3, { kind := .resetting, node := 9, epoch := 4 }, by decide +kernel⟩⟩

theorem wit_JobsAndNotices :
  (∃ (s : State) (w : BarAcc), Reaches s .SEC_JOB_CTRL 0 w 0 ∧ w.bits F.SEC_JOB_CTRL_install = 1 ∧ (let u := s.writeReg .SEC_JOB_CTRL 0 w;
    (let a := u.get F.SEC_JOB_CTRL_addr 0 * 4096; u.installResult a = 1))) ∧
  (∃ (s : State) (w : BarAcc), Reaches s .SEC_JOB_CTRL 0 w 0 ∧ w.bits F.SEC_JOB_CTRL_install = 1 ∧ (let u := s.writeReg .SEC_JOB_CTRL 0 w;
    (let a := u.get F.SEC_JOB_CTRL_addr 0 * 4096; u.installResult a ≠ 1))) ∧
  (∃ (s : State) (w : BarAcc), Reaches s .SEC_JOB_CTRL 0 w 0 ∧ w.bits F.SEC_JOB_CTRL_clear = 1 ∧ w.bits F.SEC_JOB_CTRL_install ≠ 1 ∧
    s.isSet F.SEC_EXCL_STAT_shutter 0 = false ∧ (∀ k < 8, s.sessState k = 0) ∧ s.reflState = 0) ∧
  (∃ (s : State) (w : BarAcc), Reaches s .SEC_JOB_CTRL 0 w 0 ∧ w.bits F.SEC_JOB_CTRL_clear = 1 ∧ w.bits F.SEC_JOB_CTRL_install ≠ 1 ∧
    (s.isSet F.SEC_EXCL_STAT_shutter 0 = true ∨ s.reflState ≠ 0)) ∧
  (∃ (s : State) (w : BarAcc), Reaches s .SEC_NOTICE_SUBMIT 0 w 0 ∧ w.touches F.SEC_NOTICE_SUBMIT_addr = true ∧
    (let a := w.bits F.SEC_NOTICE_SUBMIT_addr * 4096; (let n := fieldAt (s.memRead a 64).bytes 3 1;
    (let d := s.memRead a (64 + 516 * n); 0 < n ∧ n ≤ 7 ∧ s.mapped a 64 = true ∧ s.mapped a (64 + 516 * n) = true ∧ d.poisoned = false ∧
    s.job.queue.length < 16)))) ∧
  (∃ (s : State) (w : BarAcc), Reaches s .SEC_NOTICE_SUBMIT 0 w 0 ∧ w.touches F.SEC_NOTICE_SUBMIT_addr = true ∧
    (let a := w.bits F.SEC_NOTICE_SUBMIT_addr * 4096; (let n := fieldAt (s.memRead a 64).bytes 3 1;
    (let d := s.memRead a (64 + 516 * n); 0 < n ∧ n ≤ 7 ∧ s.mapped a 64 = true ∧ s.mapped a (64 + 516 * n) = true ∧ d.poisoned = false ∧
    16 ≤ s.job.queue.length)))) ∧
  (∃ (s : State), s.mgmtUp = true ∧ s.kept = false ∧ s.job.queue.length < 16) ∧
  (∃ (s : State), s.mgmtUp = true ∧ s.kept = true) ∧
  (∃ (s : State) (port : Fin 64) (f : NoticeFrag), s.linkUp port = true ∧ s.portState port ≠ 6 ∧ s.kept = false ∧ f.rsv = false ∧ f.index
    = 0 ∧ f.count = 1 ∧ f.data.length ≤ 232 ∧ s.job.queue.length < 16) ∧
  (∃ (s : State) (port : Fin 64) (f : NoticeFrag), s.linkUp port = true ∧ s.portState port ≠ 6 ∧ s.kept = false ∧ f.rsv = false ∧ f.index
    = 0 ∧ 1 < f.count ∧ f.count ≤ 16 ∧ f.data.length = 232) ∧
  (∃ (s : State) (port : Fin 64) (f : NoticeFrag) (bs : _) (t0 : _), s.linkUp port = true ∧ s.portState port ≠ 6 ∧ s.kept = false ∧ f.rsv
    = false ∧ (s.port port).frag = some (bs, f.index, f.count, t0) ∧ 0 < f.index ∧ f.index + 1 < f.count ∧ f.count ≤ 16 ∧ f.data.length
    = 232 ∧ s.time ≤ t0 + 1000000 ∧ fieldAt bs 4 4 = f.generation) ∧
  (∃ (s : State) (port : Fin 64) (f : NoticeFrag) (bs : _) (t0 : _), s.linkUp port = true ∧ s.portState port ≠ 6 ∧ s.kept = false ∧ f.rsv
    = false ∧ (s.port port).frag = some (bs, f.index, f.count, t0) ∧ 0 < f.index ∧ f.index + 1 < f.count ∧ f.count ≤ 16 ∧ f.data.length
    = 232 ∧ t0 + 1000000 < s.time) ∧
  (∃ (s : State) (port : Fin 64) (bs : List Byte) (i : Nat) (n : Nat) (t0 : Nat), (s.port port).frag = some (bs, i, n, t0)) ∧
  (∃ (s : State) (b : List Byte) (rest : List (List Byte)), s.job.queue = b :: rest ∧ s.isSet F.SEC_JOB_STAT_installed 0 = false) ∧
  (∃ (s : State) (b : List Byte) (rest : List (List Byte)), s.job.queue = b :: rest ∧ s.isSet F.SEC_JOB_STAT_installed 0 = true ∧
    noticeBad b = true) ∧
  (∃ (s : State) (b : List Byte) (rest : List (List Byte)), s.job.queue = b :: rest ∧ s.isSet F.SEC_JOB_STAT_installed 0 = true ∧
    noticeBad b = false ∧ fieldAt b 8 8 ≠ fieldAt s.job.block 0 8) ∧
  (∃ (s : State) (b : List Byte) (rest : List (List Byte)) (good : List Nat), s.job.queue = b :: rest ∧
    (let valid := noticeManagers b good (s.get F.SEC_JOB_STAT_n 0); (let g := fieldAt b 4 4; s.isSet F.SEC_JOB_STAT_installed 0 = true ∧
    noticeBad b = false ∧ fieldAt b 8 8 = fieldAt s.job.block 0 8 ∧ g = s.get F.SEC_EXCL_STAT_generation 0 + 1 ∧ valid.length < s.get
    F.SEC_JOB_STAT_k 0))) ∧
  (∃ (s : State) (b : List Byte) (rest : List (List Byte)) (good : List Nat), s.job.queue = b :: rest ∧
    (let valid := noticeManagers b good (s.get F.SEC_JOB_STAT_n 0); (let n := fieldAt b 16 3; (let g := fieldAt b 4 4; s.isSet
    F.SEC_JOB_STAT_installed 0 = true ∧ noticeBad b = false ∧ fieldAt b 8 8 = fieldAt s.job.block 0 8 ∧ g = s.get
    F.SEC_EXCL_STAT_generation 0 + 1 ∧ s.get F.SEC_JOB_STAT_k 0 ≤ valid.length ∧ fieldAt b 2 1 = 1 ∧ n ≠ s.ownNode ∧ n ∉ s.job.excl ∧
    s.job.excl.length < 4096 ∧ s.job.held = [] ∧ s.fab.reqs = [] ∧ s.fab.ops = [] ∧ (∀ k < 8, s.sessState k = 0) ∧ s.reflState = 0)))) ∧
  (∃ (s : State), s.job.queue = []) ∧
  (∃ (s : State) (g : BitVec 32) (e : List Byte × Nat), (s.job.held.find? fun e => fieldAt e.1 4 4 == g.toNat) = some e) :=
  ⟨⟨{ rdy with mem := { rdy.mem with dram := { bytes := SMap.setRun 0 [] 0 (bytesOf 64 [(0, 8, 99), (8, 1, 5), (9, 1, 7), (16, 8, 2 ^ 22)]) } } },
     acc 1 0 8 0, by dsimp only; unfold Reaches; decide +kernel⟩,
   ⟨rdy, acc (4096 + 1) 0 8 0, by dsimp only; unfold Reaches; decide +kernel⟩,
   ⟨{ rdy.with [(F.SEC_JOB_STAT_installed, 0, 1), (F.SEC_CFG_DIGEST_digest, 0, 7)] with job := { excl := [9] } }, acc 2 0 8 0,
     by unfold Reaches; decide +kernel⟩,
   ⟨rdy.with [(F.SEC_JOB_STAT_installed, 0, 1), (F.SEC_EXCL_STAT_shutter, 0, 1)], acc 2 0 8 0, by unfold Reaches; decide +kernel⟩,
   ⟨{ rdy with mem := { rdy.mem with dram := { bytes := SMap.setRun 0 [] 0 (bytesOf 64 [(3, 1, 1)]) } } }, acc 0 0 8 0,
     by dsimp only; unfold Reaches; decide +kernel⟩,
   ⟨{ { rdy with mem := { rdy.mem with dram := { bytes := SMap.setRun 0 [] 0 (bytesOf 64 [(3, 1, 1)]) } } } with job := { queue := List.replicate 16 [] } },
     acc 0 0 8 0, by dsimp only; unfold Reaches; decide +kernel⟩,
   ⟨rdy, by decide +kernel⟩,
   ⟨{ rdy with rst := { keepers := true } }, by decide +kernel⟩,
   ⟨{ rdy.with [(F.WIN_PORT_STAT_state, 63, 3)] with ports := [(63, { helloDone := true })] }, 63,
     { generation := 4, index := 0, count := 1, data := [1, 2] }, by decide +kernel⟩,
   ⟨{ rdy.with [(F.WIN_PORT_STAT_state, 63, 3)] with ports := [(63, { helloDone := true })] }, 63,
     { generation := 4, index := 0, count := 16, data := List.replicate 232 7 }, by decide +kernel⟩,
   ⟨{ rdy.with [(F.WIN_PORT_STAT_state, 63, 3)] with ports := [(63, { helloDone := true, frag := some (List.replicate 3248 7, 14, 16, 3599999000000) })] },
     63, { generation := 0x07070707, index := 14, count := 16, data := List.replicate 232 8 }, List.replicate 3248 7, 3599999000000,
     by decide +kernel⟩,
   ⟨{ rdy.with [(F.WIN_PORT_STAT_state, 63, 3)] with ports := [(63, { helloDone := true, frag := some (List.replicate 3248 7, 14, 16, 3599998999999) })] },
     63, { generation := 0x07070707, index := 14, count := 16, data := List.replicate 232 8 }, List.replicate 3248 7, 3599998999999,
     by decide +kernel⟩,
   ⟨{ rdy.with [(F.WIN_PORT_STAT_state, 63, 3)] with ports := [(63, { helloDone := true, frag := some ([7], 14, 16, 9) })] }, 63, [7], 14,
     16, 9, by decide +kernel⟩,
   ⟨{ fab.with [(F.SEC_JOB_STAT_installed, 0, 0), (F.SEC_JOB_STAT_k, 0, 1), (F.SEC_JOB_STAT_n, 0, 7)] with job := { block := (bytesOf 64 [(0, 8, 99)]), queue := [(bytesOf 580 [(0, 2, 1), (2, 1, 1), (3, 1, 1), (4, 4, 1), (8, 8, 99), (16, 3, 9), (64, 1, 4)])] } },
     (bytesOf 580 [(0, 2, 1), (2, 1, 1), (3, 1, 1), (4, 4, 1), (8, 8, 99), (16, 3, 9), (64, 1, 4)]), [], by decide +kernel⟩,
   ⟨{ fab.with [(F.SEC_JOB_STAT_installed, 0, 1), (F.SEC_JOB_STAT_k, 0, 1), (F.SEC_JOB_STAT_n, 0, 7)] with job := { block := (bytesOf 64 [(0, 8, 99)]), queue := [[1]] } },
     [1], [], by decide +kernel⟩,
   ⟨{ fab.with [(F.SEC_JOB_STAT_installed, 0, 1), (F.SEC_JOB_STAT_k, 0, 1), (F.SEC_JOB_STAT_n, 0, 7)] with job := { block := [], queue := [(bytesOf 580 [(0, 2, 1), (2, 1, 1), (3, 1, 1), (4, 4, 1), (8, 8, 99), (16, 3, 9), (64, 1, 4)])] } },
     (bytesOf 580 [(0, 2, 1), (2, 1, 1), (3, 1, 1), (4, 4, 1), (8, 8, 99), (16, 3, 9), (64, 1, 4)]), [], by decide +kernel⟩,
   ⟨{ fab.with [(F.SEC_JOB_STAT_installed, 0, 1), (F.SEC_JOB_STAT_k, 0, 2), (F.SEC_JOB_STAT_n, 0, 7)] with job := { block := (bytesOf 64 [(0, 8, 99)]), queue := [(bytesOf 580 [(0, 2, 1), (2, 1, 1), (3, 1, 1), (4, 4, 1), (8, 8, 99), (16, 3, 9), (64, 1, 4)])] } },
     (bytesOf 580 [(0, 2, 1), (2, 1, 1), (3, 1, 1), (4, 4, 1), (8, 8, 99), (16, 3, 9), (64, 1, 4)]), [], [0],
     by dsimp only; decide +kernel⟩,
   ⟨{ fab.with [(F.SEC_JOB_STAT_installed, 0, 1), (F.SEC_JOB_STAT_k, 0, 1), (F.SEC_JOB_STAT_n, 0, 7)] with job := { block := (bytesOf 64 [(0, 8, 99)]), queue := [(bytesOf 580 [(0, 2, 1), (2, 1, 1), (3, 1, 1), (4, 4, 1), (8, 8, 99), (16, 3, 9), (64, 1, 4)])] } },
     (bytesOf 580 [(0, 2, 1), (2, 1, 1), (3, 1, 1), (4, 4, 1), (8, 8, 99), (16, 3, 9), (64, 1, 4)]), [], [0],
     by dsimp only; decide +kernel⟩,
   ⟨rdy, by decide +kernel⟩,
   ⟨{ rdy with job := { held := [((bytesOf 580 [(0, 2, 1), (2, 1, 1), (3, 1, 1), (4, 4, 1), (8, 8, 99), (16, 3, 9), (64, 1, 4)]), 9)] } },
     1, ((bytesOf 580 [(0, 2, 1), (2, 1, 1), (3, 1, 1), (4, 4, 1), (8, 8, 99), (16, 3, 9), (64, 1, 4)]), 9), by decide +kernel⟩⟩

theorem wit_ReflectionSends :
  (∃ (s : State) (w : Work) (it : Item) (d : _), s.fresh w 0x0C = some it ∧ (let op := fieldAt it.payload 0 1; op = 1 ∧ reflFormat
    it.payload = some d)) ∧
  (∃ (s : State) (w : Work) (it : Item), s.fresh w 0x0C = some it ∧ (let op := fieldAt it.payload 0 1; op = 1 ∧ reflFormat it.payload =
    none ∧ s.reflState ≠ 0)) ∧
  (∃ (s : State) (w : Work) (it : Item), s.fresh w 0x0C = some it ∧ (let op := fieldAt it.payload 0 1; (let a := fieldAt it.payload 8 8;
    op = 1 ∧ reflFormat it.payload = none ∧ s.reflState = 0 ∧ s.mayLocal it.ctx a 64 false = false))) ∧
  (∃ (s : State) (w : Work) (it : Item), s.fresh w 0x0C = some it ∧ (let op := fieldAt it.payload 0 1; (let a := fieldAt it.payload 8 8;
    op = 1 ∧ (let n := fieldAt (s.memRead a 64).bytes 6 2; (let d := s.memRead a (64 + 16 * n); reflFormat it.payload = none ∧
    s.reflState = 0 ∧ s.mayLocal it.ctx a 64 false = true ∧ s.memHeld a 64 = false ∧ 0 < n ∧ n ≤ 64 ∧ s.mayLocal it.ctx a (64 + 16 * n)
    false = true ∧ s.memHeld a (64 + 16 * n) = false ∧ d.poisoned = false ∧ s.blockBad d.bytes = true))))) ∧
  (∃ (s : State) (w : Work) (it : Item), s.fresh w 0x0C = some it ∧ (let op := fieldAt it.payload 0 1; (let a := fieldAt it.payload 8 8;
    op = 1 ∧ (let n := fieldAt (s.memRead a 64).bytes 6 2; (let d := s.memRead a (64 + 16 * n); reflFormat it.payload = none ∧
    s.reflState = 0 ∧ s.mayLocal it.ctx a 64 false = true ∧ s.memHeld a 64 = false ∧ 0 < n ∧ n ≤ 64 ∧ s.mayLocal it.ctx a (64 + 16 * n)
    false = true ∧ s.memHeld a (64 + 16 * n) = false ∧ d.poisoned = false ∧ s.blockBad d.bytes = false ∧ (∀ x ∈ blockRegions d.bytes ++
    blockAreas d.bytes, s.areaMapped x = true) ∧ anyOverlap (blockRegions d.bytes ++ blockAreas d.bytes) = false ∧ fieldAt d.bytes 0 4 ∉
    s.job.excl ∧ s.isSet F.SEC_EXCL_STAT_shutter 0 = false))))) ∧
  (∃ (s : State) (w : Work) (it : Item) (d : _), s.fresh w 0x0C = some it ∧ (let op := fieldAt it.payload 0 1; op = 0 ∧ reflFormat
    it.payload = some d)) ∧
  (∃ (s : State) (w : Work) (it : Item), s.fresh w 0x0C = some it ∧ (let op := fieldAt it.payload 0 1; op = 0 ∧ reflFormat it.payload =
    none ∧ s.reflState = 5)) ∧
  (∃ (s : State) (w : Work) (it : Item), s.fresh w 0x0C = some it ∧ (let op := fieldAt it.payload 0 1; op = 0 ∧ reflFormat it.payload =
    none ∧ s.reflState < 2 ∧ s.refl.rolling = none)) ∧
  (∃ (s : State) (w : Work) (it : Item), s.fresh w 0x0C = some it ∧ (let op := fieldAt it.payload 0 1; (let g := fieldAt it.payload 16 4;
    op = 0 ∧ reflFormat it.payload = none ∧ s.reflBound = true ∧ g ≠ s.get F.FAB_REFLECT_GEN_created 0 + 1))) ∧
  (∃ (s : State) (w : Work) (it : Item), s.fresh w 0x0C = some it ∧ (let op := fieldAt it.payload 0 1; (let g := fieldAt it.payload 16 4;
    op = 0 ∧ reflFormat it.payload = none ∧ s.reflBound = true ∧ g = s.get F.FAB_REFLECT_GEN_created 0 + 1))) ∧
  (∃ (s : State) (w : Work) (it : Item) (d : _), s.fresh w 0x0C = some it ∧ (let op := fieldAt it.payload 0 1; op = 2 ∧ reflFormat
    it.payload = some d)) ∧
  (∃ (s : State) (w : Work) (it : Item), s.fresh w 0x0C = some it ∧ (let op := fieldAt it.payload 0 1; op = 2 ∧ reflFormat it.payload =
    none ∧ s.refl.marks = [] ∧ s.refl.work = none)) ∧
  (∃ (s : State), (s.reflBound = false ∨ s.reflMay = false)) ∧
  (∃ (s : State), s.reflBound = true ∧ s.reflMay = true ∧ s.reflWaiting = false ∧ (∀ r ∈ s.fab.reqs, r.serial < s.fab.serial) ∧
    s.reflState = 4 ∧ s.refl.owe = true) ∧
  (∃ (s : State), s.reflBound = true ∧ s.reflMay = true ∧ s.reflWaiting = false ∧ (∀ r ∈ s.fab.reqs, r.serial < s.fab.serial) ∧
    s.reflState = 4 ∧ s.refl.owe = false) ∧
  (∃ (s : State) (g : _), s.reflBound = true ∧ s.reflMay = true ∧ s.reflWaiting = false ∧ (∀ r ∈ s.fab.reqs, r.serial < s.fab.serial) ∧
    s.reflState ≠ 4 ∧ s.refl.markDue = some g) ∧
  (∃ (s : State) (b : _) (a : _), s.reflBound = true ∧ s.reflMay = true ∧ s.reflWaiting = false ∧ (∀ r ∈ s.fab.reqs, r.serial <
    s.fab.serial) ∧ s.reflState ≠ 4 ∧ s.refl.markDue = none ∧ s.refl.nextDirty = some b ∧ reflAddr s.refl.regions b = some a ∧ s.memHeld
    a 2048 = false) ∧
  (∃ (s : State) (c : _) (a : _), s.reflBound = true ∧ s.reflMay = true ∧ s.reflWaiting = false ∧ (∀ r ∈ s.fab.reqs, r.serial <
    s.fab.serial) ∧ s.reflState ≠ 4 ∧ s.refl.markDue = none ∧ s.refl.nextDirty = none ∧ s.refl.copyAt = some c ∧ c + 1 < s.refl.total *
    1024 ∧ reflAddr s.refl.regions c = some a ∧ s.memHeld a 2048 = false) ∧
  (∃ (s : State), s.reflBound = true ∧ s.reflMay = true ∧ s.reflWaiting = false ∧ (∀ r ∈ s.fab.reqs, r.serial < s.fab.serial) ∧
    s.reflState ≠ 4) ∧
  (∃ (s : State), s.reflState = 1 ∧ s.reflMay = true ∧ (∀ r ∈ s.fab.reqs, r.serial < s.fab.serial)) ∧
  (∃ (s : State) (port : Fin 64) (p : Packet) (r : FabReq) (m : _) (w : _) (it : _), s.kept = false ∧ s.portReceives port = true ∧ p.kind
    = 0x80 ∧ s.fab.reqs = [r] ∧ s.fab.ops = [] ∧ r.tag = p.tag ∧ r.attempts ≠ 0 ∧ r.node = p.src ∧ r.opn = false ∧ r.op = none ∧ r.node
    = s.reflPartner ∧ p.status = Status.ok.code ∧ r.fits p .ok = true ∧ s.reflBound = true ∧ r.kind = 0xA2 ∧ s.refl.marks = [m] ∧ m.gen
    = r.key ∧ m.work = some w ∧ s.item w = some it ∧ it.phase = .busy ∧ r.key < 2 ^ 32 ∧ s.get F.FAB_REFLECT_GEN_durable 0 < r.key) ∧
  (∃ (s : State) (port : Fin 64) (p : Packet) (r : FabReq), s.kept = false ∧ s.portReceives port = true ∧ p.kind = 0x80 ∧ s.fab.reqs = [r]
    ∧ s.fab.ops = [] ∧ r.tag = p.tag ∧ r.attempts ≠ 0 ∧ r.node = p.src ∧ r.opn = false ∧ r.op = none ∧ r.node = s.reflPartner ∧ p.status
    = Status.ok.code ∧ r.fits p .ok = true ∧ s.reflBound = true ∧ r.kind = 0xA1 ∧ SMap.get 0 s.refl.dirty (r.off / 2048) = 2 + r.serial) :=
  ⟨⟨(fab.work 0 [ent 12 3 .dispatched [(0, 1, 1), (1, 1, 1)]]), d3, ((fab.work 0 [ent 12 3 .dispatched [(0, 1, 1), (1, 1, 1)]])).it d3, 33,
     by dsimp only; decide +kernel⟩,
   ⟨((fab.work 0 [ent 12 3 .dispatched [(0, 1, 1), (8, 8, 64)]])).with [(F.FAB_REFLECT_STAT_state, 0, 3), (F.FAB_REFLECT_STAT_partner, 0,
     9)], d3, (((fab.work 0 [ent 12 3 .dispatched [(0, 1, 1), (8, 8, 64)]])).with [(F.FAB_REFLECT_STAT_state, 0, 3),
     (F.FAB_REFLECT_STAT_partner, 0, 9)]).it d3, by dsimp only; decide +kernel⟩,
   ⟨(fab.work 0 [ent 12 3 .dispatched [(0, 1, 1), (8, 8, 2 ^ 40)]]), d3, ((fab.work 0 [ent 12 3 .dispatched [(0, 1, 1), (8, 8, 2 ^
     40)]])).it d3, by dsimp only; decide +kernel⟩,
   ⟨{ ((fab.work 0 [ent 12 3 .dispatched [(0, 1, 1), (8, 8, 64)]])).with [(F.MEM_MAP_size, 0, 4096)] with mem := { rdy.mem with dram := { bytes := SMap.setRun 0 [] 64 (bytesOf 80 [(6, 2, 1)]) } } },
     d3,
     ({ ((fab.work 0 [ent 12 3 .dispatched [(0, 1, 1), (8, 8, 64)]])).with [(F.MEM_MAP_size, 0, 4096)] with mem := { rdy.mem with dram := { bytes := SMap.setRun 0 [] 64 (bytesOf 80 [(6, 2, 1)]) } } }).it
     d3, by dsimp only; decide +kernel⟩,
   ⟨{ ((fab.work 0 [ent 12 3 .dispatched [(0, 1, 1), (8, 8, 64)]])).with [(F.MEM_MAP_size, 0, 4096)] with mem := { rdy.mem with dram := { bytes := SMap.setRun 0 [] 64 (bytesOf 80 [(0, 4, 9), (4, 2, 20), (6, 2, 1), (8, 8, 1), (16, 8, 2 ^ 21), (24, 4, 1), (28, 4, 1), (32, 8, 2 ^ 22), (40, 8, 2 ^ 26), (64, 8, 2 ^ 23), (72, 4, 1)]) } } },
     d3,
     ({ ((fab.work 0 [ent 12 3 .dispatched [(0, 1, 1), (8, 8, 64)]])).with [(F.MEM_MAP_size, 0, 4096)] with mem := { rdy.mem with dram := { bytes := SMap.setRun 0 [] 64 (bytesOf 80 [(0, 4, 9), (4, 2, 20), (6, 2, 1), (8, 8, 1), (16, 8, 2 ^ 21), (24, 4, 1), (28, 4, 1), (32, 8, 2 ^ 22), (40, 8, 2 ^ 26), (64, 8, 2 ^ 23), (72, 4, 1)]) } } }).it
     d3, by dsimp only; decide +kernel⟩,
   ⟨(fab.work 0 [ent 12 3 .dispatched [(0, 1, 0), (8, 8, 64)]]), d3, ((fab.work 0 [ent 12 3 .dispatched [(0, 1, 0), (8, 8, 64)]])).it d3,
     40, by dsimp only; decide +kernel⟩,
   ⟨((fab.work 0 [ent 12 3 .dispatched [(16, 4, 7)]])).with [(F.FAB_REFLECT_STAT_state, 0, 5), (F.FAB_REFLECT_STAT_partner, 0, 9)], d3,
     (((fab.work 0 [ent 12 3 .dispatched [(16, 4, 7)]])).with [(F.FAB_REFLECT_STAT_state, 0, 5), (F.FAB_REFLECT_STAT_partner, 0, 9)]).it
     d3, by dsimp only; decide +kernel⟩,
   ⟨((fab.work 0 [ent 12 3 .dispatched [(16, 4, 7)]])).with [(F.FAB_REFLECT_STAT_state, 0, 1), (F.FAB_REFLECT_STAT_partner, 0, 9)], d3,
     (((fab.work 0 [ent 12 3 .dispatched [(16, 4, 7)]])).with [(F.FAB_REFLECT_STAT_state, 0, 1), (F.FAB_REFLECT_STAT_partner, 0, 9)]).it
     d3, by dsimp only; decide +kernel⟩,
   ⟨(((fab.work 0 [ent 12 3 .dispatched [(16, 4, 8)]])).with [(F.FAB_REFLECT_STAT_state, 0, 3), (F.FAB_REFLECT_STAT_partner, 0, 9),
     (F.FAB_REFLECT_GEN_created, 0, 6)]), d3, ((((fab.work 0 [ent 12 3 .dispatched [(16, 4, 8)]])).with [(F.FAB_REFLECT_STAT_state, 0,
     3), (F.FAB_REFLECT_STAT_partner, 0, 9), (F.FAB_REFLECT_GEN_created, 0, 6)])).it d3, by dsimp only; decide +kernel⟩,
   ⟨(((fab.work 0 [ent 12 3 .dispatched [(16, 4, 7)]])).with [(F.FAB_REFLECT_STAT_state, 0, 4), (F.FAB_REFLECT_STAT_partner, 0, 9),
     (F.FAB_REFLECT_GEN_created, 0, 6)]), d3, ((((fab.work 0 [ent 12 3 .dispatched [(16, 4, 7)]])).with [(F.FAB_REFLECT_STAT_state, 0,
     4), (F.FAB_REFLECT_STAT_partner, 0, 9), (F.FAB_REFLECT_GEN_created, 0, 6)])).it d3, by dsimp only; decide +kernel⟩,
   ⟨(fab.work 0 [ent 12 3 .dispatched [(0, 1, 2), (16, 4, 7)]]), d3, ((fab.work 0 [ent 12 3 .dispatched [(0, 1, 2), (16, 4, 7)]])).it d3,
     48, by dsimp only; decide +kernel⟩,
   ⟨(((fab.work 0 [ent 12 3 .dispatched [(0, 1, 2)]])).with [(F.FAB_REFLECT_STAT_state, 0, 3), (F.FAB_REFLECT_STAT_partner, 0, 9),
     (F.FAB_REFLECT_GEN_created, 0, 6)]), d3, ((((fab.work 0 [ent 12 3 .dispatched [(0, 1, 2)]])).with [(F.FAB_REFLECT_STAT_state, 0,
     3), (F.FAB_REFLECT_STAT_partner, 0, 9), (F.FAB_REFLECT_GEN_created, 0, 6)])).it d3, by dsimp only; decide +kernel⟩,
   ⟨fab, by decide +kernel⟩,
   ⟨{ fab.with [(F.FAB_REFLECT_STAT_state, 0, 4), (F.FAB_REFLECT_STAT_partner, 0, 9), (F.FAB_REFLECT_STAT_shadow_gen, 0, 3)] with refl := { regions := [(2 ^ 23, 1)], ports := 8, owe := true } },
     by decide +kernel⟩,
   ⟨{ fab.with [(F.FAB_REFLECT_STAT_state, 0, 4), (F.FAB_REFLECT_STAT_partner, 0, 9), (F.FAB_REFLECT_STAT_shadow_gen, 0, 3)] with refl := { regions := [(2 ^ 23, 1)], ports := 8, owe := false } },
     by decide +kernel⟩,
   ⟨{ fab.with [(F.FAB_REFLECT_STAT_state, 0, 2), (F.FAB_REFLECT_STAT_partner, 0, 9), (F.FAB_REFLECT_STAT_shadow_gen, 0, 3)] with refl := { regions := [(2 ^ 23, 1)], ports := 8, marks := [{ gen := 7 }] } },
     7, by decide +kernel⟩,
   ⟨{ fab.with [(F.FAB_REFLECT_STAT_state, 0, 3), (F.FAB_REFLECT_STAT_partner, 0, 9), (F.FAB_REFLECT_STAT_shadow_gen, 0, 3)] with refl := { regions := [(2 ^ 23, 1)], ports := 8, dirty := [(1023, 1)] } },
     1023, 2 ^ 23 + 1023 * 2048, by decide +kernel⟩,
   ⟨{ fab.with [(F.FAB_REFLECT_STAT_state, 0, 3), (F.FAB_REFLECT_STAT_partner, 0, 9), (F.FAB_REFLECT_STAT_shadow_gen, 0, 3)] with refl := { regions := [(2 ^ 23, 1)], ports := 8, copyAt := some 1022 } },
     1022, 2 ^ 23 + 1022 * 2048, by decide +kernel⟩,
   ⟨{ fab.with [(F.FAB_REFLECT_STAT_state, 0, 3), (F.FAB_REFLECT_STAT_partner, 0, 9), (F.FAB_REFLECT_STAT_shadow_gen, 0, 3)] with refl := { regions := [(2 ^ 23, 1)], ports := 8, lastSent := 3600000000000 } },
     by decide +kernel⟩,
   ⟨{ fab.with [(F.FAB_REFLECT_STAT_state, 0, 1), (F.FAB_REFLECT_STAT_partner, 0, 9), (F.FAB_REFLECT_STAT_shadow_gen, 0, 3)] with refl := { regions := [(2 ^ 23, 1)], ports := 8, lastSent := 9 } },
     by decide +kernel⟩,
   ⟨{ (fab.work 0 [ent 12 3 .busy [(16, 4, 7)]]).with [(F.FAB_REFLECT_STAT_state, 0, 3), (F.FAB_REFLECT_STAT_partner, 0, 9), (F.FAB_REFLECT_GEN_created, 0, 7), (F.FAB_REFLECT_GEN_durable, 0, 6)] with refl := { marks := [{ gen := 7, work := some d3, sent := true }] }, fab := { flows := [(9, { src := some { opened := true } })], reqs := [{ serial := 4, tag := 7, op := none, node := 9, kind := 0xA2, off := 0, key := 7, attempts := 1, port := 3 }] } },
     3, { kind := 0x80, tag := 7, src := 9, dst := 5 },
     { serial := 4, tag := 7, op := none, node := 9, kind := 0xA2, off := 0, key := 7, attempts := 1, port := 3 },
     { gen := 7, work := some d3, sent := true }, d3, (fab.work 0 [ent 12 3 .busy [(16, 4, 7)]]).it d3, by decide +kernel⟩,
   ⟨{ (fab.work 0 [ent 12 3 .busy [(16, 4, 7)]]).with [(F.FAB_REFLECT_STAT_state, 0, 3), (F.FAB_REFLECT_STAT_partner, 0, 9), (F.FAB_REFLECT_GEN_created, 0, 7), (F.FAB_REFLECT_GEN_durable, 0, 6)] with refl := { dirty := [(5, 6), (6, 1)] }, fab := { flows := [(9, { src := some { opened := true } })], reqs := [{ serial := 4, tag := 7, op := none, node := 9, kind := 0xA1, off := 10240, key := 7, attempts := 1, port := 3 }] } },
     3, { kind := 0x80, tag := 7, src := 9, dst := 5 },
     { serial := 4, tag := 7, op := none, node := 9, kind := 0xA1, off := 10240, key := 7, attempts := 1, port := 3 },
     by decide +kernel⟩⟩

theorem wit_ReflectionReceives :
  (∃ (s : State) (port : Fin 64) (p : Packet) (x : FlowTgt), Admits s port p x ∧ p.fseq = x.expected ∧ x.expected < 2 ^ 32 ∧ s.reflBound =
    true ∧ s.reflPartner = p.src ∧ s.refl.epoch = p.srcEpoch ∧ p.kind = 0xA1 ∧ p.offset + 2048 ≤ s.refl.shadowSize * 2 ^ 21 ∧ s.mapped
    (s.refl.shadow + p.offset) 2048 = true ∧ p.poison = false ∧ s.get F.FAB_REFLECT_STAT_shadow 0 = 1) ∧
  (∃ (s : State) (port : Fin 64) (p : Packet) (x : FlowTgt), Admits s port p x ∧ p.fseq = x.expected ∧ x.expected < 2 ^ 32 ∧ s.reflBound =
    true ∧ s.reflPartner = p.src ∧ s.refl.epoch = p.srcEpoch ∧ p.kind = 0xA1 ∧ p.offset + 2048 ≤ s.refl.shadowSize * 2 ^ 21 ∧ s.mapped
    (s.refl.shadow + p.offset) 2048 = true ∧ p.poison = false ∧ s.get F.FAB_REFLECT_STAT_shadow 0 ≠ 1 ∧ (s.refl.log.any fun u => u.burst
    == p.offset / 2048) = false ∧ s.refl.log.length < s.refl.undoMax) ∧
  (∃ (s : State) (port : Fin 64) (p : Packet) (x : FlowTgt), Admits s port p x ∧ p.fseq = x.expected ∧ x.expected < 2 ^ 32 ∧ s.reflBound =
    true ∧ s.reflPartner = p.src ∧ s.refl.epoch = p.srcEpoch ∧ p.kind = 0xA2 ∧ s.get F.FAB_REFLECT_STAT_shadow_gen 0 < p.key ∧ p.key < 2
    ^ 32 ∧ (s.get F.FAB_REFLECT_STAT_shadow 0 = 1 → p.offset ≠ 0)) ∧
  (∃ (s : State) (port : Fin 64) (p : Packet) (x : FlowTgt), Admits s port p x ∧ p.fseq = x.expected ∧ x.expected < 2 ^ 32 ∧ s.reflBound =
    true ∧ s.reflPartner = p.src ∧ s.refl.epoch = p.srcEpoch ∧ p.kind = 0xA3) ∧
  (∃ (s : State) (port : Fin 64) (p : Packet) (x : FlowTgt), Admits s port p x ∧ p.fseq = x.expected ∧ x.expected < 2 ^ 32 ∧ s.reflBound =
    true ∧ s.reflPartner = p.src ∧ s.refl.epoch = p.srcEpoch ∧ p.kind = 0xA4) ∧
  (∃ (s : State) (port : Fin 64) (p : Packet) (x : FlowTgt), Admits s port p x ∧ p.fseq = x.expected ∧ x.expected < 2 ^ 32 ∧ s.reflState =
    1 ∧ s.reflPartner = p.src ∧ p.kind = 0xA0 ∧ s.refl.given = false ∧ fieldAt p.data 8 4 ≤ s.refl.shadowSize ∧ s.refl.total ≤ fieldAt
    p.data 12 4) ∧
  (∃ (s : State) (port : Fin 64) (p : Packet) (x : FlowTgt) (c : _), Admits s port p x ∧ p.fseq = x.expected ∧ x.expected < 2 ^ 32 ∧
    s.reflPartner ≠ p.src ∧ c ∈ [(0xA0, Instr.rbind port p), (0xA1, .rburst port p), (0xA2, .rmark port p), (0xA3, .rkeep port p),
    (0xA4, .rresume port p)] ∧ p.kind = c.1) ∧
  (∃ (s : State) (w : _) (it : _), s.reflState = 1 ∧ s.refl.work = some w ∧ s.item w = some it ∧ it.phase = .busy) ∧
  (∃ (s : State), s.reflBound = true ∧ s.refl.marks = [] ∧ s.refl.quiet = none ∧ s.refl.owe = false ∧ s.get F.FAB_REFLECT_STAT_shadow 0 =
    1) ∧
  (∃ (s : State) (q : _), s.reflBound = true ∧ s.refl.marks = [] ∧ s.refl.quiet = some q ∧ s.get F.FAB_REFLECT_STAT_shadow 0 = 1) ∧
  (∃ (s : State), s.reflBound = true ∧ s.refl.marks = [] ∧ s.refl.quiet = none ∧ s.refl.owe = false ∧ s.get F.FAB_REFLECT_STAT_shadow 0 =
    2 ∧ s.isSet F.FAB_REFLECT_STAT_overflow 0 = false) ∧
  (∃ (s : State), s.reflBound = false) ∧
  (∃ (s : State) (cause : Nat) (t0 : Nat), s.refl.rolling = some (cause, t0) ∧ cause < 8) ∧
  (∃ (s : State), s.refl.rolling = none) :=
  ⟨⟨{ fab.with [(F.FAB_REFLECT_STAT_state, 0, 3), (F.FAB_REFLECT_STAT_partner, 0, 9), (F.FAB_REFLECT_STAT_shadow, 0, 1), (F.SEC_CFG_DIGEST_digest, 0, 77)] with fab := { flows := [(9, { tgt := some { epoch := 3, expected := 6, hwm := 8 } })] }, refl := { epoch := 3, shadow := 2 ^ 23, shadowSize := 1 }, mem := { rdy.mem with dram := { bytes := [((31 * 1179648 + 159) * 2048, 5)] } } },
     3,
     { kind := 0xA1, tag := 55, dst := 5, src := 9, dstEpoch := 7, srcEpoch := 3, fseq := 6, offset := 1023 * 2048, length := 2048, data := List.replicate 2048 7 },
     { epoch := 3, expected := 6, hwm := 8 }, by unfold Admits; decide +kernel⟩,
   ⟨{ fab.with [(F.FAB_REFLECT_STAT_state, 0, 3), (F.FAB_REFLECT_STAT_partner, 0, 9), (F.FAB_REFLECT_STAT_shadow, 0, 2), (F.SEC_CFG_DIGEST_digest, 0, 77)] with fab := { flows := [(9, { tgt := some { epoch := 3, expected := 6, hwm := 8 } })] }, refl := { undoSize := 1, epoch := 3, shadow := 2 ^ 23, shadowSize := 1 }, mem := { rdy.mem with dram := { bytes := [((31 * 1179648 + 159) * 2048, 5)] } } },
     3,
     { kind := 0xA1, tag := 55, dst := 5, src := 9, dstEpoch := 7, srcEpoch := 3, fseq := 6, offset := 1023 * 2048, length := 2048, data := List.replicate 2048 7 },
     { epoch := 3, expected := 6, hwm := 8 }, by unfold Admits; decide +kernel⟩,
   ⟨{ fab.with [(F.FAB_REFLECT_STAT_state, 0, 3), (F.FAB_REFLECT_STAT_partner, 0, 9), (F.FAB_REFLECT_STAT_shadow, 0, 2), (F.SEC_CFG_DIGEST_digest, 0, 77)] with fab := { flows := [(9, { tgt := some { epoch := 3, expected := 6, hwm := 8 } })] }, refl := { epoch := 3, shadow := 2 ^ 23, shadowSize := 1 }, mem := { rdy.mem with dram := { bytes := [((31 * 1179648 + 159) * 2048, 5)] } } },
     3, { kind := 0xA2, tag := 55, dst := 5, src := 9, dstEpoch := 7, srcEpoch := 3, fseq := 6, key := 9 },
     { epoch := 3, expected := 6, hwm := 8 }, by unfold Admits; decide +kernel⟩,
   ⟨{ fab.with [(F.FAB_REFLECT_STAT_state, 0, 3), (F.FAB_REFLECT_STAT_partner, 0, 9), (F.FAB_REFLECT_STAT_shadow, 0, 2), (F.SEC_CFG_DIGEST_digest, 0, 77)] with fab := { flows := [(9, { tgt := some { epoch := 3, expected := 6, hwm := 8 } })] }, refl := { epoch := 3, shadow := 2 ^ 23, shadowSize := 1 }, mem := { rdy.mem with dram := { bytes := [((31 * 1179648 + 159) * 2048, 5)] } } },
     3, { kind := 0xA3, tag := 55, dst := 5, src := 9, dstEpoch := 7, srcEpoch := 3, fseq := 6 },
     { epoch := 3, expected := 6, hwm := 8 }, by unfold Admits; decide +kernel⟩,
   ⟨{ fab.with [(F.FAB_REFLECT_STAT_state, 0, 3), (F.FAB_REFLECT_STAT_partner, 0, 9), (F.FAB_REFLECT_STAT_shadow, 0, 2), (F.SEC_CFG_DIGEST_digest, 0, 77)] with fab := { flows := [(9, { tgt := some { epoch := 3, expected := 6, hwm := 8 } })] }, refl := { epoch := 3, shadow := 2 ^ 23, shadowSize := 1 }, mem := { rdy.mem with dram := { bytes := [((31 * 1179648 + 159) * 2048, 5)] } } },
     3, { kind := 0xA4, tag := 55, dst := 5, src := 9, dstEpoch := 7, srcEpoch := 3, fseq := 6, length := 4, data := leBytes 4 8 },
     { epoch := 3, expected := 6, hwm := 8 }, by unfold Admits; decide +kernel⟩,
   ⟨{ fab.with [(F.FAB_REFLECT_STAT_state, 0, 1), (F.FAB_REFLECT_STAT_partner, 0, 9), (F.FAB_REFLECT_STAT_shadow, 0, 0), (F.SEC_CFG_DIGEST_digest, 0, 77)] with fab := { flows := [(9, { tgt := some { epoch := 3, expected := 6, hwm := 8 } })] }, refl := { epoch := 3, shadow := 2 ^ 23, shadowSize := 1 }, mem := { rdy.mem with dram := { bytes := [((31 * 1179648 + 159) * 2048, 5)] } } },
     3,
     { kind := 0xA0, tag := 55, dst := 5, src := 9, dstEpoch := 7, srcEpoch := 3, fseq := 6, length := 16, data := leBytes 8 77 ++ leBytes 4 1 ++ leBytes 4 1 },
     { epoch := 3, expected := 6, hwm := 8 }, by unfold Admits; decide +kernel⟩,
   ⟨{ fab.with [(F.FAB_REFLECT_STAT_state, 0, 3), (F.FAB_REFLECT_STAT_partner, 0, 12), (F.FAB_REFLECT_STAT_shadow, 0, 1), (F.SEC_CFG_DIGEST_digest, 0, 77)] with fab := { flows := [(9, { tgt := some { epoch := 3, expected := 6, hwm := 8 } })] }, refl := { epoch := 3, shadow := 2 ^ 23, shadowSize := 1 }, mem := { rdy.mem with dram := { bytes := [((31 * 1179648 + 159) * 2048, 5)] } } },
     3,
     { kind := 0xA1, tag := 55, dst := 5, src := 9, dstEpoch := 7, srcEpoch := 3, fseq := 6, offset := 1023 * 2048, length := 2048, data := List.replicate 2048 7 },
     { epoch := 3, expected := 6, hwm := 8 }, (0xA1, Instr.rburst 3
     { kind := 0xA1, tag := 55, dst := 5, src := 9, dstEpoch := 7, srcEpoch := 3, fseq := 6, offset := 1023 * 2048, length := 2048, data := List.replicate 2048 7 }),
     by unfold Admits; decide +kernel⟩,
   ⟨{ (fab.work 0 [ent 12 3 .busy [(0, 1, 1)]]).with [(F.FAB_REFLECT_STAT_state, 0, 1)] with refl := { work := some d3 } }, d3, (fab.work 0
     [ent 12 3 .busy [(0, 1, 1)]]).it d3, by decide +kernel⟩,
   ⟨(fab.with [(F.FAB_REFLECT_STAT_state, 0, 3), (F.FAB_REFLECT_STAT_shadow, 0, 1)]), by decide +kernel⟩,
   ⟨{ fab.with [(F.FAB_REFLECT_STAT_state, 0, 3), (F.FAB_REFLECT_STAT_shadow, 0, 1)] with refl := { quiet := some 3599999999999 } },
     3599999999999, by decide +kernel⟩,
   ⟨{ fab.with [(F.FAB_REFLECT_STAT_state, 0, 3), (F.FAB_REFLECT_STAT_shadow, 0, 2)] with refl := { tracking := true } },
     by decide +kernel⟩,
   ⟨fab, by decide +kernel⟩,
   ⟨{ fab.with [(F.FAB_REFLECT_STAT_state, 0, 3), (F.FAB_REFLECT_STAT_shadow, 0, 2)] with refl := { rolling := some (7, 9), shadow := 2 ^ 23, shadowSize := 1, log := [{ burst := 5, bytes := List.replicate 2048 3, bad := List.replicate 32 false }] } },
     7, 9, by decide +kernel⟩,
   ⟨fab, by decide +kernel⟩⟩

theorem wit_MonitorAccumulates :
  (∃ (s : State) (u : Fin 128) (x : BitVec 32), s.monOn u = true ∧ s.rst.keepers = false ∧ s.time < (s.monUnit u).start + s.monWindow u ∧
    2 ^ s.get F.TEL_MON_CFG_decimate u ≤ (s.monUnit u).skipped + 1 ∧ (let m := s.monUnit u; (let v := x.toInt; (let b := s.monBin u v;
    SMap.get 0 m.hist b < 2 ^ 32 - 1)))) ∧
  (∃ (s : State) (u : Nat), s.get F.TEL_MON_CFG_log2 u = 0) ∧
  (∃ (s : State) (u : Nat), s.get F.TEL_MON_CFG_log2 u = 1) ∧
  (∃ (s : State) (u : Nat) (b : _), s.get F.TEL_MON_CFG_log2 u = 1 ∧ 1 ≤ b ∧ b ≤ 30) :=
  ⟨⟨{ rdy.with [(F.TEL_MON_CFG_en, 127, 1), (F.TEL_MON_CFG_decimate, 127, 15)] with mon := [(127, { start := 3599999999000, skipped := 32767 })] },
     127, (2 ^ 32 - 5), by dsimp only; decide +kernel⟩,
   ⟨rdy.with [(F.TEL_MON_CFG_lo, 127, 2 ^ 32 - 1), (F.TEL_MON_CFG_shift, 127, 31)], 127, by decide +kernel⟩,
   ⟨rdy.with [(F.TEL_MON_CFG_log2, 127, 1)], 127, by decide +kernel⟩,
   ⟨rdy.with [(F.TEL_MON_CFG_log2, 127, 1)], 127, 30, by decide +kernel⟩⟩

theorem wit_Monitors :
  (∃ (s : State) (u : Fin 128) (x : BitVec 32), s.monOn u = true ∧ s.rst.keepers = false ∧ s.time < (s.monUnit u).start + s.monWindow u ∧
    (let m := s.monUnit u; (let v := x.toInt; 2 ^ s.get F.TEL_MON_CFG_decimate u ≤ m.skipped + 1 ∧ s.isSet F.TEL_MON_CFG_alarm_en u =
    true ∧ m.alarmed = false ∧ s.getI F.TEL_MON_CFG_limit u ≤ v))) ∧
  (∃ (s : State) (u : Fin 128) (x : BitVec 32), s.monOn u = true ∧ s.rst.keepers = false ∧ s.time < (s.monUnit u).start + s.monWindow u ∧
    (let m := s.monUnit u; (let v := x.toInt; 2 ^ s.get F.TEL_MON_CFG_decimate u ≤ m.skipped + 1 ∧ (s.isSet F.TEL_MON_CFG_alarm_en u =
    false ∨ m.alarmed = true ∨ v < s.getI F.TEL_MON_CFG_limit u)))) ∧
  (∃ (s : State) (u : Fin 128), s.monOn u = true ∧ s.rst.keepers = false ∧ s.time < (s.monUnit u).start + s.monWindow u ∧
    (let m := s.monUnit u; m.skipped + 1 < 2 ^ s.get F.TEL_MON_CFG_decimate u)) ∧
  (∃ (s : State) (u : Fin 128), (s.monOn u = false ∨ s.rst.keepers = true)) ∧
  (∃ (s : State) (u : Fin 128), s.monOn u = true ∧ s.rst.keepers = false ∧ 0 < s.monWindow u ∧ s.time ≤ (s.monUnit u).start + s.monWindow
    u) :=
  ⟨⟨{ rdy.with [(F.TEL_MON_CFG_en, 127, 1), (F.TEL_MON_CFG_alarm_en, 127, 1), (F.TEL_MON_CFG_limit, 127, 9)] with mon := [(127, { start := 3599999999000 })] },
     127, 9, by dsimp only; decide +kernel⟩,
   ⟨{ rdy.with [(F.TEL_MON_CFG_en, 127, 1), (F.TEL_MON_CFG_alarm_en, 127, 1), (F.TEL_MON_CFG_limit, 127, 9)] with mon := [(127, { start := 3599999999000 })] },
     127, 8, by dsimp only; decide +kernel⟩,
   ⟨{ rdy.with [(F.TEL_MON_CFG_en, 127, 1), (F.TEL_MON_CFG_decimate, 127, 15)] with mon := [(127, { start := 3599999999000, skipped := 32766 })] },
     127, by dsimp only; decide +kernel⟩,
   ⟨rdy, 127, by decide +kernel⟩,
   ⟨{ rdy.with [(F.TEL_MON_CFG_en, 127, 1)] with mon := [(127, { start := 3599999999000, count := 3, sum := 9, hist := [(5, 3)] })] }, 127,
     by decide +kernel⟩⟩

theorem wit_MarginsAndLog :
  (∃ (kind : MarginKind) (unit : Nat) (sub : Nat), marginHas kind unit sub = false) ∧
  (∃ (s : State) (kind : MarginKind) (unit : Nat) (sub : Nat) (v : Int), marginHas kind unit sub = true ∧ s.boot.island = true ∧ kind ≠
    .dramV ∧ kind ≠ .dramT ∧ kind ≠ .optRx ∧ (SMap.get {} s.margins (marginKey kind.code unit sub)).severity = 0 ∧ (s.marginLimits kind
    unit).2 ≤ v ∧ (s.marginLimits kind unit).1 ≤ v) ∧
  (∃ (s : State) (kind : MarginKind) (unit : Nat) (sub : Nat) (v : Int), marginHas kind unit sub = true ∧ s.boot.island = true ∧ (kind =
    .laserTrend ∨ kind = .coreSlack) ∧ (SMap.get {} s.margins (marginKey kind.code unit sub)).severity < 2 ∧ s.log.staged.length < 8192
    ∧ v < (s.marginLimits kind unit).2) ∧
  (∃ (s : State), s.boot.island = true ∧ s.mem.remapToWrite = []) ∧
  (∃ (s : State), s.mem.remapToWrite ≠ []) ∧
  (∃ (s : State) (w : BarAcc), Reaches s .TEL_LOG_SEL 0 w 0) ∧
  (∃ (s : State) (i : Nat), s.mgmtUp = true ∧ s.romServes = false ∧ i < 25) ∧
  (∃ (s : State), s.mgmtUp = true ∧ s.romServes = true) ∧
  (∃ (s : State), s.mgmtUp = true) :=
  ⟨⟨.d2dEye, 400, 0, by decide +kernel⟩,
   ⟨rdy, .d2dEye, 399, 65, 12, by decide +kernel⟩,
   ⟨rdy, .coreSlack, 8, 0, 9, by decide +kernel⟩,
   ⟨{ rdy with log := { staged := [{ seq := 1, time := 4, cal := {}, epoch := 0, body := .event 3 0 [] }] } }, by decide +kernel⟩,
   ⟨{ rdy with mem := { rdy.mem with remapToWrite := [.lane 3 4] } }, by decide +kernel⟩,
   ⟨{ rdy with log := { flash := [{ seq := 1, time := 4, cal := {}, epoch := 0, body := .event 3 0 [] }] } }, acc 1 0 4 0,
     by unfold Reaches; decide +kernel⟩,
   ⟨rdy, 24, by decide +kernel⟩,
   ⟨{ rdy with mgmt := {} }, by decide +kernel⟩,
   ⟨rdy, by decide +kernel⟩⟩

theorem wit_FirmwareAndRollback :
  (∃ (s : State) (n : Nat), s.mgmtUp = true ∧ s.mgmt.fw = .idle ∧ n ≤ 2 ^ 25) ∧
  (∃ (s : State) (n : Nat), s.mgmtUp = true ∧ s.mgmt.fw = .transferring ∧ s.mgmt.fwBytes + n ≤ 2 ^ 25) ∧
  (∃ (s : State) (n : Nat), s.mgmtUp = true ∧ (s.mgmt.fw = .written ∨ s.mgmt.fw = .verified ∨ (s.mgmt.fw = .transferring ∧ 2 ^ 25 <
    s.mgmt.fwBytes + n))) ∧
  (∃ (s : State) (keyOk : Bool) (sigOk : Bool), s.mgmtUp = true ∧ s.mgmt.fw = .written ∧ keyOk = true ∧ sigOk = true ∧ s.fused ≤ s.slotSv
    s.otherSlot) ∧
  (∃ (s : State) (keyOk : Bool) (sigOk : Bool), s.mgmtUp = true ∧ s.mgmt.fw = .written ∧ (keyOk = false ∨ sigOk = false ∨ s.slotSv
    s.otherSlot < s.fused)) ∧
  (∃ (s : State), s.mgmtUp = true ∧ s.mgmt.fw = .verified ∧ s.fused ≤ s.slotSv s.otherSlot) ∧
  (∃ (s : State), s.mgmtUp = true ∧ s.mgmt.fw ≠ .verified) ∧
  (∃ (s : State), s.mgmtUp = true ∧ s.slotValid s.otherSlot = true ∧ s.fused ≤ s.slotSv s.otherSlot) ∧
  (∃ (s : State), s.mgmtUp = true ∧ s.slotValid s.otherSlot = false) ∧
  (∃ (s : State) (v : _), s.mgmtUp = true ∧ s.mayAdvance v = true) ∧
  (∃ (s : State) (v : _), s.mgmtUp = true ∧ s.mayAdvance v = false) ∧
  (∃ (s : State) (w : BarAcc), Reaches s .SEC_ROLLBACK_CTRL 0 w 0 ∧ w.touches F.SEC_ROLLBACK_CTRL_target = true ∧ s.mayAdvance (w.bits
    F.SEC_ROLLBACK_CTRL_target) = true) ∧
  (∃ (s : State) (w : BarAcc), Reaches s .SEC_ROLLBACK_CTRL 0 w 0 ∧ w.touches F.SEC_ROLLBACK_CTRL_target = true ∧ s.mayAdvance (w.bits
    F.SEC_ROLLBACK_CTRL_target) = false) ∧
  (∃ (s : State) (v : Nat), s.mgmt.advance = some v ∧ s.fused < 255) ∧
  (∃ (s : State), s.mgmt.advance = none) :=
  ⟨⟨{ rdy with mgmt := { verified := true, fw := .idle } }, 2 ^ 25, by decide +kernel⟩,
   ⟨{ rdy with mgmt := { verified := true, fw := .transferring, fwBytes := 1 } }, 2 ^ 25 - 1, by decide +kernel⟩,
   ⟨{ rdy with mgmt := { verified := true, fw := .transferring, fwBytes := 1 } }, 2 ^ 25, by decide +kernel⟩,
   ⟨{ rdy.with [(F.SEC_FW_STAT_sv_b, 0, 3), (F.SEC_ROLLBACK_CTRL_count, 0, 3)] with mgmt := { verified := true, fw := .written } }, true,
     true, by decide +kernel⟩,
   ⟨{ rdy.with [(F.SEC_FW_STAT_sv_b, 0, 2), (F.SEC_ROLLBACK_CTRL_count, 0, 3)] with mgmt := { verified := true, fw := .written } }, true,
     true, by decide +kernel⟩,
   ⟨{ rdy.with [(F.SEC_FW_STAT_sv_b, 0, 3), (F.SEC_ROLLBACK_CTRL_count, 0, 3)] with mgmt := { verified := true, fw := .verified } },
     by decide +kernel⟩,
   ⟨{ rdy with mgmt := { verified := true, fw := .written } }, by decide +kernel⟩,
   ⟨{ rdy.with [(F.SEC_FW_STAT_valid, 0, 3)] with mgmt := { verified := true, fw := .idle } }, by decide +kernel⟩,
   ⟨{ rdy with mgmt := { verified := true, fw := .idle } }, by decide +kernel⟩,
   ⟨{ rdy.with [(F.SEC_FW_STAT_sv_a, 0, 3)] with mgmt := { verified := true, fw := .idle } }, 3, by decide +kernel⟩,
   ⟨{ rdy.with [(F.SEC_FW_STAT_sv_a, 0, 3)] with mgmt := { verified := true, fw := .idle } }, 4, by decide +kernel⟩,
   ⟨{ rdy.with [(F.SEC_FW_STAT_sv_a, 0, 3)] with mgmt := { verified := true, fw := .idle } }, acc 3 0 4 0,
     by unfold Reaches; decide +kernel⟩,
   ⟨{ rdy.with [(F.SEC_FW_STAT_sv_a, 0, 3)] with mgmt := { verified := true, fw := .idle } }, acc 4 0 4 0,
     by unfold Reaches; decide +kernel⟩,
   ⟨{ rdy.with [(F.SEC_FW_STAT_sv_a, 0, 3), (F.SEC_ROLLBACK_CTRL_count, 0, 2)] with mgmt := { verified := true, fw := .idle, advance := some 3 } },
     3, by decide +kernel⟩,
   ⟨rdy, by decide +kernel⟩⟩

theorem wit_SpdmResponder :
  (∃ (s : State) (tr : Transport) (id : Nat) (c : _),
    (let all : List Instr := [.getVersion tr, .getCapabilities tr, .negotiateAlgorithms tr, .getDigests tr, .getCertificate tr, .challenge tr, .getMeasurements tr, .keyExchange tr, .finish tr id, .heartbeat tr id, .keyUpdate tr id, .endSession tr id];
    s.spdmUp tr = false ∧ c ∈ all)) ∧
  (∃ (s : State) (tr : Transport) (id : Nat) (c : _),
    (let all : List Instr := [.getVersion tr, .getCapabilities tr, .negotiateAlgorithms tr, .getDigests tr, .getCertificate tr, .challenge tr, .getMeasurements tr, .keyExchange tr, .finish tr id, .heartbeat tr id, .keyUpdate tr id, .endSession tr id];
    s.spdmUp tr = true ∧ s.romServes = true ∧ c ∈ all)) ∧
  (∃ (s : State) (tr : Transport), s.spdmUp tr = true ∧ s.romServes = false) ∧
  (∃ (s : State) (tr : Transport), (let x := s.spdmOf tr; s.spdmUp tr = true ∧ s.romServes = false ∧ 1 ≤ x.stage)) ∧
  (∃ (s : State) (tr : Transport), (let x := s.spdmOf tr; s.spdmUp tr = true ∧ s.romServes = false ∧ 2 ≤ x.stage)) ∧
  (∃ (s : State) (tr : Transport), (let x := s.spdmOf tr; s.spdmUp tr = true ∧ s.romServes = false ∧ 3 ≤ x.stage)) ∧
  (∃ (s : State) (tr : Transport), (let x := s.spdmOf tr; s.spdmUp tr = true ∧ s.romServes = false ∧ 3 ≤ x.stage ∧ x.sessions.length < 4)) ∧
  (∃ (s : State) (tr : Transport), (let x := s.spdmOf tr; s.spdmUp tr = true ∧ s.romServes = false ∧ 3 ≤ x.stage ∧ 4 ≤ x.sessions.length)) ∧
  (∃ (s : State) (tr : Transport) (id : Nat), (let x := s.spdmOf tr; s.spdmUp tr = true ∧ s.romServes = false ∧ (id, false) ∈ x.sessions)) ∧
  (∃ (s : State) (tr : Transport) (id : Nat), (let x := s.spdmOf tr; s.spdmUp tr = true ∧ s.romServes = false ∧ x.open_ id = true)) ∧
  (∃ (s : State) (tr : Transport) (id : Nat), (let x := s.spdmOf tr; s.spdmUp tr = true ∧ s.romServes = false ∧ x.open_ id = false)) ∧
  (∃ (s : State) (tr : Transport), (let x := s.spdmOf tr; s.spdmUp tr = true ∧ s.romServes = false ∧ x.stage < 3)) :=
  ⟨⟨{ rdy with host := {} }, .doe, 5, .getVersion .doe, by dsimp only; decide +kernel⟩,
   ⟨{ rdy with mgmt := {} }, .doe, 5, .getVersion .doe, by dsimp only; decide +kernel⟩,
   ⟨{ rdy with mgmt := { verified := true, doe := { stage := 3, sessions := [(5, true)], nextId := 6 } } }, .doe, by decide +kernel⟩,
   ⟨{ rdy with mgmt := { verified := true, doe := { stage := 1, sessions := [], nextId := 6 } } }, .doe, by dsimp only; decide +kernel⟩,
   ⟨{ rdy with mgmt := { verified := true, doe := { stage := 2, sessions := [], nextId := 6 } } }, .doe, by dsimp only; decide +kernel⟩,
   ⟨{ rdy with mgmt := { verified := true, doe := { stage := 3, sessions := [(5, true)], nextId := 6 } } }, .doe,
     by dsimp only; decide +kernel⟩,
   ⟨{ rdy with mgmt := { verified := true, doe := { stage := 3, sessions := [(5, true)], nextId := 6 } } }, .doe,
     by dsimp only; decide +kernel⟩,
   ⟨{ rdy with mgmt := { verified := true, doe := { stage := 3, sessions := [(1, true), (2, true), (3, true), (4, true)], nextId := 6 } } },
     .doe, by dsimp only; decide +kernel⟩,
   ⟨{ rdy with mgmt := { verified := true, doe := { stage := 3, sessions := [(5, false)], nextId := 6 } } }, .doe, 5,
     by dsimp only; decide +kernel⟩,
   ⟨{ rdy with mgmt := { verified := true, doe := { stage := 3, sessions := [(5, true)], nextId := 6 } } }, .doe, 5,
     by dsimp only; decide +kernel⟩,
   ⟨{ rdy with mgmt := { verified := true, doe := { stage := 3, sessions := [(5, false)], nextId := 6 } } }, .doe, 5,
     by dsimp only; decide +kernel⟩,
   ⟨{ rdy with mgmt := { verified := true, doe := { stage := 2, sessions := [], nextId := 6 } } }, .doe, by dsimp only; decide +kernel⟩⟩

theorem wit_StepKeepsStores :
    ∃ s t : State, s.wf = true ∧ step s = .next t :=
  let s := { rdy with pending := [.nop 3] }
  ⟨s, outState (step s) s, by decide +kernel, outState_eq (by decide +kernel)⟩

end Sys2Proof.Machine
end

/-! SUPPORT. Register writes (R12-R14, R189): steps that change listed register fields only, what the access gate lets through, and
what the fields of a register hold after a write that reached it. -/

namespace Sys2Proof.Machine

/-! ## Steps that change only listed register fields -/

theorem OnlyRegs.refl (ks : List Nat) (s : State) : OnlyRegs ks s s := ⟨rfl, fun _ _ _ => rfl⟩

theorem OnlyRegs.trans {ks : List Nat} {s t u : State} (h : OnlyRegs ks s t) (h' : OnlyRegs ks t u) : OnlyRegs ks s u :=
  ⟨h'.1.trans (congrArg (fun x : State => { x with regs := u.regs }) h.1), fun k hk d => (h'.2 k hk d).trans (h.2 k hk d)⟩

theorem OnlyRegs.mono {ks ks' : List Nat} {s t : State} (h : OnlyRegs ks s t) (hs : ks ⊆ ks') : OnlyRegs ks' s t :=
  ⟨h.1, fun k hk d => h.2 k (fun m => hk (hs m)) d⟩

/-- A field whose key is not listed keeps its value. -/
theorem OnlyRegs.get_eq {ks : List Nat} {s t : State} (h : OnlyRegs ks s t) {f : Fld} {i : Nat} (hk : f.key i ∉ ks) :
    t.get f i = s.get f i := h.2 _ hk _

theorem State.put_onlyRegs (s : State) (f : Fld) (v i : Nat) : OnlyRegs [f.key i] s (s.put f v i) :=
  ⟨rfl, fun _ hk d => s.put_regs_other d (fun e => hk (by simp [e]))⟩

theorem State.blockedWrite_onlyRegs (s : State) : OnlyRegs [F.HUB_SETUP_LOCK_blocked_writes.key 0] s s.blockedWrite :=
  s.put_onlyRegs _ _ _

/-! ## The access gate -/

/-- A write that reaches index j has its register's meaning there. -/
theorem Reaches.onWrite {s : State} {r : RegName} {i j : Nat} {w : BarAcc} (h : Reaches s r i w j) (k : Nat → State) :
    s.onWrite r i w k = k j := by
  obtain ⟨hup, hal, hix, hj, hoff⟩ := h
  simp [State.onWrite, hup, hal, hix, hj, hoff]

/-- A register with no row of its own takes an accepted write by its fields (R12). -/
theorem Reaches.exec_registerWrite {s : State} {r : RegName} {i j : Nat} {w : BarAcc} (h : Reaches s r i w j)
    (ho : r.ownRow = false) : exec (.registerWrite r i w) s = .next (s.writeReg r j w) := by
  have hr : r ≠ .HUB_RESET_CTRL := by
    rintro rfl
    cases ho
  change execRegisterWrite r i w s = _
  simp [execRegisterWrite, h.onWrite, hr, ho]

/-! ## One field's part of a write (Table 0.4) -/

section
variable (s0 s : State) {w : BarAcc} {i : Nat} {f : Fld}

/-- A field that the access does not touch, that a row of its own writes, or that is frozen takes nothing. -/
theorem State.writeField_of_passed (h : (!w.touches f || ownRow f || s0.frozenField f i) = true) :
    State.writeField s0 w i s f = s := by
  simp only [State.writeField, h, if_true]

theorem State.writeField_of_ownRow (h : ownRow f = true) : State.writeField s0 w i s f = s :=
  s0.writeField_of_passed s (by simp [h])

theorem State.writeField_of_untouched (h : w.touches f = false) : State.writeField s0 w i s f = s :=
  s0.writeField_of_passed s (by simp [h])

theorem State.writeField_of_readOnly (h : f.acc = .RO ∨ f.acc = .WO) : State.writeField s0 w i s f = s := by
  rcases h with h | h <;> simp [State.writeField, h]

theorem State.writeField_of_locked (h : f.acc = .RWL) (hl : s.setupLocked = true) : State.writeField s0 w i s f = s := by
  simp [State.writeField, h, hl]

/-- A writable field that the write reaches takes the merged value, clamped as its table says. -/
theorem State.writeField_of_writable (h : f.acc = .RW ∨ f.acc = .RWS ∨ (f.acc = .RWL ∧ s.setupLocked = false))
    (ht : w.touches f = true) (ho : ownRow f = false) (hz : s0.frozenField f i = false) :
    State.writeField s0 w i s f = s.put f (clampField f (w.merge f (s.get f i))) i := by
  rcases h with h | h | ⟨h, hl⟩
  · simp [State.writeField, ht, ho, hz, h]
  · simp [State.writeField, ht, ho, hz, h]
  · simp [State.writeField, ht, ho, hz, h, hl]

/-- A W1C field that the write reaches loses the bits written as 1. -/
theorem State.writeField_of_w1c (h : f.acc = .W1C) (ht : w.touches f = true) (ho : ownRow f = false)
    (hz : s0.frozenField f i = false) :
    State.writeField s0 w i s f = s.put f (s.get f i &&& (2 ^ f.width - 1 - w.bits f)) i := by
  simp [State.writeField, ht, ho, hz, h]

end

/-- A field's part of a write leaves the state or writes that one field. -/
theorem State.writeField_eq_self_or_put (s0 : State) (w : BarAcc) (i : Nat) (s : State) (f : Fld) :
    State.writeField s0 w i s f = s ∨ ∃ v, State.writeField s0 w i s f = s.put f v i := by
  cases hp : !w.touches f || ownRow f || s0.frozenField f i with
  | true => exact .inl (s0.writeField_of_passed s hp)
  | false =>
    simp only [Bool.or_eq_false_iff, Bool.not_eq_false'] at hp
    obtain ⟨⟨ht, ho⟩, hz⟩ := hp
    cases ha : f.acc with
    | RO => exact .inl (s0.writeField_of_readOnly s (.inl ha))
    | WO => exact .inl (s0.writeField_of_readOnly s (.inr ha))
    | RW => exact .inr ⟨_, s0.writeField_of_writable s (.inl ha) ht ho hz⟩
    | RWS => exact .inr ⟨_, s0.writeField_of_writable s (.inr (.inl ha)) ht ho hz⟩
    | W1C => exact .inr ⟨_, s0.writeField_of_w1c s ha ht ho hz⟩
    | RWL =>
      cases hl : s.setupLocked with
      | true => exact .inl (s0.writeField_of_locked s ha hl)
      | false => exact .inr ⟨_, s0.writeField_of_writable s (.inr (.inr ⟨ha, hl⟩)) ht ho hz⟩

theorem State.writeField_onlyRegs (s0 : State) (w : BarAcc) (i : Nat) (s : State) (f : Fld) :
    OnlyRegs [f.key i] s (State.writeField s0 w i s f) := by
  rcases s0.writeField_eq_self_or_put w i s f with h | ⟨v, h⟩
  · rw [h]
    exact OnlyRegs.refl _ s
  · rw [h]
    exact s.put_onlyRegs f v i

/-- What a field's part of a write leaves in the field depends on the field's own value and on the set-up lock alone. -/
theorem State.writeField_get_congr (s0 : State) (w : BarAcc) {i : Nat} {s s' : State} {f : Fld} (hg : s.get f i = s'.get f i)
    (hl : s.setupLocked = s'.setupLocked) :
    (State.writeField s0 w i s f).get f i = (State.writeField s0 w i s' f).get f i := by
  cases hp : !w.touches f || ownRow f || s0.frozenField f i with
  | true => rw [s0.writeField_of_passed s hp, s0.writeField_of_passed s' hp, hg]
  | false =>
    simp only [State.writeField, hp, hl, hg, Bool.false_eq_true, if_false]
    cases f.acc with
    | RO | WO => exact hg
    | RW | RWS | W1C => simp only [State.put_get_same]
    | RWL =>
      dsimp only
      split
      · exact hg
      · simp only [State.put_get_same]

/-! ## The fields of one register in turn -/

theorem State.writeFields_onlyRegs (s0 : State) (w : BarAcc) (i : Nat) (fs : List Fld) (s : State) :
    OnlyRegs (fs.map fun f => f.key i) s (fs.foldl (State.writeField s0 w i) s) := by
  induction fs generalizing s with
  | nil => exact OnlyRegs.refl _ s
  | cons g fs ih =>
    have hg := (State.writeField_onlyRegs s0 w i s g).mono (ks' := (g :: fs).map fun f => f.key i) (by simp)
    exact hg.trans ((ih _).mono (by simp))

/-- Changes of fields other than the set-up lock leave the lock as it was. -/
theorem OnlyRegs.setupLocked {ks : List Nat} {s t : State} (h : OnlyRegs ks s t) (hk : F.HUB_SETUP_LOCK_locked.key 0 ∉ ks) :
    t.setupLocked = s.setupLocked := by
  simp only [State.setupLocked, State.isSet, h.get_eq hk]

theorem Fld.key_notMem {f : Fld} {i : Nat} {fs : List Fld} (h : f.code ∉ fs.map Fld.code) : f.key i ∉ fs.map fun g => g.key i := by
  simp only [List.mem_map, not_exists, not_and, Fld.key] at h ⊢
  intro g hg e
  exact h g hg (by omega)

/-- Among fields with codes of their own, each ends as its own part of the write leaves it: the others do not reach it. -/
theorem State.writeFields_get (s0 : State) (w : BarAcc) {i : Nat} {f : Fld} {fs : List Fld} (hf : f ∈ fs)
    (hn : (fs.map Fld.code).Nodup) (hl : F.HUB_SETUP_LOCK_locked.key 0 ∉ fs.map fun g => g.key i) (s : State) :
    (fs.foldl (State.writeField s0 w i) s).get f i = (State.writeField s0 w i s f).get f i := by
  induction fs generalizing s with
  | nil => cases hf
  | cons g fs ih =>
    obtain ⟨hg, hn⟩ := List.nodup_cons.1 hn
    rw [List.foldl_cons]
    rcases List.mem_cons.1 hf with rfl | hf
    · exact (State.writeFields_onlyRegs s0 w i fs _).get_eq (Fld.key_notMem hg)
    · rw [ih hf hn fun h => hl (List.mem_cons_of_mem _ h)]
      have hgs := State.writeField_onlyRegs s0 w i s g
      have hne : f.key i ≠ g.key i := by
        have : f.code ≠ g.code := fun e => hg (e ▸ List.mem_map_of_mem hf)
        simp only [Fld.key]
        omega
      refine State.writeField_get_congr s0 w (hgs.get_eq ?_) (hgs.setupLocked fun h => hl ?_)
      · simpa using hne
      · exact List.mem_cons.2 (.inl (by simpa using h))

/-! ## The register tables -/

theorem RegName.nodup_fields_code (r : RegName) : (r.fields.map Fld.code).Nodup := by
  cases r <;> decide +kernel

/-- The set-up lock and its count of blocked writes stand in no register that the plain write reaches. -/
theorem RegName.setupLock_codes_notMem {r : RegName} (h : r.ownRow = false) :
    F.HUB_SETUP_LOCK_locked.code ∉ r.fields.map Fld.code ∧
    F.HUB_SETUP_LOCK_blocked_writes.code ∉ r.fields.map Fld.code := by
  revert h
  cases r <;> decide +kernel

/-- A key below 1,024 is shared only by a field of the same code: the key of any later index lies above. -/
theorem Fld.key_zero_notMem {f : Fld} {i : Nat} {fs : List Fld} (hc : f.code < 1024) (h : f.code ∉ fs.map Fld.code) :
    f.key 0 ∉ fs.map fun g => g.key i := by
  simp only [List.mem_map, not_exists, not_and, Fld.key] at h ⊢
  intro g hg e
  obtain rfl : i = 0 := by omega
  exact h g hg (by omega)

/-! ## A register without a shadow -/

/-- A write to a register without a shadow is its fields' parts in turn; one that the set-up lock stops is counted (R14). -/
theorem State.writeReg_eq (s : State) {r : RegName} (j : Nat) (w : BarAcc) (h : r.shadowUnit = none) :
    s.writeReg r j w = if s.blocksWrite r w then (r.fields.foldl (State.writeField s w j) s).blockedWrite
      else r.fields.foldl (State.writeField s w j) s := by
  simp only [State.writeReg, h]

/-- Such a write changes the register's fields at that index and the count of blocked writes, and nothing else. -/
theorem State.writeReg_onlyRegs (s : State) {r : RegName} (j : Nat) (w : BarAcc) (h : r.shadowUnit = none) :
    OnlyRegs (F.HUB_SETUP_LOCK_blocked_writes.key 0 :: r.fields.map fun f => f.key j) s (s.writeReg r j w) := by
  have hw := (State.writeFields_onlyRegs s w j r.fields s).mono (List.subset_cons_self (F.HUB_SETUP_LOCK_blocked_writes.key 0) _)
  rw [s.writeReg_eq j w h]
  split
  · exact hw.trans ((State.blockedWrite_onlyRegs _).mono (by simp))
  · exact hw

/-- Each field of the register ends as its own part of the write leaves it. -/
theorem State.writeReg_get (s : State) {r : RegName} (j : Nat) (w : BarAcc) (h : r.shadowUnit = none) (ho : r.ownRow = false)
    {f : Fld} (hf : f ∈ r.fields) : (s.writeReg r j w).get f j = (State.writeField s w j s f).get f j := by
  obtain ⟨hlock, hcount⟩ := RegName.setupLock_codes_notMem ho
  have hw := State.writeFields_get s w (i := j) hf r.nodup_fields_code (Fld.key_zero_notMem (by decide) hlock) s
  rw [s.writeReg_eq j w h]
  split
  · have hne : f.key j ∉ [F.HUB_SETUP_LOCK_blocked_writes.key 0] := fun e =>
      Fld.key_zero_notMem (i := j) (by decide) hcount (List.mem_singleton.1 e ▸ List.mem_map_of_mem hf)
    rw [(State.blockedWrite_onlyRegs _).get_eq hne, hw]
  · exact hw

/-! ## The statement -/

/-- Settles O4: each field's part of the write decides its value, since no other field's part reaches it. -/
theorem registerWriteByAccessCode : Obligations.RegisterWriteByAccessCode := by
  unfold Obligations.RegisterWriteByAccessCode
  intro r i j w s hr ho hs
  obtain ⟨hframe, hkeeps⟩ := s.writeReg_onlyRegs j w hs
  refine ⟨_, hr.exec_registerWrite ho, hframe, fun f hf hrow hz => ?_, hkeeps⟩
  rw [s.writeReg_get j w hs ho hf]
  refine ⟨fun ha => ?_, fun ht => ?_, fun ht ha => ?_, fun ht ha => ?_, fun ha hl => ?_⟩
  · rw [s.writeField_of_readOnly s ha]
  · rw [s.writeField_of_untouched s ht]
  · rw [s.writeField_of_writable s ha ht hrow hz, State.put_get_same]
  · rw [s.writeField_of_w1c s ha ht hrow hz, State.put_get_same]
  · rw [s.writeField_of_locked s ha hl]

end Sys2Proof.Machine

/-! SUPPORT. The node ID and the fabric enable (R14, R219, R220): sending on a port changes ports and output only, the memory map does
not depend on the registers of the fabric, and what a write of the node or of enable leaves. -/

namespace Sys2Proof.Machine

/-! ## Sending on ports -/

theorem State.putOnLink_eq (s : State) (p : Nat) (o : Out) : ∃ ps l, s.putOnLink p o = { s with ports := ps, out := l } := by
  simp only [State.putOnLink]
  obtain ⟨l, hl⟩ := State.emit_eq (s.setPort p _) o
  exact ⟨_, l, hl⟩

/-- Sending on a port changes ports and the record of what has left, and nothing else. -/
theorem State.tx_eq (s : State) (p : Nat) (o : Out) : ∃ ps l, s.tx p o = { s with ports := ps, out := l } := by
  simp only [State.tx]
  split
  · exact ⟨s.ports, s.out, rfl⟩
  · split
    · exact ⟨_, s.out, rfl⟩
    · exact s.putOnLink_eq p o

theorem State.sendHello_eq (s : State) (p : Nat) : ∃ ps l, s.sendHello p = { s with ports := ps, out := l } := by
  obtain ⟨ps, l, h⟩ := State.tx_eq
    (s.setPort p { s.port p with lastBody := some (s.helloBody p), lastHello := s.time }) p (.ctl p (.hello (s.helloBody p)))
  exact ⟨ps, l, h⟩

/-- Hellos change ports and the record of what has left, and nothing else. -/
theorem State.sendHellos_eq (s : State) : ∃ ps l, s.sendHellos = { s with ports := ps, out := l } := by
  have fold : ∀ (qs : List Nat) (u : State),
      ∃ ps l, qs.foldl (fun s p => s.sendHello p) u = { u with ports := ps, out := l } := by
    intro qs
    induction qs with
    | nil => exact fun u => ⟨u.ports, u.out, rfl⟩
    | cons q qs ih =>
      intro u
      obtain ⟨ps, l, h⟩ := u.sendHello_eq q
      obtain ⟨ps', l', h'⟩ := ih (u.sendHello q)
      exact ⟨ps', l', by rw [List.foldl_cons, h', h]⟩
  exact fold _ s

@[simp] theorem State.sendHellos_get (s : State) (f : Fld) (i : Nat) : s.sendHellos.get f i = s.get f i := by
  obtain ⟨ps, l, h⟩ := s.sendHellos_eq
  rw [h]
  rfl

@[simp] theorem State.sendHellos_mem (s : State) : s.sendHellos.mem = s.mem := by
  obtain ⟨ps, l, h⟩ := s.sendHellos_eq
  rw [h]

@[simp] theorem State.sendHellos_fab (s : State) : s.sendHellos.fab = s.fab := by
  obtain ⟨ps, l, h⟩ := s.sendHellos_eq
  rw [h]

/-! ## The memory map beside writes of other fields -/

section
variable {α β : Type} (p : Nat × α → Option β) {k : Nat} (hp : ∀ x, p (k, x) = none) (m : SMap α)
include hp

theorem filterMap_erase_of_none : (SMap.erase m k).filterMap p = m.filterMap p := by
  induction m with
  | nil => rfl
  | cons e m ih =>
    obtain ⟨k', x⟩ := e
    by_cases h : k = k'
    · subst h
      simpa [SMap.erase, hp] using ih
    · simp [SMap.erase, h, List.filterMap_cons, ih]

theorem filterMap_insert_of_none (v : α) : (SMap.insert m k v).filterMap p = m.filterMap p := by
  induction m with
  | nil => simp [SMap.insert, hp]
  | cons e m ih =>
    obtain ⟨k', x⟩ := e
    by_cases h : k = k'
    · subst h
      simp [SMap.insert, hp]
    · by_cases hl : k < k'
      · simp [SMap.insert, h, hl, hp]
      · simp [SMap.insert, h, hl, List.filterMap_cons, ih]

/-- A filter that passes over key k does not see a write there, whatever the list's form. -/
theorem filterMap_set_of_none [DecidableEq α] (d v : α) : (SMap.set d m k v).filterMap p = m.filterMap p := by
  unfold SMap.set
  split
  · exact filterMap_erase_of_none p hp m
  · exact filterMap_insert_of_none p hp m v

end

theorem State.put_indicesWith (s : State) {f g : Fld} (v i x : Nat) (hf : f.code < 1024) (h : f.code ≠ g.code) :
    (s.put f v i).indicesWith g x = s.indicesWith g x := by
  refine filterMap_set_of_none _ (fun y => if_neg fun e => h ?_) s.regs _ _
  have := e.1
  simp only [Fld.key] at this
  omega

/-- The field is none of the live memory map's. -/
def Fld.offMap (f : Fld) : Prop := f.code < 1024 ∧ ∀ g ∈ RegName.MEM_MAP.fields, f.code ≠ g.code

/-- A write of a field that is none of the memory map's leaves the map as it reads. -/
theorem State.put_mapEnt (s : State) {f : Fld} (h : f.offMap) (v i k : Nat) : (s.put f v i).mapEnt k = s.mapEnt k := by
  have hget : ∀ g ∈ RegName.MEM_MAP.fields, (s.put f v i).get g k = s.get g k := fun g hg =>
    s.put_get_other (Fld.key_ne h.1 (by revert g; decide) (h.2 g hg).symm)
  simp only [RegName.fields, List.forall_mem_cons] at hget
  obtain ⟨h1, h2, h3, h4, h5, h6, h7, -⟩ := hget
  simp only [State.mapEnt, State.isSet, h1, h2, h3, h4, h5, h6, h7]

theorem State.put_mapFor (s : State) {f : Fld} (h : f.offMap) (v i a : Nat) : (s.put f v i).mapFor a = s.mapFor a := by
  have hv : (s.put f v i).validMaps = s.validMaps :=
    s.put_indicesWith v i 1 h.1 (h.2 _ (by simp [RegName.fields]))
  simp only [State.mapFor, hv, s.put_mapEnt h]

theorem State.put_areaMapped (s : State) {f : Fld} (h : f.offMap) (v i : Nat) (x : Nat × Nat) :
    (s.put f v i).areaMapped x = s.areaMapped x := by
  simp only [State.areaMapped, s.put_mapFor h]

/-! ## NODE_ID_WRITE (R14, R220) -/

theorem exec_nodeIdWrite {s : State} {w : BarAcc} (hr : Reaches s .FAB_NODE_ID 0 w 0) (ht : w.touches F.FAB_NODE_ID_node = true) :
    exec (.nodeIdWrite w) s = .next (if s.setupLocked then s.blockedWrite
      else ((s.put F.FAB_NODE_ID_node (w.merge F.FAB_NODE_ID_node s.ownNode) 0).put F.FAB_NODE_ID_assigned 1 0).sendHellos) := by
  change execNodeIdWrite w s = _
  simp [execNodeIdWrite, hr.onWrite, ht]

/-- Without the set-up lock the node is written and assigned; what hellos then change is no part of it. -/
theorem nodeIdWrite_assigns {s : State} {w : BarAcc} (hr : Reaches s .FAB_NODE_ID 0 w 0)
    (ht : w.touches F.FAB_NODE_ID_node = true) (hl : s.setupLocked = false) :
    Gives (.nodeIdWrite w) s fun t => t.ownNode = w.merge F.FAB_NODE_ID_node s.ownNode % 2 ^ 20 ∧
      t.get F.FAB_NODE_ID_assigned 0 = 1 ∧ t.mem = s.mem ∧ t.fab = s.fab := by
  refine ⟨_, exec_nodeIdWrite hr ht, ?_⟩
  rw [hl, if_neg (by decide)]
  refine ⟨?_, ?_, State.sendHellos_mem _, State.sendHellos_fab _⟩
  · rw [State.ownNode, State.sendHellos_get, State.put_get_other _ (by decide), State.put_get_same]
    rfl
  · rw [State.sendHellos_get, State.put_get_same]
    rfl

/-- Behind the set-up lock the write is counted and the node ID stays. -/
theorem nodeIdWrite_locked {s : State} {w : BarAcc} (hr : Reaches s .FAB_NODE_ID 0 w 0)
    (ht : w.touches F.FAB_NODE_ID_node = true) (hl : s.setupLocked = true) :
    Gives (.nodeIdWrite w) s fun t =>
      OnlyRegs [F.HUB_SETUP_LOCK_blocked_writes.key 0] s t ∧ t.ownNode = s.ownNode := by
  refine ⟨s.blockedWrite, ?_, s.blockedWrite_onlyRegs, s.blockedWrite_onlyRegs.get_eq (by decide)⟩
  rw [exec_nodeIdWrite hr ht, if_pos hl]

/-! ## FABRIC_ENABLE (R219) -/

/-- The 64 MiB at flow_base lie in valid memory map entries. -/
def State.flowMapped (s : State) : Bool := s.areaMapped (s.get F.FAB_CFG_flow_base 0 * 2 ^ 26, 32)

/-- The state with both refusal flags of an earlier enable cleared. -/
def State.clearRefusals (s : State) : State := (s.put F.FAB_CFG_bad_base 0 0).put F.FAB_CFG_unassigned 0 0

theorem State.clearRefusals_onlyRegs (s : State) :
    OnlyRegs (RegName.FAB_CFG.fields.map fun f => f.key 0) s s.clearRefusals :=
  ((s.put_onlyRegs _ _ _).mono (by decide)).trans ((State.put_onlyRegs _ _ _ _).mono (by decide))

@[simp] theorem State.clearRefusals_bad_base (s : State) : s.clearRefusals.get F.FAB_CFG_bad_base 0 = 0 := by
  rw [State.clearRefusals, State.put_get_other _ (by decide), State.put_get_same]
  rfl

@[simp] theorem State.clearRefusals_unassigned (s : State) : s.clearRefusals.get F.FAB_CFG_unassigned 0 = 0 := by
  rw [State.clearRefusals, State.put_get_same]
  rfl

@[simp] theorem State.clearRefusals_enable (s : State) : s.clearRefusals.get F.FAB_CFG_enable 0 = s.get F.FAB_CFG_enable 0 := by
  rw [State.clearRefusals, State.put_get_other _ (by decide), State.put_get_other _ (by decide)]

theorem State.clearRefusals_flowMapped (s : State) : s.clearRefusals.flowMapped = s.flowMapped := by
  have hb : (F.FAB_CFG_bad_base).offMap := by unfold Fld.offMap; decide
  have hu : (F.FAB_CFG_unassigned).offMap := by unfold Fld.offMap; decide
  have hg : s.clearRefusals.get F.FAB_CFG_flow_base 0 = s.get F.FAB_CFG_flow_base 0 :=
    (State.put_get_other _ (by decide)).trans (State.put_get_other _ (by decide))
  rw [State.flowMapped, hg, State.clearRefusals, State.put_areaMapped _ hu, State.put_areaMapped _ hb, State.flowMapped]

/-- A write of FAB_CFG with the refusal flags cleared leaves everything but the register's fields and the count of blocked writes. -/
theorem State.writeFabCfg_onlyRegs (s : State) (w : BarAcc) :
    OnlyRegs (F.HUB_SETUP_LOCK_blocked_writes.key 0 :: RegName.FAB_CFG.fields.map fun f => f.key 0) s
      (s.writeReg .FAB_CFG 0 w).clearRefusals :=
  (s.writeReg_onlyRegs 0 w rfl).trans ((State.clearRefusals_onlyRegs _).mono (List.subset_cons_self _ _))

theorem State.writeFabCfg_assigned (s : State) (w : BarAcc) :
    (s.writeReg .FAB_CFG 0 w).clearRefusals.isSet F.FAB_NODE_ID_assigned 0 = s.isSet F.FAB_NODE_ID_assigned 0 := by
  rw [State.isSet, (s.writeFabCfg_onlyRegs w).get_eq (by decide), State.isSet]

/-- The plain write leaves enable to its own row. -/
theorem State.writeFabCfg_enable (s : State) (w : BarAcc) :
    (s.writeReg .FAB_CFG 0 w).get F.FAB_CFG_enable 0 = s.get F.FAB_CFG_enable 0 := by
  rw [s.writeReg_get 0 w rfl rfl (by decide), s.writeField_of_ownRow s (by decide)]

/-- FABRIC_ENABLE that sets enable where it is clear: accepted with a node ID and a mapped flow area, else refused with its flags. -/
theorem exec_fabricEnable {s : State} {w : BarAcc} (hr : Reaches s .FAB_CFG 0 w 0) (ht : w.touches F.FAB_CFG_enable = true)
    (hb : w.bits F.FAB_CFG_enable = 1) (he : s.isSet F.FAB_CFG_enable 0 = false) :
    let u := s.writeReg .FAB_CFG 0 w
    let on := (u.clearRefusals.put F.FAB_CFG_enable 1 0).sendReady
    exec (.fabricEnable w) s = .next (
      if !s.isSet F.FAB_NODE_ID_assigned 0 || !u.flowMapped then
        (u.clearRefusals.putB F.FAB_CFG_unassigned (!s.isSet F.FAB_NODE_ID_assigned 0) 0).putB F.FAB_CFG_bad_base (!u.flowMapped) 0
      else if on.refl.owe then on.sendRresume else on) := by
  intro u on
  have hu : u.isSet F.FAB_CFG_enable 0 = false := by rw [State.isSet, s.writeFabCfg_enable w, ← he, State.isSet]
  rw [← s.writeFabCfg_assigned w, ← u.clearRefusals_flowMapped]
  change execFabricEnable w s = _
  rw [execFabricEnable, hr.onWrite]
  have pass : (!w.touches F.FAB_CFG_enable || w.bits F.FAB_CFG_enable != 1 || u.isSet F.FAB_CFG_enable 0) = false := by
    rw [ht, hb, hu]
    rfl
  exact congrArg Host.Outcome.next (if_neg (by rw [pass]; decide))

/-- A one-bit field reads as the truth value written to it. -/
theorem State.putB_isSet_same (s : State) {f : Fld} (h : f.width = 1) (v : Bool) (i : Nat) : (s.putB f v i).isSet f i = v := by
  rw [State.isSet, State.putB, State.put_get_same, h]
  cases v <;> rfl

theorem State.sendReady_of_not_owed {s : State} (h : s.rst.readyOwed = false) : s.sendReady = s := by
  simp [State.sendReady, h]

/-- With a node ID, a mapped flow area and nothing owed to peers, enable is set, its flags are clear, and nothing else changes. -/
theorem fabricEnable_accepted {s : State} {w : BarAcc} (hr : Reaches s .FAB_CFG 0 w 0) (ht : w.touches F.FAB_CFG_enable = true)
    (hb : w.bits F.FAB_CFG_enable = 1) (he : s.isSet F.FAB_CFG_enable 0 = false) (hn : s.isSet F.FAB_NODE_ID_assigned 0 = true)
    (hm : (s.writeReg .FAB_CFG 0 w).flowMapped = true) (hready : s.rst.readyOwed = false) (howe : s.refl.owe = false) :
    Gives (.fabricEnable w) s fun t => t.get F.FAB_CFG_enable 0 = 1 ∧ t.get F.FAB_CFG_bad_base 0 = 0 ∧
      t.get F.FAB_CFG_unassigned 0 = 0 ∧ t = { s with regs := t.regs } := by
  let c := (s.writeReg .FAB_CFG 0 w).clearRefusals
  have only := (s.writeFabCfg_onlyRegs w).trans ((c.put_onlyRegs F.FAB_CFG_enable 1 0).mono (by decide))
  have sent : (c.put F.FAB_CFG_enable 1 0).sendReady = c.put F.FAB_CFG_enable 1 0 :=
    State.sendReady_of_not_owed ((congrArg (·.rst.readyOwed) only.1).trans hready)
  have kept : (c.put F.FAB_CFG_enable 1 0).refl.owe = false := (congrArg (·.refl.owe) only.1).trans howe
  refine ⟨c.put F.FAB_CFG_enable 1 0, ?_, ?_, ?_, ?_, only.1⟩
  · rw [exec_fabricEnable hr ht hb he, hn, hm, if_neg (by decide), sent, kept, if_neg (by decide)]
  · exact c.put_get_same _ _ _
  · rw [State.put_get_other _ (by decide), State.clearRefusals_bad_base]
  · rw [State.put_get_other _ (by decide), State.clearRefusals_unassigned]

/-- Without a node ID or a mapped flow area, enable stays clear and each flag shows what was missing. -/
theorem fabricEnable_refused {s : State} {w : BarAcc} (hr : Reaches s .FAB_CFG 0 w 0) (ht : w.touches F.FAB_CFG_enable = true)
    (hb : w.bits F.FAB_CFG_enable = 1) (he : s.isSet F.FAB_CFG_enable 0 = false)
    (hno : s.isSet F.FAB_NODE_ID_assigned 0 = false ∨ (s.writeReg .FAB_CFG 0 w).flowMapped = false) :
    Gives (.fabricEnable w) s fun t => t.get F.FAB_CFG_enable 0 = 0 ∧
      t.isSet F.FAB_CFG_unassigned 0 = !s.isSet F.FAB_NODE_ID_assigned 0 ∧
      t.isSet F.FAB_CFG_bad_base 0 = !(s.writeReg .FAB_CFG 0 w).flowMapped ∧ t = { s with regs := t.regs } := by
  let u := s.writeReg .FAB_CFG 0 w
  let named := s.isSet F.FAB_NODE_ID_assigned 0
  have missing : (!named || !u.flowMapped) = true := by
    rcases hno with h | h <;> simp [named, u, h]
  have off : u.get F.FAB_CFG_enable 0 = 0 := by
    rw [s.writeFabCfg_enable w]
    simpa [State.isSet] using he
  refine ⟨(u.clearRefusals.putB F.FAB_CFG_unassigned (!named) 0).putB F.FAB_CFG_bad_base (!u.flowMapped) 0, ?_, ?_, ?_, ?_, ?_⟩
  · rw [exec_fabricEnable hr ht hb he, if_pos missing]
  · rw [State.putB, State.put_get_other _ (by decide), State.putB, State.put_get_other _ (by decide),
      State.clearRefusals_enable, off]
  · rw [State.isSet, State.putB, State.put_get_other _ (by decide)]
    exact State.putB_isSet_same _ rfl _ _
  · exact State.putB_isSet_same _ rfl _ _
  · exact ((s.writeFabCfg_onlyRegs w).trans (((State.put_onlyRegs _ F.FAB_CFG_unassigned _ 0).mono (by decide)).trans
      ((State.put_onlyRegs _ F.FAB_CFG_bad_base _ 0).mono (by decide)))).1

/-! ## The statement -/

/-- Settles O36: of the write of FAB_CFG before it, the enable sees flow_base only, and clearing the flags moves no map entry. -/
theorem nodeAndEnable : Obligations.NodeAndEnable := by
  unfold Obligations.NodeAndEnable
  refine ⟨fun s w hr ht => ⟨nodeIdWrite_assigns hr ht, nodeIdWrite_locked hr ht⟩, fun s w hr ht hb he => ?_⟩
  exact ⟨fabricEnable_accepted hr ht hb he, fabricEnable_refused hr ht hb he⟩

end Sys2Proof.Machine

/-! SUPPORT. Frames: what a register reads beside writes of other fields, and steps that change register fields alone. -/

namespace Sys2Proof.Machine

/-! ## Reads beside a write of another field -/

section
variable (s : State) {f g : Fld}

theorem State.put_get_apart (hf : f.code < 1024) (hg : g.code < 1024) (h : g.code ≠ f.code) (v i j : Nat) :
    (s.put f v i).get g j = s.get g j := s.put_get_other (Fld.key_ne hf hg h)

theorem State.putB_get_apart (hf : f.code < 1024) (hg : g.code < 1024) (h : g.code ≠ f.code) (b : Bool) (i j : Nat) :
    (s.putB f b i).get g j = s.get g j := s.put_get_apart hf hg h _ i j

theorem State.bump_get_apart (hf : f.code < 1024) (hg : g.code < 1024) (h : g.code ≠ f.code) (n i j : Nat) :
    (s.bump f n i).get g j = s.get g j := s.put_get_apart hf hg h _ i j

/-- A count that has not reached the field's largest value rises by one. -/
theorem State.bump_get_same_of_lt {i : Nat} (h : s.get f i < 2 ^ f.width - 1) : (s.bump f 1 i).get f i = s.get f i + 1 := by
  rw [State.bump, State.put_get_same, satAdd, Nat.min_eq_left (by omega), Nat.mod_eq_of_lt (by omega)]

end

/-! ## Steps that change register fields alone -/

/-- Nothing but register fields differs. -/
def RegsOnly (s t : State) : Prop := t = { s with regs := t.regs }

theorem RegsOnly.refl (s : State) : RegsOnly s s := rfl

theorem RegsOnly.trans {s t u : State} (h : RegsOnly s t) (h' : RegsOnly t u) : RegsOnly s u :=
  Eq.trans h' (congrArg (fun x : State => { x with regs := u.regs }) h)

theorem RegsOnly.put {s t : State} (h : RegsOnly s t) (f : Fld) (v i : Nat) : RegsOnly s (t.put f v i) := h.trans rfl

theorem RegsOnly.queue {s t : State} (h : RegsOnly s t) (n : Nat) : t.queue n = s.queue n := by
  rw [h]
  rfl

theorem RegsOnly.setQueue {s t : State} (h : RegsOnly s t) (n : Nat) (q : Queue) :
    t.setQueue n q = { s with regs := (t.setQueue n q).regs, queues := (t.setQueue n q).queues } :=
  congrArg (fun x : State => { x with regs := t.regs, queues := (t.setQueue n q).queues }) h

theorem RegsOnly.setRing {s t : State} (h : RegsOnly s t) (n : Nat) (r : CRing) :
    t.setRing n r = { s with regs := (t.setRing n r).regs, rings := (t.setRing n r).rings } :=
  congrArg (fun x : State => { x with regs := t.regs, rings := (t.setRing n r).rings }) h

end Sys2Proof.Machine

/-! SUPPORT. Die-to-die bundles in service (R21-R26): what a flit leaves at its bundle, and what the first lane lost changes. -/

namespace Sys2Proof.Machine

/-! ## Flits (R21, R22) -/

/-- The CRC errors a bundle holds after a flit: one that fails is laid to its lane, and those older than 1 ms fall out. -/
def Bundle.logFlit (v : Bundle) (ok : Bool) (lane now : Nat) : Bundle :=
  if ok then v else { v with errs := (lane, now) :: v.errs.filter fun e => decide (now < e.2 + 1000000) }

/-- The bundle after a flit that it waits for: delivered, or owed. -/
def Bundle.take (v : Bundle) (flit : BitVec 1024) (ok : Bool) : Bundle :=
  if ok then { v with last := some flit, replay := none } else { v with replay := some flit }

/-- The bundle after a flit: while one is owed, no other is taken. -/
def Bundle.receive (v : Bundle) (flit : BitVec 1024) (ok : Bool) (lane now : Nat) : Bundle :=
  if v.replay = none ∨ v.replay = some flit then (v.logFlit ok lane now).take flit ok else v.logFlit ok lane now

theorem exec_d2dFlitReceive {s : State} {b : Fin 400} (flit : BitVec 1024) (lane : Fin 66) (ok : Bool) (hup : s.d2dUp = true)
    (hc : (s.bundle b).changing = false) (hw : s.get F.HUB_D2D_BUNDLE_STAT_width b ≠ 0) :
    exec (.d2dFlitReceive b flit ok lane) s = .next (s.setBundle b ((s.bundle b).receive flit ok lane s.time)) := by
  change execD2dFlitReceive b flit ok lane s = _
  have pass : (!s.d2dUp || (s.bundle b).changing || s.get F.HUB_D2D_BUNDLE_STAT_width b == 0) = false := by
    simp [hup, hc, hw]
  simp only [execD2dFlitReceive, pass, Bool.false_eq_true, if_false, Bundle.receive, Bundle.logFlit, Bundle.take]
  cases hr : (s.bundle b).replay with
  | none => cases ok <;> simp
  | some f =>
    by_cases hf : f = flit
    · cases ok <;> simp [hf]
    · cases ok <;> simp [hf]

@[simp] theorem Bundle.receive_failed (v : Bundle) (flit : BitVec 1024) (ok : Bool) (lane now : Nat) :
    (v.receive flit ok lane now).failed = v.failed := by
  unfold Bundle.receive Bundle.take Bundle.logFlit
  split <;> cases ok <;> rfl

theorem Bundle.receive_of_taken {v : Bundle} {flit : BitVec 1024} (h : v.replay = none ∨ v.replay = some flit) (ok : Bool)
    (lane now : Nat) : v.receive flit ok lane now = (v.logFlit ok lane now).take flit ok := if_pos h

theorem Bundle.receive_of_other {v : Bundle} {f flit : BitVec 1024} (h : v.replay = some f) (hf : f ≠ flit) (ok : Bool)
    (lane now : Nat) : v.receive flit ok lane now = v.logFlit ok lane now :=
  if_neg (by rw [h]; simpa using hf)

/-- A flit changes its own bundle: delivered, owed, or passed over while another is owed. -/
theorem d2dFlitReceive_gives {s : State} {b : Fin 400} (flit : BitVec 1024) (lane : Fin 66) (ok : Bool) (hup : s.d2dUp = true)
    (hc : (s.bundle b).changing = false) (hw : s.get F.HUB_D2D_BUNDLE_STAT_width b ≠ 0) :
    Gives (.d2dFlitReceive b flit ok lane) s fun t =>
      t = { s with bundles := t.bundles } ∧ (∀ c, c ≠ b.val → t.bundle c = s.bundle c) ∧ (t.bundle b).failed = (s.bundle b).failed ∧
      ((s.bundle b).replay = none ∨ (s.bundle b).replay = some flit →
        (ok = true → (t.bundle b).last = some flit ∧ (t.bundle b).replay = none ∧ (t.bundle b).errs = (s.bundle b).errs) ∧
        (ok = false → (t.bundle b).last = (s.bundle b).last ∧ (t.bundle b).replay = some flit ∧ (lane.val, s.time) ∈ (t.bundle b).errs)) ∧
      (∀ f, (s.bundle b).replay = some f → f ≠ flit → (t.bundle b).last = (s.bundle b).last ∧ (t.bundle b).replay = some f) := by
  refine ⟨_, exec_d2dFlitReceive flit lane ok hup hc hw, rfl, fun c h => s.setBundle_other _ h, ?_⟩
  rw [State.setBundle_same]
  refine ⟨Bundle.receive_failed .., fun h => ?_, fun f hr hf => ?_⟩
  · rw [Bundle.receive_of_taken h]
    constructor
    · rintro rfl
      exact ⟨rfl, rfl, rfl⟩
    · rintro rfl
      exact ⟨rfl, rfl, List.mem_cons_self⟩
  · rw [Bundle.receive_of_other hr hf, ← hr]
    cases ok <;> exact ⟨rfl, rfl⟩

/-! ## A lane lost in service (R22, R23, R25) -/

/-- A link's halves depend on the widths of the bundles alone. -/
theorem State.linkHalves_congr {s t : State}
    (h : ∀ k, t.get F.HUB_D2D_BUNDLE_STAT_width k = s.get F.HUB_D2D_BUNDLE_STAT_width k) (l : D2DLink) :
    t.linkHalves l = s.linkHalves l := by
  simp only [State.linkHalves, State.dirHalves, h]

/-- The registers of bundle b as the loss of its first lane leaves them: a spare in its place, the width kept, the swap counted. -/
def State.firstSwap (s : State) (b : Nat) : State :=
  (((((s.put F.HUB_D2D_BUNDLE_STAT_healthy_lanes 65 b).put F.HUB_D2D_BUNDLE_STAT_spares_used 1 b).put
    F.HUB_D2D_BUNDLE_STAT_width 2 b).bump F.HUB_D2D_BUNDLE_STAT_swap_count 1 b).put F.HUB_D2D_BUNDLE_STAT_degraded_evt 1 b)

theorem State.firstSwap_width (s : State) (b k : Nat) (hw : s.get F.HUB_D2D_BUNDLE_STAT_width b = 2) :
    (s.firstSwap b).get F.HUB_D2D_BUNDLE_STAT_width k = s.get F.HUB_D2D_BUNDLE_STAT_width k := by
  simp (disch := decide) only [State.firstSwap, State.put_get_apart, State.bump_get_apart]
  by_cases hk : k = b
  · subst hk
    rw [State.put_get_same, hw]
    rfl
  · rw [State.put_get_other _ (fun e => hk (Fld.key_inj.1 e))]
    simp (disch := decide) only [State.put_get_apart]

/-- The first swap changes nothing of the bundles beside their registers. -/
theorem State.firstSwap_bundle (s : State) (b k : Nat) : (s.firstSwap b).bundle k = s.bundle k := rfl

theorem State.firstSwap_eq (s : State) (b : Nat) : s.firstSwap b = { s with regs := (s.firstSwap b).regs } := rfl

/-- The first lane that a bundle of full width loses in service takes a spare and pauses the bundle; its link keeps its halves. -/
theorem State.laneLost_of_first {s : State} {b : Nat} (lane : Nat) (hf : (s.bundle b).failed = [])
    (hw : s.get F.HUB_D2D_BUNDLE_STAT_width b = 2) :
    s.laneLost b lane = (s.setBundle b { s.bundle b with failed := [lane], changing := true }).firstSwap b := by
  have halves : ((s.setBundle b { s.bundle b with failed := [lane], changing := true }).firstSwap b).linkHalves (linkOf b) =
      s.linkHalves (linkOf b) :=
    State.linkHalves_congr (fun k => State.firstSwap_width _ b k hw) _
  have spare : widthOf (66 - 1) = 2 := rfl
  unfold State.laneLost
  simp only [hf, List.length_nil, List.nil_append, Nat.zero_add, spare, hw]
  exact if_pos (le_of_eq halves.symm)

theorem exec_d2dLaneFail_eye {s : State} {b : Fin 400} (lane : Fin 66) (ht : s.d2dTraining b = false) (hup : s.d2dUp = true)
    (hf : (s.bundle b).failed = []) (hq : (s.bundle b).queued = []) (hc : (s.bundle b).changing = false) :
    exec (.d2dLaneFail b lane .eyeWidth) s = .next (s.laneLost b lane) := by
  change execD2dLaneFail b lane .eyeWidth s = _
  simp [execD2dLaneFail, State.laneFail, ht, hup, hf, hq, hc]

theorem d2dLaneFail_gives {s : State} {b : Fin 400} (lane : Fin 66) (ht : s.d2dTraining b = false) (hup : s.d2dUp = true)
    (hf : (s.bundle b).failed = []) (hq : (s.bundle b).queued = []) (hc : (s.bundle b).changing = false)
    (hw : s.get F.HUB_D2D_BUNDLE_STAT_width b = 2) (hn : s.get F.HUB_D2D_BUNDLE_STAT_swap_count b < 255) :
    Gives (.d2dLaneFail b lane .eyeWidth) s fun t =>
      (t.bundle b).failed = [lane.val] ∧ (t.bundle b).changing = true ∧ t.get F.HUB_D2D_BUNDLE_STAT_healthy_lanes b = 65 ∧
      t.get F.HUB_D2D_BUNDLE_STAT_spares_used b = 1 ∧ t.get F.HUB_D2D_BUNDLE_STAT_width b = 2 ∧
      t.get F.HUB_D2D_BUNDLE_STAT_swap_count b = s.get F.HUB_D2D_BUNDLE_STAT_swap_count b + 1 ∧
      t.get F.HUB_D2D_BUNDLE_STAT_degraded_evt b = 1 ∧ (∀ c, c ≠ b.val → t.bundle c = s.bundle c) ∧
      t = { s with bundles := t.bundles, regs := t.regs } := by
  refine ⟨_, by rw [exec_d2dLaneFail_eye lane ht hup hf hq hc, State.laneLost_of_first lane hf hw], ?_⟩
  simp only [State.firstSwap_bundle, State.setBundle_same, true_and]
  refine ⟨?_, ?_, ?_, ?_, ?_, fun c h => s.setBundle_other _ h, ?_⟩
  · simp (disch := decide) only [State.firstSwap, State.put_get_apart, State.bump_get_apart, State.put_get_same]
    rfl
  · simp (disch := decide) only [State.firstSwap, State.put_get_apart, State.bump_get_apart, State.put_get_same]
    rfl
  · exact (State.firstSwap_width _ _ _ hw).trans hw
  · simp (disch := decide) only [State.firstSwap, State.put_get_apart]
    rw [State.bump_get_same_of_lt]
    · simp (disch := decide) only [State.put_get_apart, State.setBundle_get]
    · simp (disch := decide) only [State.put_get_apart, State.setBundle_get]
      exact hn
  · rw [State.firstSwap, State.put_get_same]
    rfl
  · rw [State.firstSwap_eq]
    rfl

/-! ## The end of a swap (R26) -/

theorem exec_bundleChangeEnd {s : State} {b : Fin 400} (hc : (s.bundle b).changing = true) (hq : (s.bundle b).queued = []) :
    exec (.bundleChangeEnd b) s = .next (s.setBundle b { s.bundle b with changing := false }) := by
  change execBundleChangeEnd b s = _
  simp [execBundleChangeEnd, hc, hq, firstLane]

theorem exec_bundleChangeEnd_idle {s : State} {b : Fin 400} (hc : (s.bundle b).changing = false) :
    exec (.bundleChangeEnd b) s = .next s := by
  change execBundleChangeEnd b s = _
  simp [execBundleChangeEnd, hc]

/-- Fewer than 16 CRC errors within 1 ms fail no lane (R22). -/
theorem exec_d2dLaneFail_few {s : State} {b : Fin 400} {lane : Fin 66} (h : (s.bundle b).errsOf lane s.time < 16) :
    exec (.d2dLaneFail b lane .crcErrors) s = .next s := by
  change execD2dLaneFail b lane .crcErrors s = _
  rw [execD2dLaneFail, if_neg (by omega)]

/-! ## The statement -/

/-- Settles O33: a flit meets what its bundle owes, and the first lost lane leaves the width, so its link's halves, as they were. -/
theorem bundlesInService : Obligations.BundlesInService := by
  unfold Obligations.BundlesInService
  refine ⟨fun s b flit lane ok hup hc hw => d2dFlitReceive_gives flit lane ok hup hc hw,
    fun s b lane ht hup hf hq hc hw hn => d2dLaneFail_gives lane ht hup hf hq hc hw hn,
    fun s b lane h => exec_d2dLaneFail_few h, fun s b hc hq => ?_, fun s b hc => exec_bundleChangeEnd_idle hc⟩
  exact ⟨_, exec_bundleChangeEnd hc hq, s.setBundle_same _ _, fun c h => s.setBundle_other _ h, rfl⟩

end Sys2Proof.Machine

/-! SUPPORT. Queues and completion rings (R35, R196, R197, R202, R203, R428): what enable, disable, doorbell, resume and the heads
leave. -/

namespace Sys2Proof.Machine

/-! ## Writes of a register before a field of its own row -/

/-- The plain write leaves a field that a row of its own writes. -/
theorem State.writeReg_get_ownRow (s : State) {r : RegName} (j : Nat) (w : BarAcc) (h : r.shadowUnit = none) (ho : r.ownRow = false)
    {f : Fld} (hf : f ∈ r.fields) (hrow : ownRow f = true) : (s.writeReg r j w).get f j = s.get f j := by
  rw [s.writeReg_get j w h ho hf, s.writeField_of_ownRow s hrow]

/-- The plain write of a register without a shadow changes register fields only. -/
theorem State.writeReg_regsOnly (s : State) {r : RegName} (j : Nat) (w : BarAcc) (h : r.shadowUnit = none) :
    RegsOnly s (s.writeReg r j w) := (s.writeReg_onlyRegs j w h).1

theorem State.get_zero_of_clear {s : State} {f : Fld} {i : Nat} (h : s.isSet f i = false) : s.get f i = 0 := by
  simpa [State.isSet] using h

/-! ## Enable of a queue (R196) -/

/-- The registers of queue j as it starts: enabled, running, and empty from its first slot. -/
def State.startedQ (s : State) (j : Nat) : State :=
  ((((((s.put F.HUB_Q_CFG_enable 1 j).put F.HUB_Q_STAT_state 1 j).put F.HUB_Q_STAT_head 0 j).put F.HUB_Q_STAT_tail 0 j).put
    F.HUB_Q_STAT_error_cause 0 j).put F.HUB_Q_STAT_halt_status 0 j).put F.HUB_Q_STAT_halt_index 0 j

theorem RegsOnly.startedQ {s t : State} (h : RegsOnly s t) (j : Nat) : RegsOnly s (t.startedQ j) :=
  ((((((h.put _ _ _).put _ _ _).put _ _ _).put _ _ _).put _ _ _).put _ _ _).put _ _ _

theorem exec_queueEnable {n : Fin 65536} {j : Nat} {w : BarAcc} {s : State} (hr : Reaches s .HUB_Q_CFG n w j)
    (he : s.isSet F.HUB_Q_CFG_enable j = false) (ha : s.after w F.HUB_Q_CFG_enable j ≠ 0) :
    exec (.queueEnable n w) s = .next (if (s.writeReg .HUB_Q_CFG j w).enableRefused j
      then (s.writeReg .HUB_Q_CFG j w).queueError j 1 else ((s.writeReg .HUB_Q_CFG j w).startedQ j).setQueue j {}) := by
  change execQueueEnable n w s = _
  have pass : (s.isSet F.HUB_Q_CFG_enable j || s.after w F.HUB_Q_CFG_enable j == 0) = false := by simp [he, ha]
  simp only [execQueueEnable, hr.onWrite, pass, Bool.false_eq_true, if_false, State.startedQ]

/-- A refused enable leaves the queue in error with cause 1 and its enable clear. -/
theorem queueEnable_refused {n : Fin 65536} {j : Nat} {w : BarAcc} {s : State} (hr : Reaches s .HUB_Q_CFG n w j)
    (he : s.isSet F.HUB_Q_CFG_enable j = false) (ha : s.after w F.HUB_Q_CFG_enable j ≠ 0)
    (hno : (s.writeReg .HUB_Q_CFG j w).enableRefused j = true) : Gives (.queueEnable n w) s fun t =>
      t.get F.HUB_Q_STAT_state j = 3 ∧ t.get F.HUB_Q_STAT_error_cause j = 1 ∧ t.get F.HUB_Q_CFG_enable j = 0 ∧
      t = { s with regs := t.regs } := by
  refine ⟨(s.writeReg .HUB_Q_CFG j w).queueError j 1, ?_, ?_, ?_, ?_, ?_⟩
  · rw [exec_queueEnable hr he ha, if_pos hno]
  · simp (disch := decide) only [State.queueError, State.put_get_apart, State.put_get_same]
    rfl
  · rw [State.queueError, State.put_get_same]
    rfl
  · simp (disch := decide) only [State.queueError, State.put_get_apart, s.writeReg_get_ownRow]
    exact State.get_zero_of_clear he
  · exact ((s.writeReg_regsOnly j w rfl).put _ _ _).put _ _ _

/-- An enable that is not refused starts the queue from empty. -/
theorem queueEnable_accepted {n : Fin 65536} {j : Nat} {w : BarAcc} {s : State} (hr : Reaches s .HUB_Q_CFG n w j)
    (he : s.isSet F.HUB_Q_CFG_enable j = false) (ha : s.after w F.HUB_Q_CFG_enable j ≠ 0)
    (hok : (s.writeReg .HUB_Q_CFG j w).enableRefused j = false) : Gives (.queueEnable n w) s fun t =>
      t.get F.HUB_Q_CFG_enable j = 1 ∧ t.get F.HUB_Q_STAT_state j = 1 ∧ t.get F.HUB_Q_STAT_head j = 0 ∧
      t.get F.HUB_Q_STAT_tail j = 0 ∧ t.queue j = {} ∧ (∀ m, m ≠ j → t.queue m = s.queue m) ∧
      t = { s with regs := t.regs, queues := t.queues } := by
  refine ⟨_, by rw [exec_queueEnable hr he ha, hok, if_neg (by decide)], ?_⟩
  have regs : RegsOnly s ((s.writeReg .HUB_Q_CFG j w).startedQ j) := (s.writeReg_regsOnly j w rfl).startedQ j
  refine ⟨?_, ?_, ?_, ?_, State.setQueue_same _ _ _, fun m h => (State.setQueue_other _ _ h).trans (regs.queue m), regs.setQueue j {}⟩ <;>
  · simp (disch := decide) only [State.startedQ, State.setQueue_get, State.put_get_apart, State.put_get_same]
    rfl

/-! ## Enable of a completion ring (R428) -/

/-- The registers of completion ring j as it starts: enabled, and empty from its first slot. -/
def State.startedCq (s : State) (j : Nat) : State :=
  ((((s.put F.HUB_CQ_CFG_enable 1 j).put F.HUB_CQ_STAT_enable_refused 0 j).put F.HUB_CQ_STAT_position 0 j).put
    F.HUB_CQ_STAT_head 0 j).put F.HUB_CQ_STAT_dropped 0 j

theorem RegsOnly.startedCq {s t : State} (h : RegsOnly s t) (j : Nat) : RegsOnly s (t.startedCq j) :=
  ((((h.put _ _ _).put _ _ _).put _ _ _).put _ _ _).put _ _ _

theorem exec_cqEnable {n : Fin 65536} {j : Nat} {w : BarAcc} {s : State} (hr : Reaches s .HUB_CQ_CFG n w j)
    (he : s.isSet F.HUB_CQ_CFG_enable j = false) (ha : s.after w F.HUB_CQ_CFG_enable j ≠ 0) :
    exec (.cqEnable n w) s = .next (if (s.writeReg .HUB_CQ_CFG j w).cqRefused j
      then (s.writeReg .HUB_CQ_CFG j w).put F.HUB_CQ_STAT_enable_refused 1 j else ((s.writeReg .HUB_CQ_CFG j w).startedCq j).setRing j {}) := by
  change execCqEnable n w s = _
  have pass : (s.isSet F.HUB_CQ_CFG_enable j || s.after w F.HUB_CQ_CFG_enable j == 0) = false := by simp [he, ha]
  simp only [execCqEnable, hr.onWrite, pass, Bool.false_eq_true, if_false, State.startedCq]

theorem cqEnable_refused {n : Fin 65536} {j : Nat} {w : BarAcc} {s : State} (hr : Reaches s .HUB_CQ_CFG n w j)
    (he : s.isSet F.HUB_CQ_CFG_enable j = false) (ha : s.after w F.HUB_CQ_CFG_enable j ≠ 0)
    (hno : (s.writeReg .HUB_CQ_CFG j w).cqRefused j = true) : Gives (.cqEnable n w) s fun t =>
      t.get F.HUB_CQ_STAT_enable_refused j = 1 ∧ t.get F.HUB_CQ_CFG_enable j = 0 ∧ t = { s with regs := t.regs } := by
  refine ⟨(s.writeReg .HUB_CQ_CFG j w).put F.HUB_CQ_STAT_enable_refused 1 j, ?_, ?_, ?_, ?_⟩
  · rw [exec_cqEnable hr he ha, if_pos hno]
  · rw [State.put_get_same]
    rfl
  · simp (disch := decide) only [State.put_get_apart, s.writeReg_get_ownRow]
    exact State.get_zero_of_clear he
  · exact (s.writeReg_regsOnly j w rfl).put _ _ _

theorem cqEnable_accepted {n : Fin 65536} {j : Nat} {w : BarAcc} {s : State} (hr : Reaches s .HUB_CQ_CFG n w j)
    (he : s.isSet F.HUB_CQ_CFG_enable j = false) (ha : s.after w F.HUB_CQ_CFG_enable j ≠ 0)
    (hok : (s.writeReg .HUB_CQ_CFG j w).cqRefused j = false) : Gives (.cqEnable n w) s fun t =>
      t.get F.HUB_CQ_CFG_enable j = 1 ∧ t.get F.HUB_CQ_STAT_enable_refused j = 0 ∧ t.get F.HUB_CQ_STAT_position j = 0 ∧
      t.get F.HUB_CQ_STAT_head j = 0 ∧ (t.ring j).phase = true ∧ t.ring j = {} ∧
      t = { s with regs := t.regs, rings := t.rings } := by
  refine ⟨_, by rw [exec_cqEnable hr he ha, hok, if_neg (by decide)], ?_⟩
  have regs : RegsOnly s ((s.writeReg .HUB_CQ_CFG j w).startedCq j) := (s.writeReg_regsOnly j w rfl).startedCq j
  have ring : (((s.writeReg .HUB_CQ_CFG j w).startedCq j).setRing j {}).ring j = {} := State.setRing_same _ _ _
  refine ⟨?_, ?_, ?_, ?_, congrArg CRing.phase ring, ring, regs.setRing j {}⟩ <;>
  · simp (disch := decide) only [State.startedCq, State.setRing_get, State.put_get_apart, State.put_get_same]
    rfl

/-! ## Disable (R196, R428) -/

theorem exec_queueDisable {n : Fin 65536} {j : Nat} {w : BarAcc} {s : State} (hr : Reaches s .HUB_Q_CFG n w j)
    (he : s.isSet F.HUB_Q_CFG_enable j = true) (ht : w.touches F.HUB_Q_CFG_enable = true) (ha : s.after w F.HUB_Q_CFG_enable j = 0) :
    exec (.queueDisable n w) s = .next (s.closeQueue j) := by
  change execQueueDisable n w s = _
  simp [execQueueDisable, hr.onWrite, he, ht, ha]

theorem exec_cqDisable {n : Fin 65536} {j : Nat} {w : BarAcc} {s : State} (hr : Reaches s .HUB_CQ_CFG n w j)
    (he : s.isSet F.HUB_CQ_CFG_enable j = true) (ht : w.touches F.HUB_CQ_CFG_enable = true) (ha : s.after w F.HUB_CQ_CFG_enable j = 0) :
    exec (.cqDisable n w) s = .next (s.put F.HUB_CQ_CFG_enable 0 j) := by
  change execCqDisable n w s = _
  simp [execCqDisable, hr.onWrite, he, ht, ha]

/-- What a disabled queue holds while it closes. -/
def Queue.closed (q : Queue) : Queue :=
  { q with closing := true, reading := none, ents := q.ents.filter fun e => e.phase != .fetched }

/-- A closed queue reads disabled at once when it holds no dispatched descriptor. -/
theorem State.closeQueue_eq (s : State) (n : Nat) :
    s.closeQueue n =
      let u := (s.put F.HUB_Q_CFG_enable 0 n).setQueue n (s.queue n).closed
      if (s.queue n).closed.ents = [] then (u.put F.HUB_Q_STAT_state 0 n).setQueue n { (s.queue n).closed with closing := false }
      else u := by
  change State.settleQueue _ n = _
  rw [State.settleQueue, State.setQueue_same]
  simp only [Bool.true_and, List.isEmpty_iff]
  rfl

theorem queueDisable_gives {n : Fin 65536} {j : Nat} {w : BarAcc} {s : State} (hr : Reaches s .HUB_Q_CFG n w j)
    (he : s.isSet F.HUB_Q_CFG_enable j = true) (ht : w.touches F.HUB_Q_CFG_enable = true) (ha : s.after w F.HUB_Q_CFG_enable j = 0) :
    Gives (.queueDisable n w) s fun t =>
      t.get F.HUB_Q_CFG_enable j = 0 ∧ (t.queue j).ents = (s.queue j).ents.filter (fun e => e.phase != .fetched) ∧
      (t.queue j).reading = none ∧ ((t.queue j).ents = [] → t.get F.HUB_Q_STAT_state j = 0) ∧
      (∀ m, m ≠ j → t.queue m = s.queue m) ∧ t = { s with regs := t.regs, queues := t.queues } := by
  refine ⟨_, exec_queueDisable hr he ht ha, ?_⟩
  rw [State.closeQueue_eq]
  by_cases hn : (s.queue j).closed.ents = []
  · simp only [if_pos hn, State.setQueue_same]
    refine ⟨?_, rfl, rfl, fun _ => ?_, fun m h => ?_, rfl⟩
    · simp (disch := decide) only [State.setQueue_get, State.put_get_apart, State.put_get_same]
      rfl
    · rw [State.setQueue_get, State.put_get_same]
      rfl
    · exact (State.setQueue_other _ _ h).trans (State.setQueue_other (s.put F.HUB_Q_CFG_enable 0 j) _ h)
  · simp only [if_neg hn, State.setQueue_same]
    refine ⟨?_, rfl, rfl, fun h => absurd h hn, fun m h => State.setQueue_other (s.put F.HUB_Q_CFG_enable 0 j) _ h, rfl⟩
    rw [State.setQueue_get, State.put_get_same]
    rfl

/-! ## Doorbells (R35, R197) -/

theorem doorbell_early {s : State} (n : Fin 65536) (w : BarAcc) (hp : s.boot.phase ≠ .ready) : Gives (.doorbell n w) s fun t =>
    t.get F.HUB_EARLY_DOORBELLS_count 0 = min (2 ^ 16 - 1) (s.get F.HUB_EARLY_DOORBELLS_count 0 + 1) ∧
    OnlyRegs [F.HUB_EARLY_DOORBELLS_count.key 0] s t := by
  refine ⟨s.bump F.HUB_EARLY_DOORBELLS_count 1 0, ?_, ?_, s.put_onlyRegs _ _ _⟩
  · change execDoorbell n w s = _
    simp [execDoorbell, hp]
  · have hw : F.HUB_EARLY_DOORBELLS_count.width = 16 := rfl
    rw [State.bump, State.put_get_same, satAdd, hw]
    omega

theorem exec_doorbell {s : State} {n : Fin 65536} {w : BarAcc} {j : Nat} (hp : s.boot.phase = .ready) (hup : s.hubUp = true)
    (ho : w.off = 0) (hs : w.size = 8) (hj : s.queueIx w.fn n = some j) (hv : w.value.toNat < 2 ^ 16) :
    exec (.doorbell n w) s = .next (if s.takesDoorbell j then s.newTail j w.value.toNat else s) := by
  change execDoorbell n w s = _
  have small : ¬ 2 ^ 16 ≤ w.value.toNat := by omega
  simp only [execDoorbell, hp, hup, ho, hs, hj, small]
  cases s.takesDoorbell j <;> rfl

/-- A tail within the ring at or past the accepted one is taken. -/
theorem State.newTail_of_fits {s : State} {j tail : Nat} (h : tail < s.ringSize j ∧
    ringDist (s.ringSize j) (s.oldestIx j) (s.get F.HUB_Q_STAT_tail j) ≤ ringDist (s.ringSize j) (s.oldestIx j) tail) :
    s.newTail j tail = (s.put F.HUB_Q_STAT_tail tail j).setQueue j { s.queue j with
      accepted := (s.queue j).accepted + (ringDist (s.ringSize j) (s.oldestIx j) tail -
        ringDist (s.ringSize j) (s.oldestIx j) (s.get F.HUB_Q_STAT_tail j)) } := if_pos h

/-- Any other tail is an overrun. -/
theorem State.newTail_of_overrun {s : State} {j tail : Nat} (h : ¬(tail < s.ringSize j ∧
    ringDist (s.ringSize j) (s.oldestIx j) (s.get F.HUB_Q_STAT_tail j) ≤ ringDist (s.ringSize j) (s.oldestIx j) tail)) :
    s.newTail j tail = (s.queueError j 2).vec0 := if_neg h

theorem State.queueError_keepsRegs (s : State) (j cause : Nat) :
    KeepsRegs [F.HUB_Q_STAT_state.key j, F.HUB_Q_STAT_error_cause.key j] s (s.queueError j cause) :=
  (((s.put_onlyRegs F.HUB_Q_STAT_state 3 j).mono (by simp)).trans
    ((State.put_onlyRegs _ F.HUB_Q_STAT_error_cause cause j).mono (by simp))).2

theorem newTail_taken {s : State} {j tail : Nat} (hv : tail < 2 ^ 16) (h : tail < s.ringSize j ∧
    ringDist (s.ringSize j) (s.oldestIx j) (s.get F.HUB_Q_STAT_tail j) ≤ ringDist (s.ringSize j) (s.oldestIx j) tail) :
    let t := s.newTail j tail
    t.get F.HUB_Q_STAT_tail j = tail ∧ (t.queue j).accepted = (s.queue j).accepted +
      (ringDist (s.ringSize j) (s.oldestIx j) tail - ringDist (s.ringSize j) (s.oldestIx j) (s.get F.HUB_Q_STAT_tail j)) ∧
    (t.queue j).ents = (s.queue j).ents ∧ t = { s with regs := t.regs, queues := t.queues } ∧ KeepsRegs [F.HUB_Q_STAT_tail.key j] s t := by
  intro t
  have ht : t = _ := State.newTail_of_fits h
  rw [ht, State.setQueue_same, State.setQueue_get, State.put_get_same]
  exact ⟨Nat.mod_eq_of_lt hv, rfl, rfl, rfl, (s.put_onlyRegs F.HUB_Q_STAT_tail tail j).2⟩

theorem newTail_overrun {s : State} {j tail : Nat} (h : ¬(tail < s.ringSize j ∧
    ringDist (s.ringSize j) (s.oldestIx j) (s.get F.HUB_Q_STAT_tail j) ≤ ringDist (s.ringSize j) (s.oldestIx j) tail)) :
    let t := s.newTail j tail
    t.get F.HUB_Q_STAT_state j = 3 ∧ t.get F.HUB_Q_STAT_error_cause j = 2 ∧ t = { s with regs := t.regs, out := t.out } ∧
    KeepsRegs [F.HUB_Q_STAT_state.key j, F.HUB_Q_STAT_error_cause.key j] s t := by
  intro t
  obtain ⟨l, hl⟩ := (s.queueError j 2).emit_eq (.msix 0 0)
  have ht : t = { s.queueError j 2 with out := l } := (State.newTail_of_overrun h).trans hl
  rw [ht]
  refine ⟨?_, ?_, rfl, s.queueError_keepsRegs j 2⟩
  · change (s.queueError j 2).get F.HUB_Q_STAT_state j = 3
    simp (disch := decide) only [State.queueError, State.put_get_apart, State.put_get_same]
    rfl
  · change (s.queueError j 2).get F.HUB_Q_STAT_error_cause j = 2
    rw [State.queueError, State.put_get_same]
    rfl

/-! ## Resume and the heads (R202, R203) -/

/-- A halted queue that no stop holds runs again. -/
theorem State.resumeQueue_of_halted {s : State} {j : Nat} (hh : s.get F.HUB_Q_STAT_state j = 2) (hs : s.stopActive = false) :
    s.resumeQueue j = (s.put F.HUB_Q_STAT_state 1 j).setQueue j { s.queue j with stopHalt := none } := by
  simp [State.resumeQueue, hh, hs]

theorem exec_queueResume {n : Fin 65536} {j : Nat} {w : BarAcc} {s : State} (hr : Reaches s .HUB_Q_CTRL n w j)
    (hres : w.bits F.HUB_Q_CTRL_resume = 1) (hset : w.bits F.HUB_Q_CTRL_set_head = 0) :
    exec (.queueResume n w) s = .next (s.resumeQueue j) := by
  change execQueueResume n w s = _
  simp [execQueueResume, hr.onWrite, hres, hset]

theorem queueResume_gives {n : Fin 65536} {j : Nat} {w : BarAcc} {s : State} (hr : Reaches s .HUB_Q_CTRL n w j)
    (hres : w.bits F.HUB_Q_CTRL_resume = 1) (hh : s.get F.HUB_Q_STAT_state j = 2) (hs : s.stopActive = false)
    (hset : w.bits F.HUB_Q_CTRL_set_head = 0) : Gives (.queueResume n w) s fun t =>
      t.get F.HUB_Q_STAT_state j = 1 ∧ (t.queue j).ents = (s.queue j).ents ∧
      t = { s with regs := t.regs, queues := t.queues } ∧ KeepsRegs [F.HUB_Q_STAT_state.key j] s t := by
  refine ⟨_, exec_queueResume hr hres hset, ?_⟩
  simp only [State.resumeQueue_of_halted hh hs, State.setQueue_get, State.put_get_same, State.setQueue_same]
  exact ⟨rfl, trivial, rfl, (s.put_onlyRegs F.HUB_Q_STAT_state 1 j).2⟩

/-- Head h lies between halt_index + 1 and tail in ring order. -/
def State.headFits (s : State) (j h : Nat) : Prop :=
  h < s.ringSize j ∧ ringDist (s.ringSize j) ((s.get F.HUB_Q_STAT_halt_index j + 1) % s.ringSize j) h ≤
    ringDist (s.ringSize j) ((s.get F.HUB_Q_STAT_halt_index j + 1) % s.ringSize j) (s.get F.HUB_Q_STAT_tail j)

theorem exec_queueSetHead {n : Fin 65536} {j : Nat} {w : BarAcc} {s : State} (hr : Reaches s .HUB_Q_CTRL n w j)
    (hres : w.bits F.HUB_Q_CTRL_resume = 1) (hset : w.bits F.HUB_Q_CTRL_set_head = 1) (hh : s.get F.HUB_Q_STAT_state j = 2)
    (hs : s.stopActive = false) :
    (s.headFits j (w.bits F.HUB_Q_CTRL_new_head) → exec (.queueSetHead n w) s = .next (
      ((s.setQueue j { s.queue j with ents := (s.queue j).ents.filter (fun e => e.phase != .fetched), reading := none }).put
        F.HUB_Q_STAT_head (w.bits F.HUB_Q_CTRL_new_head) j).resumeQueue j)) ∧
    (¬ s.headFits j (w.bits F.HUB_Q_CTRL_new_head) → exec (.queueSetHead n w) s = .next s) := by
  have pass : (w.bits F.HUB_Q_CTRL_resume == 1 && w.bits F.HUB_Q_CTRL_set_head == 1 && s.get F.HUB_Q_STAT_state j == 2 &&
      !s.stopActive) = true := by simp [hres, hset, hh, hs]
  constructor <;> intro h <;> change execQueueSetHead n w s = _ <;> rw [execQueueSetHead, hr.onWrite, if_pos pass]
  · exact congrArg Host.Outcome.next (if_pos h)
  · exact congrArg Host.Outcome.next (if_neg h)

/-- The value a write carries for a field fits the field. -/
theorem BarAcc.bits_lt (w : BarAcc) (f : Fld) : w.bits f < 2 ^ f.width :=
  lt_of_le_of_lt Nat.and_le_left (Nat.mod_lt _ (Nat.two_pow_pos _))

theorem queueSetHead_taken {n : Fin 65536} {j : Nat} {w : BarAcc} {s : State} (hr : Reaches s .HUB_Q_CTRL n w j)
    (hres : w.bits F.HUB_Q_CTRL_resume = 1) (hh : s.get F.HUB_Q_STAT_state j = 2) (hs : s.stopActive = false)
    (hset : w.bits F.HUB_Q_CTRL_set_head = 1) (hfit : s.headFits j (w.bits F.HUB_Q_CTRL_new_head)) :
    Gives (.queueSetHead n w) s fun t =>
      t.get F.HUB_Q_STAT_state j = 1 ∧ t.get F.HUB_Q_STAT_head j = w.bits F.HUB_Q_CTRL_new_head ∧
      t = { s with regs := t.regs, queues := t.queues } ∧ KeepsRegs [F.HUB_Q_STAT_state.key j, F.HUB_Q_STAT_head.key j] s t := by
  refine ⟨_, (exec_queueSetHead hr hres hset hh hs).1 hfit, ?_⟩
  let u := (s.setQueue j { s.queue j with ents := (s.queue j).ents.filter (fun e => e.phase != .fetched), reading := none }).put
    F.HUB_Q_STAT_head (w.bits F.HUB_Q_CTRL_new_head) j
  have halted : u.get F.HUB_Q_STAT_state j = 2 := by
    simp (disch := decide) only [u, State.put_get_apart, State.setQueue_get, hh]
  have running : u.stopActive = false := by
    rw [← hs, State.stopActive, State.stopActive]
    simp (disch := decide) only [u, State.put_get_apart, State.setQueue_get]
  have resumed := State.resumeQueue_of_halted halted running
  rw [resumed]
  have head : w.bits F.HUB_Q_CTRL_new_head % 2 ^ 16 = w.bits F.HUB_Q_CTRL_new_head := Nat.mod_eq_of_lt (w.bits_lt _)
  have keeps : OnlyRegs [F.HUB_Q_STAT_state.key j, F.HUB_Q_STAT_head.key j] s
      ((s.put F.HUB_Q_STAT_head (w.bits F.HUB_Q_CTRL_new_head) j).put F.HUB_Q_STAT_state 1 j) :=
    ((s.put_onlyRegs _ _ _).mono (by simp)).trans ((State.put_onlyRegs _ _ _ _).mono (by simp))
  refine ⟨?_, ?_, rfl, keeps.2⟩
  · rw [State.setQueue_get, State.put_get_same]
    rfl
  · simp (disch := decide) only [u, State.setQueue_get, State.put_get_apart, State.put_get_same]
    exact head

/-- Head h lies within the records posted and not yet returned. -/
def State.returnFits (s : State) (j h : Nat) : Prop :=
  h < s.cqSize j ∧ ringDist (s.cqSize j) (s.get F.HUB_CQ_STAT_head j) h ≤
    ringDist (s.cqSize j) (s.get F.HUB_CQ_STAT_head j) (s.get F.HUB_CQ_STAT_position j)

theorem State.badAccess_onlyRegs (s : State) : OnlyRegs [F.HUB_SETUP_LOCK_bad_accesses.key 0] s s.badAccess := s.put_onlyRegs _ _ _

theorem exec_cqHeadWrite {n : Fin 65536} {j : Nat} {w : BarAcc} {s : State} (hp : s.boot.phase = .ready) (hup : s.hubUp = true)
    (ho : w.off = 8) (hj : s.ringIx w.fn n = some j) :
    (w.size ≠ 8 ∨ ¬ s.returnFits j (w.value.toNat % 2 ^ 16) → exec (.cqHeadWrite n w) s = .next s.badAccess) ∧
    (w.size = 8 → s.returnFits j (w.value.toNat % 2 ^ 16) → exec (.cqHeadWrite n w) s = .next (
      (s.put F.HUB_CQ_STAT_head (w.value.toNat % 2 ^ 16) j).setRing j
        (if w.value.toNat % 2 ^ 16 = s.get F.HUB_CQ_STAT_head j then s.ring j else { s.ring j with stalledSince := 0 }))) := by
  have shape : exec (.cqHeadWrite n w) s = .next (if w.size != 8 then s.badAccess else
      if w.value.toNat % 2 ^ 16 < s.cqSize j ∧ ringDist (s.cqSize j) (s.get F.HUB_CQ_STAT_head j) (w.value.toNat % 2 ^ 16) ≤
        ringDist (s.cqSize j) (s.get F.HUB_CQ_STAT_head j) (s.get F.HUB_CQ_STAT_position j)
      then (s.put F.HUB_CQ_STAT_head (w.value.toNat % 2 ^ 16) j).setRing j
        (if w.value.toNat % 2 ^ 16 = s.get F.HUB_CQ_STAT_head j then s.ring j else { s.ring j with stalledSince := 0 })
      else s.badAccess) := by
    change execCqHeadWrite n w s = _
    simp [execCqHeadWrite, hp, hup, ho, hj]
  rw [shape]
  constructor
  · rintro (h | h)
    · rw [if_pos (by simpa using h)]
    · rw [if_neg (c := _ ∧ _) h, ite_self]
  · intro hs h
    rw [if_neg (by simp [hs]), if_pos (c := _ ∧ _) h]

theorem cqHeadWrite_taken {n : Fin 65536} {j : Nat} {w : BarAcc} {s : State} (hp : s.boot.phase = .ready) (hup : s.hubUp = true)
    (ho : w.off = 8) (hs : w.size = 8) (hj : s.ringIx w.fn n = some j) (hfit : s.returnFits j (w.value.toNat % 2 ^ 16)) :
    Gives (.cqHeadWrite n w) s fun t => t.get F.HUB_CQ_STAT_head j = w.value.toNat % 2 ^ 16 ∧
      t = { s with regs := t.regs, rings := t.rings } ∧ KeepsRegs [F.HUB_CQ_STAT_head.key j] s t := by
  refine ⟨_, (exec_cqHeadWrite hp hup ho hj).2 hs hfit, ?_, rfl, (s.put_onlyRegs F.HUB_CQ_STAT_head _ j).2⟩
  rw [State.setRing_get, State.put_get_same]
  exact Nat.mod_mod _ _

/-! ## The statement -/

/-- Settles O8: each row reaches one operation on its queue or ring, and the operation writes the listed fields alone. -/
theorem queueControl : Obligations.QueueControl := by
  unfold Obligations.QueueControl
  refine ⟨⟨fun n j w s hr he ha => ⟨queueEnable_refused hr he ha, queueEnable_accepted hr he ha⟩,
      fun n j w s hr he ha => ⟨cqEnable_refused hr he ha, cqEnable_accepted hr he ha⟩⟩,
    ⟨fun n j w s hr he ht ha => queueDisable_gives hr he ht ha,
      fun n j w s hr he ht ha => ⟨_, exec_cqDisable hr he ht ha, State.put_get_same _ _ _ _, s.put_onlyRegs _ _ _⟩⟩,
    fun n w s => ⟨doorbell_early n w, fun hp hup ho hs j hj hv => ?_⟩,
    ⟨fun n j w s hr hres hh hs => ⟨queueResume_gives hr hres hh hs, fun hset =>
      ⟨queueSetHead_taken hr hres hh hs hset, (exec_queueSetHead hr hres hset hh hs).2⟩⟩, ?_, ?_⟩⟩
  · have bell := exec_doorbell hp hup ho hs hj hv
    refine ⟨fun ht => ?_, fun ht hfit => ⟨_, ?_, newTail_taken hv hfit⟩, fun ht hno => ⟨_, ?_, newTail_overrun hno⟩⟩
    · rw [bell, ht, if_neg (by decide)]
    · rw [bell, if_pos ht]
    · rw [bell, if_pos ht]
  · exact fun n j w s hp hup ho hs hj => ⟨cqHeadWrite_taken hp hup ho hs hj,
      fun hno => ⟨_, (exec_cqHeadWrite hp hup ho hj).1 (.inr hno), s.badAccess_onlyRegs⟩⟩
  · exact fun n j w s hp hup ho hs hj => ⟨_, (exec_cqHeadWrite hp hup ho hj).1 (.inl hs), s.badAccess_onlyRegs⟩

end Sys2Proof.Machine

/-! SUPPORT. What units and resets leave alone: the always-on control — device time, bring-up, the control of resets, and the status
registers of boot, feeds and resets (R28, R31, R338, R348, R427). -/

namespace Sys2Proof.Machine

/-! ## Reads of a filtered register store -/

/-- A filter that keeps every entry of key k reads the same there. -/
theorem get_filter_of_keeps {α : Type} (d : α) (m : SMap α) (p : Nat × α → Bool) {k : Nat} (hp : ∀ x, p (k, x) = true) :
    SMap.get d (m.filter p) k = SMap.get d m k := by
  induction m with
  | nil => rfl
  | cons e m ih =>
    obtain ⟨k', x⟩ := e
    by_cases h : k = k'
    · subst h
      simp [SMap.get, hp]
    · rw [List.filter_cons]
      split <;> simp [SMap.get, h, ih]

/-- A filter that drops key k does not see a write there, whatever the list's form. -/
theorem filter_set_of_drops {α : Type} [DecidableEq α] (d v : α) (m : SMap α) (p : Nat × α → Bool) {k : Nat}
    (hp : ∀ x, p (k, x) = false) : (SMap.set d m k v).filter p = m.filter p := by
  rw [← List.filterMap_eq_filter]
  exact filterMap_set_of_none _ (fun x => by simp [Option.guard, hp x]) m d v

theorem filter_insert_of_drops {α : Type} (v : α) (m : SMap α) (p : Nat × α → Bool) {k : Nat} (hp : ∀ x, p (k, x) = false) :
    (SMap.insert m k v).filter p = m.filter p := by
  rw [← List.filterMap_eq_filter]
  exact filterMap_insert_of_none _ (fun x => by simp [Option.guard, hp x]) m v

/-! ## Runs of steps that each leave a reading alone -/

theorem foldl_keeps {α β : Type} (P : State → β) {f : State → α → State} (h : ∀ s a, P (f s a) = P s) (l : List α) (s : State) :
    P (l.foldl f s) = P s := by
  induction l generalizing s with
  | nil => rfl
  | cons a l ih => rw [List.foldl_cons, ih, h]

/-! ## The always-on control -/

/-- The status registers that work at the units leaves alone: boot, the feeds' readings, and resets but for their event. -/
def ctlCodes : List Nat :=
  [F.HUB_BOOT_STATUS_ready, F.HUB_BOOT_STATUS_hold, F.HUB_BOOT_STATUS_step, F.HUB_BOOT_STATUS_cause, F.HUB_BOOT_STATUS_cause_unit,
   F.PWR_FEED_STAT_feed_a, F.PWR_FEED_STAT_feed_b, F.HUB_RESET_STAT_state, F.HUB_RESET_STAT_last_kind, F.HUB_RESET_STAT_last_result,
   F.HUB_RESET_STAT_flush_incomplete, F.HUB_RESET_STAT_last_target, F.HUB_RESET_STAT_epoch].map Fld.code

/-- The entries of the control's status registers. -/
def ctlRegs (m : SMap Nat) : SMap Nat := m.filter fun e => ctlCodes.contains (e.1 % 1024)

/-- Device time, bring-up, the control of resets, and the control's status registers. -/
def State.ctl (s : State) : Nat × Boot × ResetCtl × SMap Nat := (s.time, s.boot, s.rst, ctlRegs s.regs)

theorem Fld.key_mod {f : Fld} (h : f.code < 1024) (i : Nat) : f.key i % 1024 = f.code := by
  rw [Fld.key]
  omega

theorem lt_of_mem_ctlCodes {c : Nat} (h : c ∈ ctlCodes) : c < 1024 :=
  (by decide : ∀ c ∈ ctlCodes, c < 1024) c h

/-- The field is none of the control's. -/
def Fld.offCtl (f : Fld) : Bool := decide (f.code < 1024) && !ctlCodes.contains f.code

theorem Fld.offCtl_iff {f : Fld} : f.offCtl = true ↔ f.code < 1024 ∧ f.code ∉ ctlCodes := by
  simp [Fld.offCtl]



section
variable {s t : State} (h : t.ctl = s.ctl)
include h

theorem time_of_ctl : t.time = s.time := congrArg (·.1) h

theorem boot_of_ctl : t.boot = s.boot := congrArg (·.2.1) h

theorem rst_of_ctl : t.rst = s.rst := congrArg (·.2.2.1) h

/-- Where the control is kept, its status registers read the same. -/
theorem get_of_ctl {f : Fld} (hf : f.code ∈ ctlCodes) (i : Nat) : t.get f i = s.get f i := by
  have held : ∀ x : Nat, ctlCodes.contains ((f.key i, x).1 % 1024) = true := fun x => by
    simpa [Fld.key_mod (lt_of_mem_ctlCodes hf) i] using hf
  have regs : ctlRegs t.regs = ctlRegs s.regs := congrArg (·.2.2.2) h
  rw [State.get, State.get, ← get_filter_of_keeps _ t.regs (fun e => ctlCodes.contains (e.1 % 1024)) held,
    ← get_filter_of_keeps _ s.regs (fun e => ctlCodes.contains (e.1 % 1024)) held]
  exact congrArg (fun m => SMap.get f.reset m (f.key i)) regs

end

theorem putField_ctlRegs (m : SMap Nat) {f : Fld} (hf : f.offCtl = true) (v i : Nat) : ctlRegs (putField m f v i) = ctlRegs m := by
  obtain ⟨hc, hn⟩ := Fld.offCtl_iff.1 hf
  exact filter_set_of_drops _ _ _ _ fun x => by simpa [Fld.key_mod hc i] using hn

theorem State.put_ctl (s : State) {f : Fld} (hf : f.offCtl = true) (v i : Nat) : (s.put f v i).ctl = s.ctl := by
  simp only [State.ctl, State.put, putField_ctlRegs _ hf]

theorem State.putB_ctl (s : State) {f : Fld} (hf : f.offCtl = true) (b : Bool) (i : Nat) : (s.putB f b i).ctl = s.ctl := s.put_ctl hf _ i

theorem State.bump_ctl (s : State) {f : Fld} (hf : f.offCtl = true) (n i : Nat) : (s.bump f n i).ctl = s.ctl := s.put_ctl hf _ i

end Sys2Proof.Machine

/-! SUPPORT. Ending work at the units — descriptors, launches, graphs, copies, collectives, fabric operations — leaves the always-on
control alone (R303, R329, R339, R344, R346). -/

namespace Sys2Proof.Machine

variable (s : State)

/-- A step that does one of two things leaves the control alone where both do. -/
theorem ctl_ite {c : Prop} [Decidable c] {s a b : State} (ha : a.ctl = s.ctl) (hb : b.ctl = s.ctl) :
    (if c then a else b).ctl = s.ctl := by
  split
  · exact ha
  · exact hb

/-! ## Outputs, the log, ports -/

@[simp] theorem State.emit_ctl (o : Out) : (s.emit o).ctl = s.ctl := by
  obtain ⟨l, h⟩ := s.emit_eq o
  rw [h]
  rfl

@[simp] theorem State.logPut_ctl (b : LogBody) : (s.logPut b).ctl = s.ctl := by
  unfold State.logPut
  split
  · exact (State.put_ctl _ (by decide) _ _).trans ((State.put_ctl _ (by decide) _ _).trans rfl)
  · exact s.bump_ctl (by decide) _ _

@[simp] theorem State.logEvent_ctl (code unit : Nat) (args : List Nat) : (s.logEvent code unit args).ctl = s.ctl := s.logPut_ctl _

@[simp] theorem State.pldm_ctl (e : PldmEvent) : (s.pldm e).ctl = s.ctl := by
  unfold State.pldm
  split <;> exact (State.emit_ctl _ _).trans rfl

@[simp] theorem State.tx_ctl (p : Nat) (o : Out) : (s.tx p o).ctl = s.ctl := by
  obtain ⟨ps, l, h⟩ := s.tx_eq p o
  rw [h]
  rfl

/-! ## Work, launches, engines -/

@[simp] theorem State.finish_ctl (w : Work) (st : Status) (d : Nat) : (s.finish w st d).ctl = s.ctl := by
  obtain ⟨q, g, h⟩ := s.finish_eq w st d
  rw [h]
  rfl

@[simp] theorem State.settleLaunch_ctl (id : Nat) : (s.settleLaunch id).ctl = s.ctl := by
  unfold State.settleLaunch
  split
  · rfl
  · split
    · exact (State.finish_ctl _ _ _ _).trans rfl
    · rfl

@[simp] theorem State.endQuad_ctl (q id : Nat) (st : Status) : (s.endQuad q id st).ctl = s.ctl :=
  (State.settleLaunch_ctl _ _).trans (State.put_ctl _ (by decide) _ _)

@[simp] theorem State.showSuspects_ctl (e : Nat) (xs : List Nat) : (s.showSuspects e xs).ctl = s.ctl := by
  refine foldl_keeps State.ctl (fun s k => ?_) _ s
  split <;> exact (State.put_ctl _ (by decide) _ _).trans (State.put_ctl _ (by decide) _ _)

@[simp] theorem State.setEng_ctl (e : Nat) (v : Eng) : (s.setEng e v).ctl = s.ctl := by
  unfold State.setEng
  simp (disch := decide) only [State.showSuspects_ctl, State.put_ctl, State.putB_ctl]
  rfl

@[simp] theorem State.engWaiting_ctl (e : Nat) (b : Bool) : (s.engWaiting e b).ctl = s.ctl := s.putB_ctl (by decide) _ _

@[simp] theorem State.engRelease_ctl (e x : Nat) : (s.engRelease e x).ctl = s.ctl := s.setEng_ctl _ _

@[simp] theorem State.engAdvance_ctl (e n : Nat) : (s.engAdvance e n).ctl = s.ctl := by
  have counted := s.put_ctl (f := F.HUB_PROGRESS_count) (by decide) (s.get F.HUB_PROGRESS_count e + n) e
  exact ctl_ite counted ((State.setEng_ctl _ _ _).trans counted)

@[simp] theorem State.engReset_ctl (e : Nat) : (s.engReset e).ctl = s.ctl := (State.engWaiting_ctl _ _ _).trans (s.setEng_ctl _ _)

/-! ## Sequencers, arrays, graphs -/

@[simp] theorem State.setSeq_ctl (q : Nat) (v : Seq) : (s.setSeq q v).ctl = s.ctl := rfl

@[simp] theorem State.setFab_ctl (f : Fabric) : (s.setFab f).ctl = s.ctl := rfl

@[simp] theorem State.setGraph_ctl (g : Nat) (v : GSlot) : (s.setGraph g v).ctl = s.ctl := rfl

@[simp] theorem State.setSess_ctl (k : Nat) (v : ColSession) : (s.setSess k v).ctl = s.ctl := rfl

@[simp] theorem State.showSeq_ctl (q : Nat) : (s.showSeq q).ctl = s.ctl := by
  unfold State.showSeq
  simp (disch := decide) only [State.engWaiting_ctl, State.put_ctl]

@[simp] theorem State.cause_ctl (q : Nat) (st : Status) : (s.cause q st).ctl = s.ctl := by
  unfold State.cause
  dsimp only
  split <;> rfl

@[simp] theorem State.arraysReset_ctl (q : Nat) : (s.arraysReset q).ctl = s.ctl := by
  have stat : ∀ (s : State) (k : Nat), (arrayStat.foldl (fun s f => s.put f f.reset (64 * q + k)) s).ctl = s.ctl := by
    intro s k
    simp (disch := decide) only [arrayStat, List.foldl_cons, List.foldl_nil, State.put_ctl]
  exact (foldl_keeps State.ctl stat _ _).trans rfl

@[simp] theorem State.launchStop_ctl (id : Nat) (st : Status) : (s.launchStop id st).ctl = s.ctl := by
  unfold State.launchStop
  split
  · rfl
  · refine (State.settleLaunch_ctl _ _).trans ((foldl_keeps State.ctl (fun s q => ?_) _ _).trans rfl)
    exact (State.showSeq_ctl _ _).trans rfl

@[simp] theorem State.showGraph_ctl (g : Nat) : (s.showGraph g).ctl = s.ctl := by
  unfold State.showGraph
  dsimp only
  split <;> simp (disch := decide) only [State.put_ctl]

@[simp] theorem State.graphStatus_ctl (g : Nat) (st : Status) (node : Nat) : (s.graphStatus g st node).ctl = s.ctl :=
  (State.put_ctl _ (by decide) _ _).trans (s.put_ctl (by decide) _ _)

@[simp] theorem State.settleGraph_ctl (g : Nat) : (s.settleGraph g).ctl = s.ctl := by
  cases hw : (s.graph g).work with
  | none => simp only [State.settleGraph, hw]
  | some w =>
    simp only [State.settleGraph, hw]
    refine ctl_ite (s.showGraph_ctl g) ?_
    simp only [State.engRelease_ctl, State.finish_ctl, State.showGraph_ctl, State.graphStatus_ctl]
    split <;> simp (disch := decide) only [State.put_ctl, State.setGraph_ctl]

@[simp] theorem State.graphStop_ctl (w : Work) (st : Status) : (s.graphStop w st).ctl = s.ctl := by
  refine foldl_keeps State.ctl (fun s g => ?_) _ s
  dsimp only
  split
  · rfl
  · exact (State.settleGraph_ctl _ _).trans ((foldl_keeps State.ctl (fun s l => s.launchStop_ctl _ _) _ _).trans rfl)

/-! ## Fabric operations -/

@[simp] theorem State.winFail_ctl (q : Nat) (o : FabOp) (pos : Nat) (st : Status) : (s.winFail q o pos st).ctl = s.ctl := by
  exact ctl_ite rfl ((State.logEvent_ctl _ _ _ _).trans rfl)

@[simp] theorem State.streamData_ctl (i id : Nat) (bytes : List Byte) (bad : List Bool) : (s.streamData i id bytes bad).ctl = s.ctl := rfl

@[simp] theorem State.opStop_ctl (o : FabOp) (st : Status) : (s.opStop o st).ctl = s.ctl := rfl

@[simp] theorem State.opDrop_ctl (o : FabOp) : (s.opDrop o).ctl = s.ctl := rfl

/-- The record of a failure through the board window, where there is one. -/
theorem State.winFail_of_fail_ctl (q : Nat) (o : FabOp) (fail : Option (Nat × Result)) :
    (match fail with | some f => s.winFail q o f.1 f.2.status | none => s).ctl = s.ctl := by
  cases fail
  · rfl
  · exact s.winFail_ctl _ _ _ _

@[simp] theorem State.endOp_ctl (o : FabOp) : (s.endOp o).ctl = s.ctl := by
  unfold State.endOp
  dsimp only
  split
  · rfl
  · split
    case h_1 => exact (State.finish_ctl _ _ _ _).trans rfl
    case h_2 =>
      simp only [State.engRelease_ctl, State.engAdvance_ctl, State.finish_ctl, State.setFab_ctl]
    case h_3 =>
      refine (State.winFail_of_fail_ctl _ _ _ _).trans ?_
      exact ctl_ite rfl ((State.cause_ctl _ _ _).trans rfl)
    case h_4 =>
      exact ctl_ite (State.winFail_of_fail_ctl _ _ _ _) (State.winFail_of_fail_ctl _ _ _ _)
    case h_5 =>
      refine (State.streamData_ctl _ _ _ _ _).trans ?_
      split
      · exact (State.winFail_ctl _ _ _ _ _).trans (State.cause_ctl _ _ _)
      · rfl
    case h_6 => rfl
    case h_7 => rfl
    case h_8 => exact (State.emit_ctl _ _).trans rfl

@[simp] theorem State.settleOps_ctl : s.settleOps.ctl = s.ctl := by
  refine foldl_keeps State.ctl (fun s id => ?_) _ s
  split
  · rfl
  · split
    · exact s.endOp_ctl _
    · rfl

@[simp] theorem State.opCut_ctl (o : FabOp) (st : Status) (stop : Bool) : (s.opCut o st stop).ctl = s.ctl := by
  unfold State.opCut
  split
  · rfl
  · split
    · rfl
    · split <;> rfl

/-! ## Collectives -/

@[simp] theorem State.addPool_ctl (n : Int) : (s.addPool n).ctl = s.ctl := s.put_ctl (by decide) _ _

@[simp] theorem State.setSessState_ctl (k v : Nat) : (s.setSessState k v).ctl = s.ctl := s.put_ctl (by decide) _ _

@[simp] theorem State.idleSession_ctl (k : Nat) : (s.idleSession k).ctl = s.ctl := by
  refine (State.setSessState_ctl _ _ _).trans ((State.setSess_ctl _ _ _).trans ?_)
  exact (foldl_keeps State.ctl (fun s r => s.finish_ctl _ _ _) _ _).trans (s.addPool_ctl _)

@[simp] theorem State.failSetup_ctl (k : Nat) (st : Status) : (s.failSetup k st).ctl = s.ctl := by
  unfold State.failSetup
  refine (State.idleSession_ctl _ _).trans ?_
  split
  · exact s.finish_ctl _ _ _
  · rfl

@[simp] theorem State.memWrite_ctl (a : Nat) (bs : List Byte) : (s.memWrite a bs).1.ctl = s.ctl := by
  obtain ⟨m, r, h⟩ := s.memWrite_eq a bs
  rw [h]
  rfl

@[simp] theorem State.scrambleDst_ctl (r : ColRun) : (s.scrambleDst r).ctl = s.ctl := by
  unfold State.scrambleDst
  split
  · rfl
  · exact (State.memWrite_ctl _ _ _).trans rfl

@[simp] theorem State.endRun_ctl (k : Nat) (st : Status) : (s.endRun k st).ctl = s.ctl := by
  unfold State.endRun
  dsimp only
  split
  · rfl
  · simp only [State.setSessState_ctl]
    split <;> simp only [State.scrambleDst_ctl, State.engRelease_ctl, State.finish_ctl, State.setSess_ctl]

@[simp] theorem State.breakSession_ctl (k cause node : Nat) (st : Status) : (s.breakSession k cause node st).ctl = s.ctl := by
  have waiters : ∀ (l : List ColRun), (l.foldl (fun s r => s.finish r.work .ePeerLost 0) (s.endRun k st)).ctl = s.ctl := fun l =>
    (foldl_keeps State.ctl (fun s r => s.finish_ctl _ _ _) l _).trans (s.endRun_ctl k st)
  unfold State.breakSession
  refine (State.setSessState_ctl _ _ _).trans ((State.put_ctl _ (by decide) _ _).trans ?_)
  cases hx : ((s.endRun k st).sess k).setup with
  | none =>
    have rest := waiters ((s.endRun k st).sess k).waiting
    exact ctl_ite ((State.put_ctl _ (by decide) _ _).trans ((State.put_ctl _ (by decide) _ _).trans rest)) rest
  | some w =>
    have rest := (State.finish_ctl _ w .ePeerLost 0).trans (waiters ((s.endRun k st).sess k).waiting)
    exact ctl_ite ((State.put_ctl _ (by decide) _ _).trans ((State.put_ctl _ (by decide) _ _).trans rest)) rest

@[simp] theorem State.colSend_ctl (k tree seq : Nat) (p : ColPacket) : (s.colSend k tree seq p).ctl = s.ctl := by
  unfold State.colSend
  dsimp only
  split
  · rfl
  · exact s.tx_ctl _ _

@[simp] theorem State.sendAborts_ctl (k cause : Nat) (except : Option Nat) : (s.sendAborts k cause except).ctl = s.ctl := by
  refine foldl_keeps State.ctl (fun s n => ?_) _ s
  split
  · rfl
  · exact s.colSend_ctl _ _ _ _

@[simp] theorem State.abandon_ctl (k cause node : Nat) (st : Status) : (s.abandon k cause node st).ctl = s.ctl :=
  (State.breakSession_ctl _ _ _ _ _).trans (s.sendAborts_ctl _ _ _)

@[simp] theorem State.colCut_ctl (w : Work) (st : Status) (stop : Bool) : (s.colCut w st stop).ctl = s.ctl := by
  refine (State.finish_ctl _ _ _ _).trans (foldl_keeps State.ctl (fun s k => ?_) _ s)
  dsimp only
  split
  · exact s.failSetup_ctl k st
  · split
    · split
      · exact s.abandon_ctl _ _ _ _
      · exact s.endRun_ctl k st
    · rfl

/-! ## A configuration commit and a reflection binding -/

/-- A bank put in a unit's place writes keys of that unit's fields alone. -/
theorem ctlRegs_putBank (m b : SMap Nat) {cs : List Nat} (hcs : ∀ c ∈ cs, c ∉ ctlCodes) (hb : ∀ e ∈ b, e.1 % 1024 ∈ cs) :
    ctlRegs (putBank m cs 0 b) = ctlRegs m := by
  induction b with
  | nil =>
    simp only [putBank, List.foldr_nil, ctlRegs, SMap.drop, List.filter_filter]
    refine List.filter_congr fun e _ => ?_
    by_cases he : e.1 % 1024 ∈ ctlCodes
    · have : e.1 % 1024 ∉ cs := fun hc => hcs _ hc he
      simp [bankKey, this]
    · simp [he]
  | cons e b ih =>
    obtain ⟨he, hb⟩ := List.forall_mem_cons.1 hb
    exact (filter_insert_of_drops _ _ _ fun x => by simpa using hcs _ he).trans (ih hb)

/-- A bank taken from the live registers or their shadows holds keys of the unit's fields alone. -/
theorem takeBank_keys (m : SMap Nat) {cs : List Nat} {off : Nat} (ho : off < 1024) : ∀ e ∈ takeBank m cs off, e.1 % 1024 ∈ cs := by
  intro e he
  simp only [takeBank, List.mem_map, List.mem_filter, bankKey, Bool.and_eq_true, decide_eq_true_eq, List.contains_iff_mem] at he
  obtain ⟨x, ⟨-, hoff, hx⟩, rfl⟩ := he
  have : (x.1 - off) % 1024 = x.1 % 1024 - off := by omega
  rwa [this]

@[simp] theorem State.commitReset_ctl : s.commitReset.ctl = s.ctl := by
  have unit6 : ∀ c ∈ unitCodes 6, c ∉ ctlCodes := by decide
  have live (b : SMap Nat) (hb : ∀ e ∈ b, e.1 % 1024 ∈ unitCodes 6) : (s.setLive 6 b).ctl = s.ctl := by
    simp only [State.ctl, State.setLive, ctlRegs_putBank _ _ unit6 hb]
  have ends (u : State) (rev : Bool) (c : Commit) (hu : u.ctl = s.ctl) :
      State.ctl { (u.put F.HUB_CFG_STATUS_state 2 0).putB F.HUB_CFG_STATUS_from_revert rev 0 with commit := c } = s.ctl :=
    (State.putB_ctl (u.put _ _ _) (f := F.HUB_CFG_STATUS_from_revert) (by decide) rev 0).trans ((u.put_ctl (by decide) _ _).trans hu)
  refine ctl_ite rfl (ends _ _ _ ?_)
  split
  · rfl
  · refine (State.put_ctl _ (by decide) _ _).trans (ctl_ite (live _ ?_) rfl)
    split <;> exact takeBank_keys _ (by decide)

@[simp] theorem State.failBind_ctl (st : Status) : (s.failBind st).ctl = s.ctl := by
  unfold State.failBind
  refine (State.put_ctl _ (by decide) _ _).trans ((State.put_ctl _ (by decide) _ _).trans ?_)
  split
  · exact s.finish_ctl _ _ _
  · rfl

/-! ## Everything open -/

@[simp] theorem State.endOpen_ctl (w : Work) (st : Status) (stop : Bool) : (s.endOpen w st stop).ctl = s.ctl := by
  unfold State.endOpen
  split
  · rfl
  · split_ifs
    · rfl
    · exact s.finish_ctl _ _ _
    · exact foldl_keeps State.ctl (fun s l => s.launchStop_ctl _ _) _ s
    · exact s.graphStop_ctl w st
    · exact (State.settleOps_ctl _).trans (foldl_keeps State.ctl (fun s o => s.opStop_ctl _ _) _ s)
    · exact s.colCut_ctl w st stop
    · exact (State.settleOps_ctl _).trans (foldl_keeps State.ctl (fun s o => s.opCut_ctl _ _ _) _ s)
    · exact (State.finish_ctl _ _ _ _).trans s.commitReset_ctl
    · exact s.failBind_ctl st
    · exact s.finish_ctl _ _ _

@[simp] theorem State.unabort_ctl (w : Work) : (s.unabort w).ctl = s.ctl := by
  cases w <;> rfl

@[simp] theorem State.endAll_ctl (st : Status) (stop : Bool) (p : Item → Bool) : (s.endAll st stop p).ctl = s.ctl := by
  refine foldl_keeps State.ctl (fun s w => ?_) _ s
  split
  · rfl
  · split
    · refine (State.endOpen_ctl _ _ _ _).trans ?_
      split
      · exact s.unabort_ctl w
      · rfl
    · rfl

@[simp] theorem State.quadReset_ctl (q : Nat) (st : Status) : (s.quadReset q st).ctl = s.ctl := by
  unfold State.quadReset
  simp only [State.engReset_ctl, State.showSeq_ctl, State.arraysReset_ctl, State.setSeq_ctl, State.settleOps_ctl]
  refine (foldl_keeps State.ctl (fun s o => s.opDrop_ctl o) _ _).trans ?_
  split
  · exact s.endQuad_ctl _ _ _
  · rfl

@[simp] theorem State.quadsReset_ctl (st : Status) : (s.quadsReset st).ctl = s.ctl :=
  foldl_keeps State.ctl (fun s q => s.quadReset_ctl q st) _ s

@[simp] theorem State.cutAll_ctl (st : Status) : (s.cutAll st).ctl = s.ctl :=
  foldl_keeps State.ctl (fun s _ => s.finish_ctl _ _ _) _ s

/-- What the quiesce left open is discarded; the control stays. -/
@[simp] theorem State.forceEnd_ctl : s.forceEnd.ctl = s.ctl :=
  (State.cutAll_ctl _ _).trans ((State.quadsReset_ctl _ _).trans (s.endAll_ctl _ _ _))

end Sys2Proof.Machine

/-! SUPPORT. Boot hold, the island's work and power-off (R28, R30, R31, R40, R41, R348, R427): what each leaves. -/

namespace Sys2Proof.Machine

variable (s : State)

/-! ## The log beside other registers -/

/-- The field is none that a log entry writes. -/
def Fld.offLog (f : Fld) : Bool :=
  decide (f.code < 1024) && !([F.TEL_LOG_STAT_newest, F.TEL_LOG_STAT_held, F.TEL_LOG_STAT_dropped].map Fld.code).contains f.code

/-- A log entry leaves every register field but the log's status as it reads. -/
theorem State.logPut_get (b : LogBody) {f : Fld} (hf : f.offLog = true) (i : Nat) : (s.logPut b).get f i = s.get f i := by
  simp only [Fld.offLog, Bool.and_eq_true, decide_eq_true_eq, Bool.not_eq_true', List.map_cons, List.map_nil, List.contains_eq_mem,
    decide_eq_false_iff_not, List.mem_cons, List.not_mem_nil, or_false, not_or] at hf
  obtain ⟨hc, hn, hh, hd⟩ := hf
  unfold State.logPut
  split
  · exact (State.put_get_apart _ (by decide) hc hh _ _ _).trans ((State.put_get_apart _ (by decide) hc hn _ _ _).trans rfl)
  · exact State.bump_get_apart _ (by decide) hc hd _ _ _

theorem State.logEvent_get (code unit : Nat) (args : List Nat) {f : Fld} (hf : f.offLog = true) (i : Nat) :
    (s.logEvent code unit args).get f i = s.get f i := s.logPut_get _ hf i

/-- A measurement that no log entry follows changes the measurements alone. -/
theorem State.measure_of_unlogged {i : Nat} (content : List Nat) (h6 : i ≠ 6) (h3 : i ≠ 3) (h5 : i ≠ 5) :
    s.measure i content = { s with mgmt := { s.mgmt with meas := SMap.set [] s.mgmt.meas i content } } := by
  simp [State.measure, h6, h3, h5]

/-! ## The package without its rails (R30) -/

@[simp] theorem State.clearPackage_ctl : s.clearPackage.ctl = s.ctl := rfl

@[simp] theorem State.darkenPorts_ctl : s.darkenPorts.ctl = s.ctl := by
  unfold State.darkenPorts
  refine foldl_keeps State.ctl (fun s p => ?_) _ s
  simp (disch := decide) only [State.setPortState, State.put_ctl]
  rfl

@[simp] theorem State.hostOff_ctl : s.hostOff.ctl = s.ctl := (State.put_ctl _ (by decide) _ _).trans rfl

@[simp] theorem State.clocksOff_ctl : s.clocksOff.ctl = s.ctl :=
  (foldl_keeps State.ctl (fun s c => s.put_ctl (by decide) _ c) _ _).trans rfl

/-- The package as boot hold leaves it: W0 keeps its rails and the host link where it may stay. -/
def State.unpowered (stay : Bool) : State :=
  if stay then s.clearPackage.darkenPorts.clocksOff else s.clearPackage.darkenPorts.clocksOff.hostOff

@[simp] theorem State.unpowered_ctl (stay : Bool) : (s.unpowered stay).ctl = s.ctl := by
  cases stay <;> simp [State.unpowered]

/-! ## Boot hold (R31) -/

/-- The bring-up part of a device in boot hold. -/
def Boot.held (b : Boot) (stay : Bool) (cause unit : Nat) (fails : List BootFail) : Boot :=
  { b with phase := .hold, rails := b.rails.filter (· == 0), w0Rails := stay, hostTrained := stay
           coolantWait := false, record := if fails.isEmpty then [⟨cause, unit⟩] else fails }

/-- The reset control of a device in boot hold: nothing runs, waits or is held. -/
def ResetCtl.held (r : ResetCtl) : ResetCtl :=
  { r with run := none, queue := [], absorbed := [], keepers := false, heldFailed := false, cycleWait := false
           shut := false, causeHeld := false, linkWait := false, ctxEnding := [], chain := [] }

variable (cause unit : Nat) (fails : List BootFail) (w0 : Bool)

/-- The status registers that boot hold writes: held, not ready, with cause and unit; no reset in progress. -/
def State.showHold (s : State) (cause unit : Nat) : State :=
  ((((s.put F.HUB_BOOT_STATUS_ready 0 0).put F.HUB_BOOT_STATUS_hold 1 0).put F.HUB_BOOT_STATUS_cause cause 0).put
    F.HUB_BOOT_STATUS_cause_unit unit 0).put F.HUB_RESET_STAT_state 0 0

theorem State.enterHold_eq : s.enterHold cause unit fails w0 =
    { s.unpowered (w0 && s.boot.hostTrained) with
      boot := s.boot.held (w0 && s.boot.hostTrained) cause unit fails, rst := s.rst.held }.showHold cause unit := by
  have shape : s.enterHold cause unit fails w0 =
      { s.unpowered (w0 && s.boot.hostTrained) with
        boot := (s.unpowered (w0 && s.boot.hostTrained)).boot.held (w0 && s.boot.hostTrained) cause unit fails
        rst := (s.unpowered (w0 && s.boot.hostTrained)).rst.held }.showHold cause unit := rfl
  rw [shape, boot_of_ctl (s.unpowered_ctl _), rst_of_ctl (s.unpowered_ctl _)]

@[simp] theorem State.enterHold_boot : (s.enterHold cause unit fails w0).boot =
    s.boot.held (w0 && s.boot.hostTrained) cause unit fails := by
  rw [s.enterHold_eq]
  rfl

@[simp] theorem State.enterHold_rst : (s.enterHold cause unit fails w0).rst = s.rst.held := by
  rw [s.enterHold_eq]
  rfl

@[simp] theorem State.enterHold_time : (s.enterHold cause unit fails w0).time = s.time := by
  rw [s.enterHold_eq]
  change (s.unpowered (w0 && s.boot.hostTrained)).time = s.time
  exact time_of_ctl (s.unpowered_ctl _)

/-- Boot hold shows its cause and unit, and that the device is held and not ready. -/
theorem State.enterHold_shows :
    (s.enterHold cause unit fails w0).get F.HUB_BOOT_STATUS_ready 0 = 0 ∧
    (s.enterHold cause unit fails w0).get F.HUB_BOOT_STATUS_hold 0 = 1 ∧
    (s.enterHold cause unit fails w0).get F.HUB_BOOT_STATUS_cause 0 = cause % 2 ^ F.HUB_BOOT_STATUS_cause.width ∧
    (s.enterHold cause unit fails w0).get F.HUB_BOOT_STATUS_cause_unit 0 = unit % 2 ^ F.HUB_BOOT_STATUS_cause_unit.width := by
  rw [s.enterHold_eq]
  refine ⟨?_, ?_, ?_, ?_⟩ <;> simp (disch := decide) only [State.showHold, State.put_get_apart, State.put_get_same] <;> rfl

/-- The control's registers that boot hold does not write read as before. -/
theorem State.enterHold_get {f : Fld} (hf : f.code ∈ ctlCodes)
    (hn : ∀ g ∈ [F.HUB_BOOT_STATUS_ready, F.HUB_BOOT_STATUS_hold, F.HUB_BOOT_STATUS_cause, F.HUB_BOOT_STATUS_cause_unit,
      F.HUB_RESET_STAT_state], f.code ≠ g.code) (i : Nat) : (s.enterHold cause unit fails w0).get f i = s.get f i := by
  have hf' : f.code < 1024 := lt_of_mem_ctlCodes hf
  simp only [List.forall_mem_cons] at hn
  obtain ⟨h1, h2, h3, h4, h5, -⟩ := hn
  rw [s.enterHold_eq, State.showHold, State.put_get_apart _ (by decide) hf' h5, State.put_get_apart _ (by decide) hf' h4,
    State.put_get_apart _ (by decide) hf' h3, State.put_get_apart _ (by decide) hf' h2, State.put_get_apart _ (by decide) hf' h1]
  exact get_of_ctl (s.unpowered_ctl _) hf i

theorem State.hold_of_not_pending (h : s.boot.resetPending = false) : s.hold cause unit fails w0 = s.enterHold cause unit fails w0 := by
  unfold State.hold
  dsimp only
  rw [s.enterHold_boot]
  exact if_neg (by simp [Boot.held, h])

/-! ## The island's work (R47, R348) -/

/-- Storing the epoch touches the flash copies or the log. -/
@[simp] theorem State.storeEpoch_boot (e : Nat) (ok : Bool) : (s.storeEpoch e ok).boot = s.boot := by
  unfold State.storeEpoch
  split
  · exact boot_of_ctl (s.logEvent_ctl _ _ _)
  · rfl

@[simp] theorem State.advanceEpoch_boot (ok : Bool) : (s.advanceEpoch ok).boot = s.boot := by
  unfold State.advanceEpoch
  split
  · exact State.storeEpoch_boot _ _ _
  · exact (State.storeEpoch_boot _ _ _).trans ((boot_of_ctl (State.logEvent_ctl _ _ _ _)).trans rfl)

/-- The island with its calendar and slot pins read, before it looks at the epoch. -/
def State.islandOn (r : IslandRead) : State :=
  { s with cal := { s.cal with value := if r.vbatOk then r.calendar else {}, at_ := s.time }
           boot := { s.boot with island := true } }.put F.FAB_NODE_ID_slot r.slot 0

theorem State.islandWork_eq (r : IslandRead) : s.islandWork r =
    if s.boot.keepEpoch then { s.islandOn r with boot := { (s.islandOn r).boot with keepEpoch := false } }
    else (s.islandOn r).advanceEpoch r.flashOk := rfl

/-- Step 2's work starts the island; of bring-up's part only the note of a kept epoch goes. -/
theorem State.islandWork_boot (r : IslandRead) : (s.islandWork r).boot = { s.boot with island := true, keepEpoch := false } := by
  rw [s.islandWork_eq]
  cases hk : s.boot.keepEpoch with
  | true => rfl
  | false => rw [if_neg (by decide), State.advanceEpoch_boot, ← hk]; rfl

end Sys2Proof.Machine

/-! SUPPORT. Bring-up (R28, R34, R37, R38, R40, R427): feeds, steps 3 and 6, the limit of step 5, and the ways off. -/

namespace Sys2Proof.Machine

variable {s : State}

/-! ## Step 1 and boot hold for want of a feed (R427, Table 1.10b) -/

theorem exec_feedQualified {f : Feed} {va vb : Fin 8192} (hp : s.boot.phase = .off)
    (hv : 4800 ≤ (match f with | .A => va.val | .B => vb.val)) : exec (.feedQualified f va vb) s =
      .next (((s.put F.PWR_FEED_STAT_feed_a va 0).put F.PWR_FEED_STAT_feed_b vb 0).qualified f) := by
  change execFeedQualified f va vb s = _
  cases f <;> simp only [execFeedQualified, hp, true_or, if_true, if_neg (Nat.not_lt.2 hv)]

/-- Of the registers a qualified feed shows the feed in use and the step that opens. -/
theorem State.qualified_get (s : State) (f : Feed) (g : Fld) (i : Nat) :
    (s.qualified f).get g i = ((s.put F.PWR_STAT_feed f.code 0).put F.HUB_BOOT_STATUS_step 2 0).get g i := rfl

theorem RegsOnly.qualified {t : State} (h : RegsOnly s t) (f : Feed) : t.qualified f =
    { s with regs := (t.qualified f).regs, pwr := (t.qualified f).pwr, boot := (t.qualified f).boot } := by
  have frame : t.qualified f = { t with regs := (t.qualified f).regs, pwr := (t.qualified f).pwr, boot := (t.qualified f).boot } := rfl
  exact frame.trans (congrArg (fun x : State =>
    { x with regs := (t.qualified f).regs, pwr := (t.qualified f).pwr, boot := (t.qualified f).boot }) h)

theorem feed_mod (v : Fin 8192) : v.val % 2 ^ 13 = v.val := Nat.mod_eq_of_lt v.isLt

theorem feedQualified_gives {f : Feed} {va vb : Fin 8192} (hp : s.boot.phase = .off)
    (hv : 4800 ≤ (match f with | .A => va.val | .B => vb.val)) : Gives (.feedQualified f va vb) s fun t =>
      t.boot.phase = .bringup ∧ t.boot.done = [1] ∧ t.pwr.inUse = some f ∧ t.get F.PWR_FEED_STAT_feed_a 0 = va ∧
      t.get F.PWR_FEED_STAT_feed_b 0 = vb ∧ t.get F.HUB_BOOT_STATUS_step 0 = 2 ∧
      t = { s with regs := t.regs, pwr := t.pwr, boot := t.boot } := by
  refine ⟨_, exec_feedQualified hp hv, rfl, rfl, rfl, ?_⟩
  simp (disch := decide) only [State.qualified_get, State.put_get_apart, State.put_get_same]
  exact ⟨feed_mod va, feed_mod vb, rfl, (((RegsOnly.refl s).put _ _ _).put _ _ _).qualified f⟩

/-- The state that FEED_UNDERVOLT_HOLD puts in boot hold: the island's work done where it was off, the feeds' readings shown. -/
def State.undervolt (s : State) (r : IslandRead) (va vb : Fin 8192) : State :=
  (((if s.boot.phase = .off then s.islandWork r else s).put F.PWR_FEED_STAT_feed_a va 0).put F.PWR_FEED_STAT_feed_b vb 0).bootStep 1

theorem exec_feedUndervoltHold {r : IslandRead} {va vb : Fin 8192}
    (hp : s.boot.phase = .off ∨ (s.boot.phase = .bringup ∧ s.boot.done = [])) (hv : 4000 ≤ va.val ∨ 4000 ≤ vb.val) :
    exec (.feedUndervoltHold r va vb) s = .next ((s.undervolt r va vb).hold 0x01 0 [] false) := by
  change execFeedUndervoltHold r va vb s = _
  have low : ¬(va.val < 4000 ∧ vb.val < 4000) := by omega
  simp only [execFeedUndervoltHold, low, hp, decide_true, Bool.not_true, Bool.false_eq_true, or_self, if_false]
  rfl

/-- Of bring-up's part the island's work leaves all but the island itself and the note of a kept epoch. -/
theorem State.undervolt_boot (s : State) (r : IslandRead) (va vb : Fin 8192) :
    (s.undervolt r va vb).boot.resetPending = s.boot.resetPending ∧
    (s.undervolt r va vb).boot.island = (s.boot.island || decide (s.boot.phase = .off)) := by
  have boot : (s.undervolt r va vb).boot = (if s.boot.phase = .off then s.islandWork r else s).boot := rfl
  rw [boot]
  by_cases hp : s.boot.phase = .off
  · rw [if_pos hp, State.islandWork_boot]
    exact ⟨rfl, by simp [hp]⟩
  · rw [if_neg hp]
    exact ⟨rfl, by simp [hp]⟩

theorem feedUndervoltHold_gives {r : IslandRead} {va vb : Fin 8192}
    (hp : s.boot.phase = .off ∨ (s.boot.phase = .bringup ∧ s.boot.done = [])) (hv : 4000 ≤ va.val ∨ 4000 ≤ vb.val)
    (hr : s.boot.resetPending = false) : Gives (.feedUndervoltHold r va vb) s fun t =>
      t.boot.phase = .hold ∧ t.get F.HUB_BOOT_STATUS_hold 0 = 1 ∧ t.get F.HUB_BOOT_STATUS_cause 0 = 1 ∧
      t.get F.HUB_BOOT_STATUS_step 0 = 1 ∧ t.get F.PWR_FEED_STAT_feed_a 0 = va ∧ t.get F.PWR_FEED_STAT_feed_b 0 = vb ∧
      t.boot.island = (s.boot.island || decide (s.boot.phase = .off)) := by
  obtain ⟨pending, island⟩ := s.undervolt_boot r va vb
  refine ⟨_, by rw [exec_feedUndervoltHold hp hv, State.hold_of_not_pending _ _ _ _ _ (pending.trans hr)], ?_⟩
  obtain ⟨-, held, cause, -⟩ := (s.undervolt r va vb).enterHold_shows 0x01 0 [] false
  refine ⟨?_, held, cause, ?_, ?_, ?_, ?_⟩
  · rw [State.enterHold_boot]
    rfl
  · rw [State.enterHold_get _ _ _ _ _ (by decide) (by decide), State.undervolt, State.bootStep, State.put_get_same]
    rfl
  · rw [State.enterHold_get _ _ _ _ _ (by decide) (by decide), State.undervolt, State.bootStep]
    simp (disch := decide) only [State.put_get_apart, State.put_get_same]
    exact feed_mod va
  · rw [State.enterHold_get _ _ _ _ _ (by decide) (by decide), State.undervolt, State.bootStep]
    simp (disch := decide) only [State.put_get_apart, State.put_get_same]
    exact feed_mod vb
  · rw [State.enterHold_boot]
    exact island

/-! ## Steps 3 and 6 (R28, R34) -/

/-- The hub's rail is the one rail on. -/
def State.hubRailOn (s : State) : State := { s with boot := { s.boot with rails := [0] } }

theorem exec_stepDone_hubRail (ho : s.stepOpen 3 [2] = true) : exec (.bringupStepDone .hubRail) s =
    .next (((s.hubRailOn.measure 1 [Config.imageDigest 2]).markDone 3).bootStep 4) := by
  change execBringupStepDone .hubRail s = _
  simp only [execBringupStepDone, ho, if_true, State.hubRailOn]

theorem State.markDone_done {n : Nat} (h : s.boot.done.contains n = false) : (s.markDone n).boot.done = s.boot.done ++ [n] :=
  if_neg (by rw [h]; decide)

theorem stepDone_hubRail_gives (hp : s.boot.phase = .bringup) (hd : s.boot.done = [1, 2]) (hq : s.quiescing = false) :
    Gives (.bringupStepDone .hubRail) s fun t => t.boot = { s.boot with done := [1, 2, 3], rails := [0] } ∧
      t.get F.HUB_BOOT_STATUS_step 0 = 4 ∧ t.mem = s.mem ∧ t.time = s.time := by
  have isOpen : s.stepOpen 3 [2] = true := by simp [State.stepOpen, hp, hd, hq]
  refine ⟨_, exec_stepDone_hubRail isOpen, ?_⟩
  rw [State.measure_of_unlogged _ _ (by decide) (by decide) (by decide)]
  refine ⟨?_, State.put_get_same _ _ _ _, rfl, rfl⟩
  simp [State.bootStep, State.markDone, State.hubRailOn, hd]

theorem exec_stepDone_identity {r : IdentityRead} (ho : s.stepOpen 6 [5] = true) :
    exec (.bringupStepDone (.identity r)) s = .next (s.step6 r) := by
  change execBringupStepDone (.identity r) s = _
  simp only [execBringupStepDone, ho, if_true]

theorem State.stepOpen_iff {n : Nat} {deps : List Nat} : s.stepOpen n deps = true ↔
    s.boot.phase = .bringup ∧ s.quiescing = false ∧ s.boot.done.contains n = false ∧ deps.all (fun d => s.boot.done.contains d) = true := by
  simp [State.stepOpen, and_assoc]

/-- The matched-set ID as the identity checks read it. -/
def State.setIdRead (s : State) (id : Nat) : State := { s with boot := { s.boot with setId := id } }

theorem step6_passes {r : IdentityRead} (ho : s.stepOpen 6 [5] = true) (hi : identityFails r = []) :
    (s.step6 r).boot.setId = r.hubSet ∧ (s.step6 r).boot.done = s.boot.done ++ [6] ∧
    (s.step6 r).get F.HUB_BOOT_STATUS_step 0 = 7 ∧ (s.step6 r).boot.phase = .bringup := by
  obtain ⟨hp, -, hn, -⟩ := State.stepOpen_iff.1 ho
  have passed : s.step6 r = (((s.setIdRead r.hubSet).measure 4 [r.hubSet]).markDone 6).bootStep 7 := by
    simp only [State.step6, hi, State.setIdRead]
  rw [passed, State.measure_of_unlogged _ _ (by decide) (by decide) (by decide)]
  exact ⟨rfl, State.markDone_done hn, State.put_get_same _ _ _ _, hp⟩

theorem step6_fails {r : IdentityRead} {f : BootFail} {fs : List BootFail} (hr : s.boot.resetPending = false)
    (hi : identityFails r = f :: fs) :
    (s.step6 r).boot.phase = .hold ∧ (s.step6 r).get F.HUB_BOOT_STATUS_hold 0 = 1 ∧ (s.step6 r).get F.HUB_BOOT_STATUS_ready 0 = 0 ∧
    (s.step6 r).boot.record = f :: fs ∧ (s.step6 r).get F.HUB_BOOT_STATUS_cause 0 = f.cause % 2 ^ F.HUB_BOOT_STATUS_cause.width ∧
    (s.step6 r).get F.HUB_BOOT_STATUS_cause_unit 0 = f.unit % 2 ^ F.HUB_BOOT_STATUS_cause_unit.width := by
  have failed : s.step6 r = s.enterHold f.cause f.unit (f :: fs) (w0Passed (f :: fs)) := by
    rw [← State.hold_of_not_pending _ _ _ _ _ hr]
    simp only [State.step6, hi]
  obtain ⟨ready, held, cause, unit⟩ := s.enterHold_shows f.cause f.unit (f :: fs) (w0Passed (f :: fs))
  rw [failed, State.enterHold_boot]
  exact ⟨rfl, held, ready, rfl, cause, unit⟩

/-! ## The limit of step 5 (R37) -/

theorem exec_stepTimeout_rails {rail : Fin 7} (ho : s.step5Open = true) :
    exec (.bringupStepTimeout 5 rail) s = .next ((s.atLimit 5).hold 0x02 rail [] false) := by
  change execBringupStepTimeout 5 rail s = _
  have five : (5 : Fin 12).val = 5 := rfl
  simp only [execBringupStepTimeout, five, ho, if_true]

theorem State.atLimit_five {t0 : Nat} (hs : s.boot.shift = 0) (ht : s.boot.t0 = some (t0 : Int)) :
    s.atLimit 5 = s.due (t0 + 630000000) := by
  simp only [State.atLimit, hs, ne_eq, not_true_eq_false, false_and, if_false, ht]
  rfl

theorem stepTimeout_rails_gives {rail : Fin 7} {t0 : Nat} (ho : s.step5Open = true) (hs : s.boot.shift = 0)
    (ht : s.boot.t0 = some (t0 : Int)) (hr : s.boot.resetPending = false) : Gives (.bringupStepTimeout 5 rail) s fun t =>
      t.boot.phase = .hold ∧ t.get F.HUB_BOOT_STATUS_cause 0 = 2 ∧ t.get F.HUB_BOOT_STATUS_cause_unit 0 = rail ∧
      t0 + 630000000 ≤ t.time := by
  refine ⟨_, by rw [exec_stepTimeout_rails ho, State.atLimit_five hs ht, State.hold_of_not_pending _ _ _ _ _ (by exact hr)], ?_⟩
  obtain ⟨-, -, cause, unit⟩ := (s.due (t0 + 630000000)).enterHold_shows 0x02 rail [] false
  refine ⟨?_, cause, unit.trans (Nat.mod_eq_of_lt ?_), ?_⟩
  · rw [State.enterHold_boot]
    rfl
  · exact lt_trans rail.isLt (by decide)
  · rw [State.enterHold_time]
    exact le_max_right _ _

/-! ## The ways off (R40, R427) -/

/-- What a cancelled firmware update writes is none of the fuses' count. -/
theorem State.cancelUpdate_rollback (s : State) : s.cancelUpdate.get F.SEC_ROLLBACK_CTRL_count 0 = s.get F.SEC_ROLLBACK_CTRL_count 0 := by
  unfold State.cancelUpdate
  split
  · rw [State.logFw, State.logEvent_get _ _ _ _ (by decide), State.put_get_apart _ (by decide) (by decide) (by decide),
      State.setSlotValid, State.put_get_apart _ (by decide) (by decide) (by decide)]
    rfl
  · rfl

theorem State.powerOff_rollback (s : State) (latched : Bool) : (s.powerOff latched).get F.SEC_ROLLBACK_CTRL_count 0 =
    s.get F.SEC_ROLLBACK_CTRL_count 0 % 2 ^ F.SEC_ROLLBACK_CTRL_count.width := by
  have newest : F.SEC_ROLLBACK_CTRL_count.key 0 ≠ F.TEL_LOG_STAT_newest.key 0 := by decide
  change SMap.get _ s.offRegs _ = _
  simp only [State.offRegs, List.foldl_cons, List.foldl_nil, putField]
  rw [SMap.get_set_other _ _ _ _ newest]
  exact (SMap.get_set_same _ _ _ _).trans (congrArg (· % _) s.cancelUpdate_rollback)

theorem exec_bringupFeedLoss (hp : s.boot.phase = .bringup) : exec .bringupFeedLoss s = .next (s.powerOff false) := by
  change execBringupFeedLoss s = _
  rw [execBringupFeedLoss, if_pos (.inl hp)]

theorem exec_latchRelease (hp : s.boot.phase = .offLatched) :
    exec .latchRelease s = .next { s with boot := { s.boot with phase := .off } } := by
  change execLatchRelease s = _
  rw [execLatchRelease, if_pos hp]
  rfl

/-! ## The statement -/

/-- Settles O34: a step's end or a missed limit reaches the next step or boot hold, whose darkened package leaves the control's
registers, so cause, unit and readings stand as written. -/
theorem bringUp : Obligations.BringUp := by
  unfold Obligations.BringUp
  refine ⟨fun s f va vb => feedQualified_gives, fun s r va vb => feedUndervoltHold_gives, fun s => stepDone_hubRail_gives,
    fun s r ho hr => ⟨fun hi => ⟨_, exec_stepDone_identity ho, step6_passes ho hi⟩,
      fun f fs hi => ⟨_, exec_stepDone_identity ho, step6_fails hr hi⟩⟩,
    fun s rail t0 => stepTimeout_rails_gives, fun s hp => ?_, fun s => exec_latchRelease⟩
  exact ⟨_, exec_bringupFeedLoss hp, rfl, rfl, rfl, rfl, rfl, rfl, rfl, rfl, s.powerOff_rollback false⟩

end Sys2Proof.Machine

/-! SUPPORT. Resets (R339, R341, R346-R350): what the quiesce, the end of a reset, notices and the hub's clearing leave. -/

namespace Sys2Proof.Machine

variable (s : State)

/-! ## The hub's state through a chip reset (R338) -/

@[simp] theorem State.reflInterrupt_ctl : s.reflInterrupt.ctl = s.ctl :=
  ctl_ite rfl ((State.put_ctl _ (by decide) _ _).trans rfl)

@[simp] theorem State.setChState_ctl (i v : Nat) : (s.setChState i v).ctl = s.ctl := s.put_ctl (by decide) _ _

@[simp] theorem State.startRetrain_ctl (k : Nat) : (s.startRetrain k).ctl = s.ctl := by
  unfold State.startRetrain
  dsimp only
  split
  · rfl
  · split
    · rfl
    · exact ctl_ite ((State.setChState_ctl _ _ _).trans rfl) rfl

@[simp] theorem State.retrainsAfresh_ctl : s.retrainsAfresh.ctl = s.ctl := by
  unfold State.retrainsAfresh
  refine foldl_keeps State.ctl (fun s k => ?_) _ s
  dsimp only
  split
  · rfl
  · exact (State.startRetrain_ctl _ _).trans (ctl_ite ((State.setChState_ctl _ _ _).trans rfl) rfl)

@[simp] theorem State.cancelUpdate_ctl : s.cancelUpdate.ctl = s.ctl := by
  unfold State.cancelUpdate
  split
  · exact (State.logEvent_ctl _ _ _ _).trans ((State.put_ctl _ (by decide) _ _).trans ((State.put_ctl _ (by decide) _ _).trans rfl))
  · rfl

@[simp] theorem State.clearWork_ctl : s.clearWork.ctl = s.ctl := by
  have engines := foldl_keeps State.ctl (fun s e => s.engReset_ctl e) (List.range 30) s
  unfold State.clearWork
  generalize (List.range 30).foldl (fun s e => s.engReset e) s = u at engines ⊢
  exact engines

/-- A filter of the register store that keeps the control's entries leaves the control alone. -/
theorem ctlRegs_filter (m : SMap Nat) (p : Nat × Nat → Bool) (hp : ∀ e : Nat × Nat, e.1 % 1024 ∈ ctlCodes → p e = true) :
    ctlRegs (m.filter p) = ctlRegs m := by
  rw [ctlRegs, ctlRegs, List.filter_filter]
  refine List.filter_congr fun e _ => ?_
  by_cases he : e.1 % 1024 ∈ ctlCodes
  · simp [hp e he]
  · simp [he]

@[simp] theorem State.keepRegs_ctl : s.keepRegs.ctl = s.ctl := by
  have kept : ∀ c ∈ ctlCodes, c ∈ keptCodes := by decide +kernel
  have regs : ctlRegs s.keepRegs.regs = ctlRegs s.regs := ctlRegs_filter _ _ fun e he => by simpa using kept _ he
  exact congrArg (fun m => (s.time, s.boot, s.rst, m)) regs

@[simp] theorem State.monReset_ctl : s.monReset.ctl = s.ctl := by
  have off : ∀ c ∈ ctlCodes, ((RegName.TEL_MON_STAT.fields ++ RegName.TEL_MON_MINMAX.fields ++ RegName.TEL_MON_SUM.fields ++
      RegName.TEL_MON_HIST.fields).any fun f => c == f.code) = false := by decide
  have regs : ctlRegs s.monReset.regs = ctlRegs s.regs := ctlRegs_filter _ _ fun e he => by simpa using off _ he
  exact congrArg (fun m => (s.time, s.boot, s.rst, m)) regs

@[simp] theorem State.colReset_ctl : s.colReset.ctl = s.ctl := by
  have idle : ∀ u : State, ((List.range 8).foldl (fun s k => s.setSessState k 0) u).ctl = u.ctl := fun u =>
    foldl_keeps State.ctl (fun s k => s.setSessState_ctl k 0) _ u
  exact (State.put_ctl _ (by decide) _ _).trans ((idle _).trans rfl)

@[simp] theorem State.freezeReplay_ctl (x : Nat) : (s.freezeReplay x).ctl = s.ctl := ctl_ite (s.put_ctl (by decide) _ _) rfl

@[simp] theorem State.freezeAll_ctl : s.freezeAll.ctl = s.ctl := by
  unfold State.freezeAll
  exact foldl_keeps State.ctl (fun s x => s.freezeReplay_ctl x) _ s

@[simp] theorem State.freezeEngine_ctl (e : Nat) : (s.freezeEngine e).ctl = s.ctl := by
  unfold State.freezeEngine
  exact foldl_keeps State.ctl (fun s x => s.freezeReplay_ctl x) _ s

/-! ## What the stacks hold through a chip reset (R159, R338) -/

@[simp] theorem State.emit_dram (o : Out) : (s.emit o).mem.dram = s.mem.dram := by
  obtain ⟨l, h⟩ := s.emit_eq o
  rw [h]

@[simp] theorem State.pldm_dram (e : PldmEvent) : (s.pldm e).mem.dram = s.mem.dram := by
  unfold State.pldm
  split <;> exact State.emit_dram _ _

@[simp] theorem State.commitReset_dram : s.commitReset.mem.dram = s.mem.dram := by
  unfold State.commitReset
  split
  · rfl
  · dsimp only [State.putB_mem, State.put_mem]
    split
    · rfl
    · split <;> rfl

@[simp] theorem State.reflInterrupt_dram : s.reflInterrupt.mem.dram = s.mem.dram := by
  unfold State.reflInterrupt
  split <;> rfl

@[simp] theorem State.startRetrain_dram (k : Nat) : (s.startRetrain k).mem.dram = s.mem.dram := by
  unfold State.startRetrain
  dsimp only
  split
  · rfl
  · split
    · rfl
    · split <;> rfl

@[simp] theorem State.retrainsAfresh_dram : s.retrainsAfresh.mem.dram = s.mem.dram := by
  unfold State.retrainsAfresh
  refine foldl_keeps (fun s => s.mem.dram) (fun s k => ?_) _ s
  dsimp only
  split
  · rfl
  · rw [State.startRetrain_dram]
    split <;> rfl

@[simp] theorem State.cancelUpdate_dram : s.cancelUpdate.mem.dram = s.mem.dram := by
  unfold State.cancelUpdate
  split
  · obtain ⟨l, r, h⟩ := State.logEvent_eq
      (({ s with mgmt := { s.mgmt with fw := .idle } }.setSlotValid s.otherSlot false).put F.SEC_FW_STAT_updating 0 0) 0x0013 0 _
    rw [State.logFw, h]
    rfl
  · rfl

@[simp] theorem State.setEng_mem (e : Nat) (v : Eng) : (s.setEng e v).mem = s.mem := by
  refine (foldl_keeps State.mem (fun s k => ?_) (List.range 8) _).trans rfl
  split <;> rfl

@[simp] theorem State.engReset_mem (e : Nat) : (s.engReset e).mem = s.mem := s.setEng_mem e _

@[simp] theorem State.clearWork_dram : s.clearWork.mem.dram = s.mem.dram := by
  have engines := foldl_keeps State.mem (fun s e => s.engReset_mem e) (List.range 30) s
  unfold State.clearWork
  generalize (List.range 30).foldl (fun s e => s.engReset e) s = u at engines ⊢
  change u.mem.dram = s.mem.dram
  rw [engines]

@[simp] theorem State.colReset_dram : s.colReset.mem.dram = s.mem.dram :=
  (foldl_keeps (fun s => s.mem.dram) (fun _ _ => rfl) (List.range 8) _).trans rfl

end Sys2Proof.Machine

/-! SUPPORT. Requests of resets and their ends (R41, R340, R341, R346, R360): the quiesce of an idle device, and what an end records. -/

namespace Sys2Proof.Machine

/-! ## An idle device quiesces at once (R339, R346) -/

theorem State.openWorks_of_idle {s : State} (hq : s.queues = []) (hg : s.graphs = []) : s.openWorks = [] := by
  simp [State.openWorks, hq, hg]

theorem State.endAll_of_idle {s : State} (hq : s.queues = []) (hg : s.graphs = []) (st : Status) (stop : Bool) (p : Item → Bool) :
    s.endAll st stop p = s := by
  rw [State.endAll, State.openWorks_of_idle hq hg, List.foldl_nil]

theorem State.freezeReplay_regsOnly (s : State) (x : Nat) : RegsOnly s (s.freezeReplay x) := by
  unfold State.freezeReplay
  split <;> rfl

theorem State.freezeReplays_regsOnly (xs : List Nat) : ∀ s : State, RegsOnly s (xs.foldl (fun s x => s.freezeReplay x) s) := by
  induction xs with
  | nil => exact RegsOnly.refl
  | cons x xs ih => exact fun s => (s.freezeReplay_regsOnly x).trans (ih _)

theorem State.freezeAll_regsOnly (s : State) : RegsOnly s s.freezeAll := s.freezeReplays_regsOnly _

/-- The state that a quiesce begins from: the reset runs in its first stage and its state is shown. -/
def State.quiescent (s : State) (r : RReq) : State :=
  { s with rst := { s.rst with run := some { req := r, stage := 1, since := s.time }, heldFailed := false } }.resetState
    (if r.kind = RKind.powerCycle then 6 else 4)

theorem State.quiesce_of_idle {s : State} (r : RReq) (hq : s.queues = []) (hg : s.graphs = []) :
    s.quiesce r = (s.quiescent r).freezeAll := by
  have frame : RegsOnly (s.quiescent r) (s.quiescent r).freezeAll := State.freezeAll_regsOnly _
  have queues : (s.quiescent r).freezeAll.queues = [] := (congrArg State.queues frame).trans hq
  have graphs : (s.quiescent r).freezeAll.graphs = [] := (congrArg State.graphs frame).trans hg
  exact State.endAll_of_idle queues graphs _ _ _

/-- The quiesce of an idle device shows its state, runs from now on, and changes registers and the control of resets alone. -/
theorem quiesce_idle {s : State} (r : RReq) (hq : s.queues = []) (hg : s.graphs = []) :
    (s.quiesce r).get F.HUB_RESET_STAT_state 0 = (if r.kind = .powerCycle then 6 else 4) ∧
    (s.quiesce r).rst = { s.rst with run := some { req := r, stage := 1, since := s.time }, heldFailed := false } ∧
    s.quiesce r = { s with regs := (s.quiesce r).regs, rst := (s.quiesce r).rst } := by
  have frame : RegsOnly (s.quiescent r) (s.quiescent r).freezeAll := State.freezeAll_regsOnly _
  have ctl : (s.quiescent r).freezeAll.ctl = (s.quiescent r).ctl := State.freezeAll_ctl _
  rw [State.quiesce_of_idle r hq hg]
  refine ⟨?_, rst_of_ctl ctl, ?_⟩
  · rw [get_of_ctl ctl (by decide), State.quiescent, State.resetState, State.put_get_same]
    split <;> rfl
  · rw [rst_of_ctl ctl]
    exact frame

/-! ## Requests (R341) -/

theorem State.stop_state_zero {s : State} (h : s.stopActive = false) : s.get F.THM_STOP_STAT_state 0 = 0 := by
  simpa [State.stopActive] using h

/-- With no context reset under way nothing of one ends. -/
theorem State.settleContexts_of_none {s : State} (he : s.rst.ctxEnding = []) (hr : ∀ v, s.rst.run = some v → v.req.kind ≠ .context) :
    s.settleContexts = s := by
  unfold State.settleContexts
  rw [he]
  simp only [List.filter_nil, List.foldl_nil]
  split
  · next v h => exact if_neg fun c => hr v h c.1
  · rfl

theorem State.request_of_idle {s : State} (h : s.resetsIdle) (r : RReq) : s.request r = (s.startReset r).settleContexts := by
  obtain ⟨run, -, -, cycle, stop⟩ := h
  simp [State.request, run, cycle, stop]

/-- A chip reset or power cycle that nothing holds up begins its quiesce at once. -/
theorem State.startReset_quiesces {s : State} {r : RReq} (hk : r.kind = .chip ∨ r.kind = .powerCycle)
    (hp : s.rst.keepers = false ∧ s.boot.phase = .ready) (hd : r.dumpFirst = false) (hdump : s.dump.running = false)
    (hs : s.stopActive = false) : s.startReset r = s.quiesce r := by
  have notThree : ¬ s.get F.THM_STOP_STAT_state 0 = 3 := by rw [State.stop_state_zero hs]; decide
  let u : State := { s with rst := { s.rst with run := some { req := r, stage := 0, since := s.time } } }
  have free : ∀ q : RReq, u.mustWait q = false := fun q => by
    change (s.dump.running || (q.kind == .chip && s.stopActive)) = false
    simp [hdump, hs]
  have begins : u.tryChip = s.quiesce r :=
    if_pos (c := (0 = 0) ∧ (r.kind = .chip ∨ r.kind = .powerCycle) ∧ (!u.mustWait r) = true) ⟨rfl, hk, by rw [free]; rfl⟩
  have stop3 : ¬ u.get F.THM_STOP_STAT_state 0 = 3 := notThree
  rcases hk with hk | hk <;>
    simp only [State.startReset, hk, hp.1, hp.2, hd] <;>
    simpa [free, stop3, u] using begins

/-! ## The end of a reset (R341, Table 12.5) -/

/-- The registers in which the end of a reset is shown. -/
def State.showEnd (s : State) (r : RReq) (result : Nat) : State :=
  (((s.put F.HUB_RESET_STAT_last_kind r.kind.code 0).put F.HUB_RESET_STAT_last_target r.target 0).put
    F.HUB_RESET_STAT_last_result result 0).put F.HUB_RESET_STAT_done_evt 1 0

/-- The end of a reset is shown, logged and told to the host, and nothing else changes. -/
theorem State.resetEnds_eq (s : State) (r : RReq) (result : Nat) :
    ∃ regs l o, s.resetEnds r result = { s with regs := regs, log := l, out := o } := by
  obtain ⟨l, regs, hl⟩ := (s.showEnd r result).logEvent_eq 0x0009 0 [r.kind.code, r.target, result]
  obtain ⟨o, ho⟩ := State.emit_eq ((s.showEnd r result).logEvent 0x0009 0 [r.kind.code, r.target, result]) (.msix 0 0)
  refine ⟨regs, l, o, ?_⟩
  have shape : s.resetEnds r result =
    ((s.showEnd r result).logEvent 0x0009 0 [r.kind.code, r.target, result]).emit (.msix 0 0) := rfl
  rw [shape, ho, hl]
  rfl

theorem State.emit_get (s : State) (o : Out) (f : Fld) (i : Nat) : (s.emit o).get f i = s.get f i := by
  obtain ⟨l, h⟩ := s.emit_eq o
  rw [h]
  rfl

/-- Beside the log the end of a reset is what its registers show. -/
theorem State.resetEnds_get (s : State) (r : RReq) (result : Nat) {f : Fld} (hf : f.offLog = true) (i : Nat) :
    (s.resetEnds r result).get f i = (s.showEnd r result).get f i :=
  (State.emit_get _ _ _ _).trans (State.logEvent_get _ _ _ _ hf i)

theorem RKind.code_lt (k : RKind) : k.code < 2 ^ 4 := by
  cases k <;> decide

theorem State.showEnd_shows (s : State) (r : RReq) {result : Nat} (hr : result < 4) :
    ShowsEnd (s.showEnd r result) r.kind.code (r.target % 2 ^ 12) result := by
  refine ⟨?_, ?_, ?_, State.put_get_same _ _ _ _⟩ <;>
    simp (disch := decide) only [State.showEnd, State.put_get_apart, State.put_get_same]
  · exact Nat.mod_eq_of_lt r.kind.code_lt
  · rfl
  · exact Nat.mod_eq_of_lt hr

/-- What shows the end of a reset is carried by steps that leave its registers. -/
theorem ShowsEnd.of_get {s t : State} {k tg res : Nat} (h : ShowsEnd s k tg res)
    (hg : ∀ f ∈ [F.HUB_RESET_STAT_last_kind, F.HUB_RESET_STAT_last_target, F.HUB_RESET_STAT_last_result, F.HUB_RESET_STAT_done_evt],
      t.get f 0 = s.get f 0) : ShowsEnd t k tg res := by
  simp only [List.forall_mem_cons] at hg
  obtain ⟨h1, h2, h3, h4, -⟩ := hg
  exact ⟨h1.trans h.1, h2.trans h.2.1, h3.trans h.2.2.1, h4.trans h.2.2.2⟩

theorem State.resetEnds_shows (s : State) (r : RReq) {result : Nat} (hr : result < 4) :
    ShowsEnd (s.resetEnds r result) r.kind.code (r.target % 2 ^ 12) result :=
  (s.showEnd_shows r hr).of_get fun f hf => s.resetEnds_get r result ((by decide : ∀ g ∈ [F.HUB_RESET_STAT_last_kind,
    F.HUB_RESET_STAT_last_target, F.HUB_RESET_STAT_last_result, F.HUB_RESET_STAT_done_evt], g.offLog = true) f hf) 0

/-- The reset's end with nothing that follows: it is recorded, none runs, and the state register shows none. -/
def State.endedAlone (s : State) (r : RReq) (result : Nat) : State :=
  { s.resetEnds r result with rst := { s.rst with run := none } }.resetState 0

theorem State.finishReset_of_noFollowers {s : State} {r : RRun} (hr : s.rst.run = some r) (hn : s.noFollowers) (result : Nat) :
    s.finishReset result = s.endedAlone r.req result := by
  obtain ⟨queue, absorbed, chain⟩ := hn
  obtain ⟨regs, l, o, he⟩ := s.resetEnds_eq r.req result
  have rst : (s.resetEnds r.req result).rst = s.rst := by rw [he]
  simp only [State.finishReset, hr, absorbed, List.foldl_nil, rst, State.resetState, State.put_rst, chain, queue,
    State.endedAlone]

theorem State.endedAlone_eq (s : State) (r : RReq) (result : Nat) : ∃ regs l o,
    s.endedAlone r result = { s with regs := regs, log := l, out := o, rst := { s.rst with run := none } } := by
  obtain ⟨regs, l, o, he⟩ := s.resetEnds_eq r result
  refine ⟨(s.endedAlone r result).regs, l, o, ?_⟩
  rw [State.endedAlone, he]
  rfl

@[simp] theorem State.endedAlone_time (s : State) (r : RReq) (result : Nat) : (s.endedAlone r result).time = s.time := by
  obtain ⟨regs, l, o, frame⟩ := s.endedAlone_eq r result
  rw [frame]

@[simp] theorem State.endedAlone_mem (s : State) (r : RReq) (result : Nat) : (s.endedAlone r result).mem = s.mem := by
  obtain ⟨regs, l, o, frame⟩ := s.endedAlone_eq r result
  rw [frame]

@[simp] theorem State.endedAlone_rst (s : State) (r : RReq) (result : Nat) :
    (s.endedAlone r result).rst = { s.rst with run := none } := by
  obtain ⟨regs, l, o, frame⟩ := s.endedAlone_eq r result
  rw [frame]

theorem State.endedAlone_get (s : State) (r : RReq) (result : Nat) {f : Fld} (hf : f.offLog = true)
    (hs : f.code ≠ F.HUB_RESET_STAT_state.code) (i : Nat) : (s.endedAlone r result).get f i = (s.showEnd r result).get f i := by
  have lt : f.code < 1024 := by
    simp only [Fld.offLog, Bool.and_eq_true, decide_eq_true_eq] at hf
    exact hf.1
  exact (State.put_get_apart _ (by decide) lt hs _ _ _).trans (s.resetEnds_get r result hf i)

theorem State.endedAlone_shows (s : State) (r : RReq) {result : Nat} (hr : result < 4) :
    ShowsEnd (s.endedAlone r result) r.kind.code (r.target % 2 ^ 12) result ∧ (s.endedAlone r result).get F.HUB_RESET_STAT_state 0 = 0 := by
  refine ⟨(s.showEnd_shows r hr).of_get fun f hf => ?_, State.put_get_same _ _ _ _⟩
  have apart := (by decide : ∀ g ∈ [F.HUB_RESET_STAT_last_kind, F.HUB_RESET_STAT_last_target, F.HUB_RESET_STAT_last_result,
    F.HUB_RESET_STAT_done_evt], g.offLog = true ∧ g.code ≠ F.HUB_RESET_STAT_state.code) f hf
  exact s.endedAlone_get r result apart.1 apart.2 0

end Sys2Proof.Machine

/-! SUPPORT. Chip resets and power cycles asked for (R41, R340, R346, R348, R355, R360): in service, in bring-up and in boot hold. -/

namespace Sys2Proof.Machine

variable {s : State} {w : BarAcc}

/-! ## Requests through BAR0 (R340) -/

theorem AsksReset.onReset {k : RKind} (h : AsksReset s w k) (f : RReq → State) : s.onReset w k f = f (resetReq w k) := by
  obtain ⟨reaches, kind, good⟩ := h
  rw [State.onReset, reaches.onWrite, if_neg (by simp [kind]), good, if_neg (by decide)]
  rfl

theorem AsksReset.keepers {k : RKind} (h : AsksReset s w k) : s.rst.keepers = false := by
  have up := h.1.1
  simp only [State.hubUp, Bool.and_eq_true, Bool.not_eq_true'] at up
  exact up.2

theorem exec_chipReset (h : AsksReset s w .chip) : exec (.chipReset w) s = .next (s.requestChip (resetReq w .chip)) := by
  change execChipReset w s = _
  rw [execChipReset, h.onReset]

theorem exec_powerCycle (h : AsksReset s w .powerCycle) : exec (.powerCycle w) s = .next (s.request (resetReq w .powerCycle)) := by
  change execPowerCycle w s = _
  rw [execPowerCycle, h.onReset]

theorem State.requestChip_of_ready (hp : s.boot.phase = .ready) (r : RReq) : s.requestChip r = s.request r := by
  simp only [State.requestChip, hp]

/-! ## In service: the quiesce, or a dump first (R346, R360, R364) -/

/-- What a request leaves that quiesces an idle device at once. -/
theorem request_quiesces {r : RReq} (hk : r.kind = .chip ∨ r.kind = .powerCycle) (hkeep : s.rst.keepers = false)
    (hp : s.boot.phase = .ready) (hi : s.resetsIdle) (hw : s.idleWork) (hdump : s.dump.running = false) (hd : r.dumpFirst = false) :
    (s.request r).get F.HUB_RESET_STAT_state 0 = (if r.kind = .powerCycle then 6 else 4) ∧
    (s.request r).rst.run = some { req := r, stage := 1, since := s.time } ∧
    s.request r = { s with regs := (s.request r).regs, rst := (s.request r).rst } := by
  obtain ⟨-, -, ending, -, stop⟩ := id hi
  obtain ⟨queues, -, graphs, -⟩ := hw
  obtain ⟨state, rst, frame⟩ := quiesce_idle r queues graphs
  have settled : (s.quiesce r).settleContexts = s.quiesce r := by
    refine State.settleContexts_of_none ?_ fun v hv => ?_
    · rw [rst]
      exact ending
    · rw [rst] at hv
      obtain rfl := Option.some.inj hv
      rcases hk with hk | hk <;> simp [hk]
  have quiesces : s.request r = s.quiesce r := by
    rw [State.request_of_idle hi, State.startReset_quiesces hk ⟨hkeep, hp⟩ hd hdump stop, settled]
  rw [quiesces]
  exact ⟨state, congrArg ResetCtl.run rst, frame⟩

theorem State.regDump_of_may (hm : s.mayDump = true) (trigger : Nat) : s.regDump trigger =
    s.startDump trigger none (s.get F.HUB_DUMP_ADDR_addr 0 * 4096) (s.get F.HUB_DUMP_CTRL_size_4k 0 * 4096)
      (s.isSet F.HUB_DUMP_CTRL_allow_freeze 0) := if_pos hm

@[simp] theorem State.startDump_get (s : State) (trigger : Nat) (work : Option Work) (buffer size : Nat) (freeze : Bool) :
    (s.startDump trigger work buffer size freeze).get F.THM_STOP_STAT_state 0 = s.get F.THM_STOP_STAT_state 0 := by
  unfold State.startDump
  simp (disch := decide) only [State.put_get_apart]
  rfl

theorem State.mustWait_of_dump {s : State} (h : s.dump.running = true) (r : RReq) : s.mustWait r = true := by
  simp [State.mustWait, h]

theorem State.tryChip_of_waits {s : State} {v : RRun} (hr : s.rst.run = some v) (h : s.mustWait v.req = true) : s.tryChip = s := by
  simp [State.tryChip, hr, h]

/-- A chip reset that asks for a dump starts it and waits for its end. -/
theorem State.startReset_dumps {r : RReq} (hk : r.kind = .chip) (hd : r.dumpFirst = true) (hm : s.mayDump = true)
    (hs : s.stopActive = false) : s.startReset r =
      { s.regDump 2 with rst := { s.rst with run := some { req := r, stage := 0, since := s.time } } }.resetState 7 := by
  have dump := State.regDump_of_may hm 2
  generalize hu : s.regDump 2 = u at dump ⊢
  have running : u.dump.running = true := by rw [dump]; rfl
  have rst : u.rst = s.rst := by rw [dump]; rfl
  have time : u.time = s.time := by rw [dump]; rfl
  have stop : u.get F.THM_STOP_STAT_state 0 = 0 := by rw [dump, State.startDump_get, State.stop_state_zero hs]
  let v : State := { u with rst := { u.rst with run := some { req := r, stage := 0, since := u.time } } }
  have waits : v.mustWait r = true := State.mustWait_of_dump running r
  have notThree : ¬ (v.resetState 7).get F.THM_STOP_STAT_state 0 = 3 := by
    rw [State.resetState, State.put_get_apart _ (by decide) (by decide) (by decide)]
    change ¬ u.get F.THM_STOP_STAT_state 0 = 3
    rw [stop]
    decide
  have held : (v.resetState 7).tryChip = v.resetState 7 := State.tryChip_of_waits rfl (State.mustWait_of_dump (s := v.resetState 7) running r)
  have starts : s.startReset r = v.resetState 7 := by
    simp only [State.startReset, hk, hd, hu]
    simpa [waits, notThree, v] using held
  rw [starts, ← rst, ← time]

theorem chipReset_dumps (ha : AsksReset s w .chip) (hp : s.boot.phase = .ready) (hi : s.resetsIdle)
    (hd : (resetReq w .chip).dumpFirst = true) (hm : s.mayDump = true) : Gives (.chipReset w) s fun t =>
      t.dump.running = true ∧ t.dump.trigger = 2 ∧ t.get F.HUB_RESET_STAT_state 0 = 7 ∧
      t.rst.run = some { req := resetReq w .chip, stage := 0, since := s.time } ∧
      t = { s with regs := t.regs, rst := t.rst, dump := t.dump } := by
  obtain ⟨-, -, ending, -, stop⟩ := id hi
  have starts := State.startReset_dumps rfl hd hm stop
  have settled : (s.startReset (resetReq w .chip)).settleContexts = s.startReset (resetReq w .chip) := by
    rw [starts]
    refine State.settleContexts_of_none ending fun v hv => ?_
    obtain rfl := Option.some.inj hv
    exact (by decide : RKind.chip ≠ .context)
  refine ⟨_, by rw [exec_chipReset ha, State.requestChip_of_ready hp, State.request_of_idle hi, settled, starts], ?_⟩
  rw [State.regDump_of_may hm]
  exact ⟨rfl, rfl, State.put_get_same _ _ _ _, rfl, rfl⟩

theorem chipReset_quiesces (ha : AsksReset s w .chip) (hp : s.boot.phase = .ready) (hi : s.resetsIdle) (hw : s.idleWork)
    (hdump : s.dump.running = false) (hd : (resetReq w .chip).dumpFirst = false) : Gives (.chipReset w) s fun t =>
      t.get F.HUB_RESET_STAT_state 0 = 4 ∧ t.rst.run = some { req := resetReq w .chip, stage := 1, since := s.time } ∧
      t = { s with regs := t.regs, rst := t.rst } :=
  ⟨_, by rw [exec_chipReset ha, State.requestChip_of_ready hp], request_quiesces (.inl rfl) ha.keepers hp hi hw hdump hd⟩

theorem powerCycle_quiesces (ha : AsksReset s w .powerCycle) (hp : s.boot.phase = .ready) (hi : s.resetsIdle) (hw : s.idleWork)
    (hdump : s.dump.running = false) (hd : (resetReq w .powerCycle).dumpFirst = false) : Gives (.powerCycle w) s fun t =>
      t.get F.HUB_RESET_STAT_state 0 = 6 ∧ t.rst.run = some { req := resetReq w .powerCycle, stage := 1, since := s.time } ∧
      t = { s with regs := t.regs, rst := t.rst } :=
  ⟨_, exec_powerCycle ha, request_quiesces (.inr rfl) ha.keepers hp hi hw hdump hd⟩

/-! ## In bring-up and in boot hold (R41, R348) -/

theorem exec_chipReset_early (ha : AsksReset s w .chip) (hp : s.boot.phase = .bringup) (h5 : s.boot.done.contains 5 = false) :
    exec (.chipReset w) s = .next { s with boot := { s.boot with resetPending := true } } := by
  rw [exec_chipReset ha]
  simp only [State.requestChip, hp, h5, Bool.false_eq_true, if_false]

/-- Storing the epoch reads the same at every register but the log's. -/
theorem State.storeEpoch_get (s : State) (e : Nat) (ok : Bool) {f : Fld} (hf : f.offLog = true) (i : Nat) :
    (s.storeEpoch e ok).get f i = s.get f i := by
  unfold State.storeEpoch
  split
  · exact s.logEvent_get _ _ _ hf i
  · rfl

@[simp] theorem State.storeEpoch_time (s : State) (e : Nat) (ok : Bool) : (s.storeEpoch e ok).time = s.time := by
  unfold State.storeEpoch
  split
  · exact time_of_ctl (s.logEvent_ctl _ _ _)
  · rfl

@[simp] theorem State.advanceEpoch_time (s : State) (ok : Bool) : (s.advanceEpoch ok).time = s.time := by
  unfold State.advanceEpoch
  split
  · exact State.storeEpoch_time _ _ _
  · exact (State.storeEpoch_time _ _ _).trans ((time_of_ctl (State.logEvent_ctl _ _ _ _)).trans rfl)

theorem State.advanceEpoch_epoch (s : State) (ok : Bool) {e : Nat} (h : s.rst.stored = some e) :
    (s.advanceEpoch ok).epoch = nextEpoch e % 2 ^ 16 := by
  rw [State.advanceEpoch, h]
  exact (State.storeEpoch_get _ _ _ (by decide) _).trans (State.put_get_same _ _ _ _)

/-- The hub as a restart clears it, before the epoch advances. -/
def State.restartCleared (s : State) : State :=
  (((({ s with freeCtr := s.freeCtr + 1 }.hostOff).commitReset.reflInterrupt).clearWork).monReset).keepRegs

@[simp] theorem State.restartCleared_ctl (s : State) : s.restartCleared.ctl = s.ctl := by
  unfold State.restartCleared
  rw [State.keepRegs_ctl, State.monReset_ctl, State.clearWork_ctl, State.reflInterrupt_ctl, State.commitReset_ctl, State.hostOff_ctl]
  rfl

/-- A restart from the cleared hub: the epoch advances, hold, cause and stop are no longer shown, and bring-up opens its step. -/
def State.restartFrom (c : State) (ok low : Bool) : State :=
  let s := c.advanceEpoch ok
  let s := (s.put F.HUB_BOOT_STATUS_hold 0 0).bootStep (if low then 1 else 3)
  let s := (s.put F.HUB_BOOT_STATUS_cause 0 0).put F.HUB_BOOT_STATUS_cause_unit 0 0
  let s := (s.put F.THM_STOP_STAT_state 0 0).bump F.HUB_RESET_STAT_chip_resets 1 0
  { s with
    boot := { s.boot with phase := .bringup, done := if low then [] else [1, 2], t0 := if low then none else some ((s.time : Int) - 50000000)
                          retryUsed := false, resetPending := false, keepEpoch := low, shift := 0, w0Rails := false
                          hostTrained := false, hostDark := false, record := [] }
    mgmt := { s.mgmt with verified := false }
    dump := { s.dump with frozen := [] }
    thm := { s.thm with step := 0, rail := none, thermTrip := false } }

theorem State.restart_eq (s : State) : ∃ ok low, s.restart = s.restartCleared.restartFrom ok low :=
  ⟨(Config.freeValue s.freeCtr).toNat % 2 == 1, ({ s with freeCtr := s.freeCtr + 1 } : State).get F.HUB_BOOT_STATUS_cause 0 == 1, by
    unfold State.restart State.restartFrom State.restartCleared State.draw
    rfl⟩
theorem State.restartFrom_gives (c : State) (ok low : Bool) :
    (c.restartFrom ok low).boot.phase = .bringup ∧ (c.restartFrom ok low).get F.HUB_BOOT_STATUS_hold 0 = 0 ∧
    (c.restartFrom ok low).get F.HUB_BOOT_STATUS_cause 0 = 0 ∧ (c.restartFrom ok low).time = (c.advanceEpoch ok).time ∧
    (c.restartFrom ok low).epoch = (c.advanceEpoch ok).epoch := by
  unfold State.restartFrom
  generalize c.advanceEpoch ok = u
  let shown := ((((u.put F.HUB_BOOT_STATUS_hold 0 0).bootStep (if low then 1 else 3)).put F.HUB_BOOT_STATUS_cause 0 0).put
    F.HUB_BOOT_STATUS_cause_unit 0 0).put F.THM_STOP_STAT_state 0 0
  refine ⟨rfl, ?_, ?_, rfl, ?_⟩
  · change (shown.bump F.HUB_RESET_STAT_chip_resets 1 0).get F.HUB_BOOT_STATUS_hold 0 = 0
    simp (disch := decide) only [shown, State.bootStep, State.put_get_apart, State.bump_get_apart, State.put_get_same]
    rfl
  · change (shown.bump F.HUB_RESET_STAT_chip_resets 1 0).get F.HUB_BOOT_STATUS_cause 0 = 0
    simp (disch := decide) only [shown, State.bootStep, State.put_get_apart, State.bump_get_apart, State.put_get_same]
    rfl
  · change (shown.bump F.HUB_RESET_STAT_chip_resets 1 0).get F.HUB_RESET_STAT_epoch 0 = u.get F.HUB_RESET_STAT_epoch 0
    simp (disch := decide) only [shown, State.bootStep, State.put_get_apart, State.bump_get_apart]

theorem State.restart_gives (s : State) :
    s.restart.boot.phase = .bringup ∧ s.restart.get F.HUB_BOOT_STATUS_hold 0 = 0 ∧ s.restart.get F.HUB_BOOT_STATUS_cause 0 = 0 ∧
    s.restart.time = s.time ∧ ∀ e, s.rst.stored = some e → s.restart.epoch = nextEpoch e % 2 ^ 16 := by
  obtain ⟨ok, low, h⟩ := s.restart_eq
  obtain ⟨phase, hold, cause, time, epoch⟩ := s.restartCleared.restartFrom_gives ok low
  rw [h]
  refine ⟨phase, hold, cause, time.trans ((State.advanceEpoch_time _ ok).trans (time_of_ctl s.restartCleared_ctl)), fun e he => ?_⟩
  exact epoch.trans (State.advanceEpoch_epoch _ ok ((congrArg ResetCtl.stored (rst_of_ctl s.restartCleared_ctl)).trans he))

theorem nextEpoch_of_lt {e : Nat} (h : e < 0xFFFF) : nextEpoch e % 2 ^ 16 = e + 1 := by
  rw [nextEpoch, if_neg (by omega), Nat.mod_eq_of_lt (by omega)]

theorem chipReset_hold (ha : AsksReset s w .chip) (hp : s.boot.phase = .hold) : Gives (.chipReset w) s fun t =>
    t.boot.phase = .bringup ∧ t.get F.HUB_BOOT_STATUS_hold 0 = 0 ∧ t.get F.HUB_BOOT_STATUS_cause 0 = 0 ∧ t.time = s.time ∧
    (∀ e, s.rst.stored = some e → e < 0xFFFF → t.epoch = e + 1) ∧ (s.rst.stored = some 0xFFFF → t.epoch = 1) := by
  obtain ⟨phase, hold, cause, time, epoch⟩ := s.restart_gives
  refine ⟨s.restart, ?_, phase, hold, cause, time, fun e he hl => ?_, fun he => epoch _ he⟩
  · rw [exec_chipReset ha]
    simp only [State.requestChip, hp]
  · rw [epoch e he, nextEpoch_of_lt hl]

/-! ## Over I3C (R41, R355) -/

theorem exec_pldmChipReset (hm : s.mgmtUp = true) : exec .pldmChipReset s = .next (s.requestChip { kind := .chip, cause := 2 }) := by
  change execPldmChipReset s = _
  rw [execPldmChipReset, if_pos hm]

theorem exec_pldmPowerCycle (hm : s.mgmtUp = true) : exec .pldmPowerCycle s = .next (s.request { kind := .powerCycle, cause := 2 }) := by
  change execPldmPowerCycle s = _
  rw [execPldmPowerCycle, if_pos hm]

theorem pldmChipReset_quiesces (hm : s.mgmtUp = true) (hi : s.resetsIdle) (hw : s.idleWork) (hdump : s.dump.running = false)
    (hk : s.rst.keepers = false) (hp : s.boot.phase = .ready) : Gives .pldmChipReset s fun t =>
      t.get F.HUB_RESET_STAT_state 0 = 4 ∧ t.rst.run = some { req := { kind := .chip, cause := 2 }, stage := 1, since := s.time } ∧
      t = { s with regs := t.regs, rst := t.rst } :=
  ⟨_, by rw [exec_pldmChipReset hm, State.requestChip_of_ready hp], request_quiesces (.inl rfl) hk hp hi hw hdump rfl⟩

theorem pldmPowerCycle_quiesces (hm : s.mgmtUp = true) (hi : s.resetsIdle) (hw : s.idleWork) (hdump : s.dump.running = false)
    (hk : s.rst.keepers = false) (hp : s.boot.phase = .ready) : Gives .pldmPowerCycle s fun t =>
      t.get F.HUB_RESET_STAT_state 0 = 6 ∧
      t.rst.run = some { req := { kind := .powerCycle, cause := 2 }, stage := 1, since := s.time } ∧
      t = { s with regs := t.regs, rst := t.rst } :=
  ⟨_, exec_pldmPowerCycle hm, request_quiesces (.inr rfl) hk hp hi hw hdump rfl⟩

/-- Moving the log to flash changes the log and its registers alone, and leaves nothing staged. -/
theorem State.logToFlash_eq (s : State) : ∃ regs l, s.logToFlash = { s with regs := regs, log := l } ∧ l.staged = [] := by
  have shown : ∀ (b : List Byte) (u : State) (xs : List Nat),
      RegsOnly u (xs.foldl (fun s i => s.put F.TEL_LOG_DATA_data (fieldAt b (8 * i) 8) i) u) := by
    intro b u xs
    induction xs generalizing u with
    | nil => exact RegsOnly.refl u
    | cons x xs ih => exact ((RegsOnly.refl u).put _ _ _).trans (ih _)
  have all : ∀ u : State, RegsOnly u u.showLog := fun u => by
    unfold State.showLog
    exact shown _ u _
  let l := s.log.flash ++ s.log.staged
  let u : State := { s with log := { s.log with staged := [], flash := l.drop (l.length - logRing) } }
  have frame : RegsOnly u s.logToFlash := by
    unfold State.logToFlash
    exact ((RegsOnly.refl u).put _ _ _).trans (all _)
  exact ⟨_, _, frame, rfl⟩

/-- Asking for the power cycle writes the log, asserts the pin and shows it; what the stacks hold stays. -/
theorem State.askCycle_gives (s : State) :
    s.askCycle.thm.cycleReq = true ∧ s.askCycle.rst = { s.rst with run := none, cycleWait := true } ∧ s.askCycle.log.staged = [] ∧
    s.askCycle.get F.HUB_RESET_STAT_state 0 = 6 ∧ s.askCycle.mem = s.mem ∧ s.askCycle.host = s.host := by
  obtain ⟨regs, l, h, staged⟩ := s.logToFlash_eq
  refine ⟨rfl, ?_, ?_, State.put_get_same _ _ _ _, ?_, ?_⟩ <;> unfold State.askCycle <;> rw [h]
  · rfl
  · exact staged
  · rfl
  · rfl

/-- In boot hold a power cycle asks for the pin at once. -/
theorem pldmPowerCycle_hold (hm : s.mgmtUp = true) (hi : s.resetsIdle) (hp : s.boot.phase = .hold) : Gives .pldmPowerCycle s fun t =>
    t.thm.cycleReq = true ∧ t.rst.cycleWait = true ∧ t.log.staged = [] ∧ t.get F.HUB_RESET_STAT_state 0 = 6 := by
  obtain ⟨-, -, ending, -, -⟩ := id hi
  obtain ⟨cycle, rst, staged, state, -, -⟩ := s.askCycle_gives
  have starts : s.startReset { kind := .powerCycle, cause := 2 } = s.askCycle := if_pos ⟨rfl, by simp [hp]⟩
  have settled : s.askCycle.settleContexts = s.askCycle :=
    State.settleContexts_of_none ((congrArg ResetCtl.ctxEnding rst).trans ending) fun v hv => by simp [rst] at hv
  refine ⟨s.askCycle, ?_, cycle, congrArg ResetCtl.cycleWait rst, staged, state⟩
  rw [exec_pldmPowerCycle hm, State.request_of_idle hi, starts, settled]

end Sys2Proof.Machine

/-! SUPPORT. The keepers' notices (R350): what sending one leaves, and that every port that is up sends it or holds it to send. -/

namespace Sys2Proof.Machine

/-! ## Sending on a port -/

/-- The message has left the device or waits at the port to leave. -/
def State.sent (s : State) (p : Nat) (o : Out) : Prop := o ∈ s.out ∨ o ∈ (s.port p).txWait

theorem State.mem_out_emit {s : State} {o : Out} (h : o ∈ s.out) (o' : Out) : o ∈ (s.emit o').out := by
  unfold State.emit
  split
  · exact h
  · exact List.mem_cons_of_mem _ h

theorem State.emit_port (s : State) (o : Out) (p : Nat) : (s.emit o).port p = s.port p := by
  obtain ⟨l, h⟩ := s.emit_eq o
  rw [h]
  rfl

/-- Changing a port so that it still holds what waited there keeps what was sent. -/
theorem State.sent.setPort {s : State} {p q : Nat} {o : Out} (h : s.sent p o) {v : Port} (hv : ∀ x ∈ (s.port q).txWait, x ∈ v.txWait) :
    (s.setPort q v).sent p o := by
  refine h.imp id fun hw => ?_
  rw [State.port, State.setPort]
  by_cases hq : p = q
  · subst hq
    rw [SMap.get_set_same]
    exact hv o hw
  · rw [SMap.get_set_other _ _ _ _ hq]
    exact hw

theorem State.sent.emit {s : State} {p : Nat} {o : Out} (h : s.sent p o) (o' : Out) : (s.emit o').sent p o := by
  refine h.imp (State.mem_out_emit · o') fun hw => ?_
  rw [State.emit_port]
  exact hw

/-- What was sent stays sent when another message is sent. -/
theorem State.sent.tx {s : State} {p : Nat} {o : Out} (h : s.sent p o) (q : Nat) (o' : Out) : (s.tx q o').sent p o := by
  unfold State.tx
  dsimp only
  split
  · exact h
  · split
    · exact h.setPort fun x hx => List.mem_append_left _ hx
    · refine State.sent.emit (h.setPort ?_) _
      exact fun x hx => hx

/-- A message that is not the host's leaves on a link that is up, or waits there. -/
theorem State.tx_sent {s : State} {p : Nat} {o : Out} (hl : s.linkUp p = true) (ho : o.toHost = false) : (s.tx p o).sent p o := by
  rw [State.tx, hl, if_neg (by decide)]
  split
  · refine .inr ?_
    rw [State.port, State.setPort, SMap.get_set_same]
    exact List.mem_append_right _ (List.mem_singleton_self o)
  · refine .inl ?_
    simp [State.putOnLink, State.emit, ho]

/-- Sending on ports one after another changes ports and what has left, and nothing else. -/
theorem State.txAll_eq (o : Nat → Out) (ps : List Nat) : ∀ s : State,
    ∃ vs l, ps.foldl (fun s p => s.tx p (o p)) s = { s with ports := vs, out := l } := by
  induction ps with
  | nil => exact fun s => ⟨s.ports, s.out, rfl⟩
  | cons p ps ih =>
    intro s
    obtain ⟨vs, l, h⟩ := s.tx_eq p (o p)
    obtain ⟨vs', l', h'⟩ := ih (s.tx p (o p))
    refine ⟨vs', l', ?_⟩
    rw [List.foldl_cons, h', h]

theorem State.sent.txAll {p : Nat} {m : Out} (o : Nat → Out) (ps : List Nat) : ∀ {s : State}, s.sent p m →
    (ps.foldl (fun s p => s.tx p (o p)) s).sent p m := by
  induction ps with
  | nil => exact id
  | cons q ps ih => exact fun h => ih (h.tx q (o q))

/-- Every port whose state says that it is up sends its message, or holds it to send. -/
theorem State.txAll_sent (o : Nat → Out) (ho : ∀ p, (o p).toHost = false) (ps : List Nat) : ∀ {s : State} {p : Nat}, p ∈ ps →
    (s.portState p = 3 ∨ s.portState p = 4) → (ps.foldl (fun s p => s.tx p (o p)) s).sent p (o p) := by
  induction ps with
  | nil => exact fun h => absurd h List.not_mem_nil
  | cons q ps ih =>
    intro s p hp hup
    rw [List.foldl_cons]
    by_cases hq : p = q
    · subst hq
      have link : s.linkUp p = true := by
        change s.get F.WIN_PORT_STAT_state p = 3 ∨ s.get F.WIN_PORT_STAT_state p = 4 at hup
        rcases hup with h | h <;> simp [State.linkUp, h]
      exact (State.tx_sent link (ho p)).txAll o ps
    · obtain ⟨vs, l, h⟩ := s.tx_eq q (o q)
      refine ih ((List.mem_cons.1 hp).resolve_left hq) ?_
      rw [h]
      exact hup

/-! ## Notices -/

theorem State.sendNotice_eq (s : State) (n : EndNotice) : ∃ ps l,
    s.sendNotice n = { s with rst := { s.rst with lastNotice := s.time }, ports := ps, out := l } := by
  unfold State.sendNotice
  dsimp only
  split
  · exact ⟨s.ports, s.out, rfl⟩
  · exact State.txAll_eq (fun p => .ctl p (.endpointNotice n)) _ _

/-- While no rail of the ports is lost, a notice is sent on every port that is up. -/
theorem State.sendNotice_sent {s : State} (h5 : s.thm.rail ≠ some 5) (h6 : s.thm.rail ≠ some 6) (n : EndNotice) {p : Nat} (hp : p < 64)
    (hup : s.portState p = 3 ∨ s.portState p = 4) : (s.sendNotice n).sent p (.ctl p (.endpointNotice n)) := by
  have mem : p ∈ s.upPorts := List.mem_filter.2 ⟨List.mem_range.2 hp, by simpa using hup⟩
  unfold State.sendNotice
  dsimp only
  rw [if_neg (not_or.2 ⟨h5, h6⟩)]
  exact State.txAll_sent (fun p => .ctl p (.endpointNotice n)) (fun _ => rfl) _ mem hup

theorem State.ownNotice_node (s : State) : s.ownNotice.node = s.ownNode := by
  unfold State.ownNotice
  split_ifs <;> rfl

theorem State.ownNotice_kind (s : State) : s.ownNotice.kind ≠ .ready := by
  unfold State.ownNotice
  split_ifs <;> exact nofun

/-- The keepers repeat the notice on every port that is up, 10 ms after the one before. -/
theorem exec_endpointNoticeTimer {s : State} (h : s.kept = true) : exec .endpointNoticeTimer s =
    .next ((s.due (s.rst.lastNotice + 10000000)).sendNotice (s.due (s.rst.lastNotice + 10000000)).ownNotice) := by
  change execEndpointNoticeTimer s = _
  rw [execEndpointNoticeTimer, h]
  rfl

theorem noticeTimer_kept (s : State) (hk : s.kept = true) : Gives .endpointNoticeTimer s fun t =>
    s.rst.lastNotice + 10000000 ≤ t.time ∧ t.rst = { s.rst with lastNotice := t.time } ∧
    (s.thm.rail ≠ some 5 → s.thm.rail ≠ some 6 → ∀ p < 64, s.portState p = 3 ∨ s.portState p = 4 →
      ∃ n : EndNotice, n.node = s.ownNode ∧ n.kind ≠ .ready ∧
        (Out.ctl p (.endpointNotice n) ∈ t.out ∨ Out.ctl p (.endpointNotice n) ∈ (t.port p).txWait)) ∧
    t = { s with time := t.time, rst := t.rst, ports := t.ports, out := t.out } := by
  let u := s.due (s.rst.lastNotice + 10000000)
  obtain ⟨ps, l, h⟩ := u.sendNotice_eq u.ownNotice
  refine ⟨_, exec_endpointNoticeTimer hk, ?_, ?_, fun h5 h6 p hp hup => ?_, ?_⟩
  · rw [h]
    exact le_max_right _ _
  · rw [h]
    rfl
  · exact ⟨u.ownNotice, u.ownNotice_node, u.ownNotice_kind, u.sendNotice_sent h5 h6 _ hp hup⟩
  · rw [h]
    rfl

theorem noticeTimer_not_kept (s : State) (hk : s.kept = false) : exec .endpointNoticeTimer s = .next s := by
  change execEndpointNoticeTimer s = _
  rw [execEndpointNoticeTimer, hk]
  rfl

end Sys2Proof.Machine

/-! SUPPORT. The takeover of a chip reset and of a power cycle (R338, R348, R355): the keepers' notice, the hub emptied, the epoch. -/

namespace Sys2Proof.Machine

/-! ## The notice at the takeover (R350) -/

/-- The control of resets once the keepers have taken the device over. -/
def State.takenOver (s : State) (r : RReq) : ResetCtl :=
  { s.rst with prevEpoch := if s.rst.keepers then s.rst.prevEpoch else s.epoch, keepers := true, shut := false
               cause := r.cause, causeHeld := false, linkWait := false, lastNotice := s.time }

/-- The device as the keepers take it over, before they have said so. -/
def State.claimed (s : State) (r : RReq) : State :=
  { s with rst := { s.rst with prevEpoch := if s.rst.keepers then s.rst.prevEpoch else s.epoch, keepers := true, shut := false
                               cause := r.cause, causeHeld := false, linkWait := false } }

/-- The device as the keepers have taken it over and said so, on its ports and over I3C. -/
def State.announced (s : State) (r : RReq) : State :=
  let s := (s.claimed r).sendNotice (s.claimed r).ownNotice
  s.pldm (.resetStart s.rst.prevEpoch r.cause)

theorem State.announced_ctl (s : State) (r : RReq) : (s.announced r).ctl = { s with rst := s.takenOver r }.ctl := by
  obtain ⟨ps, l, h⟩ := (s.claimed r).sendNotice_eq (s.claimed r).ownNotice
  refine (State.pldm_ctl _ _).trans ?_
  rw [h]
  rfl

@[simp] theorem State.sendNotice_dram (s : State) (n : EndNotice) : (s.sendNotice n).mem.dram = s.mem.dram := by
  obtain ⟨ps, l, h⟩ := s.sendNotice_eq n
  rw [h]

@[simp] theorem State.announced_dram (s : State) (r : RReq) : (s.announced r).mem.dram = s.mem.dram :=
  (State.pldm_dram _ _).trans (State.sendNotice_dram _ _)

/-! ## The hub emptied (R338) -/

/-- What was under way at the units is cut short: a commit, a binding, retrainings, an update. -/
def State.interrupted (s : State) : State := ((s.commitReset.reflInterrupt).retrainsAfresh).cancelUpdate

/-- The hub without its work and with the registers that a reset keeps. -/
def State.emptied (s : State) : State := (((s.clearWork).keepRegs).monReset).colReset

@[simp] theorem State.interrupted_ctl (s : State) : s.interrupted.ctl = s.ctl := by
  simp only [State.interrupted, State.cancelUpdate_ctl, State.retrainsAfresh_ctl, State.reflInterrupt_ctl, State.commitReset_ctl]

@[simp] theorem State.interrupted_dram (s : State) : s.interrupted.mem.dram = s.mem.dram := by
  simp only [State.interrupted, State.cancelUpdate_dram, State.retrainsAfresh_dram, State.reflInterrupt_dram, State.commitReset_dram]

@[simp] theorem State.emptied_ctl (s : State) : s.emptied.ctl = s.ctl := by
  simp only [State.emptied, State.colReset_ctl, State.monReset_ctl, State.keepRegs_ctl, State.clearWork_ctl]

@[simp] theorem State.emptied_dram (s : State) : s.emptied.mem.dram = s.mem.dram := by
  rw [State.emptied, State.colReset_dram]
  exact s.clearWork_dram

/-- The queues, rings, sync objects and launches of a state. -/
def State.hubWork (s : State) : SMap Queue × SMap CRing × SMap Nat × List Launch := (s.queues, s.rings, s.sync, s.launches)

theorem State.clearWork_hubWork (s : State) : s.clearWork.hubWork = ([], [], [], []) := by
  unfold State.clearWork
  generalize (List.range 30).foldl (fun s e => s.engReset e) s = u
  rfl

theorem State.colReset_hubWork (s : State) : s.colReset.hubWork = s.hubWork := by
  have idle : ∀ u : State, ((List.range 8).foldl (fun s k => s.setSessState k 0) u).hubWork = u.hubWork := fun u =>
    foldl_keeps State.hubWork (fun s k => (rfl : (s.setSessState k 0).hubWork = s.hubWork)) _ u
  exact (idle { s with col := { s.col with sessions := [] } }).trans rfl

theorem State.keepRegs_hubWork (s : State) : s.keepRegs.hubWork = s.hubWork := rfl

theorem State.monReset_hubWork (s : State) : s.monReset.hubWork = s.hubWork := rfl

theorem State.emptied_hubWork (s : State) : s.emptied.hubWork = ([], [], [], []) := by
  rw [State.emptied, State.colReset_hubWork, State.monReset_hubWork, State.keepRegs_hubWork, State.clearWork_hubWork]

/-! ## The registers and units of the takeover (R346, R348) -/

/-- The registers of the takeover: the node ID is kept, the epoch advances, and ready and the stop's state go. -/
def State.takeoverRegs (s : State) (node asg : Nat) : State :=
  let s := (s.put F.FAB_NODE_ID_node node 0).put F.FAB_NODE_ID_assigned asg 0
  let s := (s.put F.HUB_RESET_STAT_epoch (nextEpoch s.epoch) 0).bump F.HUB_RESET_STAT_chip_resets 1 0
  (s.put F.HUB_BOOT_STATUS_ready 0 0).put F.THM_STOP_STAT_state 0 0

/-- The units of the takeover: the host is gone, the stacks refresh themselves, and the shares and the rails' steps are dropped. -/
def State.takeoverUnits (s : State) : State :=
  { s with
    host := { s.host with up := false, d3 := false, vfEnabled := false }
    mem := { s.mem with refresh := [0, 1, 2, 3], holds := [] }
    dump := { s.dump with frozen := [] }
    pwr := { s.pwr with stepAt := [], slow := [], parked := [], demand := [], taken := [], shares := [] }
    thm := { s.thm with step := 0, rail := none } }

theorem State.takeover_eq (s : State) (r : RReq) : s.takeover r = ((s.announced r).interrupted.emptied.takeoverRegs
    (s.announced r).interrupted.ownNode ((s.announced r).interrupted.get F.FAB_NODE_ID_assigned 0)).takeoverUnits := by
  delta State.takeover State.announced State.claimed State.interrupted State.emptied State.takeoverRegs State.takeoverUnits
  with_reducible rfl

theorem State.takeoverRegs_regsOnly (s : State) (node asg : Nat) : RegsOnly s (s.takeoverRegs node asg) :=
  ((((((RegsOnly.refl s).put _ _ _).put _ _ _).put _ _ _).put _ _ _).put _ _ _).put _ _ _

theorem State.takeoverRegs_get (s : State) (node asg : Nat) :
    (s.takeoverRegs node asg).epoch = nextEpoch s.epoch % 2 ^ 16 ∧ (s.takeoverRegs node asg).get F.HUB_BOOT_STATUS_ready 0 = 0 ∧
    (s.takeoverRegs node asg).get F.HUB_RESET_STAT_flush_incomplete 0 = s.get F.HUB_RESET_STAT_flush_incomplete 0 := by
  have epoch : ((s.put F.FAB_NODE_ID_node node 0).put F.FAB_NODE_ID_assigned asg 0).epoch = s.epoch := by
    simp (disch := decide) only [State.epoch, State.put_get_apart]
  unfold State.takeoverRegs
  dsimp only
  rw [epoch]
  refine ⟨?_, ?_, ?_⟩ <;>
    simp (disch := decide) only [State.epoch, State.put_get_apart, State.bump_get_apart, State.put_get_same] <;> rfl

/-- What the takeover of a chip reset leaves. -/
theorem State.takeover_gives (s : State) (r : RReq) :
    (s.takeover r).rst = s.takenOver r ∧ (s.takeover r).time = s.time ∧ (s.takeover r).epoch = nextEpoch s.epoch % 2 ^ 16 ∧
    (s.takeover r).get F.HUB_BOOT_STATUS_ready 0 = 0 ∧
    (s.takeover r).get F.HUB_RESET_STAT_flush_incomplete 0 = s.get F.HUB_RESET_STAT_flush_incomplete 0 ∧
    (s.takeover r).hubWork = ([], [], [], []) ∧ (s.takeover r).host.up = false ∧ (s.takeover r).mem.refresh = [0, 1, 2, 3] ∧
    (s.takeover r).mem.dram = s.mem.dram := by
  have ctl : (s.announced r).interrupted.emptied.ctl = { s with rst := s.takenOver r }.ctl := by
    rw [State.emptied_ctl, State.interrupted_ctl, State.announced_ctl]
  have dram : (s.announced r).interrupted.emptied.mem.dram = s.mem.dram := by
    rw [State.emptied_dram, State.interrupted_dram, State.announced_dram]
  generalize hu : (s.announced r).interrupted.emptied = u at ctl dram
  have work : u.hubWork = ([], [], [], []) := hu ▸ State.emptied_hubWork _
  rw [State.takeover_eq, hu]
  generalize (s.announced r).interrupted.ownNode = node
  generalize (s.announced r).interrupted.get F.FAB_NODE_ID_assigned 0 = asg
  have frame := u.takeoverRegs_regsOnly node asg
  obtain ⟨epoch, ready, flush⟩ := u.takeoverRegs_get node asg
  generalize u.takeoverRegs node asg = v at frame epoch ready flush
  refine ⟨(congrArg State.rst frame).trans (rst_of_ctl ctl), (congrArg State.time frame).trans ((time_of_ctl ctl).trans rfl), epoch.trans ?_, ready,
    flush.trans (get_of_ctl ctl (by decide) 0), (congrArg State.hubWork frame).trans work, rfl, rfl,
    (congrArg (·.mem.dram) frame).trans dram⟩
  rw [State.epoch, get_of_ctl ctl (by decide)]
  rfl

/-! ## The command (R346, R348) -/

theorem State.setStage_of_run {s : State} {r : RRun} (h : s.rst.run = some r) (n : Nat) :
    s.setStage n = { s with rst := { s.rst with run := some { r with stage := n } } } := by
  simp only [State.setStage, h]

section
variable {s : State} {r : RRun} (hr : s.rst.run = some r) (h1 : r.stage = 1)
include hr h1

/-- A reset whose work is at its end is taken over at once. -/
theorem exec_takeover_quiet (hk : r.req.kind = .chip ∨ r.req.kind = .powerCycle) (hq : s.quiet = true) :
    exec .chipResetTakeover s = .next
      (let u := s.putB F.HUB_RESET_STAT_flush_incomplete (!s.host.up) 0
      if r.req.kind = .powerCycle then u.cycleTakeover else ((u.takeover r.req).setStage 2).resetState 5) := by
  change execChipResetTakeover s = _
  simp only [execChipResetTakeover, hr, h1, hq]
  rw [if_neg (by simp [hk])]
  rfl

/-- Work that has not ended is cut off after 120 us. -/
theorem exec_takeover_cut (hk : r.req.kind = .chip) (hq : s.quiet = false) :
    exec .chipResetTakeover s = .next
      ((((((s.due (r.since + 120000)).putB F.HUB_RESET_STAT_flush_incomplete true 0).forceEnd).takeover r.req).setStage 2).resetState 5) := by
  change execChipResetTakeover s = _
  simp only [execChipResetTakeover, hr, h1, hq]
  rw [if_neg (by simp [hk]), hk]
  rfl

end

theorem State.putB_true_get (s : State) {f : Fld} (hf : 0 < f.width) (i : Nat) : (s.putB f true i).get f i = 1 := by
  rw [State.putB, State.put_get_same]
  exact Nat.mod_eq_of_lt (Nat.one_lt_two_pow (by omega))

/-- What the takeover of a chip reset leaves once its stage and state are shown. -/
theorem takeover_staged {u : State} {r : RRun} (hr : u.rst.run = some r) {t : State}
    (ht : t = ((u.takeover r.req).setStage 2).resetState 5) :
    t.rst = { u.takenOver r.req with run := some { r with stage := 2 } } ∧ t.time = u.time ∧ t.epoch = nextEpoch u.epoch % 2 ^ 16 ∧
    t.get F.HUB_RESET_STAT_state 0 = 5 ∧ t.get F.HUB_BOOT_STATUS_ready 0 = 0 ∧
    t.get F.HUB_RESET_STAT_flush_incomplete 0 = u.get F.HUB_RESET_STAT_flush_incomplete 0 ∧
    (t.queues = [] ∧ t.rings = [] ∧ t.sync = [] ∧ t.launches = []) ∧ t.host.up = false ∧ t.mem.refresh = [0, 1, 2, 3] ∧
    t.mem.dram = u.mem.dram := by
  obtain ⟨rst, time, epoch, ready, flush, work, host, refresh, dram⟩ := u.takeover_gives r.req
  generalize u.takeover r.req = v at rst time epoch ready flush work host refresh dram ht
  simp only [State.hubWork, Prod.mk.injEq] at work
  rw [State.setStage_of_run ((congrArg ResetCtl.run rst).trans hr), rst] at ht
  subst ht
  have shows : ∀ {f : Fld} (_ : f.code < 1024) (_ : f.code ≠ F.HUB_RESET_STAT_state.code),
      (State.resetState { v with rst := { u.takenOver r.req with run := some { r with stage := 2 } } } 5).get f 0 = v.get f 0 :=
    fun hf hs => State.put_get_apart _ (by decide) hf hs _ _ _
  exact ⟨rfl, time, (shows (by decide) (by decide)).trans epoch, State.put_get_same _ _ _ _, (shows (by decide) (by decide)).trans ready,
    (shows (by decide) (by decide)).trans flush, work, host, refresh, dram⟩

theorem takeover_quiet {s : State} {r : RRun} (hr : s.rst.run = some r) (h1 : r.stage = 1) (hkeep : s.rst.keepers = false)
    (hk : r.req.kind = .chip) (hq : s.quiet = true) (he : s.epoch < 0xFFFF) : Gives .chipResetTakeover s fun t =>
      t.rst.keepers = true ∧ t.rst.prevEpoch = s.epoch ∧ t.epoch = s.epoch + 1 ∧ t.rst.run = some { r with stage := 2 } ∧
      t.get F.HUB_RESET_STAT_state 0 = 5 ∧ t.get F.HUB_BOOT_STATUS_ready 0 = 0 ∧ t.queues = [] ∧ t.rings = [] ∧ t.sync = [] ∧
      t.launches = [] ∧ t.host.up = false ∧ t.mem.refresh = [0, 1, 2, 3] ∧ t.mem.dram = s.mem.dram ∧ t.time = s.time := by
  refine ⟨_, by rw [exec_takeover_quiet hr h1 (.inl hk) hq, if_neg (by rw [hk]; exact nofun)], ?_⟩
  generalize hu : s.putB F.HUB_RESET_STAT_flush_incomplete (!s.host.up) 0 = u
  have same : u.epoch = s.epoch := hu ▸ State.putB_get_apart s (by decide) (by decide) (by decide) _ _ _
  have frame : RegsOnly s u := hu ▸ rfl
  have hru : u.rst.run = some r := (congrArg (·.rst.run) frame).trans hr
  have keepers : u.rst.keepers = false := (congrArg (·.rst.keepers) frame).trans hkeep
  obtain ⟨rst, time, epoch, state, ready, -, ⟨queues, rings, sync, launches⟩, host, refresh, dram⟩ := takeover_staged hru rfl
  refine ⟨congrArg ResetCtl.keepers rst, ?_, ?_, congrArg ResetCtl.run rst, state, ready, queues, rings, sync, launches, host, refresh,
    dram.trans ((congrArg (·.mem.dram) frame).trans rfl), time.trans ((congrArg State.time frame).trans rfl)⟩
  · rw [rst, State.takenOver, keepers]
    exact same
  · rw [epoch, same, nextEpoch_of_lt he]

theorem takeover_cut {s : State} {r : RRun} (hr : s.rst.run = some r) (h1 : r.stage = 1) (hk : r.req.kind = .chip)
    (hq : s.quiet = false) : Gives .chipResetTakeover s fun t =>
      t.rst.keepers = true ∧ t.get F.HUB_RESET_STAT_flush_incomplete 0 = 1 ∧ t.queues = [] ∧ t.launches = [] ∧
      r.since + 120000 ≤ t.time := by
  refine ⟨_, exec_takeover_cut hr h1 hk hq, ?_⟩
  generalize hv : (s.due (r.since + 120000)).putB F.HUB_RESET_STAT_flush_incomplete true 0 = v
  have ctl : v.forceEnd.ctl = v.ctl := v.forceEnd_ctl
  have hrv : v.rst.run = some r := hv ▸ hr
  have late : r.since + 120000 ≤ v.time := hv ▸ le_max_right s.time _
  have cut : v.get F.HUB_RESET_STAT_flush_incomplete 0 = 1 := hv ▸ State.putB_true_get _ (by decide) 0
  obtain ⟨rst, time, -, -, -, flush, ⟨queues, -, -, launches⟩, -⟩ :=
    takeover_staged ((congrArg ResetCtl.run (rst_of_ctl ctl)).trans hrv) rfl
  refine ⟨congrArg ResetCtl.keepers rst, ?_, queues, launches, ?_⟩
  · rw [flush, get_of_ctl ctl (by decide), cut]
  · rw [time, time_of_ctl ctl]
    exact late

/-- The takeover of a power cycle ends in the request for it. -/
theorem State.cycleTakeover_gives (s : State) :
    s.cycleTakeover.thm.cycleReq = true ∧ s.cycleTakeover.rst.cycleWait = true ∧ s.cycleTakeover.rst.keepers = true ∧
    s.cycleTakeover.rst.run = none ∧ s.cycleTakeover.get F.HUB_RESET_STAT_state 0 = 6 ∧ s.cycleTakeover.log.staged = [] ∧
    s.cycleTakeover.host.up = false ∧ s.cycleTakeover.mem.dram = s.mem.dram := by
  let u : State := { s with rst := { s.rst with prevEpoch := if s.rst.keepers then s.rst.prevEpoch else s.epoch, keepers := true
                                                shut := false, cycleWait := true } }
  obtain ⟨ps, l, h⟩ := u.sendNotice_eq u.ownNotice
  let v : State := u.sendNotice u.ownNotice
  have shape : s.cycleTakeover = { v with host := { v.host with up := false } }.askCycle := rfl
  obtain ⟨cycle, rst, staged, state, mem, host⟩ := State.askCycle_gives { v with host := { v.host with up := false } }
  have keepers : v.rst.keepers = true := by simp only [v, h, u]
  rw [shape]
  refine ⟨cycle, congrArg ResetCtl.cycleWait rst, (congrArg ResetCtl.keepers rst).trans keepers, congrArg ResetCtl.run rst, state, staged,
    congrArg HostLink.up host, ?_⟩
  rw [mem]
  exact State.sendNotice_dram _ _

theorem takeover_cycle {s : State} {r : RRun} (hr : s.rst.run = some r) (h1 : r.stage = 1) (hk : r.req.kind = .powerCycle)
    (hq : s.quiet = true) : Gives .chipResetTakeover s fun t =>
      t.thm.cycleReq = true ∧ t.rst.cycleWait = true ∧ t.rst.keepers = true ∧ t.rst.run = none ∧ t.get F.HUB_RESET_STAT_state 0 = 6 ∧
      t.log.staged = [] ∧ t.host.up = false ∧ t.mem.dram = s.mem.dram :=
  ⟨_, by rw [exec_takeover_quiet hr h1 (.inr hk) hq, if_pos hk],
    State.cycleTakeover_gives (s.putB F.HUB_RESET_STAT_flush_incomplete (!s.host.up) 0)⟩

end Sys2Proof.Machine

/-! SUPPORT. The stages of a chip reset in the order of Table 1.11 (R31, R346-R348). -/

namespace Sys2Proof.Machine

/-! ## What the stages' work leaves -/

@[simp] theorem State.trainBundle_ctl (s : State) (b : Nat) (bad : List Nat) : (s.trainBundle b bad).ctl = s.ctl := by
  unfold State.trainBundle
  simp (disch := decide) only [State.put_ctl]
  rfl

@[simp] theorem State.trainBundles_ctl (s : State) (first n : Nat) (short : ShortLanes) : (s.trainBundles first n short).ctl = s.ctl := by
  unfold State.trainBundles
  exact foldl_keeps State.ctl (fun s k => s.trainBundle_ctl _ _) _ s

@[simp] theorem State.trainBundles_mem (s : State) (first n : Nat) (short : ShortLanes) : (s.trainBundles first n short).mem = s.mem := by
  unfold State.trainBundles
  exact foldl_keeps State.mem (fun s k => (rfl : (s.trainBundle _ _).mem = s.mem)) _ s

@[simp] theorem State.d2dEvent_ctl (s : State) (b : Nat) : (s.d2dEvent b).ctl = s.ctl := s.logEvent_ctl _ _ _

@[simp] theorem State.d2dEvent_mem (s : State) (b : Nat) : (s.d2dEvent b).mem = s.mem := by
  obtain ⟨l, r, h⟩ := s.logEvent_eq 0x0001 b [b, s.linkHalves (linkOf b)]
  rw [State.d2dEvent, h]

@[simp] theorem State.reportWider_ctl (s0 s : State) : (s0.reportWider s).ctl = s.ctl := by
  unfold State.reportWider
  exact foldl_keeps State.ctl (fun s b => ctl_ite (s.d2dEvent_ctl b) rfl) _ s

@[simp] theorem State.reportWider_mem (s0 s : State) : (s0.reportWider s).mem = s.mem := by
  unfold State.reportWider
  refine foldl_keeps State.mem (fun s b => ?_) _ s
  split
  · exact s.d2dEvent_mem b
  · rfl

@[simp] theorem State.logMem_ctl (s : State) (e : MemEvent) : (s.logMem e).ctl = s.ctl := s.logPut_ctl _

@[simp] theorem State.repairEvt_ctl (s : State) (i : Nat) : (s.repairEvt i).ctl = s.ctl := s.put_ctl (by decide) _ _

@[simp] theorem State.toRemapList_ctl (s : State) (e : RemapEntry) : (s.toRemapList e).ctl = s.ctl := rfl

@[simp] theorem State.dropLine_ctl (s : State) (stack row : Nat) : (s.dropLine stack row).ctl = s.ctl := by
  have kept : ∀ (f : State → Nat → Chan) (l : List Nat) (u : State), (l.foldl (fun s k => s.setChan k (f s k)) u).ctl = u.ctl :=
    fun f l u => foldl_keeps State.ctl (fun s k => (rfl : (s.setChan k (f s k)).ctl = s.ctl)) l u
  unfold State.dropLine
  exact (kept _ _ _).trans rfl

@[simp] theorem State.retireLine_ctl (s : State) (i row : Nat) : (s.retireLine i row).ctl = s.ctl := by
  unfold State.retireLine
  refine ctl_ite rfl ?_
  simp only [State.toRemapList_ctl, State.logMem_ctl]
  exact (foldl_keeps State.ctl (fun s k => ctl_ite (s.repairEvt_ctl k) rfl) _ _).trans (s.dropLine_ctl _ _)

@[simp] theorem State.setChan_ctl (s : State) (i : Nat) (c : Chan) : (s.setChan i c).ctl = s.ctl := rfl

@[simp] theorem State.rowNext_ctl (s : State) (i key : Nat) : (s.rowNext i key).ctl = s.ctl := by
  unfold State.rowNext
  dsimp only
  split
  · rfl
  · rfl
  · rfl
  · exact s.retireLine_ctl _ _

@[simp] theorem State.rowCopyEnds_ctl (s : State) (i : Nat) (x : RowCopy) (xs : List RowCopy) : (s.rowCopyEnds i x xs).ctl = s.ctl := by
  simp only [State.rowCopyEnds, State.toRemapList_ctl, State.repairEvt_ctl, State.logMem_ctl, State.setChan_ctl]

@[simp] theorem State.pendingRemap_ctl (s : State) (i key : Nat) : (s.pendingRemap i key).ctl = s.ctl := by
  unfold State.pendingRemap
  dsimp only
  split
  · exact s.rowNext_ctl i key
  · exact (State.rowCopyEnds_ctl _ _ _ _).trans (s.rowNext_ctl i key)

@[simp] theorem State.remapPending_ctl (s : State) : s.remapPending.ctl = s.ctl := by
  unfold State.remapPending
  exact foldl_keeps State.ctl (fun s e => (foldl_keeps State.ctl (fun s k => s.pendingRemap_ctl _ k) _ _).trans (s.setChan_ctl _ _)) _ s

/-! ## The stages -/

section
variable {s : State} {r : RRun} (hr : s.rst.run = some r) (hk : r.req.kind = .chip)
include hr hk

theorem stage_image (h : r.stage = 2) : Gives (.chipResetStageDone (.image true true)) s fun t =>
    t.rst.run = some { r with stage := 3 } ∧ t.rst.stored = some s.epoch ∧ t = { s with rst := t.rst } := by
  have ends : exec (.chipResetStageDone (.image true true)) s = .next ((s.storeEpoch s.epoch true).setStage 3) := by
    change execChipResetStageDone _ s = _
    simp only [execChipResetStageDone, hr, hk, h]
    rfl
  have run : (s.storeEpoch s.epoch true).rst.run = some r := hr
  refine ⟨_, ends.trans (congrArg _ (State.setStage_of_run run 3)), rfl, ?_, rfl⟩
  cases hb : s.rst.lastB <;> simp [State.storeEpoch, ResetCtl.stored, hb]

theorem stage_image_wrong (h : r.stage = 2) (hn : s.noFollowers) (hp : s.boot.resetPending = false) :
    Gives (.chipResetStageDone (.image false true)) s fun t =>
      t.boot.phase = .hold ∧ t.get F.HUB_BOOT_STATUS_cause 0 = 3 ∧ t.rst.run = none := by
  have ends : exec (.chipResetStageDone (.image false true)) s = .next ((s.finishReset 1).hold 3 0 [] true) := by
    change execChipResetStageDone _ s = _
    simp only [execChipResetStageDone, hr, hk, h]
    rfl
  obtain ⟨regs, l, o, frame⟩ := s.endedAlone_eq r.req 1
  have pending : (s.endedAlone r.req 1).boot.resetPending = false := (congrArg (·.boot.resetPending) frame).trans hp
  refine ⟨_, by rw [ends, State.finishReset_of_noFollowers hr hn, State.hold_of_not_pending _ _ _ _ _ pending], ?_, ?_, ?_⟩
  · rw [State.enterHold_boot]
    rfl
  · exact (State.enterHold_shows _ _ _ _ _).2.2.1
  · rw [State.enterHold_rst]
    rfl

theorem stage_identity (x : IdentityRead) (h : r.stage = 3) (hx : identityFails x = []) :
    exec (.chipResetStageDone (.identity x)) s = .next { s with rst := { s.rst with run := some { r with stage := 4 } } } := by
  change execChipResetStageDone _ s = _
  simp only [execChipResetStageDone, hr, hk, h, hx, State.setStage]
  rfl

theorem stage_d2d (short : ShortLanes) (h : r.stage = 4) (hb : (s.trainBundles 0 400 short).belowBoot = none) :
    Gives (.chipResetStageDone (.d2d short)) s fun t => t.rst.run = some { r with stage := 5 } ∧ t.mem = s.mem := by
  have ctl : (s.reportWider (s.trainBundles 0 400 short)).ctl = s.ctl := by
    rw [State.reportWider_ctl, State.trainBundles_ctl]
  have mem : (s.reportWider (s.trainBundles 0 400 short)).mem = s.mem := by
    rw [State.reportWider_mem, State.trainBundles_mem]
  have ends : exec (.chipResetStageDone (.d2d short)) s = .next
      (((s.reportWider (s.trainBundles 0 400 short)).setStage 5).resetState (if s.rst.causeHeld then 7 else 5)) := by
    change execChipResetStageDone _ s = _
    simp only [execChipResetStageDone, hr, hk, h, hb]
    rfl
  generalize s.reportWider (s.trainBundles 0 400 short) = u at ctl mem ends
  rw [State.setStage_of_run ((congrArg ResetCtl.run (rst_of_ctl ctl)).trans hr)] at ends
  exact ⟨_, ends, rfl, mem⟩

theorem stage_refreshExit (h : r.stage = 5) (hc : s.rst.causeHeld = false) : Gives (.chipResetStageDone (.refreshExit [])) s fun t =>
    t.mem.refresh = [] ∧ t.rst.run = some { r with stage := 6 } := by
  have ctl : (s.poisonSectors []).remapPending.ctl = s.ctl := (State.remapPending_ctl _).trans rfl
  let u : State := (s.poisonSectors []).remapPending
  let v : State := { u with mem := { u.mem with refresh := [] } }
  have ends : exec (.chipResetStageDone (.refreshExit [])) s = .next (v.setStage 6) := by
    change execChipResetStageDone _ s = _
    simp only [execChipResetStageDone, hr, hk, h, hc]
    rfl
  have run : v.rst.run = some r := (congrArg ResetCtl.run (rst_of_ctl ctl)).trans hr
  exact ⟨_, ends.trans (congrArg _ (State.setStage_of_run run 6)), rfl, rfl⟩

theorem stage_sram (h : r.stage = 6) : Gives (.chipResetStageDone .sram) s fun t =>
    t.spad = {} ∧ t.hubsp = {} ∧ t.acc = [] ∧ t.vreg = [] ∧ t.rst.run = some { r with stage := 7 } ∧ t.mem = s.mem := by
  let v : State := { s with spad := {}, hubsp := {}, arrays := [], acc := [], accBad := [], vreg := [] }
  have ends : exec (.chipResetStageDone .sram) s = .next (v.setStage 7) := by
    change execChipResetStageDone _ s = _
    simp only [execChipResetStageDone, hr, hk, h]
    rfl
  have run : v.rst.run = some r := hr
  exact ⟨_, ends.trans (congrArg _ (State.setStage_of_run run 7)), rfl, rfl, rfl, rfl, rfl, rfl⟩

/-- A result that is not the open stage's changes nothing. -/
theorem stage_other (x : IdentityRead) (h : r.stage = 6) : exec (.chipResetStageDone (.identity x)) s = .next s := by
  change execChipResetStageDone _ s = _
  simp only [execChipResetStageDone, hr, hk, h]
  rfl

end

end Sys2Proof.Machine

/-! SUPPORT. The handover at the end of a chip reset (R338, R349): clocks, monitors, ports, and the device ready. -/

namespace Sys2Proof.Machine

/-! ## The clocks and the monitors -/

@[simp] theorem State.startClock_ctl (s : State) (c : Nat) : (s.startClock c).ctl = s.ctl :=
  (State.put_ctl _ (by decide) _ _).trans rfl

/-- The array clock runs at a step of 50 MHz from 600 MHz. -/
def State.clockRuns (s : State) (c : Nat) : Prop :=
  600 ≤ s.get F.HUB_ARRAY_CLK_current_mhz c ∧ s.get F.HUB_ARRAY_CLK_current_mhz c % 50 = 0

/-- Starting a clock sets its frequency, at a step from 600 to 2000 MHz, and draws on the free choice. -/
theorem State.startClock_eq (s : State) (c : Nat) : ∃ n, n ≤ 28 ∧
    s.startClock c = State.put { s with freeCtr := s.freeCtr + 1 } F.HUB_ARRAY_CLK_current_mhz (600 + n * 50) c := by
  refine ⟨_, ?_, rfl⟩
  generalize State.get _ F.HUB_ARRAY_CLK_ceiling_mhz c = ceiling
  have := Nat.mod_lt s.draw.1 (Nat.succ_pos ((min 2000 ceiling - 600) / 50))
  exact Nat.le_of_lt_succ (Nat.lt_of_lt_of_le this (by omega))

theorem State.startClock_runs (s : State) (c : Nat) : (s.startClock c).clockRuns c := by
  obtain ⟨n, hn, h⟩ := s.startClock_eq c
  have reads : (s.startClock c).get F.HUB_ARRAY_CLK_current_mhz c = 600 + n * 50 := by
    rw [h, State.put_get_same]
    exact Nat.mod_eq_of_lt (show _ < 2 ^ 12 by omega)
  constructor <;> rw [reads] <;> omega

theorem State.clockRuns.startClock {s : State} {c : Nat} (h : s.clockRuns c) (k : Nat) : (s.startClock k).clockRuns c := by
  by_cases hc : c = k
  · subst hc
    exact s.startClock_runs c
  · have reads : (s.startClock k).get F.HUB_ARRAY_CLK_current_mhz c = s.get F.HUB_ARRAY_CLK_current_mhz c :=
      (State.put_get_other _ fun e => hc (Fld.key_inj.1 e)).trans rfl
    unfold State.clockRuns
    rw [reads]
    exact h

theorem State.startClock_get_apart (s : State) (c : Nat) {f : Fld} (hf : f.code < 1024) (h : f.code ≠ F.HUB_ARRAY_CLK_current_mhz.code)
    (i : Nat) : (s.startClock c).get f i = s.get f i :=
  (State.put_get_apart _ (by decide) hf h _ _ _).trans rfl

theorem State.startClocks_run (cs : List Nat) : ∀ {s : State} {c : Nat}, c ∈ cs ∨ s.clockRuns c →
    (cs.foldl (fun s c => s.startClock c) s).clockRuns c := by
  induction cs with
  | nil => exact fun h => h.resolve_left List.not_mem_nil
  | cons k cs ih =>
    intro s c h
    refine ih ?_
    rcases h with h | h
    · rcases List.mem_cons.1 h with rfl | h
      · exact .inr (s.startClock_runs c)
      · exact .inl h
    · exact .inr (h.startClock k)

@[simp] theorem State.monStart_ctl (s : State) : s.monStart.ctl = s.ctl := by
  unfold State.monStart
  exact foldl_keeps State.ctl (fun s u => ctl_ite (rfl : (s.setMonUnit u _).ctl = s.ctl) rfl) _ s

/-- Registers and memory of a state. -/
def State.held (s : State) : SMap Nat × StackMem := (s.regs, s.mem)

theorem State.monStart_held (s : State) : s.monStart.held = s.held := by
  unfold State.monStart
  refine foldl_keeps State.held (fun s u => ?_) _ s
  split <;> rfl

theorem State.get_of_held {s t : State} (h : t.held = s.held) (f : Fld) (i : Nat) : t.get f i = s.get f i :=
  congrArg (fun m => SMap.get f.reset m (f.key i)) (congrArg Prod.fst h)

theorem State.mem_of_held {s t : State} (h : t.held = s.held) : t.mem = s.mem := congrArg Prod.snd h

/-! ## The state that is handed over -/

/-- The device given back: the keepers are done, the node ID is unassigned, and clocks, monitors and ports start. -/
def State.givenBack (s : State) : State :=
  let s : State := { s with rst := { s.rst with keepers := false, readyOwed := true } }
  let s := (s.put F.FAB_NODE_ID_node 0 0).put F.FAB_NODE_ID_assigned 0 0
  let s := ((List.range 4).foldl (fun s c => s.startClock c) s).monStart
  s.sendHellos

/-- The control of resets once the device is given back. -/
def ResetCtl.givenBack (r : ResetCtl) : ResetCtl := { r with keepers := false, readyOwed := true }

@[simp] theorem State.sendHellos_ctl (s : State) : s.sendHellos.ctl = s.ctl := by
  obtain ⟨ps, l, h⟩ := s.sendHellos_eq
  rw [h]
  rfl

/-- The device with its node ID taken back, before its clocks start. -/
def State.unassigned (s : State) : State :=
  (State.put { s with rst := s.rst.givenBack } F.FAB_NODE_ID_node 0 0).put F.FAB_NODE_ID_assigned 0 0

theorem State.givenBack_eq (s : State) :
    s.givenBack = ((List.range 4).foldl (fun s c => s.startClock c) s.unassigned).monStart.sendHellos := by
  delta State.givenBack State.unassigned ResetCtl.givenBack
  with_reducible rfl

theorem State.givenBack_ctl (s : State) : s.givenBack.ctl = { s with rst := s.rst.givenBack }.ctl := by
  have clocks := foldl_keeps State.ctl (fun s c => s.startClock_ctl c) (List.range 4) s.unassigned
  rw [State.givenBack_eq, State.sendHellos_ctl, State.monStart_ctl, clocks, State.unassigned, State.put_ctl _ (by decide),
    State.put_ctl _ (by decide)]

theorem State.givenBack_gives (s : State) : s.givenBack.get F.FAB_NODE_ID_assigned 0 = 0 ∧ s.givenBack.mem = s.mem ∧
    ∀ c < 4, s.givenBack.clockRuns c := by
  have runs : ∀ c < 4, ((List.range 4).foldl (fun s c => s.startClock c) s.unassigned).clockRuns c := fun c hc =>
    State.startClocks_run _ (.inl (List.mem_range.2 hc))
  have node := foldl_keeps (fun u : State => u.get F.FAB_NODE_ID_assigned 0)
    (fun s c => s.startClock_get_apart c (by decide) (by decide) 0) (List.range 4) s.unassigned
  have mem := foldl_keeps State.mem (fun s c => (rfl : (s.startClock c).mem = s.mem)) (List.range 4) s.unassigned
  rw [State.givenBack_eq, State.sendHellos_get, State.sendHellos_mem]
  generalize (List.range 4).foldl (fun s c => s.startClock c) s.unassigned = u at runs node mem ⊢
  have held := u.monStart_held
  refine ⟨?_, (State.mem_of_held held).trans mem, fun c hc => ?_⟩
  · rw [State.get_of_held held, node]
    exact State.put_get_same _ _ _ _
  · unfold State.clockRuns
    rw [State.sendHellos_get, State.get_of_held held]
    exact runs c hc

/-! ## Ready again -/

/-- The handover in service: it waits for the host link where the host is up again, and is ready at once otherwise. -/
def State.readyAfter (s : State) : State :=
  if s.boot.hostTrained && !s.boot.hostDark then { s with rst := { s.rst with linkWait := true } } else s.resetReady

theorem State.pldm_eq (s : State) (e : PldmEvent) : ∃ m l, s.pldm e = { s with mgmt := m, out := l } := by
  unfold State.pldm
  split
  · obtain ⟨l, h⟩ := State.emit_eq { s with mgmt := { s.mgmt with events := s.mgmt.events ++ [e] } } (.pldm e)
    exact ⟨_, l, h⟩
  · obtain ⟨l, h⟩ := State.emit_eq { s with mgmt := { s.mgmt with events := dropOldest s.mgmt.events ++ [e]
                                                                  eventDrops := s.mgmt.eventDrops + 1 } } (.pldm e)
    exact ⟨_, l, h⟩

theorem State.resetReady_eq (s : State) : ∃ m l, s.resetReady =
    { State.put { s with rst := { s.rst with linkWait := false } } F.HUB_BOOT_STATUS_ready 1 0 with mgmt := m, out := l } :=
  State.pldm_eq _ _

/-- Becoming ready or waiting for the link changes ready, the wait and the events to the board's controller alone. -/
theorem State.readyAfter_gives (s : State) :
    (∃ b, s.readyAfter.rst = { s.rst with linkWait := b }) ∧ s.readyAfter.mem = s.mem ∧ s.readyAfter.time = s.time ∧
    (∀ (f : Fld) (i : Nat), f.code < 1024 → f.code ≠ F.HUB_BOOT_STATUS_ready.code → s.readyAfter.get f i = s.get f i) ∧
    (s.boot.hostDark = true → s.readyAfter.get F.HUB_BOOT_STATUS_ready 0 = 1) := by
  unfold State.readyAfter
  split
  next h =>
    refine ⟨⟨true, rfl⟩, rfl, rfl, fun _ _ _ _ => rfl, fun hd => ?_⟩
    simp [hd] at h
  next =>
    obtain ⟨m, l, h⟩ := s.resetReady_eq
    rw [h]
    let v : State := { s with rst := { s.rst with linkWait := false } }
    exact ⟨⟨false, rfl⟩, rfl, rfl,
      fun f i hf hr => v.put_get_apart (f := F.HUB_BOOT_STATUS_ready) (by decide) hf hr 1 0 i,
      fun _ => v.put_get_same F.HUB_BOOT_STATUS_ready 1 0⟩

/-! ## The command -/

theorem exec_windowHandover {s : State} {r : RRun} (hr : s.rst.run = some r) (hk : r.req.kind = .chip) (h7 : r.stage = 7)
    (hp : s.boot.phase = .ready) : exec .windowHandover s = .next (s.givenBack.readyAfter.finishReset 0) := by
  have phase : s.givenBack.boot.phase = .ready := (congrArg Boot.phase (boot_of_ctl s.givenBack_ctl)).trans hp
  have step : ∀ u : State, u.boot.phase = .ready → (if u.boot.phase = .ready then
      if u.boot.hostTrained && !u.boot.hostDark then { u with rst := { u.rst with linkWait := true } } else u.resetReady
    else ((u.markDone 6).markDone 7).bootStep 10) = u.readyAfter := fun u hu => if_pos hu
  rw [← step _ phase]
  change execWindowHandover s = _
  delta execWindowHandover
  rw [hr]
  dsimp only
  rw [if_neg (by simp [hk, h7])]
  delta State.givenBack
  with_reducible rfl

/-- The end of a reset leaves every register but its own and the log's as it reads. -/
theorem State.endedAlone_get_apart (s : State) (r : RReq) (result : Nat) {f : Fld} (hf : f.offLog = true)
    (hn : ∀ g ∈ [F.HUB_RESET_STAT_state, F.HUB_RESET_STAT_last_kind, F.HUB_RESET_STAT_last_target, F.HUB_RESET_STAT_last_result,
      F.HUB_RESET_STAT_done_evt], f.code ≠ g.code) (i : Nat) : (s.endedAlone r result).get f i = s.get f i := by
  have lt : f.code < 1024 := by
    simp only [Fld.offLog, Bool.and_eq_true, decide_eq_true_eq] at hf
    exact hf.1
  simp only [List.forall_mem_cons] at hn
  obtain ⟨state, kind, target, res, done, -⟩ := hn
  rw [s.endedAlone_get r result hf state, State.showEnd, State.put_get_apart _ (by decide) lt done,
    State.put_get_apart _ (by decide) lt res, State.put_get_apart _ (by decide) lt target, State.put_get_apart _ (by decide) lt kind]

theorem windowHandover_gives {s : State} {r : RRun} (hr : s.rst.run = some r) (hk : r.req.kind = .chip) (h7 : r.stage = 7)
    (hn : s.noFollowers) (hp : s.boot.phase = .ready) : Gives .windowHandover s fun t =>
      t.rst.keepers = false ∧ t.rst.run = none ∧ t.get F.FAB_NODE_ID_assigned 0 = 0 ∧ ShowsEnd t 4 (r.req.target % 2 ^ 12) 0 ∧
      t.get F.HUB_RESET_STAT_state 0 = 0 ∧ t.epoch = s.epoch ∧ t.mem = s.mem ∧ t.time = s.time ∧
      (s.boot.hostDark = true → t.get F.HUB_BOOT_STATUS_ready 0 = 1) ∧
      (∀ c < 4, 600 ≤ t.get F.HUB_ARRAY_CLK_current_mhz c ∧ t.get F.HUB_ARRAY_CLK_current_mhz c % 50 = 0) := by
  have ctl := s.givenBack_ctl
  obtain ⟨node, mem, clocks⟩ := s.givenBack_gives
  have ends := exec_windowHandover hr hk h7 hp
  generalize s.givenBack = u at ctl node mem clocks ends
  obtain ⟨⟨b, rst⟩, mem', time, get, ready⟩ := u.readyAfter_gives
  have rst0 : u.rst = s.rst.givenBack := rst_of_ctl ctl
  have epoch : u.get F.HUB_RESET_STAT_epoch 0 = s.epoch := (get_of_ctl ctl (by decide) 0).trans rfl
  have dark : u.boot = s.boot := (boot_of_ctl ctl).trans rfl
  have since : u.time = s.time := (time_of_ctl ctl).trans rfl
  rw [rst0] at rst
  generalize u.readyAfter = v at rst mem' time get ready ends
  have run : v.rst.run = some r := (congrArg ResetCtl.run rst).trans hr
  have none' : v.noFollowers := by
    obtain ⟨queue, absorbed, chain⟩ := hn
    exact ⟨(congrArg ResetCtl.queue rst).trans queue, (congrArg ResetCtl.absorbed rst).trans absorbed,
      (congrArg ResetCtl.chain rst).trans chain⟩
  rw [State.finishReset_of_noFollowers run none'] at ends
  obtain ⟨shows, state⟩ := v.endedAlone_shows r.req (result := 0) (by decide)
  refine ⟨_, ends, (congrArg ResetCtl.keepers (v.endedAlone_rst _ _)).trans (congrArg ResetCtl.keepers rst),
    congrArg ResetCtl.run (v.endedAlone_rst _ _), ?_, ?_, state, ?_,
    ?_, ?_, fun hd => ?_, fun c hc => ?_⟩
  · rw [State.endedAlone_get_apart _ _ _ (by decide) (by decide), get _ _ (by decide) (by decide), node]
  · rw [hk] at shows
    exact shows
  · rw [State.epoch, State.endedAlone_get_apart _ _ _ (by decide) (by decide), get _ _ (by decide) (by decide), epoch]
  · exact (v.endedAlone_mem _ _).trans (mem'.trans mem)
  · exact (v.endedAlone_time _ _).trans (time.trans since)
  · rw [State.endedAlone_get_apart _ _ _ (by decide) (by decide)]
    exact ready ((congrArg Boot.hostDark dark).trans hd)
  · rw [State.endedAlone_get_apart _ _ _ (by decide) (by decide), get _ _ (by decide) (by decide)]
    exact clocks c hc

end Sys2Proof.Machine

/-! SUPPORT. Resets that miss their limit (R342, Table 12.1): the failure, the escalation, and the chip that stays held. -/

namespace Sys2Proof.Machine

/-! ## The start of a partition reset (R345) -/

theorem State.freezeReplay_get (s : State) (x : Nat) {f : Fld} (hf : f.code < 1024) (h : f.code ≠ F.HUB_CTX_REPLAY_frozen.code) (i : Nat) :
    (s.freezeReplay x).get f i = s.get f i := by
  unfold State.freezeReplay
  split
  · exact State.put_get_apart _ (by decide) hf h _ _ _
  · rfl

@[simp] theorem State.dumpMark_ctl (s : State) (codes : List Nat) : (s.dumpMark codes).ctl = s.ctl := by
  unfold State.dumpMark
  split
  · exact ctl_ite rfl rfl
  · rfl

theorem State.dumpMark_get (s : State) (codes : List Nat) (f : Fld) (i : Nat) : (s.dumpMark codes).get f i = s.get f i := by
  unfold State.dumpMark
  split
  · split <;> rfl
  · rfl

/-- The partition's engines with their replay frozen, and the dump told of it. -/
def State.partitionFrozen (s : State) (c : Nat) : State :=
  (List.range 4).foldl (fun s k => s.freezeEngine (4 * c + k)) (s.dumpMark ((0x70 + c) :: (List.range 4).map (fun k => 0x20 + 4 * c + k)))

theorem State.partitionFrozen_ctl (s : State) (c : Nat) : (s.partitionFrozen c).ctl = s.ctl := by
  unfold State.partitionFrozen
  exact (foldl_keeps State.ctl (fun s k => s.freezeEngine_ctl _) _ _).trans (s.dumpMark_ctl _)

theorem State.partitionFrozen_get (s : State) (c : Nat) {f : Fld} (hf : f.code < 1024) (h : f.code ≠ F.HUB_CTX_REPLAY_frozen.code)
    (i : Nat) : (s.partitionFrozen c).get f i = s.get f i := by
  have engine : ∀ (s : State) (e : Nat), (s.freezeEngine e).get f i = s.get f i := fun s e => by
    unfold State.freezeEngine
    exact foldl_keeps (fun s => s.get f i) (fun s x => s.freezeReplay_get x hf h i) _ s
  unfold State.partitionFrozen
  exact (foldl_keeps (fun s => s.get f i) (fun s k => engine s _) _ _).trans (s.dumpMark_get _ f i)

/-- A partition reset begins with its engines frozen, in its first stage and from now on. -/
theorem State.startReset_partition (s : State) {r : RReq} (hk : r.kind = .partition) : s.startReset r =
    State.resetState { s.partitionFrozen r.target with
      rst := { (s.partitionFrozen r.target).rst with
        run := some { req := r, stage := 1, since := (s.partitionFrozen r.target).time } } } 3 := by
  unfold State.startReset
  simp only [hk]
  unfold State.partitionFrozen
  rfl

/-! ## The failure (R342) -/

section
variable {s : State} {r : RRun}

theorem State.failReset_alone (hr : s.rst.run = some r) (he : r.req.escalate = false) (hn : s.noFollowers) : s.failReset =
    if r.req.kind = .chip then
      State.resetState { s.endedAlone r.req 1 with rst := { (s.endedAlone r.req 1).rst with heldFailed := true } } 7
    else s.endedAlone r.req 1 := by
  simp only [State.failReset, hr, he, State.finishReset_of_noFollowers hr hn]
  rfl

theorem RReq.next_of_engine (q : RReq) (hk : q.kind = .engine) (ht : q.target < 16) :
    q.next = { kind := .partition, target := q.target / 4, escalate := true, cause := 4 } := by
  simp only [RReq.next, hk, ht, if_true]

/-- An engine's reset that failed and may escalate is followed by its partition's. -/
theorem State.failReset_engine (hr : s.rst.run = some r) (he : r.req.escalate = true) (hk : r.req.kind = .engine) (ht : r.req.target < 16) :
    s.failReset = State.startReset { s.resetEnds r.req 2 with rst := { (s.resetEnds r.req 2).rst with run := none } }
      { kind := .partition, target := r.req.target / 4, escalate := true, cause := 4 } := by
  simp only [State.failReset, hr, he, hk, r.req.next_of_engine hk ht, Bool.not_true, Bool.false_eq_true, if_false]

/-- A reset that misses its limit fails at the limit's time. -/
theorem exec_limit (hr : s.rst.run = some r) (hc : s.rst.causeHeld = false) (h0 : ¬(r.req.kind = .chip ∧ r.stage = 0)) {n : Nat}
    (hl : r.req.kind.limit = some n) : exec .resetLimitExpire s = .next (s.due (r.since + n)).failReset := by
  change execResetLimitExpire s = _
  simp only [execResetLimitExpire, hr, hl, hc]
  rw [if_neg (by simpa using h0)]

theorem exec_limit_cycle (hr : s.rst.run = some r) (hk : r.req.kind = .powerCycle) : exec .resetLimitExpire s = .next s := by
  change execResetLimitExpire s = _
  simp only [execResetLimitExpire, hr, hk, RKind.limit]

variable (hr : s.rst.run = some r) (hc : s.rst.causeHeld = false)
include hr hc

theorem limit_engine (hk : r.req.kind = .engine) (he : r.req.escalate = false) (hn : s.noFollowers) : Gives .resetLimitExpire s fun t =>
    r.since + 1000000 ≤ t.time ∧ ShowsEnd t 2 (r.req.target % 2 ^ 12) 1 ∧ t.get F.HUB_RESET_STAT_state 0 = 0 ∧
    t.rst = { s.rst with run := none } ∧ t.mem = s.mem := by
  let u := s.due (r.since + 1000000)
  have fails : u.failReset = u.endedAlone r.req 1 := (State.failReset_alone (s := u) hr he hn).trans (if_neg (by simp [hk]))
  obtain ⟨shows, state⟩ := u.endedAlone_shows r.req (result := 1) (by decide)
  rw [hk] at shows
  have time : (u.endedAlone r.req 1).time = u.time := u.endedAlone_time _ _
  refine ⟨_, (exec_limit hr hc (by simp [hk]) (by rw [hk]; rfl)).trans (congrArg _ fails), ?_, shows, state,
    u.endedAlone_rst _ _, u.endedAlone_mem _ _⟩
  rw [time]
  exact le_max_right _ _

theorem limit_partition (hk : r.req.kind = .partition) (he : r.req.escalate = false) (hn : s.noFollowers) :
    Gives .resetLimitExpire s fun t => r.since + 20000000 ≤ t.time ∧ ShowsEnd t 3 (r.req.target % 2 ^ 12) 1 := by
  let u := s.due (r.since + 20000000)
  have fails : u.failReset = u.endedAlone r.req 1 := (State.failReset_alone (s := u) hr he hn).trans (if_neg (by simp [hk]))
  obtain ⟨shows, -⟩ := u.endedAlone_shows r.req (result := 1) (by decide)
  rw [hk] at shows
  have time : (u.endedAlone r.req 1).time = u.time := u.endedAlone_time _ _
  refine ⟨_, (exec_limit hr hc (by simp [hk]) (by rw [hk]; rfl)).trans (congrArg _ fails), ?_, shows⟩
  rw [time]
  exact le_max_right _ _

/-- A chip reset that fails leaves the device held. -/
theorem limit_chip (hk : r.req.kind = .chip) (h0 : 0 < r.stage) (he : r.req.escalate = false) (hn : s.noFollowers) :
    Gives .resetLimitExpire s fun t =>
      r.since + 500000000 ≤ t.time ∧ ShowsEnd t 4 (r.req.target % 2 ^ 12) 1 ∧ t.rst.heldFailed = true ∧
      t.get F.HUB_RESET_STAT_state 0 = 7 := by
  let u := s.due (r.since + 500000000)
  have fails := (State.failReset_alone (s := u) hr he hn).trans (if_pos hk)
  obtain ⟨shows, -⟩ := u.endedAlone_shows r.req (result := 1) (by decide)
  rw [hk] at shows
  have time : (u.endedAlone r.req 1).time = u.time := u.endedAlone_time _ _
  generalize u.endedAlone r.req 1 = v at fails shows time
  refine ⟨_, (exec_limit hr hc (by omega) (by rw [hk]; rfl)).trans (congrArg _ fails), ?_, shows.of_get fun f hf => ?_, rfl,
    State.put_get_same _ _ _ _⟩
  · change _ ≤ v.time
    rw [time]
    exact le_max_right _ _
  · have apart := (by decide : ∀ g ∈ [F.HUB_RESET_STAT_last_kind, F.HUB_RESET_STAT_last_target, F.HUB_RESET_STAT_last_result,
      F.HUB_RESET_STAT_done_evt], g.code < 1024 ∧ g.code ≠ F.HUB_RESET_STAT_state.code) f hf
    exact (State.put_get_apart _ (by decide) apart.1 apart.2 _ _ _).trans rfl

theorem limit_engine_escalates (hk : r.req.kind = .engine) (he : r.req.escalate = true) (ht : r.req.target < 16) :
    Gives .resetLimitExpire s fun t =>
      r.since + 1000000 ≤ t.time ∧ ShowsEnd t 2 r.req.target 2 ∧ t.get F.HUB_RESET_STAT_state 0 = 3 ∧
      t.rst.run =
        some { req := { kind := .partition, target := r.req.target / 4, escalate := true, cause := 4 }, stage := 1, since := t.time } := by
  let u := s.due (r.since + 1000000)
  let next : RReq := { kind := .partition, target := r.req.target / 4, escalate := true, cause := 4 }
  let v : State := { u.resetEnds r.req 2 with rst := { (u.resetEnds r.req 2).rst with run := none } }
  have fails : u.failReset = v.startReset next := State.failReset_engine (s := u) hr he hk ht
  rw [State.startReset_partition v rfl] at fails
  obtain ⟨regs, l, o, frame⟩ := u.resetEnds_eq r.req 2
  have shows : ShowsEnd v 2 (r.req.target % 2 ^ 12) 2 := by
    have ends := u.resetEnds_shows r.req (result := 2) (by decide)
    rw [hk] at ends
    exact ends
  rw [Nat.mod_eq_of_lt (by omega)] at shows
  have time : (v.partitionFrozen next.target).time = u.time :=
    (time_of_ctl (v.partitionFrozen_ctl _)).trans ((congrArg State.time frame).trans rfl)
  have get : ∀ {f : Fld} (i : Nat), f.code < 1024 → f.code ≠ F.HUB_CTX_REPLAY_frozen.code →
      (v.partitionFrozen next.target).get f i = v.get f i := fun i hf h => v.partitionFrozen_get _ hf h i
  generalize v.partitionFrozen next.target = w at fails time get
  refine ⟨_, (exec_limit hr hc (by simp [hk]) (by rw [hk]; rfl)).trans (congrArg _ fails), ?_, shows.of_get fun f hf => ?_,
    State.put_get_same _ _ _ _, rfl⟩
  · change _ ≤ w.time
    rw [time]
    exact le_max_right _ _
  · have apart := (by decide : ∀ g ∈ [F.HUB_RESET_STAT_last_kind, F.HUB_RESET_STAT_last_target, F.HUB_RESET_STAT_last_result,
      F.HUB_RESET_STAT_done_evt], g.code < 1024 ∧ g.code ≠ F.HUB_RESET_STAT_state.code ∧ g.code ≠ F.HUB_CTX_REPLAY_frozen.code) f hf
    obtain ⟨lt, state, frozen⟩ := apart
    exact (State.put_get_apart _ (by decide) lt state _ _ _).trans (get 0 lt frozen)

end

end Sys2Proof.Machine

/-! O51: chip resets, power cycles, limits and notices (R41, R338-R350, R355, R360, R364, Table 1.11, Table 12.1). -/

namespace Sys2Proof.Machine

/-- Settles O51: requests start the quiesce, a dump or bring-up afresh; the takeover, the stages and the handover follow; what misses its
limit fails or escalates; and the keepers' notice goes out on every port that is up. -/
theorem chipResets : Obligations.ChipResets := by
  unfold Obligations.ChipResets
  refine ⟨⟨fun s w ha hp hi hw hdump => ⟨chipReset_quiesces ha hp hi hw hdump, chipReset_dumps ha hp hi⟩,
    fun s w ha => exec_chipReset_early ha, fun s w ha hp => chipReset_hold ha hp,
    fun s w ha hp hi hw hdump => powerCycle_quiesces ha hp hi hw hdump,
    fun s hm hi hw hdump hk => ⟨pldmChipReset_quiesces hm hi hw hdump hk, pldmPowerCycle_quiesces hm hi hw hdump hk,
      pldmPowerCycle_hold hm hi⟩,
    fun s r hr h1 hk => ⟨takeover_quiet hr h1 hk, takeover_cut hr h1, takeover_cycle hr h1⟩,
    fun s r hr hk => ⟨stage_image hr hk, stage_image_wrong hr hk, stage_identity hr hk, stage_d2d hr hk, stage_refreshExit hr hk,
      stage_sram hr hk, fun h x => stage_other hr hk x h, windowHandover_gives hr hk⟩⟩,
    fun s r hr hc => ⟨limit_engine hr hc, limit_engine_escalates hr hc, limit_partition hr hc, limit_chip hr hc,
      exec_limit_cycle hr⟩,
    noticeTimer_kept, noticeTimer_not_kept⟩

end Sys2Proof.Machine

/-! SUPPORT. Array clocks (R46, R311): the ceiling as a write leaves it, and what one step of the clock can do. -/

namespace Sys2Proof.Machine

/-! ## The ceiling (R46) -/

/-- A ceiling as the device holds it fits its field. -/
theorem roundCeiling_le (v : Nat) : roundCeiling v ≤ 2000 := by
  simp only [roundCeiling, clampN]
  omega

theorem exec_arrayClkCeilingWrite {c : Fin 4} {j : Nat} {w : BarAcc} {s : State} (hr : Reaches s .HUB_ARRAY_CLK c w j)
    (ht : w.touches F.HUB_ARRAY_CLK_ceiling_mhz = true) :
    exec (.arrayClkCeilingWrite c w) s = .next (s.put F.HUB_ARRAY_CLK_ceiling_mhz
      (roundCeiling (w.merge F.HUB_ARRAY_CLK_ceiling_mhz (s.get F.HUB_ARRAY_CLK_ceiling_mhz j))) j) := by
  change execArrayClkCeilingWrite c w s = _
  rw [execArrayClkCeilingWrite, hr.onWrite, if_pos ht]

/-- The field takes the rounded ceiling whole, and nothing else changes. -/
theorem arrayClkCeilingWrite_gives {c : Fin 4} {j : Nat} {w : BarAcc} {s : State} (hr : Reaches s .HUB_ARRAY_CLK c w j)
    (ht : w.touches F.HUB_ARRAY_CLK_ceiling_mhz = true) :
    Gives (.arrayClkCeilingWrite c w) s fun t =>
      t.get F.HUB_ARRAY_CLK_ceiling_mhz j =
        roundCeiling (w.merge F.HUB_ARRAY_CLK_ceiling_mhz (s.get F.HUB_ARRAY_CLK_ceiling_mhz j)) ∧
      OnlyRegs [F.HUB_ARRAY_CLK_ceiling_mhz.key j] s t := by
  refine ⟨_, exec_arrayClkCeilingWrite hr ht, ?_, s.put_onlyRegs _ _ _⟩
  have fits := roundCeiling_le (w.merge F.HUB_ARRAY_CLK_ceiling_mhz (s.get F.HUB_ARRAY_CLK_ceiling_mhz j))
  rw [State.put_get_same]
  exact Nat.mod_eq_of_lt (fits.trans_lt (by decide))

/-! ## Steps of the clock (R46, R311) -/

theorem State.topClock_le (s : State) (c : Nat) : s.topClock c ≤ 2000 := Nat.min_le_left _ _

/-- The field holds every clock up to 2,000 MHz. -/
theorem State.setClock_get_of_le (s : State) (c : Nat) {f : Nat} (h : f ≤ 2000) :
    (s.setClock c f).get F.HUB_ARRAY_CLK_current_mhz c = f := by
  rw [State.setClock, State.put_get_same]
  exact Nat.mod_eq_of_lt (h.trans_lt (by decide))

/-- A running clock that is to fall does so by 50 MHz, a microsecond after its last step or later; no other falls. -/
theorem exec_arrayClockStep_down {c : Fin 4} {s : State} (hf : s.get F.HUB_ARRAY_CLK_current_mhz c ≠ 0) :
    exec (.arrayClockStep c false) s = .next (if s.clockFalls c
      then (s.due (SMap.get 0 s.pwr.stepAt c + 1000)).setClock c (s.get F.HUB_ARRAY_CLK_current_mhz c - 50) else s) := by
  change execArrayClockStep c false s = _
  simp [execArrayClockStep, hf]

theorem arrayClockStep_falls {c : Fin 4} {s : State} (hf : s.get F.HUB_ARRAY_CLK_current_mhz c ≠ 0)
    (hle : s.get F.HUB_ARRAY_CLK_current_mhz c ≤ 2000) (h : s.clockFalls c = true) :
    Gives (.arrayClockStep c false) s fun t =>
      t.get F.HUB_ARRAY_CLK_current_mhz c = s.get F.HUB_ARRAY_CLK_current_mhz c - 50 ∧
      SMap.get 0 s.pwr.stepAt c + 1000 ≤ t.time :=
  ⟨_, (exec_arrayClockStep_down hf).trans (congrArg _ (if_pos h)), State.setClock_get_of_le _ _ (by omega), Nat.le_max_right _ _⟩

/-- A step up leaves the device as it is, or, where the die is not throttled and 50 MHz more is a clock it may have, waits for its
moment and raises the clock by 50 MHz; what else it changes is the power controller's own. -/
theorem arrayClockStep_up_cases {c : Fin 4} {s t : State} (h : exec (.arrayClockStep c true) s = .next t) :
    t = s ∨ (s.throttled c = false ∧ s.get F.HUB_ARRAY_CLK_current_mhz c + 50 ≤ s.topClock c ∧
      ∃ x p, t = ((s.due x).setClock c (s.get F.HUB_ARRAY_CLK_current_mhz c + 50)).setPwr p) := by
  change execArrayClockStep c true s = _ at h
  simp only [execArrayClockStep, Bool.not_true, Bool.false_eq_true, if_false, Host.Outcome.next.injEq] at h
  split at h
  · exact .inl h.symm
  split at h
  · exact .inl h.symm
  next hmay =>
  simp only [not_or, Bool.not_eq_true, not_lt] at hmay
  obtain ⟨clear, top, -, -⟩ := hmay
  split at h
  · exact .inl h.symm
  rw [← apply_ite s.due] at h
  generalize ite (_ = 0) _ _ = x at h
  refine .inr ⟨clear, top, ?_⟩
  subst h
  split
  · exact ⟨_, _, rfl⟩
  · exact ⟨_, State.pwr _, rfl⟩

/-! ## The statement -/

/-- Settles O6: every clock that a step or a write leaves lies at or below 2,000 MHz, which its field holds. -/
theorem arrayClocks : Obligations.ArrayClocks := by
  unfold Obligations.ArrayClocks
  refine ⟨fun c j w s hr ht => arrayClkCeilingWrite_gives hr ht, fun c s hlow hhigh => ?_⟩
  have runs : s.get F.HUB_ARRAY_CLK_current_mhz c ≠ 0 := by omega
  refine ⟨arrayClockStep_falls runs hhigh, fun t h => ?_, fun h => ?_⟩
  · rcases arrayClockStep_up_cases h with rfl | ⟨clear, top, x, p, rfl⟩
    · exact .inl rfl
    · exact .inr ⟨State.setClock_get_of_le _ _ (top.trans (s.topClock_le c)), top, clear⟩
  · rw [exec_arrayClockStep_down runs, h, if_neg Bool.false_ne_true]

end Sys2Proof.Machine

/-! SUPPORT. Device time and calendar time (R49, R51): the latch of each function, calendar times asked for, and the crystal tick. -/

namespace Sys2Proof.Machine

/-! ## Reads of device time (R49) -/

/-- What does not leave through the host link leaves at once. -/
theorem State.emit_of_not_toHost (s : State) {o : Out} (h : o.toHost = false) : s.emit o = { s with out := o :: s.out } := by
  simp [State.emit, h]

theorem exec_deviceTimeLowRead {fn : Fin 16} {s : State} (h : s.hubUp = true) :
    exec (.deviceTimeLowRead fn) s = .next { s.put F.HUB_DEVICE_TIME_HI_high (s.time / 2 ^ 32 % 2 ^ 32) fn with
      out := .readData fn (s.time % 2 ^ 32) false :: s.out } := by
  change execDeviceTimeLowRead fn s = _
  simp only [execDeviceTimeLowRead, h, Bool.not_true, Bool.false_eq_true, if_false]
  rw [State.emit_of_not_toHost _ rfl]
  rfl

/-- The read takes both halves from one value, and only the latch of the function that reads changes. -/
theorem deviceTimeLowRead_latches {fn : Fin 16} {s : State} (h : s.hubUp = true) : Gives (.deviceTimeLowRead fn) s fun t =>
    t.out = .readData fn (s.time % 2 ^ 32) false :: s.out ∧
    t.get F.HUB_DEVICE_TIME_HI_high fn = s.time / 2 ^ 32 % 2 ^ 32 ∧
    t = { s with regs := t.regs, out := t.out } ∧ KeepsRegs [F.HUB_DEVICE_TIME_HI_high.key fn] s t :=
  ⟨_, exec_deviceTimeLowRead h, rfl, (s.put_get_same _ _ _).trans (Nat.mod_mod _ _), rfl, (s.put_onlyRegs _ _ _).2⟩

/-! ## Calendar times asked for (R51) -/

theorem exec_calendarSetWrite {w : BarAcc} {s : State} (hr : Reaches s .HUB_CALENDAR_SET 0 w 0) :
    exec (.calendarSetWrite w) s = .next (if w.size = 8
      then s.askCalendar (w.bits F.HUB_CALENDAR_SET_seconds) (w.bits F.HUB_CALENDAR_SET_fraction) .register
      else s.logEvent 0x000B 0 [s.calNow.word, s.calNow.word, 2]) := by
  change execCalendarSetWrite w s = _
  rw [execCalendarSetWrite, hr.onWrite]

/-- An 8-byte write puts its calendar time in the place of any asked for before; the calendar itself waits for the tick. -/
theorem calendarSetWrite_asks {w : BarAcc} {s : State} (hr : Reaches s .HUB_CALENDAR_SET 0 w 0) (hw : w.size = 8) :
    Gives (.calendarSetWrite w) s fun t => t = { s with cal := t.cal } ∧ t.cal.value = s.cal.value ∧
      t.cal.pending = some ({ valid := true, seconds := w.bits F.HUB_CALENDAR_SET_seconds % 2 ^ 48,
                              fraction := w.bits F.HUB_CALENDAR_SET_fraction % 2 ^ 15 }, .register) :=
  ⟨_, (exec_calendarSetWrite hr).trans (congrArg _ (if_pos hw)), rfl, rfl, rfl⟩

/-- A 4-byte write is logged and leaves the calendar and what was asked for. -/
theorem calendarSetWrite_half {w : BarAcc} {s : State} (hr : Reaches s .HUB_CALENDAR_SET 0 w 0) (hw : w.size = 4) :
    Gives (.calendarSetWrite w) s fun t => t = { s with log := t.log, regs := t.regs } := by
  obtain ⟨l, r, logged⟩ := s.logEvent_eq 0x000B 0 [s.calNow.word, s.calNow.word, 2]
  exact ⟨_, by rw [exec_calendarSetWrite hr, if_neg (by omega), logged], rfl⟩

theorem exec_pldmCalendarSet {sec : BitVec 48} {frac : BitVec 15} {s : State} (hm : s.mgmtUp = true) (hrom : s.romServes = false) :
    exec (.pldmCalendarSet sec frac) s = .next (s.askCalendar sec.toNat frac.toNat .i3c) := by
  change execPldmCalendarSet sec frac s = _
  simp [execPldmCalendarSet, hm, hrom]

/-- The effecter's operands fit the calendar whole. -/
theorem pldmCalendarSet_asks {sec : BitVec 48} {frac : BitVec 15} {s : State} (hm : s.mgmtUp = true) (hrom : s.romServes = false) :
    Gives (.pldmCalendarSet sec frac) s fun t => t = { s with cal := t.cal } ∧ t.cal.value = s.cal.value ∧
      t.cal.pending = some ({ valid := true, seconds := sec.toNat, fraction := frac.toNat }, .i3c) := by
  refine ⟨_, exec_pldmCalendarSet hm hrom, rfl, rfl, ?_⟩
  simp only [State.askCalendar, Nat.mod_eq_of_lt sec.isLt, Nat.mod_eq_of_lt frac.isLt]

/-! ## The crystal tick (R50, R51) -/

/-- With room in the staging buffer an event is staged last, under the next sequence number. -/
theorem State.logEvent_staged (s : State) (code unit : Nat) (args : List Nat) (h : s.log.staged.length < 8192) :
    ∃ e, (s.logEvent code unit args).log.staged = s.log.staged ++ [e] ∧ e.seq = s.log.nextSeq ∧
      e.body = .event code unit args := by
  refine ⟨{ seq := s.log.nextSeq, time := s.time, cal := s.calNow, epoch := s.epoch, body := .event code unit args }, ?_, rfl, rfl⟩
  simp [State.logEvent, State.logPut, h]

/-- The state at the moment x, with calendar time v set there. -/
def State.calendarSetAt (s : State) (x : Nat) (v : Calendar) : State :=
  { s.due x with cal := { value := v, at_ := (s.due x).time, pending := none } }

/-- At the tick what was asked for is set, and the record holds the calendar of the same moment before. -/
theorem exec_calendarSetApply {v : Calendar} {src : CalSource} {s : State} (h : s.cal.pending = some (v, src)) :
    exec .calendarSetApply s = .next ((s.calendarSetAt s.nextCalTick v).logEvent 0x000B 0
      [(s.due s.nextCalTick).calNow.word, v.word, src.code]) := by
  change execCalendarSetApply s = _
  simp only [execCalendarSetApply, h, State.calendarSetAt]

theorem calendarSetApply_sets {v : Calendar} {src : CalSource} {s : State} (h : s.cal.pending = some (v, src))
    (room : s.log.staged.length < 8192) : Gives .calendarSetApply s fun t =>
      t.cal.value = v ∧ t.cal.at_ = t.time ∧ t.cal.pending = none ∧ s.time ≤ t.time ∧
      (∃ e, t.log.staged = s.log.staged ++ [e] ∧ e.seq = s.log.nextSeq ∧
        e.body = .event 0x000B 0 [(s.due s.nextCalTick).calNow.word, v.word, src.code]) ∧
      t = { s with time := t.time, cal := t.cal, log := t.log, regs := t.regs } := by
  let u := s.calendarSetAt s.nextCalTick v
  let args := [(s.due s.nextCalTick).calNow.word, v.word, src.code]
  have staged := u.logEvent_staged 0x000B 0 args room
  obtain ⟨l, r, logged⟩ := u.logEvent_eq 0x000B 0 args
  rw [logged] at staged
  exact ⟨_, (exec_calendarSetApply h).trans (congrArg _ logged), rfl, rfl, rfl, Nat.le_max_left _ _, staged, rfl⟩

/-! ## The statement -/

/-- Settles O7: a read latches for its own function; a set waits as what was asked for last, and its record is staged at the tick. -/
theorem timeAndCalendar : Obligations.TimeAndCalendar := by
  unfold Obligations.TimeAndCalendar
  exact ⟨fun fn s => deviceTimeLowRead_latches, fun w s => calendarSetWrite_asks, fun w s => calendarSetWrite_half,
    fun sec frac s => pldmCalendarSet_asks, fun v src s => calendarSetApply_sets⟩

end Sys2Proof.Machine

/-! SUPPORT. Instructions that pass control on (R116, R121, R123, R130): the gate of issue, what issue changes beside the sequencer,
and the scalar registers. -/

namespace Sys2Proof.Machine

/-! ## The gate of issue (R123) -/

/-- A sequencer that stands at an instruction of the opcode gives it its meaning. -/
theorem AtOp.issue {s : State} {q op w : Nat} (h : AtOp s q op w) (f : Nat → State → State) : s.issue q op f = f w s := by
  obtain ⟨may, within, rfl, rfl, known, clear, range⟩ := h
  have noFault : (wordReservedSet (slice (s.curWord q) 127 120) (s.curWord q) || (onArrays (slice (s.curWord q) 127 120) &&
      decide (64 < (wordArrays (s.curWord q)).1 + (wordArrays (s.curWord q)).2))) = false := by
    simpa [clear] using range
  simp only [State.issue, may, Nat.not_le.2 within, known, noFault, Bool.not_true, Bool.false_eq_true, if_false, ne_eq,
    not_true]

/-! ## Engines and status registers (Tables 5.19, 12.3) -/

/-- Steps that change register fields only do so together. -/
theorem foldl_regs_eq {α : Type} {f : State → α → State} (h : ∀ s a, ∃ r, f s a = { s with regs := r }) (l : List α) (s : State) :
    ∃ r, l.foldl f s = { s with regs := r } := by
  induction l generalizing s with
  | nil => exact ⟨s.regs, rfl⟩
  | cons a l ih =>
    obtain ⟨r, first⟩ := h s a
    obtain ⟨r', rest⟩ := ih (f s a)
    exact ⟨r', by rw [List.foldl_cons, rest, first]⟩

section
variable (s : State)

theorem State.showSuspects_eq (e : Nat) (xs : List Nat) : ∃ r, s.showSuspects e xs = { s with regs := r } := by
  refine foldl_regs_eq (fun u k => ?_) (List.range 8) s
  split <;> exact ⟨_, rfl⟩

theorem State.setEng_eq (e : Nat) (v : Eng) : ∃ r m, s.setEng e v = { s with regs := r, engines := m } := by
  obtain ⟨r, shown⟩ := State.showSuspects_eq (((({ s with engines := SMap.set {} s.engines e v }).putB
    F.HUB_PROGRESS_busy (!v.active.isEmpty) e).put F.HUB_PROGRESS_context (v.active.headD 0) e)) e v.suspects
  exact ⟨r, _, shown⟩

theorem State.engAdvance_eq (e n : Nat) : ∃ r m, s.engAdvance e n = { s with regs := r, engines := m } := by
  simp only [State.engAdvance]
  split
  · exact ⟨_, s.engines, rfl⟩
  · obtain ⟨r, m, set⟩ := State.setEng_eq (s.put F.HUB_PROGRESS_count (s.get F.HUB_PROGRESS_count e + n) e) e
      { s.eng e with suspects := (s.eng e).active.dedup.take 8 }
    exact ⟨r, m, set⟩

/-! ## Control passes on (R130) -/

/-- A sequencer whose control has passed the instruction it stood at. -/
def Seq.passed (x : Seq) : Seq := { x with loops := (loopNext x.pc x.loops).1, pc := (loopNext x.pc x.loops).2, wait := .none }

/-- An instruction that issues moves its own sequencer on; beside that only registers and engines change. -/
theorem State.issued_eq (q : Nat) :
    ∃ r m, s.issued q = { s.setSeq q (s.seq q).passed with regs := r, engines := m } := by
  obtain ⟨r, m, advanced⟩ := s.engAdvance_eq q 1
  exact ⟨_, m, congrArg (State.passPc · q) advanced⟩

@[simp] theorem State.issued_seq_same (q : Nat) : (s.issued q).seq q = (s.seq q).passed := by
  obtain ⟨r, m, h⟩ := s.issued_eq q
  rw [h]
  exact s.setSeq_same q _

theorem State.issued_seq_other {q k : Nat} (hk : k ≠ q) : (s.issued q).seq k = s.seq k := by
  obtain ⟨r, m, h⟩ := s.issued_eq q
  rw [h]
  exact s.setSeq_other _ hk

theorem State.issued_passesOn (q : Nat) : PassesOn s (s.issued q) q := by
  have own := s.issued_seq_same q
  refine ⟨congrArg Seq.pc own, congrArg Seq.loops own, congrArg Seq.wait own, fun k hk => s.issued_seq_other hk, ?_⟩
  obtain ⟨r, m, h⟩ := s.issued_eq q
  rw [h]
  rfl

@[simp] theorem State.issued_sr (q : Nat) : ((s.issued q).seq q).sr = (s.seq q).sr := by
  rw [State.issued_seq_same, Seq.passed]

@[simp] theorem State.issued_sreg (q r : Nat) : (s.issued q).sreg q r = s.sreg q r := by
  simp only [State.sreg, State.issued_sr]

/-! ## Scalar registers (R116) -/

/-- A write of a scalar register changes its own sequencer, and in it the scalar registers alone. -/
theorem State.setSreg_eq (q r v : Nat) : ∃ ss m, s.setSreg q r v = { s with seqs := ss } ∧
    (s.setSreg q r v).seq q = { s.seq q with sr := m } ∧ ∀ k, k ≠ q → (s.setSreg q r v).seq k = s.seq k := by
  unfold State.setSreg
  split
  · exact ⟨s.seqs, (s.seq q).sr, rfl, rfl, fun _ _ => rfl⟩
  · exact ⟨_, _, rfl, s.setSeq_same q _, fun k hk => s.setSeq_other _ hk⟩

theorem State.setSreg_sreg_same (q v : Nat) {r : Nat} (hr : r ≠ 0) : (s.setSreg q r v).sreg q r = v % 2 ^ 64 := by
  simp [State.setSreg, State.sreg, hr]

theorem State.setSreg_sreg_other (q v : Nat) {r k : Nat} (hk : k ≠ r) : (s.setSreg q r v).sreg q k = s.sreg q k := by
  unfold State.setSreg
  split
  · rfl
  · simp [State.sreg, SMap.get_set_other _ _ _ _ hk]

theorem State.setSreg_sets (q rd v : Nat) : SetsScalar s (s.setSreg q rd v) q rd v :=
  ⟨rfl, s.setSreg_sreg_same q v, fun _ hk => s.setSreg_sreg_other q v hk⟩

/-- The destination takes the result and control passes on. -/
theorem State.setSreg_issued (q rd v : Nat) :
    PassesOn s ((s.setSreg q rd v).issued q) q ∧ SetsScalar s ((s.setSreg q rd v).issued q) q rd v := by
  obtain ⟨ss, m, frame, own, others⟩ := s.setSreg_eq q rd v
  obtain ⟨pc, loops, wait, seqs, rest⟩ := (s.setSreg q rd v).issued_passesOn q
  rw [own] at pc loops
  refine ⟨⟨pc, loops, wait, fun k hk => (seqs k hk).trans (others k hk), ?_⟩, ?_⟩
  · rw [rest, frame]
  · simpa only [SetsScalar, State.issued_sreg] using s.setSreg_sets q rd v

end

end Sys2Proof.Machine

/-! O14: the scalar instructions, the seed and the counter (R109, R123, R129, R130). -/

namespace Sys2Proof.Machine

/-! ## The instructions -/

section
variable {s : State} {q : Fin 16} {w : Nat}

theorem exec_nop_of_atOp (h : AtOp s q 0x00 w) : exec (.nop q) s = .next (s.issued q) := congrArg _ (h.issue _)

theorem exec_li_of_atOp (h : AtOp s q 0x42 w) :
    exec (.li q) s = .next ((s.setSreg q (slice w 119 115) (slice w 63 0)).issued q) := congrArg _ (h.issue _)

theorem exec_alu_of_atOp {v : Nat} (h : AtOp s q 0x40 w)
    (fn : aluFn (slice w 104 101) (s.sreg q (slice w 114 110)) (s.sreg q (slice w 109 105)) = some v) :
    exec (.alu q) s = .next ((s.setSreg q (slice w 119 115) v).issued q) := by
  change execAlu q s = _
  rw [execAlu, h.issue, fn]

theorem exec_alui_of_atOp {v : Nat} (h : AtOp s q 0x41 w)
    (fn : aluFn (slice w 104 101) (s.sreg q (slice w 114 110)) (slice w 63 0) = some v) :
    exec (.alui q) s = .next ((s.setSreg q (slice w 119 115) v).issued q) := by
  change execAlui q s = _
  rw [execAlui, h.issue, fn]

theorem exec_movlc_of_atOp {l : LoopLevel} (h : AtOp s q 0x45 w) (level : (s.seq q).loops[slice w 1 0]? = some l) :
    exec (.movlc q) s = .next ((s.setSreg q (slice w 119 115) l.index).issued q) := by
  change execMovlc q s = _
  rw [execMovlc, h.issue, level]

end

/-! ## The seed and the counter (R109) -/

section
variable {q : Fin 16} {j : Nat} {w : BarAcc} {s : State}

theorem srSeedWrite_gives (h : Reaches s .QD_SR_SEED q w j) : Gives (.srSeedWrite q w) s fun t =>
    t.get F.QD_SR_SEED_seed j = w.merge F.QD_SR_SEED_seed (s.get F.QD_SR_SEED_seed j) % 2 ^ 64 ∧ t.get F.QD_SR_CTR_counter j = 0 ∧
    OnlyRegs [F.QD_SR_SEED_seed.key j, F.QD_SR_CTR_counter.key j] s t := by
  have apart : F.QD_SR_SEED_seed.key j ≠ F.QD_SR_CTR_counter.key j := Fld.key_ne (by decide) (by decide) (by decide)
  refine ⟨_, congrArg Host.Outcome.next (h.onWrite _), ?_, State.put_get_same _ _ _ _, ?_⟩
  · exact (State.put_get_other _ apart).trans (State.put_get_same _ _ _ _)
  · exact ((s.put_onlyRegs _ _ _).mono (by simp)).trans ((State.put_onlyRegs _ _ _ _).mono (by simp))

theorem srCtrWrite_gives (h : Reaches s .QD_SR_CTR q w j) : Gives (.srCtrWrite q w) s fun t =>
    t.get F.QD_SR_CTR_counter j = w.merge F.QD_SR_CTR_counter (s.get F.QD_SR_CTR_counter j) % 2 ^ 64 ∧
    OnlyRegs [F.QD_SR_CTR_counter.key j] s t :=
  ⟨_, congrArg Host.Outcome.next (h.onWrite _), State.put_get_same _ _ _ _, s.put_onlyRegs _ _ _⟩

end

/-! ## The statement -/

/-- Settles O14: each instruction writes its destination at most and then issues; the seed and the counter take their writes. -/
theorem scalarResults : Obligations.ScalarResults := by
  unfold Obligations.ScalarResults
  refine ⟨⟨fun s q w h => ?_, fun s q w h => ?_, fun s q w v h fn => ?_, fun s q w v h fn => ?_, fun s q w l h level => ?_⟩,
    fun q j w s => srSeedWrite_gives, fun q j w s => srCtrWrite_gives⟩
  · exact ⟨_, exec_nop_of_atOp h, s.issued_passesOn q, s.issued_sr q⟩
  · exact ⟨_, exec_li_of_atOp h, s.setSreg_issued q _ _⟩
  · exact ⟨_, exec_alu_of_atOp h fn, s.setSreg_issued q _ _⟩
  · exact ⟨_, exec_alui_of_atOp h fn, s.setSreg_issued q _ _⟩
  · exact ⟨_, exec_movlc_of_atOp h level, s.setSreg_issued q _ _⟩

end Sys2Proof.Machine

/-! O18: MXINT8 (R89, R92, R104, Table 4.2): the value of each element code, and the codes a conversion produces. -/

namespace Sys2Proof.Machine

/-! ## Signed readings -/

/-- The signed reading of a two's complement code is the value it was made of, where that fits the width. -/
theorem signed_unsigned {w : Nat} {v : Int} (lo : -(2 ^ w : Nat) ≤ 2 * v) (hi : 2 * v < (2 ^ w : Nat)) :
    signed w (unsigned w v) = v := by
  unfold signed unsigned
  generalize 2 ^ w = n at lo hi ⊢
  rcases lt_or_ge v 0 with neg | nonneg
  · have reading : v % (n : Int) = v + n := by
      rw [← Int.add_emod_right]
      exact Int.emod_eq_of_lt (by omega) (by omega)
    have code : (v % (n : Int)).toNat % n = (v + n).toNat := by
      rw [reading]
      exact Nat.mod_eq_of_lt (by omega)
    rw [code, if_neg (by omega)]
    omega
  · have code : (v % (n : Int)).toNat % n = v.toNat := by
      rw [Int.emod_eq_of_lt nonneg (by omega)]
      exact Nat.mod_eq_of_lt (by omega)
    rw [code, if_pos (by omega)]
    omega

theorem unsigned_lt (w : Nat) (v : Int) : unsigned w v < 2 ^ w := by
  have pos : (0 : Int) < (2 ^ w : Nat) := by exact_mod_cast Nat.two_pow_pos w
  have := Int.emod_lt_of_pos v pos
  unfold unsigned
  omega

/-! ## Decoding -/

/-- A number written as sign and magnitude in units of 2^q holds its integer there. -/
theorem Num.units_signMagnitude (v q : Int) : (Num.fin (decide (v < 0)) v.natAbs q).units q = v := by
  simp only [Num.units, sub_self, Int.toNat_zero, pow_zero, mul_one, decide_eq_true_eq]
  split <;> omega

/-! ## Conversion -/

/-- A code of eight bits whose signed reading is not -128. -/
def IsMxint8Out (c : Nat) : Prop := c < 256 ∧ -127 ≤ signed 8 c ∧ signed 8 c ≤ 127

theorem isMxint8Out_unsigned {v : Int} (lo : -127 ≤ v) (hi : v ≤ 127) : IsMxint8Out (unsigned 8 v) := by
  refine ⟨unsigned_lt 8 v, ?_⟩
  rw [signed_unsigned (by omega) (by omega)]
  exact ⟨lo, hi⟩

theorem isMxint8Out_zero : IsMxint8Out 0 := by unfold IsMxint8Out; decide

/-- The element is clamped to -127 to 127 before it is encoded. -/
theorem narrowElem_mxint8 (rd : Rounding) (x : Num) : IsMxint8Out (narrowElem 11 rd x).code := by
  cases x with
  | nan => exact isMxint8Out_zero
  | inf neg =>
    cases neg with
    | true => exact isMxint8Out_unsigned (v := -127) (by decide) (by decide)
    | false => exact isMxint8Out_unsigned (v := 127) (by decide) (by decide)
  | fin neg m e => exact isMxint8Out_unsigned (le_max_left _ _) (max_le (by decide) (min_le_left _ _))

/-- Whatever form a block takes, each of its codes is 0 or a narrowed element. -/
theorem mxBlock_codes {c : Nat} {rd : Nat → Rounding} {xs : List Num} {code : Nat} (h : code ∈ (mxBlock c rd xs).codes) :
    code = 0 ∨ ∃ r x, code = (narrowElem c r x).code := by
  unfold mxBlock at h
  split at h
  · obtain ⟨x, -, rfl⟩ := List.mem_map.1 h
    exact .inl rfl
  · split at h
    · obtain ⟨p, -, rfl⟩ := List.mem_map.1 h
      exact .inr ⟨_, _, rfl⟩
    · obtain ⟨y, hy, rfl⟩ := List.mem_map.1 h
      obtain ⟨p, -, rfl⟩ := List.mem_map.1 hy
      exact .inr ⟨_, _, rfl⟩

/-! ## The statement -/

/-- Settles O18: a code is decoded as sign and magnitude of its signed reading, and every code produced is 0 or of a clamped value. -/
theorem mxint8Codes : Obligations.Mxint8Codes := by
  unfold Obligations.Mxint8Codes
  refine ⟨fun c _ => Num.units_signMagnitude (signed 8 c) (-6), fun rd xs c hc => ?_⟩
  rcases mxBlock_codes (c := 11) hc with rfl | ⟨r, x, rfl⟩
  · exact isMxint8Out_zero
  · exact narrowElem_mxint8 r x

end Sys2Proof.Machine

/-! SUPPORT. The byte stores of a state, and the functions of the model that leave them. -/

namespace Sys2Proof.Machine

/-- What StepKeepsStores is about: the three byte stores. Most functions of the model leave all of it, which is one rewrite. -/
structure Stores where
  spad : Mem
  hubsp : Mem
  dram : Mem

/-- The three byte stores of a state. -/
def State.stores (s : State) : Stores := ⟨s.spad, s.hubsp, s.mem.dram⟩

@[simp] theorem State.stores_mk {pending out freeCtr time regs prevBank boot bundles cal log mon margins mgmt sync queues rings served order
    engines host commit launches seqs ibuf spad hubsp arrays acc accBad vreg graphs mem fab col job refl ports win pwr thm dump rst} :
    State.stores ⟨pending, out, freeCtr, time, regs, prevBank, boot, bundles, cal, log, mon, margins, mgmt, sync, queues, rings, served,
      order, engines, host, commit, launches, seqs, ibuf, spad, hubsp, arrays, acc, accBad, vreg, graphs, mem, fab, col, job, refl, ports,
      win, pwr, thm, dump, rst⟩ = ⟨spad, hubsp, mem.dram⟩ := by
  simp only [State.stores]

@[simp] theorem State.stores_eta (s : State) : (⟨s.spad, s.hubsp, s.mem.dram⟩ : Stores) = s.stores := by
  simp only [State.stores]

@[simp] theorem State.stores_ite (c : Prop) [Decidable c] (s t : State) :
    (if c then s else t).stores = if c then s.stores else t.stores := apply_ite State.stores c s t

@[simp] theorem State.stores_foldl {α : Type} (f : State → α → State) (hf : ∀ s a, (f s a).stores = s.stores) (l : List α) (s : State) :
    (l.foldl f s).stores = s.stores := by
  induction l generalizing s with
  | nil => rfl
  | cons a l ih => exact (ih (f s a)).trans (hf s a)

@[simp] theorem State.put_stores (s : State) (f : Fld) (v i : Nat) : (s.put f v i).stores = s.stores := by
  simp [State.put]

@[simp] theorem State.putB_stores (s : State) (f : Fld) (v : Bool) (i : Nat) : (s.putB f v i).stores = s.stores := by
  simp [State.putB]

@[simp] theorem State.bump_stores (s : State) (f : Fld) (n i : Nat) : (s.bump f n i).stores = s.stores := by
  simp [State.bump]

@[simp] theorem State.incr_stores (s : State) (f : Fld) (i : Nat) : (s.incr f i).stores = s.stores := by
  simp [State.incr]

@[simp] theorem State.putI_stores (s : State) (f : Fld) (v : Int) (i : Nat) : (s.putI f v i).stores = s.stores := by
  simp [State.putI]

@[simp] theorem State.badAccess_stores (s : State) : s.badAccess.stores = s.stores := by
  simp [State.badAccess]

@[simp] theorem State.blockedWrite_stores (s : State) : s.blockedWrite.stores = s.stores := by
  simp [State.blockedWrite]

@[simp] theorem State.draw_stores (s : State) : s.draw.2.stores = s.stores := by
  simp [State.draw]

@[simp] theorem State.emit_stores (s : State) (o : Out) : (s.emit o).stores = s.stores := by
  unfold State.emit
  split <;> simp

@[simp] theorem State.emitAll_stores (s : State) (os : List Out) : (s.emitAll os).stores = s.stores := by
  simp [State.emitAll]

@[simp] theorem State.vec0_stores (s : State) : s.vec0.stores = s.stores := by
  simp [State.vec0]

@[simp] theorem State.due_stores (s : State) (t : Nat) : (s.due t).stores = s.stores := by
  simp [State.due]

@[simp] theorem State.logPut_stores (s : State) (b : LogBody) : (s.logPut b).stores = s.stores := by
  simp [State.logPut]

@[simp] theorem State.logEvent_stores (s : State) (code unit : Nat) (args : List Nat) :
    (s.logEvent code unit args).stores = s.stores := by
  simp [State.logEvent]

@[simp] theorem State.logMem_stores (s : State) (e : MemEvent) : (s.logMem e).stores = s.stores := by
  simp [State.logMem]

@[simp] theorem State.pldm_stores (s : State) (e : PldmEvent) : (s.pldm e).stores = s.stores := by
  simp [State.pldm]

@[simp] theorem State.pldmSent_stores (s : State) : s.pldmSent.stores = s.stores := by
  simp [State.pldmSent]

@[simp] theorem State.setPort_stores (s : State) (p : Nat) (v : Port) : (s.setPort p v).stores = s.stores := by
  simp [State.setPort]

@[simp] theorem State.putOnLink_stores (s : State) (p : Nat) (o : Out) : (s.putOnLink p o).stores = s.stores := by
  simp [State.putOnLink]

@[simp] theorem State.tx_stores (s : State) (p : Nat) (o : Out) : (s.tx p o).stores = s.stores := by
  simp [State.tx]

@[simp] theorem State.txFlush_stores (s : State) (p : Nat) : (s.txFlush p).stores = s.stores := by
  simp [State.txFlush]

@[simp] theorem State.measure_stores (s : State) (i : Nat) (content : List Nat) : (s.measure i content).stores = s.stores := by
  simp [State.measure]

@[simp] theorem State.measureLock_stores (s : State) : s.measureLock.stores = s.stores := by
  simp [State.measureLock]

@[simp] theorem State.syncSet_stores (s : State) (i v : Nat) : (s.syncSet i v).stores = s.stores := by
  simp [State.syncSet]

@[simp] theorem State.syncAdd_stores (s : State) (i v : Nat) : (s.syncAdd i v).stores = s.stores := by
  simp [State.syncAdd]

@[simp] theorem State.writeField_stores (s0 : State) (w : BarAcc) (i : Nat) (s : State) (f : Fld) :
    (State.writeField s0 w i s f).stores = s.stores := by
  unfold State.writeField
  split <;> [simp; (split <;> simp)]

@[simp] theorem State.writeReg_stores (s : State) (r : RegName) (i : Nat) (w : BarAcc) : (s.writeReg r i w).stores = s.stores := by
  unfold State.writeReg
  split <;> simp

@[simp] theorem State.setQueue_stores (s : State) (n : Nat) (q : Queue) : (s.setQueue n q).stores = s.stores := by
  simp [State.setQueue]

@[simp] theorem State.setRing_stores (s : State) (n : Nat) (r : CRing) : (s.setRing n r).stores = s.stores := by
  simp [State.setRing]

@[simp] theorem State.setGraph_stores (s : State) (g : Nat) (v : GSlot) : (s.setGraph g v).stores = s.stores := by
  simp [State.setGraph]

@[simp] theorem State.setPhase_stores (s : State) (w : Work) (p : WPhase) : (s.setPhase w p).stores = s.stores := by
  unfold State.setPhase
  split <;> simp

@[simp] theorem State.beginWork_stores (s : State) (w : Work) : (s.begin_ w).stores = s.stores := by
  simp [State.begin_]

@[simp] theorem State.finish_stores (s : State) (w : Work) (st : Status) (detail : Nat) :
    (s.finish w st detail).stores = s.stores := by
  unfold State.finish
  split <;> simp

@[simp] theorem State.endAs_stores (s : State) (w : Work) (st : Status) : (s.endAs w st).stores = s.stores := by
  unfold State.endAs
  split <;> simp

@[simp] theorem State.showSuspects_stores (s : State) (e : Nat) (xs : List Nat) : (s.showSuspects e xs).stores = s.stores := by
  refine State.stores_foldl _ (fun s a => ?_) _ _
  split <;> simp

@[simp] theorem State.setEng_stores (s : State) (e : Nat) (v : Eng) : (s.setEng e v).stores = s.stores := by
  simp [State.setEng]

@[simp] theorem State.engTake_stores (s : State) (e x : Nat) : (s.engTake e x).stores = s.stores := by
  simp [State.engTake]

@[simp] theorem State.engAdvance_stores (s : State) (e n : Nat) : (s.engAdvance e n).stores = s.stores := by
  simp [State.engAdvance]

@[simp] theorem State.engRelease_stores (s : State) (e x : Nat) : (s.engRelease e x).stores = s.stores := by
  simp [State.engRelease]

@[simp] theorem State.engWaiting_stores (s : State) (e : Nat) (b : Bool) : (s.engWaiting e b).stores = s.stores := by
  simp [State.engWaiting]

@[simp] theorem State.engReset_stores (s : State) (e : Nat) : (s.engReset e).stores = s.stores := by
  simp [State.engReset]

@[simp] theorem State.showReplay_stores (s : State) (x : Nat) : (s.showReplay x).stores = s.stores := by
  simp only [State.showReplay]
  repeat' split
  all_goals simp

@[simp] theorem State.freezeReplay_stores (s : State) (x : Nat) : (s.freezeReplay x).stores = s.stores := by
  simp [State.freezeReplay]

@[simp] theorem State.queueError_stores (s : State) (n cause : Nat) : (s.queueError n cause).stores = s.stores := by
  simp [State.queueError]

@[simp] theorem State.settleQueue_stores (s : State) (n : Nat) : (s.settleQueue n).stores = s.stores := by
  simp [State.settleQueue]

@[simp] theorem State.closeQueue_stores (s : State) (n : Nat) : (s.closeQueue n).stores = s.stores := by
  simp [State.closeQueue]

@[simp] theorem State.newTail_stores (s : State) (n tail : Nat) : (s.newTail n tail).stores = s.stores := by
  simp [State.newTail]

@[simp] theorem State.resumeQueue_stores (s : State) (n : Nat) : (s.resumeQueue n).stores = s.stores := by
  simp [State.resumeQueue]

@[simp] theorem State.flushHeld_stores (s : State) (n : Nat) : (s.flushHeld n).stores = s.stores := by
  simp [State.flushHeld]

@[simp] theorem State.sendVector_stores (s : State) (n : Nat) : (s.sendVector n).stores = s.stores := by
  simp [State.sendVector]

@[simp] theorem State.pendVector_stores (s : State) (n : Nat) : (s.pendVector n).stores = s.stores := by
  unfold State.pendVector
  split <;> simp [↓State.stores_ite]

@[simp] theorem State.postRecord_stores (s : State) (cq : Nat) (bytes : Bool → List Byte) (hint interrupt : Bool) :
    (s.postRecord cq bytes hint interrupt).stores = s.stores := by
  simp [State.postRecord]

@[simp] theorem State.haltQueue_stores (s : State) (n idx : Nat) (st : Status) : (s.haltQueue n idx st).stores = s.stores := by
  simp only [State.haltQueue]
  repeat' split
  all_goals simp

@[simp] theorem State.complete_stores (s : State) (n : Nat) (e : QEnt) (r : Result) : (s.complete n e r).stores = s.stores := by
  simp [State.complete]

@[simp] theorem State.abortOne_stores (s : State) (n i : Nat) : (s.abortOne n i).stores = s.stores := by
  unfold State.abortOne
  dsimp only
  split <;> simp

@[simp] theorem State.setChan_stores (s : State) (i : Nat) (c : Chan) : (s.setChan i c).stores = s.stores := by
  simp [State.setChan]

@[simp] theorem State.setStk_stores (s : State) (i : Nat) (c : Stack) : (s.setStk i c).stores = s.stores := by
  simp [State.setStk]

@[simp] theorem State.dirtyAt_stores (s : State) (a : Nat) : (s.dirtyAt a).stores = s.stores := by
  simp only [State.dirtyAt]
  repeat' split
  all_goals simp

@[simp] theorem State.setSeq_stores (s : State) (q : Nat) (v : Seq) : (s.setSeq q v).stores = s.stores := by
  simp [State.setSeq]

@[simp] theorem State.setArr_stores (s : State) (a : Nat) (v : Arr) : (s.setArr a v).stores = s.stores := by
  simp [State.setArr]

@[simp] theorem State.setSreg_stores (s : State) (q r v : Nat) : (s.setSreg q r v).stores = s.stores := by
  simp [State.setSreg]

@[simp] theorem State.cause_stores (s : State) (q : Nat) (st : Status) : (s.cause q st).stores = s.stores := by
  simp [State.cause]

@[simp] theorem State.showSeq_stores (s : State) (q : Nat) : (s.showSeq q).stores = s.stores := by
  simp [State.showSeq]

@[simp] theorem State.passPc_stores (s : State) (q : Nat) : (s.passPc q).stores = s.stores := by
  simp [State.passPc]

@[simp] theorem State.countEvent_stores (s : State) (q n : Nat) : (s.countEvent q n).stores = s.stores := by
  unfold State.countEvent
  dsimp only
  split <;> simp

@[simp] theorem State.partDone_stores (s : State) (q id : Nat) : (s.partDone q id).stores = s.stores := by
  simp only [State.partDone]
  repeat' split
  all_goals simp

@[simp] theorem State.showArr_stores (s : State) (i : Nat) : (s.showArr i).stores = s.stores := by
  unfold State.showArr
  dsimp only
  split <;> simp

@[simp] theorem State.settleArr_stores (s : State) (i : Nat) : (s.settleArr i).stores = s.stores := by
  simp [State.settleArr]

@[simp] theorem State.countCycle_stores (s : State) (i k n : Nat) : (s.countCycle i k n).stores = s.stores := by
  simp [State.countCycle]

@[simp] theorem State.endStream_stores (s : State) (i : Nat) (x : Stream) : (s.endStream i x).stores = s.stores := by
  simp [State.endStream]

@[simp] theorem State.countBeat_stores (s : State) : s.countBeat.stores = s.stores := by
  simp [State.countBeat]

@[simp] theorem State.askBurst_stores (s : State) (q : Nat) (issued : Bool) : (s.askBurst q issued).stores = s.stores := by
  simp [State.askBurst]

@[simp] theorem State.gapCycle_stores (s : State) (i k : Nat) (owed : Bool) : (s.gapCycle i k owed).stores = s.stores := by
  simp [State.gapCycle]

@[simp] theorem State.realBeat_stores (s : State) (i : Nat) (x : Stream) : (s.realBeat i x).stores = s.stores := by
  simp [State.realBeat]

@[simp] theorem State.setAcc_stores (s : State) (i bank entry v : Nat) (bad : Bool) :
    (s.setAcc i bank entry v bad).stores = s.stores := by
  simp [State.setAcc]

@[simp] theorem State.accEcc_stores (s : State) (i : Nat) (e : AccEcc) : (s.accEcc i e).stores = s.stores := by
  unfold State.accEcc
  split <;> simp

@[simp] theorem State.writeRow_stores (i : Nat) (c : Col) (t : Tile) (bank : Nat) (ecc : AccEcc) (s : State) (r : Nat × Nat) :
    (State.writeRow i c t bank ecc s r).stores = s.stores := by
  unfold State.writeRow
  split <;> simp

@[simp] theorem State.cvtEvents_stores (s : State) (q : Nat) (e : CvtEvt) : (s.cvtEvents q e).stores = s.stores := by
  simp [State.cvtEvents]

@[simp] theorem State.progFault_stores (s : State) (q : Nat) (st : Status) : (s.progFault q st).stores = s.stores := by
  simp [State.progFault]

@[simp] theorem State.issued_stores (s : State) (q : Nat) : (s.issued q).stores = s.stores := by
  simp [State.issued]

@[simp] theorem State.jump_stores (s : State) (q t : Nat) : (s.jump q t).stores = s.stores := by
  simp [State.jump]

@[simp] theorem State.enter_stores (s : State) (q n : Nat) (ev : Option Nat) : (s.enter q n ev).stores = s.stores := by
  simp [State.enter]

@[simp] theorem State.updLaunch_stores (s : State) (id : Nat) (f : Launch → Launch) : (s.updLaunch id f).stores = s.stores := by
  simp [State.updLaunch]

@[simp] theorem State.settleLaunch_stores (s : State) (id : Nat) : (s.settleLaunch id).stores = s.stores := by
  unfold State.settleLaunch
  split <;> simp

@[simp] theorem State.endQuad_stores (s : State) (q id : Nat) (st : Status) : (s.endQuad q id st).stores = s.stores := by
  simp [State.endQuad]

@[simp] theorem State.startQuad_stores (s : State) (q : Nat) (l : Launch) (image : List Byte) (poisoned : Bool) :
    (s.startQuad q l image poisoned).stores = s.stores := by
  simp [State.startQuad]

@[simp] theorem State.seqWait_stores (s : State) (q : Nat) (v : SeqWait) : (s.seqWait q v).stores = s.stores := by
  simp [State.seqWait]

@[simp] theorem State.pushArrays_stores (s : State) (q : Nat) (r : Nat × Nat) (op : Nat → Arr → Arr) :
    (s.pushArrays q r op).stores = s.stores := by
  simp [State.pushArrays]

@[simp] theorem State.setLanes_stores (s : State) (q r : Nat) (vs : List Nat) : (s.setLanes q r vs).stores = s.stores := by
  simp [State.setLanes]

@[simp] theorem State.freeLanes_stores (ls : List (Nat × Bool)) : ∀ s : State, (s.freeLanes ls).1.stores = s.stores := by
  induction ls with
  | nil => exact fun _ => rfl
  | cons l ls ih =>
    intro s
    unfold State.freeLanes
    split <;> simp [ih]

theorem State.vload_stores {q w : Nat} {s t : State} (h : s.vload q w = .ok t) : t.stores = s.stores := by
  unfold State.vload at h
  split at h <;> cases h
  simp

@[simp] theorem State.vecRounding_stores (s : State) (q w n : Nat) : (s.vecRounding q w n).1.stores = s.stores := by
  simp [State.vecRounding, apply_ite Prod.fst]

@[simp] theorem State.mapFree_stores (f : Nat → Nat → Nat) (as : List Nat) :
    ∀ s : State, (State.mapFree f s as).1.stores = s.stores := by
  induction as with
  | nil => exact fun _ => rfl
  | cons a as ih => simp [State.mapFree, ih]

theorem State.vop_stores {q w : Nat} {s t : State} (h : s.vop q w = .ok t) : t.stores = s.stores := by
  simp only [State.vop] at h
  repeat' split at h
  all_goals cases h
  all_goals simp

theorem State.vred_stores {q w : Nat} {s t : State} (h : s.vred q w = .ok t) : t.stores = s.stores := by
  simp only [State.vred] at h
  split at h <;> cases h
  exact State.setLanes_stores _ _ _ _

theorem State.vtopk_stores {q w : Nat} {s t : State} (h : s.vtopk q w = .ok t) : t.stores = s.stores := by
  simp only [State.vtopk] at h
  repeat' split at h
  all_goals cases h
  all_goals simp

@[simp] theorem State.setRefl_stores (s : State) (r : Refl) : (s.setRefl r).stores = s.stores := by
  simp [State.setRefl]

@[simp] theorem State.setReflState_stores (s : State) (v : Nat) : (s.setReflState v).stores = s.stores := by
  simp [State.setReflState]

@[simp] theorem State.formBinding_stores (s : State) : s.formBinding.stores = s.stores := by
  simp only [State.formBinding]
  repeat' split
  all_goals simp

@[simp] theorem State.failBind_stores (s : State) (st : Status) : (s.failBind st).stores = s.stores := by
  unfold State.failBind
  split <;> simp

@[simp] theorem State.reflGone_stores (s : State) (cause : Nat) : (s.reflGone cause).stores = s.stores := by
  simp [State.reflGone]

@[simp] theorem State.reflLost_stores (s : State) (cause : Nat) : (s.reflLost cause).stores = s.stores := by
  simp (disch := (intros; split <;> simp)) [State.reflLost]

@[simp] theorem State.reflPause_stores (s : State) (n : Nat) : (s.reflPause n).stores = s.stores := by
  simp [State.reflPause]

@[simp] theorem State.reflEpoch_stores (s : State) (n epoch : Nat) : (s.reflEpoch n epoch).stores = s.stores := by
  simp [State.reflEpoch]

@[simp] theorem State.reflResume_stores (s : State) : s.reflResume.stores = s.stores := by
  simp [State.reflResume]

@[simp] theorem State.reflInterrupt_stores (s : State) : s.reflInterrupt.stores = s.stores := by
  simp [State.reflInterrupt]

@[simp] theorem State.durable_stores (s : State) (g : Nat) : (s.durable g).stores = s.stores := by
  unfold State.durable
  simp (disch := (intros; split <;> simp)) [↓State.stores_ite, ↓State.setReflState_stores, ↓State.put_stores, ↓State.setRefl_stores, ↓State.stores_foldl]

@[simp] theorem State.takeRbind_stores (s : State) (p : Packet) : (s.takeRbind p).1.stores = s.stores := by
  simp [State.takeRbind, apply_ite Prod.fst]

@[simp] theorem State.takeRmark_stores (s : State) (p : Packet) : (s.takeRmark p).1.stores = s.stores := by
  simp [State.takeRmark, apply_ite Prod.fst]

@[simp] theorem State.reflEnd_stores (s : State) (r : FabReq) (st : Status) : (s.reflEnd r st).stores = s.stores := by
  simp [State.reflEnd]

@[simp] theorem State.fabCount_stores (s : State) (j : Nat) : (s.fabCount j).stores = s.stores := by
  simp [State.fabCount]

@[simp] theorem State.setFab_stores (s : State) (f : Fabric) : (s.setFab f).stores = s.stores := by
  simp [State.setFab]

@[simp] theorem State.setFlow_stores (s : State) (n : Nat) (v : Flow) : (s.setFlow n v).stores = s.stores := by
  simp [State.setFlow]

@[simp] theorem State.evict_stores (s : State) : s.evict.stores = s.stores := by
  simp only [State.evict]
  repeat' split
  all_goals simp

@[simp] theorem State.touch_stores (s : State) (n : Nat) : (s.touch n).stores = s.stores := by
  simp [State.touch]

@[simp] theorem State.needCtx_stores (s : State) (n : Nat) : (s.needCtx n).2.stores = s.stores := by
  unfold State.needCtx
  dsimp only
  split <;> [simp; simp; (split <;> simp)]

@[simp] theorem State.sendBack_stores (s : State) (port : Nat) (p : Packet) : (s.sendBack port p).stores = s.stores := by
  simp only [State.sendBack]
  repeat' split
  all_goals simp

@[simp] theorem State.answer_stores (s : State) (port : Nat) (p : Packet) (st : Status) (data : List Byte) (poison : Bool) :
    (s.answer port p st data poison).stores = s.stores := by
  unfold State.answer
  split <;> simp

@[simp] theorem State.nak_stores (s : State) (port : Nat) (p : Packet) (expected : Nat) :
    (s.nak port p expected).stores = s.stores := by
  simp [State.nak]

@[simp] theorem State.sourceLog_stores (s : State) (src : Nat) (args : List Nat) : (s.sourceLog src args).stores = s.stores := by
  simp [State.sourceLog]

@[simp] theorem State.violation_stores (s : State) (src j : Nat) : (s.violation src j).stores = s.stores := by
  simp [State.violation]

@[simp] theorem State.answerViolation_stores (s : State) (port : Nat) (p : Packet) (st : Status) :
    (s.answerViolation port p st).stores = s.stores := by
  simp [State.answerViolation]

@[simp] theorem State.keyLog_stores (s : State) (src region : Nat) : (s.keyLog src region).stores = s.stores := by
  simp [State.keyLog]

@[simp] theorem State.holdPacket_stores (s : State) (port : Nat) (p : Packet) : (s.holdPacket port p).stores = s.stores := by
  simp [State.holdPacket]

@[simp] theorem State.serveOpen_stores (s : State) (port : Nat) (p : Packet) : (s.serveOpen port p).stores = s.stores := by
  simp [State.serveOpen]

@[simp] theorem State.keeperAnswer_stores (s : State) (port : Nat) (p : Packet) : (s.keeperAnswer port p).stores = s.stores := by
  simp [State.keeperAnswer]

@[simp] theorem State.updOp_stores (s : State) (id : Nat) (f : FabOp → FabOp) : (s.updOp id f).stores = s.stores := by
  simp [State.updOp]

@[simp] theorem State.updReq_stores (s : State) (serial : Nat) (f : FabReq → FabReq) : (s.updReq serial f).stores = s.stores := by
  simp [State.updReq]

@[simp] theorem State.setSrc_stores (s : State) (n : Nat) (v : FlowSrc) : (s.setSrc n v).stores = s.stores := by
  simp [State.setSrc]

@[simp] theorem State.addOp_stores (s : State) (o : FabOp) : (s.addOp o).stores = s.stores := by
  simp [State.addOp]

@[simp] theorem State.winFail_stores (s : State) (q : Nat) (o : FabOp) (pos : Nat) (st : Status) :
    (s.winFail q o pos st).stores = s.stores := by
  simp [State.winFail]

@[simp] theorem State.streamData_stores (s : State) (i id : Nat) (bytes : List Byte) (bad : List Bool) :
    (s.streamData i id bytes bad).stores = s.stores := by
  simp [State.streamData]

@[simp] theorem State.reqFails_stores (s : State) (o : FabOp) (pos : Nat) (res : Result) :
    (s.reqFails o pos res).stores = s.stores := by
  unfold State.reqFails
  split <;> simp

@[simp] theorem State.endOp_stores (s : State) (o : FabOp) : (s.endOp o).stores = s.stores := by
  simp only [State.endOp]
  repeat' split
  all_goals simp

@[simp] theorem State.settleOps_stores (s : State) : s.settleOps.stores = s.stores := by
  refine State.stores_foldl _ (fun s a => ?_) _ _
  split <;> simp

@[simp] theorem State.sendReq_stores (s : State) (r : FabReq) (port : Nat) : (s.sendReq r port).stores = s.stores := by
  unfold State.sendReq
  extract_lets f first r1 r2 f1 s1 s2
  simp [s2, s1]

@[simp] theorem State.startReq_stores (s : State) (r : FabReq) : (s.startReq r).stores = s.stores := by
  unfold State.startReq
  dsimp only
  split <;> simp

@[simp] theorem State.issueTo_stores (s : State) (n : Nat) : (s.issueTo n).stores = s.stores := by
  unfold State.issueTo
  extract_lets f wait op c s1 x
  have hs : s1.stores = s.stores := by
    simp only [s1, c]
    split <;> simp
  clear_value s1 wait op
  rw [← hs]
  split
  · exact hs.symm
  split
  · exact hs.symm
  split
  · rfl
  split
  · rfl
  split
  · split
    · split
      · split <;> simp
      · rfl
    · simp
  · cases wait with
    | some r =>
      dsimp only
      split
      · rfl
      · split <;> simp
    | none =>
      cases op with
      | none => rfl
      | some o => simp

@[simp] theorem State.movePort_stores (s : State) (port : Nat) : (s.movePort port).stores = s.stores := by
  refine State.stores_foldl _ (fun s a => ?_) _ _
  split <;> simp

@[simp] theorem State.startCopy_stores (s : State) (q : Nat) : (s.startCopy q).stores = s.stores := by
  simp only [State.startCopy]
  repeat' split
  all_goals simp

@[simp] theorem State.fetchImage_stores (s : State) (q : Nat) (l : Launch) (node off key : Nat) :
    (s.fetchImage q l node off key).stores = s.stores := by
  simp [State.fetchImage]

@[simp] theorem State.fetchStream_stores (s : State) (q i id node off key len : Nat) :
    (s.fetchStream q i id node off key len).stores = s.stores := by
  simp [State.fetchStream]

@[simp] theorem State.setSess_stores (s : State) (k : Nat) (v : ColSession) : (s.setSess k v).stores = s.stores := by
  simp [State.setSess]

@[simp] theorem State.setSessState_stores (s : State) (k v : Nat) : (s.setSessState k v).stores = s.stores := by
  simp [State.setSessState]

@[simp] theorem State.updRun_stores (s : State) (k : Nat) (f : ColRun → ColRun) : (s.updRun k f).stores = s.stores := by
  simp [State.updRun]

@[simp] theorem State.updEdge_stores (s : State) (k tree node : Nat) (f : ColEdge → ColEdge) :
    (s.updEdge k tree node f).stores = s.stores := by
  simp [State.updEdge]

@[simp] theorem State.colDiscard_stores (s : State) : s.colDiscard.stores = s.stores := by
  simp [State.colDiscard]

@[simp] theorem State.addPool_stores (s : State) (n : Int) : (s.addPool n).stores = s.stores := by
  simp [State.addPool]

@[simp] theorem State.colSend_stores (s : State) (k tree seq : Nat) (p : ColPacket) :
    (s.colSend k tree seq p).stores = s.stores := by
  unfold State.colSend
  dsimp only
  split <;> simp

@[simp] theorem State.sendJoin_stores (s : State) (k : Nat) (e : ColEdge) : (s.sendJoin k e).stores = s.stores := by
  simp [State.sendJoin]

@[simp] theorem State.sendJoins_stores (s : State) (k : Nat) : (s.sendJoins k).stores = s.stores := by
  simp [State.sendJoins]

@[simp] theorem State.sendAborts_stores (s : State) (k cause : Nat) (except : Option Nat) :
    (s.sendAborts k cause except).stores = s.stores := by
  simp [State.sendAborts]

@[simp] theorem State.sendCredit_stores (s : State) (k : Nat) (e : ColEdge) : (s.sendCredit k e).stores = s.stores := by
  simp [State.sendCredit]

@[simp] theorem State.freeBytes_stores (s : State) (n : Nat) : (s.freeBytes n).2.stores = s.stores := by
  simp [State.freeBytes]

@[simp] theorem State.sendPiece_stores (s : State) (k : Nat) (e : ColEdge) (seq piece : Nat) (again : Bool) :
    (s.sendPiece k e seq piece again).stores = s.stores := by
  unfold State.sendPiece
  split <;> simp

@[simp] theorem State.pumpEdge_stores (s : State) (k tree node : Nat) : (s.pumpEdge k tree node).stores = s.stores := by
  unfold State.pumpEdge
  dsimp only
  split
  · exact State.stores_foldl _ (fun s t => by split <;> simp) _ _
  · rfl

@[simp] theorem State.pump_stores (s : State) (k : Nat) : (s.pump k).stores = s.stores := by
  simp [State.pump]

@[simp] theorem State.openSlots_stores (s : State) (k tree : Nat) : (s.openSlots k tree).stores = s.stores := by
  unfold State.openSlots
  dsimp only
  split <;> simp

@[simp] theorem State.newGrants_stores (s : State) (k tree : Nat) (force : Bool) : (s.newGrants k tree force).stores = s.stores := by
  unfold State.newGrants
  dsimp only
  split <;> simp

@[simp] theorem State.freeSlot_stores (s : State) (k tree seq : Nat) : (s.freeSlot k tree seq).stores = s.stores := by
  simp [State.freeSlot]

@[simp] theorem State.showLanes_stores (s : State) : s.showLanes.stores = s.stores := by
  simp [State.showLanes]

@[simp] theorem State.mismatch_stores (s : State) (lane : Nat) : (s.mismatch lane).1.stores = s.stores := by
  simp [State.mismatch, apply_ite Prod.fst]

@[simp] theorem State.mismatches_stores (s : State) (lanes : List Nat) : (s.mismatches lanes).1.stores = s.stores := by
  suffices h : ∀ a : State × Bool,
      (lanes.foldl (fun a l => ((a.1.mismatch l).1, a.2 || (a.1.mismatch l).2)) a).1.stores = a.1.stores from h _
  induction lanes with
  | nil => exact fun _ => rfl
  | cons l lanes ih => simp [ih]

@[simp] theorem State.addPass_stores (s : State) (bad : List (List Nat)) : (s.addPass bad).1.stores = s.stores := by
  unfold State.addPass
  split
  · rfl
  · rfl
  · dsimp only
    split
    · simp
    · simp
    · split
      · simp
      · split <;> simp

@[simp] theorem State.keeperAbort_stores (s : State) (port : Nat) (p : ColPacket) : (s.keeperAbort port p).stores = s.stores := by
  simp [State.keeperAbort]

@[simp] theorem State.noSession_stores (s : State) (p : ColPacket) : (s.noSession p).stores = s.stores := by
  simp [State.noSession]

@[simp] theorem State.hear_stores (s : State) (k node : Nat) : (s.hear k node).stores = s.stores := by
  simp [State.hear]

@[simp] theorem State.recordPiece_stores (s : State) (k : Nat) (r : ColRun) (e : ColEdge) (seq piece : Nat) :
    (s.recordPiece k r e seq piece).stores = s.stores := by
  simp [State.recordPiece]

@[simp] theorem State.idleSession_stores (s : State) (k : Nat) : (s.idleSession k).stores = s.stores := by
  simp [State.idleSession]

@[simp] theorem State.failSetup_stores (s : State) (k : Nat) (st : Status) : (s.failSetup k st).stores = s.stores := by
  unfold State.failSetup
  split <;> simp

@[simp] theorem State.settleJoin_stores (s : State) (k : Nat) : (s.settleJoin k).stores = s.stores := by
  simp only [State.settleJoin]
  repeat' split
  all_goals simp

@[simp] theorem State.setupSession_stores (s : State) (work : Work) (k : Nat) (d : List Byte) :
    (s.setupSession work k d).stores = s.stores := by
  simp [State.setupSession]

@[simp] theorem State.collective_stores (s : State) (work : Work) (op : Nat) : (s.collective work op).stores = s.stores := by
  simp only [State.collective]
  repeat' split
  all_goals simp

@[simp] theorem State.colReset_stores (s : State) : s.colReset.stores = s.stores := by
  simp [State.colReset]

@[simp] theorem State.reflSend_stores (s : State) (r : FabReq) : (s.reflSend r).stores = s.stores := by
  simp [State.reflSend]

@[simp] theorem State.sendRbind_stores (s : State) : s.sendRbind.stores = s.stores := by
  simp [State.sendRbind]

@[simp] theorem State.sendRresume_stores (s : State) : s.sendRresume.stores = s.stores := by
  simp [State.sendRresume]

@[simp] theorem State.sendBurst_stores (s : State) (b : Nat) : (s.sendBurst b).stores = s.stores := by
  unfold State.sendBurst
  split <;> simp

@[simp] theorem State.sendRmark_stores (s : State) (g : Nat) : (s.sendRmark g).stores = s.stores := by
  simp [State.sendRmark]

@[simp] theorem State.startBind_stores (s : State) (work : Work) (b : List Byte) : (s.startBind work b).stores = s.stores := by
  simp [State.startBind]

@[simp] theorem State.unbindNow_stores (s : State) : s.unbindNow.stores = s.stores := by
  simp only [State.unbindNow, State.put_stores, State.setReflState_stores, State.setRefl_stores, State.setFab_stores]
  split <;> simp (disch := (intros; split <;> simp))

@[simp] theorem State.reflAbort_stores (s : State) (w : Work) : (s.reflAbort w).stores = s.stores := by
  simp [State.reflAbort]

@[simp] theorem State.showGraph_stores (s : State) (g : Nat) : (s.showGraph g).stores = s.stores := by
  simp [State.showGraph]

@[simp] theorem State.graphStatus_stores (s : State) (g : Nat) (st : Status) (node : Nat) :
    (s.graphStatus g st node).stores = s.stores := by
  simp [State.graphStatus]

@[simp] theorem State.settleGraph_stores (s : State) (g : Nat) : (s.settleGraph g).stores = s.stores := by
  simp only [State.settleGraph]
  repeat' split
  all_goals simp

@[simp] theorem State.runGraph_stores (s : State) (g : Nat) (work : Work) (it : Item) :
    (s.runGraph g work it).stores = s.stores := by
  simp [State.runGraph]

@[simp] theorem State.graphRefused_stores (s : State) (g : Nat) (work : Work) (st : Status) (node : Nat) :
    (s.graphRefused g work st node).stores = s.stores := by
  simp [State.graphRefused]

@[simp] theorem State.fetchGraph_stores (s : State) (g : Nat) (work : Work) (since image n node off key : Nat) :
    (s.fetchGraph g work since image n node off key).stores = s.stores := by
  simp [State.fetchGraph]

theorem State.graphImage_stores {s t : State} {g since image n : Nat} {work : Work} (h : s.graphImage g work since image n = .error t) :
    t.stores = s.stores := by
  unfold State.graphImage at h
  repeat' split at h
  all_goals cases h
  all_goals simp

@[simp] theorem State.condition_stores (s : State) (g : Nat) (i : GInst) (n : List Byte) :
    (s.condition g i n).stores = s.stores := by
  simp [State.condition]

@[simp] theorem State.setMonUnit_stores (s : State) (u : Nat) (m : Mon) : (s.setMonUnit u m).stores = s.stores := by
  simp [State.setMonUnit]

@[simp] theorem State.monEnd_stores (s : State) (u t : Nat) (isPartial : Bool) : (s.monEnd u t isPartial).stores = s.stores := by
  simp [State.monEnd]

@[simp] theorem State.monDue_stores (s : State) (u : Nat) : (s.monDue u).stores = s.stores := by
  simp [State.monDue]

@[simp] theorem State.monTake_stores (s : State) (u : Nat) (v : Int) : (s.monTake u v).stores = s.stores := by
  simp [State.monTake]

@[simp] theorem State.monAlarm_stores (s : State) (u : Nat) (v : Int) : (s.monAlarm u v).stores = s.stores := by
  simp [State.monAlarm]

@[simp] theorem State.monSwitch_stores (s : State) (u : Nat) : (s.monSwitch u).stores = s.stores := by
  simp [State.monSwitch]

@[simp] theorem State.monReset_stores (s : State) : s.monReset.stores = s.stores := by
  simp [State.monReset]

@[simp] theorem State.monStart_stores (s : State) : s.monStart.stores = s.stores := by
  simp [State.monStart]

@[simp] theorem State.marginAt_stores (s : State) (kind unit sub : Nat) (value warn floor : Int) (sev : Nat) :
    (s.marginAt kind unit sub value warn floor sev).stores = s.stores := by
  simp [State.marginAt]

@[simp] theorem State.marginSample_stores (s : State) (kind : MarginKind) (unit sub : Nat) (value : Int) :
    (s.marginSample kind unit sub value).stores = s.stores := by
  simp [State.marginSample]

@[simp] theorem State.showLog_stores (s : State) : s.showLog.stores = s.stores := by
  simp [State.showLog]

@[simp] theorem State.logToFlash_stores (s : State) : s.logToFlash.stores = s.stores := by
  simp [State.logToFlash]

@[simp] theorem State.setSlotSv_stores (s : State) (k v : Nat) : (s.setSlotSv k v).stores = s.stores := by
  simp [State.setSlotSv]

@[simp] theorem State.setSlotValid_stores (s : State) (k : Nat) (b : Bool) : (s.setSlotValid k b).stores = s.stores := by
  simp [State.setSlotValid]

@[simp] theorem State.measureFw_stores (s : State) : s.measureFw.stores = s.stores := by
  simp [State.measureFw]

@[simp] theorem State.logFw_stores (s : State) (slot what : Nat) : (s.logFw slot what).stores = s.stores := by
  simp [State.logFw]

@[simp] theorem State.markPending_stores (s : State) (what : Nat) : (s.markPending what).stores = s.stores := by
  simp [State.markPending]

@[simp] theorem State.cancelUpdate_stores (s : State) : s.cancelUpdate.stores = s.stores := by
  unfold State.cancelUpdate
  split <;> simp

@[simp] theorem State.beginAdvance_stores (s : State) (v : Nat) : (s.beginAdvance v).stores = s.stores := by
  simp [State.beginAdvance]

@[simp] theorem State.setSpdm_stores (s : State) (t : Transport) (x : Spdm) : (s.setSpdm t x).stores = s.stores := by
  unfold State.setSpdm
  split <;> simp

@[simp] theorem State.spdm_stores (s : State) (t : Transport) (r : SpdmReq) (ok : Bool) (body : List Nat) (f : Spdm → Spdm) :
    (s.spdm t r ok body f).stores = s.stores := by
  simp [State.spdm]

@[simp] theorem State.setPortState_stores (s : State) (p v : Nat) : (s.setPortState p v).stores = s.stores := by
  simp [State.setPortState]

@[simp] theorem State.winCount_stores (s : State) (p j n : Nat) : (s.winCount p j n).stores = s.stores := by
  simp [State.winCount]

@[simp] theorem State.linkViolation_stores (s : State) (p j : Nat) : (s.linkViolation p j).stores = s.stores := by
  simp [State.linkViolation]

@[simp] theorem State.showMap_stores (s : State) (p : Nat) : (s.showMap p).stores = s.stores := by
  simp [State.showMap]

@[simp] theorem State.sendHello_stores (s : State) (p : Nat) : (s.sendHello p).stores = s.stores := by
  simp [State.sendHello]

@[simp] theorem State.sendHellos_stores (s : State) : s.sendHellos.stores = s.stores := by
  simp [State.sendHellos]

@[simp] theorem State.trainFrom_stores (s : State) (p step : Nat) : (s.trainFrom p step).stores = s.stores := by
  simp [State.trainFrom]

@[simp] theorem State.portDownNow_stores (s : State) (p : Nat) : (s.portDownNow p).stores = s.stores := by
  simp [State.portDownNow]

@[simp] theorem State.retrainNow_stores (s : State) (p : Nat) : (s.retrainNow p).stores = s.stores := by
  simp [State.retrainNow]

@[simp] theorem State.retrain_stores (s : State) (p : Nat) : (s.retrain p).stores = s.stores := by
  simp [State.retrain]

@[simp] theorem State.trainFails_stores (s : State) (p : Nat) : (s.trainFails p).stores = s.stores := by
  simp [State.trainFails]

@[simp] theorem State.search_stores (s : State) (p : Nat) : (s.search p).stores = s.stores := by
  simp [State.search]

@[simp] theorem State.trainStep6_stores (s : State) (p : Nat) (r : TrainRead) : (s.trainStep6 p r).stores = s.stores := by
  simp [State.trainStep6]

@[simp] theorem State.filterAll_stores (s : State) (w : Nat) (a : List Nat) : (s.filterAll w a).stores = s.stores := by
  simp [State.filterAll]

@[simp] theorem State.propose_stores (s : State) (p : Nat) (m : List Nat) (sends : Nat) :
    (s.propose p m sends).stores = s.stores := by
  simp [State.propose]

@[simp] theorem State.changeMap_stores (s : State) (p n change : Nat) : (s.changeMap p n change).stores = s.stores := by
  simp [State.changeMap]

@[simp] theorem State.adoptMap_stores (s : State) (p : Nat) : (s.adoptMap p).stores = s.stores := by
  simp only [State.adoptMap]
  repeat' split
  all_goals simp

@[simp] theorem State.hostLane_stores (s : State) (n change : Nat) : (s.hostLane n change).stores = s.stores := by
  simp [State.hostLane]

@[simp] theorem State.laneMarks_stores (s : State) (p n : Nat) : (s.laneMarks p n).stores = s.stores := by
  simp [State.laneMarks]

@[simp] theorem State.laneFails_stores (s : State) (p n : Nat) (cause : LaneFault) (id : Nat) :
    (s.laneFails p n cause id).stores = s.stores := by
  simp [State.laneFails]

@[simp] theorem State.aliasLane_stores (s : State) (p n : Nat) : (s.aliasLane p n).stores = s.stores := by
  simp [State.aliasLane]

@[simp] theorem State.recordLoss_stores (s : State) (p : Nat) (l : Loss) : (s.recordLoss p l).stores = s.stores := by
  simp [State.recordLoss]

@[simp] theorem State.replayFrom_stores (s : State) (p seq : Nat) : (s.replayFrom p seq).stores = s.stores := by
  simp [State.replayFrom]

@[simp] theorem State.takeAck_stores (s : State) (p ack : Nat) (nak : Bool) : (s.takeAck p ack nak).stores = s.stores := by
  simp [State.takeAck]

@[simp] theorem State.nakFlit_stores (s : State) (p : Nat) : (s.nakFlit p).stores = s.stores := by
  simp [State.nakFlit]

@[simp] theorem State.adoptPort_stores (s : State) (p : Nat) : (s.adoptPort p).stores = s.stores := by
  simp [State.adoptPort]

@[simp] theorem State.startAdopt_stores (s : State) (p : Nat) : (s.startAdopt p).stores = s.stores := by
  simp [State.startAdopt]

@[simp] theorem State.settleDark_stores (s : State) (w : Work) : (s.settleDark w).stores = s.stores := by
  unfold State.settleDark
  split <;> simp

@[simp] theorem State.endDark_stores (s : State) (p : Nat) (st : Status) : (s.endDark p st).stores = s.stores := by
  unfold State.endDark
  dsimp only
  split <;> simp

@[simp] theorem State.darkAbort_stores (s : State) (w : Work) : (s.darkAbort w).stores = s.stores := by
  unfold State.darkAbort
  extract_lets s1 s2
  have h1 : s1.stores = s.stores := State.stores_foldl _ (fun s p => by split <;> simp) _ _
  have h2 : s2.stores = s1.stores := State.stores_foldl _ (fun s p => by split <;> simp) _ _
  split <;> simp [h2, h1]

@[simp] theorem State.peerReady_stores (s : State) (n epoch : Nat) : (s.peerReady n epoch).stores = s.stores := by
  simp [State.peerReady]

@[simp] theorem State.sendNotices_stores (p n : Nat) : ∀ g s, (State.sendNotices p n g s).stores = s.stores := by
  induction n with
  | zero => exact fun _ _ => rfl
  | succ n ih =>
    intro g s
    unfold State.sendNotices
    split <;> simp [ih]

@[simp] theorem State.forwardTo_stores (s : State) (p : Nat) : (s.forwardTo p).stores = s.stores := by
  simp only [State.forwardTo]
  repeat' split
  all_goals simp

@[simp] theorem State.helloReports_stores (s : State) (p : Nat) (h : Hello) : (s.helloReports p h).stores = s.stores := by
  simp [State.helloReports]

@[simp] theorem State.helloRecord_stores (s : State) (p : Nat) (h : Hello) (o : HelloOut) :
    (s.helloRecord p h o).stores = s.stores := by
  simp [State.helloRecord]

@[simp] theorem State.holdPort_stores (s : State) (p : Nat) : (s.holdPort p).stores = s.stores := by
  simp [State.holdPort]

@[simp] theorem State.helloUp_stores (s : State) (p : Nat) : (s.helloUp p).stores = s.stores := by
  simp [State.helloUp]

@[simp] theorem State.keeperHello_stores (s : State) (p : Nat) (h : Hello) : (s.keeperHello p h).stores = s.stores := by
  unfold State.keeperHello
  split <;> simp

@[simp] theorem State.redigest_stores (s : State) : s.redigest.stores = s.stores := by
  simp [State.redigest]

@[simp] theorem State.clearList_stores (s : State) : s.clearList.stores = s.stores := by
  simp [State.clearList]

@[simp] theorem State.exclEvent_stores (s : State) : s.exclEvent.stores = s.stores := by
  simp [State.exclEvent]

@[simp] theorem State.exclPort_stores (s : State) (n p : Nat) : (s.exclPort n p).stores = s.stores := by
  unfold State.exclPort
  split <;> simp

@[simp] theorem State.noticeResult_stores (s : State) (code : Nat) (b : List Byte) (valid : List Nat) :
    (s.noticeResult code b valid).stores = s.stores := by
  simp [State.noticeResult]

@[simp] theorem State.setHeld_stores (s : State) (l : List (List Byte × Nat)) : (s.setHeld l).stores = s.stores := by
  simp [State.setHeld]

@[simp] theorem State.queueNotice_stores (s : State) (b : List Byte) : (s.queueNotice b).stores = s.stores := by
  simp [State.queueNotice]

@[simp] theorem State.setLive_stores (s : State) (u : Nat) (b : SMap Nat) : (s.setLive u b).stores = s.stores := by
  simp [State.setLive]

@[simp] theorem State.setShadow_stores (s : State) (u : Nat) (b : SMap Nat) : (s.setShadow u b).stores = s.stores := by
  simp [State.setShadow]

@[simp] theorem State.setOld_stores (s : State) (u : Nat) (b : SMap Nat) : (s.setOld u b).stores = s.stores := by
  simp [State.setOld]

@[simp] theorem State.startUnit_stores (s : State) (u : Nat) (rest : List Nat) (cont : Bool) :
    (s.startUnit u rest cont).stores = s.stores := by
  simp [State.startUnit]

@[simp] theorem State.commitEnd_stores (s : State) (st : Status) (detail : Nat) : (s.commitEnd st detail).stores = s.stores := by
  unfold State.commitEnd
  dsimp only
  split <;> simp

@[simp] theorem State.commitDone_stores (s : State) : s.commitDone.stores = s.stores := by
  simp [State.commitDone]

@[simp] theorem State.commitNext_stores (s : State) (cont : Bool) : (s.commitNext cont).stores = s.stores := by
  unfold State.commitNext
  split <;> simp

@[simp] theorem State.moveBanks_stores (s : State) (u : Nat) : (s.moveBanks u).stores = s.stores := by
  simp [State.moveBanks]

@[simp] theorem State.switchUnit_stores (s : State) (u : Nat) : (s.switchUnit u).stores = s.stores := by
  simp [State.switchUnit]

@[simp] theorem State.adoptDown_stores (s : State) : s.adoptDown.stores = s.stores := by
  simp [State.adoptDown]

@[simp] theorem State.stopAdopting_stores (s : State) : s.stopAdopting.stores = s.stores := by
  simp [State.stopAdopting]

@[simp] theorem State.commitReset_stores (s : State) : s.commitReset.stores = s.stores := by
  simp only [State.commitReset]
  repeat' split
  all_goals simp

@[simp] theorem State.setChState_stores (s : State) (i v : Nat) : (s.setChState i v).stores = s.stores := by
  simp [State.setChState]

@[simp] theorem State.setChLogical_stores (s : State) (i v : Nat) : (s.setChLogical i v).stores = s.stores := by
  simp [State.setChLogical]

@[simp] theorem State.repairEvt_stores (s : State) (i : Nat) : (s.repairEvt i).stores = s.stores := by
  simp [State.repairEvt]

@[simp] theorem State.chEvent_stores (s : State) (event i : Nat) : (s.chEvent event i).stores = s.stores := by
  simp [State.chEvent]

@[simp] theorem State.toRemapList_stores (s : State) (e : RemapEntry) : (s.toRemapList e).stores = s.stores := by
  simp [State.toRemapList]

@[simp] theorem State.startRetrain_stores (s : State) (stack : Nat) : (s.startRetrain stack).stores = s.stores := by
  simp only [State.startRetrain]
  repeat' split
  all_goals simp

@[simp] theorem State.queueRetrain_stores (s : State) (i : Nat) (error : Bool) : (s.queueRetrain i error).stores = s.stores := by
  simp [State.queueRetrain]

@[simp] theorem State.dropRetrain_stores (s : State) (i : Nat) : (s.dropRetrain i).stores = s.stores := by
  simp [State.dropRetrain]

@[simp] theorem State.startRepair_stores (stack fuel : Nat) : ∀ s : State, (s.startRepair stack fuel).stores = s.stores := by
  induction fuel with
  | zero => exact fun _ => rfl
  | succ fuel ih =>
    intro s
    unfold State.startRepair
    dsimp only
    split
    · rfl
    · split
      · rfl
      · split <;> simp [ih]

@[simp] theorem State.queueEvacuation_stores (s : State) (i : Nat) : (s.queueEvacuation i).stores = s.stores := by
  simp [State.queueEvacuation]

@[simp] theorem State.repairEnds_stores (s : State) (stack : Nat) (r : Repair) : (s.repairEnds stack r).stores = s.stores := by
  simp [State.repairEnds]

@[simp] theorem State.poisonRun_stores (s : State) (stack chan : Nat) (run : Nat × Nat) :
    (s.poisonRun stack chan run).stores = s.stores := by
  simp [State.poisonRun]

@[simp] theorem State.poisonPlain_stores (s : State) (stack chan lo : Nat) : (s.poisonPlain stack chan lo).stores = s.stores := by
  simp [State.poisonPlain]

@[simp] theorem State.rebuildEnds_stores (s : State) (stack : Nat) (r : Repair) : (s.rebuildEnds stack r).stores = s.stores := by
  simp [State.rebuildEnds]

@[simp] theorem State.rebuildStops_stores (s : State) (stack second : Nat) (r : Repair) :
    (s.rebuildStops stack second r).stores = s.stores := by
  simp [State.rebuildStops]

@[simp] theorem State.loseChannel_stores (s : State) (i : Nat) : (s.loseChannel i).stores = s.stores := by
  simp only [State.loseChannel]
  repeat' split
  all_goals simp

@[simp] theorem State.loseSpare_stores (s : State) (i : Nat) : (s.loseSpare i).stores = s.stores := by
  unfold State.loseSpare
  dsimp only
  split <;> simp

@[simp] theorem State.dropLine_stores (s : State) (stack row : Nat) : (s.dropLine stack row).stores = s.stores := by
  simp [State.dropLine]

@[simp] theorem State.retireLine_stores (s : State) (i row : Nat) : (s.retireLine i row).stores = s.stores := by
  simp [State.retireLine]

@[simp] theorem State.rowNext_stores (s : State) (i key : Nat) : (s.rowNext i key).stores = s.stores := by
  unfold State.rowNext
  dsimp only
  split <;> simp

@[simp] theorem State.rowFails_stores (s : State) (i key : Nat) : (s.rowFails i key).stores = s.stores := by
  simp [State.rowFails]

@[simp] theorem State.rowCopyEnds_stores (s : State) (i : Nat) (x : RowCopy) (xs : List RowCopy) :
    (s.rowCopyEnds i x xs).stores = s.stores := by
  simp [State.rowCopyEnds]

@[simp] theorem State.pendingRemap_stores (s : State) (i key : Nat) : (s.pendingRemap i key).stores = s.stores := by
  unfold State.pendingRemap
  dsimp only
  split <;> simp

@[simp] theorem State.remapPending_stores (s : State) : s.remapPending.stores = s.stores := by
  simp [State.remapPending]

@[simp] theorem State.trackRow_stores (s : State) (i key sector : Nat) : (s.trackRow i key sector).stores = s.stores := by
  simp [State.trackRow]

@[simp] theorem State.corrected_stores (s : State) (i burst sector lane : Nat) :
    (s.corrected i burst sector lane).stores = s.stores := by
  simp [State.corrected]

@[simp] theorem State.holdParity_stores (s : State) (l : Loc) : (s.holdParity l).stores = s.stores := by
  simp [State.holdParity]

@[simp] theorem State.ddrLaneFails_stores (s : State) (i : Nat) : (s.ddrLaneFails i).stores = s.stores := by
  simp [State.ddrLaneFails]

@[simp] theorem State.degradeLane_stores (s : State) (i lane : Nat) : (s.degradeLane i lane).stores = s.stores := by
  simp [State.degradeLane]

@[simp] theorem State.retrainEnds_stores (s : State) (i : Nat) (fails : Bool) : (s.retrainEnds i fails).stores = s.stores := by
  simp [State.retrainEnds]

@[simp] theorem State.launchStop_stores (s : State) (id : Nat) (st : Status) : (s.launchStop id st).stores = s.stores := by
  unfold State.launchStop
  split <;> simp

@[simp] theorem State.graphStop_stores (s : State) (w : Work) (st : Status) : (s.graphStop w st).stores = s.stores := by
  simp [State.graphStop]

@[simp] theorem State.opStop_stores (s : State) (o : FabOp) (st : Status) : (s.opStop o st).stores = s.stores := by
  simp [State.opStop]

@[simp] theorem State.askCalendar_stores (s : State) (seconds fraction : Nat) (src : CalSource) :
    (s.askCalendar seconds fraction src).stores = s.stores := by
  simp [State.askCalendar]

@[simp] theorem State.setBundle_stores (s : State) (b : Nat) (v : Bundle) : (s.setBundle b v).stores = s.stores := by
  simp [State.setBundle]

@[simp] theorem State.trainBundle_stores (s : State) (b : Nat) (bad : List Nat) : (s.trainBundle b bad).stores = s.stores := by
  simp [State.trainBundle]

@[simp] theorem State.trainBundles_stores (s : State) (first n : Nat) (short : ShortLanes) :
    (s.trainBundles first n short).stores = s.stores := by
  simp [State.trainBundles]

@[simp] theorem State.d2dEvent_stores (s : State) (b : Nat) : (s.d2dEvent b).stores = s.stores := by
  simp [State.d2dEvent]

@[simp] theorem State.storeEpoch_stores (s : State) (e : Nat) (ok : Bool) : (s.storeEpoch e ok).stores = s.stores := by
  simp [State.storeEpoch]

@[simp] theorem State.advanceEpoch_stores (s : State) (ok : Bool) : (s.advanceEpoch ok).stores = s.stores := by
  unfold State.advanceEpoch
  split <;> simp

@[simp] theorem State.bootStep_stores (s : State) (n : Nat) : (s.bootStep n).stores = s.stores := by
  simp [State.bootStep]

@[simp] theorem State.setPhaseBoot_stores (s : State) (p : Phase) : (s.setPhaseBoot p).stores = s.stores := by
  simp [State.setPhaseBoot]

@[simp] theorem State.markDone_stores (s : State) (n : Nat) : (s.markDone n).stores = s.stores := by
  simp [State.markDone]

@[simp] theorem State.islandWork_stores (s : State) (r : IslandRead) : (s.islandWork r).stores = s.stores := by
  unfold State.islandWork
  split <;> simp [↓State.stores_mk, ↓State.stores_ite]

@[simp] theorem State.keepRegs_stores (s : State) : s.keepRegs.stores = s.stores := by
  simp [State.keepRegs]

@[simp] theorem State.darkenPorts_stores (s : State) : s.darkenPorts.stores = s.stores := by
  simp [State.darkenPorts]

@[simp] theorem State.hostOff_stores (s : State) : s.hostOff.stores = s.stores := by
  simp [State.hostOff]

@[simp] theorem State.clocksOff_stores (s : State) : s.clocksOff.stores = s.stores := by
  simp [State.clocksOff]

@[simp] theorem State.arraysReset_stores (s : State) (q : Nat) : (s.arraysReset q).stores = s.stores := by
  simp [State.arraysReset]

@[simp] theorem State.opDrop_stores (s : State) (o : FabOp) : (s.opDrop o).stores = s.stores := by
  simp [State.opDrop]

@[simp] theorem State.quadReset_stores (s : State) (q : Nat) (st : Status) : (s.quadReset q st).stores = s.stores := by
  unfold State.quadReset
  dsimp only
  split <;> simp

@[simp] theorem State.dieReset_stores (s : State) (c : Nat) (st : Status) : (s.dieReset c st).stores = s.stores := by
  simp [State.dieReset]

@[simp] theorem State.quadsReset_stores (s : State) (st : Status) : (s.quadsReset st).stores = s.stores := by
  simp [State.quadsReset]

@[simp] theorem State.copyEngineReset_stores (s : State) (k : Nat) (st : Status) : (s.copyEngineReset k st).stores = s.stores := by
  simp [State.copyEngineReset]

@[simp] theorem State.opCut_stores (s : State) (o : FabOp) (st : Status) (stop : Bool) : (s.opCut o st stop).stores = s.stores := by
  simp [State.opCut]

@[simp] theorem State.unabort_stores (s : State) (w : Work) : (s.unabort w).stores = s.stores := by
  unfold State.unabort
  split <;> simp

@[simp] theorem State.cutAll_stores (s : State) (st : Status) : (s.cutAll st).stores = s.stores := by
  simp [State.cutAll]

@[simp] theorem State.startDump_stores (s : State) (trigger : Nat) (work : Option Work) (buffer size : Nat) (freeze : Bool) :
    (s.startDump trigger work buffer size freeze).stores = s.stores := by
  simp [State.startDump]

@[simp] theorem State.endDump_stores (s : State) (truncated : Bool) (st : Status) : (s.endDump truncated st).stores = s.stores := by
  unfold State.endDump
  dsimp only
  split <;> simp

@[simp] theorem State.cutDump_stores (s : State) (st : Status) : (s.cutDump st).stores = s.stores := by
  simp [State.cutDump]

@[simp] theorem State.dumpSection_stores (s : State) (code n flags : Nat) : (s.dumpSection code n flags).stores = s.stores := by
  simp [State.dumpSection]

@[simp] theorem State.regDump_stores (s : State) (trigger : Nat) : (s.regDump trigger).stores = s.stores := by
  simp [State.regDump]

@[simp] theorem State.dumpMark_stores (s : State) (codes : List Nat) : (s.dumpMark codes).stores = s.stores := by
  unfold State.dumpMark
  split <;> simp

@[simp] theorem State.resetEnds_stores (s : State) (r : RReq) (result : Nat) : (s.resetEnds r result).stores = s.stores := by
  simp [State.resetEnds]

@[simp] theorem State.resetState_stores (s : State) (v : Nat) : (s.resetState v).stores = s.stores := by
  simp [State.resetState]

@[simp] theorem State.freezeAll_stores (s : State) : s.freezeAll.stores = s.stores := by
  simp [State.freezeAll]

@[simp] theorem State.freezeEngine_stores (s : State) (e : Nat) : (s.freezeEngine e).stores = s.stores := by
  simp [State.freezeEngine]

@[simp] theorem State.zeroSync_stores (s : State) (x : Nat) : (s.zeroSync x).stores = s.stores := by
  simp [State.zeroSync]

@[simp] theorem State.askCycle_stores (s : State) : s.askCycle.stores = s.stores := by
  simp [State.askCycle]

@[simp] theorem State.setStage_stores (s : State) (n : Nat) : (s.setStage n).stores = s.stores := by
  unfold State.setStage
  split <;> simp

@[simp] theorem State.parkClock_stores (s : State) (c : Nat) : (s.parkClock c).stores = s.stores := by
  simp [State.parkClock]

@[simp] theorem State.unparkClock_stores (s : State) (c : Nat) : (s.unparkClock c).stores = s.stores := by
  simp [State.unparkClock]

@[simp] theorem State.sendNotice_stores (s : State) (n : EndNotice) : (s.sendNotice n).stores = s.stores := by
  simp [State.sendNotice]

@[simp] theorem State.retrainsAfresh_stores (s : State) : s.retrainsAfresh.stores = s.stores := by
  refine State.stores_foldl _ (fun s a => ?_) _ _
  simp only []
  split <;> simp

@[simp] theorem State.cycleTakeover_stores (s : State) : s.cycleTakeover.stores = s.stores := by
  simp [↓State.stores_mk, ↓State.stores_eta, ↓State.askCycle_stores, ↓State.sendNotice_stores, State.cycleTakeover]

@[simp] theorem State.reportWider_stores (s0 s : State) : (s0.reportWider s).stores = s.stores := by
  simp [State.reportWider]

@[simp] theorem State.resetReady_stores (s : State) : s.resetReady.stores = s.stores := by
  simp [State.resetReady]

@[simp] theorem State.startClock_stores (s : State) (c : Nat) : (s.startClock c).stores = s.stores := by
  simp [State.startClock]

@[simp] theorem State.writeHeader_stores (s : State) (cause : Nat) : (s.writeHeader cause).stores = s.stores := by
  simp [State.writeHeader]

@[simp] theorem State.hostTrain_stores (s : State) (fast : Bool) (usable : List Nat) :
    (s.hostTrain fast usable).stores = s.stores := by
  simp [State.hostTrain]

@[simp] theorem State.bar4Refused_stores (s : State) (off addr dir : Nat) : (s.bar4Refused off addr dir).stores = s.stores := by
  simp [State.bar4Refused]

@[simp] theorem State.sendReady_stores (s : State) : s.sendReady.stores = s.stores := by
  simp [State.sendReady]

@[simp] theorem State.setPwr_stores (s : State) (p : Pwr) : (s.setPwr p).stores = s.stores := by
  simp [State.setPwr]

@[simp] theorem State.seeFeeds_stores (s : State) (va vb : Nat) : (s.seeFeeds va vb).stores = s.stores := by
  simp [State.seeFeeds]

@[simp] theorem State.switchFeed_stores (s : State) (f : Feed) : (s.switchFeed f).stores = s.stores := by
  simp [State.switchFeed]

@[simp] theorem State.dutyTick_stores (s : State) : s.dutyTick.stores = s.stores := by
  simp [State.dutyTick]

@[simp] theorem State.setClock_stores (s : State) (c f : Nat) : (s.setClock c f).stores = s.stores := by
  simp [State.setClock]

@[simp] theorem State.unhintDie_stores (s : State) (c : Nat) : (s.unhintDie c).stores = s.stores := by
  simp [State.unhintDie]

@[simp] theorem State.hintDie_stores (s : State) (c target since lead hold : Nat) :
    (s.hintDie c target since lead hold).stores = s.stores := by
  simp [State.hintDie]

@[simp] theorem State.setThm_stores (s : State) (t : Therm) : (s.setThm t).stores = s.stores := by
  simp [State.setThm]

@[simp] theorem State.putStop_stores (s : State) (v : Nat) : (s.putStop v).stores = s.stores := by
  simp [State.putStop]

@[simp] theorem State.absorbResets_stores (s : State) : s.absorbResets.stores = s.stores := by
  unfold State.absorbResets
  split <;> simp

@[simp] theorem State.noteStop_stores (s : State) (cause unit : Nat) : (s.noteStop cause unit).stores = s.stores := by
  simp [State.noteStop]

@[simp] theorem State.tellStop_stores (s : State) (cause unit : Nat) : (s.tellStop cause unit).stores = s.stores := by
  simp [State.tellStop]

@[simp] theorem State.convertStop_stores (s : State) (cause : Nat) : (s.convertStop cause).stores = s.stores := by
  simp [State.convertStop]

@[simp] theorem State.haltQueues_stores (s : State) (st : Status) : (s.haltQueues st).stores = s.stores := by
  simp [State.haltQueues]

@[simp] theorem State.discardUnits_stores (s : State) : s.discardUnits.stores = s.stores := by
  unfold State.discardUnits
  extract_lets st s1 s2
  have h2 : s2.stores = s1.stores := State.stores_foldl _ (fun s w => by split <;> [skip; rfl]; split <;> simp) _ _
  simp [h2, s1]

@[simp] theorem State.cutOpen_stores (s : State) : s.cutOpen.stores = s.stores := by
  simp [State.cutOpen]

@[simp] theorem State.shutStop_stores (s : State) : s.shutStop.stores = s.stores := by
  simp [↓State.stores_mk, ↓State.stores_eta, ↓State.sendNotice_stores, State.shutStop]

@[simp] theorem State.stopStep_stores (s : State) (n : Nat) : (s.stopStep n).stores = s.stores := by
  simp [State.stopStep]

@[simp] theorem State.setSensor_stores (s : State) (i : Nat) (v : Sensor) : (s.setSensor i v).stores = s.stores := by
  simp [State.setSensor]

@[simp] theorem State.badSample_stores (s : State) (i : Nat) : (s.badSample i).stores = s.stores := by
  simp [State.badSample]

@[simp] theorem State.goodSample_stores (s : State) (i : Nat) (x : Int) : (s.goodSample i x).stores = s.stores := by
  simp only [State.goodSample]
  repeat' split
  all_goals simp

@[simp] theorem State.throttles_stores (s : State) : s.throttles.stores = s.stores := by
  simp [State.throttles]

@[simp] theorem State.crossCheck_stores (s : State) (c : Nat) (rise : Int) : (s.crossCheck c rise).stores = s.stores := by
  simp [State.crossCheck]

@[simp] theorem State.reproject_stores (s : State) (i : Nat) : (s.reproject i).stores = s.stores := by
  simp only [State.reproject]
  repeat' split
  all_goals simp

@[simp] theorem State.tempRetrains_stores (s : State) (k : Nat) (x : Int) : (s.tempRetrains k x).stores = s.stores := by
  simp [State.tempRetrains]

@[simp] theorem State.qualified_stores (s : State) (f : Feed) : (s.qualified f).stores = s.stores := by
  simp [State.qualified]

@[simp] theorem State.tryReady_stores (s : State) : s.tryReady.stores = s.stores := by
  simp [State.tryReady]

@[simp] theorem State.trainedChan_stores (s : State) (i : Nat) : (s.trainedChan i).stores = s.stores := by
  simp [State.trainedChan]

@[simp] theorem State.placeStack_stores (s : State) (usable : List Nat) (k : Nat) : (s.placeStack usable k).stores = s.stores := by
  refine State.stores_foldl _ (fun s a => ?_) _ _
  split <;> simp

@[simp] theorem State.applyRemap_stores (s : State) (e : RemapEntry) : (s.applyRemap e).stores = s.stores := by
  unfold State.applyRemap
  split <;> simp

@[simp] theorem State.firstMap_stores (s : State) : s.firstMap.stores = s.stores := by
  simp [State.firstMap]

@[simp] theorem State.spareLane_stores (s : State) (i lane : Nat) : (s.spareLane i lane).stores = s.stores := by
  simp [State.spareLane]

@[simp] theorem State.loadFeedforward_stores (s : State) : s.loadFeedforward.stores = s.stores := by
  simp [State.loadFeedforward]

@[simp] theorem State.step10_stores (s : State) (bad : List Nat) : (s.step10 bad).stores = s.stores := by
  simp [State.step10]

@[simp] theorem State.atLimit_stores (s : State) (n : Nat) : (s.atLimit n).stores = s.stores := by
  simp only [State.atLimit]
  repeat' split
  all_goals simp

@[simp] theorem State.withFetchWord_stores (s : State) (nbits w : Nat) : (s.withFetchWord nbits w).stores = s.stores := by
  unfold State.withFetchWord
  split <;> simp

end Sys2Proof.Machine

/-! SUPPORT. Canonical form of the byte stores: kept by the functions of the model that write them. -/

namespace Sys2Proof.Machine

/-! ## Canonical form -/

/-- The stores are in canonical form: `State.wf`, read off the stores alone. -/
def Stores.Canon (x : Stores) : Prop := (x.spad.wf && x.hubsp.wf && x.dram.wf) = true

theorem State.canon_iff_wf (s : State) : s.stores.Canon ↔ s.wf = true := Iff.rfl

@[simp] theorem Stores.canon_ite (c : Prop) [Decidable c] (x y : Stores) :
    (if c then x else y).Canon = if c then x.Canon else y.Canon :=
  apply_ite Stores.Canon c x y

@[simp] theorem State.canon_foldl {α : Type} (f : State → α → State) (hf : ∀ s a, s.stores.Canon → (f s a).stores.Canon) (l : List α)
    {s : State} (h : s.stores.Canon) : (l.foldl f s).stores.Canon := State.wf_foldl f hf l h

theorem State.canon_spad {s : State} (h : s.stores.Canon) : s.spad.wf = true := (State.wf_iff.1 h).1

theorem State.canon_hubsp {s : State} (h : s.stores.Canon) : s.hubsp.wf = true := (State.wf_iff.1 h).2.1

theorem State.canon_dram {s : State} (h : s.stores.Canon) : s.mem.dram.wf = true := (State.wf_iff.1 h).2.2

theorem Stores.canon_mk {a b c : Mem} (ha : a.wf = true) (hb : b.wf = true) (hc : c.wf = true) : Stores.Canon ⟨a, b, c⟩ := by
  simp [Stores.Canon, ha, hb, hc]

theorem State.setDram_canon {s : State} {m : Mem} (hs : s.stores.Canon) (hm : m.wf = true) : (s.setDram m).stores.Canon :=
  State.wf_setDram (s := s) hs hm

@[simp] theorem State.storeMedia_canon {s : State} (k : Nat) (bs : List Byte) (hs : s.stores.Canon) :
    (s.storeMedia k bs).stores.Canon :=
  State.wf_storeMedia k bs hs

@[simp] theorem State.memWrite_canon {s : State} (a : Nat) (bs : List Byte) (hs : s.stores.Canon) : (s.memWrite a bs).1.stores.Canon :=
  State.wf_memWrite a bs hs

@[simp] theorem State.memPoison_canon {s : State} (a n : Nat) (hs : s.stores.Canon) : (s.memPoison a n).stores.Canon :=
  State.wf_memPoison a n hs

@[simp] theorem State.memWriteBad_canon {s : State} (a : Nat) (r : ReadOut) (hs : s.stores.Canon) :
    (s.memWriteBad a r).1.stores.Canon := State.wf_memWriteBad a r hs

theorem State.setSpad_canon {s : State} {m : Mem} (hs : s.stores.Canon) (hm : m.wf = true) : (s.setSpad m).stores.Canon :=
  State.wf_setSpad (s := s) hs hm

theorem State.setHub_canon {s : State} {m : Mem} (hs : s.stores.Canon) (hm : m.wf = true) : (s.setHub m).stores.Canon :=
  State.wf_setHub (s := s) hs hm

@[simp] theorem State.drainStore_canon {s : State} (q a : Nat) (bytes : List Byte) (bad : Bool) (hs : s.stores.Canon) :
    (s.drainStore q a bytes bad).stores.Canon := by
  refine State.setSpad_canon hs ?_
  have hw := Mem.wf_write (spadKey q a) bytes (State.canon_spad hs)
  split
  · exact Mem.wf_poisonSectors _ _ hw
  · exact hw

@[simp] theorem State.drainPlain_canon {s : State} (i : Nat) (d : DrainOp) (m : Nat) (hs : s.stores.Canon) :
    (State.drainPlain i d s m).stores.Canon := by
  simp [State.drainPlain, hs]

@[simp] theorem State.drainBlock_canon {s : State} (i : Nat) (d : DrainOp) (m : Nat) (vs : List (Nat × Bool)) (hs : s.stores.Canon) :
    (State.drainBlock i d s m vs).stores.Canon := by
  simp [State.drainBlock, hs]

@[simp] theorem State.drainEntry_canon {s : State} (i : Nat) (d : DrainOp) (hs : s.stores.Canon) :
    (s.drainEntry i d).1.stores.Canon := by
  unfold State.drainEntry
  dsimp only
  split
  · split
    · exact State.canon_foldl _ (fun s p hs => State.drainBlock_canon _ _ _ _ hs) _ hs
    · exact hs
  · exact State.canon_foldl _ (fun s m hs => State.drainPlain_canon _ _ _ hs) _ hs

theorem State.vstore_canon {q w : Nat} {s t : State} (hs : s.stores.Canon) (h : s.vstore q w = .ok t) : t.stores.Canon := by
  unfold State.vstore at h
  split at h <;> cases h
  rw [State.cvtEvents_stores]
  have hr := (State.vecRounding_stores s q w (vecLen w)).symm ▸ hs
  refine State.setSpad_canon hr ?_
  split
  · exact Mem.wf_write _ _ (Mem.wf_write _ _ (State.canon_spad hr))
  · exact Mem.wf_write _ _ (State.canon_spad hr)

@[simp] theorem State.rollback_canon {s : State} (hs : s.stores.Canon) : s.rollback.stores.Canon := by
  unfold State.rollback
  rw [State.setRefl_stores]
  exact State.canon_foldl _ (fun s u hs => State.memWriteBad_canon _ _ hs) _ hs

@[simp] theorem State.takeRburst_canon {s : State} (p : Packet) (hs : s.stores.Canon) : (s.takeRburst p).1.stores.Canon := by
  simp only [State.takeRburst, apply_ite Prod.fst]
  repeat' split
  all_goals simp [hs]

@[simp] theorem State.takeReflection_canon {s : State} (p : Packet) (hs : s.stores.Canon) : (s.takeReflection p).1.stores.Canon := by
  simp [State.takeReflection, apply_ite Prod.fst, hs]

@[simp] theorem State.deliver_canon {s : State} (n : Nat) (p : Packet) (hs : s.stores.Canon) : (s.deliver n p).state.stores.Canon := by
  simp [State.deliver, hs]

@[simp] theorem State.atomic_canon {s : State} (p : Packet) (hs : s.stores.Canon) : (s.atomic p).state.stores.Canon := by
  simp [State.atomic, apply_ite Served.state, hs]

@[simp] theorem State.atomicSeq_canon {s : State} (p : Packet) (t : FlowTgt) (hs : s.stores.Canon) :
    (s.atomicSeq p t).state.stores.Canon := by
  unfold State.atomicSeq
  dsimp only
  split <;> simp [apply_ite Served.state, hs]

@[simp] theorem State.serveChecks_canon {s : State} (p : Packet) (t : FlowTgt) (hs : s.stores.Canon) :
    (s.serveChecks p t).state.stores.Canon := by
  unfold State.serveChecks
  split
  · exact hs
  split
  · exact State.takeReflection_canon p hs
  split
  · simp [apply_ite Served.state, hs]
  · split <;> simp [apply_ite Served.state, hs]

@[simp] theorem State.serveStore_canon {s : State} (port : Nat) (p : Packet) (t : FlowTgt) (hs : s.stores.Canon) :
    (s.serveStore port p t).stores.Canon := by
  unfold State.serveStore
  dsimp only
  split <;> simp [hs]

@[simp] theorem State.serveDup_canon {s : State} (port : Nat) (p : Packet) (t : FlowTgt) (hs : s.stores.Canon) :
    (s.serveDup port p t).stores.Canon := by
  simp only [State.serveDup]
  repeat' split
  all_goals simp [hs]

@[simp] theorem State.serveFlow_canon {s : State} (port : Nat) (p : Packet) (hs : s.stores.Canon) :
    (s.serveFlow port p).stores.Canon := by
  simp only [State.serveFlow]
  repeat' split
  all_goals simp [hs]

@[simp] theorem State.serve_canon {s : State} (port : Nat) (p : Packet) (hs : s.stores.Canon) : (s.serve port p).stores.Canon := by
  unfold State.serve
  split <;> simp [hs]

@[simp] theorem State.serveHeld_canon {s : State} (f : Packet → Bool) (hs : s.stores.Canon) : (s.serveHeld f).stores.Canon := by
  unfold State.serveHeld
  simp +contextual [hs]

@[simp] theorem State.serveAll_canon {s : State} (hs : s.stores.Canon) : s.serveAll.stores.Canon := by
  simp [State.serveAll, hs]

@[simp] theorem State.arrive_canon {s : State} (port : Nat) (p : Packet) (hs : s.stores.Canon) : (s.arrive port p).stores.Canon := by
  simp [State.arrive, hs]

@[simp] theorem State.serveOpens_canon {s : State} (hs : s.stores.Canon) : s.serveOpens.stores.Canon := by
  unfold State.serveOpens
  simp +contextual [hs]

@[simp] theorem State.deliverEnd_canon {s : State} (d : LocalEnd) (pos : Nat) (bytes : List Byte) (bad : Bool) (hs : s.stores.Canon) :
    (s.deliverEnd d pos bytes bad).1.stores.Canon := by
  cases d with
  | mem a => simp [State.deliverEnd, apply_ite Prod.fst, hs]
  | host a => simp [State.deliverEnd, hs]
  | hub a => exact State.setHub_canon hs (Mem.wf_writeOut _ _ (State.canon_hubsp hs))
  | spad q a => exact State.setSpad_canon hs (Mem.wf_writeOut _ _ (State.canon_spad hs))
  | stage node off key => exact hs
  | none => exact hs

@[simp] theorem State.opEnd_canon {s : State} (r : FabReq) (o : FabOp) (res : Result) (data : List Byte) (poison : Bool)
    (hs : s.stores.Canon) : (s.opEnd r o res data poison).stores.Canon := by
  simp only [State.opEnd]
  repeat' split
  all_goals simp [hs]

@[simp] theorem State.endReq_canon {s : State} (r : FabReq) (res : Result) (data : List Byte) (poison : Bool) (hs : s.stores.Canon) :
    (s.endReq r res data poison).stores.Canon := by
  unfold State.endReq
  dsimp only
  split <;> simp [hs]

@[simp] theorem State.endUnissued_canon {s : State} (n : Nat) (st : Status) (hs : s.stores.Canon) :
    (s.endUnissued n st).stores.Canon := by
  unfold State.endUnissued
  simp +contextual [hs]

@[simp] theorem State.endSent_canon {s : State} (n reason : Nat) (st : Status) (hs : s.stores.Canon) :
    (s.endSent n reason st).stores.Canon := by
  exact State.canon_foldl _ (fun s r hs => State.endReq_canon _ _ _ _ hs) _ hs

@[simp] theorem State.endAllTo_canon {s : State} (n reason : Nat) (unsent : Status) (hs : s.stores.Canon) :
    (s.endAllTo n reason unsent).stores.Canon := by
  simp [State.endAllTo, hs]

@[simp] theorem State.issueOwn_canon {s : State} (hs : s.stores.Canon) : s.issueOwn.stores.Canon := by
  unfold State.issueOwn
  dsimp only
  split <;> simp [hs]

@[simp] theorem State.openReply_canon {s : State} (r : FabReq) (p : Packet) (hs : s.stores.Canon) :
    (s.openReply r p).stores.Canon := by
  unfold State.openReply
  split <;> simp [hs]

@[simp] theorem State.ackPosted_canon {s : State} (n fseq : Nat) (hs : s.stores.Canon) : (s.ackPosted n fseq).stores.Canon := by
  exact State.canon_foldl _ (fun s r hs => State.endReq_canon _ _ _ _ hs) _ hs

@[simp] theorem State.epochReply_canon {s : State} (r : FabReq) (p : Packet) (hs : s.stores.Canon) :
    (s.epochReply r p).stores.Canon := by
  simp [State.epochReply, hs]

@[simp] theorem State.reply_canon {s : State} (port : Nat) (p : Packet) (refl : Bool) (hs : s.stores.Canon) :
    (s.reply port p refl).stores.Canon := by
  simp only [State.reply]
  repeat' split
  all_goals simp [hs]

@[simp] theorem State.writeEnd_canon {s : State} (e : LocalEnd) (r : ReadOut) (skew : Nat) (hs : s.stores.Canon) :
    (s.writeEnd e r skew).1.stores.Canon := by
  cases e with
  | mem a => exact State.memWriteBad_canon a r hs
  | host a => simp [State.writeEnd, hs]
  | hub a => exact State.setHub_canon hs (Mem.wf_writeOut _ _ (State.canon_hubsp hs))
  | spad q a => exact State.setSpad_canon hs (Mem.wf_writeOut _ _ (State.canon_spad hs))
  | stage node off key => exact hs
  | none => exact hs

@[simp] theorem State.hubCopy_canon {s : State} (work : Work) (ctxId e : Nat) (src : CopyEnd ⊕ List Byte) (dst : CopyEnd) (len : Nat)
    (hs : s.stores.Canon) : (s.hubCopy work ctxId e src dst len).stores.Canon := by
  simp only [State.hubCopy]
  repeat' split
  all_goals simp [hs]

@[simp] theorem State.scrambleDst_canon {s : State} (r : ColRun) (hs : s.stores.Canon) : (s.scrambleDst r).stores.Canon := by
  simp [State.scrambleDst, hs]

@[simp] theorem State.endRun_canon {s : State} (k : Nat) (st : Status) (hs : s.stores.Canon) : (s.endRun k st).stores.Canon := by
  unfold State.endRun
  dsimp only
  split <;> simp [hs]

@[simp] theorem State.breakSession_canon {s : State} (k cause node : Nat) (st : Status) (hs : s.stores.Canon) :
    (s.breakSession k cause node st).stores.Canon := by
  unfold State.breakSession
  dsimp only
  split <;> simp [↓State.stores_ite, ↓State.setSessState_stores, ↓State.put_stores, ↓State.setSess_stores, hs]

@[simp] theorem State.abandon_canon {s : State} (k cause node : Nat) (st : Status) (hs : s.stores.Canon) :
    (s.abandon k cause node st).stores.Canon := by
  simp [State.abandon, hs]

@[simp] theorem State.settleRun_canon {s : State} (k : Nat) (hs : s.stores.Canon) : (s.settleRun k).stores.Canon := by
  unfold State.settleRun
  dsimp only
  split <;> simp [hs]

@[simp] theorem State.writeChunk_canon {s : State} (k tree seq at_ : Nat) (bytes : List Byte) (hs : s.stores.Canon) :
    (s.writeChunk k tree seq at_ bytes).stores.Canon := by
  unfold State.writeChunk
  dsimp only
  split <;> simp [hs]

@[simp] theorem State.fillSlots_canon (k tree n : Nat) :
    ∀ {s : State}, s.stores.Canon → (State.fillSlots k tree n s).stores.Canon := by
  induction n with
  | zero => exact fun hs => hs
  | succ n ih =>
    intro s hs
    unfold State.fillSlots
    dsimp only
    split
    · exact hs
    · split
      · exact hs
      · exact ih (by simp [hs])

@[simp] theorem State.progress_canon {s : State} (k tree : Nat) (hs : s.stores.Canon) : (s.progress k tree).stores.Canon := by
  simp [State.progress, hs]

@[simp] theorem State.mismatchRun_canon {s : State} (k node : Nat) (hs : s.stores.Canon) : (s.mismatchRun k node).stores.Canon := by
  simp [State.mismatchRun, hs]

@[simp] theorem State.takeUp_canon {s : State} (r : ColRun) (p : ColPacket) (e : ColEdge) (adder : List (List Nat)) (hs : s.stores.Canon) :
    (s.takeUp r p e adder).stores.Canon := by
  unfold State.takeUp
  split <;> simp [hs]

@[simp] theorem State.takeDown_canon {s : State} (r : ColRun) (p : ColPacket) (e : ColEdge) (hs : s.stores.Canon) :
    (s.takeDown r p e).stores.Canon := by
  simp only [State.takeDown]
  repeat' split
  all_goals simp [hs]

@[simp] theorem State.applyCredit_canon {s : State} (k : Nat) (r : ColRun) (e : ColEdge) (limit ack : Nat) (hs : s.stores.Canon) :
    (s.applyCredit k r e limit ack).stores.Canon := by
  simp [State.applyCredit, hs]

@[simp] theorem State.startRun_canon {s : State} (k : Nat) (r : ColRun) (rest : List ColRun) (hs : s.stores.Canon) :
    (s.startRun k r rest).stores.Canon := by
  simp only [State.startRun]
  split
  · simp [hs]
  · refine State.settleRun_canon _ ?_
    rw [State.pump_stores]
    exact State.fillSlots_canon _ _ _ (State.fillSlots_canon _ _ _ (by simp [hs]))

@[simp] theorem State.colAbort_canon {s : State} (w : Work) (hs : s.stores.Canon) : (s.colAbort w).stores.Canon := by
  unfold State.colAbort
  simp +contextual [hs]

@[simp] theorem State.colBreakAll_canon {s : State} (cause : Nat) (st : Status) (hs : s.stores.Canon) :
    (s.colBreakAll cause st).stores.Canon := by
  unfold State.colBreakAll
  simp +contextual [hs]

@[simp] theorem State.colPeer_canon {s : State} (n cause : Nat) (hs : s.stores.Canon) : (s.colPeer n cause).stores.Canon := by
  unfold State.colPeer
  simp +contextual [hs]

@[simp] theorem State.loadGraph_canon {s : State} (g : Nat) (work : Work) (it : Item) (h : List Byte) (hs : s.stores.Canon) :
    (s.loadGraph g work it h).stores.Canon := by
  simp only [State.loadGraph]
  split
  · simp [hs]
  split
  next t e => exact (State.graphImage_stores e) ▸ hs
  split
  · simp [hs]
  split
  · simp [hs]
  split
  · simp [hs]
  rw [State.runGraph_stores, State.setGraph_stores]
  exact State.canon_foldl _ (fun s p hs => State.setHub_canon hs (Mem.wf_write _ _ (State.canon_hubsp hs))) _ hs

@[simp] theorem State.peerResets_canon {s : State} (n : Nat) (hs : s.stores.Canon) : (s.peerResets n).stores.Canon := by
  simp [State.peerResets, hs]

@[simp] theorem State.helloEpoch_canon {s : State} (h : Hello) (hs : s.stores.Canon) : (s.helloEpoch h).stores.Canon := by
  simp [State.helloEpoch, hs]

@[simp] theorem State.excludeNode_canon {s : State} (n : Nat) (hs : s.stores.Canon) : (s.excludeNode n).stores.Canon := by
  simp [State.excludeNode, hs]

@[simp] theorem State.closeShutter_canon {s : State} (full : Bool) (hs : s.stores.Canon) : (s.closeShutter full).stores.Canon := by
  simp only [State.closeShutter, State.exclEvent_stores, State.reflLost_stores]
  refine State.colBreakAll_canon _ _ (State.canon_foldl _ (fun s n hs => State.endAllTo_canon _ _ _ hs) _ ?_)
  simp [hs]

@[simp] theorem State.applyNotice_canon {s : State} (readmit : Bool) (n : Nat) (hs : s.stores.Canon) :
    (s.applyNotice readmit n).stores.Canon := by
  simp [State.applyNotice, hs]

@[simp] theorem State.acceptNotice_canon {s : State} (b : List Byte) (hs : s.stores.Canon) : (s.acceptNotice b).stores.Canon := by
  simp [State.acceptNotice, hs]

@[simp] theorem State.applyHeld_canon (n : Nat) : ∀ {s : State}, s.stores.Canon → (State.applyHeld n s).stores.Canon := by
  induction n with
  | zero => exact fun hs => hs
  | succ n ih =>
    intro s hs
    unfold State.applyHeld
    split
    · exact hs
    · exact ih (by simp [hs])

@[simp] theorem State.judgeNotice_canon {s : State} (b : List Byte) (good : List Nat) (hs : s.stores.Canon) :
    (s.judgeNotice b good).stores.Canon := by
  simp only [State.judgeNotice]
  repeat' split
  all_goals simp [hs]

@[simp] theorem State.fillMedia_canon {s : State} (m : MapEnt) (hs : s.stores.Canon) : (s.fillMedia m).stores.Canon := by
  obtain ⟨hb, hp⟩ := Bool.and_eq_true_iff.1 (State.canon_dram hs)
  have hd := Bool.and_eq_true_iff.2 ⟨SMap.wf_drop (fun k => m.hasBurst (k / 2048)) hb, SMap.wf_drop (fun k => m.hasBurst (k / 32)) hp⟩
  exact Stores.canon_mk (State.canon_spad (s := s) hs) (State.canon_hubsp (s := s) hs) hd

@[simp] theorem State.uncorrectable_canon {s : State} (i chan burst sector : Nat) (hs : s.stores.Canon) :
    (s.uncorrectable i chan burst sector).stores.Canon := by
  simp only [State.uncorrectable, State.rowFails_stores, State.logMem_stores, State.bump_stores, State.setChan_stores]
  exact State.setDram_canon hs (Mem.wf_mark _ _ (State.canon_dram hs))

@[simp] theorem State.burstFinds_canon {s : State} (i chan burst : Nat) (finds : List (Nat × EccFind)) (hs : s.stores.Canon) :
    (s.burstFinds i chan burst finds).stores.Canon := by
  refine State.canon_foldl _ (fun s f hs => ?_) _ hs
  split
  · exact hs
  · split <;> simp [hs]

@[simp] theorem State.stopWork_canon {s : State} (w : Work) (st : Status) (hs : s.stores.Canon) : (s.stopWork w st).stores.Canon := by
  unfold State.stopWork
  split <;> simp [hs]

@[simp] theorem State.abortDesc_canon {s : State} (n i : Nat) (hs : s.stores.Canon) : (s.abortDesc n i).stores.Canon := by
  unfold State.abortDesc
  dsimp only
  split <;> simp [hs]

@[simp] theorem State.abortTargets_canon {s : State} (work : Work) (n : Nat) (l : List Nat) (hs : s.stores.Canon) :
    (s.abortTargets work n l).stores.Canon := by
  have h := State.canon_foldl (fun s i => s.abortDesc n i) (fun s i hs => State.abortDesc_canon _ _ hs)
    (l.filter fun i => !s.isCommitted n i) hs
  unfold State.abortTargets
  rw [State.finish_stores]
  split <;> simp [h]

@[simp] theorem State.clearPackage_canon {s : State} (hs : s.stores.Canon) : s.clearPackage.stores.Canon := by
  exact Stores.canon_mk Mem.wf_empty (State.canon_hubsp (s := s) hs) Mem.wf_empty

@[simp] theorem State.clearWork_canon {s : State} (hs : s.stores.Canon) : s.clearWork.stores.Canon := by
  simp only [State.clearWork, State.stores_mk]
  have h : ((List.range 30).foldl (fun s e => s.engReset e) s).stores.Canon := by simp [hs]
  exact Stores.canon_mk Mem.wf_empty Mem.wf_empty (State.canon_dram h)

@[simp] theorem State.enterHold_canon {s : State} (cause unit : Nat) (fails : List BootFail) (w0 : Bool) (hs : s.stores.Canon) :
    (s.enterHold cause unit fails w0).stores.Canon := by
  simp [State.enterHold, hs]

@[simp] theorem State.restart_canon {s : State} (hs : s.stores.Canon) : s.restart.stores.Canon := by
  unfold State.restart
  simp [↓State.stores_mk, ↓State.stores_eta, ↓State.put_stores, ↓State.bump_stores, ↓State.bootStep_stores, hs]

@[simp] theorem State.hold_canon {s : State} (cause unit : Nat) (fails : List BootFail) (w0 : Bool) (hs : s.stores.Canon) :
    (s.hold cause unit fails w0).stores.Canon := by
  simp [State.hold, hs]

@[simp] theorem State.powerOff_canon {s : State} (latched : Bool) : (s.powerOff latched).stores.Canon := by
  exact Stores.canon_mk Mem.wf_empty Mem.wf_empty Mem.wf_empty

@[simp] theorem State.resetEngine_canon {s : State} (e : Nat) (hs : s.stores.Canon) : (s.resetEngine e).stores.Canon := by
  unfold State.resetEngine
  simp [↓State.stores_ite, ↓State.stores_mk, ↓State.stores_eta, hs]

@[simp] theorem State.colCut_canon {s : State} (w : Work) (st : Status) (stop : Bool) (hs : s.stores.Canon) :
    (s.colCut w st stop).stores.Canon := by
  unfold State.colCut
  simp +contextual [hs]

@[simp] theorem State.endOpen_canon {s : State} (w : Work) (st : Status) (stop : Bool) (hs : s.stores.Canon) :
    (s.endOpen w st stop).stores.Canon := by
  unfold State.endOpen
  split <;> simp [hs]

@[simp] theorem State.endAll_canon {s : State} (st : Status) (stop : Bool) (p : Item → Bool) (hs : s.stores.Canon) :
    (s.endAll st stop p).stores.Canon := by
  refine State.canon_foldl _ (fun s a hs => ?_) _ hs
  split <;> simp [hs]

@[simp] theorem State.endContext_canon {s : State} (x : Nat) (hs : s.stores.Canon) : (s.endContext x).stores.Canon := by
  unfold State.endContext
  simp +contextual [hs]

@[simp] theorem State.quiesce_canon {s : State} (r : RReq) (hs : s.stores.Canon) : (s.quiesce r).stores.Canon := by
  simp [State.quiesce, hs]

@[simp] theorem State.tryChip_canon {s : State} (hs : s.stores.Canon) : s.tryChip.stores.Canon := by
  unfold State.tryChip
  split <;> simp [hs]

@[simp] theorem State.startReset_canon {s : State} (r : RReq) (hs : s.stores.Canon) : (s.startReset r).stores.Canon := by
  unfold State.startReset
  split <;> simp [hs]

@[simp] theorem State.finishReset_canon {s : State} (result : Nat) (hs : s.stores.Canon) : (s.finishReset result).stores.Canon := by
  simp only [State.finishReset]
  repeat' split
  all_goals simp [hs]

@[simp] theorem State.settleContexts_canon {s : State} (hs : s.stores.Canon) : s.settleContexts.stores.Canon := by
  unfold State.settleContexts
  dsimp only
  split <;> simp [hs]

@[simp] theorem State.request_canon {s : State} (r : RReq) (hs : s.stores.Canon) : (s.request r).stores.Canon := by
  simp only [State.request]
  repeat' split
  all_goals simp [hs]

@[simp] theorem State.requestChip_canon {s : State} (r : RReq) (hs : s.stores.Canon) : (s.requestChip r).stores.Canon := by
  unfold State.requestChip
  split <;> simp [hs]

@[simp] theorem State.failReset_canon {s : State} (hs : s.stores.Canon) : s.failReset.stores.Canon := by
  simp only [State.failReset]
  repeat' split
  all_goals simp [hs]

@[simp] theorem State.poisonSectors_canon {s : State} (l : List Nat) (hs : s.stores.Canon) : (s.poisonSectors l).stores.Canon := by
  exact State.setDram_canon (s := s) hs (Mem.wf_foldl _ (fun m k hm => Mem.wf_mark k true hm) l (State.canon_dram hs))

@[simp] theorem State.clearSpads_canon {s : State} (c : Nat) (hs : s.stores.Canon) : (s.clearSpads c).stores.Canon := by
  exact State.setSpad_canon hs (Mem.wf_clearRange _ _ (State.canon_spad hs))

@[simp] theorem State.forceEnd_canon {s : State} (hs : s.stores.Canon) : s.forceEnd.stores.Canon := by
  simp [State.forceEnd, hs]

@[simp] theorem State.takeoverUnits_stores (s : State) : s.takeoverUnits.stores = s.stores := by
  simp [State.takeoverUnits]

@[simp] theorem State.takeoverRegs_stores (s : State) (node asg : Nat) : (s.takeoverRegs node asg).stores = s.stores := by
  simp [State.takeoverRegs]

@[simp] theorem State.takeover_canon {s : State} (r : RReq) (hs : s.stores.Canon) : (s.takeover r).stores.Canon := by
  have hi : (s.announced r).interrupted.stores.Canon := by
    simp [State.interrupted, State.announced, State.claimed, hs]
  rw [State.takeover_eq, State.takeoverUnits_stores, State.takeoverRegs_stores]
  simp only [State.emptied, State.colReset_stores, State.monReset_stores, State.keepRegs_stores]
  exact State.clearWork_canon hi

@[simp] theorem State.tick_canon {s : State} (hs : s.stores.Canon) : s.tick.stores.Canon := by
  simp only [State.tick]
  repeat' split
  all_goals simp [hs]

@[simp] theorem State.dumpOver_canon {s : State} (truncated : Bool) (st : Status) (hs : s.stores.Canon) :
    (s.dumpOver truncated st).stores.Canon := by
  simp [State.dumpOver, hs]

@[simp] theorem State.endContexts_canon {s : State} (xs : List Nat) (hs : s.stores.Canon) : (s.endContexts xs).stores.Canon := by
  refine State.settleContexts_canon ?_
  rw [State.stores_mk]
  exact State.canon_foldl _ (fun s x hs => State.endContext_canon _ hs) _ hs

@[simp] theorem State.flushAndStop_canon {s : State} (hs : s.stores.Canon) : s.flushAndStop.stores.Canon := by
  simp [↓State.stores_mk, ↓State.stores_eta, State.flushAndStop, hs]

@[simp] theorem State.startStop_canon {s : State} (cause unit : Nat) (emergency : Bool) (hs : s.stores.Canon) :
    (s.startStop cause unit emergency).stores.Canon := by
  simp [State.startStop, hs]

@[simp] theorem State.stopCause_canon {s : State} (cause unit : Nat) (emergency : Bool) (hs : s.stores.Canon) :
    (s.stopCause cause unit emergency).stores.Canon := by
  simp [State.stopCause, hs]

@[simp] theorem State.stopWaits_canon {s : State} (hs : s.stores.Canon) : s.stopWaits.stores.Canon := by
  simp [State.stopWaits, hs]

@[simp] theorem State.saveArea_canon {s : State} (hs : s.stores.Canon) : s.saveArea.stores.Canon := by
  simp [State.saveArea, hs]

@[simp] theorem State.stopped_canon {s : State} (hs : s.stores.Canon) : s.stopped.stores.Canon := by
  unfold State.stopped
  dsimp only
  split <;> simp [hs]

@[simp] theorem State.orderlyStep_canon {s : State} (done : Bool) (hs : s.stores.Canon) : (s.orderlyStep done).stores.Canon := by
  unfold State.orderlyStep
  split <;> simp [hs]

@[simp] theorem State.emergencyStep_canon {s : State} (done : Bool) (hs : s.stores.Canon) : (s.emergencyStep done).stores.Canon := by
  unfold State.emergencyStep
  split
  · simp [hs]
  · rw [State.stopStep_stores, State.clocksOff_stores]
    exact State.setSpad_canon (s := s.discardUnits) (by simp [hs]) Mem.wf_empty
  · simp [hs]
  · split <;> simp [hs]
  · simp [hs]
  · simp [hs]
  · exact hs

@[simp] theorem State.endStep_canon {s : State} (done : Bool) (hs : s.stores.Canon) : (s.endStep done).stores.Canon := by
  simp [State.endStep, hs]

@[simp] theorem State.hardTrip_canon {s : State} (cause i : Nat) (hs : s.stores.Canon) : (s.hardTrip cause i).stores.Canon := by
  simp [State.hardTrip, hs]

@[simp] theorem State.judge_canon {s : State} (i : Nat) (hs : s.stores.Canon) : (s.judge i).stores.Canon := by
  simp [State.judge, hs]

@[simp] theorem State.acton_canon {s : State} (i : Nat) (x : Int) (hs : s.stores.Canon) : (s.acton i x).stores.Canon := by
  simp [State.acton, hs]

@[simp] theorem State.sample_canon {s : State} (i : Nat) (t : Option Int) (hs : s.stores.Canon) : (s.sample i t).stores.Canon := by
  unfold State.sample
  split <;> simp [hs]

@[simp] theorem State.laneLost_canon {s : State} (b lane : Nat) (hs : s.stores.Canon) : (s.laneLost b lane).stores.Canon := by
  simp [State.laneLost, hs]

@[simp] theorem State.laneFail_canon {s : State} (b lane : Nat) (hs : s.stores.Canon) : (s.laneFail b lane).stores.Canon := by
  simp [State.laneFail, hs]

@[simp] theorem State.marginFloor_canon {s : State} (kind : MarginKind) (unit sub : Nat) (hs : s.stores.Canon) :
    (s.marginFloor kind unit sub).stores.Canon := by
  unfold State.marginFloor
  split <;> simp [hs]

@[simp] theorem State.stacksUp_canon {s : State} (bad : List Nat) (lanes : List (Nat × Nat)) (hs : s.stores.Canon) :
    (s.stacksUp bad lanes).stores.Canon := by
  have h : Stores.Canon ⟨s.spad, s.hubsp, {}⟩ := Stores.canon_mk (State.canon_spad hs) (State.canon_hubsp hs) Mem.wf_empty
  simp only [State.stacksUp, State.firstMap_stores, State.remapPending_stores]
  simpa using h

@[simp] theorem State.step4_canon {s : State} (keyOk sigOk : Bool) (hs : s.stores.Canon) : (s.step4 keyOk sigOk).stores.Canon := by
  simp [State.step4, hs]

@[simp] theorem State.step5_canon {s : State} (hs : s.stores.Canon) : s.step5.stores.Canon := by
  simp [State.step5, hs]

@[simp] theorem State.step6_canon {s : State} (r : IdentityRead) (hs : s.stores.Canon) : (s.step6 r).stores.Canon := by
  unfold State.step6
  split <;> simp [hs]

@[simp] theorem State.step7_canon {s : State} (short : ShortLanes) (hs : s.stores.Canon) : (s.step7 short).stores.Canon := by
  unfold State.step7
  dsimp only
  split <;> simp [hs]

@[simp] theorem State.step9_canon {s : State} (bad : Option Nat) (adder : List Nat) (hs : s.stores.Canon) :
    (s.step9 bad adder).stores.Canon := by
  unfold State.step9
  split <;> simp [hs]

@[simp] theorem State.step11_canon {s : State} (badStacks badChannels : List Nat) (badLanes : List (Nat × Nat)) (hs : s.stores.Canon) :
    (s.step11 badStacks badChannels badLanes).stores.Canon := by
  simp only [State.step11]
  repeat' split
  all_goals simp [hs]

@[simp] theorem State.holdFree_canon {s : State} (f : Nat → Nat × Nat) (w0 : Bool) (hs : s.stores.Canon) :
    (s.holdFree f w0).stores.Canon := by
  simp [State.holdFree, hs]

end Sys2Proof.Machine

/-! SUPPORT. Canonical form of the byte stores: kept by every command, and so by every step (StepKeepsStores). -/

namespace Sys2Proof.Machine

/-! ## Gates -/

@[simp] theorem State.onWrite_canon {s : State} (r : RegName) (i : Nat) (w : BarAcc) {k : Nat → State} (hs : s.stores.Canon)
    (hk : ∀ j, (k j).stores.Canon) : (s.onWrite r i w k).stores.Canon := by
  obtain h | h | ⟨j, -, -, -, -, -, h⟩ := s.onWrite_cases r i w k <;> rw [h]
  · exact hs
  · simp [hs]
  · exact hk j

@[simp] theorem State.onReset_canon {s : State} (w : BarAcc) (k : RKind) {f : RReq → State} (hs : s.stores.Canon)
    (hf : ∀ r, (f r).stores.Canon) : (s.onReset w k f).stores.Canon := by
  simp [State.onReset, hs, hf]

@[simp] theorem State.issue_canon {s : State} (q op : Nat) {f : Nat → State → State} (hs : s.stores.Canon)
    (hf : ∀ w, (f w s).stores.Canon) : (s.issue q op f).stores.Canon := by
  simp [State.issue, hs, hf]

@[simp] theorem State.signal_canon {s : State} (q w : Nat) {f : Nat → Nat → State → State} (hs : s.stores.Canon)
    (hf : ∀ obj v, (f obj v s).stores.Canon) : (s.signal q w f).stores.Canon := by
  simp [State.signal, hs, hf]

theorem State.issueVec_canon {s : State} (q op : Nat) {f : Nat → State → Except Status State} (hs : s.stores.Canon)
    (hf : ∀ w t, f w s = .ok t → t.stores.Canon) : (s.issueVec q op f).stores.Canon := by
  refine State.issue_canon _ _ hs fun w => ?_
  dsimp only
  split
  · simp [hs]
  next t e =>
    have ht := hf w t e
    split <;> simp [hs, ht]

@[simp] theorem State.colArrive_canon {s : State} (port : Nat) (p : ColPacket) (kind : Nat) {k : State → State} (hs : s.stores.Canon)
    (hk : (k s).stores.Canon) : (s.colArrive port p kind k).stores.Canon := by
  simp [State.colArrive, hs, hk]

@[simp] theorem State.onEdge_canon {s : State} (p : ColPacket) {f : State → ColEdge → State} (hs : s.stores.Canon)
    (hf : ∀ t e, t.stores.Canon → (f t e).stores.Canon) : (s.onEdge p f).stores.Canon := by
  unfold State.onEdge
  dsimp only
  repeat' split
  · simp [hs]
  · simp [hs]
  · simp [hs]
  · simp [hs]
  · simp [hs]
  · refine hf _ _ ?_
    simp [hs]

/-! ## Commands -/

/-- The next state that a command answers, where it answers one, has canonical stores. -/
def CanonRes (r : Res) : Prop := ∀ t, r = .next t → t.stores.Canon

@[simp] theorem canonRes_next (s : State) : CanonRes (.next s) ↔ s.stores.Canon :=
  ⟨fun h => h s rfl, fun h _ e => by cases e; exact h⟩

@[simp] theorem canonRes_fault (f : Fault) : CanonRes (.fault f) :=
  fun _ h => Host.Outcome.noConfusion rfl rfl rfl (heq_of_eq h)

@[simp] theorem canonRes_ite (c : Prop) [Decidable c] (x y : Res) :
    CanonRes (if c then x else y) = if c then CanonRes x else CanonRes y :=
  apply_ite CanonRes c x y

theorem canonRes_of_ite {c : Prop} [Decidable c] {x y : Res} (hx : CanonRes x) (hy : CanonRes y) : CanonRes (if c then x else y) := by
  split <;> assumption

theorem State.canon_of_ite {c : Prop} [Decidable c] {s t : State} (hs : s.stores.Canon) (ht : t.stores.Canon) :
    (if c then s else t).stores.Canon := by
  split <;> assumption

theorem execRegisterWrite_canon {s : State} (r : RegName) (i : Nat) (w : BarAcc) (hs : s.stores.Canon) :
    CanonRes (execRegisterWrite r i w s) := by
  simp [execRegisterWrite, hs]

theorem execSetupLockWrite_canon {s : State} (w : BarAcc) (hs : s.stores.Canon) : CanonRes (execSetupLockWrite w s) := by
  simp [execSetupLockWrite, hs]

theorem execQueueEnable_canon {s : State} (n : Fin 65536) (w : BarAcc) (hs : s.stores.Canon) : CanonRes (execQueueEnable n w s) := by
  simp [execQueueEnable, hs]

theorem execQueueDisable_canon {s : State} (n : Fin 65536) (w : BarAcc) (hs : s.stores.Canon) : CanonRes (execQueueDisable n w s) := by
  simp [execQueueDisable, hs]

theorem execDoorbell_canon {s : State} (n : Fin 65536) (w : BarAcc) (hs : s.stores.Canon) : CanonRes (execDoorbell n w s) := by
  simp only [execDoorbell, canonRes_next]
  repeat' split
  all_goals simp [hs]

theorem execQueueResume_canon {s : State} (n : Fin 65536) (w : BarAcc) (hs : s.stores.Canon) : CanonRes (execQueueResume n w s) := by
  simp [execQueueResume, hs]

theorem execQueueSetHead_canon {s : State} (n : Fin 65536) (w : BarAcc) (hs : s.stores.Canon) : CanonRes (execQueueSetHead n w s) := by
  simp [execQueueSetHead, hs]

theorem execCqEnable_canon {s : State} (n : Fin 65536) (w : BarAcc) (hs : s.stores.Canon) : CanonRes (execCqEnable n w s) := by
  simp [execCqEnable, hs]

theorem execCqDisable_canon {s : State} (n : Fin 65536) (w : BarAcc) (hs : s.stores.Canon) : CanonRes (execCqDisable n w s) := by
  simp [execCqDisable, hs]

theorem execCqHeadWrite_canon {s : State} (n : Fin 65536) (w : BarAcc) (hs : s.stores.Canon) : CanonRes (execCqHeadWrite n w s) := by
  unfold execCqHeadWrite
  dsimp only
  repeat' split
  all_goals simp [hs]

theorem execDescriptorFetch_canon {s : State} (hs : s.stores.Canon) : CanonRes (execDescriptorFetch s) := by
  unfold execDescriptorFetch
  dsimp only
  repeat' split
  all_goals simp [hs]

theorem execDescriptorReadDone_canon {s : State} (n : Fin 65536) (data : Option (List Byte)) (hs : s.stores.Canon) :
    CanonRes (execDescriptorReadDone n data s) := by
  unfold execDescriptorReadDone
  dsimp only
  repeat' split
  all_goals simp [hs]

theorem execDescriptorDispatch_canon {s : State} (n : Fin 65536) (hs : s.stores.Canon) : CanonRes (execDescriptorDispatch n s) := by
  unfold execDescriptorDispatch
  dsimp only
  repeat' split
  all_goals simp [hs]

theorem execDescriptorComplete_canon {s : State} (n : Fin 65536) (idx : Fin 65536) (hs : s.stores.Canon) :
    CanonRes (execDescriptorComplete n idx s) := by
  unfold execDescriptorComplete
  dsimp only
  repeat' split
  all_goals simp [hs]

theorem execCqStallTimeout_canon {s : State} (n : Fin 65536) (hs : s.stores.Canon) : CanonRes (execCqStallTimeout n s) := by
  simp [execCqStallTimeout, hs]

theorem execInterruptModerationExpire_canon {s : State} (n : Fin 65536) (hs : s.stores.Canon) :
    CanonRes (execInterruptModerationExpire n s) := by
  simp [execInterruptModerationExpire, hs]

theorem execRecordHintExpire_canon {s : State} (n : Fin 65536) (hs : s.stores.Canon) : CanonRes (execRecordHintExpire n s) := by
  simp [execRecordHintExpire, hs]

theorem execSyncObjectWrite_canon {s : State} (fn : Fin 16) (obj : Fin 262144) (size : Nat) (v : BitVec 64) (hs : s.stores.Canon) :
    CanonRes (execSyncObjectWrite fn obj size v s) := by
  simp [execSyncObjectWrite, hs]

theorem execSyncSignal_canon {s : State} (work : Work) (hs : s.stores.Canon) : CanonRes (execSyncSignal work s) := by
  rw [execSyncSignal, canonRes_next]
  split <;> simp [hs]

theorem execSyncWait_canon {s : State} (work : Work) (hs : s.stores.Canon) : CanonRes (execSyncWait work s) := by
  rw [execSyncWait, canonRes_next]
  split <;> simp [hs]

theorem execSyncWaitTimeout_canon {s : State} (work : Work) (hs : s.stores.Canon) : CanonRes (execSyncWaitTimeout work s) := by
  rw [execSyncWaitTimeout, canonRes_next]
  split <;> simp [hs]

theorem execBeatAdmit_canon {s : State} (a : Fin 1024) (fed : Bool) (hs : s.stores.Canon) : CanonRes (execBeatAdmit a fed s) := by
  unfold execBeatAdmit
  dsimp only
  repeat' split
  all_goals simp [hs]

theorem execColumnComplete_canon {s : State} (a : Fin 1024) (bank : Fin 32) (ecc : AccEcc) (hs : s.stores.Canon) :
    CanonRes (execColumnComplete a bank ecc s) := by
  unfold execColumnComplete
  dsimp only
  repeat' split
  all_goals simp [hs]

theorem execSloadRowWrite_canon {s : State} (a : Fin 1024) (hs : s.stores.Canon) : CanonRes (execSloadRowWrite a s) := by
  unfold execSloadRowWrite
  dsimp only
  repeat' split
  all_goals simp [hs]

theorem execDrainEntryRead_canon {s : State} (a : Fin 1024) (credit : Bool) (bank : Fin 32) (ecc : AccEcc) (hs : s.stores.Canon) :
    CanonRes (execDrainEntryRead a credit bank ecc s) := by
  unfold execDrainEntryRead
  dsimp only
  repeat' split
  all_goals simp [hs]

theorem execAccInitEntry_canon {s : State} (a : Fin 1024) (hs : s.stores.Canon) : CanonRes (execAccInitEntry a s) := by
  unfold execAccInitEntry
  dsimp only
  repeat' split
  all_goals simp [hs]

theorem execProgramEnd_canon {s : State} (q : Fin 16) (hs : s.stores.Canon) : CanonRes (execProgramEnd q s) := by
  simp only [execProgramEnd, canonRes_next]
  split <;> simp [hs]

theorem execNop_canon {s : State} (q : Fin 16) (hs : s.stores.Canon) : CanonRes (execNop q s) := by
  simp [execNop, hs]

theorem execEndProgram_canon {s : State} (q : Fin 16) (hs : s.stores.Canon) : CanonRes (execEndProgram q s) := by
  simp [execEndProgram, hs]

theorem execBr_canon {s : State} (q : Fin 16) (hs : s.stores.Canon) : CanonRes (execBr q s) := by
  simp [execBr, hs]

theorem execLoop_canon {s : State} (q : Fin 16) (hs : s.stores.Canon) : CanonRes (execLoop q s) := by
  simp [execLoop, hs]

theorem execAlu_canon {s : State} (q : Fin 16) (hs : s.stores.Canon) : CanonRes (execAlu q s) := by
  refine (canonRes_next _).2 (State.issue_canon _ _ hs fun w => ?_)
  repeat' split
  all_goals simp [hs]

theorem execAlui_canon {s : State} (q : Fin 16) (hs : s.stores.Canon) : CanonRes (execAlui q s) := by
  refine (canonRes_next _).2 (State.issue_canon _ _ hs fun w => ?_)
  repeat' split
  all_goals simp [hs]

theorem execLi_canon {s : State} (q : Fin 16) (hs : s.stores.Canon) : CanonRes (execLi q s) := by
  simp [execLi, hs]

theorem execLd_canon {s : State} (q : Fin 16) (hs : s.stores.Canon) : CanonRes (execLd q s) := by
  simp [execLd, hs]

theorem execSt_canon {s : State} (q : Fin 16) (hs : s.stores.Canon) : CanonRes (execSt q s) := by
  refine (canonRes_next _).2 (State.issue_canon _ _ hs fun w => ?_)
  dsimp only
  repeat' split
  · simp [hs]
  · simp [hs]
  · rw [State.issued_stores]
    exact State.setSpad_canon hs (Mem.wf_write _ _ (State.canon_spad hs))

theorem execMovlc_canon {s : State} (q : Fin 16) (hs : s.stores.Canon) : CanonRes (execMovlc q s) := by
  refine (canonRes_next _).2 (State.issue_canon _ _ hs fun w => ?_)
  repeat' split
  all_goals simp [hs]

theorem execWaitObj_canon {s : State} (q : Fin 16) (hs : s.stores.Canon) : CanonRes (execWaitObj q s) := by
  simp [execWaitObj, hs]

theorem execWaitObjWake_canon {s : State} (q : Fin 16) (hs : s.stores.Canon) : CanonRes (execWaitObjWake q s) := by
  rw [execWaitObjWake, canonRes_next]
  split <;> simp [hs]

theorem execWaitTimeout_canon {s : State} (q : Fin 16) (hs : s.stores.Canon) : CanonRes (execWaitTimeout q s) := by
  rw [execWaitTimeout, canonRes_next]
  split <;> simp [hs]

theorem execWaitEv_canon {s : State} (q : Fin 16) (hs : s.stores.Canon) : CanonRes (execWaitEv q s) := by
  simp [execWaitEv, hs]

theorem execSignalSet_canon {s : State} (q : Fin 16) (hs : s.stores.Canon) : CanonRes (execSignalSet q s) := by
  simp [execSignalSet, hs]

theorem execSignalAdd_canon {s : State} (q : Fin 16) (hs : s.stores.Canon) : CanonRes (execSignalAdd q s) := by
  simp [execSignalAdd, hs]

theorem execSload_canon {s : State} (q : Fin 16) (hs : s.stores.Canon) : CanonRes (execSload q s) := by
  simp [execSload, hs]

theorem execAccInit_canon {s : State} (q : Fin 16) (hs : s.stores.Canon) : CanonRes (execAccInit q s) := by
  simp [execAccInit, hs]

theorem execAccDrain_canon {s : State} (q : Fin 16) (hs : s.stores.Canon) : CanonRes (execAccDrain q s) := by
  simp [execAccDrain, hs]

theorem execLamp_canon {s : State} (q : Fin 16) (hs : s.stores.Canon) : CanonRes (execLamp q s) := by
  simp [execLamp, hs]

theorem execSrSeedWrite_canon {s : State} (q : Fin 16) (w : BarAcc) (hs : s.stores.Canon) : CanonRes (execSrSeedWrite q w s) := by
  simp [execSrSeedWrite, hs]

theorem execSrCtrWrite_canon {s : State} (q : Fin 16) (w : BarAcc) (hs : s.stores.Canon) : CanonRes (execSrCtrWrite q w s) := by
  simp [execSrCtrWrite, hs]

theorem execVload_canon {s : State} (q : Fin 16) (hs : s.stores.Canon) : CanonRes (execVload q s) := by
  exact (canonRes_next _).2 (State.issueVec_canon _ _ hs fun w t e => (State.vload_stores e) ▸ hs)

theorem execVstore_canon {s : State} (q : Fin 16) (hs : s.stores.Canon) : CanonRes (execVstore q s) := by
  exact (canonRes_next _).2 (State.issueVec_canon _ _ hs fun w t e => State.vstore_canon hs e)

theorem execVop_canon {s : State} (q : Fin 16) (hs : s.stores.Canon) : CanonRes (execVop q s) := by
  exact (canonRes_next _).2 (State.issueVec_canon _ _ hs fun w t e => (State.vop_stores e) ▸ hs)

theorem execVred_canon {s : State} (q : Fin 16) (hs : s.stores.Canon) : CanonRes (execVred q s) := by
  exact (canonRes_next _).2 (State.issueVec_canon _ _ hs fun w t e => (State.vred_stores e) ▸ hs)

theorem execVtopk_canon {s : State} (q : Fin 16) (hs : s.stores.Canon) : CanonRes (execVtopk q s) := by
  exact (canonRes_next _).2 (State.issueVec_canon _ _ hs fun w t e => (State.vtopk_stores e) ▸ hs)

theorem execVectorInstructionComplete_canon {s : State} (q : Fin 16) (hs : s.stores.Canon) :
    CanonRes (execVectorInstructionComplete q s) := by
  simp only [execVectorInstructionComplete, canonRes_next]
  split <;> simp [hs]

theorem execReadRequest_canon {s : State} (port : Fin 64) (p : Packet) (hs : s.stores.Canon) :
    CanonRes (execReadRequest port p s) := by
  simp [execReadRequest, hs]

theorem execWriteRequest_canon {s : State} (port : Fin 64) (p : Packet) (hs : s.stores.Canon) :
    CanonRes (execWriteRequest port p s) := by
  simp [execWriteRequest, hs]

theorem execWritePostedRequest_canon {s : State} (port : Fin 64) (p : Packet) (hs : s.stores.Canon) :
    CanonRes (execWritePostedRequest port p s) := by
  simp [execWritePostedRequest, hs]

theorem execAtomicRequest_canon {s : State} (port : Fin 64) (p : Packet) (hs : s.stores.Canon) :
    CanonRes (execAtomicRequest port p s) := by
  simp [execAtomicRequest, hs]

theorem execSendRequest_canon {s : State} (port : Fin 64) (p : Packet) (hs : s.stores.Canon) :
    CanonRes (execSendRequest port p s) := by
  simp [execSendRequest, hs]

theorem execFenceRequest_canon {s : State} (port : Fin 64) (p : Packet) (hs : s.stores.Canon) :
    CanonRes (execFenceRequest port p s) := by
  simp [execFenceRequest, hs]

theorem execOpenRequest_canon {s : State} (port : Fin 64) (p : Packet) (hs : s.stores.Canon) :
    CanonRes (execOpenRequest port p s) := by
  simp [execOpenRequest, hs]

theorem execFlowContextWaitTimeout_canon {s : State} (node : Fin 1048576) (hs : s.stores.Canon) :
    CanonRes (execFlowContextWaitTimeout node s) := by
  rw [execFlowContextWaitTimeout, canonRes_next]
  split <;> simp [hs]

theorem execFlowContextReclaim_canon {s : State} (source : Bool) (node : Fin 1048576) (hs : s.stores.Canon) :
    CanonRes (execFlowContextReclaim source node s) := by
  unfold execFlowContextReclaim
  dsimp only
  repeat' split
  all_goals simp [hs]

theorem execResultCacheSweep_canon {s : State} (hs : s.stores.Canon) : CanonRes (execResultCacheSweep s) := by
  simp [execResultCacheSweep, hs]

theorem execSourceViolationFlood_canon {s : State} (node : Fin 1048576) (hs : s.stores.Canon) :
    CanonRes (execSourceViolationFlood node s) := by
  simp [execSourceViolationFlood, hs]

theorem execViolationDiscardEnd_canon {s : State} (node : Fin 1048576) (hs : s.stores.Canon) :
    CanonRes (execViolationDiscardEnd node s) := by
  rw [execViolationDiscardEnd, canonRes_next]
  split <;> simp [hs]

theorem execRxqHeadWrite_canon {s : State} (n : Fin 1024) (w : BarAcc) (hs : s.stores.Canon) : CanonRes (execRxqHeadWrite n w s) := by
  simp [execRxqHeadWrite, hs]

theorem execRxqDisable_canon {s : State} (n : Fin 1024) (w : BarAcc) (hs : s.stores.Canon) : CanonRes (execRxqDisable n w s) := by
  simp [execRxqDisable, hs]

theorem execFabricRequestIssue_canon {s : State} (dst : Fin 1048576) (hs : s.stores.Canon) :
    CanonRes (execFabricRequestIssue dst s) := by
  simp [execFabricRequestIssue, hs]

theorem State.fabricOp_canon {s : State} (work : Work) (code : Nat) (hostData : List Byte) (hs : s.stores.Canon) :
    CanonRes (s.fabricOp work code hostData) := by
  unfold State.fabricOp
  split
  · simpa using hs
  · refine canonRes_of_ite (by simpa using hs) (canonRes_of_ite (by simp [hs]) ?_)
    split
    · simp [hs]
    · iterate 4 refine canonRes_of_ite (by simp [hs]) ?_
      refine canonRes_of_ite (by simp) (canonRes_of_ite (by simpa using hs) ?_)
      simp [hs]

theorem execFabricRead_canon {s : State} (work : Work) (hs : s.stores.Canon) : CanonRes (execFabricRead work s) :=
  State.fabricOp_canon _ _ _ hs

theorem execFabricWrite_canon {s : State} (work : Work) (hostData : List Byte) (hs : s.stores.Canon) :
    CanonRes (execFabricWrite work hostData s) :=
  State.fabricOp_canon _ _ _ hs

theorem execFabricWritePosted_canon {s : State} (work : Work) (hostData : List Byte) (hs : s.stores.Canon) :
    CanonRes (execFabricWritePosted work hostData s) :=
  State.fabricOp_canon _ _ _ hs

theorem execFabricAtomic_canon {s : State} (work : Work) (hostData : List Byte) (hs : s.stores.Canon) :
    CanonRes (execFabricAtomic work hostData s) :=
  State.fabricOp_canon _ _ _ hs

theorem execFabricSend_canon {s : State} (work : Work) (hostData : List Byte) (hs : s.stores.Canon) :
    CanonRes (execFabricSend work hostData s) :=
  State.fabricOp_canon _ _ _ hs

theorem execFabricFence_canon {s : State} (work : Work) (hs : s.stores.Canon) : CanonRes (execFabricFence work s) :=
  State.fabricOp_canon _ _ _ hs

theorem execFabricReply_canon {s : State} (port : Fin 64) (p : Packet) (hs : s.stores.Canon) :
    CanonRes (execFabricReply port p s) := by
  simp [execFabricReply, hs]

theorem execReflectReply_canon {s : State} (port : Fin 64) (p : Packet) (hs : s.stores.Canon) :
    CanonRes (execReflectReply port p s) := by
  simp [execReflectReply, hs]

theorem execFabricNak_canon {s : State} (port : Fin 64) (p : Packet) (hs : s.stores.Canon) : CanonRes (execFabricNak port p s) := by
  unfold execFabricNak
  rw [canonRes_next]
  dsimp only
  repeat' split
  · exact hs
  · simp [hs]
  · simp [hs]
  · simp [hs]
  · rw [State.stores_foldl _ (fun s r => by split <;> simp)]
    exact hs

theorem execFabricRetransmitTimeout_canon {s : State} (tag : Fin 16384) (hs : s.stores.Canon) :
    CanonRes (execFabricRetransmitTimeout tag s) := by
  simp only [execFabricRetransmitTimeout, canonRes_next]
  repeat' split
  all_goals simp [hs]

theorem execFabricFinalTimeout_canon {s : State} (tag : Fin 16384) (hs : s.stores.Canon) :
    CanonRes (execFabricFinalTimeout tag s) := by
  unfold execFabricFinalTimeout
  rw [canonRes_next]
  split
  · exact hs
  · refine State.canon_of_ite hs (State.canon_of_ite (by simp [hs]) ?_)
    rw [State.settleOps_stores, State.setSrc_stores]
    exact State.canon_foldl _ (fun s x hs => by simp [hs]) _ (by simp [hs])

theorem execRouteWaitTimeout_canon {s : State} (tag : Fin 16384) (hs : s.stores.Canon) : CanonRes (execRouteWaitTimeout tag s) := by
  rw [execRouteWaitTimeout, canonRes_next]
  split <;> simp [hs]

theorem execFlowContextFetchDone_canon {s : State} (source : Bool) (node : Fin 1048576) (poisoned : Bool) (hs : s.stores.Canon) :
    CanonRes (execFlowContextFetchDone source node poisoned s) := by
  simp [execFlowContextFetchDone, hs]

theorem execPoisonedContextHoldEnd_canon {s : State} (node : Fin 1048576) (hs : s.stores.Canon) :
    CanonRes (execPoisonedContextHoldEnd node s) := by
  rw [execPoisonedContextHoldEnd, canonRes_next]
  split <;> simp [hs]

theorem execBoardWindowAccess_canon {s : State} (addr : BitVec 48) (op : MemOp) (hs : s.stores.Canon) :
    CanonRes (execBoardWindowAccess addr op s) := by
  unfold execBoardWindowAccess
  dsimp only
  repeat' split
  all_goals simp [hs]

theorem execQcopy_canon {s : State} (q : Fin 16) (hs : s.stores.Canon) : CanonRes (execQcopy q s) := by
  simp [execQcopy, hs]

theorem execQcopyComplete_canon {s : State} (q : Fin 16) (hs : s.stores.Canon) : CanonRes (execQcopyComplete q s) := by
  unfold execQcopyComplete
  dsimp only
  repeat' split
  all_goals simp [hs]

theorem execCopy_canon {s : State} (work : Work) (hostData : List Byte) (hs : s.stores.Canon) :
    CanonRes (execCopy work hostData s) := by
  unfold execCopy
  dsimp only
  repeat' split
  all_goals simp [hs]

theorem execFill_canon {s : State} (work : Work) (hs : s.stores.Canon) : CanonRes (execFill work s) := by
  unfold execFill
  dsimp only
  repeat' split
  all_goals simp [hs]

theorem execExecProgram_canon {s : State} (work : Work) (hs : s.stores.Canon) : CanonRes (execExecProgram work s) := by
  unfold execExecProgram
  dsimp only
  repeat' split
  all_goals simp [hs]

theorem execProgramLaunch_canon {s : State} (q : Fin 16) (hs : s.stores.Canon) : CanonRes (execProgramLaunch q s) := by
  unfold execProgramLaunch
  dsimp only
  repeat' split
  all_goals simp [hs]

theorem execWstream_canon {s : State} (q : Fin 16) (hs : s.stores.Canon) : CanonRes (execWstream q s) := by
  refine (canonRes_next _).2 (State.issue_canon _ _ hs fun w => ?_)
  refine State.canon_of_ite (by simp [hs]) (State.canon_of_ite (by simp [hs]) (State.canon_of_ite hs ?_))
  rw [State.issued_stores, State.stores_foldl]
  · simp [hs]
  · intro s k
    split
    · split <;> simp
    · rfl

theorem execChunk_canon {s : State} (port : Fin 64) (p : ColPacket) (adder : List (List Nat)) (hs : s.stores.Canon) :
    CanonRes (execChunk port p adder s) := by
  refine (canonRes_next _).2 (State.colArrive_canon _ _ _ hs (State.onEdge_canon _ hs fun t e ht => ?_))
  dsimp only
  repeat' split
  all_goals simp [ht]

theorem execCredit_canon {s : State} (port : Fin 64) (p : ColPacket) (hs : s.stores.Canon) : CanonRes (execCredit port p s) := by
  refine (canonRes_next _).2 (State.colArrive_canon _ _ _ hs (State.onEdge_canon _ hs fun t e ht => ?_))
  dsimp only
  repeat' split
  all_goals simp [ht]

theorem execJoin_canon {s : State} (port : Fin 64) (p : ColPacket) (hs : s.stores.Canon) : CanonRes (execJoin port p s) := by
  refine (canonRes_next _).2 (State.colArrive_canon _ _ _ hs ?_)
  dsimp only
  repeat' split
  all_goals simp [hs]

theorem execJoinTimer_canon {s : State} (session : Fin 8) (hs : s.stores.Canon) : CanonRes (execJoinTimer session s) := by
  simp [execJoinTimer, hs]

theorem execJoinLimitExpire_canon {s : State} (session : Fin 8) (hs : s.stores.Canon) : CanonRes (execJoinLimitExpire session s) := by
  simp [execJoinLimitExpire, hs]

theorem execCreditKeepaliveTimer_canon {s : State} (session : Fin 8) (hs : s.stores.Canon) :
    CanonRes (execCreditKeepaliveTimer session s) := by
  unfold execCreditKeepaliveTimer
  rw [canonRes_next]
  dsimp only
  split
  · refine State.canon_foldl _ (fun s e hs => by simp [hs]) _ (State.canon_foldl _ (fun s t hs => ?_) _ (by simp [hs]))
    split
    · exact hs
    · refine State.canon_foldl _ (fun s e hs => ?_) _ hs
      split <;> simp [hs]
  · exact hs

theorem execChunkRetransmitTimeout_canon {s : State} (session : Fin 8) (neighbour : Fin 1048576) (hs : s.stores.Canon) :
    CanonRes (execChunkRetransmitTimeout session neighbour s) := by
  unfold execChunkRetransmitTimeout
  rw [canonRes_next]
  dsimp only
  refine State.canon_foldl _ (fun s e hs => ?_) _ (by simp [hs])
  split
  · exact hs
  · refine State.canon_foldl _ (fun s p hs => ?_) _ (by simp [hs])
    split <;> simp [hs]

theorem execAbortChunk_canon {s : State} (port : Fin 64) (p : ColPacket) (hs : s.stores.Canon) :
    CanonRes (execAbortChunk port p s) := by
  simp [execAbortChunk, hs]

theorem execSessionTimeout_canon {s : State} (session : Fin 8) (neighbour : Fin 1048576) (hs : s.stores.Canon) :
    CanonRes (execSessionTimeout session neighbour s) := by
  simp only [execSessionTimeout, canonRes_next]
  split <;> simp [hs]

theorem execCollectiveSetup_canon {s : State} (work : Work) (hs : s.stores.Canon) : CanonRes (execCollectiveSetup work s) := by
  unfold execCollectiveSetup
  dsimp only
  repeat' split
  all_goals simp [hs]

theorem execAllReduce_canon {s : State} (work : Work) (hs : s.stores.Canon) : CanonRes (execAllReduce work s) := by
  simp [execAllReduce, hs]

theorem execReduce_canon {s : State} (work : Work) (hs : s.stores.Canon) : CanonRes (execReduce work s) := by
  simp [execReduce, hs]

theorem execBroadcast_canon {s : State} (work : Work) (hs : s.stores.Canon) : CanonRes (execBroadcast work s) := by
  simp [execBroadcast, hs]

theorem execBarrier_canon {s : State} (work : Work) (hs : s.stores.Canon) : CanonRes (execBarrier work s) := by
  simp [execBarrier, hs]

theorem execTeardown_canon {s : State} (work : Work) (hs : s.stores.Canon) : CanonRes (execTeardown work s) := by
  unfold execTeardown
  dsimp only
  repeat' split
  all_goals simp [hs]

theorem execCollectiveRunStart_canon {s : State} (session : Fin 8) (hs : s.stores.Canon) :
    CanonRes (execCollectiveRunStart session s) := by
  simp only [execCollectiveRunStart, canonRes_next]
  split <;> simp [hs]

theorem execColPoolWrite_canon {s : State} (w : BarAcc) (hs : s.stores.Canon) : CanonRes (execColPoolWrite w s) := by
  simp [execColPoolWrite, hs]

theorem execReflectBurstSend_canon {s : State} (hs : s.stores.Canon) : CanonRes (execReflectBurstSend s) := by
  unfold execReflectBurstSend
  dsimp only
  repeat' split
  all_goals simp [hs]

theorem execBind_canon {s : State} (work : Work) (hs : s.stores.Canon) : CanonRes (execBind work s) := by
  unfold execBind
  rw [canonRes_next]
  split
  · exact hs
  · refine State.canon_of_ite hs ?_
    split
    · simp [hs]
    · refine State.canon_of_ite (by simp [hs]) (State.canon_of_ite (by simp [hs]) (State.canon_of_ite hs ?_))
      refine State.canon_of_ite (by simp [hs]) (State.canon_of_ite (by simp [hs]) (State.canon_of_ite hs ?_))
      simp [hs]

theorem execMark_canon {s : State} (work : Work) (hs : s.stores.Canon) : CanonRes (execMark work s) := by
  unfold execMark
  dsimp only
  repeat' split
  all_goals simp [hs]

theorem execUnbind_canon {s : State} (work : Work) (hs : s.stores.Canon) : CanonRes (execUnbind work s) := by
  unfold execUnbind
  dsimp only
  repeat' split
  all_goals simp [hs]

theorem execRbind_canon {s : State} (port : Fin 64) (p : Packet) (hs : s.stores.Canon) : CanonRes (execRbind port p s) := by
  simp [execRbind, hs]

theorem execRburst_canon {s : State} (port : Fin 64) (p : Packet) (hs : s.stores.Canon) : CanonRes (execRburst port p s) := by
  simp [execRburst, hs]

theorem execRmark_canon {s : State} (port : Fin 64) (p : Packet) (hs : s.stores.Canon) : CanonRes (execRmark port p s) := by
  simp [execRmark, hs]

theorem execRkeep_canon {s : State} (port : Fin 64) (p : Packet) (hs : s.stores.Canon) : CanonRes (execRkeep port p s) := by
  simp [execRkeep, hs]

theorem execRresume_canon {s : State} (port : Fin 64) (p : Packet) (hs : s.stores.Canon) : CanonRes (execRresume port p s) := by
  simp [execRresume, hs]

theorem execRbindTimer_canon {s : State} (hs : s.stores.Canon) : CanonRes (execRbindTimer s) := by
  simp [execRbindTimer, hs]

theorem execBindTimeout_canon {s : State} (hs : s.stores.Canon) : CanonRes (execBindTimeout s) := by
  simp [execBindTimeout, hs]

theorem execRkeepTimer_canon {s : State} (hs : s.stores.Canon) : CanonRes (execRkeepTimer s) := by
  simp [execRkeepTimer, hs]

theorem execPartnerLossTimeout_canon {s : State} (hs : s.stores.Canon) : CanonRes (execPartnerLossTimeout s) := by
  simp only [execPartnerLossTimeout, canonRes_next]
  repeat' split
  all_goals simp [hs]

theorem execRollbackDone_canon {s : State} (hs : s.stores.Canon) : CanonRes (execRollbackDone s) := by
  rw [execRollbackDone, canonRes_next]
  split <;> simp [hs]

theorem execGraphStoreBaseWrite_canon {s : State} (w : BarAcc) (hs : s.stores.Canon) : CanonRes (execGraphStoreBaseWrite w s) := by
  simp [execGraphStoreBaseWrite, hs]

theorem execExecGraph_canon {s : State} (work : Work) (hs : s.stores.Canon) : CanonRes (execExecGraph work s) := by
  unfold execExecGraph
  rw [canonRes_next]
  split
  · exact hs
  · iterate 3 refine State.canon_of_ite (by simp [hs]) ?_
    refine State.canon_of_ite hs (State.canon_of_ite (by simp [hs]) ?_)
    split
    · next e => exact (State.graphImage_stores e) ▸ hs
    · simp [hs]

theorem execGraphNodeReady_canon {s : State} (g : Fin 64) (node : Fin 1024) (hs : s.stores.Canon) :
    CanonRes (execGraphNodeReady g node s) := by
  simp only [execGraphNodeReady, canonRes_next]
  split <;> simp [hs]

theorem execGraphNodeComplete_canon {s : State} (g : Fin 64) (node : Fin 1024) (hs : s.stores.Canon) :
    CanonRes (execGraphNodeComplete g node s) := by
  simp only [execGraphNodeComplete, canonRes_next]
  split <;> simp [hs]

theorem execMonitorSample_canon {s : State} (u : Fin 128) (v : BitVec 32) (hs : s.stores.Canon) :
    CanonRes (execMonitorSample u v s) := by
  simp [execMonitorSample, hs]

theorem execMonitorWindowEnd_canon {s : State} (u : Fin 128) (hs : s.stores.Canon) : CanonRes (execMonitorWindowEnd u s) := by
  simp [execMonitorWindowEnd, hs]

theorem execLogFlush_canon {s : State} (hs : s.stores.Canon) : CanonRes (execLogFlush s) := by
  simp [execLogFlush, hs]

theorem execLogSelectWrite_canon {s : State} (w : BarAcc) (hs : s.stores.Canon) : CanonRes (execLogSelectWrite w s) := by
  simp [execLogSelectWrite, hs]

theorem execPldmSensorRead_canon {s : State} (item : PldmItem) (hs : s.stores.Canon) : CanonRes (execPldmSensorRead item s) := by
  simp [execPldmSensorRead, hs]

theorem execFwUpdateTransfer_canon {s : State} (bytes : Nat) (sv : Fin 65) (last : Bool) (hs : s.stores.Canon) :
    CanonRes (execFwUpdateTransfer bytes sv last s) := by
  unfold execFwUpdateTransfer
  dsimp only
  repeat' split
  all_goals simp [hs]

theorem execFwVerify_canon {s : State} (keyOk sigOk : Bool) (hs : s.stores.Canon) : CanonRes (execFwVerify keyOk sigOk s) := by
  simp [execFwVerify, hs]

theorem execActivateFirmware_canon {s : State} (hs : s.stores.Canon) : CanonRes (execActivateFirmware s) := by
  simp [execActivateFirmware, hs]

theorem execFirmwareSlotSelect_canon {s : State} (hs : s.stores.Canon) : CanonRes (execFirmwareSlotSelect s) := by
  simp [execFirmwareSlotSelect, hs]

theorem execRollbackAdvance_canon {s : State} (v : Nat) (hs : s.stores.Canon) : CanonRes (execRollbackAdvance v s) := by
  simp [execRollbackAdvance, hs]

theorem execRollbackCtrlWrite_canon {s : State} (w : BarAcc) (hs : s.stores.Canon) : CanonRes (execRollbackCtrlWrite w s) := by
  simp [execRollbackCtrlWrite, hs]

theorem execFuseStepDone_canon {s : State} (hs : s.stores.Canon) : CanonRes (execFuseStepDone s) := by
  rw [execFuseStepDone, canonRes_next]
  split <;> simp [hs]

theorem execGetVersion_canon {s : State} (t : Transport) (hs : s.stores.Canon) : CanonRes (execGetVersion t s) := by
  simp [execGetVersion, hs]

theorem execGetCapabilities_canon {s : State} (t : Transport) (hs : s.stores.Canon) : CanonRes (execGetCapabilities t s) := by
  simp [execGetCapabilities, hs]

theorem execNegotiateAlgorithms_canon {s : State} (t : Transport) (hs : s.stores.Canon) : CanonRes (execNegotiateAlgorithms t s) := by
  simp [execNegotiateAlgorithms, hs]

theorem execGetDigests_canon {s : State} (t : Transport) (hs : s.stores.Canon) : CanonRes (execGetDigests t s) := by
  simp [execGetDigests, hs]

theorem execGetCertificate_canon {s : State} (t : Transport) (hs : s.stores.Canon) : CanonRes (execGetCertificate t s) := by
  simp [execGetCertificate, hs]

theorem execChallenge_canon {s : State} (t : Transport) (hs : s.stores.Canon) : CanonRes (execChallenge t s) := by
  simp [execChallenge, hs]

theorem execGetMeasurements_canon {s : State} (t : Transport) (hs : s.stores.Canon) : CanonRes (execGetMeasurements t s) := by
  simp [execGetMeasurements, hs]

theorem execKeyExchange_canon {s : State} (t : Transport) (hs : s.stores.Canon) : CanonRes (execKeyExchange t s) := by
  simp [execKeyExchange, hs]

theorem execFinish_canon {s : State} (t : Transport) (session : Nat) (hs : s.stores.Canon) : CanonRes (execFinish t session s) := by
  simp [execFinish, hs]

theorem execHeartbeat_canon {s : State} (t : Transport) (session : Nat) (hs : s.stores.Canon) :
    CanonRes (execHeartbeat t session s) := by
  simp [execHeartbeat, hs]

theorem execKeyUpdate_canon {s : State} (t : Transport) (session : Nat) (hs : s.stores.Canon) :
    CanonRes (execKeyUpdate t session s) := by
  simp [execKeyUpdate, hs]

theorem execEndSession_canon {s : State} (t : Transport) (session : Nat) (hs : s.stores.Canon) :
    CanonRes (execEndSession t session s) := by
  simp [execEndSession, hs]

theorem execHelloTimer_canon {s : State} (port : Fin 64) (hs : s.stores.Canon) : CanonRes (execHelloTimer port s) := by
  simp [execHelloTimer, hs]

theorem execNodeIdWrite_canon {s : State} (w : BarAcc) (hs : s.stores.Canon) : CanonRes (execNodeIdWrite w s) := by
  simp [execNodeIdWrite, hs]

theorem execTrainingStepDone_canon {s : State} (p : Fin 64) (r : TrainRead) (hs : s.stores.Canon) :
    CanonRes (execTrainingStepDone p r s) := by
  simp [execTrainingStepDone, hs]

theorem execTrainingStepTimeout_canon {s : State} (p : Fin 64) (hs : s.stores.Canon) : CanonRes (execTrainingStepTimeout p s) := by
  simp [execTrainingStepTimeout, hs]

theorem execTrainingRetryTimer_canon {s : State} (p : Fin 64) (hs : s.stores.Canon) : CanonRes (execTrainingRetryTimer p s) := by
  simp [execTrainingRetryTimer, hs]

theorem execPartnerLightDetect_canon {s : State} (p : Fin 64) (hs : s.stores.Canon) : CanonRes (execPartnerLightDetect p s) := by
  simp [execPartnerLightDetect, hs]

theorem execPortDown_canon {s : State} (p : Fin 64) (hs : s.stores.Canon) : CanonRes (execPortDown p s) := by
  simp [execPortDown, hs]

theorem execPortRetrainReq_canon {s : State} (p : Fin 65) (w : BarAcc) (hs : s.stores.Canon) :
    CanonRes (execPortRetrainReq p w s) := by
  simp [execPortRetrainReq, hs]

theorem execRetrain_canon {s : State} (p : Fin 64) (hs : s.stores.Canon) : CanonRes (execRetrain p s) := by
  simp [execRetrain, hs]

theorem execRecalReq_canon {s : State} (p : Fin 65) (w : BarAcc) (hs : s.stores.Canon) : CanonRes (execRecalReq p w s) := by
  simp [execRecalReq, hs]

theorem execRingCalibrationDone_canon {s : State} (p : Fin 65) (ok : Bool) (hs : s.stores.Canon) :
    CanonRes (execRingCalibrationDone p ok s) := by
  simp [execRingCalibrationDone, hs]

theorem execActivityIndex_canon {s : State} (w : Fin 4) (a0 a1 a2 a3 : BitVec 8) (hs : s.stores.Canon) :
    CanonRes (execActivityIndex w a0 a1 a2 a3 s) := by
  simp [execActivityIndex, hs]

theorem execActivityIndexAbsent_canon {s : State} (w : Fin 4) (hs : s.stores.Canon) : CanonRes (execActivityIndexAbsent w s) := by
  simp [execActivityIndexAbsent, hs]

theorem execLaneFailDetect_canon {s : State} (p : Fin 65) (wavelength : Fin 18) (cause : LaneFault) (hs : s.stores.Canon) :
    CanonRes (execLaneFailDetect p wavelength cause s) := by
  simp [execLaneFailDetect, hs]

theorem execLaneMap_canon {s : State} (p : Fin 64) (gen : Fin 256) (entries : LaneMap) (hs : s.stores.Canon) :
    CanonRes (execLaneMap p gen entries s) := by
  simp [execLaneMap, hs]

theorem execLaneMapTimeout_canon {s : State} (p : Fin 64) (hs : s.stores.Canon) : CanonRes (execLaneMapTimeout p s) := by
  rw [execLaneMapTimeout, canonRes_next]
  split <;> simp [hs]

theorem execLaneFault_canon {s : State} (p : Fin 64) (wavelength : Fin 18) (cause : LaneFault) (laneId : Fin 256) (hs : s.stores.Canon) :
    CanonRes (execLaneFault p wavelength cause laneId s) := by
  simp [execLaneFault, hs]

theorem execFecMode_canon {s : State} (p : Fin 64) (long : Bool) (hs : s.stores.Canon) : CanonRes (execFecMode p long s) := by
  simp [execFecMode, hs]

theorem execAliasLockDetect_canon {s : State} (p : Fin 65) (wavelength : Fin 18) (transmit : Bool) (laneId : Fin 256) (hs : s.stores.Canon) :
    CanonRes (execAliasLockDetect p wavelength transmit laneId s) := by
  simp [execAliasLockDetect, hs]

theorem execAliasRecoveryEnd_canon {s : State} (p : Fin 65) (wavelength : Fin 18) (ok : Bool) (hs : s.stores.Canon) :
    CanonRes (execAliasRecoveryEnd p wavelength ok s) := by
  simp only [execAliasRecoveryEnd, canonRes_next]
  split <;> simp [hs]

theorem execTuningLoopUpdate_canon {s : State} (ring : Fin 2340) (offset : Int) (hs : s.stores.Canon) :
    CanonRes (execTuningLoopUpdate ring offset s) := by
  simp [execTuningLoopUpdate, hs]

theorem execLaunchPower_canon {s : State} (p : Fin 64) (values : List Int) (hs : s.stores.Canon) :
    CanonRes (execLaunchPower p values s) := by
  simp [execLaunchPower, hs]

theorem execLaunchPowerTimer_canon {s : State} (p : Fin 64) (hs : s.stores.Canon) : CanonRes (execLaunchPowerTimer p s) := by
  simp [execLaunchPowerTimer, hs]

theorem execLossLocation_canon {s : State} (p : Fin 65) (r : OptRead) (hs : s.stores.Canon) : CanonRes (execLossLocation p r s) := by
  simp only [execLossLocation, canonRes_next]
  split <;> simp [hs]

theorem execLinkFlitReceive_canon {s : State} (p : Fin 64) (f : Flit) (hs : s.stores.Canon) :
    CanonRes (execLinkFlitReceive p f s) := by
  simp [execLinkFlitReceive, hs]

theorem execLinkReplayTimeout_canon {s : State} (p : Fin 64) (hs : s.stores.Canon) : CanonRes (execLinkReplayTimeout p s) := by
  simp only [execLinkReplayTimeout, canonRes_next]
  split <;> simp [hs]

theorem execLinkViolationFlood_canon {s : State} (p : Fin 64) (hs : s.stores.Canon) : CanonRes (execLinkViolationFlood p s) := by
  simp [execLinkViolationFlood, hs]

theorem execPortHoldExpire_canon {s : State} (p : Fin 64) (hs : s.stores.Canon) : CanonRes (execPortHoldExpire p s) := by
  rw [execPortHoldExpire, canonRes_next]
  split <;> simp [hs]

theorem execDrain_canon {s : State} (p : Fin 64) (reason : Fin 3) (duration : BitVec 32) (hs : s.stores.Canon) :
    CanonRes (execDrain p reason duration s) := by
  simp [execDrain, hs]

theorem execPortDrained_canon {s : State} (p : Fin 64) (hs : s.stores.Canon) : CanonRes (execPortDrained p s) := by
  simp [execPortDrained, hs]

theorem execExpectDark_canon {s : State} (work : Work) (hs : s.stores.Canon) : CanonRes (execExpectDark work s) := by
  unfold execExpectDark
  dsimp only
  repeat' split
  all_goals simp [hs]

theorem execDarkWaitTimeout_canon {s : State} (p : Fin 64) (hs : s.stores.Canon) : CanonRes (execDarkWaitTimeout p s) := by
  rw [execDarkWaitTimeout, canonRes_next]
  split <;> simp [hs]

theorem execEndpointNotice_canon {s : State} (port : Fin 64) (n : EndNotice) (hs : s.stores.Canon) :
    CanonRes (execEndpointNotice port n s) := by
  simp only [execEndpointNotice, canonRes_next]
  repeat' split
  all_goals simp [hs]

theorem execHello_canon {s : State} (port : Fin 64) (h : Hello) (hs : s.stores.Canon) : CanonRes (execHello port h s) := by
  simp [execHello, hs]

theorem execJobInstall_canon {s : State} (w : BarAcc) (hs : s.stores.Canon) : CanonRes (execJobInstall w s) := by
  simp [execJobInstall, hs]

theorem execJobClear_canon {s : State} (w : BarAcc) (hs : s.stores.Canon) : CanonRes (execJobClear w s) := by
  simp [execJobClear, hs]

theorem execNoticeSubmit_canon {s : State} (w : BarAcc) (hs : s.stores.Canon) : CanonRes (execNoticeSubmit w s) := by
  simp [execNoticeSubmit, hs]

theorem execPldmNotice_canon {s : State} (n : List Byte) (hs : s.stores.Canon) : CanonRes (execPldmNotice n s) := by
  simp [execPldmNotice, hs]

theorem execSignedNotice_canon {s : State} (port : Fin 64) (f : NoticeFrag) (hs : s.stores.Canon) :
    CanonRes (execSignedNotice port f s) := by
  unfold execSignedNotice
  dsimp only
  repeat' split
  all_goals simp [hs]

theorem execFragmentGapTimeout_canon {s : State} (port : Fin 64) (hs : s.stores.Canon) : CanonRes (execFragmentGapTimeout port s) := by
  rw [execFragmentGapTimeout, canonRes_next]
  split <;> simp [hs]

theorem execNoticeVerified_canon {s : State} (good : List Nat) (hs : s.stores.Canon) : CanonRes (execNoticeVerified good s) := by
  rw [execNoticeVerified, canonRes_next]
  split <;> simp [hs]

theorem execPendingNoticeExpire_canon {s : State} (generation : BitVec 32) (hs : s.stores.Canon) :
    CanonRes (execPendingNoticeExpire generation s) := by
  rw [execPendingNoticeExpire, canonRes_next]
  split <;> simp [hs]

theorem execCommitUnitSwitched_canon {s : State} (hs : s.stores.Canon) : CanonRes (execCommitUnitSwitched s) := by
  rw [execCommitUnitSwitched, canonRes_next]
  split <;> simp [hs]

theorem execCommitLimitMissed_canon {s : State} (hs : s.stores.Canon) : CanonRes (execCommitLimitMissed s) := by
  rw [execCommitLimitMissed, canonRes_next]
  split <;> simp [hs]

theorem execConfigCommit_canon {s : State} (work : Work) (hs : s.stores.Canon) : CanonRes (execConfigCommit work s) := by
  unfold execConfigCommit
  dsimp only
  repeat' split
  all_goals simp [hs]

theorem execConfigRevert_canon {s : State} (work : Work) (hs : s.stores.Canon) : CanonRes (execConfigRevert work s) := by
  rw [execConfigRevert, canonRes_next]
  split <;> simp [hs]

theorem execEntryZeroFillDone_canon {s : State} (i : Fin 4096) (hs : s.stores.Canon) : CanonRes (execEntryZeroFillDone i s) := by
  simp [execEntryZeroFillDone, hs]

theorem execRebuildLine_canon {s : State} (stack : Fin 16) (hs : s.stores.Canon) : CanonRes (execRebuildLine stack s) := by
  unfold execRebuildLine
  rw [canonRes_next]
  split
  · exact hs
  · refine State.canon_of_ite hs ?_
    split
    · simp [hs]
    · have hfold (f : State → Nat → Bool) (g : State → Nat → Nat) (l : List Nat) :
          (l.foldl (fun s k => if f s k then s.setDram (s.mem.dram.mark (g s k) true) else s) s).stores.Canon :=
        State.canon_foldl _ (fun s k hs =>
          State.canon_of_ite (State.setDram_canon hs (Mem.wf_mark _ _ (State.canon_dram hs))) hs) l hs
      simp [hfold]

theorem execChannelLost_canon {s : State} (i : Fin 544) (silent : Bool) (hs : s.stores.Canon) :
    CanonRes (execChannelLost i silent s) := by
  simp [execChannelLost, hs]

theorem execRowRemapDone_canon {s : State} (i : Fin 544) (hs : s.stores.Canon) : CanonRes (execRowRemapDone i s) := by
  rw [execRowRemapDone, canonRes_next]
  split <;> simp [hs]

theorem execMemAccess_canon {s : State} (addr : BitVec 48) (op : MemOp) (finds : List (Nat × EccFind)) (hs : s.stores.Canon) :
    CanonRes (execMemAccess addr op finds s) := by
  unfold execMemAccess
  dsimp only
  repeat' split
  all_goals simp [hs]

theorem execParityHoldExpire_canon {s : State} (stack : Fin 16) (group : Fin 2) (burst : Fin 1179648) (hs : s.stores.Canon) :
    CanonRes (execParityHoldExpire stack group burst s) := by
  rw [execParityHoldExpire, canonRes_next]
  split <;> simp [hs]

theorem execPatrolScrub_canon {s : State} (i : Fin 544) (finds : List (Nat × EccFind)) (hs : s.stores.Canon) :
    CanonRes (execPatrolScrub i finds s) := by
  simp [execPatrolScrub, hs]

theorem execDramLaneDegraded_canon {s : State} (i : Fin 544) (lane : Fin 296) (margin : Bool) (hs : s.stores.Canon) :
    CanonRes (execDramLaneDegraded i lane margin s) := by
  simp [execDramLaneDegraded, hs]

theorem execSliceWindow_canon {s : State} (ends : List (Nat × Bool)) (hs : s.stores.Canon) : CanonRes (execSliceWindow ends s) := by
  unfold execSliceWindow
  rw [canonRes_next]
  split
  · exact hs
  · refine State.canon_foldl _ (fun s k hs => ?_) _ hs
    repeat' split
    all_goals simp [hs]

theorem execRetrainPeriodExpire_canon {s : State} (i : Fin 544) (hs : s.stores.Canon) : CanonRes (execRetrainPeriodExpire i s) := by
  simp [execRetrainPeriodExpire, hs]

theorem execChannelRetrainReq_canon {s : State} (i : Fin 544) (w : BarAcc) (hs : s.stores.Canon) :
    CanonRes (execChannelRetrainReq i w s) := by
  simp [execChannelRetrainReq, hs]

theorem execEvacuateReq_canon {s : State} (i : Fin 544) (w : BarAcc) (hs : s.stores.Canon) : CanonRes (execEvacuateReq i w s) := by
  simp [execEvacuateReq, hs]

theorem execEvacuationStep_canon {s : State} (stack : Fin 16) (finds : List (Nat × EccFind)) (hs : s.stores.Canon) :
    CanonRes (execEvacuationStep stack finds s) := by
  rw [execEvacuationStep, canonRes_next]
  split <;> simp [hs]

theorem execRemapListWrite_canon {s : State} (hs : s.stores.Canon) : CanonRes (execRemapListWrite s) := by
  rw [execRemapListWrite, canonRes_next]
  split <;> simp [hs]

theorem execAbort_canon {s : State} (work : Work) (hs : s.stores.Canon) : CanonRes (execAbort work s) := by
  unfold execAbort
  dsimp only
  repeat' split
  all_goals simp [hs]

theorem execArrayClkCeilingWrite_canon {s : State} (c : Fin 4) (w : BarAcc) (hs : s.stores.Canon) :
    CanonRes (execArrayClkCeilingWrite c w s) := by
  simp [execArrayClkCeilingWrite, hs]

theorem execDeviceTimeLowRead_canon {s : State} (fn : Fin 16) (hs : s.stores.Canon) : CanonRes (execDeviceTimeLowRead fn s) := by
  simp [execDeviceTimeLowRead, hs]

theorem execCalendarSetWrite_canon {s : State} (w : BarAcc) (hs : s.stores.Canon) : CanonRes (execCalendarSetWrite w s) := by
  simp [execCalendarSetWrite, hs]

theorem execPldmCalendarSet_canon {s : State} (seconds : BitVec 48) (fraction : BitVec 15) (hs : s.stores.Canon) :
    CanonRes (execPldmCalendarSet seconds fraction s) := by
  simp [execPldmCalendarSet, hs]

theorem execCalendarSetApply_canon {s : State} (hs : s.stores.Canon) : CanonRes (execCalendarSetApply s) := by
  rw [execCalendarSetApply, canonRes_next]
  split <;> simp [hs]

theorem execContextReset_canon {s : State} (w : BarAcc) (hs : s.stores.Canon) : CanonRes (execContextReset w s) := by
  simp [execContextReset, hs]

theorem execEngineReset_canon {s : State} (w : BarAcc) (hs : s.stores.Canon) : CanonRes (execEngineReset w s) := by
  simp [execEngineReset, hs]

theorem execEngineResetEnd_canon {s : State} (hs : s.stores.Canon) : CanonRes (execEngineResetEnd s) := by
  rw [execEngineResetEnd, canonRes_next]
  split <;> simp [hs]

theorem execPartitionReset_canon {s : State} (w : BarAcc) (hs : s.stores.Canon) : CanonRes (execPartitionReset w s) := by
  simp [execPartitionReset, hs]

theorem execChipReset_canon {s : State} (w : BarAcc) (hs : s.stores.Canon) : CanonRes (execChipReset w s) := by
  simp [execChipReset, hs]

theorem execPowerCycle_canon {s : State} (w : BarAcc) (hs : s.stores.Canon) : CanonRes (execPowerCycle w s) := by
  simp [execPowerCycle, hs]

theorem execPldmChipReset_canon {s : State} (hs : s.stores.Canon) : CanonRes (execPldmChipReset s) := by
  simp [execPldmChipReset, hs]

theorem execPldmPowerCycle_canon {s : State} (hs : s.stores.Canon) : CanonRes (execPldmPowerCycle s) := by
  simp [execPldmPowerCycle, hs]

theorem execPartitionStageDone_canon {s : State} (c : Fin 4) (short : ShortLanes) (bad : List Nat) (hs : s.stores.Canon) :
    CanonRes (execPartitionStageDone c short bad s) := by
  rw [execPartitionStageDone, canonRes_next]
  split <;> simp [hs]

theorem execResetLimitExpire_canon {s : State} (hs : s.stores.Canon) : CanonRes (execResetLimitExpire s) := by
  simp only [execResetLimitExpire, canonRes_next]
  repeat' split
  all_goals simp [hs]

theorem execEndpointNoticeTimer_canon {s : State} (hs : s.stores.Canon) : CanonRes (execEndpointNoticeTimer s) := by
  simp [execEndpointNoticeTimer, hs]

theorem execChipResetTakeover_canon {s : State} (hs : s.stores.Canon) : CanonRes (execChipResetTakeover s) := by
  rw [execChipResetTakeover, canonRes_next]
  split <;> simp [hs]

theorem execChipResetStageDone_canon {s : State} (r : StageResult) (hs : s.stores.Canon) : CanonRes (execChipResetStageDone r s) := by
  unfold execChipResetStageDone
  rw [canonRes_next]
  split
  · exact hs
  · refine State.canon_of_ite hs ?_
    split
    · exact State.canon_of_ite (by simp [hs]) (by simp [hs])
    · split <;> simp [hs]
    · dsimp only
      split <;> simp [hs]
    · exact State.canon_of_ite hs (by simp [hs])
    · simpa using Stores.canon_mk Mem.wf_empty Mem.wf_empty (State.canon_dram hs)
    · exact hs

theorem execWindowHandover_canon {s : State} (hs : s.stores.Canon) : CanonRes (execWindowHandover s) := by
  unfold execWindowHandover
  rw [canonRes_next]
  split
  · exact hs
  · refine State.canon_of_ite hs ?_
    apply State.finishReset_canon
    refine State.canon_of_ite (State.canon_of_ite ?_ ?_) ?_ <;> simp [↓State.stores_mk, ↓State.stores_eta, ↓State.put_stores, ↓State.bootStep_stores, ↓State.monStart_stores, ↓State.stores_foldl, ↓State.sendHellos_stores, hs]

theorem execDump_canon {s : State} (work : Work) (hs : s.stores.Canon) : CanonRes (execDump work s) := by
  simp only [execDump, canonRes_next]
  repeat' split
  all_goals simp [hs]

theorem execDumpStart_canon {s : State} (w : BarAcc) (hs : s.stores.Canon) : CanonRes (execDumpStart w s) := by
  simp [execDumpStart, hs]

theorem execDumpSectionDone_canon {s : State} (bytes : Nat) (ok : Bool) (hs : s.stores.Canon) :
    CanonRes (execDumpSectionDone bytes ok s) := by
  simp only [execDumpSectionDone, canonRes_next]
  split <;> simp [hs]

theorem execDumpUnitUnresponsive_canon {s : State} (hs : s.stores.Canon) : CanonRes (execDumpUnitUnresponsive s) := by
  rw [execDumpUnitUnresponsive, canonRes_next]
  split <;> simp [hs]

theorem execDumpTimeLimit_canon {s : State} (hs : s.stores.Canon) : CanonRes (execDumpTimeLimit s) := by
  simp [execDumpTimeLimit, hs]

theorem execHostLinkTrained_canon {s : State} (fast : Bool) (usable : List Nat) (hs : s.stores.Canon) :
    CanonRes (execHostLinkTrained fast usable s) := by
  simp [execHostLinkTrained, hs]

theorem execHostTrainRetry_canon {s : State} (trained fast : Bool) (usable : List Nat) (hs : s.stores.Canon) :
    CanonRes (execHostTrainRetry trained fast usable s) := by
  simp [execHostTrainRetry, hs]

theorem execPcieDlDown_canon {s : State} (hs : s.stores.Canon) : CanonRes (execPcieDlDown s) := by
  simp [execPcieDlDown, hs]

theorem execFunctionLevelReset_canon {s : State} (fn : Fin 16) (hs : s.stores.Canon) : CanonRes (execFunctionLevelReset fn s) := by
  simp [execFunctionLevelReset, hs]

theorem execDStateChange_canon {s : State} (d3 : Bool) (hs : s.stores.Canon) : CanonRes (execDStateChange d3 s) := by
  simp [execDStateChange, hs]

theorem execVfEnable_canon {s : State} (n : Fin 16) (hs : s.stores.Canon) : CanonRes (execVfEnable n s) := by
  simp [execVfEnable, hs]

theorem execBar4Access_canon {s : State} (off : BitVec 48) (op : MemOp) (hs : s.stores.Canon) :
    CanonRes (execBar4Access off op s) := by
  unfold execBar4Access
  dsimp only
  repeat' split
  all_goals simp [hs]

theorem execFabricEnable_canon {s : State} (w : BarAcc) (hs : s.stores.Canon) : CanonRes (execFabricEnable w s) := by
  simp [execFabricEnable, hs]

theorem execFeedSwitch_canon {s : State} (va vb : Fin 8192) (hs : s.stores.Canon) : CanonRes (execFeedSwitch va vb s) := by
  unfold execFeedSwitch
  dsimp only
  repeat' split
  all_goals simp [hs]

theorem execFeedSwitchBack_canon {s : State} (va vb : Fin 8192) (hs : s.stores.Canon) : CanonRes (execFeedSwitchBack va vb s) := by
  simp [execFeedSwitchBack, hs]

theorem execFeedOvervoltage_canon {s : State} (f : Feed) (va vb : Fin 8192) (hs : s.stores.Canon) :
    CanonRes (execFeedOvervoltage f va vb s) := by
  simp [execFeedOvervoltage, hs]

theorem execHoldUp_canon {s : State} (va vb : Fin 8192) (hs : s.stores.Canon) : CanonRes (execHoldUp va vb s) := by
  simp [execHoldUp, hs]

theorem execHoldUpRailsOff_canon {s : State} (hs : s.stores.Canon) : CanonRes (execHoldUpRailsOff s) := by
  simp [execHoldUpRailsOff, hs]

theorem execHubRailFault_canon {s : State} (hs : s.stores.Canon) : CanonRes (execHubRailFault s) := by
  simp [execHubRailFault, hs]

theorem execPowerControlTick_canon {s : State} (hs : s.stores.Canon) : CanonRes (execPowerControlTick s) := by
  simp [execPowerControlTick, hs]

theorem execArrayClockStep_canon {s : State} (c : Fin 4) (up : Bool) (hs : s.stores.Canon) : CanonRes (execArrayClockStep c up s) := by
  unfold execArrayClockStep
  dsimp only
  repeat' split
  all_goals simp [hs]

theorem execPowerHint_canon {s : State} (work : Work) (hs : s.stores.Canon) : CanonRes (execPowerHint work s) := by
  rw [execPowerHint, canonRes_next]
  split <;> simp [hs]

theorem execPreRampStart_canon {s : State} (die : Fin 4) (hs : s.stores.Canon) : CanonRes (execPreRampStart die s) := by
  simp only [execPreRampStart, canonRes_next]
  split <;> simp [hs]

theorem execPreRampHoldEnd_canon {s : State} (die : Fin 4) (hs : s.stores.Canon) : CanonRes (execPreRampHoldEnd die s) := by
  simp only [execPreRampHoldEnd, canonRes_next]
  split <;> simp [hs]

theorem execPowerEvaluation_canon {s : State} (measured : Option Nat) (estimated : Nat) (va vb : Fin 8192) (hs : s.stores.Canon) :
    CanonRes (execPowerEvaluation measured estimated va vb s) := by
  simp [execPowerEvaluation, hs]

theorem execMeasurementLost_canon {s : State} (hs : s.stores.Canon) : CanonRes (execMeasurementLost s) := by
  simp [execMeasurementLost, hs]

theorem execCapUnreachable_canon {s : State} (hs : s.stores.Canon) : CanonRes (execCapUnreachable s) := by
  rw [execCapUnreachable, canonRes_next]
  split <;> simp [hs]

theorem execEstimateMismatch_canon {s : State} (hs : s.stores.Canon) : CanonRes (execEstimateMismatch s) := by
  rw [execEstimateMismatch, canonRes_next]
  split <;> simp [hs]

theorem execStopStepDone_canon {s : State} (hs : s.stores.Canon) : CanonRes (execStopStepDone s) := by
  simp [execStopStepDone, hs]

theorem execStopStepLimit_canon {s : State} (hs : s.stores.Canon) : CanonRes (execStopStepLimit s) := by
  simp [execStopStepLimit, hs]

theorem execStopResetRelease_canon {s : State} (hs : s.stores.Canon) : CanonRes (execStopResetRelease s) := by
  unfold execStopResetRelease
  dsimp only
  repeat' split
  all_goals simp [hs]

theorem execAnalogueThermTrip_canon {s : State} (c : Fin 4) (hs : s.stores.Canon) : CanonRes (execAnalogueThermTrip c s) := by
  simp [execAnalogueThermTrip, hs]

theorem execRailFault_canon {s : State} (rail : Fin 7) (hs : s.stores.Canon) : CanonRes (execRailFault rail s) := by
  simp [execRailFault, hs]

theorem execPowerExcess_canon {s : State} (hs : s.stores.Canon) : CanonRes (execPowerExcess s) := by
  rw [execPowerExcess, canonRes_next]
  split <;> simp [hs]

theorem execCoolantFaultAssert_canon {s : State} (hs : s.stores.Canon) : CanonRes (execCoolantFaultAssert s) := by
  simp only [execCoolantFaultAssert, canonRes_next]
  split <;> simp [hs]

theorem execCoolantFaultDeassertHeld_canon {s : State} (hs : s.stores.Canon) : CanonRes (execCoolantFaultDeassertHeld s) := by
  simp only [execCoolantFaultDeassertHeld, canonRes_next]
  split <;> simp [hs]

theorem execDieDiodeSample_canon {s : State} (die : Fin 9) (t : Option Int) (hs : s.stores.Canon) :
    CanonRes (execDieDiodeSample die t s) := by
  simp [execDieDiodeSample, hs]

theorem execStackSensorSample_canon {s : State} (k : Fin 16) (t : Option Int) (hs : s.stores.Canon) :
    CanonRes (execStackSensorSample k t s) := by
  unfold execStackSensorSample
  dsimp only
  repeat' split
  all_goals simp [hs]

theorem execSensorLost_canon {s : State} (i : Fin 25) (hs : s.stores.Canon) : CanonRes (execSensorLost i s) := by
  simp [execSensorLost, hs]

theorem execD2dLaneFail_canon {s : State} (b : Fin 400) (lane : Fin 66) (cause : LaneFailCause) (hs : s.stores.Canon) :
    CanonRes (execD2dLaneFail b lane cause s) := by
  simp only [execD2dLaneFail, canonRes_next]
  split <;> simp [hs]

theorem execBundleChangeEnd_canon {s : State} (b : Fin 400) (hs : s.stores.Canon) : CanonRes (execBundleChangeEnd b s) := by
  unfold execBundleChangeEnd
  dsimp only
  repeat' split
  all_goals simp [hs]

theorem execD2dFlitReceive_canon {s : State} (b : Fin 400) (payload : BitVec 1024) (crcOk : Bool) (lane : Fin 66) (hs : s.stores.Canon) :
    CanonRes (execD2dFlitReceive b payload crcOk lane s) := by
  simp [execD2dFlitReceive, hs]

theorem execMarginMeasurement_canon {s : State} (kind : MarginKind) (unit sub : Nat) (value : Int) (hs : s.stores.Canon) :
    CanonRes (execMarginMeasurement kind unit sub value s) := by
  simp [execMarginMeasurement, hs]

theorem execFeedQualified_canon {s : State} (f : Feed) (va vb : Fin 8192) (hs : s.stores.Canon) :
    CanonRes (execFeedQualified f va vb s) := by
  simp [execFeedQualified, hs]

theorem execFeedUndervoltHold_canon {s : State} (r : IslandRead) (va vb : Fin 8192) (hs : s.stores.Canon) :
    CanonRes (execFeedUndervoltHold r va vb s) := by
  simp [execFeedUndervoltHold, hs]

theorem execBringupFeedLoss_canon {s : State} (hs : s.stores.Canon) : CanonRes (execBringupFeedLoss s) := by
  simp [execBringupFeedLoss, hs]

theorem execLatchRelease_canon {s : State} (hs : s.stores.Canon) : CanonRes (execLatchRelease s) := by
  simp [execLatchRelease, hs]

theorem execBringupStepDone_canon {s : State} (r : StepResult) (hs : s.stores.Canon) : CanonRes (execBringupStepDone r s) := by
  simp only [execBringupStepDone, canonRes_next]
  split <;> simp [hs]

theorem execBringupStepTimeout_canon {s : State} (step : Fin 12) (rail : Fin 7) (hs : s.stores.Canon) :
    CanonRes (execBringupStepTimeout step rail s) := by
  rw [execBringupStepTimeout, canonRes_next]
  split <;> simp [hs]

/-! ## Every command, and the step -/

theorem exec_canon (c : Instr) {s : State} (hs : s.stores.Canon) : CanonRes (exec c s) := by
  cases c with
  | registerWrite r ix w => exact execRegisterWrite_canon r ix w hs
  | setupLockWrite w => exact execSetupLockWrite_canon w hs
  | d2dFlitReceive b payload crcOk lane => exact execD2dFlitReceive_canon b payload crcOk lane hs
  | d2dLaneFail b lane cause => exact execD2dLaneFail_canon b lane cause hs
  | bundleChangeEnd b => exact execBundleChangeEnd_canon b hs
  | feedQualified f va vb => exact execFeedQualified_canon f va vb hs
  | feedUndervoltHold r va vb => exact execFeedUndervoltHold_canon r va vb hs
  | bringupStepDone r => exact execBringupStepDone_canon r hs
  | bringupStepTimeout step rail => exact execBringupStepTimeout_canon step rail hs
  | hostTrainRetry trained fast usable => exact execHostTrainRetry_canon trained fast usable hs
  | bringupFeedLoss => exact execBringupFeedLoss_canon hs
  | latchRelease => exact execLatchRelease_canon hs
  | arrayClkCeilingWrite c w => exact execArrayClkCeilingWrite_canon c w hs
  | arrayClockStep c up => exact execArrayClockStep_canon c up hs
  | deviceTimeLowRead fn => exact execDeviceTimeLowRead_canon fn hs
  | calendarSetWrite w => exact execCalendarSetWrite_canon w hs
  | pldmCalendarSet seconds fraction => exact execPldmCalendarSet_canon seconds fraction hs
  | calendarSetApply => exact execCalendarSetApply_canon hs
  | beatAdmit a fed => exact execBeatAdmit_canon a fed hs
  | columnComplete a bank ecc => exact execColumnComplete_canon a bank ecc hs
  | sloadRowWrite a => exact execSloadRowWrite_canon a hs
  | drainEntryRead a credit bank ecc => exact execDrainEntryRead_canon a credit bank ecc hs
  | accInitEntry a => exact execAccInitEntry_canon a hs
  | srSeedWrite q w => exact execSrSeedWrite_canon q w hs
  | srCtrWrite q w => exact execSrCtrWrite_canon q w hs
  | programLaunch q => exact execProgramLaunch_canon q hs
  | programEnd q => exact execProgramEnd_canon q hs
  | nop q => exact execNop_canon q hs
  | endProgram q => exact execEndProgram_canon q hs
  | br q => exact execBr_canon q hs
  | loop q => exact execLoop_canon q hs
  | sload q => exact execSload_canon q hs
  | wstream q => exact execWstream_canon q hs
  | accInit q => exact execAccInit_canon q hs
  | accDrain q => exact execAccDrain_canon q hs
  | vload q => exact execVload_canon q hs
  | vstore q => exact execVstore_canon q hs
  | vop q => exact execVop_canon q hs
  | vred q => exact execVred_canon q hs
  | vtopk q => exact execVtopk_canon q hs
  | qcopy q => exact execQcopy_canon q hs
  | qcopyComplete q => exact execQcopyComplete_canon q hs
  | waitObj q => exact execWaitObj_canon q hs
  | waitObjWake q => exact execWaitObjWake_canon q hs
  | waitTimeout q => exact execWaitTimeout_canon q hs
  | waitEv q => exact execWaitEv_canon q hs
  | signalSet q => exact execSignalSet_canon q hs
  | signalAdd q => exact execSignalAdd_canon q hs
  | alu q => exact execAlu_canon q hs
  | alui q => exact execAlui_canon q hs
  | li q => exact execLi_canon q hs
  | ld q => exact execLd_canon q hs
  | st q => exact execSt_canon q hs
  | movlc q => exact execMovlc_canon q hs
  | lamp q => exact execLamp_canon q hs
  | graphStoreBaseWrite w => exact execGraphStoreBaseWrite_canon w hs
  | graphNodeReady g node => exact execGraphNodeReady_canon g node hs
  | graphNodeComplete g node => exact execGraphNodeComplete_canon g node hs
  | memAccess addr op finds => exact execMemAccess_canon addr op finds hs
  | parityHoldExpire stack group burst => exact execParityHoldExpire_canon stack group burst hs
  | patrolScrub ix finds => exact execPatrolScrub_canon ix finds hs
  | dramLaneDegraded ix lane margin => exact execDramLaneDegraded_canon ix lane margin hs
  | sliceWindow ends => exact execSliceWindow_canon ends hs
  | retrainPeriodExpire ix => exact execRetrainPeriodExpire_canon ix hs
  | channelRetrainReq ix w => exact execChannelRetrainReq_canon ix w hs
  | evacuateReq ix w => exact execEvacuateReq_canon ix w hs
  | evacuationStep sx finds => exact execEvacuationStep_canon sx finds hs
  | channelLost ix silent => exact execChannelLost_canon ix silent hs
  | rebuildLine sx => exact execRebuildLine_canon sx hs
  | rowRemapDone ix => exact execRowRemapDone_canon ix hs
  | remapListWrite => exact execRemapListWrite_canon hs
  | entryZeroFillDone ix => exact execEntryZeroFillDone_canon ix hs
  | pcieDlDown => exact execPcieDlDown_canon hs
  | functionLevelReset fn => exact execFunctionLevelReset_canon fn hs
  | bar4Access off op => exact execBar4Access_canon off op hs
  | syncObjectWrite fn obj size v => exact execSyncObjectWrite_canon fn obj size v hs
  | queueEnable n w => exact execQueueEnable_canon n w hs
  | queueDisable n w => exact execQueueDisable_canon n w hs
  | queueResume n w => exact execQueueResume_canon n w hs
  | queueSetHead n w => exact execQueueSetHead_canon n w hs
  | cqEnable n w => exact execCqEnable_canon n w hs
  | cqDisable n w => exact execCqDisable_canon n w hs
  | doorbell n w => exact execDoorbell_canon n w hs
  | cqHeadWrite n w => exact execCqHeadWrite_canon n w hs
  | descriptorFetch => exact execDescriptorFetch_canon hs
  | descriptorReadDone n data => exact execDescriptorReadDone_canon n data hs
  | descriptorDispatch n => exact execDescriptorDispatch_canon n hs
  | descriptorComplete n idx => exact execDescriptorComplete_canon n idx hs
  | cqStallTimeout n => exact execCqStallTimeout_canon n hs
  | interruptModerationExpire n => exact execInterruptModerationExpire_canon n hs
  | recordHintExpire n => exact execRecordHintExpire_canon n hs
  | execProgram work => exact execExecProgram_canon work hs
  | execGraph work => exact execExecGraph_canon work hs
  | copy work hostData => exact execCopy_canon work hostData hs
  | fill work => exact execFill_canon work hs
  | syncSignal work => exact execSyncSignal_canon work hs
  | syncWait work => exact execSyncWait_canon work hs
  | syncWaitTimeout work => exact execSyncWaitTimeout_canon work hs
  | powerHint work => exact execPowerHint_canon work hs
  | configCommit work => exact execConfigCommit_canon work hs
  | commitUnitSwitched => exact execCommitUnitSwitched_canon hs
  | commitLimitMissed => exact execCommitLimitMissed_canon hs
  | configRevert work => exact execConfigRevert_canon work hs
  | expectDark work => exact execExpectDark_canon work hs
  | abort work => exact execAbort_canon work hs
  | dump work => exact execDump_canon work hs
  | nodeIdWrite w => exact execNodeIdWrite_canon w hs
  | fabricEnable w => exact execFabricEnable_canon w hs
  | boardWindowAccess addr op => exact execBoardWindowAccess_canon addr op hs
  | fabricRead work => exact execFabricRead_canon work hs
  | fabricWrite work hostData => exact execFabricWrite_canon work hostData hs
  | fabricWritePosted work hostData => exact execFabricWritePosted_canon work hostData hs
  | fabricAtomic work hostData => exact execFabricAtomic_canon work hostData hs
  | fabricSend work hostData => exact execFabricSend_canon work hostData hs
  | fabricFence work => exact execFabricFence_canon work hs
  | fabricRequestIssue dst => exact execFabricRequestIssue_canon dst hs
  | readRequest port p => exact execReadRequest_canon port p hs
  | writeRequest port p => exact execWriteRequest_canon port p hs
  | writePostedRequest port p => exact execWritePostedRequest_canon port p hs
  | atomicRequest port p => exact execAtomicRequest_canon port p hs
  | sendRequest port p => exact execSendRequest_canon port p hs
  | fenceRequest port p => exact execFenceRequest_canon port p hs
  | openRequest port p => exact execOpenRequest_canon port p hs
  | fabricReply port p => exact execFabricReply_canon port p hs
  | fabricNak port p => exact execFabricNak_canon port p hs
  | fabricRetransmitTimeout tag => exact execFabricRetransmitTimeout_canon tag hs
  | fabricFinalTimeout tag => exact execFabricFinalTimeout_canon tag hs
  | routeWaitTimeout tag => exact execRouteWaitTimeout_canon tag hs
  | flowContextReclaim source node => exact execFlowContextReclaim_canon source node hs
  | flowContextFetchDone source node poisoned => exact execFlowContextFetchDone_canon source node poisoned hs
  | resultCacheSweep => exact execResultCacheSweep_canon hs
  | rxqHeadWrite n w => exact execRxqHeadWrite_canon n w hs
  | rxqDisable n w => exact execRxqDisable_canon n w hs
  | sourceViolationFlood node => exact execSourceViolationFlood_canon node hs
  | tuningLoopUpdate ring offset => exact execTuningLoopUpdate_canon ring offset hs
  | activityIndex w a0 a1 a2 a3 => exact execActivityIndex_canon w a0 a1 a2 a3 hs
  | activityIndexAbsent w => exact execActivityIndexAbsent_canon w hs
  | linkFlitReceive p f => exact execLinkFlitReceive_canon p f hs
  | linkReplayTimeout p => exact execLinkReplayTimeout_canon p hs
  | laneMap p gen entries => exact execLaneMap_canon p gen entries hs
  | laneMapTimeout p => exact execLaneMapTimeout_canon p hs
  | laneFault p wavelength cause laneId => exact execLaneFault_canon p wavelength cause laneId hs
  | fecMode p long => exact execFecMode_canon p long hs
  | launchPower p values => exact execLaunchPower_canon p values hs
  | launchPowerTimer p => exact execLaunchPowerTimer_canon p hs
  | drain p reason duration => exact execDrain_canon p reason duration hs
  | retrain p => exact execRetrain_canon p hs
  | laneFailDetect p wavelength cause => exact execLaneFailDetect_canon p wavelength cause hs
  | aliasLockDetect p wavelength transmit laneId => exact execAliasLockDetect_canon p wavelength transmit laneId hs
  | aliasRecoveryEnd p wavelength ok => exact execAliasRecoveryEnd_canon p wavelength ok hs
  | lossLocation p r => exact execLossLocation_canon p r hs
  | partnerLightDetect p => exact execPartnerLightDetect_canon p hs
  | trainingStepDone p r => exact execTrainingStepDone_canon p r hs
  | trainingStepTimeout p => exact execTrainingStepTimeout_canon p hs
  | trainingRetryTimer p => exact execTrainingRetryTimer_canon p hs
  | portDown p => exact execPortDown_canon p hs
  | portRetrainReq p w => exact execPortRetrainReq_canon p w hs
  | recalReq p w => exact execRecalReq_canon p w hs
  | ringCalibrationDone p ok => exact execRingCalibrationDone_canon p ok hs
  | portDrained p => exact execPortDrained_canon p hs
  | darkWaitTimeout p => exact execDarkWaitTimeout_canon p hs
  | linkViolationFlood p => exact execLinkViolationFlood_canon p hs
  | portHoldExpire p => exact execPortHoldExpire_canon p hs
  | hostLinkTrained fast usable => exact execHostLinkTrained_canon fast usable hs
  | collectiveSetup work => exact execCollectiveSetup_canon work hs
  | allReduce work => exact execAllReduce_canon work hs
  | reduce work => exact execReduce_canon work hs
  | broadcast work => exact execBroadcast_canon work hs
  | barrier work => exact execBarrier_canon work hs
  | teardown work => exact execTeardown_canon work hs
  | collectiveRunStart session => exact execCollectiveRunStart_canon session hs
  | join port p => exact execJoin_canon port p hs
  | joinTimer session => exact execJoinTimer_canon session hs
  | joinLimitExpire session => exact execJoinLimitExpire_canon session hs
  | chunk port p adder => exact execChunk_canon port p adder hs
  | credit port p => exact execCredit_canon port p hs
  | creditKeepaliveTimer session => exact execCreditKeepaliveTimer_canon session hs
  | chunkRetransmitTimeout session neighbour => exact execChunkRetransmitTimeout_canon session neighbour hs
  | abortChunk port p => exact execAbortChunk_canon port p hs
  | sessionTimeout session neighbour => exact execSessionTimeout_canon session neighbour hs
  | colPoolWrite w => exact execColPoolWrite_canon w hs
  | feedSwitch va vb => exact execFeedSwitch_canon va vb hs
  | feedSwitchBack va vb => exact execFeedSwitchBack_canon va vb hs
  | feedOvervoltage f va vb => exact execFeedOvervoltage_canon f va vb hs
  | holdUp va vb => exact execHoldUp_canon va vb hs
  | holdUpRailsOff => exact execHoldUpRailsOff_canon hs
  | railFault rail => exact execRailFault_canon rail hs
  | hubRailFault => exact execHubRailFault_canon hs
  | powerControlTick => exact execPowerControlTick_canon hs
  | powerEvaluation measured estimated va vb => exact execPowerEvaluation_canon measured estimated va vb hs
  | measurementLost => exact execMeasurementLost_canon hs
  | capUnreachable => exact execCapUnreachable_canon hs
  | estimateMismatch => exact execEstimateMismatch_canon hs
  | powerExcess => exact execPowerExcess_canon hs
  | dieDiodeSample die t => exact execDieDiodeSample_canon die t hs
  | stackSensorSample sx t => exact execStackSensorSample_canon sx t hs
  | sensorLost ix => exact execSensorLost_canon ix hs
  | stopStepDone => exact execStopStepDone_canon hs
  | stopStepLimit => exact execStopStepLimit_canon hs
  | analogueThermTrip c => exact execAnalogueThermTrip_canon c hs
  | preRampStart die => exact execPreRampStart_canon die hs
  | preRampHoldEnd die => exact execPreRampHoldEnd_canon die hs
  | stopResetRelease => exact execStopResetRelease_canon hs
  | contextReset w => exact execContextReset_canon w hs
  | engineReset w => exact execEngineReset_canon w hs
  | partitionReset w => exact execPartitionReset_canon w hs
  | partitionStageDone c short bad => exact execPartitionStageDone_canon c short bad hs
  | chipReset w => exact execChipReset_canon w hs
  | powerCycle w => exact execPowerCycle_canon w hs
  | pldmChipReset => exact execPldmChipReset_canon hs
  | pldmPowerCycle => exact execPldmPowerCycle_canon hs
  | resetLimitExpire => exact execResetLimitExpire_canon hs
  | chipResetTakeover => exact execChipResetTakeover_canon hs
  | chipResetStageDone r => exact execChipResetStageDone_canon r hs
  | windowHandover => exact execWindowHandover_canon hs
  | endpointNoticeTimer => exact execEndpointNoticeTimer_canon hs
  | endpointNotice port n => exact execEndpointNotice_canon port n hs
  | dumpStart w => exact execDumpStart_canon w hs
  | dumpSectionDone bytes ok => exact execDumpSectionDone_canon bytes ok hs
  | dumpUnitUnresponsive => exact execDumpUnitUnresponsive_canon hs
  | dumpTimeLimit => exact execDumpTimeLimit_canon hs
  | hello port h => exact execHello_canon port h hs
  | helloTimer port => exact execHelloTimer_canon port hs
  | jobInstall w => exact execJobInstall_canon w hs
  | jobClear w => exact execJobClear_canon w hs
  | noticeSubmit w => exact execNoticeSubmit_canon w hs
  | pldmNotice n => exact execPldmNotice_canon n hs
  | signedNotice port f => exact execSignedNotice_canon port f hs
  | fragmentGapTimeout port => exact execFragmentGapTimeout_canon port hs
  | noticeVerified good => exact execNoticeVerified_canon good hs
  | pendingNoticeExpire generation => exact execPendingNoticeExpire_canon generation hs
  | bind work => exact execBind_canon work hs
  | mark work => exact execMark_canon work hs
  | unbind work => exact execUnbind_canon work hs
  | rbind port p => exact execRbind_canon port p hs
  | rbindTimer => exact execRbindTimer_canon hs
  | bindTimeout => exact execBindTimeout_canon hs
  | rburst port p => exact execRburst_canon port p hs
  | rmark port p => exact execRmark_canon port p hs
  | rkeep port p => exact execRkeep_canon port p hs
  | rkeepTimer => exact execRkeepTimer_canon hs
  | rresume port p => exact execRresume_canon port p hs
  | reflectBurstSend => exact execReflectBurstSend_canon hs
  | reflectReply port p => exact execReflectReply_canon port p hs
  | partnerLossTimeout => exact execPartnerLossTimeout_canon hs
  | rollbackDone => exact execRollbackDone_canon hs
  | monitorSample u v => exact execMonitorSample_canon u v hs
  | monitorWindowEnd u => exact execMonitorWindowEnd_canon u hs
  | marginMeasurement kind unit sub value => exact execMarginMeasurement_canon kind unit sub value hs
  | logFlush => exact execLogFlush_canon hs
  | logSelectWrite w => exact execLogSelectWrite_canon w hs
  | pldmSensorRead item => exact execPldmSensorRead_canon item hs
  | fwUpdateTransfer bytes sv last => exact execFwUpdateTransfer_canon bytes sv last hs
  | fwVerify keyOk sigOk => exact execFwVerify_canon keyOk sigOk hs
  | activateFirmware => exact execActivateFirmware_canon hs
  | firmwareSlotSelect => exact execFirmwareSlotSelect_canon hs
  | rollbackAdvance v => exact execRollbackAdvance_canon v hs
  | rollbackCtrlWrite w => exact execRollbackCtrlWrite_canon w hs
  | fuseStepDone => exact execFuseStepDone_canon hs
  | getVersion t => exact execGetVersion_canon t hs
  | getCapabilities t => exact execGetCapabilities_canon t hs
  | negotiateAlgorithms t => exact execNegotiateAlgorithms_canon t hs
  | getDigests t => exact execGetDigests_canon t hs
  | getCertificate t => exact execGetCertificate_canon t hs
  | challenge t => exact execChallenge_canon t hs
  | getMeasurements t => exact execGetMeasurements_canon t hs
  | keyExchange t => exact execKeyExchange_canon t hs
  | finish t session => exact execFinish_canon t session hs
  | heartbeat t session => exact execHeartbeat_canon t session hs
  | keyUpdate t session => exact execKeyUpdate_canon t session hs
  | endSession t session => exact execEndSession_canon t session hs
  | coolantFaultAssert => exact execCoolantFaultAssert_canon hs
  | coolantFaultDeassertHeld => exact execCoolantFaultDeassertHeld_canon hs
  | engineResetEnd => exact execEngineResetEnd_canon hs
  | vectorInstructionComplete q => exact execVectorInstructionComplete_canon q hs
  | flowContextWaitTimeout node => exact execFlowContextWaitTimeout_canon node hs
  | poisonedContextHoldEnd node => exact execPoisonedContextHoldEnd_canon node hs
  | violationDiscardEnd node => exact execViolationDiscardEnd_canon node hs
  | dStateChange d3 => exact execDStateChange_canon d3 hs
  | vfEnable n => exact execVfEnable_canon n hs

theorem step_canon {s : State} (hs : s.stores.Canon) : CanonRes (step s) := by
  unfold step
  split
  · simp [hs]
  · exact exec_canon _ (s := { s with pending := _ }) (by simpa using hs)

/-- Settles O3: every command's handler, and the tick of an empty queue, keeps the three byte stores canonical. -/
theorem stepKeepsStores : Obligations.StepKeepsStores :=
  fun _ _ hs ht => (State.canon_iff_wf _).1 (step_canon ((State.canon_iff_wf _).2 hs) _ ht)

end Sys2Proof.Machine

/-! SUPPORT. Sequencers: their place as shown, the causes of a program's status, and faults at issue (R121-R123, Table 5.19). -/

namespace Sys2Proof.Machine

/-! ## A sequencer's place shown (Table 5.19) -/

section
variable (s : State)

theorem State.showSeq_eq (q : Nat) : ∃ r, s.showSeq q = { s with regs := r } := ⟨_, rfl⟩

@[simp] theorem State.showSeq_seq (q k : Nat) : (s.showSeq q).seq k = s.seq k := rfl

/-- The fields that show a sequencer's place. -/
def seqShown : List Fld := [F.QD_SEQ_STAT_state, F.QD_SEQ_STAT_pc, F.QD_SEQ_STAT_loop_depth, F.HUB_PROGRESS_waiting]

theorem State.showSeq_get {f : Fld} (hf : f.code < 1024) (h : f.code ∉ seqShown.map Fld.code) (q j : Nat) :
    (s.showSeq q).get f j = s.get f j := by
  simp only [seqShown, List.map_cons, List.map_nil, List.mem_cons, List.not_mem_nil, or_false, not_or] at h
  obtain ⟨state, pc, depth, waiting⟩ := h
  rw [State.showSeq, State.engWaiting, State.putB_get_apart _ (by decide) hf waiting, State.put_get_apart _ (by decide) hf depth,
    State.put_get_apart _ (by decide) hf pc, State.put_get_apart _ (by decide) hf state]

/-! ## Causes and faults (R121, R122) -/

/-- A cause changes its own sequencer's causes alone. -/
theorem State.cause_eq (q : Nat) (st : Status) : ∃ ss, s.cause q st = { s with seqs := ss } := by
  unfold State.cause
  dsimp only
  split
  · exact ⟨_, rfl⟩
  · exact ⟨s.seqs, rfl⟩

theorem State.cause_seq_same (q : Nat) (st : Status) :
    ∃ cs, (s.cause q st).seq q = { s.seq q with causes := cs } ∧ ((s.seq q).launch.isSome = true → st ∈ cs) := by
  unfold State.cause
  dsimp only
  split
  · exact ⟨_, s.setSeq_same q _, fun _ => List.mem_cons_self⟩
  next kept => exact ⟨(s.seq q).causes, rfl, fun run => by simpa [run] using kept⟩

theorem State.progFault_eq (q : Nat) (st : Status) : ∃ r ss, s.progFault q st = { s with regs := r, seqs := ss } := by
  obtain ⟨ss, caused⟩ := s.cause_eq q st
  rw [State.progFault, caused]
  exact (State.showSeq_eq _ q).imp fun r shown => ⟨_, shown⟩

/-- A fault ends issue and is one of the causes of a program that runs. -/
theorem State.progFault_seq_same (q : Nat) (st : Status) :
    ∃ cs, (s.progFault q st).seq q = { s.seq q with causes := cs, ending := true, wait := .none } ∧
      ((s.seq q).launch.isSome = true → st ∈ cs) := by
  obtain ⟨cs, own, held⟩ := s.cause_seq_same q st
  refine ⟨cs, ?_, held⟩
  rw [State.progFault, State.showSeq_seq, State.setSeq_same]
  exact congrArg (fun x : Seq => { x with ending := true, wait := .none }) own

/-- A fault is shown with the index of its instruction. -/
theorem State.progFault_shown (q : Nat) (st : Status) :
    (s.progFault q st).get F.QD_SEQ_STAT_fault_evt q = 1 ∧
    (s.progFault q st).get F.QD_SEQ_STAT_fault_pc q = ((s.seq q).base + (s.seq q).pc) % 2 ^ 12 ∧
    (s.progFault q st).get F.QD_SEQ_STAT_last_status q = st.code % 2 ^ 8 := by
  have apart {f : Fld} (hf : f.code < 1024) (h : f.code ∉ seqShown.map Fld.code) (x : Seq) (u : State) :
      ((u.setSeq q x).showSeq q).get f q = u.get f q := State.showSeq_get _ hf h q q
  refine ⟨?_, ?_, ?_⟩ <;> rw [State.progFault, apart (by decide) (by decide)]
  · rw [State.put_get_apart _ (by decide) (by decide) (by decide), State.put_get_same]
    rfl
  · rw [State.put_get_apart _ (by decide) (by decide) (by decide), State.put_get_apart _ (by decide) (by decide) (by decide),
      State.put_get_same]
    rfl
  · rw [State.put_get_same]
    rfl

/-- After a fault nothing further issues. -/
theorem State.progFault_mayIssue (q : Nat) (st : Status) : (s.progFault q st).mayIssue q = false := by
  obtain ⟨cs, own, -⟩ := s.progFault_seq_same q st
  rw [State.mayIssue, own]
  simp

/-- A word past the end, of a reserved opcode or with a reserved field set faults whatever the instruction (R123). -/
theorem State.issue_of_ill {q op : Nat} (f : Nat → State → State) (may : s.mayIssue q = true)
    (ill : (s.seq q).len ≤ (s.seq q).pc ∨ opcodes.contains (slice (s.curWord q) 127 120) = false ∨
      (slice (s.curWord q) 127 120 = op ∧ wordReservedSet op (s.curWord q) = true)) :
    s.issue q op f = s.progFault q .eFormat := by
  unfold State.issue
  rw [if_neg (by simp [may])]
  split
  · rfl
  next within =>
    dsimp only
    split
    · rfl
    next known =>
      obtain ⟨opcode, set⟩ := (ill.resolve_left within).resolve_left (by simpa using known)
      rw [if_neg (not_not.2 opcode), if_pos (by simp [set])]

end


end Sys2Proof.Machine

/-! O13: words that may not issue (R122, R123, R129). -/

namespace Sys2Proof.Machine

/-! ## The statement -/

/-- Settles O13: the gate of issue answers each of the three words with the same fault. -/
theorem issueFaults : Obligations.IssueFaults := by
  unfold Obligations.IssueFaults
  intro s q may ill
  have run : (s.seq q).launch.isSome = true := by
    simp only [State.mayIssue, Bool.and_eq_true] at may
    exact may.1.1.1.1.1
  obtain ⟨cs, own, held⟩ := s.progFault_seq_same q .eFormat
  obtain ⟨event, index, status⟩ := s.progFault_shown q .eFormat
  obtain ⟨r, ss, frame⟩ := s.progFault_eq q .eFormat
  refine ⟨s.progFault q .eFormat, congrArg Host.Outcome.next (s.issue_of_ill _ may ill), ?_, ?_, event, index, status,
    s.progFault_mayIssue q _, ?_⟩
  · rw [own]
  · rw [own]
    exact held run
  · rw [frame]

end Sys2Proof.Machine

/-! SUPPORT. Steps of one sequencer: events counted and parts done (R121, R133); bytes copied with their poison. -/

namespace Sys2Proof.Machine

/-! ## Steps of one sequencer -/

/-- Sequencer q and register fields are all that may differ. -/
def OnlySeq (q : Nat) (s t : State) : Prop := (∃ r ss, t = { s with regs := r, seqs := ss }) ∧ ∀ k, k ≠ q → t.seq k = s.seq k

namespace OnlySeq
variable {q : Nat} {s t u : State}

theorem refl (q : Nat) (s : State) : OnlySeq q s s := ⟨⟨s.regs, s.seqs, rfl⟩, fun _ _ => rfl⟩

theorem trans (h : OnlySeq q s t) (h' : OnlySeq q t u) : OnlySeq q s u := by
  obtain ⟨⟨_, _, rfl⟩, others⟩ := h
  obtain ⟨⟨r, ss, rfl⟩, others'⟩ := h'
  exact ⟨⟨r, ss, rfl⟩, fun k hk => (others' k hk).trans (others k hk)⟩

theorem setSeq (q : Nat) (v : Seq) (s : State) : OnlySeq q s (s.setSeq q v) := ⟨⟨_, _, rfl⟩, fun _ hk => s.setSeq_other _ hk⟩

theorem enter (q n : Nat) (ev : Option Nat) (s : State) : OnlySeq q s (s.enter q n ev) := setSeq q _ s

theorem showSeq (q k : Nat) (s : State) : OnlySeq q s (s.showSeq k) := by
  obtain ⟨r, shown⟩ := s.showSeq_eq k
  exact ⟨⟨r, s.seqs, shown⟩, fun j _ => s.showSeq_seq k j⟩

theorem put (q : Nat) (f : Fld) (v i : Nat) (s : State) : OnlySeq q s (s.put f v i) := ⟨⟨_, _, rfl⟩, fun _ _ => rfl⟩

theorem passPc (q : Nat) (s : State) : OnlySeq q s (s.passPc q) := (setSeq q _ s).trans (showSeq q q _)

theorem cause (q : Nat) (st : Status) (s : State) : OnlySeq q s (s.cause q st) := by
  unfold State.cause
  dsimp only
  split
  · exact setSeq q _ s
  · exact refl q s

theorem countEvent (q n : Nat) (s : State) : OnlySeq q s (s.countEvent q n) := by
  unfold State.countEvent
  dsimp only
  split
  · split
    · exact (setSeq q _ s).trans (passPc q _)
    · exact setSeq q _ s
  · exact setSeq q _ s

theorem partDone (q id : Nat) (s : State) : OnlySeq q s (s.partDone q id) := by
  unfold State.partDone
  dsimp only
  split
  · exact refl q s
  · split
    · split
      · exact (setSeq q _ s).trans (countEvent q _ _)
      · exact setSeq q _ s
    · exact setSeq q _ s

theorem ite {p : Prop} [Decidable p] (h : OnlySeq q s t) (h' : OnlySeq q s u) : OnlySeq q s (if p then t else u) := by
  split <;> assumption

theorem frame (h : OnlySeq q s t) : t = { s with regs := t.regs, seqs := t.seqs } := by
  obtain ⟨⟨r, ss, rfl⟩, -⟩ := h
  rfl

end OnlySeq

/-! ## Events and parts done (R121, R133) -/

section
variable (s : State)

theorem State.passPc_seq_same (q : Nat) : (s.passPc q).seq q = (s.seq q).passed :=
  (State.showSeq_seq _ q q).trans (s.setSeq_same q _)

/-- An event counted leaves the queues of its sequencer. -/
theorem State.countEvent_queues (q n : Nat) :
    ((s.countEvent q n).seq q).vq = (s.seq q).vq ∧ ((s.countEvent q n).seq q).copies = (s.seq q).copies ∧
    ((s.countEvent q n).seq q).issued = (s.seq q).issued := by
  unfold State.countEvent
  dsimp only
  split
  · split
    · simp [State.passPc_seq_same, Seq.passed]
    · simp
  · simp

/-- A part done leaves the vector instructions and copies queued. -/
theorem State.partDone_queues (q id : Nat) :
    ((s.partDone q id).seq q).vq = (s.seq q).vq ∧ ((s.partDone q id).seq q).copies = (s.seq q).copies := by
  unfold State.partDone
  dsimp only
  split
  · exact ⟨rfl, rfl⟩
  · split
    · split
      · obtain ⟨vq, copies, -⟩ := (s.setSeq q { s.seq q with issued := (s.seq q).issued.filter fun j => j.id != id }).countEvent_queues q _
        rw [vq, copies]
        simp
      · simp
    · simp

/-- The last part of the one instruction outstanding completes it. -/
theorem State.partDone_issued_of_sole {q id : Nat} {i : Issued} (sole : (s.seq q).issued = [i]) (own : i.id = id) (last : i.left = 1) :
    ((s.partDone q id).seq q).issued = [] := by
  have none_left : (s.seq q).issued.filter (fun j => j.id != id) = [] := by simp [sole, own]
  have found : (s.seq q).issued.find? (fun j => j.id == id) = some i := by simp [sole, own]
  simp only [State.partDone, found, last, le_refl, if_true, none_left]
  split
  · rw [(State.countEvent_queues _ q _).2.2, State.setSeq_same]
  · rw [State.setSeq_same]

end

/-! ## Bytes read and written with their poison -/

@[simp] theorem length_getRun {α : Type} [DecidableEq α] (d : α) (m : SMap α) (n : Nat) : ∀ k, (SMap.getRun d m k n).length = n := by
  induction n with
  | zero => exact fun _ => rfl
  | succ n ih => exact fun k => congrArg (· + 1) (ih (k + 1))

theorem getD_getRun {α : Type} [DecidableEq α] (d : α) (m : SMap α) {n i : Nat} :
    ∀ k, i < n → (SMap.getRun d m k n).getD i d = SMap.get d m (k + i) := by
  induction n generalizing i with
  | zero => exact fun _ h => absurd h (Nat.not_lt_zero i)
  | succ n ih =>
    intro k h
    cases i with
    | zero => rfl
    | succ i => exact (ih (k + 1) (Nat.lt_of_succ_lt_succ h)).trans (by rw [Nat.add_right_comm]; rfl)

/-- Poison marks change no byte. -/
theorem foldl_mark_byte {α : Type} (p : α → Bool) (k : α → Nat) (l : List α) (j : Nat) :
    ∀ m : Mem, (l.foldl (fun m x => if p x then m.mark (k x) true else m) m).byte j = m.byte j := by
  induction l with
  | nil => exact fun _ => rfl
  | cons x l ih =>
    intro m
    refine (ih _).trans ?_
    dsimp only
    split <;> rfl

/-- What was read of n bytes, written elsewhere, leaves each byte as it was read and the others as they were. -/
theorem Mem.writeOut_readOut_byte (m r : Mem) (a b n j : Nat) :
    (m.writeOut a (r.readOut b n)).byte j = if a ≤ j ∧ j < a + n then r.byte (b + (j - a)) else m.byte j := by
  have len : (r.readOut b n).bytes.length = n := length_getRun 0 r.bytes n b
  rw [Mem.writeOut, foldl_mark_byte, Mem.byte_write, len]
  split
  next h => exact getD_getRun 0 r.bytes b (by omega)
  · rfl


end Sys2Proof.Machine

/-! O21: the quadrant copy engine and the queue of vector instructions (R128, R132, R133). -/

namespace Sys2Proof.Machine

/-! ## VECTOR_INSTRUCTION_COMPLETE -/

theorem vectorInstructionComplete_gives {s : State} {q : Fin 16} {id : Nat} {rest : List Nat} (queue : (s.seq q).vq = id :: rest)
    (free : s.quadStopped q = false) : Gives (.vectorInstructionComplete q) s fun t =>
      (t.seq q).vq = rest ∧ (∀ i, (s.seq q).issued = [i] → i.id = id → i.left = 1 → (t.seq q).issued = []) ∧
      (∀ k, k ≠ q.val → t.seq k = s.seq k) ∧ t = { s with regs := t.regs, seqs := t.seqs } := by
  have frame := (OnlySeq.setSeq q { s.seq q with vq := rest } s).trans (OnlySeq.partDone q id _)
  refine ⟨(s.setSeq q { s.seq q with vq := rest }).partDone q id, ?_, ?_, fun i sole own last => ?_, frame.2, frame.frame⟩
  · change execVectorInstructionComplete q s = _
    simp only [execVectorInstructionComplete, queue, free, Bool.false_eq_true, if_false]
  · rw [(State.partDone_queues _ q id).1, State.setSeq_same]
  · exact State.partDone_issued_of_sole _ (by rw [State.setSeq_same, sole]) own last

/-! ## QCOPY -/

theorem State.enter_seq_same (s : State) (q n : Nat) (ev : Option Nat) : (s.enter q n ev).seq q =
    { s.seq q with issued := (s.seq q).issued ++ [{ id := (s.seq q).nextId, ev := ev, left := n }], nextId := (s.seq q).nextId + 1 } :=
  s.setSeq_same q _

/-- Where a copy's end lies on its own device outside device memory. -/
theorem State.qEnd_local (s : State) {space : Nat} (h : space ≠ 0) (q a n : Nat) :
    s.qEnd space q a n = .here (if space = 2 then .hub a else .spad q a) := by
  rw [State.qEnd, if_neg h]
  split <;> rfl

theorem State.endHeld_qEnd_local (s : State) {space : Nat} (h : space ≠ 0) (q a n m : Nat) : s.endHeld (s.qEnd space q a n) m = false := by
  rw [s.qEnd_local h]
  split <;> rfl

/-- A copy with both its ends at hand asks for nothing. -/
theorem State.startCopy_of_local {s : State} {q : Nat} {c : QCopyOp} {rest : List QCopyOp} (head : (s.seq q).copies = c :: rest)
    (src : c.srcSpace ≠ 0) (dst : c.dstSpace ≠ 0) : s.startCopy q = s := by
  simp only [State.startCopy, head, s.qEnd_local src, s.qEnd_local dst, ite_self]

theorem State.startCopy_of_nil {s : State} {q : Nat} (none : (s.seq q).copies = []) : s.startCopy q = s := by
  simp only [State.startCopy, none]

theorem issued_gives_of_onlySeq {s u : State} {q : Nat} {x : Seq} (frame : OnlySeq q s u) (own : u.seq q = x) :
    (u.issued q).seq q = x.passed ∧
    u.issued q = { s with regs := (u.issued q).regs, engines := (u.issued q).engines, seqs := (u.issued q).seqs } := by
  refine ⟨own ▸ u.issued_seq_same q, ?_⟩
  obtain ⟨⟨_, _, rfl⟩, -⟩ := frame
  obtain ⟨r, m, h⟩ := State.issued_eq _ q
  rw [h]
  rfl

/-- A copy entered in its sequencer's copy engine, with its number taken. -/
def State.queueCopy (s : State) (q : Nat) (ev : Option Nat) (op : QCopyOp) : State :=
  (s.enter q 1 ev).setSeq q { (s.enter q 1 ev).seq q with copies := (s.seq q).copies ++ [op] }

theorem State.queueCopy_onlySeq (s : State) (q : Nat) (ev : Option Nat) (op : QCopyOp) : OnlySeq q s (s.queueCopy q ev op) :=
  (OnlySeq.enter q 1 ev s).trans (OnlySeq.setSeq q _ _)

theorem State.queueCopy_seq_same (s : State) (q : Nat) (ev : Option Nat) (op : QCopyOp) : (s.queueCopy q ev op).seq q =
    { s.seq q with issued := (s.seq q).issued ++ [{ id := (s.seq q).nextId, ev := ev, left := 1 }], nextId := (s.seq q).nextId + 1
                   copies := (s.seq q).copies ++ [op] } := by
  rw [State.queueCopy, State.setSeq_same, State.enter_seq_same]

/-- A QCOPY whose operands are legal and within bounds, with a free place in the copy engine's queue. -/
theorem exec_qcopy_of_fits {s : State} {q : Fin 16} {w n a b : Nat} (at_ : AtOp s q 0x30 w)
    (hn : n = if slice w 97 93 = 0 then slice w 87 64 else s.sreg q (slice w 97 93))
    (ha : a = s.addrOf q (slice w 107 103) (slice w 63 32)) (hb : b = s.addrOf q (slice w 102 98) (slice w 31 0))
    (format : ¬(n < 64 ∨ 2 ^ 30 < n ∨ n % 64 ≠ 0 ∨ a % 64 ≠ 0 ∨ b % 64 ≠ 0))
    (src : s.copyEndOk (s.progCtx q) (slice w 119 118) a n false = true) (dst : s.copyEndOk (s.progCtx q) (slice w 117 116) b n true = true)
    (room : (s.seq q).copies.length < 8) (hs : slice w 119 118 ≠ 3) (hd : slice w 117 116 ≠ 3) :
    exec (.qcopy q) s = .next
      (((s.queueCopy q (wordEv w 88 92 89)
        { id := (s.seq q).nextId, srcSpace := slice w 119 118, srcQ := q, src := a, dstSpace := slice w 117 116, dstQ := q, dst := b,
          len := n }).startCopy q).issued q) := by
  subst hn ha hb
  change execQcopy q s = _
  rw [execQcopy, at_.issue]
  simp only [if_neg format, src, dst, Bool.not_true, Bool.or_self, Bool.false_eq_true, if_false, if_neg (Nat.not_le.2 room), if_neg hs,
    if_neg hd]
  rfl

theorem qcopy_gives {s : State} {q : Fin 16} {w : Nat} (at_ : AtOp s q 0x30 w) :
    let n := if slice w 97 93 = 0 then slice w 87 64 else s.sreg q (slice w 97 93)
    let a := s.addrOf q (slice w 107 103) (slice w 63 32)
    let b := s.addrOf q (slice w 102 98) (slice w 31 0)
    64 ≤ n → n ≤ 2 ^ 30 → n % 64 = 0 → a % 64 = 0 → b % 64 = 0 → slice w 119 118 ∈ [1, 2] → slice w 117 116 ∈ [1, 2] →
    s.copyEndOk (s.progCtx q) (slice w 119 118) a n false = true → s.copyEndOk (s.progCtx q) (slice w 117 116) b n true = true →
    (s.seq q).copies = [] → Gives (.qcopy q) s fun t =>
      (t.seq q).copies = [{ id := (s.seq q).nextId, srcSpace := slice w 119 118, srcQ := q, src := a, dstSpace := slice w 117 116,
                            dstQ := q, dst := b, len := n }] ∧
      (t.seq q).nextId = (s.seq q).nextId + 1 ∧ (t.seq q).pc = (loopNext (s.seq q).pc (s.seq q).loops).2 ∧
      t = { s with regs := t.regs, engines := t.engines, seqs := t.seqs } := by
  intro n a b low high whole srcAt dstAt srcSpace dstSpace srcOk dstOk empty
  have src0 : slice w 119 118 ≠ 0 ∧ slice w 119 118 ≠ 3 := by simp at srcSpace; omega
  have dst0 : slice w 117 116 ≠ 0 ∧ slice w 117 116 ≠ 3 := by simp at dstSpace; omega
  have exec_eq := exec_qcopy_of_fits (n := n) (a := a) (b := b) at_ rfl rfl rfl (by omega) srcOk dstOk (by simp [empty]) src0.2 dst0.2
  rw [State.startCopy_of_local (rest := []) (by rw [State.queueCopy_seq_same, empty]; rfl) src0.1 dst0.1] at exec_eq
  obtain ⟨own, rest⟩ := issued_gives_of_onlySeq (s.queueCopy_onlySeq q _ _) (s.queueCopy_seq_same q _ _)
  refine ⟨_, exec_eq, ?_, ?_, ?_, rest⟩ <;> rw [own, Seq.passed]
  rw [empty]
  rfl

/-! ## QCOPY_COMPLETE -/

/-- The end of a copy, the last of its engine: its part is done, the engine advances, and no copy starts. -/
theorem closeCopy_of_onlySeq {s u : State} {q id n : Nat} (h : OnlySeq q s u) :
    let t := (((u.setSeq q { u.seq q with copies := [] }).partDone q id).engAdvance q n).startCopy q
    (t.seq q).copies = [] ∧ ∃ r m ss, t = { s with regs := r, engines := m, seqs := ss } := by
  intro t
  have frame := (h.trans (OnlySeq.setSeq q { u.seq q with copies := [] } u)).trans (OnlySeq.partDone q id _)
  have empty : (((u.setSeq q { u.seq q with copies := [] }).partDone q id).seq q).copies = [] := by
    rw [(State.partDone_queues _ q id).2, State.setSeq_same]
  obtain ⟨r, m, advanced⟩ := ((u.setSeq q { u.seq q with copies := [] }).partDone q id).engAdvance_eq q n
  have same : t = { (u.setSeq q { u.seq q with copies := [] }).partDone q id with regs := r, engines := m } := by
    rw [← advanced]
    exact State.startCopy_of_nil (by rw [advanced]; exact empty)
  obtain ⟨⟨r', ss, done⟩, -⟩ := frame
  exact ⟨by rw [same]; exact empty, r, m, ss, by rw [same, done]⟩

/-- A copy between scratchpads, the only one of its engine, completes. -/
theorem exec_qcopyComplete_of_spad {s : State} {q : Fin 16} {c : QCopyOp} (sole : (s.seq q).copies = [c]) (fresh : c.started = false)
    (free : s.quadStopped q = false) (src : c.srcSpace = 1 ∨ c.srcSpace = 3) (dst : c.dstSpace = 1 ∨ c.dstSpace = 3) :
    ∃ t, exec (.qcopyComplete q) s = .next t ∧ (t.seq q).copies = [] ∧ ∃ r m ss, t =
      { s.setSpad (s.spad.writeOut (spadKey c.dstQ c.dst) (s.spad.readOut (spadKey c.srcQ c.src) c.len)) with
        regs := r, engines := m, seqs := ss } := by
  have a := s.qEnd_local (space := c.srcSpace) (by omega) c.srcQ c.src c.len
  have b := s.qEnd_local (space := c.dstSpace) (by omega) c.dstQ c.dst c.len
  rw [if_neg (by omega)] at a b
  change ∃ t, execQcopyComplete q s = _ ∧ _
  simp only [execQcopyComplete, sole, free, fresh, a, b, State.endHeld, State.readEnd, State.writeEnd, Bool.false_eq_true, if_false,
    Bool.or_self, reduceCtorEq]
  exact ⟨_, rfl, closeCopy_of_onlySeq ((OnlySeq.cause q _ _).ite (OnlySeq.refl q _))⟩

theorem qcopyComplete_gives {s : State} {q : Fin 16} {c : QCopyOp} (sole : (s.seq q).copies = [c]) (fresh : c.started = false)
    (free : s.quadStopped q = false) (src : c.srcSpace = 1 ∨ c.srcSpace = 3) (dst : c.dstSpace = 1 ∨ c.dstSpace = 3) :
    Gives (.qcopyComplete q) s fun t =>
      (t.seq q).copies = [] ∧
      (∀ k < c.len, t.spad.byte (spadKey c.dstQ c.dst + k) = s.spad.byte (spadKey c.srcQ c.src + k)) ∧
      (∀ j, j < spadKey c.dstQ c.dst ∨ spadKey c.dstQ c.dst + c.len ≤ j → t.spad.byte j = s.spad.byte j) ∧
      t.mem = s.mem ∧ t.hubsp = s.hubsp ∧ t.out = s.out := by
  obtain ⟨t, ran, empty, r, m, ss, rfl⟩ := exec_qcopyComplete_of_spad sole fresh free src dst
  refine ⟨_, ran, empty, fun k hk => ?_, fun j hj => ?_, rfl, rfl, rfl⟩
  · refine (Mem.writeOut_readOut_byte _ _ _ _ _ _).trans ?_
    rw [if_pos (by omega), Nat.add_sub_cancel_left]
  · refine (Mem.writeOut_readOut_byte _ _ _ _ _ _).trans ?_
    rw [if_neg (by omega)]

/-! ## The statement -/

/-- Settles O21: the oldest vector instruction is done, a copy within bounds is queued, and one between scratchpads moves its bytes. -/
theorem copyEngine : Obligations.CopyEngine := by
  unfold Obligations.CopyEngine
  exact ⟨fun s q id rest => vectorInstructionComplete_gives, fun s q w => qcopy_gives, fun s q c => qcopyComplete_gives⟩

end Sys2Proof.Machine

/-! SUPPORT. Work: the entry or node behind it, and what it shows once it is begun or ended (R201). -/

namespace Sys2Proof.Machine

/-! ## The entry of a ring index, and the iteration of a node -/

theorem Queue.ent_idx {x : Queue} {i : Nat} {e : QEnt} (h : x.ent i = some e) : e.idx = i := by
  simpa using (List.mem_filter.1 (List.mem_of_getLast? h)).2

/-- A change that keeps an entry's index and order changes the entry that stands for its index. -/
theorem Queue.ent_upd {x : Queue} {i : Nat} {e : QEnt} (h : x.ent i = some e) {f : QEnt → QEnt} (idx : ∀ e, (f e).idx = e.idx) :
    (x.upd i f).ent i = some (f e) := by
  have own := Queue.ent_idx h
  have keeps (y : QEnt) : (if y.idx = i ∧ y.order = e.order then f y else y).idx = y.idx := by
    split
    · exact idx y
    · rfl
  have filtered : (x.ents.map fun y => if y.idx = i ∧ y.order = e.order then f y else y).filter (fun y => y.idx == i) =
      (x.ents.filter fun y => y.idx == i).map fun y => if y.idx = i ∧ y.order = e.order then f y else y := by
    rw [List.filter_map]
    refine congrArg (List.map _) (List.filter_congr fun y _ => ?_)
    simp only [Function.comp_apply, keeps]
  unfold Queue.ent at h
  simp only [Queue.upd, Queue.ent, h]
  rw [filtered, List.getLast?_map, h, Option.map_some, if_pos ⟨own, rfl⟩]

/-- A change that keeps nodes and iterations changes the one found for a node and its iteration. -/
theorem GSlot.find_upd {x : GSlot} {k i : Nat} {e : GInst} (h : (x.insts.find? fun y => y.node == k && y.iter == i) = some e)
    {f : GInst → GInst} (name : ∀ e, (f e).node = e.node ∧ (f e).iter = e.iter) :
    ((x.upd k i f).insts.find? fun y => y.node == k && y.iter == i) = some (f e) := by
  have own : e.node = k ∧ e.iter = i := by simpa using List.find?_some h
  have keeps (y : GInst) : (if y.node = k ∧ y.iter = i then f y else y).node = y.node ∧
      (if y.node = k ∧ y.iter = i then f y else y).iter = y.iter := by
    split
    · exact name y
    · exact ⟨rfl, rfl⟩
  rw [GSlot.upd, List.find?_map]
  have same : ((fun y : GInst => y.node == k && y.iter == i) ∘ fun y => if y.node = k ∧ y.iter = i then f y else y) =
      fun y => y.node == k && y.iter == i := by
    funext y
    simp only [Function.comp_apply, keeps]
  rw [same, h, Option.map_some, if_pos own]

section
variable {s : State} {w : Work} {it : Item} {op : Nat}

theorem State.item_of_fresh (h : s.fresh w op = some it) : s.item w = some it ∧ it.phase = .dispatched := by
  unfold State.fresh at h
  split at h
  · cases h
  · split at h
    next found ok => cases h; exact ⟨found, ok.2⟩
    · cases h

end

/-! ## Work begun and ended (R201) -/

/-- What a unit sees of a descriptor's entry. -/
def QEnt.item (e : QEnt) : Item :=
  { opcode := e.opcode, ctxId := e.ctxId, ctx := e.ctx, payload := e.bytes.drop 32, phase := e.phase, since := e.since
    aborted := e.committed.isSome }

/-- What a unit sees of one iteration of a node of the graph in slot g. -/
def State.instItem (s : State) (g : Nat) (x : GInst) : Item :=
  { opcode := nodeOpcode (fieldAt (s.nodeBytes g x.node) 0 1), ctxId := (s.graph g).ctxId, ctx := (s.graph g).ctx
    payload := (s.nodeBytes g x.node).drop 32, phase := x.phase, iter := x.iter, garg := (s.graph g).garg }

section
variable {s : State} {w : Work} {it : Item}

theorem State.item_desc_iff {n i : Nat} : s.item (.desc n i) = some it ↔ ∃ e, (s.queue n).ent i = some e ∧ e.item = it := by
  unfold State.item
  dsimp only
  split
  next none => simp [none]
  next e found => simp [found, QEnt.item]

theorem State.item_node_iff {g k i : Nat} : s.item (.node g k i) = some it ↔
    ∃ x, ((s.graph g).insts.find? fun y => y.node == k && y.iter == i) = some x ∧ s.instItem g x = it := by
  unfold State.item
  dsimp only
  split
  next none => simp [none]
  next x found =>
    have own : x.node = k ∧ x.iter = i := by simpa using List.find?_some found
    simp [found, State.instItem, own]

theorem State.setPhase_item (h : s.item w = some it) (p : WPhase) : (s.setPhase w p).item w = some { it with phase := p } := by
  cases w with
  | desc n i =>
    obtain ⟨e, found, rfl⟩ := State.item_desc_iff.1 h
    refine State.item_desc_iff.2 ⟨{ e with phase := p }, ?_, rfl⟩
    rw [State.setPhase, State.setQueue_same]
    exact Queue.ent_upd found fun _ => rfl
  | node g k i =>
    obtain ⟨x, found, rfl⟩ := State.item_node_iff.1 h
    refine State.item_node_iff.2 ⟨{ x with phase := p }, ?_, ?_⟩
    · rw [State.setPhase, State.setGraph_same]
      exact GSlot.find_upd found fun _ => ⟨rfl, rfl⟩
    · simp only [State.setPhase, State.instItem, State.nodeBytes, State.setGraph_same, GSlot.upd]
      rfl

/-- Work that has not ended ends with the outcome it is given. -/
theorem State.finish_endedAs (h : s.item w = some it) (live : it.phase ≠ .ended) (st : Status) (d : Nat) :
    EndedAs s (s.finish w st d) w st d := by
  cases w with
  | desc n i =>
    obtain ⟨e, found, rfl⟩ := State.item_desc_iff.1 h
    have ended : ((s.finish (.desc n i) st d).queue n).ent i = some { e with phase := .ended, result := some ⟨st, d⟩ } := by
      rw [State.finish, State.setQueue_same, Queue.ent_upd found fun e => by split <;> rfl]
      exact congrArg some (if_neg live)
    exact ⟨⟨_, h, State.item_desc_iff.2 ⟨_, ended, rfl⟩⟩, by simp only [State.resultOf, ended]⟩
  | node g k i =>
    obtain ⟨x, found, rfl⟩ := State.item_node_iff.1 h
    have ended : (((s.finish (.node g k i) st d).graph g).insts.find? fun y => y.node == k && y.iter == i) =
        some { x with phase := .ended, result := some ⟨st, d⟩ } := by
      rw [State.finish, State.setGraph_same, GSlot.find_upd found fun e => by split <;> exact ⟨rfl, rfl⟩]
      exact congrArg some (if_neg live)
    refine ⟨⟨_, h, State.item_node_iff.2 ⟨_, ended, ?_⟩⟩, by simp only [State.resultOf, ended]⟩
    simp only [State.finish, State.instItem, State.nodeBytes, State.setGraph_same, GSlot.upd]
    rfl

theorem State.finish_gives {c : Instr} {op : Nat} (h : s.fresh w op = some it) {st : Status} {d : Nat}
    (ran : exec c s = .next (s.finish w st d)) :
    Gives c s fun t => EndedAs s t w st d ∧ t = { s with queues := t.queues, graphs := t.graphs } := by
  obtain ⟨found, phase⟩ := State.item_of_fresh h
  obtain ⟨q, g, frame⟩ := s.finish_eq w st d
  exact ⟨_, ran, State.finish_endedAs found (by simp [phase]) st d, by rw [frame]⟩

end

end Sys2Proof.Machine

/-! O12: programs accepted, started and ended (R117-R121, R223, Tables 5.1 and 5.3). -/

namespace Sys2Proof.Machine

/-! ## EXEC_PROGRAM (R118, R120) -/

section
variable {s : State} {w : Work} {it : Item}

/-- The launch that an EXEC_PROGRAM makes. -/
def State.launchOf (s : State) (w : Work) (it : Item) : Launch :=
  { id := s.order + 1, work := w, block := launchBlock it.payload, ctxId := it.ctxId, ctx := it.ctx, iter := it.iter, garg := it.garg
    waiting := maskQuads (launchBlock it.payload).qmask }

theorem exec_execProgram_of_illFormed (h : s.fresh w 0x01 = some it) {d : Nat} (bad : launchFormat it.payload = some d) :
    exec (.execProgram w) s = .next (s.finish w .eFormat d) := by
  change execExecProgram w s = _
  simp only [execExecProgram, h, bad]

theorem exec_execProgram_of_wellFormed (h : s.fresh w 0x01 = some it) (ok : launchFormat it.payload = none)
    (still : ∀ q ∈ maskQuads (launchBlock it.payload).qmask, s.dieSwitching (q / 4) = false) :
    exec (.execProgram w) s = .next (if s.launchBounds it.ctx (launchBlock it.payload) then s.finish w .eBounds 0
      else { s with order := s.order + 1, launches := s.launches ++ [s.launchOf w it] }.begin_ w) := by
  change execExecProgram w s = _
  simp only [execExecProgram, h, ok]
  rw [if_neg (by simpa using still)]
  rfl

/-- A launch accepted: it waits on its mask, and the work goes on. -/
theorem execProgram_gives (h : s.fresh w 0x01 = some it) (ok : launchFormat it.payload = none)
    (still : ∀ q ∈ maskQuads (launchBlock it.payload).qmask, s.dieSwitching (q / 4) = false)
    (within : s.launchBounds it.ctx (launchBlock it.payload) = false) : Gives (.execProgram w) s fun t =>
      (∃ l, t.launches = s.launches ++ [l] ∧ l.work = w ∧ l.block = launchBlock it.payload ∧ l.ctxId = it.ctxId ∧
        l.waiting = maskQuads (launchBlock it.payload).qmask ∧ l.running = [] ∧ l.ended = []) ∧
      t.item w = some { it with phase := .busy } ∧
      t = { s with order := s.order + 1, launches := t.launches, queues := t.queues, graphs := t.graphs } := by
  have ran := exec_execProgram_of_wellFormed h ok still
  rw [within] at ran
  have found : { s with order := s.order + 1, launches := s.launches ++ [s.launchOf w it] }.item w = some it :=
    (State.item_of_fresh h).1 ▸ by cases w <;> rfl
  obtain ⟨q, g, frame⟩ := State.setPhase_eq { s with order := s.order + 1, launches := s.launches ++ [s.launchOf w it] } w .busy
  refine ⟨_, ran, ⟨s.launchOf w it, congrArg State.launches frame, rfl, rfl, rfl, rfl, rfl, rfl⟩, State.setPhase_item found .busy, ?_⟩
  change State.setPhase _ w .busy = { s with order := _, launches := (State.setPhase _ w .busy).launches,
                                             queues := (State.setPhase _ w .busy).queues, graphs := (State.setPhase _ w .busy).graphs }
  rw [frame]

end

/-! ## Engines taken and released (Table 12.3) -/

theorem State.engTake_eq (s : State) (e x : Nat) : ∃ r m, s.engTake e x = { s with regs := r, engines := m } := s.setEng_eq e _

theorem State.engRelease_eq (s : State) (e x : Nat) : ∃ r m, s.engRelease e x = { s with regs := r, engines := m } := s.setEng_eq e _

/-! ## PROGRAM_LAUNCH (R117, R119, Table 5.1) -/

/-- The scalar registers a program starts with. -/
def startRegs (q : Nat) (l : Launch) : SMap Nat :=
  [(1, l.block.arg1), (2, l.block.arg2), (3, q), (4, maskRank l.block.qmask q), (5, maskCount l.block.qmask), (6, l.iter),
    (7, l.garg)].foldl (fun m p => SMap.set 0 m p.1 p.2) []

/-- The sequencer of a program as it starts. -/
def startSeq (q : Nat) (l : Launch) (tags : List Tag) (nextId : Nat) : Seq :=
  { launch := some l.id, base := l.block.loadAt, len := l.block.length, pc := l.block.entry, sr := startRegs q l, tags := tags
    nextId := nextId }

/-- A start is counted, engine q is taken and its place shown: registers and engines change. -/
theorem State.countLaunch_eq (s : State) (q x : Nat) :
    ∃ r m, ((s.incr F.QD_SEQ_STAT_launches q).engTake q x).showSeq q = { s with regs := r, engines := m } := by
  obtain ⟨r, m, taken⟩ := (s.incr F.QD_SEQ_STAT_launches q).engTake_eq q x
  obtain ⟨r', shown⟩ := ((s.incr F.QD_SEQ_STAT_launches q).engTake q x).showSeq_eq q
  exact ⟨r', m, shown.trans (by rw [taken]; rfl)⟩

/-- A launch whose image is at hand starts. -/
theorem State.startQuad_eq (s : State) (q : Nat) (l : Launch) (image : List Byte) {poisoned : Bool}
    (clean : (!s.resident q l.block && poisoned) = false) :
    ∃ tags r m ib ls, s.startQuad q l image poisoned =
      { s with regs := r, engines := m, ibuf := ib, launches := ls, seqs := (s.setSeq q (startSeq q l tags (s.seq q).nextId)).seqs } := by
  rw [State.startQuad, if_neg (by rw [← State.resident, clean]; decide)]
  dsimp only
  exact (State.countLaunch_eq _ q l.ctxId).elim fun r h => h.elim fun m h => ⟨_, r, m, _, _, h⟩

theorem startRegs_get (q : Nat) (l : Launch) : SMap.get 0 (startRegs q l) 1 = l.block.arg1 ∧ SMap.get 0 (startRegs q l) 2 = l.block.arg2 ∧
    SMap.get 0 (startRegs q l) 3 = q ∧ SMap.get 0 (startRegs q l) 4 = maskRank l.block.qmask q ∧
    SMap.get 0 (startRegs q l) 5 = maskCount l.block.qmask ∧ ∀ r, 8 ≤ r → SMap.get 0 (startRegs q l) r = 0 := by
  have apart {k j : Nat} (v : Nat) (m : SMap Nat) (h : j ≠ k) : SMap.get 0 (SMap.set 0 m k v) j = SMap.get 0 m j :=
    SMap.get_set_other _ _ _ _ h
  refine ⟨?_, ?_, ?_, ?_, ?_, fun r hr => ?_⟩
  all_goals simp (disch := omega) only [startRegs, List.foldl_cons, List.foldl_nil, apart, SMap.get_set_same, SMap.get_nil]

/-- What a program starts with. -/
theorem State.startQuad_starts (s : State) (q : Nat) (l : Launch) (image : List Byte) {poisoned : Bool}
    (clean : (!s.resident q l.block && poisoned) = false) : ∃ t, s.startQuad q l image poisoned = t ∧
      (t.seq q).launch = some l.id ∧ (t.seq q).pc = l.block.entry ∧ (t.seq q).base = l.block.loadAt ∧
      (t.seq q).len = l.block.length ∧ t.sreg q 0 = 0 ∧ t.sreg q 1 = l.block.arg1 ∧ t.sreg q 2 = l.block.arg2 ∧ t.sreg q 3 = q ∧
      t.sreg q 4 = maskRank l.block.qmask q ∧ t.sreg q 5 = maskCount l.block.qmask ∧ (∀ r, 8 ≤ r → t.sreg q r = 0) ∧
      (t.seq q).loops = [] ∧ (t.seq q).ending = false ∧ (∀ k, k ≠ q → t.seq k = s.seq k) ∧
      t = { s with regs := t.regs, engines := t.engines, seqs := t.seqs, ibuf := t.ibuf, launches := t.launches } := by
  obtain ⟨tags, r, m, ib, ls, started⟩ := s.startQuad_eq q l image clean
  generalize s.startQuad q l image poisoned = t at started
  have own : t.seq q = startSeq q l tags (s.seq q).nextId := by
    rw [started]
    exact s.setSeq_same q (startSeq q l tags (s.seq q).nextId)
  have sreg {k : Nat} (hk : k ≠ 0) : t.sreg q k = SMap.get 0 (startRegs q l) k := by rw [State.sreg, if_neg hk, own, startSeq]
  obtain ⟨arg1, arg2, quad, rank, size, rest⟩ := startRegs_get q l
  refine ⟨t, rfl, ?_, ?_, ?_, ?_, rfl, (sreg (by decide)).trans arg1, (sreg (by decide)).trans arg2, (sreg (by decide)).trans quad,
    (sreg (by decide)).trans rank, (sreg (by decide)).trans size, fun k hk => (sreg (by omega)).trans (rest k hk), ?_, ?_,
    fun k hk => ?_, ?_⟩
  iterate 4 rw [own, startSeq]
  · rw [own, startSeq]
  · rw [own, startSeq]
  · rw [started]
    exact s.setSeq_other (startSeq q l tags (s.seq q).nextId) hk
  · rw [started]

section
variable {s : State} {q : Fin 16} {l : Launch}

/-- An image in another device's memory is asked for. -/
theorem programLaunch_fetches (free : s.quadFree q = true)
    (next : (s.launches.find? fun l => l.waiting.contains q.val && s.gateOpen q l.ctxId) = some l) {node off key : Nat}
    (away : s.resident q l.block = false) (far : s.memEnd l.block.image (16 * l.block.length) = .remote node off key)
    (present : s.excludedNode node = false) (first : (s.seq q).fetch = none) : Gives (.programLaunch q) s fun t =>
      (t.seq q).launch = (s.seq q).launch ∧ (t.seq q).fetch = some (l.id, none) ∧
      (∃ o, t.fab.ops = s.fab.ops ++ [o] ∧ o.origin = .image q l.id ∧ o.code = 1 ∧ o.node = node ∧ o.off = off ∧ o.key = key ∧
        o.len = 16 * l.block.length) ∧ t = { s with seqs := t.seqs, fab := t.fab } := by
  have own := s.setSeq_same q { s.seq q with fetch := some (l.id, none) }
  refine ⟨(s.setSeq q { s.seq q with fetch := some (l.id, none) }).addOp
    { id := 0, origin := .image q l.id, code := 1, node := node, off := off, key := key, len := 16 * l.block.length },
    ?_, ?_, ?_, ⟨_, rfl, rfl, rfl, rfl, rfl, rfl, rfl⟩, rfl⟩
  · change execProgramLaunch q s = _
    simp only [execProgramLaunch, free, next, away, far, first, State.fetchImage, present, Bool.not_true, Bool.false_eq_true, if_false]
  · exact (congrArg Seq.launch own :)
  · exact (congrArg Seq.fetch own :)

/-- A launch whose image is at hand, resident or in mapped memory, starts. -/
theorem exec_programLaunch_of_atHand (free : s.quadFree q = true)
    (next : (s.launches.find? fun l => l.waiting.contains q.val && s.gateOpen q l.ctxId) = some l)
    (image : s.resident q l.block = true ∨ ∃ a, s.memEnd l.block.image (16 * l.block.length) = .here (.mem a) ∧
      s.memHeld a (16 * l.block.length) = false ∧ (s.memRead a (16 * l.block.length)).poisoned = false) :
    ∃ bytes, exec (.programLaunch q) s = .next (s.startQuad q l bytes false) := by
  change ∃ bytes, execProgramLaunch q s = _
  cases held : s.resident q l.block with
  | true => exact ⟨[], by simp only [execProgramLaunch, free, next, held, Bool.not_true, Bool.false_eq_true, if_false, if_true]⟩
  | false =>
    obtain ⟨a, near, ready, clean⟩ := image.resolve_left (by simp [held])
    exact ⟨(s.memRead a (16 * l.block.length)).bytes, by
      simp only [execProgramLaunch, free, next, held, near, ready, clean, Bool.not_true, Bool.false_eq_true, if_false]⟩

end

/-! ## END and PROGRAM_END (R121, Table 5.3) -/

theorem endProgram_gives {s : State} {q : Fin 16} {w : Nat} (at_ : AtOp s q 0x01 w) : Gives (.endProgram q) s fun t =>
    (t.seq q).ending = true ∧ (t.seq q).pc = (s.seq q).pc ∧ (t.seq q).launch = (s.seq q).launch ∧
    (∀ k, k ≠ q.val → t.seq k = s.seq k) ∧ t = { s with regs := t.regs, engines := t.engines, seqs := t.seqs } := by
  obtain ⟨r, m, advanced⟩ := s.engAdvance_eq q 1
  obtain ⟨⟨r', ss, frame⟩, others⟩ :=
    (OnlySeq.setSeq q { s.seq q with ending := true } (s.engAdvance q 1)).trans (OnlySeq.showSeq q q _)
  have own : ((((s.engAdvance q 1).setSeq q { s.seq q with ending := true }).showSeq q).seq q) = { s.seq q with ending := true } :=
    State.setSeq_same _ _ _
  refine ⟨_, congrArg Host.Outcome.next (at_.issue _), ?_, ?_, ?_, fun k hk => (others k hk).trans ?_, ?_⟩
  · rw [own]
  · rw [own]
  · rw [own]
  · rw [advanced]
    rfl
  · rw [frame, advanced]

theorem State.settleLaunch_eq (s : State) (id : Nat) :
    ∃ qs gs ls, s.settleLaunch id = { s with queues := qs, graphs := gs, launches := ls } := by
  unfold State.settleLaunch
  split
  · exact ⟨s.queues, s.graphs, s.launches, rfl⟩
  next l _ =>
    split
    · obtain ⟨qs, gs, ended⟩ := State.finish_eq { s with launches := s.launches.filter fun x => x.id != id } l.work l.outcome.status
        l.outcome.detail
      exact ⟨qs, gs, _, ended⟩
    · exact ⟨s.queues, s.graphs, s.launches, rfl⟩

/-- The end of a launch on a quadrant shows its status; beside that only the launch and its work change. -/
theorem State.endQuad_eq (s : State) (q id : Nat) (st : Status) : ∃ qs gs ls, s.endQuad q id st =
    { s.put F.QD_SEQ_STAT_last_status st.code q with queues := qs, graphs := gs, launches := ls } :=
  State.settleLaunch_eq _ id

theorem Status.code_lt (st : Status) : st.code < 2 ^ 8 := by
  cases st <;> decide

section
variable {s : State} {q : Fin 16}

/-- The context of launch id, 0 where there is none. -/
def State.launchCtx (s : State) (id : Nat) : Nat := match s.launches.find? fun l => l.id == id with | some l => l.ctxId | none => 0

theorem exec_programEnd_of_done {id : Nat} (run : (s.seq q).launch = some id) (ending : (s.seq q).ending = true)
    (done : (s.seq q).issued = []) (free : s.quadHeld q = false) : exec (.programEnd q) s = .next
      ((((s.setSeq q { s.seq q with launch := none, loops := [], ending := false, wait := .none }).engRelease q (s.launchCtx id)).showSeq
        q).endQuad q id (topStatus (s.seq q).causes)) := by
  change execProgramEnd q s = _
  simp only [execProgramEnd, run, ending, done, free, List.isEmpty_nil, Bool.not_true, Bool.or_self, Bool.false_eq_true, if_false]
  rfl

theorem programEnd_gives {id : Nat} (run : (s.seq q).launch = some id) (ending : (s.seq q).ending = true)
    (done : (s.seq q).issued = []) (free : s.quadHeld q = false) : Gives (.programEnd q) s fun t =>
      (t.seq q).launch = none ∧ (t.seq q).ending = false ∧ t.get F.QD_SEQ_STAT_last_status q = (topStatus (s.seq q).causes).code ∧
      (t.seq q).tags = (s.seq q).tags ∧ (∀ k, k ≠ q.val → t.seq k = s.seq k) ∧ t.mem = s.mem ∧ t.spad = s.spad ∧ t.out = s.out := by
  refine ⟨_, exec_programEnd_of_done run ending done free, ?_⟩
  generalize hx : ({ s.seq q with launch := none, loops := [], ending := false, wait := .none } : Seq) = x
  obtain ⟨r, m, released⟩ := (s.setSeq q x).engRelease_eq q (s.launchCtx id)
  obtain ⟨r', shown⟩ := ((s.setSeq q x).engRelease q (s.launchCtx id)).showSeq_eq q
  obtain ⟨qs, gs, ls, ended⟩ := (((s.setSeq q x).engRelease q (s.launchCtx id)).showSeq q).endQuad_eq q id (topStatus (s.seq q).causes)
  have status := (((s.setSeq q x).engRelease q (s.launchCtx id)).showSeq q).put_get_same F.QD_SEQ_STAT_last_status
    (topStatus (s.seq q).causes).code q
  rw [shown, released] at status
  rw [ended, shown, released]
  have own : (s.setSeq q x).seq q = x := s.setSeq_same q x
  subst hx
  exact ⟨(congrArg Seq.launch own :), (congrArg Seq.ending own :), status.trans (Nat.mod_eq_of_lt (Status.code_lt _)),
    (congrArg Seq.tags own :), fun k hk => s.setSeq_other _ hk, rfl, rfl, rfl⟩

theorem exec_programEnd_of_notDone (h : (s.seq q).issued ≠ [] ∨ (s.seq q).ending = false) : exec (.programEnd q) s = .next s := by
  change execProgramEnd q s = _
  unfold execProgramEnd
  dsimp only
  split
  · rfl
  · rw [if_pos (by obtain h | h := h <;> simp [h])]

end

/-! ## The statement -/

/-- Settles O12: a launch is accepted, refused or ended at EXEC_PROGRAM, starts with the registers of Table 5.1 once its image is at
hand, and ends once what it issued is complete. -/
theorem programRuns : Obligations.ProgramRuns := by
  unfold Obligations.ProgramRuns
  refine ⟨fun s w it h => ⟨execProgram_gives h, fun d bad => ?_, fun ok still out => ?_⟩, fun s q l free next => ⟨?_, fun image => ?_⟩,
    fun s q w => endProgram_gives, fun s q id => programEnd_gives, fun s q => exec_programEnd_of_notDone⟩
  · exact State.finish_gives h (exec_execProgram_of_illFormed h bad)
  · exact State.finish_gives h ((exec_execProgram_of_wellFormed h ok still).trans (by rw [if_pos out]))
  · exact fun node off key => programLaunch_fetches free next
  · obtain ⟨bytes, ran⟩ := exec_programLaunch_of_atHand free next image
    obtain ⟨t, started, starts⟩ := s.startQuad_starts q l bytes (poisoned := false) (by simp)
    exact ⟨t, started ▸ ran, starts⟩

end Sys2Proof.Machine

/-! SUPPORT. The address mapping of Table 6.4 (R145, R147, R151): where each kind of region puts a burst, that a place names one burst of
the region, and that it lies in the region's line blocks beside the line's parity member. -/

namespace Sys2Proof.Machine

/-! ## The members of a parity line -/

/-- The member of a parity line that holds data d: the line's members in order, but for the parity member p (R151). -/
def dataMember (d p : Nat) : Nat := if d < p then d else d + 1

theorem dataMember_ne (d p : Nat) : dataMember d p ≠ p := by
  unfold dataMember
  split <;> omega

theorem dataMember_lt {d : Nat} (h : d < 15) (p : Nat) : dataMember d p < 16 := by
  unfold dataMember
  split <;> omega

theorem dataMember_inj {d e p : Nat} (h : dataMember d p = dataMember e p) : d = e := by
  unfold dataMember at h
  split at h <;> split at h <;> omega

/-- Data members with one parity member, in two groups: the channel tells the group and the data. -/
theorem dataChannel_inj {k l p : Nat}
    (h : 16 * (k / 15) + dataMember (k % 15) p = 16 * (l / 15) + dataMember (l % 15) p) : k = l := by
  have hk := dataMember_lt (Nat.mod_lt k (by decide : 0 < 15)) p
  have hl := dataMember_lt (Nat.mod_lt l (by decide : 0 < 15)) p
  have hd := dataMember_inj (by omega : dataMember (k % 15) p = dataMember (l % 15) p)
  omega

theorem dataChannel_lt {k : Nat} (h : k < 30) (p : Nat) : 16 * (k / 15) + dataMember (k % 15) p < 32 := by
  have hk := dataMember_lt (Nat.mod_lt k (by decide : 0 < 15)) p
  omega

theorem dataChannel_mod_ne (k b : Nat) : (16 * (k / 15) + dataMember (k % 15) (b % 16)) % 16 ≠ b % 16 := by
  have hk := dataMember_lt (Nat.mod_lt k (by decide : 0 < 15)) (b % 16)
  have hp := dataMember_ne (k % 15) (b % 16)
  omega

/-! ## Table 6.4, a row at a time -/

section
variable {m : MapEnt} (a : Nat)

/-- The index within the region of the burst that an address lies in (R151's n). -/
def MapEnt.burstNo (m : MapEnt) (a : Nat) : Nat := (a - m.base * 2 ^ 21) / 2048

/-- The byte within that burst (R151's y). -/
def MapEnt.burstByte (m : MapEnt) (a : Nat) : Nat := (a - m.base * 2 ^ 21) % 2048

theorem MapEnt.locate_local (hp : m.parity = false) (hs : m.spread = false) : m.locate a =
    ⟨m.stack, m.burstNo a % 32, 32 * m.mediaFirst + m.burstNo a / 32, m.burstByte a, false⟩ := by
  simp only [MapEnt.locate, hp, hs, Bool.not_false, if_true]
  rfl

theorem MapEnt.locate_spread (hp : m.parity = false) (hs : m.spread = true) : m.locate a =
    ⟨m.burstNo a % 16, m.burstNo a / 16 % 32, 32 * m.mediaFirst + m.burstNo a / 512, m.burstByte a, false⟩ := by
  simp only [MapEnt.locate, hp, hs, Bool.not_true, Bool.not_false, Bool.false_eq_true, if_true, if_false]
  rfl

theorem MapEnt.locate_localParity (hp : m.parity = true) (hs : m.spread = false) : m.locate a =
    ⟨m.stack, 16 * (m.burstNo a % 30 / 15) + dataMember (m.burstNo a % 30 % 15) ((32 * m.mediaFirst + m.burstNo a / 30) % 16),
      32 * m.mediaFirst + m.burstNo a / 30, m.burstByte a, true⟩ := by
  simp only [MapEnt.locate, hp, hs, Bool.not_true, Bool.not_false, Bool.false_eq_true, if_true, if_false]
  rfl

theorem MapEnt.locate_spreadParity (hp : m.parity = true) (hs : m.spread = true) : m.locate a =
    ⟨m.burstNo a % 480 % 16,
      16 * (m.burstNo a % 480 / 16 / 15) + dataMember (m.burstNo a % 480 / 16 % 15) ((32 * m.mediaFirst + m.burstNo a / 480) % 16),
      32 * m.mediaFirst + m.burstNo a / 480, m.burstByte a, true⟩ := by
  simp only [MapEnt.locate, hp, hs, Bool.not_true, Bool.false_eq_true, if_false]
  rfl

theorem MapEnt.locate_byte (m : MapEnt) : (m.locate a).byte = m.burstByte a := by
  cases hp : m.parity <;> cases hs : m.spread
  · rw [locate_local a hp hs]
  · rw [locate_spread a hp hs]
  · rw [locate_localParity a hp hs]
  · rw [locate_spreadParity a hp hs]

end

/-! ## One place, one burst -/

section
variable {m : MapEnt} {a b : Nat}

theorem MapEnt.addr_of_covers (h : m.covers a = true) : a = m.base * 2 ^ 21 + 2048 * m.burstNo a + m.burstByte a := by
  simp only [MapEnt.covers, Bool.and_eq_true, decide_eq_true_eq] at h
  simp only [burstNo, burstByte]
  omega

theorem MapEnt.burstNo_lt (h : m.covers a = true) : m.burstNo a < 1024 * m.size := by
  simp only [MapEnt.covers, Bool.and_eq_true, decide_eq_true_eq] at h
  simp only [burstNo]
  omega

/-- Stack, logical channel and burst index together tell the burst of the region. -/
theorem MapEnt.burstNo_inj (stack : (m.locate a).stack = (m.locate b).stack) (chan : (m.locate a).chan = (m.locate b).chan)
    (burst : (m.locate a).burst = (m.locate b).burst) : m.burstNo a = m.burstNo b := by
  cases hp : m.parity <;> cases hs : m.spread
  · simp only [locate_local _ hp hs] at chan burst
    omega
  · simp only [locate_spread _ hp hs] at stack chan burst
    omega
  · simp only [locate_localParity _ hp hs] at chan burst
    rw [burst] at chan
    have line := dataChannel_inj chan
    omega
  · simp only [locate_spreadParity _ hp hs] at stack chan burst
    rw [burst] at chan
    have line := dataChannel_inj chan
    omega

theorem Loc.key_inj {l k : Loc} (hl : l.chan < 32 ∧ l.burst < burstsPerChannel ∧ l.byte < 2048)
    (hk : k.chan < 32 ∧ k.burst < burstsPerChannel ∧ k.byte < 2048) (h : l.key = k.key) :
    l.stack = k.stack ∧ l.chan = k.chan ∧ l.burst = k.burst ∧ l.byte = k.byte := by
  simp only [Loc.key, burstsPerChannel] at hl hk h
  omega

/-! ## The media that a region takes -/

theorem MapEnt.locate_line (h : m.covers a = true) (unit : m.size % m.unit = 0) :
    m.mediaFirst ≤ (m.locate a).burst / 32 ∧ (m.locate a).burst / 32 < m.mediaFirst + m.blocks := by
  have inside := burstNo_lt h
  cases hp : m.parity <;> cases hs : m.spread <;>
    simp only [MapEnt.unit, MapEnt.blocks, hp, hs, if_true, if_false, Bool.false_eq_true] at unit ⊢
  · simp only [locate_local _ hp hs]
    omega
  · simp only [locate_spread _ hp hs]
    omega
  · simp only [locate_localParity _ hp hs]
    omega
  · simp only [locate_spreadParity _ hp hs]
    omega

theorem MapEnt.locate_stack_lt (a : Nat) (stack : m.stack < 16) : (m.locate a).stack < 16 := by
  cases hp : m.parity <;> cases hs : m.spread
  · rwa [locate_local _ hp hs]
  · rw [locate_spread _ hp hs]
    exact Nat.mod_lt _ (by decide)
  · rwa [locate_localParity _ hp hs]
  · rw [locate_spreadParity _ hp hs]
    exact Nat.mod_lt _ (by decide)

theorem MapEnt.locate_chan_lt (m : MapEnt) (a : Nat) : (m.locate a).chan < 32 := by
  cases hp : m.parity <;> cases hs : m.spread
  · rw [locate_local _ hp hs]
    exact Nat.mod_lt _ (by decide)
  · rw [locate_spread _ hp hs]
    exact Nat.mod_lt _ (by decide)
  · rw [locate_localParity _ hp hs]
    exact dataChannel_lt (Nat.mod_lt _ (by decide)) _
  · rw [locate_spreadParity _ hp hs]
    exact dataChannel_lt (by omega) _

theorem MapEnt.locate_byte_lt (m : MapEnt) (a : Nat) : (m.locate a).byte < 2048 := by
  rw [locate_byte]
  exact Nat.mod_lt _ (by decide)

theorem MapEnt.locate_not_parityMember (hp : m.parity = true) (a : Nat) : (m.locate a).chan % 16 ≠ (m.locate a).burst % 16 := by
  cases hs : m.spread
  · rw [locate_localParity _ hp hs]
    exact dataChannel_mod_ne _ _
  · rw [locate_spreadParity _ hp hs]
    exact dataChannel_mod_ne _ _

end

/-! ## The statement -/

/-- Settles O28: a media key tells its stack, channel, burst and byte, and these tell the address; the bounds go by the region's kind. -/
theorem addressMapping : Obligations.AddressMapping := by
  unfold Obligations.AddressMapping
  intro m stack unit media
  have inMedia {a : Nat} (h : m.covers a = true) :
      (m.locate a).chan < 32 ∧ (m.locate a).burst < burstsPerChannel ∧ (m.locate a).byte < 2048 := by
    have line := (MapEnt.locate_line h unit).2
    exact ⟨m.locate_chan_lt a, by unfold burstsPerChannel; omega, m.locate_byte_lt a⟩
  refine ⟨fun a b ha hb same => ?_, fun a ha => ?_⟩
  · obtain ⟨hs, hc, hb', hy⟩ := Loc.key_inj (inMedia ha) (inMedia hb) same
    rw [m.locate_byte, m.locate_byte] at hy
    rw [MapEnt.addr_of_covers ha, MapEnt.addr_of_covers hb, MapEnt.burstNo_inj hs hc hb', hy]
  · obtain ⟨first, past⟩ := MapEnt.locate_line ha unit
    exact ⟨MapEnt.locate_stack_lt a stack, m.locate_chan_lt a, m.locate_byte_lt a, first, past,
      fun hp => MapEnt.locate_not_parityMember hp a⟩

end Sys2Proof.Machine

/-! SUPPORT. Accesses to local memory that lie within one burst (R151, R153): one piece, read and stored at the place the map gives. -/

namespace Sys2Proof.Machine

/-! ## The bytes of a byte memory -/

@[simp] theorem Mem.length_read (m : Mem) (a n : Nat) : (m.read a n).length = n := length_getRun 0 m.bytes n a

theorem Mem.getD_read (m : Mem) {n k : Nat} (a : Nat) (h : k < n) : (m.read a n).getD k 0 = m.byte (a + k) := getD_getRun 0 m.bytes a h

theorem Mem.byte_write_at (m : Mem) (a : Nat) {bs : List Byte} {k : Nat} (h : k < bs.length) :
    (m.write a bs).byte (a + k) = bs.getD k 0 := by
  rw [m.byte_write, if_pos (by omega), Nat.add_sub_cancel_left]

theorem Mem.byte_write_outside (m : Mem) {a k : Nat} {bs : List Byte} (h : k < a ∨ a + bs.length ≤ k) :
    (m.write a bs).byte k = m.byte k := by
  rw [m.byte_write, if_neg (by omega)]

theorem Mem.read_write (m : Mem) (a : Nat) (bs : List Byte) : (m.write a bs).read a bs.length = bs := by
  refine List.ext_getElem (by simp) fun k hk h => ?_
  rw [← List.getD_eq_getElem _ 0 hk, ← List.getD_eq_getElem _ 0 h]
  exact ((m.write a bs).getD_read a h).trans (m.byte_write_at a h)

/-! ## One piece -/

section
variable (s : State) {a n : Nat} {bs : List Byte} {l : Loc}

theorem pieces_of_within (h0 : 0 < n) (h : a % 2048 + n ≤ 2048) : pieces a n = [(a, n)] := by
  have whole : burstPart a n = n := by
    unfold burstPart
    omega
  simp [pieces, burstsOf, whole, Nat.ne_of_gt h0]

theorem State.memRead_of_within (h0 : 0 < n) (h : a % 2048 + n ≤ 2048) : s.memRead a n = s.readPiece a n := by
  simp [State.memRead, pieces_of_within h0 h]

theorem State.memWrite_of_within (h0 : bs ≠ []) (h : a % 2048 + bs.length ≤ 2048) : s.memWrite a bs = State.writePiece (s, .ok) a bs := by
  simp [State.memWrite, pieces_of_within (List.length_pos_iff.2 h0) h, State.writePieces]

variable {s}

theorem State.readPiece_bytes (hl : s.locate a = some l) : (s.readPiece a n).bytes = s.mem.dram.read l.key n := by
  simp only [State.readPiece, hl]

/-- A write that the media can store is stored at its place, and dirties what a reflection binding covers. -/
theorem State.memWrite_eq_store (h0 : bs ≠ []) (h : a % 2048 + bs.length ≤ 2048) (hl : s.locate a = some l)
    (hw : s.locUnwritable l = false) : (s.memWrite a bs).1 = (s.storeMedia l.key bs).dirtyAt a := by
  rw [s.memWrite_of_within h0 h]
  simp [State.writePiece, hl, hw]

/-- A write to a place that cannot be stored changes nothing (R166, R176). -/
theorem State.memWrite_eq_self (h0 : bs ≠ []) (h : a % 2048 + bs.length ≤ 2048) (hl : s.locate a = some l)
    (hw : s.locUnwritable l = true) : (s.memWrite a bs).1 = s := by
  rw [s.memWrite_of_within h0 h]
  simp [State.writePiece, hl, hw]

@[simp] theorem State.dirtyAt_mem (s : State) (a : Nat) : (s.dirtyAt a).mem = s.mem := by
  obtain ⟨r, hr⟩ := s.dirtyAt_eq a
  rw [hr]

@[simp] theorem State.storeMedia_dram (s : State) (k : Nat) (bs : List Byte) : (s.storeMedia k bs).mem.dram = s.mem.dram.write k bs := rfl

theorem State.memWrite_dram (h0 : bs ≠ []) (h : a % 2048 + bs.length ≤ 2048) (hl : s.locate a = some l)
    (hw : s.locUnwritable l = false) : (s.memWrite a bs).1.mem.dram = s.mem.dram.write l.key bs := by
  rw [State.memWrite_eq_store h0 h hl hw, State.dirtyAt_mem, State.storeMedia_dram]

/-- Stored bytes move no address: the map is as it was. -/
@[simp] theorem State.memWrite_locate (s : State) (a b : Nat) (bs : List Byte) : (s.memWrite a bs).1.locate b = s.locate b := by
  obtain ⟨m, r, frame⟩ := s.memWrite_eq a bs
  rw [frame]
  rfl

theorem State.memWrite_frame (s : State) (a : Nat) (bs : List Byte) :
    (s.memWrite a bs).1 = { s with mem := (s.memWrite a bs).1.mem, refl := (s.memWrite a bs).1.refl } := by
  obtain ⟨m, r, frame⟩ := s.memWrite_eq a bs
  rw [frame]

end

/-! ## The statement -/

/-- Settles O29: the write stores its bytes at the place the map gives, and the read takes them from there. -/
theorem memoryWriteThenRead : Obligations.MemoryWriteThenRead := by
  unfold Obligations.MemoryWriteThenRead
  intro s a bs l h0 h hl hw
  have stored := State.memWrite_dram h0 h hl hw
  refine ⟨?_, fun k hk => stored ▸ s.mem.dram.byte_write_outside hk, s.memWrite_frame a bs⟩
  rw [State.memRead_of_within _ (List.length_pos_iff.2 h0) h, State.readPiece_bytes ((s.memWrite_locate a a bs).trans hl), stored,
    Mem.read_write]

end Sys2Proof.Machine

/-! SUPPORT. The controllers and the aperture (R149, R153, R156, R190): zero fills, MEM_ACCESS without findings, and BAR4_ACCESS. -/

namespace Sys2Proof

theorem SMap.get_drop {α : Type} (d : α) (m : SMap α) (p : Nat → Bool) (k : Nat) :
    SMap.get d (SMap.drop m p) k = if p k then d else SMap.get d m k := by
  induction m with
  | nil => simp [SMap.drop]
  | cons e m ih =>
    obtain ⟨k', v⟩ := e
    simp only [SMap.drop] at ih
    by_cases hk : k = k'
    · subst hk
      cases hp : p k <;> simp_all [SMap.drop, SMap.get]
    · cases hp : p k' <;> simp [SMap.drop, SMap.get, hp, hk, ih]

end Sys2Proof

namespace Sys2Proof.Machine

/-! ## Zero fills (R149) -/

section
variable {s : State} {i : Fin 4096}

/-- A fill zeroes the bytes of the region's bursts and leaves every other. -/
theorem State.fillMedia_byte (s : State) (m : MapEnt) (k : Nat) :
    (s.fillMedia m).mem.dram.byte k = if m.hasBurst (k / 2048) then 0 else s.mem.dram.byte k :=
  SMap.get_drop 0 s.mem.dram.bytes (fun k => m.hasBurst (k / 2048)) k

theorem State.fillMedia_bad (s : State) (m : MapEnt) (k : Nat) :
    (s.fillMedia m).mem.dram.bad k = if m.hasBurst (k / 32) then false else s.mem.dram.bad k :=
  SMap.get_drop false s.mem.dram.poison (fun k => m.hasBurst (k / 32)) k

theorem exec_entryZeroFillDone (h : i.val ∈ s.mem.filling) : exec (.entryZeroFillDone i) s = .next
    { s.fillMedia (bankEnt (s.nextBank 0) i) with
      mem := { (s.fillMedia (bankEnt (s.nextBank 0) i)).mem with filling := s.mem.filling.erase i } } := by
  change execEntryZeroFillDone i s = _
  simp only [execEntryZeroFillDone, List.contains_iff_mem.2 h, Bool.not_true, Bool.false_eq_true, if_false]
  rfl

theorem entryZeroFillDone_gives (h : i.val ∈ s.mem.filling) : Gives (.entryZeroFillDone i) s fun t =>
    (∀ k, (bankEnt (s.nextBank 0) i).hasBurst (k / 2048) = true → t.mem.dram.byte k = 0) ∧
    (∀ k, (bankEnt (s.nextBank 0) i).hasBurst (k / 2048) = false → t.mem.dram.byte k = s.mem.dram.byte k) ∧
    (∀ k, (bankEnt (s.nextBank 0) i).hasBurst (k / 32) = true → t.mem.dram.bad k = false) ∧ t.mem.filling = s.mem.filling.erase i ∧
    t = { s with mem := t.mem } := by
  refine ⟨_, exec_entryZeroFillDone h, fun k hk => ?_, fun k hk => ?_, fun k hk => ?_, rfl, rfl⟩
  · exact (s.fillMedia_byte _ k).trans (if_pos hk)
  · exact (s.fillMedia_byte _ k).trans (if_neg (by simp [hk]))
  · exact (s.fillMedia_bad _ k).trans (if_pos hk)

end

/-! ## MEM_ACCESS without findings of the check code (R153, R156) -/

@[simp] theorem State.burstFinds_nil (s : State) (i chan burst : Nat) : s.burstFinds i chan burst [] = s := rfl

/-- The channel that serves the place, if one does, stands in no retrain slice (R180). -/
def State.outOfSlice (s : State) (l : Loc) : Prop := ∀ i, s.servingChan l.stack l.chan l.burst = some i → s.inSlice i = false

section
variable {s : State} {addr : BitVec 48} {n : Nat} {d : List Byte} {l : Loc}

theorem exec_memAccess_read (h0 : 0 < n) (h : addr.toNat % 2048 + n ≤ 2048) (hl : s.locate addr.toNat = some l)
    (free : s.outOfSlice l) (held : s.memHeld addr.toNat n = false) : exec (.memAccess addr (.read n) []) s = .next
      (s.emit (.accessEnd (if (s.memRead addr.toNat n).poisoned then .ePoison else .ok) (s.memRead addr.toNat n).bytes
        (s.memRead addr.toNat n).poisoned)) := by
  change execMemAccess addr (.read n) [] s = _
  have within : ¬(n = 0 ∨ 2048 < addr.toNat % 2048 + n) := by omega
  simp only [execMemAccess, within, if_false, hl, held, Bool.false_or]
  cases hc : s.servingChan l.stack l.chan l.burst with
  | none => simp [findsIn]
  | some i => simp [free i hc, findsIn]

/-- A write stores what the media can store, may hold the parity line, and reports its end. -/
theorem exec_memAccess_write (h0 : d ≠ []) (h : addr.toNat % 2048 + d.length ≤ 2048) (hl : s.locate addr.toNat = some l)
    (free : s.outOfSlice l) (held : s.memHeld addr.toNat d.length = false) : ∃ st, exec (.memAccess addr (.write d) []) s = .next
      ((if d.length = 2048 ∧ l.parity then (s.memWrite addr.toNat d).1.holdParity l else (s.memWrite addr.toNat d).1).emit
        (.accessEnd st [] false)) := by
  change ∃ st, execMemAccess addr (.write d) [] s = _
  have within : ¬(d.length = 0 ∨ 2048 < addr.toNat % 2048 + d.length) := by
    have := List.length_pos_iff.2 h0
    omega
  simp only [execMemAccess, within, if_false, hl, held, Bool.false_or]
  by_cases whole : d.length = 2048
  · refine ⟨(s.memWrite addr.toNat d).2, ?_⟩
    cases hc : s.servingChan l.stack l.chan l.burst with
    | none => simp only [whole, Bool.false_eq_true, if_false, if_true, true_and]
    | some i => simp only [free i hc, whole, Bool.false_eq_true, if_false, if_true, true_and]
  · cases hc : s.servingChan l.stack l.chan l.burst with
    | none => exact ⟨_, by simp only [whole, Bool.false_eq_true, if_false, false_and]; rfl⟩
    | some i => exact ⟨_, by simp only [free i hc, whole, Bool.false_eq_true, if_false, false_and, State.burstFinds_nil, ite_self]; rfl⟩

theorem exec_memAccess_unmapped (h0 : 0 < n) (h : addr.toNat % 2048 + n ≤ 2048) (hl : s.locate addr.toNat = none) :
    exec (.memAccess addr (.read n) []) s = .next (s.emit (.accessEnd .eBounds [] false)) := by
  change execMemAccess addr (.read n) [] s = _
  have within : ¬(n = 0 ∨ 2048 < addr.toNat % 2048 + n) := by omega
  simp only [execMemAccess, within, if_false, hl]

theorem exec_memAccess_illFormed (h : n = 0 ∨ 2048 < addr.toNat % 2048 + n) :
    exec (.memAccess addr (.read n) []) s = .fault .illFormed := by
  change execMemAccess addr (.read n) [] s = _
  simp only [execMemAccess, h, if_true]

theorem memAccess_read_gives (h0 : 0 < n) (h : addr.toNat % 2048 + n ≤ 2048) (hl : s.locate addr.toNat = some l)
    (free : s.outOfSlice l) (held : s.memHeld addr.toNat n = false) : Gives (.memAccess addr (.read n) []) s fun t =>
      t.out = .accessEnd (if (s.memRead addr.toNat n).poisoned then .ePoison else .ok) (s.memRead addr.toNat n).bytes
        (s.memRead addr.toNat n).poisoned :: s.out ∧ t = { s with out := t.out } :=
  ⟨_, exec_memAccess_read h0 h hl free held, rfl, rfl⟩

/-- Of the stacks, a write changes what storing its bytes changes, and the held lines. -/
theorem memAccess_write_gives (h0 : d ≠ []) (h : addr.toNat % 2048 + d.length ≤ 2048) (hl : s.locate addr.toNat = some l)
    (free : s.outOfSlice l) (held : s.memHeld addr.toNat d.length = false) : Gives (.memAccess addr (.write d) []) s fun t =>
      t.mem.dram = (s.memWrite addr.toNat d).1.mem.dram ∧ t.mem.holes = (s.memWrite addr.toNat d).1.mem.holes ∧
      t = { s with mem := t.mem, refl := t.refl, out := t.out } := by
  obtain ⟨st, ran⟩ := exec_memAccess_write h0 h hl free held
  obtain ⟨m, r, frame⟩ := s.memWrite_eq addr.toNat d
  refine ⟨_, ran, ?_⟩
  rw [frame]
  split
  · exact ⟨rfl, rfl, rfl⟩
  · exact ⟨rfl, rfl, rfl⟩

end

/-! ## BAR4_ACCESS (R190) -/

section
variable {s : State} {off : BitVec 48} {n : Nat} {d : List Byte}

/-- The local address that an offset into the aperture stands for. -/
def State.bar4Addr (s : State) (off : BitVec 48) : Nat := s.get F.HUB_BAR4_BASE_base 0 * 2 ^ 30 + off.toNat

theorem State.bar4Refused_eq (s : State) (off addr dir : Nat) :
    ∃ l r h, s.bar4Refused off addr dir = { s with log := l, regs := r, host := h } := by
  obtain ⟨l, r, frame⟩ := s.logEvent_eq 0x0016 0 [off, addr, dir, s.host.refusedSuppressed]
  cases last : s.host.refusedLast with
  | none =>
    simp only [State.bar4Refused, last, frame, Bool.false_eq_true, if_false]
    exact ⟨l, r, _, rfl⟩
  | some t =>
    simp only [State.bar4Refused, last, frame]
    split
    · exact ⟨s.log, s.regs, _, rfl⟩
    · exact ⟨l, r, _, rfl⟩

theorem exec_bar4Access_read (up : s.host.up = true) (hub : s.hubUp = true) : exec (.bar4Access off (.read n)) s = .next
    (if !s.mapped (s.bar4Addr off) n then (s.bar4Refused off.toNat (s.bar4Addr off) 0).emit .unsupportedRequest
      else if s.memHeld (s.bar4Addr off) n then s
      else s.emit (.readData 0 (if (s.memRead (s.bar4Addr off) n).poisoned then 2 ^ (8 * n) - 1
        else leNat (s.memRead (s.bar4Addr off) n).bytes) (s.memRead (s.bar4Addr off) n).poisoned)) := by
  change execBar4Access off (.read n) s = _
  simp only [execBar4Access, up, hub, Bool.not_true, Bool.or_self, Bool.false_eq_true, if_false]
  rfl

theorem exec_bar4Access_write (up : s.host.up = true) (hub : s.hubUp = true) : exec (.bar4Access off (.write d)) s = .next
    (if !s.mapped (s.bar4Addr off) d.length then s.bar4Refused off.toNat (s.bar4Addr off) 1
      else if s.memHeld (s.bar4Addr off) d.length then s else (s.memWrite (s.bar4Addr off) d).1) := by
  change execBar4Access off (.write d) s = _
  simp only [execBar4Access, up, hub, Bool.not_true, Bool.or_self, Bool.false_eq_true, if_false]
  rfl

theorem bar4Access_read_gives (up : s.host.up = true) (hub : s.hubUp = true) (mapped : s.mapped (s.bar4Addr off) n = true)
    (held : s.memHeld (s.bar4Addr off) n = false) : Gives (.bar4Access off (.read n)) s fun t =>
      t.out = .readData 0 (if (s.memRead (s.bar4Addr off) n).poisoned then 2 ^ (8 * n) - 1
        else leNat (s.memRead (s.bar4Addr off) n).bytes) (s.memRead (s.bar4Addr off) n).poisoned :: s.out ∧
      t = { s with out := t.out } := by
  have ran := exec_bar4Access_read (off := off) (n := n) up hub
  rw [mapped, held] at ran
  exact ⟨_, ran, rfl, rfl⟩

theorem bar4Access_read_refused (up : s.host.up = true) (hub : s.hubUp = true) (unmapped : s.mapped (s.bar4Addr off) n = false) :
    Gives (.bar4Access off (.read n)) s fun t =>
      t.out.head? = some .unsupportedRequest ∧ t = { s with out := t.out, log := t.log, regs := t.regs, host := t.host } := by
  have ran := exec_bar4Access_read (off := off) (n := n) up hub
  obtain ⟨l, r, h, frame⟩ := s.bar4Refused_eq off.toNat (s.bar4Addr off) 0
  rw [unmapped, frame] at ran
  exact ⟨_, ran, rfl, rfl⟩

theorem exec_bar4Access_write_mapped (up : s.host.up = true) (hub : s.hubUp = true) (mapped : s.mapped (s.bar4Addr off) d.length = true)
    (held : s.memHeld (s.bar4Addr off) d.length = false) :
    exec (.bar4Access off (.write d)) s = .next (s.memWrite (s.bar4Addr off) d).1 := by
  have ran := exec_bar4Access_write (off := off) (d := d) up hub
  rwa [mapped, held] at ran

end

/-! ## The statement -/

/-- Settles O30: a fill drops the region's bursts from the store, an access at a controller or through the aperture is one read or write
of memory, and what is unmapped or no access of one burst is refused before that. -/
theorem memoryAccesses : Obligations.MemoryAccesses := by
  unfold Obligations.MemoryAccesses
  refine ⟨fun s i h => entryZeroFillDone_gives h, fun s addr l hl serving => ?_,
    fun s addr n h0 h hl => ⟨_, exec_memAccess_unmapped h0 h hl, rfl, rfl⟩, fun s addr n h => exec_memAccess_illFormed h,
    fun s off up hub => ⟨fun n => bar4Access_read_gives up hub, fun n => bar4Access_read_refused up hub,
      fun d => exec_bar4Access_write_mapped up hub⟩⟩
  have free : s.outOfSlice l := by
    intro i hi
    obtain unserved | ⟨j, hj, out⟩ := serving
    · rw [unserved] at hi
      cases hi
    · rw [hj] at hi
      cases hi
      exact out
  refine ⟨fun n h0 h held => memAccess_read_gives h0 h hl free held, fun d h0 h held hw => ?_⟩
  obtain ⟨t, ran, dram, -, frame⟩ := memAccess_write_gives h0 h hl free held
  rw [State.memWrite_dram h0 h hl hw] at dram
  exact ⟨t, ran, fun k hk => dram ▸ s.mem.dram.byte_write_at l.key hk, fun k hk => dram ▸ s.mem.dram.byte_write_outside hk, frame⟩

end Sys2Proof.Machine

/-! SUPPORT. Poisoned sectors (R153, R160): which sectors a store clears of their poison, and what a read of a poisoned one delivers. -/

namespace Sys2Proof.Machine

/-! ## Poison beside a store -/

theorem Mem.bad_mark (m : Mem) (k q : Nat) (b : Bool) : (m.mark k b).bad q = if q = k then b else m.bad q :=
  SMap.get_set false m.poison k q b

theorem Mem.bad_clearSectors (n : Nat) : ∀ (m : Mem) (k q : Nat),
    (m.clearSectors k n).bad q = if k ≤ q ∧ q < k + n then false else m.bad q := by
  induction n with
  | zero => exact fun m k q => (if_neg (by omega)).symm
  | succ n ih =>
    intro m k q
    rw [Mem.clearSectors, ih, Mem.bad_mark]
    by_cases first : q = k
    · subst first
      simp
    · rw [if_neg first]
      exact if_congr (by omega) rfl rfl

/-- A store clears the poison of the sectors it covers whole. -/
theorem Mem.bad_write (m : Mem) (a q : Nat) (bs : List Byte) :
    (m.write a bs).bad q = if (a + 63) / 64 ≤ q ∧ q < (a + bs.length) / 64 then false else m.bad q :=
  (Mem.bad_clearSectors _ _ _ q).trans (if_congr (by omega) rfl rfl)

/-- Whether a sector lies in one of the intervals. -/
def inHoles (holes : List (Nat × Nat)) (q : Nat) : Bool := holes.any fun h => decide (h.1 ≤ q) && decide (q < h.2)

/-- What is cut out of one interval is what lies below and what lies above the cut. -/
theorem inHoles_cut_one (h : Nat × Nat) {lo hi : Nat} (lt : lo < hi) (q : Nat) :
    inHoles ([(h.1, min h.2 lo), (max h.1 hi, h.2)].filter fun h => decide (h.1 < h.2)) q = true ↔
      (h.1 ≤ q ∧ q < h.2) ∧ ¬(lo ≤ q ∧ q < hi) := by
  simp only [inHoles, List.any_filter, List.any_cons, List.any_nil, Bool.or_false, Bool.or_eq_true, Bool.and_eq_true, decide_eq_true_eq]
  omega

theorem inHoles_cutHoles (holes : List (Nat × Nat)) (lo hi q : Nat) :
    inHoles (cutHoles holes lo hi) q = if lo ≤ q ∧ q < hi then false else inHoles holes q := by
  unfold cutHoles
  split
  next empty => rw [if_neg (by omega)]
  next cut =>
    have one (h : Nat × Nat) := inHoles_cut_one h (Nat.lt_of_not_le cut) q
    simp only [inHoles, List.any_filter] at one
    simp only [inHoles, List.any_filter, List.any_flatMap]
    rw [Bool.eq_iff_iff, List.any_eq_true]
    simp only [one]
    split <;> simp_all

theorem State.storeMedia_bad (s : State) (k q : Nat) (bs : List Byte) :
    (s.storeMedia k bs).mem.bad q = if (k + 63) / 64 ≤ q ∧ q < (k + bs.length) / 64 then false else s.mem.bad q := by
  have holes := inHoles_cutHoles s.mem.holes ((k + 63) / 64) ((k + bs.length) / 64) q
  change ((s.mem.dram.write k bs).bad q || inHoles (cutHoles s.mem.holes _ _) q) = _
  rw [holes, Mem.bad_write]
  split <;> rfl

/-! ## The sector of a place -/

section
variable {s : State} {a n : Nat} {l : Loc}

theorem State.locate_byte (h : s.locate a = some l) : l.byte = a % 2048 := by
  obtain ⟨i, found, rfl⟩ := Option.map_eq_some_iff.1 h
  have covers : (s.mapEnt i).covers a = true := by simpa using List.find?_some found
  have addr := MapEnt.addr_of_covers covers
  rw [MapEnt.locate_byte]
  unfold MapEnt.burstByte at addr ⊢
  omega

theorem State.locate_key_mod (h : s.locate a = some l) : l.key % 64 = a % 64 := by
  have byte := State.locate_byte h
  simp only [Loc.key]
  omega

theorem Loc.key_sector (l : Loc) : { l with byte := l.byte / 64 * 64 }.key / 64 = l.key / 64 := by
  simp only [Loc.key]
  omega

theorem State.locBad_of_bad (h : s.mem.bad (l.key / 64) = true) : s.locBad l = true := by
  simp [State.locBad, h]

/-- A read that begins in a poisoned sector is delivered poisoned. -/
theorem State.readPiece_poisoned (h0 : 0 < n) (hl : s.locate a = some l) (bad : s.mem.bad (l.key / 64) = true) :
    (s.readPiece a n).poisoned = true := by
  simp only [State.readPiece, hl, ReadOut.poisoned, List.any_map, List.any_eq_true, List.mem_range]
  exact ⟨0, by omega, State.locBad_of_bad (by rwa [Nat.add_zero, Loc.key_sector])⟩

theorem within_burst_of_within_sector (h : a % 64 + n ≤ 64) : a % 2048 + n ≤ 2048 := by omega

end

/-! ## MEM_ACCESS of one sector (R160) -/

section
variable {s : State} {addr : BitVec 48} {n : Nat} {d : List Byte} {l : Loc}

theorem memAccess_read_poisoned (hl : s.locate addr.toNat = some l) (free : s.outOfSlice l) (h0 : 0 < n) (h : addr.toNat % 64 + n ≤ 64)
    (held : s.memHeld addr.toNat n = false) (bad : s.mem.bad (l.key / 64) = true) : Gives (.memAccess addr (.read n) []) s fun t =>
      (∃ bs, t.out = .accessEnd .ePoison bs true :: s.out) ∧ t = { s with out := t.out } := by
  have inside := within_burst_of_within_sector h
  obtain ⟨t, ran, out, frame⟩ := memAccess_read_gives h0 inside hl free held
  rw [s.memRead_of_within h0 inside, State.readPiece_poisoned h0 hl bad] at out
  exact ⟨t, ran, ⟨_, out⟩, frame⟩

/-- A write within one sector that the media can store clears the sector's poison if it covers the sector, and no other poison. -/
theorem State.memWrite_bad (h0 : d ≠ []) (h : addr.toNat % 64 + d.length ≤ 64) (hl : s.locate addr.toNat = some l)
    (hw : s.locUnwritable l = false) (q : Nat) : (s.memWrite addr.toNat d).1.mem.bad q =
      if d.length = 64 ∧ q = l.key / 64 then false else s.mem.bad q := by
  rw [State.memWrite_eq_store h0 (within_burst_of_within_sector h) hl hw, State.dirtyAt_mem, State.storeMedia_bad]
  have key := State.locate_key_mod hl
  have bytes := List.length_pos_iff.2 h0
  exact if_congr (by omega) rfl rfl

theorem memAccess_write_bad (h0 : d ≠ []) (h : addr.toNat % 64 + d.length ≤ 64) (hl : s.locate addr.toNat = some l)
    (free : s.outOfSlice l) (held : s.memHeld addr.toNat d.length = false) : Gives (.memAccess addr (.write d) []) s fun t =>
      t.mem.dram = (s.memWrite addr.toNat d).1.mem.dram ∧ ∀ q, t.mem.bad q = (s.memWrite addr.toNat d).1.mem.bad q := by
  obtain ⟨t, ran, dram, holes, -⟩ := memAccess_write_gives h0 (within_burst_of_within_sector h) hl free held
  exact ⟨t, ran, dram, fun q => by simp only [StackMem.bad, dram, holes]⟩

theorem memAccess_write_wholeSector (len : d.length = 64) (aligned : addr.toNat % 64 = 0) (hl : s.locate addr.toNat = some l)
    (free : s.outOfSlice l) (held : s.memHeld addr.toNat 64 = false) (hw : s.locUnwritable l = false) :
    Gives (.memAccess addr (.write d) []) s fun t =>
      t.mem.bad (l.key / 64) = false ∧ (∀ k < 64, t.mem.dram.byte (l.key + k) = d.getD k 0) ∧
      (∀ q, q ≠ l.key / 64 → t.mem.bad q = s.mem.bad q) := by
  have h0 : d ≠ [] := List.length_pos_iff.1 (by omega)
  have inside : addr.toNat % 64 + d.length ≤ 64 := by omega
  obtain ⟨t, ran, dram, bad⟩ := memAccess_write_bad h0 inside hl free (len ▸ held)
  have poison := State.memWrite_bad h0 inside hl hw
  rw [State.memWrite_dram h0 (within_burst_of_within_sector inside) hl hw] at dram
  refine ⟨t, ran, ?_, fun k hk => dram ▸ s.mem.dram.byte_write_at l.key (len ▸ hk), fun q other => ?_⟩
  · rw [bad, poison, if_pos ⟨len, rfl⟩]
  · rw [bad, poison, if_neg (fun e => other e.2)]

theorem memAccess_write_partSector (h0 : d ≠ []) (part : d.length < 64) (h : addr.toNat % 64 + d.length ≤ 64)
    (hl : s.locate addr.toNat = some l) (free : s.outOfSlice l) (held : s.memHeld addr.toNat d.length = false)
    (poisoned : s.mem.bad (l.key / 64) = true) : Gives (.memAccess addr (.write d) []) s fun t => t.mem.bad (l.key / 64) = true := by
  obtain ⟨t, ran, -, bad⟩ := memAccess_write_bad h0 h hl free held
  refine ⟨t, ran, (bad _).trans ?_⟩
  cases hw : s.locUnwritable l with
  | true => rwa [State.memWrite_eq_self h0 (within_burst_of_within_sector h) hl hw]
  | false => rwa [State.memWrite_bad h0 h hl hw, if_neg (fun e => Nat.ne_of_lt part e.1)]

end

/-! ## The statement -/

/-- Settles O31: within one sector an access meets that sector's poison alone, and a store clears it if it covers the sector whole. -/
theorem poisonedSectors : Obligations.PoisonedSectors := by
  unfold Obligations.PoisonedSectors
  exact fun s addr l hl free => ⟨fun n h0 h => memAccess_read_poisoned hl free h0 h,
    fun d len aligned => memAccess_write_wholeSector len aligned hl free,
    fun d h0 part h => memAccess_write_partSector h0 part h hl free⟩

end Sys2Proof.Machine

/-! SUPPORT. Retrains and degraded lanes (R163, R178-R181): a retrain queued at an idle stack, the slices of a window, a lane marked. -/

namespace Sys2Proof.Machine

/-! ## The stacks and the channels' registers -/

/-- The state with the repair control of its stacks replaced. -/
def State.withStks (s : State) (v : SMap Stack) : State := { s with mem := { s.mem with stk := v } }

theorem State.setStk_eq (s : State) (k : Nat) (c : Stack) : s.setStk k c = s.withStks (SMap.set {} s.mem.stk k c) := rfl

theorem State.withStks_setStk (s : State) (v : SMap Stack) (k : Nat) (c : Stack) :
    (s.withStks v).setStk k c = s.withStks (SMap.set {} v k c) := rfl

theorem State.setStk_withStks (s : State) (k : Nat) (c : Stack) (v : SMap Stack) : (s.setStk k c).withStks v = s.withStks v := rfl

@[simp] theorem State.put_stk (s : State) (f : Fld) (v i k : Nat) : (s.put f v i).stk k = s.stk k := rfl
@[simp] theorem State.setChState_stk (s : State) (i v k : Nat) : (s.setChState i v).stk k = s.stk k := rfl
@[simp] theorem State.setStk_chState (s : State) (k i : Nat) (v : Stack) : (s.setStk k v).chState i = s.chState i := rfl

/-- A write of a field at one index leaves the field at every other index alone. -/
theorem State.put_get_sibling (s : State) {f : Fld} {i j : Nat} (h : j ≠ i) (v : Nat) : (s.put f v i).get f j = s.get f j :=
  s.put_get_other (fun e => h (Fld.key_inj.1 e))

theorem State.put_chState_apart (s : State) {f : Fld} (hf : f.code < 1024) (h : F.MEM_CH_STAT_state.code ≠ f.code) (v i j : Nat) :
    (s.put f v i).chState j = s.chState j := s.put_get_apart hf (by decide) h v i j

theorem State.setChState_same (s : State) (i : Nat) {v : Nat} (h : v < 8) : (s.setChState i v).chState i = v :=
  (s.put_get_same F.MEM_CH_STAT_state v i).trans (Nat.mod_eq_of_lt h)

theorem State.setChState_sibling (s : State) {i j : Nat} (h : j ≠ i) (v : Nat) : (s.setChState i v).chState j = s.chState j :=
  s.put_get_sibling h v

theorem State.setChState_get (s : State) {f : Fld} (hf : f.code < 1024) (h : f.code ≠ F.MEM_CH_STAT_state.code) (i v j : Nat) :
    (s.setChState i v).get f j = s.get f j := s.put_get_apart (by decide) hf h v i j

/-! ## Retrains queued and started (R178) -/

section
variable {s : State} {k i : Nat} {r : Retrain}

/-- With one retrain queued and none running, that one starts. -/
theorem State.startRetrain_one (idle : (s.stk k).retrain = none) (one : (s.stk k).retrainQ = [r]) :
    let t := s.setStk k { s.stk k with retrain := some r, retrainQ := [] }
    s.startRetrain k = if t.chState r.phys = 1 then t.setChState r.phys 2 else t := by
  have first : ([r].find? fun x => x.error).or [r].head? = some r := by cases h : r.error <;> simp [h]
  have left : ([r].filter fun x => x.phys != r.phys) = [] := by simp
  simp only [State.startRetrain, idle, one, first, left, Option.isSome_none, Bool.false_eq_true, if_false]

/-- A retrain of an active channel whose stack is idle starts at once. -/
theorem State.queueRetrain_idle (active : s.chState i = 1) (idle : (s.stk (i / 34)).retrain = none)
    (unqueued : (s.stk (i / 34)).retrainQ = []) (error : Bool) : ∃ v, s.queueRetrain i error = (s.withStks v).setChState i 2 ∧
      ((s.withStks v).stk (i / 34)).retrain = some { phys := i, error := error } := by
  have queued : s.queueRetrain i error =
      (s.setStk (i / 34) { s.stk (i / 34) with retrainQ := [{ phys := i, error := error }] }).startRetrain (i / 34) := by
    simp [State.queueRetrain, State.mayRetrain, active, idle, unqueued]
  rw [queued, State.startRetrain_one (r := { phys := i, error := error }) (by simpa using idle) (by simp), if_pos (by simpa using active)]
  exact ⟨_, rfl, congrArg Stack.retrain (State.setStk_same _ _ _)⟩

/-- What queueing and starting retrains can change: the stacks' repair control and the channels' states. -/
def QueuesRetrain (s t : State) : Prop :=
  t = { s.withStks t.mem.stk with regs := t.regs } ∧
  ∀ (f : Fld) (j : Nat), f.code < 1024 → f.code ≠ F.MEM_CH_STAT_state.code → t.get f j = s.get f j

theorem QueuesRetrain.setStk (s : State) (k : Nat) (v : Stack) : QueuesRetrain s (s.setStk k v) := ⟨rfl, fun _ _ _ _ => rfl⟩

theorem QueuesRetrain.setChState (s : State) (i v : Nat) : QueuesRetrain s (s.setChState i v) :=
  ⟨rfl, fun _ j hf h => s.setChState_get hf h i v j⟩

theorem QueuesRetrain.refl (s : State) : QueuesRetrain s s := ⟨rfl, fun _ _ _ _ => rfl⟩

theorem QueuesRetrain.ite {c : Prop} [Decidable c] {s t u : State} (h : QueuesRetrain s t) (h' : QueuesRetrain s u) :
    QueuesRetrain s (if c then t else u) := by
  split <;> assumption

theorem QueuesRetrain.trans {s t u : State} (h : QueuesRetrain s t) (h' : QueuesRetrain t u) : QueuesRetrain s u := by
  refine ⟨?_, fun f j hf hc => (h'.2 f j hf hc).trans (h.2 f j hf hc)⟩
  have last := h'.1
  rw [h.1] at last
  exact last

theorem State.startRetrain_queues (s : State) (k : Nat) : QueuesRetrain s (s.startRetrain k) := by
  unfold State.startRetrain
  dsimp only
  split
  · exact .refl s
  · split
    · exact .refl s
    · split
      · exact (QueuesRetrain.setStk s _ _).trans (QueuesRetrain.setChState _ _ _)
      · exact QueuesRetrain.setStk s _ _

theorem State.queueRetrain_queues (s : State) (i : Nat) (error : Bool) : QueuesRetrain s (s.queueRetrain i error) := by
  unfold State.queueRetrain
  exact .ite (.refl s) ((QueuesRetrain.setStk s _ _).trans (State.startRetrain_queues _ _))

end

section
variable {s : State} {i : Fin 544}

theorem retrainPeriodExpire_gives (on : s.get F.MEM_REPAIR_CFG_retrain_period 0 ≠ 0) (ready : s.boot.phase = .ready)
    (active : s.chState i = 1) (idle : (s.stk (i / 34)).retrain = none) (unqueued : (s.stk (i / 34)).retrainQ = []) :
    Gives (.retrainPeriodExpire i) s fun t =>
      (t.stk (i / 34)).retrain = some { phys := i, error := false } ∧ t.chState i = 2 ∧
      (s.chan i).lastTrain + s.get F.MEM_REPAIR_CFG_retrain_period 0 * 60000000000 ≤ t.time ∧
      t = { s with time := t.time, mem := t.mem, regs := t.regs } ∧ KeepsRegs [F.MEM_CH_STAT_state.key i] s t := by
  have ran : exec (.retrainPeriodExpire i) s = .next ((s.due ((s.chan i).lastTrain +
      s.get F.MEM_REPAIR_CFG_retrain_period 0 * 60000000000)).queueRetrain i false) := by
    change execRetrainPeriodExpire i s = _
    simp [execRetrainPeriodExpire, on, ready]
  obtain ⟨v, queued, running⟩ := State.queueRetrain_idle (s := s.due ((s.chan i).lastTrain +
      s.get F.MEM_REPAIR_CFG_retrain_period 0 * 60000000000)) active idle unqueued false
  exact ⟨_, ran.trans (congrArg _ queued), running, State.setChState_same _ _ (by decide), Nat.le_max_right _ _, rfl,
    (s.put_onlyRegs F.MEM_CH_STAT_state 2 i).2⟩

theorem channelRetrainReq_gives {j : Nat} {w : BarAcc} (reaches : Reaches s .MEM_CH_CFG i w j)
    (asked : w.bits F.MEM_CH_CFG_retrain_req = 1) (active : s.chState j = 1) (idle : (s.stk (j / 34)).retrain = none)
    (unqueued : (s.stk (j / 34)).retrainQ = []) : Gives (.channelRetrainReq i w) s fun t =>
      (t.stk (j / 34)).retrain = some { phys := j, error := false } ∧ t.chState j = 2 ∧
      t = { s with mem := t.mem, regs := t.regs } ∧ KeepsRegs [F.MEM_CH_STAT_state.key j] s t := by
  have ran : exec (.channelRetrainReq i w) s = .next (s.queueRetrain j false) := by
    change execChannelRetrainReq i w s = _
    rw [execChannelRetrainReq, reaches.onWrite, if_pos asked]
  obtain ⟨v, queued, running⟩ := State.queueRetrain_idle active idle unqueued false
  exact ⟨_, ran.trans (congrArg _ queued), running, State.setChState_same _ _ (by decide), rfl,
    (s.put_onlyRegs F.MEM_CH_STAT_state 2 j).2⟩

end

/-! ## The slices of a window (R179, R181) -/

/-- A stack's part of a window that ends no retrain: its running retrain, unless it is paused, has one slice more. -/
def State.slice (s : State) (k : Nat) : State :=
  match (s.stk k).retrain with
  | none => s
  | some r => if s.repairPaused k then s else s.setStk k { s.stk k with retrain := some { r with slices := r.slices + 1 } }

theorem exec_sliceWindow_between {s : State} (h : s.time % 50000 ≠ 0) (ends : List (Nat × Bool)) :
    exec (.sliceWindow ends) s = .next s := by
  change execSliceWindow ends s = _
  rw [execSliceWindow, if_pos h]

theorem exec_sliceWindow_open {s : State} (h : s.time % 50000 = 0) :
    exec (.sliceWindow []) s = .next ((List.range 16).foldl State.slice s) := by
  change execSliceWindow [] s = _
  rw [execSliceWindow, if_neg (by simpa using h)]
  refine congrArg Host.Outcome.next (congrArg (fun f => (List.range 16).foldl f s) (funext fun s => funext fun k => ?_))
  unfold State.slice
  cases (s.stk k).retrain <;> rfl

theorem State.slice_other (s : State) {k j : Nat} (h : j ≠ k) : (s.slice k).stk j = s.stk j := by
  unfold State.slice
  split
  · rfl
  · split
    · rfl
    · exact s.setStk_other _ h

theorem State.slice_same (s : State) (k : Nat) : ((s.slice k).stk k).retrain =
    if s.repairPaused k then (s.stk k).retrain else (s.stk k).retrain.map fun r => { r with slices := r.slices + 1 } := by
  unfold State.slice
  cases running : (s.stk k).retrain with
  | none => simp [running]
  | some r => cases s.repairPaused k <;> simp [running]

theorem State.slice_eq (s : State) (k : Nat) : ∃ v, s.slice k = s.withStks v := by
  unfold State.slice
  split
  · exact ⟨s.mem.stk, rfl⟩
  · split
    · exact ⟨s.mem.stk, rfl⟩
    · exact ⟨_, rfl⟩

/-- The stacks below n have had their part of the window, the others not yet. -/
theorem State.slices_retrain (s : State) (n : Nat) :
    (∃ v, (List.range n).foldl State.slice s = s.withStks v) ∧ ∀ j, (((List.range n).foldl State.slice s).stk j).retrain =
      if j < n ∧ s.repairPaused j = false then (s.stk j).retrain.map fun r => { r with slices := r.slices + 1 } else (s.stk j).retrain := by
  induction n with
  | zero => exact ⟨⟨s.mem.stk, rfl⟩, fun j => by simp⟩
  | succ n ih =>
    obtain ⟨⟨v, before⟩, retrains⟩ := ih
    simp only [List.range_succ, List.foldl_append, List.foldl_cons, List.foldl_nil]
    rw [before] at retrains ⊢
    obtain ⟨v', after⟩ := (s.withStks v).slice_eq n
    refine ⟨⟨v', after⟩, fun j => ?_⟩
    by_cases own : j = n
    · subst own
      rw [State.slice_same, retrains]
      change (if s.repairPaused j = true then _ else _) = _
      cases s.repairPaused j <;> simp
    · rw [State.slice_other _ own, retrains]
      exact if_congr (and_congr_left' (by omega)) rfl rfl

theorem sliceWindow_gives {s : State} (h : s.time % 50000 = 0) : Gives (.sliceWindow []) s fun t =>
    (∀ k < 16, s.repairPaused k = false → (t.stk k).retrain = (s.stk k).retrain.map fun r => { r with slices := r.slices + 1 }) ∧
    (∀ k < 16, s.repairPaused k = true → (t.stk k).retrain = (s.stk k).retrain) ∧ t = { s with mem := t.mem } ∧
    t.mem.dram = s.mem.dram := by
  obtain ⟨⟨v, sliced⟩, retrains⟩ := s.slices_retrain 16
  refine ⟨_, exec_sliceWindow_open h, fun k hk runs => ?_, fun k hk paused => ?_, ?_, ?_⟩
  · rw [retrains, if_pos ⟨hk, runs⟩]
  · rw [retrains, if_neg (by simp [paused])]
  · rw [sliced]
    rfl
  · rw [sliced]
    rfl

/-! ## Degraded lanes (R163) -/

section
variable {s : State} {i : Fin 544} {lane : Fin 296}

/-- The state with a lane of channel i marked degraded. -/
def State.markLane (s : State) (i lane : Nat) : State :=
  (s.setChan i { s.chan i with degraded := (s.chan i).degraded ++ [lane] }).put F.MEM_CH_STAT_lane_evt 1 i

theorem exec_dramLaneDegraded_new (new : lane.val ∉ (s.chan i).degraded) (spare : s.get F.MEM_CH_STAT_spare_lanes_used i < 8) :
    exec (.dramLaneDegraded i lane true) s = .next ((s.markLane i lane).queueRetrain i true) := by
  change execDramLaneDegraded i lane true s = _
  have spare' : (s.markLane i lane).get F.MEM_CH_STAT_spare_lanes_used i < 8 := by
    rwa [State.markLane, State.put_get_apart _ (by decide) (by decide) (by decide), State.setChan_get]
  simp only [execDramLaneDegraded, Bool.true_or, if_true, State.degradeLane, List.contains_eq_mem, new, decide_false, Bool.false_eq_true,
    if_false]
  exact congrArg Host.Outcome.next (if_pos spare')

theorem exec_dramLaneDegraded_known (known : lane.val ∈ (s.chan i).degraded) : exec (.dramLaneDegraded i lane true) s = .next s := by
  change execDramLaneDegraded i lane true s = _
  simp [execDramLaneDegraded, State.degradeLane, known]

theorem dramLaneDegraded_gives (new : lane.val ∉ (s.chan i).degraded) (spare : s.get F.MEM_CH_STAT_spare_lanes_used i < 8) :
    Gives (.dramLaneDegraded i lane true) s fun t =>
      lane.val ∈ (t.chan i).degraded ∧ t.get F.MEM_CH_STAT_lane_evt i = 1 ∧ t = { s with mem := t.mem, regs := t.regs } ∧
      t.mem.dram = s.mem.dram := by
  obtain ⟨frame, get⟩ := (s.markLane i lane).queueRetrain_queues i true
  have evt : (s.markLane i lane).get F.MEM_CH_STAT_lane_evt i = 1 := State.put_get_same _ _ _ _
  have own : (s.markLane i lane).chan i = { s.chan i with degraded := (s.chan i).degraded ++ [lane.val] } := s.setChan_same _ _
  refine ⟨_, exec_dramLaneDegraded_new new spare, ?_, (get _ _ (by decide) (by decide)).trans evt, ?_, ?_⟩
  · have kept : ((s.markLane i lane).queueRetrain i true).chan i = (s.markLane i lane).chan i := by
      rw [frame]
      rfl
    rw [kept, own]
    simp
  · rw [frame]
    rfl
  · rw [frame]
    rfl

end

end Sys2Proof.Machine

/-! SUPPORT. Evacuations and rebuilds (R163-R171): a repair that finds its stack idle and a spare free, a channel lost, and one step of a
copy and of a rebuild. -/

namespace Sys2Proof.Machine

/-! ## Memory events -/

section
variable (s : State)

theorem State.chEvent_eq (event i : Nat) : ∃ l r, s.chEvent event i = { s with log := l, regs := r } := s.logPut_eq _

@[simp] theorem State.chEvent_stk (event i k : Nat) : (s.chEvent event i).stk k = s.stk k := by
  obtain ⟨l, r, frame⟩ := s.chEvent_eq event i
  rw [frame]
  rfl

theorem State.chEvent_get (event i : Nat) {f : Fld} (hf : f.offLog = true) (j : Nat) : (s.chEvent event i).get f j = s.get f j :=
  s.logPut_get _ hf j

@[simp] theorem State.chEvent_chState (event i j : Nat) : (s.chEvent event i).chState j = s.chState j :=
  s.chEvent_get event i (by decide) j

theorem State.logPut_staged {b : LogBody} (room : s.log.staged.length < 8192) : ∃ e : LogEntry,
    (s.logPut b).log.staged = s.log.staged ++ [e] ∧ e.body = b := by
  unfold State.logPut
  rw [if_pos room]
  exact ⟨_, rfl, rfl⟩

end

/-! ## Idle stacks and free spares -/

/-- No retrain of the stack runs or waits. -/
def State.noRetrains (s : State) (k : Nat) : Prop := (s.stk k).retrain = none ∧ (s.stk k).retrainQ = []

section
variable {s : State} {k i d : Nat}

theorem State.freeSpare_some (h : s.freeSpare k = some d) : d / 34 = k ∧ s.chState d = 0 := by
  have free := List.find?_some h
  have among := List.mem_of_find?_eq_some h
  obtain ⟨p, hp, rfl⟩ := List.mem_map.1 among
  have below := List.mem_range.1 hp
  exact ⟨by omega, by simpa using free⟩

/-- Which spare is free depends on which channels are spare and idle alone. -/
theorem State.freeSpare_congr {t : State} (h : ∀ j, t.chState j = 0 ↔ s.chState j = 0) : t.freeSpare k = s.freeSpare k :=
  List.find?_congr fun j _ => by rw [Bool.eq_iff_iff, beq_iff_eq, beq_iff_eq, h j]

/-- Dropping the retrain of a channel that has none, at a stack that has none, writes back what the stack holds. -/
theorem State.dropRetrain_idle (idle : s.noRetrains (i / 34)) (h : s.chState i ≠ 2) :
    s.dropRetrain i = s.setStk (i / 34) (s.stk (i / 34)) := by
  obtain ⟨unqueued, empty⟩ := idle
  have back : { s.stk (i / 34) with retrain := none, retrainQ := [] } = s.stk (i / 34) := by rw [← unqueued, ← empty]
  simp only [State.dropRetrain, unqueued, empty, List.filter_nil, Bool.false_eq_true, if_false, State.setStk_chState, h, back]

@[simp] theorem State.setStk_own (s : State) (k j : Nat) : (s.setStk k (s.stk k)).stk j = s.stk j := by
  by_cases h : j = k
  · rw [h, State.setStk_same]
  · exact s.setStk_other _ h

/-! ## A repair starts (R164, R166, R167) -/

/-- Spare d of stack k is taken for repair r: what the stack runs, and the registers of both channels. -/
def State.takeSpare (s : State) (k d : Nat) (r : Repair) : State :=
  ((((s.setStk k { s.stk k with repair := some { r with dst := d } }).setChState d 4).put F.MEM_CH_STAT_pointer 0 d).repairEvt d).repairEvt
    r.src

/-- Repair r starts with spare d of stack k; the source of an evacuation shows it. -/
def State.beginRepair (s : State) (k d : Nat) (r : Repair) : State :=
  if r.rebuild then s.takeSpare k d r else ((s.takeSpare k d r).setChState r.src 3).chEvent 0x05 r.src

variable (s) (k d) (r : Repair)

theorem State.beginRepair_repair : ((s.beginRepair k d r).stk k).repair = some { r with dst := d } := by
  have taken : ((s.takeSpare k d r).stk k).repair = some { r with dst := d } := congrArg Stack.repair (s.setStk_same _ _)
  unfold State.beginRepair
  split
  · exact taken
  · rwa [State.chEvent_stk, State.setChState_stk]

theorem State.takeSpare_chState (j : Nat) : (s.takeSpare k d r).chState j = if j = d then 4 else s.chState j := by
  simp only [State.takeSpare, State.repairEvt]
  rw [State.put_chState_apart _ (by decide) (by decide), State.put_chState_apart _ (by decide) (by decide),
    State.put_chState_apart _ (by decide) (by decide)]
  split
  next own => rw [own, State.setChState_same _ _ (by decide)]
  next other => rw [State.setChState_sibling _ other, State.setStk_chState]

variable {d r}

theorem State.beginRepair_chState_spare (h : d ≠ r.src) : (s.beginRepair k d r).chState d = 4 := by
  have taken : (s.takeSpare k d r).chState d = 4 := (s.takeSpare_chState k d r d).trans (if_pos rfl)
  unfold State.beginRepair
  split
  · exact taken
  · rwa [State.chEvent_chState, State.setChState_sibling _ h]

theorem State.beginRepair_chState_source (h : d ≠ r.src) :
    (s.beginRepair k d r).chState r.src = if r.rebuild then s.chState r.src else 3 := by
  unfold State.beginRepair
  split
  · rw [State.takeSpare_chState, if_neg h.symm]
  · rw [State.chEvent_chState, State.setChState_same _ _ (by decide)]

variable (d r)

theorem State.beginRepair_pointer : (s.beginRepair k d r).get F.MEM_CH_STAT_pointer d = 0 := by
  have taken : (s.takeSpare k d r).get F.MEM_CH_STAT_pointer d = 0 := by
    simp only [State.takeSpare, State.repairEvt]
    rw [State.put_get_apart _ (by decide) (by decide) (by decide), State.put_get_apart _ (by decide) (by decide) (by decide),
      State.put_get_same]
    rfl
  unfold State.beginRepair
  split
  · exact taken
  · rwa [State.chEvent_get _ _ _ (by decide), State.setChState_get _ (by decide) (by decide)]

theorem State.beginRepair_loss_evt (j : Nat) :
    (s.beginRepair k d r).get F.MEM_CH_STAT_loss_evt j = s.get F.MEM_CH_STAT_loss_evt j := by
  have taken : (s.takeSpare k d r).get F.MEM_CH_STAT_loss_evt j = s.get F.MEM_CH_STAT_loss_evt j := by
    simp only [State.takeSpare, State.repairEvt]
    rw [State.put_get_apart _ (by decide) (by decide) (by decide), State.put_get_apart _ (by decide) (by decide) (by decide),
      State.put_get_apart _ (by decide) (by decide) (by decide), State.setChState_get _ (by decide) (by decide), State.setStk_get]
  unfold State.beginRepair
  split
  · exact taken
  · rwa [State.chEvent_get _ _ _ (by decide), State.setChState_get _ (by decide) (by decide)]

end

section
variable {s : State} {k i d : Nat} {r : Repair}

/-- The one repair queued at an idle stack starts with the spare that is free. -/
theorem State.startRepair_one (idle : (s.stk k).repair = none) (one : (s.stk k).repairQ = [r]) (quiet : s.noRetrains k)
    (spare : s.freeSpare k = some d) (home : r.src / 34 = k) (still : s.chState r.src ≠ 2) (fuel : Nat) :
    ∃ v, s.startRepair k (fuel + 1) = (s.withStks v).beginRepair k d r := by
  obtain ⟨homeD, idleD⟩ := State.freeSpare_some spare
  have first : ([r].find? fun x => x.rebuild).or [r].head? = some r := by cases h : r.rebuild <;> simp [h]
  have left : ([r].filter fun x => x.src != r.src) = [] := by simp
  generalize ht : s.setStk k { s.stk k with repair := none, repairQ := [] } = t
  have stk : t.stk k = { s.stk k with repair := none, repairQ := [] } := ht ▸ s.setStk_same _ _
  have spare' : t.freeSpare k = some d := ht ▸ spare
  have quiet' : t.noRetrains k := by
    unfold State.noRetrains
    rw [stk]
    exact quiet
  have dropD : t.dropRetrain d = t.setStk k (t.stk k) := by
    have drop := State.dropRetrain_idle (s := t) (i := d) (homeD.symm ▸ quiet') (by subst ht; simp [idleD])
    rwa [homeD] at drop
  have dropSrc : (t.setStk k (t.stk k)).dropRetrain r.src = (t.setStk k (t.stk k)).setStk k (t.stk k) := by
    have drop := State.dropRetrain_idle (s := t.setStk k (t.stk k)) (i := r.src)
      (by unfold State.noRetrains; rwa [home, State.setStk_own]) (by subst ht; simpa using still)
    rwa [home, State.setStk_own] at drop
  obtain ⟨v, settled⟩ : ∃ v, (t.setStk k (t.stk k)).setStk k (t.stk k) = s.withStks v := by
    rw [← ht, State.setStk_eq s, State.withStks_setStk, State.withStks_setStk]
    exact ⟨_, rfl⟩
  simp only [State.startRepair, idle, one, first, left, Option.isSome_none, Bool.false_eq_true, if_false, ht, spare', dropD, dropSrc,
    settled]
  exact ⟨v, rfl⟩

/-- An evacuation asked for at an idle stack starts (R164, R167). -/
theorem State.queueEvacuation_idle (active : s.chState i = 1) (idle : (s.stk (i / 34)).repair = none)
    (unqueued : (s.stk (i / 34)).repairQ = []) (quiet : s.noRetrains (i / 34)) (spare : s.freeSpare (i / 34) = some d) :
    ∃ v, s.queueEvacuation i = (s.withStks v).beginRepair (i / 34) d
      { rebuild := false, src := i, logical := s.chLogical i, detected := s.time } := by
  have drop := State.dropRetrain_idle quiet (by rw [active]; decide)
  have queued : s.queueEvacuation i = ((s.setStk (i / 34) (s.stk (i / 34))).setStk (i / 34) { s.stk (i / 34) with
      repairQ := [{ rebuild := false, src := i, logical := s.chLogical i, detected := s.time }] }).startRepair (i / 34) 40 := by
    simp only [State.queueEvacuation, active, unqueued, spare, drop, State.setStk_same, List.any_nil, List.nil_append, Option.isNone_some,
      Bool.false_eq_true, if_false, ne_eq, not_true, false_and]
    rfl
  obtain ⟨v, started⟩ := State.startRepair_one (s := (s.setStk (i / 34) (s.stk (i / 34))).setStk (i / 34) { s.stk (i / 34) with
      repairQ := [{ rebuild := false, src := i, logical := s.chLogical i, detected := s.time }] }) (k := i / 34)
    (by rwa [State.setStk_same]) (by rw [State.setStk_same]) (by unfold State.noRetrains; rwa [State.setStk_same]) spare rfl
    (by simp [active]) 39
  rw [State.setStk_withStks, State.setStk_withStks] at started
  exact ⟨v, queued.trans started⟩

/-- With no spare free an evacuation is logged as impossible, and no more (R167). -/
theorem State.queueEvacuation_noSpare (active : s.chState i = 1) (unqueued : (s.stk (i / 34)).repairQ = [])
    (spare : s.freeSpare (i / 34) = none) : s.queueEvacuation i = s.chEvent 0x0A i := by
  simp [State.queueEvacuation, active, unqueued, spare]

end

section
variable {s : State} {i : Fin 544} {j d : Nat} {w : BarAcc}

theorem exec_evacuateReq (reaches : Reaches s .MEM_CH_CFG i w j) (asked : w.bits F.MEM_CH_CFG_evacuate_req = 1) :
    exec (.evacuateReq i w) s = .next (s.queueEvacuation j) := by
  change execEvacuateReq i w s = _
  rw [execEvacuateReq, reaches.onWrite, if_pos asked]

theorem evacuateReq_gives (reaches : Reaches s .MEM_CH_CFG i w j) (asked : w.bits F.MEM_CH_CFG_evacuate_req = 1) (active : s.chState j = 1)
    (idle : (s.stk (j / 34)).repair = none) (unqueued : (s.stk (j / 34)).repairQ = []) (quiet : s.noRetrains (j / 34))
    (spare : s.freeSpare (j / 34) = some d) : Gives (.evacuateReq i w) s fun t =>
      (∃ r, (t.stk (j / 34)).repair = some r ∧ r.rebuild = false ∧ r.src = j ∧ r.dst = d) ∧ t.chState j = 3 ∧ t.chState d = 4 ∧
      t.get F.MEM_CH_STAT_pointer d = 0 ∧ t.mem.dram = s.mem.dram := by
  obtain ⟨v, begun⟩ := State.queueEvacuation_idle active idle unqueued quiet spare
  have other : d ≠ j := by
    rintro rfl
    simp [(State.freeSpare_some spare).2] at active
  refine ⟨_, exec_evacuateReq reaches asked, ?_, ?_, ?_, ?_, congrArg Stores.dram (s.queueEvacuation_stores j)⟩
  · rw [begun]
    exact ⟨_, State.beginRepair_repair _ _ _ _, rfl, rfl, rfl⟩
  · rw [begun]
    exact State.beginRepair_chState_source _ _ other
  · rw [begun]
    exact State.beginRepair_chState_spare _ _ other
  · rw [begun]
    exact State.beginRepair_pointer _ _ _ _

theorem evacuateReq_noSpare (reaches : Reaches s .MEM_CH_CFG i w j) (asked : w.bits F.MEM_CH_CFG_evacuate_req = 1)
    (active : s.chState j = 1) (unqueued : (s.stk (j / 34)).repairQ = []) (spare : s.freeSpare (j / 34) = none)
    (room : s.log.staged.length < 8192) : Gives (.evacuateReq i w) s fun t =>
      t.chState j = 1 ∧ (∃ (e : LogEntry) (m : MemEvent), t.log.staged = s.log.staged ++ [e] ∧ e.body = .mem m ∧ m.event = 0x0A) ∧
      t = { s with log := t.log, regs := t.regs } := by
  refine ⟨_, (exec_evacuateReq reaches asked).trans (congrArg _ (State.queueEvacuation_noSpare active unqueued spare)),
    (s.chEvent_chState 0x0A j j).trans active, ?_, ?_⟩
  · obtain ⟨e, staged, body⟩ := s.logPut_staged room
    exact ⟨e, _, staged, body, rfl⟩
  · obtain ⟨l, r, frame⟩ := s.chEvent_eq 0x0A j
    rw [frame]

end

/-! ## A channel lost (R165, R166) -/

section
variable {s : State} {i d : Nat}

/-- Channel i shows and logs its loss. -/
def State.markLost (s : State) (i : Nat) : State := ((s.setChState i 5).put F.MEM_CH_STAT_loss_evt 1 i).chEvent 0x07 i

theorem State.markLost_chState (s : State) (i j : Nat) : (s.markLost i).chState j = if j = i then 5 else s.chState j := by
  rw [State.markLost, State.chEvent_chState, State.put_chState_apart _ (by decide) (by decide)]
  split
  next own => rw [own, State.setChState_same _ _ (by decide)]
  next other => exact s.setChState_sibling other 5

theorem State.markLost_loss_evt (s : State) (i : Nat) : (s.markLost i).get F.MEM_CH_STAT_loss_evt i = 1 := by
  rw [State.markLost, State.chEvent_get _ _ _ (by decide), State.put_get_same]
  rfl

@[simp] theorem State.markLost_stk (s : State) (i k : Nat) : (s.markLost i).stk k = s.stk k := by
  simp [State.markLost]

theorem State.markLost_freeSpare (h : s.chState i ≠ 0) (k : Nat) : (s.markLost i).freeSpare k = s.freeSpare k := by
  refine State.freeSpare_congr fun j => ?_
  rw [State.markLost_chState]
  split
  next own => simp [own, h]
  next => rfl

/-- An idle stack is given the rebuild of its channel i, and nothing else to repair. -/
def State.queueRebuild (s : State) (i : Nat) : State :=
  (s.setStk (i / 34) { s.stk (i / 34) with repair := none, repairQ := [] }).setStk (i / 34) { s.stk (i / 34) with
    repair := none, repairQ := [{ rebuild := true, src := i, logical := s.chLogical i, detected := s.time }] }

/-- A channel lost at an idle stack is rebuilt onto the spare that is free. -/
theorem State.loseChannel_idle (active : s.chState i = 1) (idle : (s.stk (i / 34)).repair = none)
    (unqueued : (s.stk (i / 34)).repairQ = []) (quiet : s.noRetrains (i / 34)) (spare : s.freeSpare (i / 34) = some d) :
    ∃ v w l at_, s.loseChannel i = (((s.withStks v).markLost i).withStks w).beginRepair (i / 34) d
      { rebuild := true, src := i, logical := l, detected := at_ } := by
  obtain ⟨v, own⟩ : ∃ v, s.setStk (i / 34) (s.stk (i / 34)) = s.withStks v := ⟨_, rfl⟩
  have drop := State.dropRetrain_idle quiet (by rw [active]; decide)
  rw [own] at drop
  generalize ht : (s.withStks v).markLost i = t
  have stk : t.stk (i / 34) = s.stk (i / 34) := by rw [← ht, State.markLost_stk, ← own, State.setStk_own]
  have spare' : t.freeSpare (i / 34) = some d := by
    rw [← ht, State.markLost_freeSpare (by rw [← own]; simp [active])]
    exact spare
  have lost : t.chState i = 5 := by rw [← ht, State.markLost_chState, if_pos rfl]
  have queued : s.loseChannel i = (t.queueRebuild i).startRepair (i / 34) 40 := by
    have t_eq : (((s.withStks v).setChState i 5).put F.MEM_CH_STAT_loss_evt 1 i).chEvent 0x07 i = t := ht
    simp only [State.loseChannel, drop, t_eq, stk, State.setStk_same, idle, unqueued, List.filter_nil, List.nil_append]
    simp only [State.queueRebuild, stk]
    rfl
  obtain ⟨w, started⟩ := State.startRepair_one (s := t.queueRebuild i) (k := i / 34) (d := d)
    (congrArg Stack.repair (State.setStk_same _ _ _)) (congrArg Stack.repairQ (State.setStk_same _ _ _))
    (by unfold State.noRetrains State.queueRebuild; rw [State.setStk_same, stk]; exact quiet) spare' rfl
    (by rw [State.queueRebuild, State.setStk_chState, State.setStk_chState, lost]; decide) 39
  have same : (t.queueRebuild i).withStks w = t.withStks w := by
    rw [State.queueRebuild, State.setStk_withStks, State.setStk_withStks]
  rw [same] at started
  subst ht
  exact ⟨v, w, _, _, queued.trans started⟩

theorem channelLost_gives {i : Fin 544} (active : s.chState i = 1) (idle : (s.stk (i / 34)).repair = none)
    (unqueued : (s.stk (i / 34)).repairQ = []) (quiet : s.noRetrains (i / 34)) (spare : s.freeSpare (i / 34) = some d) :
    Gives (.channelLost i true) s fun t =>
      t.chState i = 5 ∧ t.get F.MEM_CH_STAT_loss_evt i = 1 ∧ t.chState d = 4 ∧
      (∃ r, (t.stk (i / 34)).repair = some r ∧ r.rebuild = true ∧ r.src = i ∧ r.dst = d) ∧ t.mem.dram = s.mem.dram := by
  have ran : exec (.channelLost i true) s = .next (s.loseChannel i) := by
    change execChannelLost i true s = _
    simp [execChannelLost, active]
  obtain ⟨v, w, l, since, begun⟩ := State.loseChannel_idle active idle unqueued quiet spare
  have other : d ≠ i := by
    rintro rfl
    simp [(State.freeSpare_some spare).2] at active
  refine ⟨_, ran, ?_, ?_, ?_, ?_, congrArg Stores.dram (s.loseChannel_stores i)⟩
  · rw [begun, State.beginRepair_chState_source _ _ other, if_pos rfl]
    exact (State.markLost_chState _ _ _).trans (if_pos rfl)
  · rw [begun, State.beginRepair_loss_evt]
    exact State.markLost_loss_evt _ _
  · rw [begun]
    exact State.beginRepair_chState_spare _ _ other
  · rw [begun]
    exact ⟨_, State.beginRepair_repair _ _ _ _, rfl, rfl, rfl⟩

end

/-! ## One burst of an evacuation (R164) -/

section
variable {s : State} {k : Fin 16} {r : Repair} {b : Nat}

theorem evacuationStep_gives (running : (s.stk k).repair = some r) (copies : r.rebuild = false) (on : s.repairPaused k = false)
    (more : s.get F.MEM_CH_STAT_pointer r.dst + 1 < burstsPerChannel) : Gives (.evacuationStep k []) s fun t =>
      t.get F.MEM_CH_STAT_pointer r.dst = s.get F.MEM_CH_STAT_pointer r.dst + 1 ∧ (t.stk k).repair = some r ∧
      t.mem.dram = s.mem.dram ∧ KeepsRegs [F.MEM_CH_STAT_pointer.key r.dst] s t := by
  have ran : ∃ c, exec (.evacuationStep k []) s =
      .next ((s.setChan r.src c).put F.MEM_CH_STAT_pointer (s.get F.MEM_CH_STAT_pointer r.dst + 1) r.dst) := by
    change ∃ c, execEvacuationStep k [] s = _
    simp only [execEvacuationStep, running, copies, on, Bool.or_self, Bool.false_eq_true, if_false, State.burstFinds_nil]
    exact ⟨_, congrArg _ (if_pos more)⟩
  obtain ⟨c, ran⟩ := ran
  have fits : s.get F.MEM_CH_STAT_pointer r.dst + 1 < 2 ^ F.MEM_CH_STAT_pointer.width := Nat.lt_trans more (by decide)
  exact ⟨_, ran, (State.put_get_same _ _ _ _).trans (Nat.mod_eq_of_lt fits), running, rfl, (s.put_onlyRegs F.MEM_CH_STAT_pointer _ _).2⟩

/-! ## One line of a rebuild (R170, R171) -/

/-- Nothing differs but that more sectors of the stacks hold the poison pattern. -/
def MarksPoison (s t : State) : Prop :=
  (∃ p, t = s.setDram { s.mem.dram with poison := p }) ∧ ∀ q, s.mem.dram.bad q = true → t.mem.dram.bad q = true

theorem MarksPoison.refl (s : State) : MarksPoison s s := ⟨⟨s.mem.dram.poison, rfl⟩, fun _ h => h⟩

theorem MarksPoison.trans {s t u : State} (h : MarksPoison s t) (h' : MarksPoison t u) : MarksPoison s u := by
  obtain ⟨⟨p, first⟩, more⟩ := h
  obtain ⟨⟨p', second⟩, more'⟩ := h'
  subst first
  exact ⟨⟨p', second⟩, fun q hq => more' q (more q hq)⟩

theorem State.setDram_mark_marks (s : State) (q : Nat) : MarksPoison s (s.setDram (s.mem.dram.mark q true)) := by
  refine ⟨⟨_, rfl⟩, fun x hx => ?_⟩
  change (s.mem.dram.mark q true).bad x = true
  rw [Mem.bad_mark]
  split
  · rfl
  · exact hx

/-- A member that cannot be rebuilt in a sector cannot be rebuilt there once more sectors are poisoned. -/
theorem MarksPoison.lineBroken {s t : State} (h : MarksPoison s t) {stack chan burst x : Nat}
    (broken : s.lineBroken stack chan burst x = true) : t.lineBroken stack chan burst x = true := by
  obtain ⟨⟨p, rfl⟩, more⟩ := h
  have bad (q : Nat) (hq : s.mem.bad q = true) : (s.setDram { s.mem.dram with poison := p }).mem.bad q = true := by
    simp only [StackMem.bad, Bool.or_eq_true] at hq ⊢
    exact hq.imp_left (more q)
  simp only [State.lineBroken, List.any_eq_true, Bool.and_eq_true, Bool.or_eq_true] at broken ⊢
  obtain ⟨m, hm, other, lost⟩ := broken
  exact ⟨m, hm, other, lost.imp_right fun e => ⟨e.1, bad _ e.2⟩⟩

/-- One sector of the lost member is written: poisoned where it cannot be rebuilt. -/
def State.rebuildSector (s : State) (stack chan b x : Nat) : State :=
  if s.lineBroken stack chan b x then s.setDram (s.mem.dram.mark (sectorOf stack chan b + x) true) else s

theorem State.rebuildSector_marks (s : State) (stack chan b x : Nat) : MarksPoison s (s.rebuildSector stack chan b x) := by
  unfold State.rebuildSector
  split
  · exact s.setDram_mark_marks _
  · exact .refl s

theorem State.rebuildSector_bad {s : State} {stack chan b x : Nat} (h : s.lineBroken stack chan b x = true) :
    (s.rebuildSector stack chan b x).mem.dram.bad (sectorOf stack chan b + x) = true := by
  rw [State.rebuildSector, if_pos h]
  exact (Mem.bad_mark _ _ _ _).trans (if_pos rfl)

/-- Sectors rebuilt one after another: each that could not be rebuilt at the start ends poisoned. -/
theorem State.rebuildSectors_marks (stack chan b : Nat) (xs : List Nat) : ∀ s : State,
    MarksPoison s (xs.foldl (fun s x => s.rebuildSector stack chan b x) s) ∧ ∀ x ∈ xs, s.lineBroken stack chan b x = true →
      (xs.foldl (fun s x => s.rebuildSector stack chan b x) s).mem.dram.bad (sectorOf stack chan b + x) = true := by
  induction xs with
  | nil => exact fun s => ⟨.refl s, fun x hx => absurd hx List.not_mem_nil⟩
  | cons y ys ih =>
    intro s
    obtain ⟨marks, poisoned⟩ := ih (s.rebuildSector stack chan b y)
    have first := s.rebuildSector_marks stack chan b y
    refine ⟨first.trans marks, fun x hx broken => ?_⟩
    obtain rfl | later := List.mem_cons.1 hx
    · exact marks.2 _ (State.rebuildSector_bad broken)
    · exact poisoned x later (first.lineBroken broken)

/-- The parity lines of a stack go by the memory map alone. -/
theorem State.put_nextParity (s : State) {f : Fld} (h : f.offMap) (v i stack p : Nat) :
    (s.put f v i).nextParity stack p = s.nextParity stack p := by
  have maps : (s.put f v i).validMaps = s.validMaps := s.put_indicesWith v i 1 h.1 (h.2 _ (by simp [RegName.fields]))
  have ents : (s.put f v i).mapEnt = s.mapEnt := funext fun k => s.put_mapEnt h v i k
  simp only [State.nextParity, State.parityRuns, maps, ents]

theorem MarksPoison.nextParity {s t : State} (h : MarksPoison s t) (stack p : Nat) : t.nextParity stack p = s.nextParity stack p := by
  obtain ⟨⟨p', rfl⟩, -⟩ := h
  rfl

theorem exec_rebuildLine (running : (s.stk k).repair = some r) (rebuilds : r.rebuild = true) (on : s.repairPaused k = false)
    (next : s.nextParity k (s.get F.MEM_CH_STAT_pointer r.dst) = some b) (more : s.nextParity k (b + 1) ≠ none) :
    exec (.rebuildLine k) s = .next
      (((List.range 32).foldl (fun s x => s.rebuildSector k r.logical b x) s).put F.MEM_CH_STAT_pointer (b + 1) r.dst) := by
  change execRebuildLine k s = _
  obtain ⟨marks, -⟩ := State.rebuildSectors_marks k r.logical b (List.range 32) s
  have more' : ((((List.range 32).foldl (fun s x => s.rebuildSector k r.logical b x) s).put F.MEM_CH_STAT_pointer (b + 1)
      r.dst).nextParity k (b + 1)).isNone = false := by
    rw [State.put_nextParity _ ⟨by decide, by decide⟩, marks.nextParity, Option.isNone_eq_false_iff, Option.isSome_iff_ne_none]
    exact more
  simp only [execRebuildLine, running, rebuilds, on, next, Bool.not_true, Bool.or_self, Bool.false_eq_true, if_false]
  exact congrArg Host.Outcome.next (if_neg ((Bool.not_eq_true _).mpr more'))

theorem rebuildLine_gives (running : (s.stk k).repair = some r) (rebuilds : r.rebuild = true) (on : s.repairPaused k = false)
    (next : s.nextParity k (s.get F.MEM_CH_STAT_pointer r.dst) = some b) (more : s.nextParity k (b + 1) ≠ none) (fits : b + 1 < 2 ^ 21) :
    Gives (.rebuildLine k) s fun t =>
      t.get F.MEM_CH_STAT_pointer r.dst = b + 1 ∧ t.mem.dram.bytes = s.mem.dram.bytes ∧
      (∀ x < 32, s.lineBroken k r.logical b x = true → t.mem.dram.bad (sectorOf k r.logical b + x) = true) ∧
      t = { s with mem := t.mem, regs := t.regs } ∧ KeepsRegs [F.MEM_CH_STAT_pointer.key r.dst] s t := by
  obtain ⟨⟨⟨p, frame⟩, -⟩, poisoned⟩ := State.rebuildSectors_marks k r.logical b (List.range 32) s
  have ran := exec_rebuildLine running rebuilds on next more
  rw [frame] at ran poisoned
  exact ⟨_, ran, (State.put_get_same _ _ _ _).trans (Nat.mod_eq_of_lt fits), rfl, fun x hx => poisoned x (List.mem_range.2 hx), rfl,
    (s.put_onlyRegs F.MEM_CH_STAT_pointer _ _).2⟩

end

end Sys2Proof.Machine

/-! SUPPORT. Patrol scrubs, held parity writes, row copies and the persistent remap list (R154, R161, R174, R177). -/

namespace Sys2Proof.Machine

section
variable {s : State} {i : Fin 544}

/-! ## Patrol scrubs (R161) -/

theorem exec_patrolScrub (active : s.chState i = 1) (on : s.isSet F.MEM_CH_CFG_scrub_dis i = false)
    (runs : s.repairPaused (i / 34) = false) : exec (.patrolScrub i []) s = .next { s with mem := { s.mem with
      scrubAt := SMap.set 0 s.mem.scrubAt i ((SMap.get 0 s.mem.scrubAt i + 1) % burstsPerChannel) } } := by
  change execPatrolScrub i [] s = _
  have out : s.inSlice i = false := by simp [State.inSlice, active]
  simp [execPatrolScrub, active, on, runs, out]

theorem patrolScrub_gives (active : s.chState i = 1) (on : s.isSet F.MEM_CH_CFG_scrub_dis i = false)
    (runs : s.repairPaused (i / 34) = false) : Gives (.patrolScrub i []) s fun t =>
      SMap.get 0 t.mem.scrubAt i = (SMap.get 0 s.mem.scrubAt i + 1) % burstsPerChannel ∧ t = { s with mem := t.mem } ∧
      t.mem.dram = s.mem.dram :=
  ⟨_, exec_patrolScrub active on runs, SMap.get_set_same _ _ _ _, rfl, rfl⟩

/-! ## Held writes of a parity line (R154) -/

theorem parityHoldExpire_gives {k : Fin 16} {g : Fin 2} {b : Fin 1179648} {h : PHold}
    (held : (s.mem.holds.find? fun h => h.stack == k.val && h.group == g.val && h.burst == b.val) = some h) :
    Gives (.parityHoldExpire k g b) s fun t =>
      t.mem.holds = s.mem.holds.erase h ∧ h.since + 256 ≤ t.time ∧ t = { s with time := t.time, mem := t.mem } ∧
      t.mem.dram = s.mem.dram := by
  have ran : exec (.parityHoldExpire k g b) s =
      .next { s.due (h.since + 256) with mem := { s.mem with holds := s.mem.holds.erase h } } := by
    change execParityHoldExpire k g b s = _
    simp only [execParityHoldExpire, held]
  exact ⟨_, ran, rfl, Nat.le_max_right _ _, rfl, rfl⟩

/-! ## Row copies (R174) -/

theorem exec_rowRemapDone {x : RowCopy} {xs : List RowCopy} (copies : (s.chan i).copies = x :: xs)
    (runs : s.repairPaused (i / 34) = false) : exec (.rowRemapDone i) s = .next (s.rowCopyEnds i x xs) := by
  change execRowRemapDone i s = _
  simp [execRowRemapDone, copies, runs]

/-- The end of a row copy takes it off the channel's copies, shows and logs it, and asks for its entry in the list. -/
theorem State.rowCopyEnds_eq (s : State) (i : Nat) (x : RowCopy) (xs : List RowCopy) :
    ∃ l r, s.rowCopyEnds i x xs = (({ s.setChan i { s.chan i with copies := xs } with log := l, regs := r }).repairEvt i).toRemapList
      (.row i x.row x.spare) := by
  unfold State.rowCopyEnds
  obtain ⟨l, r, frame⟩ := (s.setChan i { s.chan i with copies := xs }).logPut_eq (.mem
    { event := 0x02, stack := i / 34, channel := if s.chLogical i < 32 then s.chLogical i else 0xFF, physical := i % 34
      bank := x.row / 36864, first := x.row % 36864, last := x.row % 36864 })
  exact ⟨l, r, congrArg (fun t : State => (t.repairEvt i).toRemapList (.row i x.row x.spare)) frame⟩

theorem rowRemapDone_gives {x : RowCopy} {xs : List RowCopy} (copies : (s.chan i).copies = x :: xs)
    (runs : s.repairPaused (i / 34) = false) : Gives (.rowRemapDone i) s fun t =>
      (t.chan i).copies = xs ∧ t.mem.remapToWrite = s.mem.remapToWrite ++ [.row i x.row x.spare] ∧
      t.get F.MEM_CH_STAT_repair_evt i = 1 ∧ t.mem.dram = s.mem.dram := by
  obtain ⟨l, r, ended⟩ := s.rowCopyEnds_eq i x xs
  refine ⟨_, (exec_rowRemapDone copies runs).trans (congrArg _ ended), ?_, rfl, ?_, rfl⟩
  · exact congrArg Chan.copies (s.setChan_same _ _)
  · exact State.put_get_same _ F.MEM_CH_STAT_repair_evt 1 i

end

/-! ## The persistent remap list (R177) -/

section
variable {s : State} {k a b : Nat} {es : List RemapEntry}

/-- A row's entry takes the place of its pending entry. -/
theorem exec_remapListWrite_row (oldest : s.mem.remapToWrite = .row k a b :: es) (room : s.mem.remapList.length < 8192) :
    exec .remapListWrite s = .next { s with mem := { s.mem with
      remapToWrite := es, remapList := (s.mem.remapList.filter fun x => x != .pendingRow k a) ++ [.row k a b] } } := by
  change execRemapListWrite s = _
  have fits := Nat.lt_of_le_of_lt (List.length_filter_le (fun x => x != .pendingRow k a) s.mem.remapList) room
  simp only [execRemapListWrite, oldest, fits, if_true]

theorem remapListWrite_gives (oldest : s.mem.remapToWrite = .row k a b :: es) (room : s.mem.remapList.length < 8192) :
    Gives .remapListWrite s fun t =>
      t.mem.remapToWrite = es ∧ .row k a b ∈ t.mem.remapList ∧ .pendingRow k a ∉ t.mem.remapList ∧
      t = { s with mem := t.mem } ∧ t.mem.dram = s.mem.dram :=
  ⟨_, exec_remapListWrite_row oldest room, rfl, by simp, by simp, rfl, rfl⟩

end

/-! ## The statement -/

/-- Settles O32: each command's part of the stacks' repair, with an idle stack's retrain or repair started where one is asked for. -/
theorem channelRepairs : Obligations.ChannelRepairs := by
  unfold Obligations.ChannelRepairs
  refine ⟨⟨fun s i => retrainPeriodExpire_gives, fun s i j w => channelRetrainReq_gives, fun s ends h => exec_sliceWindow_between h ends,
    fun s => sliceWindow_gives, fun s i lane => dramLaneDegraded_gives, fun s i lane => exec_dramLaneDegraded_known⟩,
    ⟨fun s i j d w reaches asked active idle unqueued running queued =>
        evacuateReq_gives reaches asked active idle unqueued ⟨running, queued⟩,
      fun s i j w => evacuateReq_noSpare, fun s k r => evacuationStep_gives,
      fun s i d active idle unqueued running queued => channelLost_gives active idle unqueued ⟨running, queued⟩,
      fun s k r b => rebuildLine_gives⟩,
    ⟨fun s i => patrolScrub_gives, fun s k g b h => parityHoldExpire_gives, fun s i x xs => rowRemapDone_gives,
      fun s k a b es => remapListWrite_gives⟩⟩

end Sys2Proof.Machine

/-! O2: what the module holds at power-on (R192, Table 0.4). -/

namespace Sys2Proof.Machine

/-- A write to a register store leaves what stands at another key, whatever an unlisted key is read as. -/
theorem putField_get_other (m : SMap Nat) (d : Nat) {f : Fld} {k i : Nat} (v : Nat) (h : k ≠ f.key i) :
    SMap.get d (putField m f v i) k = SMap.get d m k := SMap.get_set_other _ _ _ _ h

/-- A field that no power-on entry writes reads its reset value. -/
theorem State.reset_get_of_unwritten {f : Fld} {i : Nat} (h : f.key i ∉ [F.CTX_valid.key 0, F.CTX_admin.key 0, F.CTX_SHADOW_valid.key 0,
    F.CTX_SHADOW_admin.key 0, F.SEC_FW_STAT_valid.key 0]) : State.reset.get f i = f.reset := by
  simp only [List.mem_cons, List.not_mem_nil, or_false, not_or] at h
  obtain ⟨live, liveAdmin, shadow, shadowAdmin, image⟩ := h
  change SMap.get f.reset powerOnRegs (f.key i) = _
  rw [powerOnRegs, putField_get_other _ _ _ image, putField_get_other _ _ _ shadowAdmin, putField_get_other _ _ _ shadow,
    putField_get_other _ _ _ liveAdmin, putField_get_other _ _ _ live, SMap.get_nil]

/-- Settles O2: the store lists five fields, which are the exceptions, and every other part is at its default. -/
theorem resetState : Obligations.ResetState := by
  unfold Obligations.ResetState
  exact ⟨⟨fun f i => State.reset_get_of_unwritten, by decide, by decide, by decide, by decide⟩,
    rfl, rfl, rfl, rfl, rfl, rfl, rfl, rfl, rfl, fun a => ⟨rfl, rfl, rfl⟩, State.wf_reset⟩

end Sys2Proof.Machine

/-! O5: register writes that the device ignores, and the set-up lock (R14, R189, R191). -/

namespace Sys2Proof.Machine

/-! ## Writes that reach no register (R189, R191) -/

section
variable {s : State} {r : RegName} {i : Nat} {w : BarAcc}

theorem exec_registerWrite_of_misaligned (up : s.hubUp = true) (h : w.aligned = false) :
    exec (.registerWrite r i w) s = .next s.badAccess := by
  change execRegisterWrite r i w s = _
  simp [execRegisterWrite, State.onWrite, up, h]

theorem exec_registerWrite_of_hubDown (down : s.hubUp = false) : exec (.registerWrite r i w) s = .next s := by
  change execRegisterWrite r i w s = _
  simp [execRegisterWrite, State.onWrite, down]

theorem exec_registerWrite_of_notHeld (notHeld : s.regIx r w.fn i = none) (h : w.aligned = true) :
    exec (.registerWrite r i w) s = .next s := by
  change execRegisterWrite r i w s = _
  cases up : s.hubUp <;> simp [execRegisterWrite, State.onWrite, up, h, notHeld]

end

/-- A count rises by one until it is at its field's largest value. -/
theorem State.bump_get_same (s : State) (f : Fld) (i : Nat) : (s.bump f 1 i).get f i = min (2 ^ f.width - 1) (s.get f i + 1) := by
  have pos := Nat.two_pow_pos f.width
  rw [State.bump, State.put_get_same, satAdd, Nat.min_comm, Nat.mod_eq_of_lt (by omega)]

/-! ## The set-up lock (R14, R409) -/

/-- A measurement changes the list of measurements and what a log entry changes. -/
theorem State.measure_eq (s : State) (i : Nat) (content : List Nat) :
    ∃ r m l, s.measure i content = { s with regs := r, mgmt := m, log := l } := by
  simp only [State.measure]
  split
  · obtain ⟨l, r, logged⟩ := State.logEvent_eq { s with mgmt := { s.mgmt with meas := SMap.set [] s.mgmt.meas i content } } 0x0014 0 [i]
    exact ⟨r, _, l, logged⟩
  · exact ⟨s.regs, _, s.log, rfl⟩

theorem State.measure_get (s : State) (i : Nat) (content : List Nat) {f : Fld} (hf : f.offLog = true) (j : Nat) :
    (s.measure i content).get f j = s.get f j := by
  simp only [State.measure]
  split
  · exact State.logEvent_get _ _ _ _ hf j
  · rfl

/-- The lock set, and the measurement of it taken. -/
def State.lockSetup (s : State) : State := (s.put F.HUB_SETUP_LOCK_locked 1 0).measureLock

theorem State.lockSetup_locked (s : State) : s.lockSetup.setupLocked = true := by
  have set : s.lockSetup.get F.HUB_SETUP_LOCK_locked 0 = 1 :=
    (State.measure_get _ _ _ (by decide) _).trans (s.put_get_same F.HUB_SETUP_LOCK_locked 1 0)
  simp only [State.setupLocked, State.isSet, set]
  decide

/-- What a write of the lock's register does once it has reached it. -/
def State.writeSetupLock (s : State) (w : BarAcc) : State :=
  if w.touches F.HUB_SETUP_LOCK_locked && w.bits F.HUB_SETUP_LOCK_locked == 1 then s.lockSetup else s

theorem exec_setupLockWrite (w : BarAcc) (s : State) :
    exec (.setupLockWrite w) s = .next (s.onWrite .HUB_SETUP_LOCK 0 w fun _ => s.writeSetupLock w) := rfl

theorem setupLockWrite_sets {w : BarAcc} {s : State} (hr : Reaches s .HUB_SETUP_LOCK 0 w 0)
    (ht : w.touches F.HUB_SETUP_LOCK_locked = true) (one : w.bits F.HUB_SETUP_LOCK_locked = 1) : Gives (.setupLockWrite w) s fun t =>
      t.setupLocked = true ∧ t = { s with regs := t.regs, mgmt := t.mgmt, log := t.log } := by
  refine ⟨s.lockSetup, ?_, s.lockSetup_locked, ?_⟩
  · rw [exec_setupLockWrite, hr.onWrite, State.writeSetupLock, if_pos (by simp [ht, one])]
  · obtain ⟨r, m, l, measured⟩ := (s.put F.HUB_SETUP_LOCK_locked 1 0).measure_eq 5
      [(s.put F.HUB_SETUP_LOCK_locked 1 0).get F.HUB_SETUP_LOCK_locked 0, (s.put F.HUB_SETUP_LOCK_locked 1 0).mgmt.frozenReads]
    change s.lockSetup = _ at measured
    rw [measured]
    rfl

/-- No write clears the lock: each leaves the state, counts a bad access, or sets the lock. -/
theorem setupLockWrite_keeps_locked {w : BarAcc} {s t : State} (locked : s.setupLocked = true)
    (ran : exec (.setupLockWrite w) s = .next t) : t.setupLocked = true := by
  rw [exec_setupLockWrite] at ran
  cases ran
  rcases s.onWrite_cases .HUB_SETUP_LOCK 0 w fun _ => s.writeSetupLock w with same | counted | ⟨j, -, -, -, -, -, taken⟩
  · rw [same, locked]
  · rw [counted, s.badAccess_onlyRegs.setupLocked (by decide), locked]
  · rw [taken, State.writeSetupLock]
    split
    · exact s.lockSetup_locked
    · exact locked

/-- A write that reaches an RWL field behind the lock leaves the field and is counted once, whatever else the register holds. -/
theorem registerWrite_blocked {r : RegName} {i j : Nat} {w : BarAcc} {s : State} {f : Fld} (hr : Reaches s r i w j)
    (ho : r.ownRow = false) (hs : r.shadowUnit = none) (hf : f ∈ r.fields) (ha : f.acc = .RWL) (ht : w.touches f = true)
    (locked : s.setupLocked = true) : Gives (.registerWrite r i w) s fun t =>
      t.get f j = s.get f j ∧
      t.get F.HUB_SETUP_LOCK_blocked_writes 0 = min (2 ^ 16 - 1) (s.get F.HUB_SETUP_LOCK_blocked_writes 0 + 1) := by
  refine ⟨_, hr.exec_registerWrite ho, ?_, ?_⟩
  · rw [s.writeReg_get j w hs ho hf, s.writeField_of_locked s ha locked]
  · have blocks : s.blocksWrite r w = true := by
      simpa [State.blocksWrite, locked] using ⟨f, hf, ha, ht⟩
    rw [s.writeReg_eq j w hs, if_pos blocks]
    refine (State.bump_get_same _ F.HUB_SETUP_LOCK_blocked_writes 0).trans ?_
    rw [(State.writeFields_onlyRegs s w j r.fields s).get_eq (Fld.key_zero_notMem (by decide) (RegName.setupLock_codes_notMem ho).2)]
    rfl

/-! ## The statement -/

/-- Settles O5: the access gate ignores what reaches no register, and past it the lock is only ever set. -/
theorem registerWriteRefused : Obligations.RegisterWriteRefused := by
  unfold Obligations.RegisterWriteRefused
  exact ⟨fun r i w s => ⟨fun up misaligned => ⟨_, exec_registerWrite_of_misaligned up misaligned, s.badAccess_onlyRegs,
        s.bump_get_same F.HUB_SETUP_LOCK_bad_accesses 0⟩, exec_registerWrite_of_hubDown, exec_registerWrite_of_notHeld⟩,
    fun w s => setupLockWrite_sets, fun w s t => setupLockWrite_keeps_locked, fun r i j w s f => registerWrite_blocked⟩

end Sys2Proof.Machine

/-! SUPPORT. Work beside changes of other parts: what a unit sees of it, and its end in a state that has gone on (R201). -/

namespace Sys2Proof.Machine

section
variable {s u : State} {w : Work} {it : Item}

/-- What a unit sees of work rests on queues, graph slots, the hub scratchpad and the place of the graph store. -/
theorem State.item_congr (queues : u.queues = s.queues) (graphs : u.graphs = s.graphs) (hub : u.hubsp = s.hubsp)
    (store : u.get F.HUB_GRAPH_STORE_base_mib 0 = s.get F.HUB_GRAPH_STORE_base_mib 0) : u.item w = s.item w := by
  cases w <;> simp only [State.item, State.queue, State.graph, State.nodeBytes, State.graphStore, queues, graphs, hub, store]

/-- Work stands in the same phase wherever queues and graph slots are the same, whatever its graph's nodes then hold. -/
theorem State.item_phase_of_same (h : s.item w = some it) (queues : u.queues = s.queues) (graphs : u.graphs = s.graphs) :
    ∃ it', u.item w = some it' ∧ it'.phase = it.phase := by
  cases w with
  | desc n i =>
    obtain ⟨e, found, rfl⟩ := State.item_desc_iff.1 h
    exact ⟨e.item, State.item_desc_iff.2 ⟨e, by rw [State.queue, queues]; exact found, rfl⟩, rfl⟩
  | node g k i =>
    obtain ⟨x, found, rfl⟩ := State.item_node_iff.1 h
    exact ⟨u.instItem g x, State.item_node_iff.2 ⟨x, by rw [State.graph, graphs]; exact found, rfl⟩, rfl⟩

/-- Live work that other parts have changed around shows the result it is ended with. -/
theorem State.finish_resultOf (h : s.item w = some it) (live : it.phase ≠ .ended) (queues : u.queues = s.queues)
    (graphs : u.graphs = s.graphs) (st : Status) (d : Nat) : (u.finish w st d).resultOf w = some ⟨st, d⟩ := by
  obtain ⟨it', found, phase⟩ := State.item_phase_of_same h queues graphs
  exact (State.finish_endedAs found (phase ▸ live) st d).2

/-- Work that a change before its end leaves as it stands is ended as from the state before the change. -/
theorem State.finish_endedAs_of_item (same : u.item w = s.item w) (h : s.item w = some it) (live : it.phase ≠ .ended) (st : Status)
    (d : Nat) : EndedAs s (u.finish w st d) w st d := by
  obtain ⟨⟨it', before, after⟩, result⟩ := State.finish_endedAs (same.trans h) live st d
  exact ⟨⟨it', same ▸ before, after⟩, result⟩

theorem State.item_of_running {op : Nat} (h : s.running w op = some it) : s.item w = some it ∧ it.phase = .busy := by
  unfold State.running at h
  split at h
  · cases h
  · split at h
    next found ok => cases h; exact ⟨found, ok.2⟩
    · cases h

end

end Sys2Proof.Machine

/-! O11: sync objects through BAR2 and by descriptors (R195, R205). -/

namespace Sys2Proof.Machine

/-! ## SYNC_OBJECT_WRITE (R195) -/

theorem syncObjectWrite_gives {s : State} {fn : Fin 16} {obj : Fin 262144} {v : BitVec 64} (up : s.hubUp = true)
    (owns : s.ownsSync fn obj = true) (held : s.syncVal obj < 2 ^ 64) : Gives (.syncObjectWrite fn obj 8 v) s fun t =>
      t.syncVal obj = max (s.syncVal obj) v.toNat ∧ (∀ o, o ≠ obj.val → t.syncVal o = s.syncVal o) ∧ t = { s with sync := t.sync } := by
  refine ⟨s.syncSet obj v.toNat, ?_, ?_, fun o ho => s.syncSet_other _ ho, rfl⟩
  · change execSyncObjectWrite fn obj 8 v s = _
    simp only [execSyncObjectWrite, up, owns, and_self, if_true]
  · rw [s.syncSet_same, Nat.mod_eq_of_lt (max_lt held v.isLt)]

theorem exec_syncObjectWrite_half (s : State) (fn : Fin 16) (obj : Fin 262144) (v : BitVec 64) :
    exec (.syncObjectWrite fn obj 4 v) s = .next s := by
  change execSyncObjectWrite fn obj 4 v s = _
  simp [execSyncObjectWrite]

/-! ## SYNC_SIGNAL (Table 7.18) -/

section
variable {s u : State} {w : Work} {it : Item}

theorem exec_syncSignal_set (h : s.fresh w 0x07 = some it) (mode : fieldAt it.payload 4 1 = 0) :
    exec (.syncSignal w) s = .next ((s.syncSet (fieldAt it.payload 0 4) (fieldAt it.payload 8 8)).finish w .ok 0) := by
  change execSyncSignal w s = _
  simp only [execSyncSignal, h, mode, if_true]

theorem exec_syncSignal_add (h : s.fresh w 0x07 = some it) (mode : fieldAt it.payload 4 1 = 1) :
    exec (.syncSignal w) s = .next ((s.syncAdd (fieldAt it.payload 0 4) (fieldAt it.payload 8 8)).finish w .ok 0) := by
  change execSyncSignal w s = _
  simp only [execSyncSignal, h, mode, if_true, Nat.one_ne_zero, if_false]

/-- Work ended after a change of sync objects alone: the objects are as changed, and the work is ended as from before. -/
theorem finish_after_sync (h : s.fresh w 0x07 = some it) (changed : u = { s with sync := u.sync }) :
    (∀ o, (u.finish w .ok 0).syncVal o = u.syncVal o) ∧ EndedAs s (u.finish w .ok 0) w .ok 0 ∧
    u.finish w .ok 0 = { s with sync := (u.finish w .ok 0).sync, queues := (u.finish w .ok 0).queues,
                                graphs := (u.finish w .ok 0).graphs } := by
  obtain ⟨found, phase⟩ := State.item_of_fresh h
  have same : u.item w = s.item w := by
    rw [changed]
    exact State.item_congr rfl rfl rfl rfl
  have ended := State.finish_endedAs_of_item same found (by simp [phase]) .ok 0
  obtain ⟨q, g, frame⟩ := u.finish_eq w .ok 0
  refine ⟨fun o => by rw [frame]; rfl, ended, ?_⟩
  rw [frame, changed]

theorem syncSignal_set_gives (h : s.fresh w 0x07 = some it) (mode : fieldAt it.payload 4 1 = 0) : Gives (.syncSignal w) s fun t =>
    t.syncVal (fieldAt it.payload 0 4) = max (s.syncVal (fieldAt it.payload 0 4)) (fieldAt it.payload 8 8) % 2 ^ 64 ∧
    (∀ o, o ≠ fieldAt it.payload 0 4 → t.syncVal o = s.syncVal o) ∧ EndedAs s t w .ok 0 ∧
    t = { s with sync := t.sync, queues := t.queues, graphs := t.graphs } := by
  obtain ⟨values, ended⟩ := finish_after_sync (u := s.syncSet (fieldAt it.payload 0 4) (fieldAt it.payload 8 8)) h rfl
  exact ⟨_, exec_syncSignal_set h mode, (values _).trans (s.syncSet_same _ _), fun o ho => (values o).trans (s.syncSet_other _ ho), ended⟩

theorem syncSignal_add_gives (h : s.fresh w 0x07 = some it) (mode : fieldAt it.payload 4 1 = 1) : Gives (.syncSignal w) s fun t =>
    t.syncVal (fieldAt it.payload 0 4) = (s.syncVal (fieldAt it.payload 0 4) + fieldAt it.payload 8 8) % 2 ^ 64 ∧
    (∀ o, o ≠ fieldAt it.payload 0 4 → t.syncVal o = s.syncVal o) ∧ EndedAs s t w .ok 0 ∧
    t = { s with sync := t.sync, queues := t.queues, graphs := t.graphs } := by
  obtain ⟨values, ended⟩ := finish_after_sync (u := s.syncAdd (fieldAt it.payload 0 4) (fieldAt it.payload 8 8)) h rfl
  exact ⟨_, exec_syncSignal_add h mode, (values _).trans (s.syncAdd_same _ _), fun o ho => (values o).trans (s.syncAdd_other _ ho), ended⟩

/-! ## SYNC_WAIT and its limit (R205) -/

theorem exec_syncWait (h : s.fresh w 0x08 = some it) : exec (.syncWait w) s = .next
    (if fieldAt it.payload 8 8 ≤ s.syncVal (fieldAt it.payload 0 4) then s.finish w .ok 0 else s.begin_ w) := by
  change execSyncWait w s = _
  simp only [execSyncWait, h, Option.some_or]

/-- A value not yet reached leaves the wait at its unit. -/
theorem syncWait_waits (h : s.fresh w 0x08 = some it) (short : s.syncVal (fieldAt it.payload 0 4) < fieldAt it.payload 8 8) :
    Gives (.syncWait w) s fun t =>
      t.item w = some { it with phase := .busy } ∧ t = { s with queues := t.queues, graphs := t.graphs } := by
  obtain ⟨q, g, frame⟩ := s.setPhase_eq w .busy
  refine ⟨s.setPhase w .busy, ?_, State.setPhase_item (State.item_of_fresh h).1 .busy, by rw [frame]⟩
  rw [exec_syncWait h, if_neg (by omega), State.begin_]

theorem syncWaitTimeout_gives (h : s.running w 0x08 = some it) (limit : fieldAt it.payload 16 4 ≠ 0) : Gives (.syncWaitTimeout w) s fun t =>
    EndedAs s t w .eTimeout 0 ∧ it.since + fieldAt it.payload 16 4 * 1000 ≤ t.time ∧
    t = { s with time := t.time, queues := t.queues, graphs := t.graphs } := by
  obtain ⟨found, phase⟩ := State.item_of_running h
  let u := s.due (it.since + fieldAt it.payload 16 4 * 1000)
  obtain ⟨q, g, frame⟩ := u.finish_eq w .eTimeout 0
  refine ⟨u.finish w .eTimeout 0, ?_, State.finish_endedAs_of_item (u := u) (State.item_congr rfl rfl rfl rfl) found (by simp [phase]) _ _,
    ?_, ?_⟩
  · change execSyncWaitTimeout w s = _
    simp only [execSyncWaitTimeout, h, limit, if_false, u]
  · rw [frame]
    exact Nat.le_max_right _ _
  · rw [frame]
    rfl

end

/-! ## The statement -/

/-- Settles O11: a write or a signal is one set or add of its object, and a wait ends by its object's value or at its limit. -/
theorem syncObjects : Obligations.SyncObjects := by
  unfold Obligations.SyncObjects
  exact ⟨fun s fn obj v => syncObjectWrite_gives, exec_syncObjectWrite_half,
    fun s w it h => ⟨syncSignal_set_gives h, syncSignal_add_gives h⟩,
    fun s w it h => ⟨fun reached => State.finish_gives h ((exec_syncWait h).trans (by rw [if_pos reached])), syncWait_waits h⟩,
    fun s w it => syncWaitTimeout_gives⟩

end Sys2Proof.Machine

/-! O24: the hub's copies and fills within its own scratchpad (R193, R206, Table 7.17). -/

namespace Sys2Proof.Machine

/-! ## Bytes written, and the bytes of a pattern -/

theorem Mem.writeOut_byte (m : Mem) (a : Nat) (r : ReadOut) (j : Nat) :
    (m.writeOut a r).byte j = if a ≤ j ∧ j < a + r.bytes.length then r.bytes.getD (j - a) 0 else m.byte j := by
  rw [Mem.writeOut, foldl_mark_byte, Mem.byte_write]

@[simp] theorem length_leBytes (n v : Nat) : (leBytes n v).length = n := by
  induction n generalizing v with
  | zero => rfl
  | succ n ih => exact congrArg (· + 1) (ih (v / 256))

/-- A place in a repeated pattern holds the pattern's byte at the place modulo its length. -/
theorem getD_flatten_replicate {α : Type} (d : α) (p : List α) (n : Nat) :
    ∀ {k : Nat}, k < n * p.length → (List.replicate n p).flatten.getD k d = p.getD (k % p.length) d := by
  induction n with
  | zero => intro k h; omega
  | succ n ih =>
    intro k h
    rw [List.replicate_succ, List.flatten_cons]
    by_cases first : k < p.length
    · rw [List.getD_append _ _ _ _ first, Nat.mod_eq_of_lt first]
    · have rest : k - p.length < n * p.length := by rw [Nat.succ_mul] at h; omega
      rw [List.getD_append_right _ _ _ _ (by omega), ih rest, Nat.mod_eq_sub_mod (a := k) (by omega)]

/-! ## Checks of a COPY or FILL (Table 7.17) -/

/-- A fill of legal format is a number of whole patterns. -/
theorem fill_len_of_format {b : List Byte} (h : copyFormat true b = none) : fieldAt b 16 8 % 8 = 0 := by
  unfold copyFormat at h
  have checks := List.find?_eq_none.1 (Option.map_eq_none_iff.1 h)
  have len := checks _ (.tail _ (.head _))
  simp only [Bool.true_and, Bool.or_eq_true, not_or, bne_iff_ne, ne_eq, not_not] at len
  exact len.2

section
variable {s : State} {w : Work} {it : Item} {e : Nat}

/-- Hub copy engine e takes the work of context x now: it is the free one, no earlier copy goes first, and nothing holds back new work. -/
structure EngineTakes (s : State) (w : Work) (x e : Nat) : Prop where
  engine : s.freeEngine x = some e
  first : s.copyAhead w = false
  quiet : s.quiescing = false
  noStop : s.stopActive = false

theorem State.hubEndOk_hub (s : State) (c : Ctx) (a n : Nat) (write : Bool) : s.hubEndOk c 2 a n write = c.mayHub a n := rfl

theorem exec_copy_of_illFormed {data : List Byte} (h : s.fresh w 0x03 = some it) {d : Nat} (bad : copyFormat false it.payload = some d) :
    exec (.copy w data) s = .next (s.finish w .eFormat d) := by
  change execCopy w data s = _
  simp only [execCopy, h, bad]

theorem exec_copy_of_outside {data : List Byte} (h : s.fresh w 0x03 = some it) (ok : copyFormat false it.payload = none)
    (ss : fieldAt it.payload 24 1 = 2) (ds : fieldAt it.payload 25 1 = 2)
    (outside : (it.ctx.mayHub (fieldAt it.payload 0 8) (fieldAt it.payload 16 8) &&
      it.ctx.mayHub (fieldAt it.payload 8 8) (fieldAt it.payload 16 8)) = false) :
    exec (.copy w data) s = .next (s.finish w .eBounds 0) := by
  change execCopy w data s = _
  simp only [execCopy, h, ok, ss, ds, State.hubEndOk_hub]
  rw [if_pos (by rw [← Bool.not_and, outside]; rfl)]

/-- Host data of another length than the copy's is no operand of the command. -/
theorem exec_copy_of_wrongData {data : List Byte} (h : s.fresh w 0x03 = some it) (ok : copyFormat false it.payload = none)
    (src : s.hubEndOk it.ctx 1 (fieldAt it.payload 0 8) (fieldAt it.payload 16 8) false = true)
    (dst : s.hubEndOk it.ctx (fieldAt it.payload 25 1) (fieldAt it.payload 8 8) (fieldAt it.payload 16 8) true = true)
    (ss : fieldAt it.payload 24 1 = 1) (len : data.length ≠ fieldAt it.payload 16 8) :
    exec (.copy w data) s = .fault .illFormed := by
  change execCopy w data s = _
  simp only [execCopy, h, ok, ss, src, dst, len, Bool.not_true, Bool.or_self, Bool.false_eq_true, if_false, ne_eq, not_false_eq_true,
    and_self, if_true]

theorem exec_copy_of_hub (h : s.fresh w 0x03 = some it) (ok : copyFormat false it.payload = none) (ss : fieldAt it.payload 24 1 = 2)
    (ds : fieldAt it.payload 25 1 = 2) (src : it.ctx.mayHub (fieldAt it.payload 0 8) (fieldAt it.payload 16 8) = true)
    (dst : it.ctx.mayHub (fieldAt it.payload 8 8) (fieldAt it.payload 16 8) = true) (takes : EngineTakes s w it.ctxId e) :
    exec (.copy w []) s = .next (s.hubCopy w it.ctxId e (.inl (.here (.hub (fieldAt it.payload 0 8))))
      (.here (.hub (fieldAt it.payload 8 8))) (fieldAt it.payload 16 8)) := by
  change execCopy w [] s = _
  have place (a n : Nat) : s.hubEnd 2 a n = .here (.hub a) := rfl
  simp only [execCopy, h, ok, ss, ds, State.hubEndOk_hub, src, dst, takes.engine, place, State.endHeld, takes.first, takes.quiet,
    takes.noStop, Bool.not_true, Bool.or_self, Bool.false_eq_true, if_false, Nat.reduceEqDiff, false_and]

theorem exec_fill_of_hub (h : s.fresh w 0x04 = some it) (ok : copyFormat true it.payload = none) (ds : fieldAt it.payload 25 1 = 2)
    (dst : it.ctx.mayHub (fieldAt it.payload 8 8) (fieldAt it.payload 16 8) = true) (takes : EngineTakes s w it.ctxId e) :
    exec (.fill w) s = .next (s.hubCopy w it.ctxId e
      (.inr (List.replicate (fieldAt it.payload 16 8 / 8) (leBytes 8 (fieldAt it.payload 0 8))).flatten)
      (.here (.hub (fieldAt it.payload 8 8))) (fieldAt it.payload 16 8)) := by
  change execFill w s = _
  have place (a n : Nat) : s.hubEnd 2 a n = .here (.hub a) := rfl
  simp only [execFill, h, ok, ds, State.hubEndOk_hub, dst, takes.engine, place, State.endHeld, takes.first, takes.quiet, takes.noStop,
    Bool.not_true, Bool.or_self, Bool.false_eq_true, if_false]

/-! ## A copy into the hub scratchpad -/

/-- Engine e takes the work, writes r at dst of the hub scratchpad and ends the work. -/
def State.copyIntoHub (s : State) (w : Work) (ctxId e dst len : Nat) (r : ReadOut) : State :=
  ((((((s.begin_ w).engTake (16 + e) ctxId).setHub (s.hubsp.writeOut dst r)).engAdvance (16 + e) (ceilDiv len 2048)).finish w
    (if r.poisoned then .ePoison else .ok) 0).engRelease (16 + e) ctxId)

theorem State.begun_eq (s : State) (w : Work) (e x : Nat) : ∃ r m, (s.begin_ w).engTake e x =
    { s with regs := r, engines := m, queues := (s.begin_ w).queues, graphs := (s.begin_ w).graphs } := by
  obtain ⟨q, g, begun⟩ := s.setPhase_eq w .busy
  obtain ⟨r, m, taken⟩ := (s.begin_ w).engTake_eq e x
  refine ⟨r, m, ?_⟩
  rw [taken, State.begin_, begun]

theorem State.begun_hubsp (s : State) (w : Work) (e x : Nat) : ((s.begin_ w).engTake e x).hubsp = s.hubsp := by
  obtain ⟨r, m, begun⟩ := s.begun_eq w e x
  rw [begun]

theorem State.hubCopy_of_bytes (s : State) (w : Work) (x e dst len : Nat) (bytes : List Byte) :
    s.hubCopy w x e (.inr bytes) (.here (.hub dst)) len = s.copyIntoHub w x e dst len ⟨bytes, []⟩ := by
  rw [State.copyIntoHub, ← s.begun_hubsp w (16 + e) x]
  rfl

theorem State.hubCopy_of_hub (s : State) (w : Work) (x e src dst len : Nat) :
    s.hubCopy w x e (.inl (.here (.hub src))) (.here (.hub dst)) len = s.copyIntoHub w x e dst len (s.hubsp.readOut src len) := by
  rw [State.copyIntoHub, ← s.begun_hubsp w (16 + e) x]
  rfl

/-- What was read without poison is written, the work ends with OK, and no other memory and no output changes. -/
theorem State.copyIntoHub_gives (h : s.item w = some it) (x dst len : Nat) {r : ReadOut} (clean : r.poisoned = false) :
    let t := s.copyIntoHub w x e dst len r
    t.hubsp = s.hubsp.writeOut dst r ∧ t.resultOf w = some ⟨.ok, 0⟩ ∧ t.mem = s.mem ∧ t.spad = s.spad ∧ t.out = s.out := by
  intro t
  obtain ⟨r1, m1, begun⟩ := s.begun_eq w (16 + e) x
  obtain ⟨r2, m2, advanced⟩ :=
    (((s.begin_ w).engTake (16 + e) x).setHub (s.hubsp.writeOut dst r)).engAdvance_eq (16 + e) (ceilDiv len 2048)
  generalize hu : (((s.begin_ w).engTake (16 + e) x).setHub (s.hubsp.writeOut dst r)).engAdvance (16 + e) (ceilDiv len 2048) = u
    at advanced
  rw [begun] at advanced
  obtain ⟨q, g, finished⟩ := u.finish_eq w .ok 0
  obtain ⟨r3, m3, released⟩ := (u.finish w .ok 0).engRelease_eq (16 + e) x
  have whole : t = (u.finish w .ok 0).engRelease (16 + e) x := by
    simp only [t, State.copyIntoHub, hu, clean, Bool.false_eq_true, if_false]
  have result : (u.finish w .ok 0).resultOf w = some ⟨.ok, 0⟩ :=
    State.finish_resultOf (s := s.begin_ w) (State.setPhase_item h .busy) (by simp) (by rw [advanced]; rfl) (by rw [advanced]; rfl) _ _
  refine ⟨?_, ?_, ?_, ?_, ?_⟩
  · rw [whole, released, finished, advanced]
    rfl
  · rw [whole, released]
    exact result
  all_goals
    rw [whole, released, finished, advanced]
    rfl

theorem copy_gives (h : s.fresh w 0x03 = some it) (ok : copyFormat false it.payload = none) (ss : fieldAt it.payload 24 1 = 2)
    (ds : fieldAt it.payload 25 1 = 2) (src : it.ctx.mayHub (fieldAt it.payload 0 8) (fieldAt it.payload 16 8) = true)
    (dst : it.ctx.mayHub (fieldAt it.payload 8 8) (fieldAt it.payload 16 8) = true) (takes : EngineTakes s w it.ctxId e)
    (clean : (s.hubsp.readOut (fieldAt it.payload 0 8) (fieldAt it.payload 16 8)).poisoned = false) : Gives (.copy w []) s fun t =>
      (∀ k < fieldAt it.payload 16 8, t.hubsp.byte (fieldAt it.payload 8 8 + k) = s.hubsp.byte (fieldAt it.payload 0 8 + k)) ∧
      (∀ j, j < fieldAt it.payload 8 8 ∨ fieldAt it.payload 8 8 + fieldAt it.payload 16 8 ≤ j → t.hubsp.byte j = s.hubsp.byte j) ∧
      t.resultOf w = some ⟨.ok, 0⟩ ∧ t.mem = s.mem ∧ t.spad = s.spad ∧ t.out = s.out := by
  have ran := (exec_copy_of_hub h ok ss ds src dst takes).trans (congrArg _ (s.hubCopy_of_hub _ _ _ _ _ _))
  obtain ⟨hub, rest⟩ := State.copyIntoHub_gives (e := e) (State.item_of_fresh h).1 it.ctxId (fieldAt it.payload 8 8)
    (fieldAt it.payload 16 8) clean
  refine ⟨_, ran, fun k hk => ?_, fun j hj => ?_, rest⟩
  · rw [hub, Mem.writeOut_readOut_byte, if_pos (by omega), Nat.add_sub_cancel_left]
  · rw [hub, Mem.writeOut_readOut_byte, if_neg (by omega)]

theorem fill_gives (h : s.fresh w 0x04 = some it) (ok : copyFormat true it.payload = none) (ds : fieldAt it.payload 25 1 = 2)
    (dst : it.ctx.mayHub (fieldAt it.payload 8 8) (fieldAt it.payload 16 8) = true) (takes : EngineTakes s w it.ctxId e) : Gives (.fill w) s fun t =>
      (∀ k < fieldAt it.payload 16 8, t.hubsp.byte (fieldAt it.payload 8 8 + k) =
        (leBytes 8 (fieldAt it.payload 0 8)).getD (k % 8) 0) ∧
      (∀ j, j < fieldAt it.payload 8 8 ∨ fieldAt it.payload 8 8 + fieldAt it.payload 16 8 ≤ j → t.hubsp.byte j = s.hubsp.byte j) ∧
      t.resultOf w = some ⟨.ok, 0⟩ ∧ t.mem = s.mem ∧ t.spad = s.spad ∧ t.out = s.out := by
  have ran := (exec_fill_of_hub h ok ds dst takes).trans (congrArg _ (s.hubCopy_of_bytes _ _ _ _ _ _))
  have whole : fieldAt it.payload 16 8 / 8 * 8 = fieldAt it.payload 16 8 := Nat.div_mul_cancel (Nat.dvd_of_mod_eq_zero (fill_len_of_format ok))
  generalize hp : leBytes 8 (fieldAt it.payload 0 8) = p at ran ⊢
  have pattern : p.length = 8 := hp ▸ length_leBytes 8 _
  have len : (List.replicate (fieldAt it.payload 16 8 / 8) p).flatten.length = fieldAt it.payload 16 8 := by
    rw [List.length_flatten, List.map_replicate, List.sum_replicate, pattern, smul_eq_mul, whole]
  obtain ⟨hub, rest⟩ := State.copyIntoHub_gives (e := e) (State.item_of_fresh h).1 it.ctxId (fieldAt it.payload 8 8)
    (fieldAt it.payload 16 8) (r := ⟨(List.replicate (fieldAt it.payload 16 8 / 8) p).flatten, []⟩) rfl
  refine ⟨_, ran, fun k hk => ?_, fun j hj => ?_, rest⟩
  · rw [hub, Mem.writeOut_byte, len, if_pos (by omega), Nat.add_sub_cancel_left, getD_flatten_replicate _ _ _ (by rwa [pattern, whole]), pattern]
  · rw [hub, Mem.writeOut_byte, len, if_neg (by omega)]

end

/-! ## The statement -/

/-- Settles O24: an accepted copy or fill is one write of the bytes read into the hub scratchpad on the engine that takes the work. -/
theorem hubCopies : Obligations.HubCopies := by
  unfold Obligations.HubCopies
  exact ⟨fun s w it e h => ⟨fun d bad => State.finish_gives h (exec_copy_of_illFormed h bad),
      fun ok ss ds outside => State.finish_gives h (exec_copy_of_outside h ok ss ds outside),
      fun ok ss ds src dst engine first quiet noStop => copy_gives h ok ss ds src dst ⟨engine, first, quiet, noStop⟩,
      fun data => exec_copy_of_wrongData h⟩,
    fun s w it e h ok ds dst engine first quiet noStop => fill_gives h ok ds dst ⟨engine, first, quiet, noStop⟩⟩

end Sys2Proof.Machine

/-! O9: the fetch of descriptors, the end of their read, and the dispatch of the next one (R199, R200). -/

namespace Sys2Proof.Machine

/-! ## DESCRIPTOR_FETCH (R199) -/

theorem State.emit_of_host_up {s : State} (o : Out) (up : s.host.up = true) : s.emit o = { s with out := o :: s.out } := by
  rw [State.emit, up, Bool.not_true, Bool.and_false, if_neg Bool.false_ne_true]

theorem State.host_up_of_mayFetch {s : State} (h : s.mayFetch = true) : s.host.up = true := by
  simp only [State.mayFetch, Bool.and_eq_true] at h
  obtain ⟨⟨⟨⟨⟨-, up⟩, -⟩, -⟩, -⟩, -⟩ := h
  exact up

/-- The descriptors that one read of queue n brings: at most 8, up to the tail, and not past the ring's end. -/
def State.fetchCount (s : State) (n : Nat) : Nat :=
  min 8 (min (ringDist (s.ringSize n) (s.get F.HUB_Q_STAT_head n) (s.get F.HUB_Q_STAT_tail n))
    (s.ringSize n - s.get F.HUB_Q_STAT_head n))

/-- Queue n with its read under way and its head past what is read. -/
def State.fetching (s : State) (n : Nat) : State :=
  ({ s with served := SMap.set 0 s.served (s.get F.HUB_Q_CFG_priority n) n }.setQueue n
    { s.queue n with reading := some (s.get F.HUB_Q_STAT_head n, s.fetchCount n) }).put F.HUB_Q_STAT_head
    ((s.get F.HUB_Q_STAT_head n + s.fetchCount n) % s.ringSize n) n

theorem exec_descriptorFetch {s : State} {n : Nat} (may : s.mayFetch = true) (pick : s.pickQueue = some n) :
    exec .descriptorFetch s = .next { s.fetching n with
      out := .hostRead n (s.get F.HUB_Q_BASE_base n * 4096 + 64 * s.get F.HUB_Q_STAT_head n) (64 * s.fetchCount n) :: s.out } := by
  have base : (s.fetching n).get F.HUB_Q_BASE_base n = s.get F.HUB_Q_BASE_base n := by
    simp (disch := decide) only [State.fetching, State.put_get_apart]
    rfl
  have sent : (s.fetching n).emit (.hostRead n ((s.fetching n).get F.HUB_Q_BASE_base n * 4096 + 64 * s.get F.HUB_Q_STAT_head n)
      (64 * s.fetchCount n)) = { s.fetching n with
        out := .hostRead n (s.get F.HUB_Q_BASE_base n * 4096 + 64 * s.get F.HUB_Q_STAT_head n) (64 * s.fetchCount n) :: s.out } := by
    have up : (s.fetching n).host.up = true := State.host_up_of_mayFetch (s := s) may
    rw [State.emit_of_host_up _ up, base]
    rfl
  change execDescriptorFetch s = _
  simp only [execDescriptorFetch, may, pick, Bool.not_true, Bool.false_eq_true, if_false]
  exact congrArg Host.Outcome.next sent

theorem descriptorFetch_gives {s : State} {n : Nat} (may : s.mayFetch = true) (pick : s.pickQueue = some n) :
    Gives .descriptorFetch s fun t =>
      t.out = .hostRead n (s.get F.HUB_Q_BASE_base n * 4096 + 64 * s.get F.HUB_Q_STAT_head n) (64 * s.fetchCount n) :: s.out ∧
      (t.queue n).reading = some (s.get F.HUB_Q_STAT_head n, s.fetchCount n) ∧ (t.queue n).ents = (s.queue n).ents ∧
      t.get F.HUB_Q_STAT_head n = (s.get F.HUB_Q_STAT_head n + s.fetchCount n) % s.ringSize n % 2 ^ 16 ∧
      t = { s with regs := t.regs, queues := t.queues, served := t.served, out := t.out } ∧
      KeepsRegs [F.HUB_Q_STAT_head.key n] s t := by
  have own : (s.fetching n).queue n = { s.queue n with reading := some (s.get F.HUB_Q_STAT_head n, s.fetchCount n) } :=
    State.setQueue_same _ _ _
  exact ⟨_, exec_descriptorFetch may pick, rfl, (congrArg Queue.reading own :), (congrArg Queue.ents own :),
    State.put_get_same _ _ _ _, rfl, (s.put_onlyRegs F.HUB_Q_STAT_head _ n).2⟩

/-! ## DESCRIPTOR_READ_DONE (R199) -/

@[simp] theorem length_chunk64 (n : Nat) : ∀ bs : List Byte, (chunk64 bs n).length = n := by
  induction n with
  | zero => exact fun _ => rfl
  | succ n ih => exact fun bs => congrArg (· + 1) (ih (bs.drop 64))

/-- Descriptor k of a read is the 64 bytes at 64 k. -/
theorem getElem?_chunk64 {n : Nat} : ∀ {k : Nat} (bs : List Byte), k < n → (chunk64 bs n)[k]? = some ((bs.drop (64 * k)).take 64) := by
  induction n with
  | zero => exact fun _ h => absurd h (Nat.not_lt_zero _)
  | succ n ih =>
    intro k bs h
    cases k with
    | zero => rfl
    | succ k =>
      rw [chunk64, List.getElem?_cons_succ, ih _ (by omega), List.drop_drop]
      congr 3
      omega

/-- The entries that a read of cnt descriptors from ring index first brings. -/
def readEnts (size first cnt : Nat) (bs : List Byte) : List QEnt :=
  (chunk64 bs cnt).zipIdx.map fun p => { idx := (first + p.2) % size, bytes := p.1 }

section
variable {s : State} {n : Fin 65536} {first cnt : Nat}

theorem exec_descriptorReadDone {bs : List Byte} (reading : (s.queue n).reading = some (first, cnt)) (len : bs.length = 64 * cnt)
    (skip : (s.queue n).skip = []) : exec (.descriptorReadDone n (some bs)) s = .next (s.setQueue n
      { s.queue n with reading := none, ents := (s.queue n).ents ++ readEnts (s.ringSize n) first cnt bs }) := by
  change execDescriptorReadDone n (some bs) s = _
  simp only [execDescriptorReadDone, reading, len, skip, ne_eq, not_true, if_false, List.contains_nil, Bool.not_false, List.filter_true,
    List.filter_nil]
  rfl

theorem descriptorReadDone_gives {bs : List Byte} (reading : (s.queue n).reading = some (first, cnt)) (len : bs.length = 64 * cnt)
    (skip : (s.queue n).skip = []) : Gives (.descriptorReadDone n (some bs)) s fun t =>
      (t.queue n).reading = none ∧ (t.queue n).ents.length = (s.queue n).ents.length + cnt ∧
      (∀ k < cnt, ∃ e ∈ (t.queue n).ents, e.idx = (first + k) % s.ringSize n ∧ e.bytes = (bs.drop (64 * k)).take 64 ∧
        e.phase = .fetched ∧ e.result = none) ∧
      t = { s with queues := t.queues } := by
  refine ⟨_, exec_descriptorReadDone reading len skip, ?_⟩
  simp only [State.setQueue_same]
  refine ⟨trivial, ?_, fun k hk => ?_, rfl⟩
  · simp only [readEnts, List.length_append, List.length_map, List.length_zipIdx, length_chunk64]
  · have here := List.mk_mem_zipIdx_iff_getElem?.2 (getElem?_chunk64 bs hk)
    exact ⟨_, List.mem_append_right _ (List.mem_map_of_mem here), rfl, rfl, rfl, rfl⟩

/-- A failed read puts the queue in error. -/
theorem descriptorReadDone_failed (reading : (s.queue n).reading = some (first, cnt)) : Gives (.descriptorReadDone n none) s fun t =>
    (t.queue n).reading = none ∧ t.get F.HUB_Q_STAT_state n = 3 ∧ t.get F.HUB_Q_STAT_error_cause n = 3 ∧
    t = { s with regs := t.regs, queues := t.queues } := by
  refine ⟨(s.setQueue n { s.queue n with reading := none }).queueError n 3, ?_, ?_, ?_, ?_, rfl⟩
  · change execDescriptorReadDone n none s = _
    simp only [execDescriptorReadDone, reading]
  · exact (congrArg Queue.reading (s.setQueue_same n _) :)
  · simp (disch := decide) only [State.queueError, State.put_get_apart, State.put_get_same]
    rfl
  · rw [State.queueError, State.put_get_same]
    rfl

end

/-! ## DESCRIPTOR_DISPATCH (R199, R200) -/

theorem State.showReplay_regsOnly (s : State) (x : Nat) : RegsOnly s (s.showReplay x) := by
  unfold State.showReplay
  split
  · exact RegsOnly.refl s
  · split <;> exact (((RegsOnly.refl s).put _ _ _).put _ _ _).put _ _ _

/-- Queue n runs, nothing holds its dispatch back, and its oldest entry e is fetched, without a fence or an outcome. -/
structure DispatchReady (s : State) (n : Nat) (e : QEnt) (rest : List QEnt) : Prop where
  running : s.get F.HUB_Q_STAT_state n = 1
  quiet : s.quiescing = false
  noStop : s.stopActive = false
  clocked : s.unitFrozen 0x10 = false
  oldest : (s.queue n).ents = e :: rest
  fetched : e.phase = .fetched
  noFence : e.flag 0 = false
  room : (s.queue n).inFlight < 64
  noResult : e.result = none

/-- Queue n's entry e takes the place that dispatch gives it, as e', and the dispatch is counted. -/
def State.marked (s : State) (n : Nat) (e e' : QEnt) : State :=
  { s with order := s.order + 1 }.setQueue n { s.queue n with
    ents := (s.queue n).ents.map fun x : QEnt => if x.idx = e.idx ∧ x.phase = e.phase ∧ x.order = e.order then e' else x }

/-- The entry that leaves dispatch: its context and time, the dispatch's number, and for an ABORT what its target had accepted. -/
def State.dispatchedEnt (s : State) (e : QEnt) (phase : WPhase) (result : Option Result) : QEnt :=
  { e with phase := phase, order := s.order + 1, ctx := s.ctxOf e.ctxId, since := s.time, result := result
           snap := if e.opcode = 0x0E then (s.queue (fieldAt e.bytes 32 2)).accepted else 0 }

/-- The dispatch of e as its context's replay point then shows it. -/
def State.dispatchAs (s : State) (n : Nat) (e e' : QEnt) : State :=
  ((s.marked n e e').put F.HUB_CTX_REPLAY_frozen 0 e.ctxId).showReplay e.ctxId

theorem State.dispatchAs_eq (s : State) (n : Nat) (e e' : QEnt) : ∃ r, s.dispatchAs n e e' = { s.marked n e e' with regs := r } :=
  ⟨_, ((RegsOnly.refl _).put _ _ _).trans (State.showReplay_regsOnly _ _)⟩

theorem State.marked_head {s : State} {n : Nat} {e : QEnt} {rest : List QEnt} (oldest : (s.queue n).ents = e :: rest) (e' : QEnt) :
    ((s.marked n e e').queue n).ents.head? = some e' := by
  rw [State.marked, State.setQueue_same, oldest]
  simp

section
variable {s : State} {n : Fin 65536} {e : QEnt} {rest : List QEnt} (h : DispatchReady s n e rest)
include h

theorem DispatchReady.next : ((s.queue n).ents.find? fun x => x.phase == .fetched || x.phase == .waiting) = some e := by
  simp [h.oldest, h.fetched]

/-- An entry that fails a check ends at once. -/
theorem DispatchReady.exec_of_fault {d : Nat} (bad : s.descFault n e.bytes = some d) : exec (.descriptorDispatch n) s =
    .next (s.dispatchAs n e (s.dispatchedEnt e .ended (some ⟨.eFormat, d⟩))) := by
  change execDescriptorDispatch n s = _
  simp only [execDescriptorDispatch, h.next, h.running, h.quiet, h.noStop, h.clocked, h.noFence, h.noResult, h.fetched, bad,
    Nat.not_le.2 h.room, bne_self_eq_false, Bool.or_self, Bool.false_and, Bool.false_eq_true, if_false, Option.none_or,
    Option.map_some, Option.isSome_some, if_true, reduceCtorEq, decide_false]
  rw [State.dispatchAs, State.marked, h.fetched]
  rfl

theorem DispatchReady.exec_of_sound (ok : s.descFault n e.bytes = none)
    (waited : fieldAt e.bytes 4 4 = 0xFFFFFFFF ∨ fieldAt e.bytes 8 8 ≤ s.syncVal (fieldAt e.bytes 4 4)) :
    exec (.descriptorDispatch n) s =
      .next ((s.dispatchAs n e (s.dispatchedEnt e .dispatched none)).engAdvance 26 1) := by
  have go : ¬(fieldAt e.bytes 4 4 ≠ 0xFFFFFFFF ∧ s.syncVal (fieldAt e.bytes 4 4) < fieldAt e.bytes 8 8) := by omega
  change execDescriptorDispatch n s = _
  simp only [execDescriptorDispatch, h.next, h.running, h.quiet, h.noStop, h.clocked, h.noFence, h.noResult, h.fetched, ok, if_neg go,
    Nat.not_le.2 h.room, bne_self_eq_false, Bool.or_self, Bool.false_and, Bool.false_eq_true, if_false, Option.none_or,
    Option.map_none, Option.isSome_none, reduceCtorEq, decide_false]
  rw [State.dispatchAs, State.marked, h.fetched]
  rfl

end

/-- Whatever registers and engines then show, the queue's oldest entry is the one dispatched, the count has risen by one, and time,
output and memories are as they were. -/
theorem State.marked_shows {s t : State} {n : Nat} {e e' : QEnt} {rest : List QEnt} (oldest : (s.queue n).ents = e :: rest)
    (frame : ∃ r m, t = { s.marked n e e' with regs := r, engines := m }) :
    (t.queue n).ents.head? = some e' ∧ t.order = s.order + 1 ∧ t.time = s.time ∧ t.out = s.out ∧ t.mem = s.mem ∧ t.spad = s.spad ∧
    t.hubsp = s.hubsp := by
  obtain ⟨r, m, rfl⟩ := frame
  exact ⟨State.marked_head oldest e', rfl, rfl, rfl, rfl, rfl, rfl⟩

section
variable {s : State} {n : Fin 65536} {e : QEnt} {rest : List QEnt}

theorem descriptorDispatch_faults (h : DispatchReady s n e rest) {d : Nat} (bad : s.descFault n e.bytes = some d) :
    Gives (.descriptorDispatch n) s fun t =>
      (∃ e', (t.queue n).ents.head? = some e' ∧ e'.phase = .ended ∧ e'.result = some ⟨.eFormat, d⟩ ∧ e'.idx = e.idx ∧
        e'.bytes = e.bytes) ∧
      t.order = s.order + 1 ∧ t.time = s.time ∧ t.out = s.out ∧ t.mem = s.mem ∧ t.spad = s.spad ∧ t.hubsp = s.hubsp := by
  obtain ⟨r, dispatched⟩ := s.dispatchAs_eq n e (s.dispatchedEnt e .ended (some ⟨.eFormat, d⟩))
  obtain ⟨head, same⟩ := State.marked_shows h.oldest ⟨r, s.engines, dispatched⟩
  exact ⟨_, h.exec_of_fault bad, ⟨_, head, rfl, rfl, rfl, rfl⟩, same⟩

theorem descriptorDispatch_sends (h : DispatchReady s n e rest) (ok : s.descFault n e.bytes = none)
    (waited : fieldAt e.bytes 4 4 = 0xFFFFFFFF ∨ fieldAt e.bytes 8 8 ≤ s.syncVal (fieldAt e.bytes 4 4)) :
    Gives (.descriptorDispatch n) s fun t =>
      (∃ e', (t.queue n).ents.head? = some e' ∧ e'.phase = .dispatched ∧ e'.idx = e.idx ∧ e'.bytes = e.bytes ∧
        e'.ctx = s.ctxOf e.ctxId ∧ e'.since = s.time) ∧
      t.order = s.order + 1 ∧ t.time = s.time ∧ t.out = s.out ∧ t.mem = s.mem ∧ t.spad = s.spad ∧ t.hubsp = s.hubsp := by
  obtain ⟨r, dispatched⟩ := s.dispatchAs_eq n e (s.dispatchedEnt e .dispatched none)
  obtain ⟨r', m, advanced⟩ := (s.dispatchAs n e (s.dispatchedEnt e .dispatched none)).engAdvance_eq 26 1
  obtain ⟨head, same⟩ := State.marked_shows h.oldest ⟨r', m, advanced.trans (by rw [dispatched])⟩
  exact ⟨_, h.exec_of_sound ok waited, ⟨_, head, rfl, rfl, rfl, rfl, rfl⟩, same⟩

end

/-! ## The statement -/

/-- Settles O9: a fetch moves the head past what it asks for, a read's end appends its descriptors, and the oldest entry is the one
that dispatch takes. -/
theorem descriptorFetchAndDispatch : Obligations.DescriptorFetchAndDispatch := by
  unfold Obligations.DescriptorFetchAndDispatch
  refine ⟨⟨fun s n => descriptorFetch_gives, fun s n first cnt reading =>
    ⟨fun bs len skip => descriptorReadDone_gives reading len skip, descriptorReadDone_failed reading⟩⟩, ?_⟩
  intro s n e rest running quiet noStop clocked oldest fetched noFence room noResult same
  have ready : DispatchReady s n e rest := ⟨running, quiet, noStop, clocked, oldest, fetched, noFence, room, noResult⟩
  exact ⟨descriptorDispatch_sends ready, fun d => descriptorDispatch_faults ready⟩

end Sys2Proof.Machine

/-! SUPPORT. Banks in the register store (Table 7.12): what a bank taken or put reads as, and what a unit's switch moves. -/

namespace Sys2Proof.Machine

section
variable (d : Nat) (m : SMap Nat) {cs : List Nat} {k : Nat}

theorem bankKey_zero (cs : List Nat) (k : Nat) : bankKey cs 0 k = cs.contains (k % 1024) := by
  simp [bankKey]

/-- A bank reads under live keys what the store holds off above them. -/
theorem get_takeBank {off : Nat} (h : bankKey cs off (k + off) = true) : SMap.get d (takeBank m cs off) k = SMap.get d m (k + off) := by
  unfold takeBank
  induction m with
  | nil => rfl
  | cons e m ih =>
    obtain ⟨k', v⟩ := e
    cases own : bankKey cs off k' with
    | true =>
      have above : off ≤ k' := by
        simp only [bankKey, Bool.and_eq_true, decide_eq_true_eq] at own
        omega
      have same : k = k' - off ↔ k + off = k' := by omega
      simp only [List.filter_cons, own, if_true, List.map_cons, SMap.get, ih, same]
    | false =>
      have other : k + off ≠ k' := fun e => by rw [e, own] at h; cases h
      simp only [List.filter_cons, own, Bool.false_eq_true, if_false, SMap.get, ih, other]

/-- With a bank put in place, the unit's live keys read as the bank and every other key as before. -/
theorem get_putBank {b : SMap Nat} (hb : ∀ e ∈ b, e.1 % 1024 ∈ cs) :
    SMap.get d (putBank m cs 0 b) k = if k % 1024 ∈ cs then SMap.get d b k else SMap.get d m k := by
  unfold putBank
  induction b with
  | nil =>
    rw [List.foldr_nil, SMap.get_drop, bankKey_zero]
    simp only [List.contains_iff_mem, SMap.get_nil]
  | cons e b ih =>
    obtain ⟨k', v⟩ := e
    obtain ⟨own, hb⟩ := List.forall_mem_cons.1 hb
    by_cases h : k = k'
    · subst h
      simp only [List.foldr_cons, Nat.add_zero, SMap.get_insert_same, SMap.get, if_true, if_pos own]
    · exact (SMap.get_insert_other d _ v h).trans ((ih hb).trans (by rw [SMap.get, if_neg h]))

end

/-- Live codes lie below those of the shadows. -/
theorem unitCodes_lt {u c : Nat} (hu : u < 9) (h : c ∈ unitCodes u) : c < 512 := by
  have all : ∀ u < 9, ∀ c ∈ unitCodes u, c < 512 := by decide +kernel
  exact all u hu c h

section
variable {s : State} {u : Nat}

/-- A commit's switch of a unit other than the ports. -/
theorem State.moveBanks_of_commit (h6 : u ≠ 6) (hc : s.cfgState = 1) :
    s.moveBanks u = { s with prevBank := putBank s.prevBank (unitCodes u) 0 (s.liveBank u)
                             regs := putBank s.regs (unitCodes u) 0 (s.shadowBank u) } := by
  rw [State.moveBanks, if_neg h6, hc, if_neg (by decide)]
  rfl

/-- A register field of no code of the unit reads on. -/
theorem State.moveBanks_get (h6 : u ≠ 6) (hc : s.cfgState = 1) {f : Fld} {i : Nat} (hf : f.key i % 1024 ∉ unitCodes u) :
    (s.moveBanks u).get f i = s.get f i := by
  rw [State.moveBanks_of_commit h6 hc]
  exact (get_putBank f.reset s.regs (takeBank_keys s.regs (by decide))).trans (if_neg hf)

/-- A live key takes the shadow's value, its previous bank the live value, and the shadow keeps its own. -/
theorem State.moveBanks_reads (hu : u < 9) (h6 : u ≠ 6) (hc : s.cfgState = 1) {k : Nat} (hk : bankKey (unitCodes u) 0 k = true) (d : Nat) :
    SMap.get d (s.moveBanks u).regs k = SMap.get d s.regs (k + 512) ∧ SMap.get d (s.moveBanks u).prevBank k = SMap.get d s.regs k ∧
    SMap.get d (s.moveBanks u).regs (k + 512) = SMap.get d s.regs (k + 512) := by
  have own : k % 1024 ∈ unitCodes u := by simpa [bankKey_zero] using hk
  have low := unitCodes_lt hu own
  have code : (k + 512) % 1024 = k % 1024 + 512 := by omega
  have shadow : bankKey (unitCodes u) 512 (k + 512) = true := by simp [bankKey, code, own]
  have above : (k + 512) % 1024 ∉ unitCodes u := fun h => absurd (unitCodes_lt hu h) (by omega)
  have keys {off : Nat} (ho : off < 1024) := takeBank_keys s.regs (cs := unitCodes u) ho
  rw [State.moveBanks_of_commit h6 hc]
  refine ⟨?_, ?_, ?_⟩
  · rw [State.shadowBank, get_putBank _ _ (keys (by decide)), if_pos own, get_takeBank _ _ shadow]
  · rw [State.liveBank, get_putBank _ _ (keys (by decide)), if_pos own, get_takeBank _ _ hk]
    rfl
  · rw [State.shadowBank, get_putBank _ _ (keys (by decide)), if_neg above]

end

end Sys2Proof.Machine

/-! O27: CONFIG_COMMIT, the switch of its last unit, its missed limit, and CONFIG_REVERT (R200, R212-R216). -/

namespace Sys2Proof.Machine

/-! ## Work at the configuration engine -/

/-- The commit or revert begins: its work is the engine's, and the state shows it. -/
def State.beginCommit (s : State) (w : Work) (shown : Nat) : State :=
  ({ s with commit := { s.commit with work := some w } }.put F.HUB_CFG_STATUS_state shown 0).begin_ w

section
variable {s : State} {w : Work} {it : Item}

theorem State.beginCommit_eq (s : State) (w : Work) (shown : Nat) : ∃ q g, s.beginCommit w shown =
    { s.put F.HUB_CFG_STATUS_state shown 0 with commit := { s.commit with work := some w }, queues := q, graphs := g } := by
  obtain ⟨q, g, begun⟩ :=
    ({ s with commit := { s.commit with work := some w } }.put F.HUB_CFG_STATUS_state shown 0).setPhase_eq w .busy
  exact ⟨q, g, begun⟩

theorem State.beginCommit_item (h : s.item w = some it) (shown : Nat) :
    (s.beginCommit w shown).item w = some { it with phase := .busy } := by
  have shownItem : ({ s with commit := { s.commit with work := some w } }.put F.HUB_CFG_STATUS_state shown 0).item w = some it := by
    rw [← h]
    refine State.item_congr rfl rfl rfl ?_
    simp (disch := decide) only [State.put_get_apart]
    rfl
  exact State.setPhase_item shownItem .busy

/-- A unit other than the ports starts: it stands first, the rest wait, and beside that the map's fills alone can begin. -/
theorem State.startUnit_eq (s : State) {u : Nat} (h6 : u ≠ 6) (rest : List Nat) (cont : Bool) :
    ∃ m, s.startUnit u rest cont = { s with commit := { s.commit with unit := some u, todo := rest, since := s.time }, mem := m } ∧
      (u ≠ 0 → m = s.mem) := by
  unfold State.startUnit
  by_cases h0 : u = 0
  · cases cont with
    | true => exact ⟨s.mem, by simp [h0], fun h => absurd h0 h⟩
    | false => exact ⟨_, by simp only [h0, if_true, Bool.false_eq_true, if_false]; rfl, fun h => absurd h0 h⟩
  · exact ⟨s.mem, by simp [h0, h6], fun _ => rfl⟩

theorem State.commitNext_of_cons {u : Nat} {us : List Nat} (h : s.commit.todo = u :: us) (cont : Bool) :
    s.commitNext cont = s.startUnit u us cont := by
  rw [State.commitNext, h]

/-- The event of a commit's or revert's end. -/
def State.commitEvent (s : State) : State :=
  ({ s with commit := { s.commit with work := none } }.put F.HUB_CFG_STATUS_done_evt 1 0).vec0

theorem State.commitEnd_of_none {s : State} (free : s.commit.work = none) (st : Status) (d : Nat) :
    s.commitEnd st d = s.commitEvent := by
  simp only [State.commitEnd, free]
  rfl

theorem State.commitEnd_of_some {s : State} {w : Work} (work : s.commit.work = some w) (st : Status) (d : Nat) :
    s.commitEnd st d = s.commitEvent.finish w st d := by
  simp only [State.commitEnd, work]
  rfl

theorem State.commitEvent_eq (s : State) : ∃ o, s.commitEvent =
    { s.put F.HUB_CFG_STATUS_done_evt 1 0 with commit := { s.commit with work := none }, out := o } := State.emit_eq _ _

/-- The end of a commit or revert shows its event, ends its work and sends the vector. -/
theorem State.commitEnd_eq (s : State) (st : Status) (d : Nat) : ∃ o q g, s.commitEnd st d =
    { s.put F.HUB_CFG_STATUS_done_evt 1 0 with commit := { s.commit with work := none }, out := o, queues := q, graphs := g } := by
  obtain ⟨o, event⟩ := s.commitEvent_eq
  cases work : s.commit.work with
  | none => exact ⟨o, s.queues, s.graphs, (State.commitEnd_of_none work st d).trans event⟩
  | some w =>
    obtain ⟨q, g, ended⟩ := s.commitEvent.finish_eq w st d
    exact ⟨o, q, g, (State.commitEnd_of_some work st d).trans (ended.trans (by rw [event]))⟩

/-- Work at the engine that stood busy in s shows the outcome of the end. -/
theorem State.commitEnd_resultOf {u : State} (work : u.commit.work = some w) (h : s.item w = some it) (busy : it.phase = .busy)
    (queues : u.queues = s.queues) (graphs : u.graphs = s.graphs) (st : Status) (d : Nat) :
    (u.commitEnd st d).resultOf w = some ⟨st, d⟩ := by
  obtain ⟨o, event⟩ := u.commitEvent_eq
  rw [State.commitEnd_of_some work]
  exact State.finish_resultOf h (by simp [busy]) (by rw [event]; exact queues) (by rw [event]; exact graphs) st d

end

/-! ## CONFIG_COMMIT (R212-R215) -/

/-- The units that a CONFIG_COMMIT's payload selects: those of its mask, or all that differ. -/
def State.commitUnits (s : State) (it : Item) : List Nat :=
  if fieldAt it.payload 4 2 = 0 then s.changedUnits else maskUnits (fieldAt it.payload 4 2)

/-- A commit accepted: its epoch is the highest, its units' shadows are locked, and all of them are to switch. -/
def State.commitSet (s : State) (w : Work) (epoch : Nat) (units : List Nat) : State :=
  let u := ((s.beginCommit w 1).put F.HUB_CFG_EPOCH_highest epoch 0).put F.HUB_CFG_STATUS_switched 0 0
  { u with commit := { u.commit with locks := units, todo := units, units := units, revertible := false
                                     before := u.get F.HUB_CFG_EPOCH_committed 0 } }

section
variable {s : State} {w : Work} {it : Item}

theorem exec_configCommit_of_busy (h : s.fresh w 0x0A = some it) (other : s.commit.work.isSome = true) :
    exec (.configCommit w) s = .next s := by
  change execConfigCommit w s = _
  simp only [execConfigCommit, h, other, if_true]

theorem exec_configCommit_of_wrongEpoch (h : s.fresh w 0x0A = some it) (idle : s.cfgState = 0) (free : s.commit.work = none)
    (wrong : fieldAt it.payload 0 4 ≠ (s.get F.HUB_CFG_EPOCH_highest 0 + 1) % 2 ^ 32) :
    exec (.configCommit w) s = .next (s.finish w .eFormat 32) := by
  change execConfigCommit w s = _
  simp only [execConfigCommit, h, free, idle, Option.isSome_none, Bool.false_eq_true, if_false, OfNat.zero_ne_ofNat, if_pos wrong]

/-- A shadow that breaks its owner's rules ends the commit before it begins. -/
theorem exec_configCommit_of_badShadow (h : s.fresh w 0x0A = some it) (idle : s.cfgState = 0) (free : s.commit.work = none)
    (next : fieldAt it.payload 0 4 = (s.get F.HUB_CFG_EPOCH_highest 0 + 1) % 2 ^ 32) {u : Nat}
    (bad : ((s.commitUnits it).find? fun u => s.shadowBad (s.commitUnits it) u) = some u) :
    exec (.configCommit w) s = .next (s.finish w .eFormat (0x100 + u)) := by
  rw [State.commitUnits] at bad
  change execConfigCommit w s = _
  simp only [execConfigCommit, h, free, idle, Option.isSome_none, Bool.false_eq_true, if_false, OfNat.zero_ne_ofNat,
    if_neg (not_not.2 next), bad]

theorem exec_configCommit_of_sound (h : s.fresh w 0x0A = some it) (idle : s.cfgState = 0) (free : s.commit.work = none)
    (next : fieldAt it.payload 0 4 = (s.get F.HUB_CFG_EPOCH_highest 0 + 1) % 2 ^ 32)
    (sound : ((s.commitUnits it).any fun u => s.shadowBad (s.commitUnits it) u) = false) :
    exec (.configCommit w) s = .next ((s.commitSet w (fieldAt it.payload 0 4) (s.commitUnits it)).commitNext false) := by
  have valid : ((s.commitUnits it).find? fun u => s.shadowBad (s.commitUnits it) u) = none := by
    rw [List.find?_eq_none]
    simpa using sound
  rw [State.commitUnits] at valid ⊢
  change execConfigCommit w s = _
  simp only [execConfigCommit, h, free, idle, Option.isSome_none, Bool.false_eq_true, if_false, OfNat.zero_ne_ofNat,
    if_neg (not_not.2 next), valid]
  rfl

/-- The registers of a commit accepted: committing, under its epoch, with no unit switched. -/
def State.commitRegs (s : State) (epoch : Nat) : State :=
  ((s.put F.HUB_CFG_STATUS_state 1 0).put F.HUB_CFG_EPOCH_highest epoch 0).put F.HUB_CFG_STATUS_switched 0 0

theorem State.commitRegs_onlyRegs (s : State) (epoch : Nat) :
    OnlyRegs [F.HUB_CFG_EPOCH_highest.key 0, F.HUB_CFG_STATUS_state.key 0, F.HUB_CFG_STATUS_switched.key 0] s (s.commitRegs epoch) :=
  ((s.put_onlyRegs _ _ _).mono (by simp)).trans (((State.put_onlyRegs _ _ _ _).mono (by simp)).trans
    ((State.put_onlyRegs _ _ _ _).mono (by simp)))

theorem State.commitSet_eq (s : State) (w : Work) (epoch : Nat) (units : List Nat) : ∃ q g, s.commitSet w epoch units =
    { s.commitRegs epoch with
      commit := { s.commit with work := some w, locks := units, todo := units, units := units, revertible := false
                                before := s.get F.HUB_CFG_EPOCH_committed 0 }
      queues := q, graphs := g } := by
  obtain ⟨q, g, begun⟩ := s.beginCommit_eq w 1
  have before : (s.commitRegs epoch).get F.HUB_CFG_EPOCH_committed 0 = s.get F.HUB_CFG_EPOCH_committed 0 :=
    (s.commitRegs_onlyRegs epoch).get_eq (by decide)
  refine ⟨q, g, ?_⟩
  rw [State.commitSet, begun, ← before]
  rfl

theorem State.commitSet_item (h : s.item w = some it) (epoch : Nat) (units : List Nat) :
    (s.commitSet w epoch units).item w = some { it with phase := .busy } := by
  rw [← State.beginCommit_item h 1]
  refine State.item_congr rfl rfl rfl ?_
  change (((s.beginCommit w 1).put F.HUB_CFG_EPOCH_highest epoch 0).put F.HUB_CFG_STATUS_switched 0 0).get
    F.HUB_GRAPH_STORE_base_mib 0 = _
  simp (disch := decide) only [State.put_get_apart]

theorem configCommit_gives (h : s.fresh w 0x0A = some it) (idle : s.cfgState = 0) (free : s.commit.work = none)
    (next : fieldAt it.payload 0 4 = (s.get F.HUB_CFG_EPOCH_highest 0 + 1) % 2 ^ 32)
    (sound : ((s.commitUnits it).any fun u => s.shadowBad (s.commitUnits it) u) = false) {u : Nat} {us : List Nat}
    (units : s.commitUnits it = u :: us) (h6 : u ≠ 6) : Gives (.configCommit w) s fun t =>
      t.get F.HUB_CFG_EPOCH_highest 0 = fieldAt it.payload 0 4 ∧ t.cfgState = 1 ∧ t.commit.work = some w ∧
      t.commit.locks = s.commitUnits it ∧ t.commit.unit = some u ∧ t.commit.todo = us ∧ t.item w = some { it with phase := .busy } ∧
      t = { s with regs := t.regs, commit := t.commit, mem := t.mem, queues := t.queues, graphs := t.graphs } ∧
      KeepsRegs [F.HUB_CFG_EPOCH_highest.key 0, F.HUB_CFG_STATUS_state.key 0, F.HUB_CFG_STATUS_switched.key 0] s t := by
  have ran := exec_configCommit_of_sound h idle free next sound
  have item := State.commitSet_item (State.item_of_fresh h).1 (fieldAt it.payload 0 4) (s.commitUnits it)
  obtain ⟨q, g, set⟩ := s.commitSet_eq w (fieldAt it.payload 0 4) (s.commitUnits it)
  have low : fieldAt it.payload 0 4 < 2 ^ 32 := next ▸ Nat.mod_lt _ (by decide)
  generalize s.commitSet w (fieldAt it.payload 0 4) (s.commitUnits it) = v at ran item set
  obtain ⟨m, started, -⟩ := v.startUnit_eq h6 us false
  rw [State.commitNext_of_cons (by rw [set]; exact units)] at ran
  generalize v.startUnit u us false = t at ran started
  have epoch : (s.commitRegs (fieldAt it.payload 0 4)).get F.HUB_CFG_EPOCH_highest 0 = fieldAt it.payload 0 4 := by
    simp (disch := decide) only [State.commitRegs, State.put_get_apart, State.put_get_same]
    exact Nat.mod_eq_of_lt low
  have shown : (s.commitRegs (fieldAt it.payload 0 4)).get F.HUB_CFG_STATUS_state 0 = 1 := by
    simp (disch := decide) only [State.commitRegs, State.put_get_apart, State.put_get_same]
    rfl
  have same : t.item w = v.item w := by
    rw [started]
    exact State.item_congr rfl rfl rfl rfl
  refine ⟨t, ran, ?_, ?_, ?_, ?_, ?_, ?_, same.trans item, ?_, ?_⟩ <;> rw [started, set]
  · exact epoch
  · exact shown
  · rfl
  · exact (s.commitRegs_onlyRegs _).2

end

/-! ## COMMIT_UNIT_SWITCHED (R213) -/

/-- The registers of a commit completed: its epoch committed, idle, with no unit under way and the event set. -/
def State.committedRegs (s : State) (mask epoch : Nat) : State :=
  (((((s.put F.HUB_CFG_STATUS_switched mask 0).put F.HUB_CFG_EPOCH_committed epoch 0).put F.HUB_CFG_STATUS_state 0 0).put
    F.HUB_CFG_STATUS_switched 0 0).put F.HUB_CFG_STATUS_from_revert 0 0).put F.HUB_CFG_STATUS_done_evt 1 0

theorem State.committedRegs_onlyRegs (s : State) (mask epoch : Nat) :
    OnlyRegs [F.HUB_CFG_STATUS_switched.key 0, F.HUB_CFG_EPOCH_committed.key 0, F.HUB_CFG_STATUS_state.key 0,
      F.HUB_CFG_STATUS_from_revert.key 0, F.HUB_CFG_STATUS_done_evt.key 0] s (s.committedRegs mask epoch) :=
  ((s.put_onlyRegs _ _ _).mono (by simp)).trans (((State.put_onlyRegs _ _ _ _).mono (by simp)).trans
    (((State.put_onlyRegs _ _ _ _).mono (by simp)).trans (((State.put_onlyRegs _ _ _ _).mono (by simp)).trans
      (((State.put_onlyRegs _ _ _ _).mono (by simp)).trans ((State.put_onlyRegs _ _ _ _).mono (by simp))))))

section
variable {s : State} {u : Nat}

/-- None of the configuration's own registers stands in a bank. -/
theorem unitCodes_config {c : Nat} (hu : u < 9) (h : c ∈ unitCodes u) :
    c ∉ [F.HUB_CFG_EPOCH_highest, F.HUB_CFG_EPOCH_committed, F.HUB_CFG_STATUS_state, F.HUB_CFG_STATUS_done_evt,
      F.HUB_CFG_STATUS_from_revert, F.HUB_CFG_STATUS_switched].map Fld.code := by
  have all : ∀ u < 9, ∀ c ∈ unitCodes u, c ∉ [F.HUB_CFG_EPOCH_highest, F.HUB_CFG_EPOCH_committed, F.HUB_CFG_STATUS_state,
      F.HUB_CFG_STATUS_done_evt, F.HUB_CFG_STATUS_from_revert, F.HUB_CFG_STATUS_switched].map Fld.code := by decide +kernel
  exact all u hu c h

/-- What completes a commit leaves the banks, live and shadow, as the switch moved them. -/
theorem State.committedRegs_bank (s : State) (mask epoch : Nat) (hu : u < 9) {k : Nat} (hk : bankKey (unitCodes u) 0 k = true) (d : Nat) :
    SMap.get d (s.committedRegs mask epoch).regs k = SMap.get d s.regs k ∧
    SMap.get d (s.committedRegs mask epoch).regs (k + 512) = SMap.get d s.regs (k + 512) := by
  have own : k % 1024 ∈ unitCodes u := by simpa [bankKey_zero] using hk
  have low := unitCodes_lt hu own
  have apart := unitCodes_config hu own
  simp only [List.map_cons, List.map_nil, List.mem_cons, List.not_mem_nil, or_false, not_or, F.HUB_CFG_EPOCH_highest,
    F.HUB_CFG_EPOCH_committed, F.HUB_CFG_STATUS_state, F.HUB_CFG_STATUS_done_evt, F.HUB_CFG_STATUS_from_revert,
    F.HUB_CFG_STATUS_switched] at apart
  have keeps := (s.committedRegs_onlyRegs mask epoch).2
  constructor <;> refine keeps _ ?_ d <;>
    simp only [List.mem_cons, List.not_mem_nil, or_false, not_or, Fld.key, F.HUB_CFG_EPOCH_committed, F.HUB_CFG_STATUS_state,
      F.HUB_CFG_STATUS_done_evt, F.HUB_CFG_STATUS_from_revert, F.HUB_CFG_STATUS_switched] <;> omega

theorem State.moveBanks_config (hu : u < 9) (h6 : u ≠ 6) (hc : s.cfgState = 1) {f : Fld} (hf : f ∈ [F.HUB_CFG_EPOCH_highest,
    F.HUB_CFG_STATUS_state]) : (s.moveBanks u).get f 0 = s.get f 0 := by
  refine State.moveBanks_get h6 hc fun h => unitCodes_config hu h ?_
  simp only [List.mem_cons, List.not_mem_nil, or_false] at hf
  rcases hf with rfl | rfl <;> decide

/-- The switch of a unit whose banks alone move. -/
theorem State.switchUnit_eq (h5 : u ≠ 5) (h7 : u ≠ 7) (hc : (s.moveBanks u).cfgState = 1) : s.switchUnit u =
    (s.moveBanks u).put F.HUB_CFG_STATUS_switched ((s.moveBanks u).get F.HUB_CFG_STATUS_switched 0 ||| 2 ^ u) 0 := by
  have shown (mask : Nat) : ((s.moveBanks u).put F.HUB_CFG_STATUS_switched mask 0).cfgState = 1 :=
    (State.put_get_apart _ (by decide) (by decide) (by decide) _ _ _).trans hc
  simp only [State.switchUnit, if_neg h5, if_neg h7, hc, OfNat.one_ne_ofNat, if_false, shown]

/-- What a commit whose units have all switched shows before its event. -/
def State.commitShown (s : State) : State :=
  { (((s.put F.HUB_CFG_EPOCH_committed (s.get F.HUB_CFG_EPOCH_highest 0) 0).put F.HUB_CFG_STATUS_state 0 0).put
      F.HUB_CFG_STATUS_switched 0 0).put F.HUB_CFG_STATUS_from_revert 0 0 with
    commit := { s.commit with unit := none, todo := [], locks := [], revertible := true } }

theorem State.commitDone_of_commit (hc : s.cfgState = 1) : s.commitDone = s.commitShown.commitEnd .ok 0 := by
  simp only [State.commitDone, hc]
  rfl

theorem exec_commitUnitSwitched_of_last (unit : s.commit.unit = some u) (h5 : u ≠ 5) (h6 : u ≠ 6) (h7 : u ≠ 7) (hc : s.cfgState = 1)
    (moved : (s.moveBanks u).cfgState = 1) (ready : s.unitReady u = true) (last : s.commit.todo = []) :
    exec .commitUnitSwitched s = .next (((s.moveBanks u).put F.HUB_CFG_STATUS_switched
      ((s.moveBanks u).get F.HUB_CFG_STATUS_switched 0 ||| 2 ^ u) 0).commitShown.commitEnd .ok 0) := by
  have switched := State.switchUnit_eq h5 h7 moved
  have done : (s.switchUnit u).commit.todo = [] := by
    rw [switched, State.put_commit, State.moveBanks_of_commit h6 hc]
    exact last
  have state : (s.switchUnit u).cfgState = 1 := by
    rw [switched]
    exact (State.put_get_apart _ (by decide) (by decide) (by decide) _ _ _).trans moved
  change execCommitUnitSwitched s = _
  simp only [execCommitUnitSwitched, unit, if_neg h6, ready, if_true]
  rw [State.commitNext, done, State.commitDone_of_commit state, switched]

theorem State.committedRegs_get (s : State) (mask epoch : Nat) :
    (s.committedRegs mask epoch).get F.HUB_CFG_STATUS_state 0 = 0 ∧ (s.committedRegs mask epoch).get F.HUB_CFG_STATUS_done_evt 0 = 1 ∧
    (s.committedRegs mask epoch).get F.HUB_CFG_EPOCH_committed 0 = epoch % 2 ^ 32 := by
  refine ⟨?_, ?_, ?_⟩ <;>
  · simp (disch := decide) only [State.committedRegs, State.put_get_apart, State.put_get_same]
    rfl

@[simp] theorem State.commitShown_prevBank (s : State) : s.commitShown.prevBank = s.prevBank := rfl
@[simp] theorem State.commitShown_queues (s : State) : s.commitShown.queues = s.queues := rfl
@[simp] theorem State.commitShown_graphs (s : State) : s.commitShown.graphs = s.graphs := rfl
@[simp] theorem State.commitShown_commit (s : State) : s.commitShown.commit =
    { s.commit with unit := none, todo := [], locks := [], revertible := true } := rfl

/-- A commit that ends with its last unit's switch, whatever state the switch has left. -/
theorem State.commitFinished (s : State) (mask : Nat) :
    let t := (s.put F.HUB_CFG_STATUS_switched mask 0).commitShown.commitEnd .ok 0
    t.regs = (s.committedRegs mask (s.get F.HUB_CFG_EPOCH_highest 0)).regs ∧ t.prevBank = s.prevBank ∧ t.commit.unit = none ∧
    t.commit.locks = [] ∧ t.commit.revertible = true := by
  intro t
  have apart : (s.put F.HUB_CFG_STATUS_switched mask 0).get F.HUB_CFG_EPOCH_highest 0 = s.get F.HUB_CFG_EPOCH_highest 0 :=
    State.put_get_apart _ (by decide) (by decide) (by decide) _ _ _
  obtain ⟨o, q, g, ended⟩ := (s.put F.HUB_CFG_STATUS_switched mask 0).commitShown.commitEnd_eq .ok 0
  have frame : t = _ := ended
  rw [frame, ← apart]
  refine ⟨rfl, ?_, ?_, ?_, ?_⟩ <;> simp only [State.put_prevBank, State.commitShown_prevBank, State.commitShown_commit]

theorem commitUnitSwitched_gives (unit : s.commit.unit = some u) (hu : u ∈ [0, 1, 2, 3, 4, 8]) (hc : s.cfgState = 1)
    (ready : s.unitReady u = true) (last : s.commit.todo = []) : Gives .commitUnitSwitched s fun t =>
      (∀ k, bankKey (unitCodes u) 0 k = true → ∀ d,
        SMap.get d t.regs k = SMap.get d s.regs (k + 512) ∧ SMap.get d t.prevBank k = SMap.get d s.regs k ∧
        SMap.get d t.regs (k + 512) = SMap.get d s.regs (k + 512)) ∧
      t.cfgState = 0 ∧ t.commit.unit = none ∧ t.commit.locks = [] ∧ t.get F.HUB_CFG_STATUS_done_evt 0 = 1 ∧
      t.get F.HUB_CFG_EPOCH_committed 0 = s.get F.HUB_CFG_EPOCH_highest 0 % 2 ^ 32 ∧ t.commit.revertible = true ∧
      (∀ w it, s.commit.work = some w → s.item w = some it → it.phase = .busy → t.resultOf w = some ⟨.ok, 0⟩) := by
  simp only [List.mem_cons, List.not_mem_nil, or_false] at hu
  have h9 : u < 9 := by omega
  have h6 : u ≠ 6 := by omega
  have moved : (s.moveBanks u).cfgState = 1 := (State.moveBanks_config h9 h6 hc (by simp)).trans hc
  have epoch : (s.moveBanks u).get F.HUB_CFG_EPOCH_highest 0 = s.get F.HUB_CFG_EPOCH_highest 0 :=
    State.moveBanks_config h9 h6 hc (by simp)
  have reads (k : Nat) (hk : bankKey (unitCodes u) 0 k = true) (d : Nat) := State.moveBanks_reads h9 h6 hc hk d
  have others : (s.moveBanks u).commit = s.commit ∧ (s.moveBanks u).queues = s.queues ∧ (s.moveBanks u).graphs = s.graphs := by
    rw [State.moveBanks_of_commit h6 hc]
    exact ⟨rfl, rfl, rfl⟩
  have ran := exec_commitUnitSwitched_of_last unit (by omega) h6 (by omega) hc moved ready last
  generalize (s.moveBanks u).get F.HUB_CFG_STATUS_switched 0 ||| 2 ^ u = mask at ran
  generalize s.moveBanks u = v at ran epoch reads others
  obtain ⟨commit, queues, graphs⟩ := others
  obtain ⟨regs, prev, unit', locks, revertible⟩ := v.commitFinished mask
  rw [epoch] at regs
  have result (w it) (work : s.commit.work = some w) (found : s.item w = some it) (busy : it.phase = .busy) :
      ((v.put F.HUB_CFG_STATUS_switched mask 0).commitShown.commitEnd .ok 0).resultOf w = some ⟨.ok, 0⟩ :=
    by
    refine State.commitEnd_resultOf ?_ found busy ?_ ?_ .ok 0
    · rw [State.commitShown_commit, State.put_commit, commit, work]
    · rw [State.commitShown_queues, State.put_queues, queues]
    · rw [State.commitShown_graphs, State.put_graphs, graphs]
  generalize (v.put F.HUB_CFG_STATUS_switched mask 0).commitShown.commitEnd .ok 0 = t at ran regs prev unit' locks revertible result
  have field (f : Fld) : t.get f 0 = (v.committedRegs mask (s.get F.HUB_CFG_EPOCH_highest 0)).get f 0 := by
    rw [State.get, State.get, regs]
  obtain ⟨idle, event, committed⟩ := v.committedRegs_get mask (s.get F.HUB_CFG_EPOCH_highest 0)
  refine ⟨t, ran, fun k hk d => ?_, (field _).trans idle, unit', locks, (field _).trans event, (field _).trans committed, revertible,
    result⟩
  obtain ⟨live, old, shadow⟩ := reads k hk d
  obtain ⟨keptLive, keptShadow⟩ := v.committedRegs_bank mask (s.get F.HUB_CFG_EPOCH_highest 0) h9 hk d
  rw [regs, keptLive, keptShadow, prev]
  exact ⟨live, old, shadow⟩

end

/-! ## COMMIT_LIMIT_MISSED (R214) -/

section
variable {s : State} {u : Nat}

/-- What a commit that missed unit u's limit shows before its event: partial, at the unit that missed, its shadows still locked. -/
def State.missedShown (s : State) (u : Nat) : State :=
  { (((s.put F.HUB_CFG_STATUS_state 2 0).put F.HUB_CFG_STATUS_missed u 0).put F.HUB_CFG_STATUS_from_revert 0 0) with
    time := max s.time (s.commit.since + s.unitLimit u)
    commit := { s.commit with unit := none, todo := u :: s.commit.todo, locks := u :: s.commit.todo } }

theorem exec_commitLimitMissed_of_commit (unit : s.commit.unit = some u) (h6 : u ≠ 6) (hc : s.cfgState = 1) :
    exec .commitLimitMissed s =
      .next ((s.missedShown u).commitEnd .eConfigPartial (s.get F.HUB_CFG_STATUS_switched 0)) := by
  have state (x : Nat) : (s.due x).cfgState = 1 := hc
  change execCommitLimitMissed s = _
  simp only [execCommitLimitMissed, unit, if_neg h6, state]
  rfl

/-- The registers after the event of a missed limit. -/
def State.missedRegs (s : State) (u : Nat) : State :=
  (((s.put F.HUB_CFG_STATUS_state 2 0).put F.HUB_CFG_STATUS_missed u 0).put F.HUB_CFG_STATUS_from_revert 0 0).put
    F.HUB_CFG_STATUS_done_evt 1 0

theorem State.missedRegs_onlyRegs (s : State) (u : Nat) : OnlyRegs [F.HUB_CFG_STATUS_state.key 0, F.HUB_CFG_STATUS_missed.key 0,
    F.HUB_CFG_STATUS_from_revert.key 0, F.HUB_CFG_STATUS_done_evt.key 0] s (s.missedRegs u) :=
  ((s.put_onlyRegs _ _ _).mono (by simp)).trans (((State.put_onlyRegs _ _ _ _).mono (by simp)).trans
    (((State.put_onlyRegs _ _ _ _).mono (by simp)).trans ((State.put_onlyRegs _ _ _ _).mono (by simp))))

theorem commitLimitMissed_gives (unit : s.commit.unit = some u) (h9 : u < 9) (h6 : u ≠ 6) (hc : s.cfgState = 1) :
    Gives .commitLimitMissed s fun t =>
      t.cfgState = 2 ∧ t.get F.HUB_CFG_STATUS_missed 0 = u ∧ t.get F.HUB_CFG_STATUS_from_revert 0 = 0 ∧
      t.commit.unit = none ∧ t.commit.locks = u :: s.commit.todo ∧ s.commit.since + s.unitLimit u ≤ t.time ∧
      (∀ w it, s.commit.work = some w → s.item w = some it → it.phase = .busy →
        t.resultOf w = some ⟨.eConfigPartial, s.get F.HUB_CFG_STATUS_switched 0⟩) ∧ t.prevBank = s.prevBank ∧
      KeepsRegs [F.HUB_CFG_STATUS_state.key 0, F.HUB_CFG_STATUS_missed.key 0, F.HUB_CFG_STATUS_from_revert.key 0,
        F.HUB_CFG_STATUS_done_evt.key 0] s t := by
  obtain ⟨o, q, g, ended⟩ := (s.missedShown u).commitEnd_eq .eConfigPartial (s.get F.HUB_CFG_STATUS_switched 0)
  have result (w it) (work : s.commit.work = some w) (found : s.item w = some it) (busy : it.phase = .busy) :=
    State.commitEnd_resultOf (u := s.missedShown u) work found busy rfl rfl .eConfigPartial (s.get F.HUB_CFG_STATUS_switched 0)
  refine ⟨_, exec_commitLimitMissed_of_commit unit h6 hc, ?_⟩
  generalize (s.missedShown u).commitEnd .eConfigPartial (s.get F.HUB_CFG_STATUS_switched 0) = t at ended result
  have regs : t.regs = (s.missedRegs u).regs := by
    rw [ended]
    rfl
  have field (f : Fld) : t.get f 0 = (s.missedRegs u).get f 0 := by
    rw [State.get, State.get, regs]
  have named : u % 2 ^ 4 = u := Nat.mod_eq_of_lt (by omega)
  refine ⟨?_, ?_, ?_, ?_, ?_, ?_, result, ?_, fun k hk d => ?_⟩
  · rw [State.cfgState, field]
    simp (disch := decide) only [State.missedRegs, State.put_get_apart, State.put_get_same]
    rfl
  · rw [field]
    simp (disch := decide) only [State.missedRegs, State.put_get_apart, State.put_get_same]
    exact named
  · rw [field]
    simp (disch := decide) only [State.missedRegs, State.put_get_apart, State.put_get_same]
    rfl
  · rw [ended]
    rfl
  · rw [ended]
    rfl
  · rw [ended]
    exact Nat.le_max_right _ _
  · rw [ended]
    rfl
  · rw [regs]
    exact (s.missedRegs_onlyRegs u).2 k hk d

end

/-! ## CONFIG_REVERT (R216) -/

/-- A revert accepted: the units of the commit it undoes are locked and go back, the last first. -/
def State.revertSet (s : State) (w : Work) : State :=
  let u := (s.beginCommit w 3).put F.HUB_CFG_STATUS_switched (unitMask s.commit.units) 0
  { u with commit := { u.commit with locks := s.commit.units, todo := s.commit.units.reverse } }

section
variable {s : State} {w : Work} {it : Item}

theorem exec_configRevert_of_committed (h : s.fresh w 0x0B = some it) (free : s.commit.work = none) (idle : s.cfgState = 0)
    (revertible : s.commit.revertible = true) (epoch : fieldAt it.payload 0 4 = s.get F.HUB_CFG_EPOCH_committed 0) :
    exec (.configRevert w) s = .next ((s.revertSet w).commitNext false) := by
  change execConfigRevert w s = _
  simp only [execConfigRevert, h, free, idle, Option.isSome_none, Bool.false_eq_true, if_false, OfNat.zero_ne_ofNat]
  rw [if_pos ⟨revertible, epoch⟩]
  rfl

theorem exec_configRevert_of_other (h : s.fresh w 0x0B = some it) (free : s.commit.work = none) (idle : s.cfgState = 0)
    (other : fieldAt it.payload 0 4 ≠ s.get F.HUB_CFG_EPOCH_committed 0 ∨ s.commit.revertible = false) :
    exec (.configRevert w) s = .next (s.finish w .eFormat 32) := by
  change execConfigRevert w s = _
  simp only [execConfigRevert, h, free, idle, Option.isSome_none, Bool.false_eq_true, if_false, OfNat.zero_ne_ofNat]
  rw [if_neg]
  rintro ⟨revertible, epoch⟩
  rcases other with other | final
  · exact other epoch
  · rw [revertible] at final
    cases final

theorem State.revertSet_eq (s : State) (w : Work) : ∃ q g, s.revertSet w =
    { (s.put F.HUB_CFG_STATUS_state 3 0).put F.HUB_CFG_STATUS_switched (unitMask s.commit.units) 0 with
      commit := { s.commit with work := some w, locks := s.commit.units, todo := s.commit.units.reverse }
      queues := q, graphs := g } := by
  obtain ⟨q, g, begun⟩ := s.beginCommit_eq w 3
  refine ⟨q, g, ?_⟩
  rw [State.revertSet, begun]
  rfl

theorem configRevert_gives (h : s.fresh w 0x0B = some it) (free : s.commit.work = none) (idle : s.cfgState = 0) {us : List Nat} {u : Nat}
    (revertible : s.commit.revertible = true) (epoch : fieldAt it.payload 0 4 = s.get F.HUB_CFG_EPOCH_committed 0)
    (units : s.commit.units = us ++ [u]) (hu : u ∉ [0, 6]) : Gives (.configRevert w) s fun t =>
      t.cfgState = 3 ∧ t.commit.unit = some u ∧ t.commit.todo = us.reverse ∧ t.commit.locks = s.commit.units ∧
      t.commit.work = some w ∧ t = { s with regs := t.regs, commit := t.commit, queues := t.queues, graphs := t.graphs } := by
  simp only [List.mem_cons, List.not_mem_nil, or_false, not_or] at hu
  obtain ⟨h0, h6⟩ := hu
  have ran := exec_configRevert_of_committed h free idle revertible epoch
  obtain ⟨q, g, set⟩ := s.revertSet_eq w
  generalize s.revertSet w = v at ran set
  obtain ⟨m, started, fills⟩ := v.startUnit_eq h6 us.reverse false
  have next : v.commit.todo = u :: us.reverse := by
    rw [set]
    exact (congrArg List.reverse units).trans List.reverse_concat
  rw [State.commitNext_of_cons next] at ran
  generalize v.startUnit u us.reverse false = t at ran started
  have shown : ((s.put F.HUB_CFG_STATUS_state 3 0).put F.HUB_CFG_STATUS_switched (unitMask s.commit.units) 0).get
      F.HUB_CFG_STATUS_state 0 = 3 := by
    simp (disch := decide) only [State.put_get_apart, State.put_get_same]
    rfl
  refine ⟨t, ran, ?_, ?_, ?_, ?_, ?_, ?_⟩ <;> rw [started, fills h0, set]
  · exact shown
  · rfl

end

/-! ## The statement -/

/-- Settles O27: an accepted commit or revert starts its first unit; the last unit's switch moves its banks alone and a missed limit
none; either ends the work. -/
theorem configCommits : Obligations.ConfigCommits := by
  unfold Obligations.ConfigCommits
  refine ⟨fun s w it h idle => ⟨exec_configCommit_of_busy h,
      fun free wrong => State.finish_gives h (exec_configCommit_of_wrongEpoch h idle free wrong),
      fun free next u bad => State.finish_gives h (exec_configCommit_of_badShadow h idle free next bad),
      fun u us free next sound units h6 => configCommit_gives h idle free next sound units h6⟩,
    fun s u => commitUnitSwitched_gives, fun s u => commitLimitMissed_gives,
    fun s w it h free idle => ⟨fun us u => configRevert_gives h free idle,
      fun other => State.finish_gives h (exec_configRevert_of_other h free idle other)⟩⟩

end Sys2Proof.Machine

/-! SUPPORT. A store to local memory beside the other parts of the state. -/

namespace Sys2Proof.Machine

section
variable (s : State) (a : Nat) (bs : List Byte)

@[simp] theorem State.memWrite_regs : (s.memWrite a bs).1.regs = s.regs := by rw [s.memWrite_frame]
@[simp] theorem State.memWrite_out : (s.memWrite a bs).1.out = s.out := by rw [s.memWrite_frame]
@[simp] theorem State.memWrite_sync : (s.memWrite a bs).1.sync = s.sync := by rw [s.memWrite_frame]
@[simp] theorem State.memWrite_spad : (s.memWrite a bs).1.spad = s.spad := by rw [s.memWrite_frame]
@[simp] theorem State.memWrite_hubsp : (s.memWrite a bs).1.hubsp = s.hubsp := by rw [s.memWrite_frame]
@[simp] theorem State.memWrite_fab : (s.memWrite a bs).1.fab = s.fab := by rw [s.memWrite_frame]
@[simp] theorem State.memWrite_ports : (s.memWrite a bs).1.ports = s.ports := by rw [s.memWrite_frame]

end

end Sys2Proof.Machine

/-! SUPPORT. Fabric operations (R223, R225): one that is entered, and when settling ends nothing. -/

namespace Sys2Proof.Machine

section
variable {s t : State} {o : FabOp}

theorem State.settleOps_of_settled (h : s.opsSettled) : s.settleOps = s := by
  unfold State.settleOps
  refine List.foldlRecOn (motive := fun u => u = s) _ _ rfl fun u same id _ => ?_
  subst same
  split
  · rfl
  next o found => rw [if_neg (by simp [h o (List.mem_of_find?_eq_some found)])]

/-- An operation that has more to issue is not done. -/
theorem State.opDone_of_unissued (going : o.stop = false) (more : o.issuedAll = false) : s.opDone o = false := by
  simp [State.opDone, going, more]

/-- An operation with a request outstanding is not done, unless it is a posted write. -/
theorem State.opDone_of_outstanding {r : FabReq} (outstanding : r ∈ s.fab.reqs) (own : r.op = some o.id) (code : o.code ≠ 3) :
    s.opDone o = false := by
  have waits : (s.fab.reqs.any fun r => r.op == some o.id && (o.code != 3 || r.attempts == 0)) = true :=
    List.any_eq_true.2 ⟨r, outstanding, by simp [own, code]⟩
  simp [State.opDone, waits]

/-- Further requests end no operation. -/
theorem State.opDone_of_more_reqs {l : List FabReq} (reqs : t.fab.reqs = s.fab.reqs ++ l) (open_ : s.opDone o = false) :
    t.opDone o = false := by
  simp only [State.opDone, Bool.and_eq_false_iff, Bool.not_eq_false', reqs, List.any_append, Bool.or_eq_true] at open_ ⊢
  exact open_.imp (Or.imp id .inl) .inl

theorem State.addOp_settled (settled : s.opsSettled) (going : o.stop = false) (more : o.issuedAll = false) :
    (s.addOp o).settleOps = s.addOp o := by
  refine State.settleOps_of_settled fun x hx => ?_
  rcases List.mem_append.1 hx with old | new
  · exact settled x old
  · rw [List.mem_singleton] at new
    subst new
    exact State.opDone_of_unissued going more

end

end Sys2Proof.Machine

/-! O41: accesses through the board window (R222, R223). -/

namespace Sys2Proof.Machine

theorem State.emit_accessEnd (s : State) (st : Status) (bytes : List Byte) (bad : Bool) :
    s.emit (.accessEnd st bytes bad) = { s with out := .accessEnd st bytes bad :: s.out } := s.emit_of_not_toHost rfl

/-- The operation that a read of n bytes through another node's slot becomes (R223). -/
def windowRead (node off key n : Nat) : FabOp := { id := 0, origin := .window, code := 1, node := node, off := off, key := key, len := n }

section
variable {s : State} {addr : BitVec 48} {n : Nat} (board : isBoard addr.toNat = true)
include board

theorem exec_boardWindowAccess_refused (place : s.winPlace addr.toNat n = .refused) :
    exec (.boardWindowAccess addr (.read n)) s = .next (s.emit (.accessEnd .eBounds [] false)) := by
  change execBoardWindowAccess addr (.read n) s = _
  simp only [execBoardWindowAccess, board, place, Bool.not_true, Bool.false_eq_true, if_false]

theorem exec_boardWindowAccess_read {x : Nat} (place : s.winPlace addr.toNat n = .here x) (free : s.memHeld x n = false) :
    exec (.boardWindowAccess addr (.read n)) s = .next (s.emit (.accessEnd (if (s.memRead x n).poisoned then .ePoison else .ok)
      (s.memRead x n).bytes (s.memRead x n).poisoned)) := by
  change execBoardWindowAccess addr (.read n) s = _
  simp only [execBoardWindowAccess, board, place, free, Bool.not_true, Bool.false_eq_true, if_false]

theorem exec_boardWindowAccess_write {x : Nat} {d : List Byte} (place : s.winPlace addr.toNat d.length = .here x)
    (free : s.memHeld x d.length = false) : exec (.boardWindowAccess addr (.write d)) s =
      .next ((s.memWrite x d).1.emit (.accessEnd (s.memWrite x d).2 [] false)) := by
  change execBoardWindowAccess addr (.write d) s = _
  simp only [execBoardWindowAccess, board, place, free, Bool.not_true, Bool.false_eq_true, if_false]

theorem exec_boardWindowAccess_remote {node off key : Nat} (place : s.winPlace addr.toNat n = .remote node off key)
    (member : s.excludedNode node = false) : exec (.boardWindowAccess addr (.read n)) s =
      .next (s.addOp (windowRead node off key n)).settleOps := by
  change execBoardWindowAccess addr (.read n) s = _
  simp only [execBoardWindowAccess, board, place, member, Bool.not_true, Bool.false_eq_true, if_false, windowRead]

end

/-- Settles O41: the place that the address resolves to decides between one local access, one operation and a refusal. -/
theorem boardWindow : Obligations.BoardWindow := by
  unfold Obligations.BoardWindow
  intro s addr n board
  refine ⟨fun place => ⟨_, exec_boardWindowAccess_refused board place, ?_⟩,
    fun x place free => ⟨_, exec_boardWindowAccess_read board place free, ?_⟩,
    ?_, fun node off key place member pos settled => ?_⟩
  · simp only [State.emit_accessEnd, and_self]
  · simp only [State.emit_accessEnd, and_self]
  · rintro x d rfl place free
    refine ⟨_, exec_boardWindowAccess_write board place free, ?_⟩
    rw [State.emit_accessEnd]
    exact ⟨rfl, s.memWrite_regs x d⟩
  · have more : (windowRead node off key n).issuedAll = false := by simp [windowRead, FabOp.issuedAll, Nat.ne_of_gt pos]
    refine ⟨_, exec_boardWindowAccess_remote board place member, ?_⟩
    rw [State.addOp_settled settled rfl more]
    exact ⟨⟨{ windowRead node off key n with id := s.fab.nextOp }, rfl, rfl, rfl, rfl, rfl, rfl, rfl⟩, rfl⟩

end Sys2Proof.Machine

/-! SUPPORT. Packets that leave on a port, replies to requests, and flow contexts (R233-R235, R257, R258). -/

namespace Sys2Proof.Machine

/-! ## What leaves on a port -/

section
variable {s t u : State} {p q : Nat} {o : Out}

/-- What leaves a state also leaves each state before it with the same output and the same port. -/
theorem Sent.of_same (h : Sent u t p o) (out : u.out = s.out) (port : u.port p = s.port p) : Sent s t p o := by
  rwa [Sent, ← out, ← port]

theorem State.tx_leaves (up : s.linkUp p = true) (own : o.toHost = false) : Sent s (s.tx p o) p o := by
  rw [State.tx, up, if_neg (by decide)]
  split
  · exact .inr ⟨rfl, by simp⟩
  · refine .inl ?_
    rw [State.putOnLink, State.emit_of_not_toHost _ own]
    rfl

theorem State.linkUp_of_receives (h : s.portReceives p = true) : s.linkUp p = true := by
  simp only [State.portReceives, Bool.and_eq_true, Bool.or_eq_true] at h
  obtain ⟨⟨up | draining, -⟩, -⟩ := h
  · simp [State.linkUp, up]
  · simp [State.linkUp, draining]

theorem State.linkUp_of_up (h : s.portUp p = true) : s.linkUp p = true := by
  simp only [State.portUp, Bool.and_eq_true] at h
  simp [State.linkUp, h.1.1.2]

/-- The port that traffic to a node takes is up. -/
theorem State.linkUp_of_routePort {n : Nat} (h : s.routePort n = some q) : s.linkUp q = true := by
  unfold State.routePort at h
  dsimp only at h
  split at h
  · cases h
  · have chosen := List.mem_of_getElem? h
    unfold State.routePorts at chosen
    split at chosen
    · cases chosen
    · have up := (List.mem_filter.1 chosen).2
      rw [Bool.and_eq_true] at up
      exact State.linkUp_of_up up.2

end

/-! ## Answers (R234) -/

section
variable (s : State) (port : Nat) (p : Packet) (st : Status) (data : List Byte) (poison : Bool)

theorem State.sendBack_eq : ∃ ps l, s.sendBack port p = { s with ports := ps, out := l } := by
  unfold State.sendBack
  split
  · exact s.tx_eq _ _
  · split
    · exact ⟨s.ports, s.out, rfl⟩
    · exact s.tx_eq _ _

variable {s port} in
theorem State.sendBack_sent (h : s.portReceives port = true) : Sent s (s.sendBack port p) port (.packet port p) := by
  rw [State.sendBack, if_pos h]
  exact State.tx_leaves (State.linkUp_of_receives h) rfl

/-- The count that an answer takes, if its status has one (Table 8.12). -/
def State.countAnswer (s : State) (st : Status) : State :=
  match answerCounter st with
  | some j => s.fabCount j
  | none => s

theorem State.answer_eq_sendBack : s.answer port p st data poison =
    (s.countAnswer st).sendBack port ((s.countAnswer st).replyTo p st data poison) := rfl

theorem State.countAnswer_eq : ∃ g, s.countAnswer st = { s with regs := g } := by
  unfold State.countAnswer
  split
  · exact ⟨_, rfl⟩
  · exact ⟨s.regs, rfl⟩

theorem State.countAnswer_get {f : Fld} (hf : f.code < 1024) (apart : f.code ≠ F.FAB_EVT_CNT_count.code) (i : Nat) :
    (s.countAnswer st).get f i = s.get f i := by
  unfold State.countAnswer
  split
  · exact s.bump_get_apart (by decide) hf apart 1 _ i
  · rfl

variable {st} in
theorem State.countAnswer_of_uncounted (h : answerCounter st = none) : s.countAnswer st = s := by
  rw [State.countAnswer, h]

theorem State.answer_eq : ∃ g ps l, s.answer port p st data poison = { s with regs := g, ports := ps, out := l } := by
  obtain ⟨g, counted⟩ := s.countAnswer_eq st
  obtain ⟨ps, l, sent⟩ := (s.countAnswer st).sendBack_eq port ((s.countAnswer st).replyTo p st data poison)
  exact ⟨g, ps, l, by rw [State.answer_eq_sendBack, sent, counted]⟩

@[simp] theorem State.answer_mem : (s.answer port p st data poison).mem = s.mem := by
  obtain ⟨g, ps, l, e⟩ := s.answer_eq port p st data poison
  rw [e]
@[simp] theorem State.answer_spad : (s.answer port p st data poison).spad = s.spad := by
  obtain ⟨g, ps, l, e⟩ := s.answer_eq port p st data poison
  rw [e]
@[simp] theorem State.answer_hubsp : (s.answer port p st data poison).hubsp = s.hubsp := by
  obtain ⟨g, ps, l, e⟩ := s.answer_eq port p st data poison
  rw [e]
@[simp] theorem State.answer_sync : (s.answer port p st data poison).sync = s.sync := by
  obtain ⟨g, ps, l, e⟩ := s.answer_eq port p st data poison
  rw [e]
@[simp] theorem State.answer_fab : (s.answer port p st data poison).fab = s.fab := by
  obtain ⟨g, ps, l, e⟩ := s.answer_eq port p st data poison
  rw [e]
@[simp] theorem State.answer_time : (s.answer port p st data poison).time = s.time := by
  obtain ⟨g, ps, l, e⟩ := s.answer_eq port p st data poison
  rw [e]

variable {st} in
theorem State.answer_regs_of_uncounted (h : answerCounter st = none) : (s.answer port p st data poison).regs = s.regs := by
  rw [State.answer_eq_sendBack, s.countAnswer_of_uncounted h]
  obtain ⟨ps, l, sent⟩ := s.sendBack_eq port (s.replyTo p st data poison)
  rw [sent]

variable {s port} in
/-- The answer leaves on the port that the request arrived on. -/
theorem State.answer_sent (h : s.portReceives port = true) : Sent s (s.answer port p st data poison) port
    (.packet port ((s.countAnswer st).replyTo p st data poison)) := by
  obtain ⟨g, counted⟩ := s.countAnswer_eq st
  have receives : (s.countAnswer st).portReceives port = true := by
    rw [← h]
    simp only [State.portReceives, s.countAnswer_get st (f := F.WIN_PORT_STAT_state) (by decide) (by decide),
      s.countAnswer_get st (f := F.FAB_HELLO_STAT_outcome) (by decide) (by decide)]
    rw [counted]
    rfl
  rw [State.answer_eq_sendBack]
  exact (State.sendBack_sent _ receives).of_same (by rw [counted]) (by rw [counted]; rfl)

end

/-! ## Flow contexts (R233, R235) -/

section
variable {s t : State} {n k : Nat} {v : Flow}

@[simp] theorem State.setFab_fab (s : State) (f : Fabric) : (s.setFab f).fab = f := rfl

@[simp] theorem State.setFlow_same (s : State) (n : Nat) (v : Flow) : (s.setFlow n v).flow n = v := by
  simp [State.flow, State.setFlow, State.setFab]

theorem State.setFlow_other (h : k ≠ n) : (s.setFlow n v).flow k = s.flow k := by
  simp [State.flow, State.setFlow, State.setFab, SMap.get_set_other _ _ _ _ h]

theorem State.flow_congr (h : t.fab = s.fab) (n : Nat) : t.flow n = s.flow n := by rw [State.flow, h, State.flow]

/-- Where no held packet is asked for, nothing is served again. -/
theorem State.serveHeld_of_none {f : Packet → Bool} (h : (s.fab.held.any fun e => f e.2) = false) : s.serveHeld f = s := by
  have kept : (s.fab.held.filter fun e => !f e.2) = s.fab.held :=
    List.filter_eq_self.2 fun e he => by simpa using List.any_eq_false.1 h e he
  have none : (s.fab.held.filter fun e => f e.2) = [] :=
    List.filter_eq_nil_iff.2 fun e he => by simpa using List.any_eq_false.1 h e he
  rw [State.serveHeld, kept, none]
  rfl

theorem State.serveOpens_of_none (h : s.fab.opens = []) : s.serveOpens = s := by
  rw [State.serveOpens, h, List.foldl_nil, ← h]
  rfl

end

end Sys2Proof.Machine

/-! O40: flow contexts, the result cache, the flood rule and receive rings (R233, R235, R239, R241, R244). -/

namespace Sys2Proof.Machine

/-! ## Contexts fetched, held and given up (R233, R235) -/

section
variable {s : State} {node : Fin 1048576}

/-- Nothing waits for the context of a node, nor for another context that stands in the backing store. -/
def State.noneWait (s : State) (node : Nat) : Prop :=
  (s.fab.held.any fun h => h.2.src == node || (s.flow h.2.src).place == .backing) = false

/-- Nothing that is held is served when the node's context comes to stand elsewhere than in the backing store. -/
theorem State.noneWait.serveHeld (h : s.noneWait node) (v : Flow) :
    (s.setFlow node v).serveHeld (fun p => p.src == node.val || ((s.setFlow node v).flow p.src).place == .backing) = s.setFlow node v := by
  refine State.serveHeld_of_none ?_
  rw [State.noneWait, List.any_eq_false] at h
  refine List.any_eq_false.2 fun e he => ?_
  have free := h e he
  simp only [Bool.or_eq_true, beq_iff_eq, not_or] at free ⊢
  exact ⟨free.1, by rw [State.setFlow_other free.1]; exact free.2⟩

theorem State.evict_of_room (room : s.fab.onDie.length < 16384) : s.evict = s := by
  rw [State.evict, if_pos room]

theorem exec_flowContextFetchDone {f : Flow} (context : s.flow node = f) (fetching : f.place = .fetching) (source : f.src.isSome = true)
    (none : s.noneWait node) (room : s.fab.onDie.length < 16384) :
    exec (.flowContextFetchDone true node false) s = .next (s.setFlow node { f with place := .onDie, touched := s.time }) := by
  rw [← none.serveHeld { f with place := .onDie, touched := s.time }]
  change execFlowContextFetchDone true node false s = _
  simp [execFlowContextFetchDone, context, fetching, Option.isSome_iff_ne_none.1 source, State.evict_of_room room]

theorem exec_flowContextFetchDone_poisoned {f : Flow} (context : s.flow node = f) (fetching : f.place = .fetching)
    (source : f.src.isSome = true) (none : s.noneWait node) :
    exec (.flowContextFetchDone true node true) s = .next (s.setFlow node { hold := some s.time }) := by
  rw [← none.serveHeld { hold := some s.time }]
  change execFlowContextFetchDone true node true s = _
  simp [execFlowContextFetchDone, context, fetching, source, Option.isSome_iff_ne_none.1 source]

theorem exec_poisonedContextHoldEnd {h : Nat} (held : (s.flow node).hold = some h) :
    exec (.poisonedContextHoldEnd node) s = .next ((s.due (h + 1000000)).setFlow node { s.flow node with hold := none }) := by
  change execPoisonedContextHoldEnd node s = _
  simp only [execPoisonedContextHoldEnd, held]

theorem exec_flowContextReclaim {x : FlowSrc} (source : (s.flow node).src = some x) (opens : s.fab.opens = [])
    (idle : s.fab.busy node = false) (unused : (s.fab.ops.any fun o => o.node == node.val || o.nodes.contains node.val) = false)
    (posted : x.posted = none) : exec (.flowContextReclaim true node) s =
      .next ((s.due (x.lastUse + 1000000)).setFlow node { s.flow node with src := none }) := by
  change execFlowContextReclaim true node s = _
  simp only [execFlowContextReclaim, if_true, source, idle, unused, posted, Option.isSome_none, Bool.or_self, Bool.false_eq_true, if_false]
  rw [State.serveOpens_of_none (by exact opens)]

theorem exec_flowContextWaitTimeout {e : Nat × Nat × Packet} (waits : (s.fab.opens.find? fun e => e.2.2.src == node.val) = some e) :
    exec (.flowContextWaitTimeout node) s = .next (((s.due (e.1 + 1000000)).setFab { s.fab with opens := s.fab.opens.erase e }).answer
      e.2.1 e.2.2 .eTimeout [] false) := by
  change execFlowContextWaitTimeout node s = _
  simp only [execFlowContextWaitTimeout, waits]

theorem flowContextWaitTimeout_gives {e : Nat × Nat × Packet} (waits : (s.fab.opens.find? fun e => e.2.2.src == node.val) = some e)
    (receives : s.portReceives e.2.1 = true) : Gives (.flowContextWaitTimeout node) s fun t =>
      t.fab.opens = s.fab.opens.erase e ∧ e.1 + 1000000 ≤ t.time ∧ t.mem = s.mem ∧
      ∃ r : Packet, Sent s t e.2.1 (.packet e.2.1 r) ∧ r.status = Status.eTimeout.code ∧ r.dst = e.2.2.src ∧ r.tag = e.2.2.tag := by
  have sent : Sent s _ e.2.1 _ := (State.answer_sent (s := (s.due (e.1 + 1000000)).setFab { s.fab with opens := s.fab.opens.erase e })
    e.2.2 .eTimeout [] false receives).of_same rfl rfl
  exact ⟨_, exec_flowContextWaitTimeout waits, by simp, by simp [State.due], by simp, _, sent, rfl, rfl, rfl⟩

/-! ## The flood rule (R244) -/

/-- How often the node's packets have broken a rule within the last millisecond. -/
def State.violations (s : State) (node : Nat) : Nat := ((SMap.get [] s.fab.viol node).filter fun t => decide (s.time < t + 1000000)).length

theorem exec_sourceViolationFlood (answered : s.discarding node = false) (flood : 1024 < s.violations node) :
    exec (.sourceViolationFlood node) s = .next (s.setFab { s.fab with
      discard := SMap.set none s.fab.discard node (some s.time), viol := SMap.set [] s.fab.viol node [] }) := by
  change execSourceViolationFlood node s = _
  simp only [execSourceViolationFlood]
  rw [if_pos ⟨flood, by rw [answered]; rfl⟩]

theorem exec_sourceViolationFlood_few (few : s.violations node ≤ 1024) : exec (.sourceViolationFlood node) s = .next s := by
  change execSourceViolationFlood node s = _
  simp only [execSourceViolationFlood]
  rw [if_neg fun h => Nat.not_lt.2 few h.1]

theorem exec_violationDiscardEnd {since : Nat} (discards : SMap.get none s.fab.discard node = some since) :
    exec (.violationDiscardEnd node) s =
      .next ((s.due (since + 10000000)).setFab { s.fab with discard := SMap.set none s.fab.discard node none }) := by
  change execViolationDiscardEnd node s = _
  simp only [execViolationDiscardEnd, discards]

end

/-! ## Receive rings (R239) -/

section
variable {s : State} {n : Fin 1024} {j : Nat} {w : BarAcc}

theorem exec_rxqHeadWrite (hr : Reaches s .FAB_RXQ_PTR n w j) : exec (.rxqHeadWrite n w) s =
    .next (s.put F.FAB_RXQ_PTR_head (w.merge F.FAB_RXQ_PTR_head (s.get F.FAB_RXQ_PTR_head j)) j) :=
  congrArg _ (hr.onWrite _)

theorem exec_rxqDisable (hr : Reaches s .FAB_RXQ_CFG n w j) (on : s.isSet F.FAB_RXQ_CFG_enable j = true)
    (touched : w.touches F.FAB_RXQ_CFG_enable = true) (off : s.after w F.FAB_RXQ_CFG_enable j = 0) : exec (.rxqDisable n w) s =
      .next (((s.put F.FAB_RXQ_CFG_enable 0 j).put F.FAB_RXQ_PTR_head 0 j).put F.FAB_RXQ_PTR_tail 0 j) := by
  refine congrArg _ ((hr.onWrite _).trans (if_pos ?_))
  rw [on, touched, off]
  rfl

theorem rxqDisable_gives (hr : Reaches s .FAB_RXQ_CFG n w j) (on : s.isSet F.FAB_RXQ_CFG_enable j = true)
    (touched : w.touches F.FAB_RXQ_CFG_enable = true) (off : s.after w F.FAB_RXQ_CFG_enable j = 0) : Gives (.rxqDisable n w) s fun t =>
      t.get F.FAB_RXQ_CFG_enable j = 0 ∧ t.get F.FAB_RXQ_PTR_head j = 0 ∧ t.get F.FAB_RXQ_PTR_tail j = 0 ∧
      OnlyRegs [F.FAB_RXQ_CFG_enable.key j, F.FAB_RXQ_PTR_head.key j, F.FAB_RXQ_PTR_tail.key j] s t := by
  refine ⟨_, exec_rxqDisable hr on touched off, ?_, ?_, ?_, ?_⟩
  · rw [State.put_get_apart _ (by decide) (by decide) (by decide), State.put_get_apart _ (by decide) (by decide) (by decide),
      State.put_get_same, Nat.zero_mod]
  · rw [State.put_get_apart _ (by decide) (by decide) (by decide), State.put_get_same, Nat.zero_mod]
  · rw [State.put_get_same, Nat.zero_mod]
  · exact (((State.put_onlyRegs _ _ _ _).mono (by simp)).trans ((State.put_onlyRegs _ _ _ _).mono (by simp))).trans
      ((State.put_onlyRegs _ _ _ _).mono (by simp))

end

/-! ## The statement -/

/-- Settles O40: each command's one change of a context, of the cache, of the flood rule's lists or of a ring, which reads as it says. -/
theorem fabricHousekeeping : Obligations.FabricHousekeeping := by
  unfold Obligations.FabricHousekeeping
  refine ⟨?_, ?_, ?_, fun s node e => flowContextWaitTimeout_gives, fun _ => rfl, ?_, ?_, ?_, fun s n j w => rxqDisable_gives⟩
  · intro s node f context fetching source none
    refine ⟨fun room => ⟨_, exec_flowContextFetchDone context fetching source none room, ?_⟩,
      ⟨_, exec_flowContextFetchDone_poisoned context fetching source none, ?_⟩⟩
    · exact ⟨State.setFlow_same _ _ _, fun _ => State.setFlow_other, rfl⟩
    · exact ⟨State.setFlow_same _ _ _, fun _ => State.setFlow_other, rfl⟩
  · intro s node h held
    refine ⟨_, exec_poisonedContextHoldEnd held, ?_, fun _ => State.setFlow_other, Nat.le_max_right _ _, rfl⟩
    rw [State.setFlow_same]
  · intro s node x source opens idle unused posted
    refine ⟨_, exec_flowContextReclaim source opens idle unused posted, ?_, ?_, fun _ => State.setFlow_other, Nat.le_max_right _ _, rfl⟩ <;>
    rw [State.setFlow_same]
  · intro s node answered
    refine ⟨fun flood => ⟨_, exec_sourceViolationFlood answered flood, ?_, fun k other => ?_, rfl⟩, exec_sourceViolationFlood_few⟩
    · simp [State.discarding]
    · simp [State.discarding, SMap.get_set_other _ _ _ _ other]
  · intro s node since discards
    exact ⟨_, exec_violationDiscardEnd discards, by simp [State.discarding], Nat.le_max_right _ _, rfl⟩
  · intro s n j w hr
    exact ⟨_, exec_rxqHeadWrite hr, State.put_get_same _ _ _ _, s.put_onlyRegs _ _ _⟩

end Sys2Proof.Machine

/-! SUPPORT. Requests (R225, R231, R232, R234): what sending one leaves, first or again, and how the only one of an operation ends. -/

namespace Sys2Proof.Machine

/-! ## A request sent -/

/-- A request as it stands when it has been sent for the first time: the flow has numbered it (R231, R241). -/
def FabReq.sentFirst (r : FabReq) (fseq aseq now port : Nat) : FabReq :=
  { r with fseq := fseq, aseq := aseq, attempts := 1, first := now, last := now, port := port, resend := false }

/-- A request as it stands when it has been sent again (R232). -/
def FabReq.again (r : FabReq) (now port : Nat) : FabReq :=
  { r with attempts := r.attempts + 1, last := now, port := port, resend := false }

/-- Request r is stored as r', and its flow's source side as v. -/
def State.noteSent (s : State) (r r' : FabReq) (v : FlowSrc) : State := (s.setSrc r.node v).updReq r.serial fun _ => r'

/-- A request's packet goes to its port. -/
def State.transmit (s : State) (r : FabReq) (port : Nat) : State := s.tx port (.packet port (s.packetOf r))

section
variable {s : State} {r r' : FabReq} {v : FlowSrc} {q : Nat}

theorem State.transmit_eq (s : State) (r : FabReq) (q : Nat) : ∃ ps l, s.transmit r q = { s with ports := ps, out := l } := s.tx_eq _ _

theorem State.transmit_sent (up : s.linkUp q = true) : Sent s (s.transmit r q) q (.packet q (s.packetOf r)) := State.tx_leaves up rfl

/-- A flow's source side once a request of this kind has been sent for the first time (R230, R231, R241). -/
def FlowSrc.carry (f : FlowSrc) (kind now : Nat) : FlowSrc :=
  { f with nextF := if kind = 1 then f.nextF else (f.nextF + 1) % 2 ^ 32
           nextA := if kind = 4 then (f.nextA + 1) % 65536 else f.nextA, carried := true, lastUse := now }

theorem State.sendReq_of_new (new : r.attempts = 0) (data : r.opn = false) : ∃ fseq aseq, s.sendReq r q =
    (s.noteSent r (r.sentFirst fseq aseq s.time q) ((s.srcFlow r.node).carry r.kind s.time)).transmit (r.sentFirst fseq aseq s.time q) q := by
  by_cases read : r.kind = 1
  · exact ⟨((s.srcFlow r.node).nextF + 2 ^ 32 - 1) % 2 ^ 32, r.aseq, by
      simp only [State.sendReq, new, data, read, State.noteSent, State.transmit, FabReq.sentFirst, FlowSrc.carry, if_true, decide_true,
        Bool.not_true, Bool.false_eq_true, if_false, or_self, Nat.zero_add]⟩
  · exact ⟨(s.srcFlow r.node).nextF, if r.kind = 4 then (s.srcFlow r.node).nextA else 0, by
      simp only [State.sendReq, new, data, read, State.noteSent, State.transmit, FabReq.sentFirst, FlowSrc.carry, if_true, decide_true,
        Bool.not_true, Bool.false_eq_true, if_false, or_self, Nat.zero_add]⟩

theorem State.sendReq_of_sent (sent : r.attempts ≠ 0) : s.sendReq r q =
    ((s.noteSent r (r.again s.time q) (s.srcFlow r.node)).fabCount 9).transmit (r.again s.time q) q := by
  simp [State.sendReq, sent, State.noteSent, State.transmit, FabReq.again]

theorem State.noteSent_reqs_of_only (only : s.fab.reqs = [r]) : (s.noteSent r r' v).fab.reqs = [r'] := by
  simp [State.noteSent, State.setSrc, State.updReq, State.setFlow, only]

/-- The only request, sent again: its packet is marked so, and the request counts the attempt (R232). -/
theorem State.sendReq_again (sent : r.attempts ≠ 0) (only : s.fab.reqs = [r]) (up : s.linkUp q = true) :
    (∃ r' k, (s.sendReq r q).fab.reqs = [r'] ∧ r'.attempts = r.attempts + 1 ∧ r'.fseq = r.fseq ∧ r'.last = s.time ∧
      Sent s (s.sendReq r q) q (.packet q k) ∧ k.retrans = true ∧ k.fseq = r.fseq ∧ k.kind = r.kind) ∧
    (s.sendReq r q).mem = s.mem ∧ (s.sendReq r q).time = s.time := by
  have reqs := State.noteSent_reqs_of_only (r' := r.again s.time q) (v := s.srcFlow r.node) only
  rw [State.sendReq_of_sent sent]
  generalize noted : (s.noteSent r (r.again s.time q) (s.srcFlow r.node)).fabCount 9 = u
  have link : u.linkUp q = true := by
    rw [← up, ← noted]
    simp only [State.linkUp, State.fabCount, State.bump_get_apart _ (f := F.FAB_EVT_CNT_count) (g := F.WIN_PORT_STAT_state)
      (by decide) (by decide) (by decide)]
    rfl
  have sent' : Sent s (u.transmit (r.again s.time q) q) q (.packet q (u.packetOf (r.again s.time q))) :=
    (State.transmit_sent link).of_same (by rw [← noted]; rfl) (by rw [← noted]; rfl)
  have marked : (u.packetOf (r.again s.time q)).retrans = true := by
    simpa [State.packetOf, FabReq.again] using Nat.pos_of_ne_zero sent
  obtain ⟨ps, l, frame⟩ := u.transmit_eq (r.again s.time q) q
  refine ⟨⟨r.again s.time q, _, ?_, rfl, rfl, rfl, sent', marked, rfl, rfl⟩, ?_, ?_⟩
  · rw [frame, ← noted]
    exact reqs
  · rw [frame, ← noted]
    rfl
  · rw [frame, ← noted]
    rfl

/-- A request as it is stored before it is sent: numbered, with the lowest free tag. -/
def State.numbered (s : State) (r : FabReq) : FabReq := { r with serial := s.fab.serial, tag := s.fab.freeTag, first := s.time }

/-- Request r is stored last. -/
def State.withReq (s : State) (r : FabReq) : State :=
  s.setFab { s.fab with reqs := s.fab.reqs ++ [s.numbered r], serial := s.fab.serial + 1 }

theorem State.startReq_of_port (port : s.reqPort r = some q) : s.startReq r = (s.withReq r).sendReq (s.numbered r) q := by
  have stored : (s.withReq r).reqPort (s.numbered r) = some q := port
  change (match (s.withReq r).reqPort (s.numbered r) with
    | none => s.withReq r
    | some p => (s.withReq r).sendReq (s.numbered r) p) = _
  rw [stored]

/-- What is noted of the request stored last changes no other one. -/
theorem State.withReq_noteSent_reqs (serials : ∀ x ∈ s.fab.reqs, x.serial < s.fab.serial) :
    ((s.withReq r).noteSent (s.numbered r) r' v).fab.reqs = s.fab.reqs ++ [r'] := by
  have old : (s.fab.reqs.map fun x => if x.serial = s.fab.serial then r' else x) = s.fab.reqs :=
    (List.map_congr_left fun x hx => if_neg (Nat.ne_of_lt (serials x hx))).trans (List.map_id _)
  change (s.fab.reqs ++ [s.numbered r]).map (fun x => if x.serial = s.fab.serial then r' else x) = _
  rw [List.map_append, old, List.map_singleton, if_pos (show (s.numbered r).serial = s.fab.serial from rfl)]

/-- A new request whose route has a port up is stored last, and leaves on that port. -/
theorem State.startReq_sends (new : r.attempts = 0) (data : r.opn = false) (port : s.reqPort r = some q) (up : s.linkUp q = true)
    (serials : ∀ x ∈ s.fab.reqs, x.serial < s.fab.serial) : ∃ (fseq aseq : Nat) (u : State),
      (s.startReq r).fab.reqs = s.fab.reqs ++ [(s.numbered r).sentFirst fseq aseq s.time q] ∧
      (s.startReq r).fab.ops = s.fab.ops ∧
      Sent s (s.startReq r) q (.packet q (u.packetOf ((s.numbered r).sentFirst fseq aseq s.time q))) ∧
      s.startReq r = { s with fab := (s.startReq r).fab, ports := (s.startReq r).ports, out := (s.startReq r).out } := by
  obtain ⟨fseq, aseq, sends⟩ := State.sendReq_of_new (s := s.withReq r) (r := s.numbered r) (q := q) new data
  rw [State.startReq_of_port port, sends]
  generalize noted : (s.withReq r).noteSent (s.numbered r) _ _ = u
  obtain ⟨ps, l, frame⟩ := u.transmit_eq ((s.numbered r).sentFirst fseq aseq (s.withReq r).time q) q
  have leaves : Sent u _ q _ := State.transmit_sent (r := (s.numbered r).sentFirst fseq aseq (s.withReq r).time q)
    (show u.linkUp q = true by rw [← noted]; exact up)
  refine ⟨fseq, aseq, u, ?_, ?_, leaves.of_same (by rw [← noted]; rfl) (by rw [← noted]; rfl), ?_⟩
  · rw [frame, ← noted]
    exact State.withReq_noteSent_reqs serials
  · rw [frame, ← noted]
    rfl
  · obtain ⟨f, only⟩ : ∃ f, u = { s with fab := f } := ⟨u.fab, by rw [← noted]; rfl⟩
    rw [frame, only]

end

end Sys2Proof.Machine

/-! SUPPORT. The end of the one request that is out, and of the one operation that it served (R225, R242). -/

namespace Sys2Proof.Machine

/-! ## The operation's part -/

section
variable {s t : State} {r : FabReq} {o : FabOp} {w : Work} {it : Item}

theorem State.fabOp_of_only (only : s.fab.ops = [o]) : s.fabOp o.id = some o := by
  simp [State.fabOp, only]

/-- Once request r has left the list: the engine has advanced, and its flow has just been used (R233, R356). -/
def State.reqGone (s : State) (r : FabReq) : State :=
  let s := (s.setFab { s.fab with reqs := s.fab.reqs.filter fun x => x.serial != r.serial }).engAdvance 28 1
  if (s.flow r.node).src.isSome then s.setSrc r.node { s.srcFlow r.node with lastUse := s.time } else s

theorem State.reqGone_eq (s : State) (r : FabReq) : ∃ f g m, s.reqGone r = { s with fab := f, regs := g, engines := m } ∧
    f.reqs = (s.fab.reqs.filter fun x => x.serial != r.serial) ∧ f.ops = s.fab.ops := by
  obtain ⟨g, m, advanced⟩ := State.engAdvance_eq (s.setFab { s.fab with reqs := s.fab.reqs.filter fun x => x.serial != r.serial }) 28 1
  rw [State.reqGone, advanced]
  dsimp only
  split
  · exact ⟨_, g, m, rfl, rfl, rfl⟩
  · exact ⟨_, g, m, rfl, rfl, rfl⟩

/-- A request of an operation ends as its operation's part says. -/
theorem State.endReq_of_only (ops : s.fab.ops = [o]) (own : r.op = some o.id) (res : Result) (data : List Byte) (poison : Bool) :
    s.endReq r res data poison = (s.reqGone r).opEnd r o res data poison := by
  obtain ⟨f, g, m, gone, -, kept⟩ := s.reqGone_eq r
  have found : r.op.bind (s.reqGone r).fabOp = some o := by
    rw [own, Option.bind_some, State.fabOp_of_only (by rw [gone, kept, ops])]
  change (match r.op.bind (s.reqGone r).fabOp with
    | some o => (s.reqGone r).opEnd r o res data poison
    | none => _) = _
  rw [found]

/-! ## The operation ends (R223, R225) -/

theorem State.settleOps_of_only (ops : s.fab.ops = [o]) (done : s.opDone o = true) : s.settleOps = s.endOp o := by
  simp [State.settleOps, ops, State.fabOp_of_only ops, done]

theorem State.opDone_of_noReqs (reqs : s.fab.reqs = []) (finished : (o.stop || o.issuedAll) = true) : s.opDone o = true := by
  simp [State.opDone, reqs, finished]

theorem State.endOp_of_work (s : State) (origin : o.origin = .work w) (dest : ∀ n off key, o.dest ≠ .stage n off key) :
    s.endOp o = (s.setFab { s.fab with ops := s.fab.ops.filter fun x => x.id != o.id }).finish w o.outcome.status o.outcome.detail := by
  unfold State.endOp
  dsimp only
  split
  next n off key ends _ => exact absurd ends (dest n off key)
  · rw [origin]

/-- The work of the one operation left ends with the operation's outcome. -/
theorem State.settleOps_ends {v : State} (item : s.item w = some it) (busy : it.phase = .busy) (queues : v.queues = s.queues)
    (graphs : v.graphs = s.graphs) (reqs : v.fab.reqs = []) (ops : v.fab.ops = [o]) (origin : o.origin = .work w)
    (dest : ∀ n off key, o.dest ≠ .stage n off key) (finished : (o.stop || o.issuedAll) = true) :
    v.settleOps.resultOf w = some o.outcome ∧
    v.settleOps = { v with fab := { v.fab with ops := [] }, queues := v.settleOps.queues, graphs := v.settleOps.graphs } := by
  have left : (v.fab.ops.filter fun x => x.id != o.id) = [] := by simp [ops]
  have settled : v.settleOps = (v.setFab { v.fab with ops := [] }).finish w o.outcome.status o.outcome.detail := by
    rw [State.settleOps_of_only ops (State.opDone_of_noReqs reqs finished), State.endOp_of_work v origin dest, left]
  rw [settled]
  obtain ⟨q, g, frame⟩ := (v.setFab { v.fab with ops := [] }).finish_eq w o.outcome.status o.outcome.detail
  refine ⟨State.finish_resultOf (u := v.setFab { v.fab with ops := [] }) item (by simp [busy]) queues graphs _ _, ?_⟩
  rw [frame]
  rfl

end

end Sys2Proof.Machine

/-! O38: requests issued, answered, sent again and given up (R219, R225, R231, R232, R234, R242, R339). -/

namespace Sys2Proof.Machine

/-! ## FABRIC_REQUEST_ISSUE (R225, R234) -/

section
variable {s : State} {n : Fin 1048576} {x : FlowSrc} {o : FabOp} {q : Nat}

theorem exec_fabricRequestIssue_quiet (quiet : s.quiescing = true ∨ s.fabOn = false) : exec (.fabricRequestIssue n) s = .next s := by
  change execFabricRequestIssue n s = _
  rcases quiet with h | h <;> simp [execFabricRequestIssue, h]

/-- Request r asks for the next piece of a READ or WRITE o (R223, R225). -/
structure FabReq.AsksPiece (r : FabReq) (o : FabOp) : Prop where
  own : r.op = some o.id
  node : r.node = o.node
  kind : r.kind = o.code
  off : r.off = o.off + o.next
  len : r.len = o.piece.1
  key : r.key = o.key
  new : r.attempts = 0
  notOpen : r.opn = false

/-- Request r, sent once, is the one that leaves. -/
theorem FabReq.AsksPiece.sentFirst {r r' : FabReq} {t u : State} {serial tag fseq aseq now : Nat} (asks : r.AsksPiece o)
    (memory : o.code ≠ 6) (first : { r with serial := serial, tag := tag, first := now }.sentFirst fseq aseq now q = r')
    (last : r' ∈ t.fab.reqs) (sent : Sent s t q (.packet q (u.packetOf r'))) : SentFirst s t q o := by
  have kind : r'.kind = o.code := first ▸ asks.kind
  have node : r'.node = o.node := first ▸ asks.node
  have key : r'.key = o.key := first ▸ asks.key
  have length : (u.packetOf r').length = r'.len := if_neg (kind.trans_ne memory)
  exact ⟨r', u.packetOf r', last, first ▸ asks.own, node, kind, first ▸ asks.off, first ▸ asks.len, first ▸ rfl, sent, kind, rfl, node,
    key, rfl, length, rfl⟩

theorem FabOp.node_of_pendingTo {n : Nat} (pending : o.pendingTo n = true) (code : o.code = 1 ∨ o.code = 2) : o.node = n := by
  have nofence : o.code ≠ 6 := by omega
  simp only [FabOp.pendingTo, nofence, if_false, Bool.and_eq_true, beq_iff_eq] at pending
  exact pending.2

/-- A request for memory takes the port of its node's route, whatever reflection is bound to. -/
theorem State.reqPort_of_memory {r : FabReq} (memory : r.kind ≤ 6) : s.reqPort r = s.routePort r.node := by
  have kind : isReflection r.kind = false := by simp [isReflection]; omega
  rw [State.reqPort, kind, Bool.not_false, if_pos rfl]

theorem State.nextReq_asksPiece (s : State) (code : o.code = 1 ∨ o.code = 2) : (s.nextReq o o.node).1.AsksPiece o := by
  rcases code with code | code <;> constructor <;> simp [State.nextReq, code]

theorem State.nextReq_rest (s : State) (code : o.code = 1 ∨ o.code = 2) (n : Nat) :
    (s.nextReq o n).2.id = o.id ∧ (s.nextReq o n).2.code = o.code := by
  rcases code with code | code <;> simp [State.nextReq, code]

theorem State.issueTo_of_open (source : (s.flow n).src = some x) (opened : x.opened = true) (place : (s.flow n).place = .onDie)
    (noHold : (s.flow n).hold = none) (runs : s.unitFrozen 0x50 = false)
    (none : (s.fab.reqs.find? fun r => r.node == n.val && (r.attempts == 0 || r.resend)) = none)
    (first : (s.fab.ops.find? fun o => o.pendingTo n) = some o) (room : s.fab.reqs.length < 16384) (window : s.fab.window n < 128)
    (busy : s.fab.busy n = true) : s.issueTo n = (((s.touch n).updOp o.id fun _ => ((s.touch n).nextReq o n).2).startReq
      ((s.touch n).nextReq o n).1).settleOps := by
  have context : s.needCtx n = (true, s.touch n) := by simp [State.needCtx, place]
  have srcFlow : (s.touch n).srcFlow n = x := by simp [State.srcFlow, State.touch, source]
  simp only [State.issueTo, none, first, noHold, runs, busy, context, srcFlow, opened, Flow.used, source, Option.isNone_some,
    Option.isSome_none, Option.isSome_some, Bool.and_false, Bool.or_self, Bool.false_eq_true, if_false, Bool.true_or, Bool.not_true,
    Bool.false_and, if_true, Nat.not_le.2 room, Nat.not_le.2 window, decide_false]

theorem fabricRequestIssue_gives (running : s.quiescing = false) (on : s.fabOn = true) (other : n.val ≠ s.ownNode)
    (source : (s.flow n).src = some x) (opened : x.opened = true) (place : (s.flow n).place = .onDie) (noHold : (s.flow n).hold = none)
    (runs : s.unitFrozen 0x50 = false) (none : (s.fab.reqs.find? fun r => r.node == n.val && (r.attempts == 0 || r.resend)) = none)
    (first : (s.fab.ops.find? fun o => o.pendingTo n) = some o) (code : o.code = 1 ∨ o.code = 2) (room : s.fab.reqs.length < 16384)
    (window : s.fab.window n < 128) (busy : s.fab.busy n = true) (route : s.routePort n = some q) (settled : s.opsSettled)
    (serials : ∀ r ∈ s.fab.reqs, r.serial < s.fab.serial) : Gives (.fabricRequestIssue n) s fun t =>
      SentFirst s t q o ∧ t.fab.reqs.length = s.fab.reqs.length + 1 ∧ t.mem = s.mem ∧ t.spad = s.spad ∧ t.hubsp = s.hubsp ∧
      t.queues = s.queues := by
  have node : o.node = n := FabOp.node_of_pendingTo (by simpa using List.find?_some first) code
  have asks : ((s.touch n).nextReq o n).1.AsksPiece o := node ▸ (s.touch n).nextReq_asksPiece code
  obtain ⟨ident, same⟩ := (s.touch n).nextReq_rest code n
  have issued := State.issueTo_of_open source opened place noHold runs none first room window busy
  generalize ((s.touch n).nextReq o n).1 = r at asks issued
  generalize ((s.touch n).nextReq o n).2 = o' at ident same issued
  generalize changed : ((s.touch n).updOp o.id fun _ => o') = u at issued
  have port : u.reqPort r = some q := by
    rw [State.reqPort_of_memory (asks.kind.trans_le (by omega)), asks.node, node, ← changed]
    exact route
  obtain ⟨fseq, aseq, v, reqs, ops, sent, frame⟩ := State.startReq_sends asks.new asks.notOpen port
    (by rw [← changed]; exact State.linkUp_of_routePort route) (by rw [← changed]; exact serials)
  have stored : (u.startReq r).fab.reqs = s.fab.reqs ++ [(u.numbered r).sentFirst fseq aseq u.time q] := by
    rw [reqs, ← changed]
    rfl
  have last : (u.numbered r).sentFirst fseq aseq u.time q ∈ (u.startReq r).fab.reqs := by
    rw [stored]
    exact List.mem_append_right _ (List.mem_singleton_self _)
  have goOn : (u.startReq r).opsSettled := by
    intro y hy
    rw [ops, ← changed] at hy
    obtain ⟨z, hz, rfl⟩ := List.mem_map.1 hy
    split
    · exact State.opDone_of_outstanding last (asks.own.trans (congrArg some ident.symm)) (by rw [same]; omega)
    · exact State.opDone_of_more_reqs stored (settled z hz)
  obtain ⟨f, only⟩ : ∃ f, u = { s with fab := f } := ⟨u.fab, by rw [← changed]; rfl⟩
  have leaves := asks.sentFirst (by omega) rfl last (sent.of_same (s := s) (by rw [only]) (by rw [only]; rfl))
  refine ⟨u.startReq r, ?_, leaves, ?_, ?_, ?_, ?_, ?_⟩
  · rw [← State.settleOps_of_settled goOn, ← issued]
    change execFabricRequestIssue n s = _
    simp [execFabricRequestIssue, running, on, other]
  · rw [stored, List.length_append, List.length_singleton]
  all_goals rw [frame, only]

end

/-! ## FABRIC_REPLY (R225, R242) -/

section
variable {s : State} {port : Fin 64} {p : Packet} {r : FabReq} {o : FabOp} {w : Work} {it : Item}

/-- A reply arrives in the normal way: no keeper answers for the device, and the port takes fabric packets. -/
structure ReplyArrives (s : State) (port : Fin 64) (p : Packet) : Prop where
  served : s.kept = false
  receives : s.portReceives port = true
  kind : p.kind = 0x80

theorem ReplyArrives.exec_of_nothing (h : ReplyArrives s port p)
    (nothing : (s.fab.reqs.find? fun r => r.tag == p.tag && r.attempts != 0 && r.node == p.src) = none) :
    exec (.fabricReply port p) s = .next (s.fabCount 8) := by
  change Host.Outcome.next (s.reply port p false) = _
  simp [State.reply, h.kind, h.served, h.receives, nothing]

/-- Request r is the one that is out, for operation o, the only one, whose work w is at its unit. -/
structure LastRequest (s : State) (r : FabReq) (o : FabOp) (w : Work) (it : Item) : Prop where
  reqs : s.fab.reqs = [r]
  own : r.op = some o.id
  ops : s.fab.ops = [o]
  origin : o.origin = .work w
  item : s.item w = some it
  busy : it.phase = .busy

theorem State.ackPosted_of_none (reqs : s.fab.reqs = []) (n fseq : Nat) : s.ackPosted n fseq = s := by
  simp [State.ackPosted, reqs]

theorem ReplyArrives.exec_of_good (h : ReplyArrives s port p) (only : s.fab.reqs = [r]) (tag : r.tag = p.tag) (sent : r.attempts ≠ 0)
    (node : r.node = p.src) (data : r.opn = false) (kind : r.kind = 1 ∨ r.kind = 2) (ok : p.status = Status.ok.code)
    (fits : r.fits p .ok = true) : exec (.fabricReply port p) s =
      .next ((s.endReq r ⟨.ok, 0⟩ p.data p.poison).ackPosted r.node p.fseq).settleOps := by
  have found : (s.fab.reqs.find? fun r => r.tag == p.tag && r.attempts != 0 && r.node == p.src) = some r := by
    simp [only, tag, sent, node]
  have memory : isReflection r.kind = false := by rcases kind with kind | kind <;> rw [kind] <;> rfl
  have ends : r.endsAs .ok = ⟨.ok, 0⟩ := by rcases kind with kind | kind <;> simp [FabReq.endsAs, kind]
  have status : Status.ofCode p.status = some .ok := by rw [ok]; rfl
  change Host.Outcome.next (s.reply port p false) = _
  simp [State.reply, h.kind, h.served, h.receives, found, memory, data, status, fits, ends]

/-- What the end of the last request leaves of its operation. -/
theorem LastRequest.reqGone (h : LastRequest s r o w it) : (s.reqGone r).fab.reqs = [] ∧ (s.reqGone r).fab.ops = [o] ∧
    ∃ f g m, s.reqGone r = { s with fab := f, regs := g, engines := m } := by
  obtain ⟨f, g, m, gone, reqs, ops⟩ := s.reqGone_eq r
  exact ⟨by rw [gone]; simp [reqs, h.reqs], by rw [gone]; exact ops.trans h.ops, f, g, m, gone⟩

end

/-! ### The request's part in its operation -/

section
variable {s u : State} {r : FabReq} {o : FabOp} {w : Work} {it : Item} {a : Nat} {data : List Byte} {poison : Bool}

/-- An operation that has gathered bytes from a position on. -/
def FabOp.gather (o : FabOp) (pos : Nat) (data : List Byte) : FabOp := { o with got := SMap.setRun 0 o.got pos data }

/-- An operation that a request at a position has failed, as the first one. -/
def FabOp.failed (o : FabOp) (pos : Nat) (res : Result) : FabOp := { o with fail := some (pos, res), stop := true }

/-- The bytes of a READ that came well stand in the hub scratchpad (R225). -/
theorem State.opEnd_read (ops : u.fab.ops = [o]) (kind : r.kind = 1) (dest : o.dest = .hub a) (len : data.length = r.len) :
    u.opEnd r o ⟨.ok, 0⟩ data false = (u.setFab { u.fab with ops := [o.gather r.pos data] }).setHub
      (u.hubsp.writeOut (a + r.pos) ⟨data, List.replicate (data.length / 64 + 2) false⟩) := by
  have good : Status.ok.good = true := rfl
  have plain : (Status.ok == Status.okCorrected) = false := rfl
  simp [State.opEnd, kind, len, State.deliverEnd, dest, State.updOp, ops, good, plain, State.setFab, State.setHub, FabOp.gather]

theorem State.opEnd_write (ops : u.fab.ops = [o]) (kind : r.kind = 2) :
    u.opEnd r o ⟨.ok, 0⟩ data poison = u.setFab { u.fab with ops := [o] } := by
  have good : Status.ok.good = true := rfl
  have plain : (Status.ok == Status.okCorrected) = false := rfl
  simp [State.opEnd, kind, State.updOp, ops, good, plain]

/-- A WRITE that failed, the first of its operation to do so, stops it (R225). -/
theorem State.opEnd_write_failed (ops : u.fab.ops = [o]) (kind : r.kind = 2) (first : o.fail = none) :
    u.opEnd r o ⟨.eTimeout, 0⟩ data poison = u.setFab { u.fab with ops := [o.failed r.pos ⟨.eTimeout, 0⟩] } := by
  have bad : Status.eTimeout.good = false := rfl
  have plain : (Status.eTimeout == Status.okCorrected) = false := rfl
  simp [State.opEnd, kind, State.updOp, ops, bad, plain, FabOp.failAt, first, State.setFab, FabOp.failed]

/-- Nothing is left of an operation, and its work has ended with a result. -/
structure OperationEnds (s t : State) (w : Work) (res : Result) : Prop where
  reqs : t.fab.reqs = []
  ops : t.fab.ops = []
  result : t.resultOf w = some res
  mem : t.mem = s.mem
  spad : t.spad = s.spad

theorem LastRequest.settles (h : LastRequest s r o w it) {v : State} {o' : FabOp} {f : Fabric} {g : SMap Nat} {m : SMap Eng} {hub : Mem}
    (frame : v = { s with fab := f, regs := g, engines := m, hubsp := hub }) (reqs : f.reqs = []) (ops : f.ops = [o'])
    (origin : o'.origin = o.origin) (dest : ∀ n off key, o'.dest ≠ .stage n off key) (finished : (o'.stop || o'.issuedAll) = true) :
    OperationEnds s v.settleOps w o'.outcome ∧
      v.settleOps = { v with fab := { v.fab with ops := [] }, queues := v.settleOps.queues, graphs := v.settleOps.graphs } := by
  subst frame
  obtain ⟨result, settled⟩ := State.settleOps_ends (v := { s with fab := f, regs := g, engines := m, hubsp := hub }) h.item h.busy rfl rfl
    reqs ops (origin.trans h.origin) dest finished
  exact ⟨⟨by rw [settled]; exact reqs, by rw [settled], result, by rw [settled], by rw [settled]⟩, settled⟩

end

section
variable {s : State} {port : Fin 64} {p : Packet} {r : FabReq} {o : FabOp} {w : Work} {it : Item}

/-- A READ's good reply, its operation's last: its data stand at the local end, and the operation has ended (R225, R242). -/
theorem LastRequest.read_ends (h : LastRequest s r o w it) (kind : r.kind = 1) (code : o.code = r.kind) {a : Nat} (dest : o.dest = .hub a)
    (issued : o.issuedAll = true) (well : o.fail = none) (clean : o.poisoned = false) (plain : o.corrected = false)
    (len : p.data.length = r.len) :
    let t := ((s.endReq r ⟨.ok, 0⟩ p.data false).ackPosted r.node p.fseq).settleOps
    OperationEnds s t w ⟨.ok, 0⟩ ∧ (∀ k < r.len, t.hubsp.byte (a + r.pos + k) = p.data.getD k 0) ∧
      ∀ k, k < a + r.pos ∨ a + r.pos + r.len ≤ k → t.hubsp.byte k = s.hubsp.byte k := by
  obtain ⟨reqs, ops, f, g, m, gone⟩ := h.reqGone
  have outcome : (o.gather r.pos p.data).outcome = ⟨.ok, 0⟩ := by simp [FabOp.outcome, FabOp.gather, well, code, kind, clean, plain]
  have more : (o.gather r.pos p.data).issuedAll = true := issued
  rw [State.endReq_of_only h.ops h.own, State.opEnd_read ops kind dest len, State.ackPosted_of_none (by exact reqs)]
  rw [gone] at reqs ⊢
  generalize landed : State.setHub _ _ = v
  obtain ⟨ends, frame⟩ := h.settles (o' := o.gather r.pos p.data) landed.symm reqs rfl rfl (by simp [FabOp.gather, dest])
    (by rw [more, Bool.or_true])
  have hub : v.settleOps.hubsp = s.hubsp.writeOut (a + r.pos) ⟨p.data, List.replicate (p.data.length / 64 + 2) false⟩ := by
    rw [frame, ← landed]
    rfl
  rw [outcome] at ends
  refine ⟨ends, fun k hk => ?_, fun k hk => ?_⟩
  · rw [hub, Mem.writeOut_byte, if_pos (by simp only [len]; omega), Nat.add_sub_cancel_left]
  · rw [hub, Mem.writeOut_byte, if_neg (by simp only [len]; omega)]

/-- A WRITE's good reply, its operation's last, ends the operation (R225, R242). -/
theorem LastRequest.write_ends (h : LastRequest s r o w it) (kind : r.kind = 2) (code : o.code = r.kind) (dest : o.dest = .none)
    (issued : o.issuedAll = true) (well : o.fail = none) (clean : o.poisoned = false) (plain : o.corrected = false) (poison : Bool) :
    let t := ((s.endReq r ⟨.ok, 0⟩ p.data poison).ackPosted r.node p.fseq).settleOps
    OperationEnds s t w ⟨.ok, 0⟩ ∧ t.hubsp = s.hubsp := by
  obtain ⟨reqs, ops, f, g, m, gone⟩ := h.reqGone
  have outcome : o.outcome = ⟨.ok, 0⟩ := by simp [FabOp.outcome, well, code, kind, clean, plain]
  rw [State.endReq_of_only h.ops h.own, State.opEnd_write ops kind, State.ackPosted_of_none (by exact reqs)]
  rw [gone] at reqs ⊢
  generalize landed : State.setFab _ _ = v
  obtain ⟨ends, frame⟩ := h.settles landed.symm reqs rfl rfl (by simp [dest]) (by rw [issued, Bool.or_true])
  rw [outcome] at ends
  exact ⟨ends, by rw [frame, ← landed]; rfl⟩

end

/-! ## FABRIC_NAK and FABRIC_RETRANSMIT_TIMEOUT (R231, R232) -/

section
variable {s : State} {r : FabReq} {q : Nat}

/-- A request for memory or an open, whatever its number, takes the port of its node's route. -/
theorem State.reqPort_of_route (memory : isReflection r.kind = false) (route : s.routePort r.node = some q) : s.reqPort r = some q := by
  rw [State.reqPort, memory, Bool.not_false, if_pos rfl, route]

theorem exec_fabricNak {port : Fin 64} {p : Packet} (served : s.kept = false) (receives : s.portReceives port = true)
    (kind : p.kind = 0x81) (only : s.fab.reqs = [r]) (node : r.node = p.src) (store : r.kind ≠ 1) (memory : isReflection r.kind = false)
    (data : r.opn = false) (sent : r.attempts ≠ 0) (again : r.attempts < 5) (named : r.fseq = p.fseq)
    (route : s.routePort r.node = some q) : exec (.fabricNak port p) s = .next (s.sendReq r q) := by
  have stores : (s.fab.reqs.filter fun r => r.node == p.src && r.kind != 1 && !r.opn && r.attempts != 0) = [r] := by
    simp [only, node, store, data, sent]
  have onward : (r.fseq + 2 ^ 32 - p.fseq) % 2 ^ 32 < 2 ^ 31 := by rw [named]; omega
  have from_ : ([r].filter fun r => decide ((r.fseq + 2 ^ 32 - p.fseq) % 2 ^ 32 < 2 ^ 31) && decide (r.attempts < 5)) = [r] :=
    List.filter_eq_self.2 fun x hx => by rw [List.mem_singleton.1 hx, decide_eq_true onward, decide_eq_true again]; rfl
  change execFabricNak port p s = _
  simp only [execFabricNak, kind, served, receives, stores, from_, List.any_cons, List.any_nil, named, beq_self_eq_true, Bool.true_or,
    Bool.not_true, Bool.false_eq_true, if_false, not_true, ne_eq, List.foldl_cons, List.foldl_nil, State.reqPort_of_route memory route]

theorem exec_fabricRetransmitTimeout {tag : Fin 16384} (only : s.fab.reqs = [r]) (own : r.tag = tag) (sent : r.attempts ≠ 0)
    (again : r.attempts < 5) (memory : isReflection r.kind = false) (route : s.routePort r.node = some q) :
    exec (.fabricRetransmitTimeout tag) s = .next ((s.due (r.last + 20000)).sendReq r q) := by
  have found : (s.fab.reqs.find? fun r => r.tag == tag.val && r.attempts != 0) = some r := by simp [only, own, sent]
  change execFabricRetransmitTimeout tag s = _
  simp only [execFabricRetransmitTimeout, found, Nat.not_le.2 again, if_false, State.reqPort_of_route memory route]

end

/-! ## FABRIC_FINAL_TIMEOUT and ROUTE_WAIT_TIMEOUT (R232, R234) -/

section
variable {s : State} {tag : Fin 16384} {r : FabReq} {o : FabOp} {w : Work} {it : Item}

/-- Time alone changes neither what is out nor the work at its unit. -/
theorem LastRequest.due (h : LastRequest s r o w it) (t : Nat) : LastRequest (s.due t) r o w it :=
  ⟨h.reqs, h.own, h.ops, h.origin, (State.item_congr rfl rfl rfl rfl).trans h.item, h.busy⟩

/-- A flow whose source side must be opened again (R232). -/
def State.closeSrc (s : State) (n : Nat) : State := s.setSrc n { s.srcFlow n with opened := false, opening := false }

theorem exec_fabricFinalTimeout (only : s.fab.reqs = [r]) (own : r.tag = tag) (fifth : r.attempts = 5) (data : r.opn = false)
    (kind : r.kind = 2) : exec (.fabricFinalTimeout tag) s =
      .next (((s.due (r.last + s.finalWait r.node)).endReq r ⟨.eTimeout, 0⟩ [] false).closeSrc r.node).settleOps := by
  have found : (s.fab.reqs.find? fun r => r.tag == tag.val && r.attempts != 0) = some r := by simp [only, own, fifth]
  change execFabricFinalTimeout tag s = _
  simp only [execFabricFinalTimeout, found, fifth, data, kind, FabReq.lostAs, ne_eq, not_true, false_and, if_false, Bool.false_eq_true,
    Nat.reduceEqDiff, if_true, State.due_fab]
  simp only [only, List.filter_cons, List.filter_nil, bne_self_eq_false, Bool.and_false, Bool.false_and, Bool.false_eq_true, if_false,
    List.foldl_nil, State.closeSrc]

theorem exec_routeWaitTimeout (only : s.fab.reqs = [r]) (own : r.tag = tag) (unsent : r.attempts = 0) (data : r.opn = false)
    (kind : r.kind = 2) (noRoute : s.routePort r.node = none) : exec (.routeWaitTimeout tag) s =
      .next ((s.due (r.first + 80000 + s.finalWait r.node)).endReq r ⟨.eTimeout, 0⟩ [] false).settleOps := by
  have found : (s.fab.reqs.find? fun r => r.tag == tag.val && r.attempts == 0) = some r := by simp [only, own, unsent]
  have port : s.reqPort r = none := (State.reqPort_of_memory (by omega)).trans noRoute
  change execRouteWaitTimeout tag s = _
  simp [execRouteWaitTimeout, found, port, data]

/-- A WRITE given up ends its operation with E_TIMEOUT, whatever its flow's source side then holds. -/
theorem LastRequest.write_times_out (h : LastRequest s r o w it) (kind : r.kind = 2) (well : o.fail = none) (dest : o.dest = .none) {v : State}
    {flows : SMap Flow} (changed : v = (s.endReq r ⟨.eTimeout, 0⟩ [] false).setFab
      { (s.endReq r ⟨.eTimeout, 0⟩ [] false).fab with flows := flows }) :
    OperationEnds s v.settleOps w ⟨.eTimeout, 0⟩ ∧ v.settleOps.fab.flows = v.fab.flows ∧ v.settleOps.time = s.time := by
  obtain ⟨reqs, ops, f, g, m, gone⟩ := h.reqGone
  rw [State.endReq_of_only h.ops h.own, State.opEnd_write_failed ops kind well, gone] at changed
  rw [gone] at reqs
  obtain ⟨ends, frame⟩ := h.settles (o' := o.failed r.pos ⟨.eTimeout, 0⟩) changed reqs rfl rfl
    (by simp [FabOp.failed, dest]) rfl
  exact ⟨ends, by rw [frame], by rw [frame, changed]; rfl⟩

end

/-! ## The statement -/

/-- Settles O38: a piece leaves as a new request; a reply or the last timeout ends it with its operation, and a NAK or silence sends it
again. -/
theorem fabricRequests : Obligations.FabricRequests := by
  unfold Obligations.FabricRequests
  refine ⟨⟨fun s n x o q => fabricRequestIssue_gives, fun s n => exec_fabricRequestIssue_quiet⟩, ?_, ?_, ?_, ?_, ?_, ?_⟩
  · intro s port p r o w it a served receives kind only tag sent node data own ops origin issued well clean plain _ code item busy ok whole fits
    have arrives : ReplyArrives s port p := ⟨served, receives, kind⟩
    have last : LastRequest s r o w it := ⟨only, own, ops, origin, item, busy⟩
    refine ⟨fun read dest => ?_, fun write dest => ?_⟩
    · have len : p.data.length = r.len := by simpa [FabReq.fits, read, Status.good] using (Bool.and_eq_true_iff.1 fits).2
      have ran := arrives.exec_of_good only tag sent node data (.inl read) ok fits
      rw [whole] at ran
      obtain ⟨ends, inside, outside⟩ := last.read_ends (p := p) read code dest issued well clean plain len
      exact ⟨_, ran, ends.reqs, ends.ops, ends.result, inside, outside, ends.mem, ends.spad⟩
    · obtain ⟨ends, hub⟩ := last.write_ends (p := p) write code dest issued well clean plain p.poison
      exact ⟨_, arrives.exec_of_good only tag sent node data (.inr write) ok fits, ends.reqs, ends.ops, ends.result, ends.mem, ends.spad, hub⟩
  · intro s port p served receives kind nothing
    exact ⟨_, ReplyArrives.exec_of_nothing ⟨served, receives, kind⟩ nothing, s.put_onlyRegs _ _ _⟩
  · intro s port p r q served receives kind only node store memory data sent again named route
    obtain ⟨shown, mem, -⟩ := State.sendReq_again sent only (State.linkUp_of_routePort route)
    exact ⟨_, exec_fabricNak served receives kind only node store memory data sent again named route, shown, mem⟩
  · intro s tag r q only own sent again memory route
    obtain ⟨⟨r', k, reqs, attempts, fseq, at_, leaves, marked, number, -⟩, mem, time⟩ := State.sendReq_again
      (s := s.due (r.last + 20000)) sent only (State.linkUp_of_routePort (s := s) route)
    refine ⟨_, exec_fabricRetransmitTimeout only own sent again memory route, ?_, ⟨r', k, reqs, attempts, fseq, at_.trans time.symm,
      leaves.of_same rfl rfl, marked, number⟩, mem⟩
    rw [time]
    exact Nat.le_max_right _ _
  · intro s tag r o w it only own fifth data kind serves ops _ origin well dest _ item busy
    have last : LastRequest (s.due (r.last + s.finalWait r.node)) r o w it := LastRequest.due ⟨only, serves, ops, origin, item, busy⟩ _
    obtain ⟨ends, flows, time⟩ := last.write_times_out kind well dest (v := State.closeSrc _ r.node) rfl
    refine ⟨_, exec_fabricFinalTimeout only own fifth data kind, ends.reqs, ends.ops, ends.result, ?_, ?_, ends.mem⟩
    · rw [State.srcFlow, State.flow, flows]
      exact congrArg (fun f : Flow => (f.src.getD {}).opened) (State.setFlow_same _ _ _)
    · rw [time]
      exact Nat.le_max_right _ _
  · intro s tag r o w it only own unsent data kind serves ops _ origin well dest _ item busy noRoute
    have last : LastRequest (s.due (r.first + 80000 + s.finalWait r.node)) r o w it :=
      LastRequest.due ⟨only, serves, ops, origin, item, busy⟩ _
    obtain ⟨ends, -, time⟩ := last.write_times_out kind well dest (v := State.endReq _ r _ _ _) rfl
    refine ⟨_, exec_routeWaitTimeout only own unsent data kind noRoute, ends.reqs, ends.ops, ends.result, ?_, ends.mem⟩
    rw [time]
    exact Nat.le_max_right _ _

end Sys2Proof.Machine

/-! SUPPORT. Local memory reads and takes writes by its map, its channels and what it holds, whatever else the state is. -/

namespace Sys2Proof.Machine

/-! ## What accesses go by -/

/-- What places an access to local memory, and says whether its channel serves it (R144, R166). -/
def State.memMap (s : State) : (Nat → Option Nat) × (Nat → MapEnt) × (Nat → Nat) × (Nat → Nat) × (Nat → Nat) :=
  (s.mapFor, s.mapEnt, s.get F.MEM_CH_STAT_state, s.get F.MEM_CH_STAT_logical, s.get F.MEM_CH_STAT_pointer)

/-- The field is none of those that an access to local memory goes by. -/
def Fld.offMemory (f : Fld) : Prop :=
  f.offMap ∧ ∀ g ∈ [F.MEM_CH_STAT_state, F.MEM_CH_STAT_logical, F.MEM_CH_STAT_pointer], g.code ≠ f.code

theorem State.put_memMap (s : State) {f : Fld} (h : f.offMemory) (v i : Nat) : (s.put f v i).memMap = s.memMap := by
  obtain ⟨map, chan⟩ := h
  have reads : ∀ g ∈ [F.MEM_CH_STAT_state, F.MEM_CH_STAT_logical, F.MEM_CH_STAT_pointer], (s.put f v i).get g = s.get g := fun g hg =>
    funext fun k => State.put_get_apart _ map.1 (by revert g; decide) (chan g hg) _ _ _
  simp only [List.forall_mem_cons] at reads
  obtain ⟨state, logical, pointer, -⟩ := reads
  simp only [State.memMap, funext (s.put_mapFor map v i), funext (s.put_mapEnt map v i), state, logical, pointer]

section
variable {s t : State} (map : t.memMap = s.memMap)
include map

theorem State.locate_congr (a : Nat) : t.locate a = s.locate a := by
  simp only [State.memMap, Prod.mk.injEq] at map
  obtain ⟨mapFor, mapEnt, -⟩ := map
  rw [State.locate, mapFor, mapEnt, State.locate]

variable (mem : t.mem = s.mem)
include mem

theorem State.lostBurst_congr (stack chan burst : Nat) (parity : Bool) :
    t.lostBurst stack chan burst parity = s.lostBurst stack chan burst parity := by
  simp only [State.memMap, Prod.mk.injEq] at map
  obtain ⟨-, -, state, logical, pointer⟩ := map
  simp only [State.lostBurst, State.physOf, State.stk, state, logical, pointer, mem]

theorem State.locBad_congr (l : Loc) : t.locBad l = s.locBad l := by
  simp only [State.locBad, State.retiredLine, State.lineBroken, State.stk, State.lostBurst_congr map mem, mem]

theorem State.locUnwritable_congr (l : Loc) : t.locUnwritable l = s.locUnwritable l := by
  simp only [State.locUnwritable, State.retiredLine, State.stk, State.lostBurst_congr map mem, mem]

theorem State.readPiece_congr (a n : Nat) : t.readPiece a n = s.readPiece a n := by
  simp only [State.readPiece, State.locate_congr map, State.locBad_congr map mem, mem]

/-- Two states of the same memory read the same. -/
theorem State.memRead_congr (a n : Nat) : t.memRead a n = s.memRead a n := by
  simp only [State.memRead, State.readPiece_congr map mem]

end

/-! ## Writes -/

/-- Two states of the same memory, with the same status so far, in the course of a write. -/
def SameWrite (x y : State × Status) : Prop := y.1.memMap = x.1.memMap ∧ y.1.mem = x.1.mem ∧ y.2 = x.2

theorem State.writePiece_memMap (x : State × Status) (a : Nat) (bs : List Byte) : (State.writePiece x a bs).1.memMap = x.1.memMap := by
  obtain ⟨m, r, frame⟩ := State.writePiece_eq x a bs
  rw [frame]
  rfl

theorem SameWrite.writePiece {x y : State × Status} (h : SameWrite x y) (a : Nat) (bs : List Byte) :
    SameWrite (State.writePiece x a bs) (State.writePiece y a bs) := by
  obtain ⟨map, mem, status⟩ := h
  refine ⟨by simp only [State.writePiece_memMap, map], ?_, ?_⟩ <;>
  · simp only [State.writePiece, State.locate_congr map, State.locUnwritable_congr map mem, State.locBad_congr map mem, status]
    split
    · simp [mem, status]
    · split <;> simp [State.storeMedia, mem]

theorem SameWrite.writePieces (ps : List (Nat × Nat)) {x y : State × Status} (h : SameWrite x y) (bs : List Byte) :
    SameWrite (State.writePieces x ps bs) (State.writePieces y ps bs) := by
  induction ps generalizing x y bs with
  | nil => exact h
  | cons p ps ih => exact ih (h.writePiece p.1 _) _

section
variable {s t : State} (map : t.memMap = s.memMap) (mem : t.mem = s.mem) (a : Nat) (bs : List Byte)
include map mem

theorem State.memWrite_mem_congr : (t.memWrite a bs).1.mem = (s.memWrite a bs).1.mem :=
  (SameWrite.writePieces (x := (s, .ok)) (y := (t, .ok)) _ ⟨map, mem, rfl⟩ bs).2.1

theorem State.memWrite_status_congr : (t.memWrite a bs).2 = (s.memWrite a bs).2 :=
  (SameWrite.writePieces (x := (s, .ok)) (y := (t, .ok)) _ ⟨map, mem, rfl⟩ bs).2.2

end

/-! ## What a write reports -/

theorem State.writePiece_uncounted {x : State × Status} (h : answerCounter x.2 = none) (a : Nat) (bs : List Byte) :
    answerCounter (State.writePiece x a bs).2 = none := by
  simp only [State.writePiece]
  split
  · exact h
  · split
    · rfl
    · dsimp only
      split
      · rfl
      · exact h

theorem State.writePieces_uncounted (ps : List (Nat × Nat)) {x : State × Status} (h : answerCounter x.2 = none) (bs : List Byte) :
    answerCounter (State.writePieces x ps bs).2 = none := by
  induction ps generalizing x bs with
  | nil => exact h
  | cons p ps ih => exact ih (State.writePiece_uncounted h p.1 _) _

/-- No status that memory gives a write has a counter in Table 8.12. -/
theorem State.memWrite_uncounted (s : State) (a : Nat) (bs : List Byte) : answerCounter (s.memWrite a bs).2 = none :=
  State.writePieces_uncounted _ rfl bs

/-! ## An engine's progress beside memory -/

section
variable (s : State)

theorem State.showSuspects_keeps {β : Type} (P : State → β) (context : ∀ (s : State) v i, P (s.put F.HUB_SUSPECT_context v i) = P s)
    (valid : ∀ (s : State) v i, P (s.put F.HUB_SUSPECT_valid v i) = P s) (e : Nat) (xs : List Nat) : P (s.showSuspects e xs) = P s := by
  refine foldl_keeps P (fun u k => ?_) _ s
  split <;> rw [valid, context]

/-- The fields in which an engine shows its progress (Table 12.3, R358). -/
def progressFields : List Fld :=
  [F.HUB_PROGRESS_count, F.HUB_PROGRESS_busy, F.HUB_PROGRESS_context, F.HUB_SUSPECT_context, F.HUB_SUSPECT_valid]

/-- What no progress field and no engine enters is as it was when an engine's count advances. -/
theorem State.engAdvance_keeps {β : Type} (P : State → β) (put : ∀ f ∈ progressFields, ∀ (s : State) v i, P (s.put f v i) = P s)
    (engines : ∀ (s : State) m, P { s with engines := m } = P s) (e n : Nat) : P (s.engAdvance e n) = P s := by
  simp only [progressFields, List.forall_mem_cons] at put
  obtain ⟨count, busy, context, suspect, valid, -⟩ := put
  simp only [State.engAdvance]
  split
  · exact count _ _ _
  · simp only [State.setEng, State.putB]
    rw [State.showSuspects_keeps _ P suspect valid, context, busy, engines, count]

theorem State.engAdvance_memMap (e n : Nat) : (s.engAdvance e n).memMap = s.memMap :=
  s.engAdvance_keeps _ (fun f hf s v i => s.put_memMap (by revert f; unfold Fld.offMemory Fld.offMap; decide) v i) (fun _ _ => rfl) e n

theorem State.engAdvance_get {f : Fld} (low : f.code < 1024) (apart : ∀ g ∈ progressFields, f.code ≠ g.code) (e n i : Nat) :
    (s.engAdvance e n).get f i = s.get f i :=
  s.engAdvance_keeps (State.get · f i) (fun g hg s v j => State.put_get_apart s (by revert g; decide) low (apart g hg) v j i)
    (fun _ _ => rfl) e n

end

end Sys2Proof.Machine

/-! SUPPORT. The target serves a request (Table 8.8): what answers, logs and the flow's record change, and the order of its checks. -/

namespace Sys2Proof.Machine

/-! ## States that answer alike -/

/-- The fields that say on which port, and as whom, the device answers. -/
def answerFields : List Fld := [F.FAB_NODE_ID_node, F.WIN_PORT_STAT_state, F.FAB_HELLO_STAT_outcome]

/-- State u has sent what s has sent, and answers on the same ports as the same node. -/
structure AnswersAs (s u : State) : Prop where
  out : u.out = s.out
  ports : u.ports = s.ports
  reads : ∀ f ∈ answerFields, ∀ i, u.get f i = s.get f i

namespace AnswersAs
variable {s u v : State}

theorem trans (h : AnswersAs s u) (h' : AnswersAs u v) : AnswersAs s v :=
  ⟨h'.out.trans h.out, h'.ports.trans h.ports, fun f hf i => (h'.reads f hf i).trans (h.reads f hf i)⟩

theorem of_regs (out : u.out = s.out) (ports : u.ports = s.ports) (regs : u.regs = s.regs) : AnswersAs s u :=
  ⟨out, ports, fun f _ i => by rw [State.get, regs, State.get]⟩

theorem setFab (s : State) (f : Fabric) : AnswersAs s (s.setFab f) := of_regs rfl rfl rfl

theorem put {f : Fld} (low : f.code < 1024) (apart : ∀ g ∈ answerFields, g.code ≠ f.code) (v i : Nat) : AnswersAs s (s.put f v i) :=
  ⟨rfl, rfl, fun g hg j => s.put_get_apart low (by revert g; decide) (apart g hg) v i j⟩

theorem fabCount (s : State) (j : Nat) : AnswersAs s (s.fabCount j) :=
  ⟨rfl, rfl, fun f hf i => s.bump_get_apart (by decide) (by revert f; decide) (by revert f; decide) 1 j i⟩

theorem logEvent (s : State) (code unit : Nat) (args : List Nat) : AnswersAs s (s.logEvent code unit args) := by
  refine ⟨?_, ?_, fun f hf i => s.logEvent_get code unit args (by revert f; decide) i⟩ <;>
  · obtain ⟨l, r, frame⟩ := s.logEvent_eq code unit args
    rw [frame]

theorem memWrite (s : State) (a : Nat) (bs : List Byte) : AnswersAs s (s.memWrite a bs).1 := of_regs (by simp) (by simp) (by simp)

theorem engAdvance (s : State) (e n : Nat) : AnswersAs s (s.engAdvance e n) := by
  refine ⟨?_, ?_, fun f hf i => s.engAdvance_get (by revert f; decide) (by revert f; decide) e n i⟩ <;>
  · obtain ⟨r, m, frame⟩ := s.engAdvance_eq e n
    rw [frame]

variable (h : AnswersAs s u)
include h

theorem ownNode : u.ownNode = s.ownNode := h.reads _ (by decide) 0

theorem portReceives (p : Nat) : u.portReceives p = s.portReceives p := by
  simp only [State.portReceives, State.port, h.ports, h.reads _ (show F.WIN_PORT_STAT_state ∈ answerFields by decide),
    h.reads _ (show F.FAB_HELLO_STAT_outcome ∈ answerFields by decide)]

/-- A packet sent back leaves on the port that its request arrived on. -/
theorem sendBack {port : Nat} (receives : s.portReceives port = true) (r : Packet) : Sent s (u.sendBack port r) port (.packet port r) :=
  (State.sendBack_sent _ ((h.portReceives port).trans receives)).of_same h.out (by rw [State.port, h.ports, State.port])

/-- The answer leaves on the port that its request arrived on, as this node's. -/
theorem answer {port : Nat} (receives : s.portReceives port = true) (p : Packet) (st : Status) (data : List Byte) (poison : Bool) :
    ∃ r : Packet, Sent s (u.answer port p st data poison) port (.packet port r) ∧ r.kind = 0x80 ∧ r.tag = p.tag ∧ r.dst = p.src ∧
      r.src = s.ownNode ∧ r.status = st.code ∧ r.data = data ∧
      ∀ y, (u.flow p.src).tgt = some y → r.fseq = (y.expected + 2 ^ 32 - 1) % 2 ^ 32 := by
  have sent : Sent s (u.answer port p st data poison) port _ :=
    (State.answer_sent p st data poison ((h.portReceives port).trans receives)).of_same h.out (by rw [State.port, h.ports, State.port])
  have own : (u.countAnswer st).ownNode = s.ownNode := (u.countAnswer_get st (by decide) (by decide) 0).trans h.ownNode
  obtain ⟨g, counted⟩ := u.countAnswer_eq st
  have flow : (u.countAnswer st).flow p.src = u.flow p.src := State.flow_congr (by rw [counted]) _
  exact ⟨_, sent, rfl, rfl, rfl, own, rfl, rfl, fun y target => by simp only [State.replyTo, flow, target]⟩

/-- To a source whose flow is open the answer names the sequence number before the one expected. -/
theorem replies {port : Nat} (receives : s.portReceives port = true) {p : Packet} {y : FlowTgt} (target : (u.flow p.src).tgt = some y)
    (st : Status) (data : List Byte) (poison : Bool) :
    Replies s (u.answer port p st data poison) port p st ((y.expected + 2 ^ 32 - 1) % 2 ^ 32) data := by
  obtain ⟨r, sent, kind, tag, dst, src, status, carries, number⟩ := h.answer receives p st data poison
  exact ⟨r, sent, kind, tag, dst, src, status, number y target, carries⟩

end AnswersAs

/-! ## Violations (R237, R244) -/

section
variable (s : State) (n j : Nat)

/-- A violation's record is written, or left out where too many are (R244). -/
theorem State.sourceLog_cases (args : List Nat) : ∃ f, (s.sourceLog n args = s.setFab f ∨
    s.sourceLog n args = (s.setFab f).logEvent 0x000E 0 args) ∧ f.flows = s.fab.flows ∧ f.held = s.fab.held := by
  unfold State.sourceLog
  refine iteInduction (motive := fun u => ∃ f, (u = s.setFab f ∨ u = (s.setFab f).logEvent 0x000E 0 args) ∧
    f.flows = s.fab.flows ∧ f.held = s.fab.held) (fun _ => ?_) fun _ => ?_
  · exact ⟨_, .inl rfl, rfl, rfl⟩
  · exact ⟨_, .inr rfl, rfl, rfl⟩

theorem AnswersAs.sourceLog (args : List Nat) : AnswersAs s (s.sourceLog n args) := by
  obtain ⟨f, e | e, -⟩ := s.sourceLog_cases n args <;> rw [e]
  · exact .setFab s f
  · exact (setFab s f).trans (logEvent _ _ _ _)

theorem State.sourceLog_eq (args : List Nat) : ∃ f l r, s.sourceLog n args = { s with fab := f, log := l, regs := r } ∧
    f.flows = s.fab.flows ∧ f.held = s.fab.held := by
  obtain ⟨f, e | e, flows, held⟩ := s.sourceLog_cases n args
  · exact ⟨f, s.log, s.regs, e, flows, held⟩
  · obtain ⟨l, r, frame⟩ := (s.setFab f).logEvent_eq 0x000E 0 args
    exact ⟨f, l, r, e.trans frame, flows, held⟩

/-- A violation is counted, and noted for the flood rule (R244). -/
def State.noteViolation : State := (s.fabCount j).setFab { s.fab with
  viol := SMap.set [] s.fab.viol n ((s.time :: (SMap.get [] s.fab.viol n).filter fun t => decide (s.time < t + 1000000)).take 1025) }

theorem State.violation_eq_sourceLog : s.violation n j = (s.noteViolation n j).sourceLog n [n, j] := rfl

/-- A violation changes no flow and nothing that is held. -/
theorem State.violation_eq : ∃ f l r, s.violation n j = { s with fab := f, log := l, regs := r } ∧
    f.flows = s.fab.flows ∧ f.held = s.fab.held := by
  obtain ⟨f, l, r, frame, flows, held⟩ := (s.noteViolation n j).sourceLog_eq n [n, j]
  exact ⟨f, l, r, (s.violation_eq_sourceLog n j).trans frame, flows, held⟩

theorem AnswersAs.violation : AnswersAs s (s.violation n j) :=
  ((fabCount s j).trans (setFab _ _)).trans (sourceLog (s.noteViolation n j) n [n, j])

end

/-! ## A request that has been checked -/

/-- The checks of a request leave state u, in which the source's flow stands at y, with nothing held and no other flow changed. -/
structure Checked (s u : State) (n : Nat) (x y : FlowTgt) : Prop where
  answers : AnswersAs s u
  held : u.fab.held = s.fab.held
  target : (u.flow n).tgt = some y
  epoch : y.epoch = x.epoch
  expected : y.expected = x.expected
  others : ∀ k, k ≠ n → u.flow k = s.flow k

/-- The target's record of a flow once a store has been answered (R231). -/
def FlowTgt.served (y : FlowTgt) (fseq : Nat) (st : Status) (now : Nat) : FlowTgt :=
  { y with expected := (y.expected + 1) % 2 ^ 32, lastReq := now, window := ((fseq, st) :: y.window).take 128 }

/-- A flow's target side is set. -/
def State.setTgt (s : State) (n : Nat) (y : FlowTgt) : State := s.setFlow n { s.flow n with tgt := some y }

@[simp] theorem State.setTgt_tgt (s : State) (n : Nat) (y : FlowTgt) : ((s.setTgt n y).flow n).tgt = some y := by
  rw [State.setTgt, State.setFlow_same]

section
variable (s : State) (n : Nat) (y : FlowTgt)

@[simp] theorem State.setTgt_mem : (s.setTgt n y).mem = s.mem := rfl
@[simp] theorem State.setTgt_spad : (s.setTgt n y).spad = s.spad := rfl
@[simp] theorem State.setTgt_hubsp : (s.setTgt n y).hubsp = s.hubsp := rfl
@[simp] theorem State.setTgt_sync : (s.setTgt n y).sync = s.sync := rfl
@[simp] theorem State.setTgt_regs : (s.setTgt n y).regs = s.regs := rfl
@[simp] theorem State.touch_spad : (s.touch n).spad = s.spad := rfl
@[simp] theorem State.touch_hubsp : (s.touch n).hubsp = s.hubsp := rfl
@[simp] theorem State.touch_sync : (s.touch n).sync = s.sync := rfl
@[simp] theorem State.touch_regs : (s.touch n).regs = s.regs := rfl
@[simp] theorem State.touch_time : (s.touch n).time = s.time := rfl
@[simp] theorem State.touch_mem : (s.touch n).mem = s.mem := rfl

end

theorem State.setTgt_other (s : State) (y : FlowTgt) {k n : Nat} (h : k ≠ n) : (s.setTgt n y).flow k = s.flow k := State.setFlow_other h

/-- The flow of x has taken one more store, and no other flow has changed. -/
def Taken (s t : State) (n : Nat) (x : FlowTgt) : Prop :=
  ∃ y, (t.flow n).tgt = some y ∧ y.epoch = x.epoch ∧ y.expected = (x.expected + 1) % 2 ^ 32 ∧ ∀ k, k ≠ n → t.flow k = s.flow k

/-- The record of a wrong key is noted in the source's flow and written, or left out where too many are, which counts it (R237). -/
theorem State.keyLog_cases {s : State} {n : Nat} {y : FlowTgt} (target : (s.flow n).tgt = some y) (i : Nat) :
    ∃ f, (s.keyLog n i = (s.setFab f).fabCount 12 ∨ ∃ z, s.keyLog n i = ((s.setFab f).setTgt n z).logEvent 0x000D 0 [n, i] ∧
      z.epoch = y.epoch ∧ z.expected = y.expected) ∧ f.flows = s.fab.flows ∧ f.held = s.fab.held := by
  have noted (st c : Nat) : ((s.setFab { s.fab with keyStart := st, keyCount := c }).setFlow n { s.flow n with
      tgt := (s.flow n).tgt.map fun t => { t with keyLog := some s.time } }) =
      (s.setFab { s.fab with keyStart := st, keyCount := c }).setTgt n { y with keyLog := some s.time } := by
    rw [target]
    rfl
  unfold State.keyLog
  dsimp only
  simp only [noted]
  generalize (if s.fab.keyStart + 1000000000 ≤ s.time then s.time else s.fab.keyStart) = start
  generalize (if s.fab.keyStart + 1000000000 ≤ s.time then 0 else s.fab.keyCount) = count
  refine iteInduction (motive := fun u => ∃ f, (u = (s.setFab f).fabCount 12 ∨
    ∃ z, u = ((s.setFab f).setTgt n z).logEvent 0x000D 0 [n, i] ∧ z.epoch = y.epoch ∧ z.expected = y.expected) ∧ f.flows = s.fab.flows ∧ f.held = s.fab.held) (fun _ => ?_) fun _ => ?_
  · exact ⟨_, .inl rfl, rfl, rfl⟩
  · exact ⟨_, .inr ⟨_, rfl, rfl, rfl⟩, rfl, rfl⟩

namespace Checked
variable {s u : State} {n : Nat} {x y : FlowTgt}

/-- What leaves the flows as they are keeps what the checks have left. -/
theorem next {v : State} (h : Checked s u n x y) (answers : AnswersAs u v) (held : v.fab.held = u.fab.held) (flows : v.fab.flows = u.fab.flows) :
    Checked s v n x y := by
  have flow (k : Nat) : v.flow k = u.flow k := by rw [State.flow, flows, State.flow]
  exact ⟨h.answers.trans answers, held.trans h.held, by rw [flow, h.target], h.epoch, h.expected,
    fun k other => (flow k).trans (h.others k other)⟩

/-- A new record of the flow with the same epoch and number expected. -/
theorem setTgt (h : Checked s u n x y) {z : FlowTgt} (epoch : z.epoch = y.epoch) (expected : z.expected = y.expected) :
    Checked s (u.setTgt n z) n x z :=
  ⟨h.answers.trans (.of_regs rfl rfl rfl), h.held, u.setTgt_tgt n z, epoch.trans h.epoch, expected.trans h.expected,
    fun k other => (u.setTgt_other z other).trans (h.others k other)⟩

theorem touch (target : (s.flow n).tgt = some x) : Checked s (s.touch n) n x x :=
  ⟨.of_regs rfl rfl rfl, rfl, by rw [State.touch, State.setFlow_same]; exact target, rfl, rfl, fun _ other => State.setFlow_other other⟩

theorem keyLog (h : Checked s u n x y) (i : Nat) : (∃ z, Checked s (u.keyLog n i) n x z) ∧ (u.keyLog n i).mem = u.mem := by
  obtain ⟨f, e | ⟨z, e, epoch, expected⟩, flows, held⟩ := State.keyLog_cases h.target i <;> rw [e]
  · exact ⟨⟨y, h.next ((AnswersAs.setFab u f).trans (.fabCount _ 12)) held flows⟩, rfl⟩
  · have noted : Checked s ((u.setFab f).setTgt n z) n x z := (h.next (.setFab u f) held flows).setTgt epoch expected
    obtain ⟨l, r, frame⟩ := ((u.setFab f).setTgt n z).logEvent_eq 0x000D 0 [n, i]
    exact ⟨⟨z, noted.next (.logEvent _ _ _ _) (by rw [frame]) (by rw [frame])⟩, by rw [frame]; rfl⟩

end Checked

/-! ## The order of the checks -/

theorem State.needCtx_of_onDie {s : State} {n : Nat} (place : (s.flow n).place = .onDie) : s.needCtx n = (true, s.touch n) := by
  rw [State.needCtx, place]

theorem State.touch_tgt (s : State) (n : Nat) : ((s.touch n).flow n).tgt = (s.flow n).tgt := by rw [State.touch, State.setFlow_same]

theorem State.touch_memMap (s : State) (n : Nat) : (s.touch n).memMap = s.memMap := rfl

namespace Admits
variable {s u : State} {port : Nat} {p : Packet} {x y : FlowTgt} {st : Status} {bytes : List Byte} {bad : Bool} (h : Admits s port p x)
include h

theorem target : (s.flow p.src).tgt = some x := by
  obtain ⟨-, -, -, -, -, -, -, -, target, -⟩ := h
  exact target

theorem receives : s.portReceives port = true := by
  obtain ⟨-, receives, -⟩ := h
  exact receives

/-- An admitted request is served by its flow, and nothing that waits is served after it. -/
theorem arrive_eq (held : (s.serveFlow port p).fab.held = s.fab.held) : s.arrive port p = s.serveFlow port p := by
  obtain ⟨kept, receives, frozen, header, on, member, bound, -, -, -, -, -, idle⟩ := h
  have served : s.serve port p = s.serveFlow port p := by simp [State.serve, header, on, member, bound]
  have none : (s.fab.held.any fun e => e.2.src == p.src && e.2.kind == 1) = false := by
    rw [List.any_eq_false] at idle ⊢
    exact fun e he => by simp [idle e he]
  rw [State.arrive, kept, receives, frozen, served]
  exact State.serveHeld_of_none (f := fun k => k.src == p.src && k.kind == 1) (by rw [held]; exact none)

theorem serveFlow_store (kind : p.kind ≠ 1) (data : ¬(p.kind = 6 ∧ p.opn = true)) (inOrder : p.fseq = x.expected) :
    s.serveFlow port p = (s.touch p.src).serveStore port p x := by
  obtain ⟨-, -, -, -, -, -, -, place, target, epoch, flow, free, -⟩ := h
  have here : p.dstEpoch = (s.touch p.src).epoch := epoch
  have free' : (s.touch p.src).packetHeld p = false := free
  simp [State.serveFlow, State.needCtx_of_onDie place, State.touch_tgt, target, here, flow, free', kind, data, inOrder]

theorem serveFlow_read (kind : p.kind = 1) (unordered : p.ordered = false) (checks : (s.touch p.src).serveChecks p x = ⟨u, st, bytes, bad⟩)
    (left : (u.flow p.src).tgt = some y) :
    s.serveFlow port p = (u.setTgt p.src { y with lastReq := s.time }).answer port p st bytes bad := by
  obtain ⟨-, -, -, -, -, -, -, place, target, epoch, flow, free, -⟩ := h
  have here : p.dstEpoch = (s.touch p.src).epoch := epoch
  have free' : (s.touch p.src).packetHeld p = false := free
  simp [State.serveFlow, State.needCtx_of_onDie place, State.touch_tgt, target, here, flow, free', kind, unordered, checks, left, State.setTgt,
    State.touch_time]

theorem serveFlow_ahead {d : Nat} (kind : p.kind ≠ 1) (data : ¬(p.kind = 6 ∧ p.opn = true)) (ahead : 0 < d) (near : d ≤ 128)
    (number : p.fseq = (x.expected + d) % 2 ^ 32) (small : x.expected < 2 ^ 32) :
    s.serveFlow port p = (s.touch p.src).nak port p x.expected := by
  obtain ⟨-, -, -, -, -, -, -, place, target, epoch, flow, -⟩ := h
  have here : p.dstEpoch = (s.touch p.src).epoch := epoch
  have distance : (p.fseq + 2 ^ 32 - x.expected) % 2 ^ 32 = d := by omega
  simp only [State.serveFlow, State.needCtx_of_onDie place, State.touch_tgt, target, here, flow, kind, data, distance]
  simp [near, Nat.ne_of_gt ahead]

theorem serveFlow_open (kind : p.kind = 6) (opn : p.opn = true) : s.serveFlow port p = (s.touch p.src).serveOpen port p := by
  obtain ⟨-, -, -, -, -, -, -, place, target, epoch, -⟩ := h
  have here : p.dstEpoch = (s.touch p.src).epoch := epoch
  simp [State.serveFlow, State.needCtx_of_onDie place, here, kind, opn]

end Admits

/-! ## What the checks of each kind give (Table 8.8, checks 7 to 13) -/

section
variable {s : State} {p : Packet} {x : FlowTgt}

theorem State.serveChecks_fence (kind : p.kind = 6) : s.serveChecks p x = { state := s, status := .ok } := by
  simp [State.serveChecks, kind]

/-- The kinds that reach memory through an exported region. -/
def Packet.byRegion (p : Packet) : Prop := p.kind = 1 ∨ p.kind = 2 ∨ p.kind = 3 ∨ p.kind = 4

theorem State.serveChecks_of_region_none (kind : p.byRegion) (none : s.regionFor p.offset = none) :
    s.serveChecks p x = { state := s, status := .eNotExported } := by
  obtain kind | kind | kind | kind := kind <;> simp [State.serveChecks, kind, isReflection, none]

theorem State.serveChecks_of_wrong_key {i : Nat} (kind : p.byRegion) (region : s.regionFor p.offset = some i)
    (wrong : p.key ≠ s.get F.FAB_REGION_key i) : s.serveChecks p x = { state := s.keyLog p.src i, status := .eKey } := by
  obtain kind | kind | kind | kind := kind <;> simp [State.serveChecks, kind, isReflection, region, wrong]

/-- A request that a region exports reaches memory. -/
theorem State.serveChecks_of_exports (kind : p.byRegion) (exports : Exports s p) : s.serveChecks p x =
    if p.kind = 4 then s.atomicSeq p x
    else if p.kind = 1 then
      { state := s, status := if (s.memRead p.offset p.length).poisoned then .ePoison else .ok, data := (s.memRead p.offset p.length).bytes
        poison := (s.memRead p.offset p.length).poisoned }
    else if p.poison then { state := s.memPoison p.offset p.length, status := .ok }
    else { state := (s.memWrite p.offset p.data).1, status := (s.memWrite p.offset p.data).2 } := by
  obtain ⟨i, region, key, filter, permits, fits, mapped⟩ := exports
  have inside : ¬(s.get F.FAB_REGION_base i + s.get F.FAB_REGION_size i) * 2 ^ 21 < p.offset + p.length := Nat.not_lt.2 fits
  have apart : ¬p.kind = 6 ∧ isReflection p.kind = false ∧ ¬p.kind = 5 := by
    obtain kind | kind | kind | kind := kind <;> simp [kind, isReflection]
  obtain ⟨fence, reflection, send⟩ := apart
  simp only [State.serveChecks, fence, reflection, send, region, key, filter, permits, inside, mapped, ne_eq, not_true, Bool.not_true,
    Bool.false_eq_true, or_self, if_false]

theorem State.serveChecks_send (kind : p.kind = 5) (on : s.isSet F.FAB_RXQ_CFG_enable (p.offset % 1024) = true)
    (key : p.key = s.get F.FAB_RXQ_CFG_key (p.offset % 1024))
    (fits : p.length + 16 ≤ 2 ^ s.get F.FAB_RXQ_CFG_log2_slot_size (p.offset % 1024)) (room : s.ringFull (p.offset % 1024) = false)
    (mapped : s.mapped (s.ringSlot (p.offset % 1024)) (p.length + 16) = true) :
    s.serveChecks p x = s.deliver (p.offset % 1024) p := by
  simp [State.serveChecks, kind, isReflection, on, ← key, Nat.not_lt.2 fits, room, mapped]

end

/-! ## A store that is taken (R231) -/

/-- The store has been taken and answered: t holds what its checks left in u, and the flow expects the next one. -/
structure Stored (s u t : State) (port : Nat) (p : Packet) (x y : FlowTgt) (st : Status) (data : List Byte) : Prop where
  taken : Taken s t p.src x
  hwm : ∃ z, (t.flow p.src).tgt = some z ∧ z.hwm = y.hwm
  replies : Replies s t port p st p.fseq data
  mem : t.mem = u.mem
  spad : t.spad = u.spad
  hubsp : t.hubsp = u.hubsp
  sync : t.sync = u.sync
  regs : answerCounter st = none → t.regs = u.regs

theorem State.serveStore_eq {s u : State} {port : Nat} {p : Packet} {x y : FlowTgt} {st : Status} {data : List Byte} {poison : Bool}
    (checks : s.serveChecks p x = ⟨u, st, data, poison⟩) (target : (u.flow p.src).tgt = some y) :
    s.serveStore port p x = (u.setTgt p.src (y.served p.fseq st u.time)).answer port p st data poison := by
  simp only [State.serveStore, checks, target]
  rfl

/-- A store in order, whose checks leave state u, is taken and answered. -/
theorem Admits.stores {s u : State} {port : Nat} {p : Packet} {x y : FlowTgt} {st : Status} {data : List Byte} {poison : Bool}
    (h : Admits s port p x) (kind : p.kind ≠ 1) (unopened : ¬(p.kind = 6 ∧ p.opn = true)) (inOrder : p.fseq = x.expected)
    (small : x.expected < 2 ^ 32) (checks : (s.touch p.src).serveChecks p x = ⟨u, st, data, poison⟩) (left : Checked s u p.src x y) :
    Stored s u (s.arrive port p) port p x y st data := by
  have ran : s.serveFlow port p = (u.setTgt p.src (y.served p.fseq st u.time)).answer port p st data poison := by
    rw [h.serveFlow_store kind unopened inOrder, State.serveStore_eq checks left.target]
  have fab : (s.serveFlow port p).fab = (u.setTgt p.src (y.served p.fseq st u.time)).fab := by rw [ran, State.answer_fab]
  have flow (k : Nat) : (s.serveFlow port p).flow k = (u.setTgt p.src (y.served p.fseq st u.time)).flow k := State.flow_congr fab k
  have target : ((s.serveFlow port p).flow p.src).tgt = some (y.served p.fseq st u.time) := by rw [flow, State.setTgt_tgt]
  have replies := (left.answers.trans (v := u.setTgt p.src (y.served p.fseq st u.time)) (.of_regs rfl rfl rfl)).replies h.receives
    (State.setTgt_tgt _ _ _) st data poison
  have before : ((y.served p.fseq st u.time).expected + 2 ^ 32 - 1) % 2 ^ 32 = p.fseq := by
    simp only [FlowTgt.served, left.expected]
    omega
  rw [before, ← ran] at replies
  rw [h.arrive_eq (by rw [fab]; exact left.held)]
  refine ⟨⟨_, target, left.epoch, ?_, fun k other => ?_⟩, ⟨_, target, rfl⟩, replies, ?_, ?_, ?_, ?_, fun uncounted => ?_⟩
  · simp only [FlowTgt.served, left.expected]
  · rw [flow, State.setTgt_other _ _ other, left.others k other]
  · rw [ran, State.answer_mem, State.setTgt_mem]
  · rw [ran, State.answer_spad, State.setTgt_spad]
  · rw [ran, State.answer_hubsp, State.setTgt_hubsp]
  · rw [ran, State.answer_sync, State.setTgt_sync]
  · rw [ran, State.answer_regs_of_uncounted _ _ _ _ _ uncounted, State.setTgt_regs]

end Sys2Proof.Machine

/-! O39: what the target serves, and what it refuses (R226, R229, R231, R236, R239-R241, Table 8.8). -/

namespace Sys2Proof.Machine

section
variable {s : State} {port : Fin 64} {p : Packet} {x : FlowTgt}

theorem Packet.isKind_of_kind {k : Nat} (kind : p.kind = k) (data : k ≠ 6 ∨ p.opn = false) : p.isKind k = true := by
  obtain data | data := data <;> simp [Packet.isKind, kind, data]

theorem exec_writeRequest (kind : p.isKind 2 = true) : exec (.writeRequest port p) s = .next (s.arrive port p) := congrArg _ (if_pos kind)

theorem exec_writePostedRequest (kind : p.kind = 3) : exec (.writePostedRequest port p) s = .next (s.arrive port p) :=
  congrArg _ (if_pos (Packet.isKind_of_kind kind (.inl (by decide))))

theorem exec_readRequest (kind : p.kind = 1) : exec (.readRequest port p) s = .next (s.arrive port p) :=
  congrArg _ (if_pos (Packet.isKind_of_kind kind (.inl (by decide))))

theorem exec_atomicRequest (kind : p.kind = 4) : exec (.atomicRequest port p) s = .next (s.arrive port p) :=
  congrArg _ (if_pos (Packet.isKind_of_kind kind (.inl (by decide))))

theorem exec_sendRequest (kind : p.kind = 5) : exec (.sendRequest port p) s = .next (s.arrive port p) :=
  congrArg _ (if_pos (Packet.isKind_of_kind kind (.inl (by decide))))

theorem exec_fenceRequest (kind : p.kind = 6) (data : p.opn = false) : exec (.fenceRequest port p) s = .next (s.arrive port p) :=
  congrArg _ (if_pos (Packet.isKind_of_kind kind (.inr data)))

theorem exec_openRequest (kind : p.kind = 6) (opn : p.opn = true) : exec (.openRequest port p) s = .next (s.arrive port p) :=
  congrArg _ (if_pos ⟨kind, opn⟩)

/-! ## Writes -/

/-- What a served request leaves beside the memory it stores into: the flow has taken it, and the answer has left. -/
def ServedAs (s t : State) (port : Nat) (p : Packet) (x : FlowTgt) (st : Status) (data : List Byte) : Prop :=
  Taken s t p.src x ∧ Replies s t port p st p.fseq data ∧ t.spad = s.spad ∧ t.hubsp = s.hubsp ∧ t.regs = s.regs

/-- A write that a region exports is stored, taken and answered with what memory says of it. -/
theorem Admits.write (h : Admits s port p x) (kind : p.kind = 2 ∨ p.kind = 3) (inOrder : p.fseq = x.expected) (small : x.expected < 2 ^ 32)
    (clean : p.poison = false) (exports : Exports s p) : (s.arrive port p).mem = (s.memWrite p.offset p.data).1.mem ∧
      ServedAs s (s.arrive port p) port p x (s.memWrite p.offset p.data).2 [] := by
  have notRead : p.kind ≠ 1 := by omega
  have notAtomic : p.kind ≠ 4 := by omega
  have checks := State.serveChecks_of_exports (s := s.touch p.src) (x := x) (.inr (kind.imp id .inl)) exports
  rw [if_neg notAtomic, if_neg notRead, clean, if_neg Bool.false_ne_true,
    State.memWrite_status_congr (s.touch_memMap _) (s.touch_mem _)] at checks
  have stored := h.stores notRead (by omega) inOrder small checks ((Checked.touch h.target).next (.memWrite _ _ _) (by simp) (by simp))
  refine ⟨stored.mem.trans (State.memWrite_mem_congr (s.touch_memMap _) (s.touch_mem _) _ _), stored.taken, stored.replies, ?_, ?_, ?_⟩
  · rw [stored.spad, State.memWrite_spad, State.touch_spad]
  · rw [stored.hubsp, State.memWrite_hubsp, State.touch_hubsp]
  · rw [stored.regs (s.memWrite_uncounted _ _), State.memWrite_regs, State.touch_regs]

/-! ## Reads -/

/-- A read that a region exports delivers the bytes, and changes no memory and no number expected. -/
theorem Admits.read (h : Admits s port p x) (kind : p.kind = 1) (unordered : p.ordered = false) (exports : Exports s p) :
    (s.arrive port p).mem = s.mem ∧
    Replies s (s.arrive port p) port p (if (s.memRead p.offset p.length).poisoned then .ePoison else .ok)
      ((x.expected + 2 ^ 32 - 1) % 2 ^ 32) (s.memRead p.offset p.length).bytes ∧
    (∃ y, ((s.arrive port p).flow p.src).tgt = some y ∧ y.expected = x.expected) ∧ (s.arrive port p).spad = s.spad ∧
    (s.arrive port p).hubsp = s.hubsp ∧ (s.arrive port p).regs = s.regs := by
  have checks := State.serveChecks_of_exports (s := s.touch p.src) (x := x) (.inl kind) exports
  rw [if_neg (by omega), if_pos kind, State.memRead_congr (s.touch_memMap _) (s.touch_mem _)] at checks
  have ran := h.serveFlow_read kind unordered checks (Checked.touch h.target).target
  have left := (Checked.touch h.target).setTgt (z := { x with lastReq := s.time }) rfl rfl
  have fab : (s.serveFlow port p).fab = ((s.touch p.src).setTgt p.src { x with lastReq := s.time }).fab := by rw [ran, State.answer_fab]
  rw [h.arrive_eq (by rw [fab]; exact left.held)]
  refine ⟨?_, ?_, ⟨_, (congrArg Flow.tgt (State.flow_congr fab _)).trans left.target, rfl⟩, ?_, ?_, ?_⟩ <;> rw [ran]
  · rw [State.answer_mem, State.setTgt_mem, State.touch_mem]
  · exact left.answers.replies h.receives left.target _ _ _
  · rw [State.answer_spad, State.setTgt_spad, State.touch_spad]
  · rw [State.answer_hubsp, State.setTgt_hubsp, State.touch_hubsp]
  · rw [State.answer_regs_of_uncounted _ _ _ _ _ (by split <;> rfl), State.setTgt_regs, State.touch_regs]

/-! ## Atomics (R240, R241) -/

/-- The width of an atomic's word in bytes. -/
def Packet.word (p : Packet) : Nat := if p.afnWide then 8 else 4

/-- The word that an atomic finds. -/
def State.oldWord (s : State) (p : Packet) : Nat := leNat (s.memRead p.offset p.word).bytes

/-- The word that an atomic leaves (Table 8.5). -/
def State.newWord (s : State) (p : Packet) : List Byte :=
  leBytes p.word (atomicFn p.afnFn p.afnSigned (8 * p.word) (s.oldWord p) (fieldAt p.data 0 p.word) (fieldAt p.data 8 p.word))

theorem State.atomic_of_clean (clean : (s.memRead p.offset p.word).poisoned = false) : s.atomic p =
    ⟨(s.memWrite p.offset (s.newWord p)).1, (s.memWrite p.offset (s.newWord p)).2, leBytes 8 (s.oldWord p), false⟩ := by
  have clean' : ¬(s.memRead p.offset (if p.afnWide then 8 else 4)).poisoned = true := by simpa [Packet.word] using clean
  simp only [State.atomic, if_neg clean']
  rfl

/-- Result c is kept for a repetition of its atomic. -/
def State.cacheResult (s : State) (c : CacheEnt) : State := s.setFab { s.fab with cache := s.fab.cache ++ [c] }

theorem State.cacheResult_mem (s : State) (c : CacheEnt) : (s.cacheResult c).mem = s.mem := rfl
theorem State.cacheResult_spad (s : State) (c : CacheEnt) : (s.cacheResult c).spad = s.spad := rfl
theorem State.cacheResult_hubsp (s : State) (c : CacheEnt) : (s.cacheResult c).hubsp = s.hubsp := rfl

/-- Result c is kept, and its sequence number noted in the flow. -/
def State.noteAtomic (s : State) (p : Packet) (c : CacheEnt) : State := (s.cacheResult c).setFlow p.src
  { (s.cacheResult c).flow p.src with tgt := ((s.cacheResult c).flow p.src).tgt.map fun t => { t with hwm := p.aseq } }

theorem State.noteAtomic_eq_setTgt {y : FlowTgt} (target : (s.flow p.src).tgt = some y) (c : CacheEnt) :
    s.noteAtomic p c = (s.cacheResult c).setTgt p.src { y with hwm := p.aseq } := by
  have target' : ((s.cacheResult c).flow p.src).tgt = some y := target
  simp only [State.noteAtomic, target', State.setTgt, Option.map_some]

/-- The next atomic of a flow is applied, its result kept, and its sequence number noted (Table 8.10a). -/
theorem State.atomicSeq_of_next {u : State} {r : Served} (advanced : s.engAdvance 29 1 = u) (ran : u.atomic p = r)
    (fresh : (u.fab.cache.find? fun c => c.node == p.src && c.epoch == p.srcEpoch && c.aseq == p.aseq) = none)
    (next : p.aseq = (x.hwm + 1) % 65536) (low : x.hwm < 65536) :
    ∃ c, s.atomicSeq p x = { r with state := r.state.noteAtomic p c } := by
  have step : (p.aseq + 65536 - x.hwm) % 65536 = 1 := by omega
  simp only [State.atomicSeq, advanced, fresh, step, ran]
  rw [if_pos (by decide)]
  exact ⟨_, rfl⟩

/-- A flow's next atomic leaves the function of the word it found and its operand, and answers the word. -/
theorem Admits.atomic (h : Admits s port p x) (kind : p.kind = 4) (inOrder : p.fseq = x.expected) (small : x.expected < 2 ^ 32)
    (exports : Exports s p)
    (fresh : (s.fab.cache.find? fun c => c.node == p.src && c.epoch == p.srcEpoch && c.aseq == p.aseq) = none)
    (next : p.aseq = (x.hwm + 1) % 65536) (low : x.hwm < 65536) (clean : (s.memRead p.offset p.word).poisoned = false) :
    (s.arrive port p).mem = (s.memWrite p.offset (s.newWord p)).1.mem ∧ Taken s (s.arrive port p) p.src x ∧
    Replies s (s.arrive port p) port p (s.memWrite p.offset (s.newWord p)).2 p.fseq (leBytes 8 (s.oldWord p)) ∧
    (s.arrive port p).spad = s.spad ∧ (s.arrive port p).hubsp = s.hubsp ∧
    ∃ y, ((s.arrive port p).flow p.src).tgt = some y ∧ y.hwm = p.aseq := by
  obtain ⟨u, advanced⟩ : ∃ u, (s.touch p.src).engAdvance 29 1 = u := ⟨_, rfl⟩
  obtain ⟨r, m, frame⟩ := (s.touch p.src).engAdvance_eq 29 1
  rw [advanced] at frame
  have map : u.memMap = s.memMap := by rw [← advanced, State.engAdvance_memMap, State.touch_memMap]
  have mem : u.mem = s.mem := by rw [frame, State.touch_mem]
  have fab : u.fab = (s.touch p.src).fab := by rw [frame]
  have old : u.oldWord p = s.oldWord p := by rw [State.oldWord, State.memRead_congr map mem, State.oldWord]
  have new : u.newWord p = s.newWord p := by rw [State.newWord, old, State.newWord]
  have answers : AnswersAs (s.touch p.src) u := advanced ▸ .engAdvance _ 29 1
  have left := (Checked.touch h.target).next (v := (u.memWrite p.offset (s.newWord p)).1)
    (answers.trans (.memWrite _ _ _)) (by rw [State.memWrite_fab, fab]) (by rw [State.memWrite_fab, fab])
  have ran := State.atomic_of_clean (s := u) (p := p) (by rw [State.memRead_congr map mem]; exact clean)
  rw [old, new] at ran
  obtain ⟨c, done⟩ := State.atomicSeq_of_next advanced ran (by rw [fab]; exact fresh) next low
  have checks := State.serveChecks_of_exports (s := s.touch p.src) (x := x) (.inr (.inr (.inr kind))) exports
  rw [if_pos kind, done, State.noteAtomic_eq_setTgt left.target, State.memWrite_status_congr map mem] at checks
  have stored := h.stores (by omega) (by omega) inOrder small checks
    ((left.next (v := (u.memWrite p.offset (s.newWord p)).1.cacheResult c) (.setFab _ _) rfl rfl).setTgt
      (z := { x with hwm := p.aseq }) rfl rfl)
  refine ⟨?_, stored.taken, stored.replies, ?_, ?_, stored.hwm⟩
  · rw [stored.mem, State.setTgt_mem, State.cacheResult_mem, State.memWrite_mem_congr map mem]
  · rw [stored.spad, State.setTgt_spad, State.cacheResult_spad, State.memWrite_spad, frame, State.touch_spad]
  · rw [stored.hubsp, State.setTgt_hubsp, State.cacheResult_hubsp, State.memWrite_hubsp, frame, State.touch_hubsp]

/-! ## Sends, fences and opens (R226, R229, R239) -/

/-- The message of a SEND as it stands in its slot (R239). -/
def State.message (s : State) (p : Packet) : List Byte :=
  leBytes 3 p.src ++ [0] ++ leBytes 2 p.data.length ++ leBytes 2 p.srcEpoch ++ leBytes 8 s.time ++ p.data

/-- The message stored in its slot, and the ring's tail moved past it. -/
def State.stowed (s : State) (n : Nat) (p : Packet) : State :=
  (s.memWrite (s.ringSlot n) (s.message p)).1.put F.FAB_RXQ_PTR_tail (s.get F.FAB_RXQ_PTR_tail n + 1) n

/-- A ring that signals adds 1 to its sync object. -/
def State.signalled (s : State) (n : Nat) : State :=
  if s.isSet F.FAB_RXQ_CFG_sig_en n then s.syncAdd (s.get F.FAB_RXQ_CFG_sync_obj n) 1 else s

theorem State.deliver_eq (n : Nat) : s.deliver n p =
    { state := (s.stowed n p).signalled n, status := (s.memWrite (s.ringSlot n) (s.message p)).2 } := rfl

theorem State.signalled_eq (n : Nat) : ∃ m, s.signalled n = { s with sync := m } := by
  unfold State.signalled
  split
  · exact ⟨_, rfl⟩
  · exact ⟨s.sync, rfl⟩

section
variable (s : State) (n : Nat) (p : Packet)

theorem State.signalled_mem : (s.signalled n).mem = s.mem := by
  obtain ⟨m, frame⟩ := s.signalled_eq n
  rw [frame]
theorem State.signalled_regs : (s.signalled n).regs = s.regs := by
  obtain ⟨m, frame⟩ := s.signalled_eq n
  rw [frame]
theorem State.signalled_fab : (s.signalled n).fab = s.fab := by
  obtain ⟨m, frame⟩ := s.signalled_eq n
  rw [frame]

theorem AnswersAs.signalled : AnswersAs s (s.signalled n) := by
  obtain ⟨m, frame⟩ := s.signalled_eq n
  rw [frame]
  exact .of_regs rfl rfl rfl

theorem State.stowed_mem : (s.stowed n p).mem = (s.memWrite (s.ringSlot n) (s.message p)).1.mem := by rw [State.stowed, State.put_mem]
theorem State.stowed_sync : (s.stowed n p).sync = s.sync := by rw [State.stowed, State.put_sync, State.memWrite_sync]
theorem State.stowed_fab : (s.stowed n p).fab = s.fab := by rw [State.stowed, State.put_fab, State.memWrite_fab]

theorem AnswersAs.stowed : AnswersAs s (s.stowed n p) :=
  (memWrite s (s.ringSlot n) (s.message p)).trans (put (f := F.FAB_RXQ_PTR_tail) (by decide) (by decide) _ _)

end

theorem State.signalled_sync_on {n : Nat} (on : s.isSet F.FAB_RXQ_CFG_sig_en n = true) :
    (s.signalled n).syncVal (s.get F.FAB_RXQ_CFG_sync_obj n) = (s.syncVal (s.get F.FAB_RXQ_CFG_sync_obj n) + 1) % 2 ^ 64 := by
  rw [State.signalled, if_pos on]
  simp [State.syncVal, State.syncAdd]

theorem State.signalled_sync_off {n : Nat} (off : s.isSet F.FAB_RXQ_CFG_sig_en n = false) : (s.signalled n).sync = s.sync := by
  rw [State.signalled, off]
  rfl

/-- A field that is not the tail reads as before the message was stored. -/
theorem State.stowed_get {f : Fld} (low : f.code < 1024) (apart : f.code ≠ F.FAB_RXQ_PTR_tail.code) (n i : Nat) :
    (s.stowed n p).get f i = s.get f i := by
  rw [State.stowed, State.put_get_apart _ (by decide) low apart, State.get, State.memWrite_regs, State.get]

theorem State.stowed_tail (n : Nat) : (s.stowed n p).get F.FAB_RXQ_PTR_tail n = (s.get F.FAB_RXQ_PTR_tail n + 1) % 2 ^ 16 :=
  State.put_get_same _ _ _ _

/-- A message for a ring with room is stored in its slot, and the ring's sync object is signalled where it asks for that. -/
theorem Admits.send (h : Admits s port p x) (kind : p.kind = 5) (inOrder : p.fseq = x.expected) (small : x.expected < 2 ^ 32) {n : Nat}
    (ring : p.offset % 1024 = n) (on : s.isSet F.FAB_RXQ_CFG_enable n = true) (key : p.key = s.get F.FAB_RXQ_CFG_key n)
    (fits : p.length + 16 ≤ 2 ^ s.get F.FAB_RXQ_CFG_log2_slot_size n) (room : s.ringFull n = false)
    (mapped : s.mapped (s.ringSlot n) (p.length + 16) = true) :
    (s.arrive port p).mem = (s.memWrite (s.ringSlot n) (s.message p)).1.mem ∧
    (s.arrive port p).get F.FAB_RXQ_PTR_tail n = (s.get F.FAB_RXQ_PTR_tail n + 1) % 2 ^ 16 ∧ Taken s (s.arrive port p) p.src x ∧
    (s.isSet F.FAB_RXQ_CFG_sig_en n = true → (s.arrive port p).syncVal (s.get F.FAB_RXQ_CFG_sync_obj n) =
      (s.syncVal (s.get F.FAB_RXQ_CFG_sync_obj n) + 1) % 2 ^ 64) ∧
    (s.isSet F.FAB_RXQ_CFG_sig_en n = false → (s.arrive port p).sync = s.sync) := by
  subst ring
  have checks := State.serveChecks_send (s := s.touch p.src) (x := x) kind on key fits room mapped
  rw [State.deliver_eq] at checks
  have left := ((Checked.touch h.target).next (.stowed _ (p.offset % 1024) p) (by rw [State.stowed_fab]) (by rw [State.stowed_fab])).next
    (.signalled _ (p.offset % 1024)) (by rw [State.signalled_fab]) (by rw [State.signalled_fab])
  have stored := h.stores (by omega) (by omega) inOrder small checks left
  have regs := (stored.regs (State.memWrite_uncounted _ _ _)).trans (State.signalled_regs _ _)
  have asks : ((s.touch p.src).stowed (p.offset % 1024) p).get F.FAB_RXQ_CFG_sig_en (p.offset % 1024) =
      s.get F.FAB_RXQ_CFG_sig_en (p.offset % 1024) := State.stowed_get (by decide) (by decide) _ _
  have object : ((s.touch p.src).stowed (p.offset % 1024) p).get F.FAB_RXQ_CFG_sync_obj (p.offset % 1024) =
      s.get F.FAB_RXQ_CFG_sync_obj (p.offset % 1024) := State.stowed_get (by decide) (by decide) _ _
  refine ⟨?_, ?_, stored.taken, fun signals => ?_, fun silent => ?_⟩
  · rw [stored.mem, State.signalled_mem, State.stowed_mem]
    exact State.memWrite_mem_congr (s.touch_memMap _) (s.touch_mem _) _ _
  · rw [State.get, regs]
    exact State.stowed_tail _
  · have signalled := State.signalled_sync_on (s := (s.touch p.src).stowed (p.offset % 1024) p) (n := p.offset % 1024)
      (by rw [State.isSet, asks]; exact signals)
    rw [object, State.syncVal, State.syncVal, State.stowed_sync, State.touch_sync] at signalled
    rw [State.syncVal, stored.sync]
    exact signalled
  · rw [stored.sync, State.signalled_sync_off (by rw [State.isSet, asks]; exact silent), State.stowed_sync, State.touch_sync]

/-- A fence in order is taken and answered, and changes nothing that it does not count. -/
theorem Admits.fence (h : Admits s port p x) (kind : p.kind = 6) (data : p.opn = false) (inOrder : p.fseq = x.expected)
    (small : x.expected < 2 ^ 32) : (s.arrive port p).mem = s.mem ∧ ServedAs s (s.arrive port p) port p x .ok [] := by
  have stored := h.stores (by omega) (by simp [data]) inOrder small (State.serveChecks_fence kind) (Checked.touch h.target)
  exact ⟨stored.mem, stored.taken, stored.replies, stored.spad, stored.hubsp, stored.regs rfl⟩

theorem State.reflEpoch_eq (s : State) (n epoch : Nat) : ∃ r g, s.reflEpoch n epoch = { s with refl := r, regs := g } := by
  unfold State.reflEpoch State.reflPause
  dsimp only
  split
  · split
    · split
      · exact ⟨_, _, rfl⟩
      · exact ⟨_, s.regs, rfl⟩
    · exact ⟨_, s.regs, rfl⟩
  · exact ⟨s.refl, s.regs, rfl⟩

/-- The target's side of a flow that request p opens (R229). -/
def Packet.opens (p : Packet) (now : Nat) (key : Option Nat) : FlowTgt :=
  { epoch := p.srcEpoch, expected := p.fseq, hwm := (p.aseq + 65535) % 65536, lastReq := now, keyLog := key }

/-- An open of a flow whose context is held sets what the flow expects, and answers. -/
theorem State.serveOpen_of_target {y : FlowTgt} (target : (s.flow p.src).tgt = some y) : s.serveOpen port p =
    ((s.reflEpoch p.src p.srcEpoch).setFlow p.src { s.flow p.src with
      tgt := some (p.opens s.time y.keyLog), place := .onDie, touched := s.time }).answer port p .ok [] false := by
  have used : (s.flow p.src).used = true := by simp [Flow.used, target]
  have free : s.ctxFree p.src = true := by simp [State.ctxFree, used]
  obtain ⟨r, g, frame⟩ := s.reflEpoch_eq p.src p.srcEpoch
  have flow : (s.reflEpoch p.src p.srcEpoch).flow p.src = s.flow p.src := State.flow_congr (by rw [frame]) _
  have time : (s.reflEpoch p.src p.srcEpoch).time = s.time := by rw [frame]
  simp only [State.serveOpen, free, used, flow, time, target, Bool.not_true, Bool.false_eq_true, if_false, if_true, Option.bind_some]
  rfl

theorem Admits.opens (h : Admits s port p x) (kind : p.kind = 6) (opn : p.opn = true) :
    ((s.arrive port p).flow p.src).tgt = some (p.opens s.time x.keyLog) ∧ (s.arrive port p).mem = s.mem := by
  obtain ⟨r, g, frame⟩ := (s.touch p.src).reflEpoch_eq p.src p.srcEpoch
  have ran := (h.serveFlow_open kind opn).trans (State.serveOpen_of_target (Checked.touch h.target).target)
  rw [h.arrive_eq (by rw [ran, State.answer_fab, State.setFlow, State.setFab_fab, frame]; rfl), ran]
  refine ⟨?_, ?_⟩
  · rw [State.flow_congr (State.answer_fab _ _ _ _ _ _), State.setFlow_same, State.touch_time]
  · rw [State.answer_mem, frame]
    rfl

/-! ## Refusals (R231, R236) -/

/-- A write whose header breaks Table 8.11 is a violation, and is answered with the header's fault. -/
theorem State.arrive_of_header {st : Status} (kept : s.kept = false) (receives : s.portReceives port = true) (frozen : s.unitFrozen 0x50 = false)
    (fault : s.headerFault p = some st) (answered : s.discarding p.src = false) (idle : (s.fab.held.any fun h => h.2.src == p.src) = false) :
    s.arrive port p = (s.violation p.src 6).answer port p st [] false := by
  obtain ⟨f, l, r, frame, -, held⟩ := s.violation_eq p.src 6
  have served : s.serve port p = (s.violation p.src 6).answer port p st [] false := by simp [State.serve, fault, State.answerViolation, answered]
  have none : (s.fab.held.any fun e => e.2.src == p.src && e.2.kind == 1) = false := by
    rw [List.any_eq_false] at idle ⊢
    exact fun e he => by simp [idle e he]
  rw [State.arrive, kept, receives, frozen, served]
  exact State.serveHeld_of_none (f := fun k => k.src == p.src && k.kind == 1) (by rw [State.answer_fab, frame]; exact held ▸ none)

/-- A write to what no region exports is answered E_NOT_EXPORTED, and one with another key E_KEY. -/
theorem Admits.refuses {u : State} {y : FlowTgt} {st : Status} (h : Admits s port p x) (kind : p.kind = 2) (inOrder : p.fseq = x.expected)
    (small : x.expected < 2 ^ 32) (checks : (s.touch p.src).serveChecks p x = { state := u, status := st }) (left : Checked s u p.src x y)
    (mem : u.mem = s.mem) : (s.arrive port p).mem = s.mem ∧ Replies s (s.arrive port p) port p st p.fseq [] := by
  have stored := h.stores (by omega) (by omega) inOrder small checks left
  exact ⟨stored.mem.trans mem, stored.replies⟩

theorem State.nak_eq (s : State) (port : Nat) (p : Packet) (expected : Nat) :
    ∃ g ps l, s.nak port p expected = { s with regs := g, ports := ps, out := l } := by
  unfold State.nak
  obtain ⟨ps, l, sent⟩ := (s.fabCount 10).sendBack_eq port _
  exact ⟨_, ps, l, sent⟩

/-- A write ahead of the order is answered with a NAK that names the number expected, which stays. -/
theorem Admits.ahead {d : Nat} (h : Admits s port p x) (kind : p.kind = 2) (pos : 0 < d) (near : d ≤ 128)
    (number : p.fseq = (x.expected + d) % 2 ^ 32) (small : x.expected < 2 ^ 32) :
    (s.arrive port p).mem = s.mem ∧ (∃ y, ((s.arrive port p).flow p.src).tgt = some y ∧ y.expected = x.expected) ∧
    ∃ r : Packet, Sent s (s.arrive port p) port (.packet port r) ∧ r.kind = 0x81 ∧ r.dst = p.src ∧ r.tag = p.tag ∧ r.fseq = x.expected := by
  have ran := h.serveFlow_ahead (by omega) (by omega) pos near number small
  obtain ⟨g, ps, l, frame⟩ := (s.touch p.src).nak_eq port p x.expected
  have touched := Checked.touch h.target
  have sent := (touched.answers.trans (.fabCount _ 10)).sendBack h.receives
  rw [h.arrive_eq (by rw [ran, frame]; rfl), ran]
  refine ⟨by rw [frame, State.touch_mem], ⟨x, ?_, rfl⟩, _, sent _, rfl, rfl, rfl, rfl⟩
  rw [State.flow_congr (s := s.touch p.src) (by rw [frame]), touched.target]

end

/-! ## The statement -/

/-- Settles O39: an admitted request is checked, applied or refused, recorded in its flow and answered. -/
theorem targetServes : Obligations.TargetServes := by
  unfold Obligations.TargetServes
  refine ⟨fun s port p x h => ⟨fun inOrder small clean exports => ⟨fun kind => ?_, fun kind => ?_⟩, fun kind unordered exports => ?_, ?_,
    ?_, ?_, ?_⟩,
    ?_, fun s port p x h kind => ⟨?_, ?_, ?_⟩⟩
  · exact ⟨_, exec_writeRequest (Packet.isKind_of_kind kind (.inl (by decide))), h.write (.inl kind) inOrder small clean exports⟩
  · exact ⟨_, exec_writePostedRequest kind, h.write (.inr kind) inOrder small clean exports⟩
  · exact ⟨_, exec_readRequest kind, h.read kind unordered exports⟩
  · intro kind inOrder small exports fresh next low n old clean
    exact ⟨_, exec_atomicRequest kind, h.atomic kind inOrder small exports fresh next low clean⟩
  · intro kind inOrder small n slot a on key fits room mapped _
    exact ⟨_, exec_sendRequest kind, h.send kind inOrder small rfl on key fits room mapped⟩
  · exact fun kind data inOrder small => ⟨_, exec_fenceRequest kind data, h.fence kind data inOrder small⟩
  · intro kind opn
    obtain ⟨target, mem⟩ := h.opens kind opn
    exact ⟨_, exec_openRequest kind opn, target, by rw [mem]⟩
  · intro s port p st kept receives frozen fault answered idle kind _
    obtain ⟨f, l, r, frame, flows, -⟩ := s.violation_eq p.src 6
    obtain ⟨k, sent, reply, tag, dst, -, status, data, -⟩ := (AnswersAs.violation s p.src 6).answer receives p st [] false
    refine ⟨_, exec_writeRequest kind, ?_⟩
    rw [State.arrive_of_header kept receives frozen fault answered idle]
    exact ⟨by rw [State.answer_mem, frame], by rw [State.answer_fab, frame]; exact flows, k, sent, reply, dst, tag, status, data⟩
  · intro inOrder small none
    exact ⟨_, exec_writeRequest (Packet.isKind_of_kind kind (.inl (by decide))), h.refuses kind inOrder small
      (State.serveChecks_of_region_none (.inr (.inl kind)) none) (Checked.touch h.target) rfl⟩
  · intro i inOrder small region wrong
    obtain ⟨⟨y, left⟩, mem⟩ := (Checked.touch h.target).keyLog i
    exact ⟨_, exec_writeRequest (Packet.isKind_of_kind kind (.inl (by decide))), h.refuses kind inOrder small
      (State.serveChecks_of_wrong_key (.inr (.inl kind)) region wrong) left (mem.trans (s.touch_mem _))⟩
  · exact fun d pos near number small => ⟨_, exec_writeRequest (Packet.isKind_of_kind kind (.inl (by decide))),
      h.ahead kind pos near number small⟩

end Sys2Proof.Machine

/-! SUPPORT. Ports of the window dies (R234, R257, R258, R268, R269): their state field, what sending changes at one, training that starts,
and flows that move to other ports. -/

namespace Sys2Proof.Machine

/-! ## The state field, and what sending changes -/

section
variable (s : State) (p q : Nat)

@[simp] theorem State.due_port (x : Nat) : (s.due x).port q = s.port q := rfl

@[simp] theorem State.setPortState_port (v : Nat) : (s.setPortState p v).port q = s.port q := rfl

theorem State.setPortState_same {v : Nat} (small : v < 8) : (s.setPortState p v).portState p = v :=
  (s.put_get_same _ v p).trans (Nat.mod_eq_of_lt small)

/-- Sending on a port changes the port's transmit side alone. -/
theorem State.tx_port (o : Out) : ∃ items wait next ack,
    (s.tx p o).port p = { s.port p with txItems := items, txWait := wait, txNext := next, ackAt := ack } := by
  unfold State.tx
  dsimp only
  split
  · exact ⟨_, _, _, _, rfl⟩
  · split
    · exact ⟨_, _, _, _, s.setPort_same _ _⟩
    · rw [State.putOnLink, State.emit_port]
      exact ⟨_, _, _, _, s.setPort_same _ _⟩

@[simp] theorem State.tx_step (o : Out) : ((s.tx p o).port p).step = (s.port p).step := by
  obtain ⟨_, _, _, _, port⟩ := s.tx_port p o
  rw [port]

@[simp] theorem State.tx_usable (o : Out) : ((s.tx p o).port p).usable = (s.port p).usable := by
  obtain ⟨_, _, _, _, port⟩ := s.tx_port p o
  rw [port]

@[simp] theorem State.tx_lastLaunch (o : Out) : ((s.tx p o).port p).lastLaunch = (s.port p).lastLaunch := by
  obtain ⟨_, _, _, _, port⟩ := s.tx_port p o
  rw [port]

variable {s p} in
/-- What leaves on a port after a change of it that leaves its queue alone leaves the state before. -/
theorem State.setPort_tx_sent {v : Port} {o : Out} (wait : v.txWait = (s.port p).txWait) (up : (s.setPort p v).linkUp p = true)
    (own : o.toHost = false) : Sent s ((s.setPort p v).tx p o) p o := by
  have sent : Sent (s.setPort p v) ((s.setPort p v).tx p o) p o := State.tx_leaves up own
  rwa [Sent, State.setPort_same, wait] at sent

variable {s p} in
theorem State.linkUp_of_training (training : s.portState p = 2) (late : 6 ≤ (s.port p).step) : s.linkUp p = true := by
  rw [State.portState] at training
  simp [State.linkUp, training, late]

variable {s p} in
theorem State.linkUp_of_carrying (carries : s.portState p = 3 ∨ s.portState p = 4) : s.linkUp p = true := by
  simp only [State.portState] at carries
  rcases carries with h | h <;> simp [State.linkUp, h]

end

/-! ## Training starts (R268) -/

/-- Port p begins training at a step, with nothing of the link that was, and no other port and no other register field changes. -/
structure Trains (s t : State) (p step : Nat) : Prop where
  step : (t.port p).step = step
  stepAt : (t.port p).stepAt = s.time
  hello : (t.port p).helloDone = false
  items : (t.port p).txItems = []
  state : t.portState p = 2
  others : ∀ q, q ≠ p → t.port q = s.port q
  frame : t = { s with ports := t.ports, regs := t.regs }
  regs : KeepsRegs [F.WIN_PORT_STAT_state.key p] s t

theorem State.trainFrom_trains (s : State) (p step : Nat) : Trains s (s.trainFrom p step) p step := by
  have port : ∃ v, s.trainFrom p step = (s.setPort p v).setPortState p 2 ∧ v.step = step ∧ v.stepAt = s.time ∧ v.helloDone = false ∧
      v.txItems = [] := ⟨_, rfl, rfl, rfl, rfl, rfl⟩
  obtain ⟨v, begins, at_, since, hello, items⟩ := port
  rw [begins]
  exact {
    step := by simpa using at_
    stepAt := by simpa using since
    hello := by simpa using hello
    items := by simpa using items
    state := State.setPortState_same _ _ (by decide)
    others := fun _ other => s.setPort_other v other
    frame := rfl
    regs := ((s.setPort p v).put_onlyRegs _ _ _).2 }

/-- A field other than the ports' states keeps its value. -/
theorem Trains.get_eq {s t : State} {p step : Nat} (h : Trains s t p step) {f : Fld} (low : f.code < 1024)
    (apart : f.code ≠ F.WIN_PORT_STAT_state.code) (i : Nat) : t.get f i = s.get f i :=
  h.regs _ (by simpa using Fld.key_ne (by decide) low apart) _

/-- What is noted at the port before it trains changes no other port and no register. -/
theorem Trains.of_setPort {s t : State} {p step : Nat} {v : Port} (h : Trains (s.setPort p v) t p step) : Trains s t p step :=
  { h with
    others := fun q other => (h.others q other).trans (s.setPort_other v other)
    frame := h.frame }

/-! ## Flows move to other ports (R234) -/

/-- Memory, the scratchpads and every register field but the fabric's counts are as they were. -/
structure Resends (s t : State) : Prop where
  mem : t.mem = s.mem
  spad : t.spad = s.spad
  hubsp : t.hubsp = s.hubsp
  reads : ∀ f : Fld, f.code < 1024 → f.code ≠ F.FAB_EVT_CNT_count.code → ∀ i, t.get f i = s.get f i

theorem Resends.refl (s : State) : Resends s s := ⟨rfl, rfl, rfl, fun _ _ _ _ => rfl⟩

theorem Resends.trans {s t u : State} (h : Resends s t) (h' : Resends t u) : Resends s u :=
  ⟨h'.mem.trans h.mem, h'.spad.trans h.spad, h'.hubsp.trans h.hubsp,
    fun f low apart i => (h'.reads f low apart i).trans (h.reads f low apart i)⟩

/-- A request sent again is noted, counted and sent. -/
theorem Resends.sendReq {s : State} {r : FabReq} (sent : r.attempts ≠ 0) (q : Nat) : Resends s (s.sendReq r q) := by
  rw [State.sendReq_of_sent sent]
  have counted := fun f low apart i => (s.noteSent r (r.again s.time q) (s.srcFlow r.node)).bump_get_apart
    (f := F.FAB_EVT_CNT_count) (g := f) (by decide) low apart 1 9 i
  generalize noted : (s.noteSent r (r.again s.time q) (s.srcFlow r.node)).fabCount 9 = u
  obtain ⟨ps, l, frame⟩ := u.transmit_eq (r.again s.time q) q
  rw [frame, ← noted]
  exact ⟨rfl, rfl, rfl, counted⟩

theorem State.movePort_resends (s : State) (p : Nat) : Resends s (s.movePort p) := by
  refine List.foldlRecOn (motive := Resends s) _ _ (.refl s) fun u before r listed => ?_
  have passes := (List.mem_filter.1 listed).2
  simp only [Bool.and_eq_true, bne_iff_ne] at passes
  obtain ⟨⟨-, sent⟩, -⟩ := passes
  split
  · exact before
  · split
    · exact before
    · exact before.trans (Resends.sendReq sent _)

end Sys2Proof.Machine

/-! SUPPORT. Ports that go down (R234, R269): what a retrain leaves, and what a recalibration does. -/

namespace Sys2Proof.Machine

section
variable {s t : State} {p : Nat} {o : Out}

theorem State.portDownNow_of_carrying (carries : s.portState p = 3 ∨ s.portState p = 4) :
    s.portDownNow p = ((s.put F.WIN_PORT_STAT_down_evt 1 p).setPortState p 2).movePort p := by
  rcases carries with h | h <;> simp [State.portDownNow, h]

@[simp] theorem State.portDownNow_mem (s : State) (p : Nat) : (s.portDownNow p).mem = s.mem := by
  by_cases carries : s.portState p = 3 ∨ s.portState p = 4
  · rw [State.portDownNow_of_carrying carries, (State.movePort_resends _ p).mem]
    rfl
  · rw [not_or] at carries
    simp [State.portDownNow, carries]

/-- The port trains from step 1, its retrain is counted and shown, and no memory changes (R269). -/
def Restarts (s : State) (p : Nat) (t : State) : Prop :=
  (t.port p).step = 1 ∧ t.portState p = 2 ∧ (t.port p).helloDone = false ∧ (t.port p).txItems = [] ∧
  t.get F.WIN_PORT_STAT_down_evt p = 1 ∧
  t.get F.WIN_PORT_STAT_retrains p = min (2 ^ F.WIN_PORT_STAT_retrains.width - 1) (s.get F.WIN_PORT_STAT_retrains p + 1) ∧
  t.mem = s.mem ∧ t.spad = s.spad ∧ t.hubsp = s.hubsp

/-- What leaves on a port before it retrains is nothing that the retrain counts. -/
theorem Restarts.of_tx (h : Restarts (s.tx p o) p t) : Restarts s p t := by
  obtain ⟨ps, l, frame⟩ := s.tx_eq p o
  rw [frame] at h
  exact h

theorem State.retrainNow_restarts (carries : s.portState p = 3 ∨ s.portState p = 4) : Restarts s p (s.retrainNow p) := by
  change Restarts s p ((((s.portDownNow p).bump F.WIN_PORT_STAT_retrains 1 p).winCount p 8 1).trainFrom p 1)
  have moved := State.movePort_resends ((s.put F.WIN_PORT_STAT_down_evt 1 p).setPortState p 2) p
  rw [← State.portDownNow_of_carrying carries] at moved
  have down : (s.portDownNow p).get F.WIN_PORT_STAT_down_evt p = 1 := by
    rw [moved.reads _ (by decide) (by decide), State.setPortState, State.put_get_apart _ (by decide) (by decide) (by decide),
      State.put_get_same]
    rfl
  have retrains : (s.portDownNow p).get F.WIN_PORT_STAT_retrains p = s.get F.WIN_PORT_STAT_retrains p := by
    rw [moved.reads _ (by decide) (by decide), State.setPortState, State.put_get_apart _ (by decide) (by decide) (by decide),
      State.put_get_apart _ (by decide) (by decide) (by decide)]
  generalize s.portDownNow p = u at moved down retrains
  have trains := ((u.bump F.WIN_PORT_STAT_retrains 1 p).winCount p 8 1).trainFrom_trains p 1
  refine ⟨trains.step, trains.state, trains.hello, trains.items, ?_, ?_, ?_⟩
  · rw [trains.get_eq (by decide) (by decide), State.winCount, State.bump_get_apart _ (by decide) (by decide) (by decide),
      State.bump_get_apart _ (by decide) (by decide) (by decide), down]
  · rw [trains.get_eq (by decide) (by decide), State.winCount, State.bump_get_apart _ (by decide) (by decide) (by decide),
      State.bump_get_same, retrains]
  · exact ⟨Eq.trans rfl moved.mem, Eq.trans rfl moved.spad, Eq.trans rfl moved.hubsp⟩

/-! ## PORT_DOWN, RETRAIN and PORT_RETRAIN_REQ (R260, R269) -/

theorem State.retrain_of_carrying (carries : s.portState p = 3 ∨ s.portState p = 4) :
    s.retrain p = (s.tx p (.ctl p (.drain 2 0))).retrainNow p := by
  rw [State.retrain, if_neg (by omega), if_pos carries]

/-- A port that carries traffic sends a DRAIN and restarts. -/
theorem State.retrain_restarts (carries : s.portState p = 3 ∨ s.portState p = 4) : Restarts s p (s.retrain p) := by
  rw [State.retrain_of_carrying carries]
  refine Restarts.of_tx (State.retrainNow_restarts ?_)
  obtain ⟨ps, l, frame⟩ := s.tx_eq p (.ctl p (.drain 2 0))
  rw [frame]
  exact carries

end

section
variable {s : State} {p : Fin 64}

theorem exec_portDown (carries : s.portState p = 3 ∨ s.portState p = 4) : exec (.portDown p) s = .next (s.retrainNow p) :=
  congrArg _ (if_pos carries)

theorem exec_portDown_idle (notUp : s.portState p ≠ 3) (notDraining : s.portState p ≠ 4) : exec (.portDown p) s = .next s :=
  congrArg _ (if_neg (by omega))

theorem exec_retrain (carries : s.portState p = 3 ∨ s.portState p = 4) : exec (.retrain p) s = .next (s.retrain p) :=
  congrArg _ (if_pos ⟨State.linkUp_of_carrying carries, by omega⟩)

theorem exec_portRetrainReq {i : Fin 65} {j : Nat} {w : BarAcc} (reaches : Reaches s .WIN_PORT_CTRL i w j)
    (asked : w.bits F.WIN_PORT_CTRL_retrain_req = 1) : exec (.portRetrainReq i w) s = .next (s.retrain j) :=
  congrArg _ ((reaches.onWrite _).trans (if_pos asked))

theorem portDown_gives (carries : s.portState p = 3 ∨ s.portState p = 4) : Gives (.portDown p) s (Restarts s p) :=
  ⟨_, exec_portDown carries, State.retrainNow_restarts carries⟩

theorem retrain_gives (carries : s.portState p = 3 ∨ s.portState p = 4) : Gives (.retrain p) s (Restarts s p) :=
  ⟨_, exec_retrain carries, State.retrain_restarts carries⟩

theorem portRetrainReq_gives {i : Fin 65} {w : BarAcc} (carries : s.portState p = 3 ∨ s.portState p = 4)
    (reaches : Reaches s .WIN_PORT_CTRL i w p) (asked : w.bits F.WIN_PORT_CTRL_retrain_req = 1) :
    Gives (.portRetrainReq i w) s (Restarts s p) :=
  ⟨_, exec_portRetrainReq reaches asked, State.retrain_restarts carries⟩

end

/-! ## RECAL_REQ and RING_CALIBRATION_DONE (R269) -/

section
variable {s : State}

/-- Port p without its link and its calibration, disabled until its rings are calibrated. -/
def State.uncalibrate (s : State) (p : Nat) : State :=
  (s.setPort p { (s.port p).linkReset with calibrated := false, step := 0, helloDone := false, partner := none }).setPortState p 0

theorem exec_recalReq {i : Fin 65} {j : Nat} {w : BarAcc} (reaches : Reaches s .WIN_PORT_CTRL i w j)
    (asked : w.bits F.WIN_PORT_CTRL_recal_req = 1) (enabled : s.isSet F.WIN_PORT_CFG_enable (min j 63) = true) :
    ∃ u : State, exec (.recalReq i w) s = .next ((u.portDownNow j).uncalibrate j) ∧ u.mem = s.mem := by
  refine ⟨_, congrArg _ ((reaches.onWrite _).trans (if_pos ⟨asked, enabled⟩)), ?_⟩
  split
  · obtain ⟨ps, l, frame⟩ := s.tx_eq j (.ctl j (.drain 2 0))
    rw [frame]
  · rfl

theorem recalReq_gives {i : Fin 65} {j : Nat} {w : BarAcc} (reaches : Reaches s .WIN_PORT_CTRL i w j)
    (asked : w.bits F.WIN_PORT_CTRL_recal_req = 1) (enabled : s.isSet F.WIN_PORT_CFG_enable (min j 63) = true) :
    Gives (.recalReq i w) s fun t =>
      t.portState j = 0 ∧ (t.port j).calibrated = false ∧ (t.port j).step = 0 ∧ (t.port j).txItems = [] ∧ t.mem = s.mem := by
  obtain ⟨u, run, mem⟩ := exec_recalReq reaches asked enabled
  refine ⟨_, run, State.setPortState_same _ _ (by decide), ?_, ?_, ?_, (u.portDownNow_mem j).trans mem⟩ <;>
  simp [State.uncalibrate, Port.linkReset]

variable {p : Fin 65}

theorem exec_ringCalibrationDone (off : s.portState p = 0) (rings : (s.port p).calibrated = false) (ready : s.boot.phase = .ready)
    (ok : Bool) : exec (.ringCalibrationDone p ok) s =
      .next (if ok then (s.setPort p { s.port p with calibrated := true }).trainFrom p 1 else s.pldm (.portCalFail p)) := by
  change execRingCalibrationDone p ok s = _
  simp [execRingCalibrationDone, off, rings, ready]

theorem State.trainFrom_calibrated (s : State) (p step : Nat) : ((s.trainFrom p step).port p).calibrated = (s.port p).calibrated := by
  simp [State.trainFrom, Port.linkReset]

theorem ringCalibrationDone_trains (off : s.portState p = 0) (rings : (s.port p).calibrated = false) (ready : s.boot.phase = .ready) :
    Gives (.ringCalibrationDone p true) s fun t =>
      (t.port p).calibrated = true ∧ (t.port p).step = 1 ∧ t.portState p = 2 ∧ t = { s with ports := t.ports, regs := t.regs } ∧
      KeepsRegs [F.WIN_PORT_STAT_state.key p] s t := by
  have trains := ((s.setPort p { s.port p with calibrated := true }).trainFrom_trains p 1).of_setPort
  refine ⟨_, exec_ringCalibrationDone off rings ready true, ?_, trains.step, trains.state, trains.frame, trains.regs⟩
  exact (State.trainFrom_calibrated _ _ _).trans (by simp)

theorem State.pldm_out (s : State) (e : PldmEvent) : (s.pldm e).out = .pldm e :: s.out := by
  unfold State.pldm
  split <;> rw [State.emit_of_not_toHost _ rfl]

theorem ringCalibrationDone_reports (off : s.portState p = 0) (rings : (s.port p).calibrated = false) (ready : s.boot.phase = .ready) :
    Gives (.ringCalibrationDone p false) s fun t =>
      t.out = .pldm (.portCalFail p) :: s.out ∧ t = { s with mgmt := t.mgmt, out := t.out } := by
  refine ⟨_, exec_ringCalibrationDone off rings ready false, s.pldm_out _, ?_⟩
  obtain ⟨m, l, frame⟩ := s.pldm_eq (.portCalFail p)
  rw [if_neg (by decide), frame]

end

end Sys2Proof.Machine

/-! SUPPORT. Training (R268, R272, R278, Table 9.10): its steps and their limits, and how a port comes to train or to search. -/

namespace Sys2Proof.Machine

/-! ## TRAINING_STEP_DONE -/

/-- The next step of port p's training begins. -/
def State.nextStep (s : State) (p : Nat) (v : Port) : State := s.setPort p { v with step := v.step + 1, stepAt := s.time }

/-- The wavelengths that remain usable after a reading. -/
def Port.remaining (v : Port) (r : TrainRead) : List Nat := v.usable.filter fun n => r.usable.contains n && !v.optBad.contains n

section
variable {s : State} {p : Fin 64} (r : TrainRead) (training : s.portState p = 2)
include training

theorem exec_trainingStepDone_first (at_ : (s.port p).step = 1) : exec (.trainingStepDone p r) s = .next (s.nextStep p (s.port p)) := by
  change execTrainingStepDone p r s = _
  simp [execTrainingStepDone, State.nextStep, training, at_]

theorem exec_trainingStepDone_second (at_ : (s.port p).step = 2) : exec (.trainingStepDone p r) s =
    .next (s.nextStep p { s.port p with usable := (List.range 18).filter fun n => r.usable.contains n }) := by
  change execTrainingStepDone p r s = _
  simp [execTrainingStepDone, State.nextStep, training, at_]

theorem exec_trainingStepDone_fifth (at_ : (s.port p).step = 5) : exec (.trainingStepDone p r) s =
    .next (if ((s.port p).remaining r).length < s.minWidth p then s.trainFails p
      else (s.nextStep p { s.port p with usable := (s.port p).remaining r }).tx p
        (.ctl p (.fecMode (s.isSet F.WIN_PORT_CFG_fec_long p)))) := by
  change execTrainingStepDone p r s = _
  simp [execTrainingStepDone, State.nextStep, Port.remaining, training, at_]

theorem trainingStepDone_first (at_ : (s.port p).step = 1) : Gives (.trainingStepDone p r) s fun t =>
    (t.port p).step = 2 ∧ (t.port p).stepAt = s.time ∧ (∀ q, q ≠ p.val → t.port q = s.port q) ∧ t = { s with ports := t.ports } := by
  refine ⟨_, exec_trainingStepDone_first r training at_, ?_, ?_, fun q other => s.setPort_other _ other, rfl⟩ <;>
  simp [State.nextStep, at_]

theorem trainingStepDone_second (at_ : (s.port p).step = 2) : Gives (.trainingStepDone p r) s fun t =>
    (t.port p).step = 3 ∧ (t.port p).usable = (List.range 18).filter (fun n => r.usable.contains n) ∧
    (∀ q, q ≠ p.val → t.port q = s.port q) ∧ t = { s with ports := t.ports } := by
  refine ⟨_, exec_trainingStepDone_second r training at_, ?_, ?_, fun q other => s.setPort_other _ other, rfl⟩ <;>
  simp [State.nextStep, at_]

/-- With enough wavelengths left the sixth step begins with FEC_MODE (R259). -/
theorem trainingStepDone_fifth (at_ : (s.port p).step = 5) (enough : s.minWidth p ≤ ((s.port p).remaining r).length) :
    Gives (.trainingStepDone p r) s fun t =>
      (t.port p).step = 6 ∧ (t.port p).usable = (s.port p).remaining r ∧
      Sent s t p (.ctl p (.fecMode (s.isSet F.WIN_PORT_CFG_fec_long p))) ∧ t = { s with ports := t.ports, out := t.out } := by
  refine ⟨_, exec_trainingStepDone_fifth r training at_, ?_⟩
  rw [if_neg (by omega)]
  have up : (s.nextStep p { s.port p with usable := (s.port p).remaining r }).linkUp p = true :=
    State.linkUp_of_training training (by simp [State.nextStep, at_])
  refine ⟨by simp [State.nextStep, at_], by simp [State.nextStep], State.setPort_tx_sent rfl up rfl, ?_⟩
  obtain ⟨ps, l, frame⟩ := (s.nextStep p { s.port p with usable := (s.port p).remaining r }).tx_eq p
    (.ctl p (.fecMode (s.isSet F.WIN_PORT_CFG_fec_long p)))
  rw [frame]
  rfl

/-- With too few left training fails, and is tried again in 1 ms (R268). -/
theorem trainingStepDone_fails (at_ : (s.port p).step = 5) (few : ((s.port p).remaining r).length < s.minWidth p)
    (early : (s.port p).fails < 15) : Gives (.trainingStepDone p r) s fun t =>
      (t.port p).step = 0 ∧ (t.port p).fails = (s.port p).fails + 1 ∧ (t.port p).retryAt = s.time + 1000000 ∧ t.portState p = 2 ∧
      t = { s with ports := t.ports } := by
  refine ⟨_, exec_trainingStepDone_fifth r training at_, ?_⟩
  rw [if_pos few]
  refine ⟨?_, ?_, ?_, training, rfl⟩ <;> simp [State.trainFails]
  omega

/-- The sixteenth failure in a row is shown, and training is tried again in 100 ms (R268). -/
theorem trainingStepDone_failsShown (at_ : (s.port p).step = 5) (few : ((s.port p).remaining r).length < s.minWidth p)
    (late : 15 ≤ (s.port p).fails) : Gives (.trainingStepDone p r) s fun t =>
      (t.port p).trainFail = true ∧ (t.port p).retryAt = s.time + 100000000 ∧ t = { s with ports := t.ports } := by
  refine ⟨_, exec_trainingStepDone_fifth r training at_, ?_⟩
  rw [if_pos few]
  refine ⟨?_, ?_, rfl⟩ <;> simp [State.trainFails, late]

/-! ## TRAINING_STEP_TIMEOUT and TRAINING_RETRY_TIMER -/

theorem trainingStepTimeout_fourth (at_ : (s.port p).step = 4) : Gives (.trainingStepTimeout p) s fun t =>
    (t.port p).step = 0 ∧ (t.port p).fails = (s.port p).fails + 1 ∧ (s.port p).stepAt + 420000 ≤ t.time ∧
    t = { s with time := t.time, ports := t.ports } := by
  have run : exec (.trainingStepTimeout p) s = .next ((s.due ((s.port p).stepAt + 420000)).trainFails p) := by
    change execTrainingStepTimeout p s = _
    simp [execTrainingStepTimeout, trainLimit, training, at_]
  refine ⟨_, run, ?_, ?_, Nat.le_max_right _ _, rfl⟩ <;> simp [State.trainFails]

theorem trainingRetryTimer_gives (at_ : (s.port p).step = 0) : Gives (.trainingRetryTimer p) s fun t =>
    (t.port p).step = 1 ∧ t.portState p = 2 ∧ (s.port p).retryAt ≤ t.time ∧ (t.port p).stepAt = t.time ∧
    t = { s with time := t.time, ports := t.ports, regs := t.regs } ∧ KeepsRegs [F.WIN_PORT_STAT_state.key p] s t := by
  have run : exec (.trainingRetryTimer p) s = .next ((s.due (s.port p).retryAt).trainFrom p 1) :=
    congrArg _ (if_pos ⟨training, at_⟩)
  have trains := (s.due (s.port p).retryAt).trainFrom_trains p 1
  exact ⟨_, run, trains.step, trains.state, Nat.le_max_right _ _, trains.stepAt, rfl, trains.regs⟩

end

/-! ## PARTNER_LIGHT_DETECT and PORT_HOLD_EXPIRE -/

section
variable {s : State} {p : Fin 64}

theorem partnerLightDetect_gives (waits : s.portState p = 1 ∨ s.portState p = 5) : Gives (.partnerLightDetect p) s fun t =>
    (t.port p).step = 3 ∧ t.portState p = 2 ∧ (∀ q, q ≠ p.val → t.port q = s.port q) ∧ t = { s with ports := t.ports, regs := t.regs } ∧
    KeepsRegs [F.WIN_PORT_STAT_state.key p] s t := by
  have run : exec (.partnerLightDetect p) s = .next ((s.setPort p { s.port p with usable := List.range 18 }).trainFrom p 3) :=
    congrArg _ (if_pos waits)
  have trains := ((s.setPort p { s.port p with usable := List.range 18 }).trainFrom_trains p 3).of_setPort
  exact ⟨_, run, trains.step, trains.state, trains.others, trains.frame, trains.regs⟩

theorem portHoldExpire_gives {h : Nat} (since : (s.port p).heldSince = some h) (held : s.portState p = 6) :
    Gives (.portHoldExpire p) s fun t =>
      t.portState p = 1 ∧ (t.port p).heldSince = none ∧ h + 1000000000 ≤ t.time ∧
      t = { s with time := t.time, ports := t.ports, regs := t.regs } ∧ KeepsRegs [F.WIN_PORT_STAT_state.key p] s t := by
  have run : exec (.portHoldExpire p) s =
      .next (((s.due (h + 1000000000)).setPort p { s.port p with heldSince := none }).search p) := by
    change execPortHoldExpire p s = _
    simp [execPortHoldExpire, since, held]
  refine ⟨_, run, State.setPortState_same _ _ (by decide), ?_, Nat.le_max_right _ _, rfl, (State.put_onlyRegs _ _ _ _).2⟩
  simp [State.search]

end

end Sys2Proof.Machine

/-! SUPPORT. Rings and light (R248-R250, R260, R266, R267): heaters, the filters of the activity indices, launch powers and losses. -/

namespace Sys2Proof.Machine

/-! ## A margin record beside the other parts (R402) -/

/-- Memory, the fabric and every register field but the log's status are as they were. -/
structure Logs (s t : State) : Prop where
  mem : t.mem = s.mem
  fab : t.fab = s.fab
  reads : ∀ f : Fld, f.offLog = true → ∀ i, t.get f i = s.get f i

namespace Logs
variable {s t u : State}

theorem trans (h : Logs s t) (h' : Logs t u) : Logs s u :=
  ⟨h'.mem.trans h.mem, h'.fab.trans h.fab, fun f off i => (h'.reads f off i).trans (h.reads f off i)⟩

theorem setMargins (s : State) (m : SMap Margin) : Logs s { s with margins := m } := ⟨rfl, rfl, fun _ _ _ => rfl⟩

theorem logPut (s : State) (b : LogBody) : Logs s (s.logPut b) := by
  obtain ⟨l, r, frame⟩ := s.logPut_eq b
  exact ⟨by rw [frame], by rw [frame], fun f off i => s.logPut_get b off i⟩

theorem pldm (s : State) (e : PldmEvent) : Logs s (s.pldm e) := by
  obtain ⟨m, l, frame⟩ := s.pldm_eq e
  rw [frame]
  exact ⟨rfl, rfl, fun _ _ _ => rfl⟩

theorem marginAt (s : State) (kind unit sub : Nat) (value warn floor : Int) (sev : Nat) :
    Logs s (s.marginAt kind unit sub value warn floor sev) := by
  unfold State.marginAt
  dsimp only
  split
  · split
    · exact setMargins s s.margins
    · split
      · exact (setMargins s _).trans (logPut _ _)
      · exact setMargins s _
  · split
    · split
      · exact ((setMargins s _).trans (logPut _ _)).trans (pldm _ _)
      · exact (setMargins s _).trans (logPut _ _)
    · exact setMargins s _

end Logs

/-! ## TUNING_LOOP_UPDATE (R248, R249) -/

/-- The field that shows a ring's heater setting. -/
def heaterField (ring : Nat) : Fld := if ring % 2 = 0 then F.WIN_LANE_STAT_tx_heater else F.WIN_LANE_STAT_rx_heater

/-- The setting that a heater takes of the one its loop asks for. -/
def heaterCode (old : Nat) (asked : Int) : Nat := (max 0 (min 1023 (max ((old : Int) - 8) (min (old + 8) asked)))).toNat

theorem heaterCode_bounds {old : Nat} (h : old ≤ 1023) (asked : Int) :
    heaterCode old asked ≤ 1023 ∧ heaterCode old asked ≤ old + 8 ∧ old ≤ heaterCode old asked + 8 := by
  unfold heaterCode
  omega

theorem heaterField_fits (ring : Nat) : (heaterField ring).offLog = true ∧ 2 ^ (heaterField ring).width = 1024 := by
  unfold heaterField
  split <;> decide

section
variable {s : State} {ring : Fin 2340} {offset : Int}

/-- Within the lock range the loop sets the heater, records the margin and clears its count of updates beyond the range. -/
theorem exec_tuningLoopUpdate (lane : ring.val / 2 < 1161) (rings : ring.val / 2 / 18 = 64 ∨ (s.port (ring.val / 2 / 18)).calibrated = true)
    (low : -12 ≤ offset) (high : offset ≤ 12) : ∃ (ctr : Nat) (w : Win) (asked value warn : Int) (sev : Nat) (v : Port),
      exec (.tuningLoopUpdate ring offset) s = .next ((((({ s with freeCtr := ctr, win := w } : State).put (heaterField ring)
        (heaterCode (s.get (heaterField ring) (ring.val / 2)) asked) (ring.val / 2)).marginAt 5 ring 0 value warn 0 sev).setPort
          (ring.val / 2 / 18) v)) := by
  have tuned : ¬(1161 ≤ ring.val / 2 ∨ (ring.val / 2 / 18 ≠ 64 ∧ (!(s.port (ring.val / 2 / 18)).calibrated) = true)) := by
    rcases rings with host | rings
    · omega
    · simp [rings]
      omega
  have near : (decide (12 < offset) || decide (offset < -12)) = false := by
    simp
    omega
  rw [show exec (.tuningLoopUpdate ring offset) s = execTuningLoopUpdate ring offset s from rfl, execTuningLoopUpdate]
  dsimp only
  simp only [if_neg tuned, near, Bool.false_eq_true, if_false, Nat.ofNat_pos, if_true]
  exact ⟨_, _, _, _, _, _, _, rfl⟩

theorem tuningLoopUpdate_gives (lane : ring.val / 2 < 1161)
    (rings : ring.val / 2 / 18 = 64 ∨ (s.port (ring.val / 2 / 18)).calibrated = true)
    (inRange : s.get (heaterField ring) (ring.val / 2) ≤ 1023) (low : -12 ≤ offset) (high : offset ≤ 12) :
    Gives (.tuningLoopUpdate ring offset) s fun t =>
      t.get (heaterField ring) (ring.val / 2) ≤ 1023 ∧
      t.get (heaterField ring) (ring.val / 2) ≤ s.get (heaterField ring) (ring.val / 2) + 8 ∧
      s.get (heaterField ring) (ring.val / 2) ≤ t.get (heaterField ring) (ring.val / 2) + 8 ∧ t.mem = s.mem ∧ t.fab = s.fab := by
  obtain ⟨ctr, w, asked, value, warn, sev, v, run⟩ := exec_tuningLoopUpdate lane rings low high
  refine ⟨_, run, ?_⟩
  obtain ⟨off, width⟩ := heaterField_fits ring
  obtain ⟨top, up, down⟩ := heaterCode_bounds inRange asked
  have logs := Logs.marginAt (({ s with freeCtr := ctr, win := w } : State).put (heaterField ring)
    (heaterCode (s.get (heaterField ring) (ring.val / 2)) asked) (ring.val / 2)) 5 ring 0 value warn 0 sev
  rw [State.setPort_get, logs.reads _ off, State.put_get_same, width, Nat.mod_eq_of_lt (by omega)]
  exact ⟨top, up, down, logs.mem, logs.fab⟩

end

/-! ## ACTIVITY_INDEX and ACTIVITY_INDEX_ABSENT (R250) -/

section
variable (s : State) (w : Nat) (a : List Nat)

/-- The time constant of the filter of compute die c at window die w. -/
def State.tau (c : Nat) : Nat := max 1 (s.get F.WIN_FF_CFG_tau_us (4 * w + c))

/-- One microsecond of the filter of compute die c. -/
def State.filterDie (c : Nat) : State :=
  { s with win := { s.win with y := SMap.set (0, 1) s.win.y (4 * w + c) (filterStep (s.filtered w c) (a.getD c 0) (s.tau w c)) } }

theorem State.filterDie_filtered (c j : Nat) : (s.filterDie w a c).filtered w j =
    if j = c then filterStep (s.filtered w c) (a.getD c 0) (s.tau w c) else s.filtered w j := by
  simp only [State.filtered, State.filterDie, SMap.get_set, Nat.add_left_cancel_iff]

/-- The filters below n have had their microsecond, the others not yet. -/
theorem State.filterDies_filtered (n : Nat) :
    (∃ y, (List.range n).foldl (fun s c => s.filterDie w a c) s = { s with win := { s.win with y := y } }) ∧
    ∀ c, ((List.range n).foldl (fun s c => s.filterDie w a c) s).filtered w c =
      if c < n then filterStep (s.filtered w c) (a.getD c 0) (s.tau w c) else s.filtered w c := by
  induction n with
  | zero => exact ⟨⟨s.win.y, rfl⟩, fun c => by simp⟩
  | succ n ih =>
    obtain ⟨⟨y, before⟩, filtered⟩ := ih
    simp only [List.range_succ, List.foldl_append, List.foldl_cons, List.foldl_nil]
    rw [before] at filtered ⊢
    refine ⟨⟨_, rfl⟩, fun c => ?_⟩
    rw [State.filterDie_filtered]
    by_cases own : c = n
    · subst own
      rw [if_pos rfl, filtered, if_neg (by omega), if_pos (by omega)]
      rfl
    · rw [if_neg own, filtered]
      exact if_congr (by omega) rfl rfl

/-- Every filter of a window die moves one step, and nothing else changes. -/
theorem State.filterAll_gives : (∃ y, s.filterAll w a = { s with win := { s.win with y := y } }) ∧
    ∀ c < 4, (s.filterAll w a).filtered w c = filterStep (s.filtered w c) (a.getD c 0) (s.tau w c) := by
  obtain ⟨frame, filtered⟩ := s.filterDies_filtered w a 4
  exact ⟨frame, fun c die => (filtered c).trans (if_pos die)⟩

end

section
variable (s : State) (w : Fin 4)

theorem activityIndex_gives (a0 a1 a2 a3 : BitVec 8) : Gives (.activityIndex w a0 a1 a2 a3) s fun t =>
    (∀ c < 4, t.filtered w c = filterStep (s.filtered w c) ([a0.toNat, a1.toNat, a2.toNat, a3.toNat].getD c 0) (s.tau w c)) ∧
    SMap.get 0 t.win.indexAt w = s.time ∧ t = { s with win := t.win } := by
  obtain ⟨⟨y, frame⟩, filtered⟩ := s.filterAll_gives w [a0.toNat, a1.toNat, a2.toNat, a3.toNat]
  refine ⟨_, rfl, filtered, ?_, ?_⟩
  · rw [frame]
    exact SMap.get_set_same _ _ _ _
  · rw [frame]

theorem activityIndexAbsent_gives : Gives (.activityIndexAbsent w) s fun t =>
    (∀ c < 4, t.filtered w c = filterStep (s.filtered w c) 0 (s.tau w c)) ∧ SMap.get 0 s.win.indexAt w + 3000 ≤ t.time ∧
    t = { s with time := t.time, win := t.win } := by
  obtain ⟨⟨y, frame⟩, filtered⟩ := (s.due (SMap.get 0 s.win.indexAt w + 3000)).filterAll_gives w [0, 0, 0, 0]
  have none : ∀ c < 4, [0, 0, 0, 0].getD c 0 = 0 := by decide
  refine ⟨_, rfl, fun c die => ?_, ?_, ?_⟩
  · rw [filtered c die, none c die]
    rfl
  · rw [frame]
    exact Nat.le_max_right _ _
  · rw [frame]
    rfl

end

/-! ## LAUNCH_POWER and LAUNCH_POWER_TIMER (R260, R266) -/

section
variable {s : State} {p : Fin 64}

theorem launchPower_gives (v : List Int) (up : s.linkUp p = true) (free : s.portState p ≠ 6) : Gives (.launchPower p v) s fun t =>
    t.port p = { s.port p with launch := v } ∧ (∀ q, q ≠ p.val → t.port q = s.port q) ∧ t = { s with ports := t.ports } := by
  have run : exec (.launchPower p v) s = .next (s.setPort p { s.port p with launch := v }) := congrArg _ (if_pos ⟨up, free⟩)
  exact ⟨_, run, s.setPort_same _ _, fun _ other => s.setPort_other _ other, rfl⟩

/-- Port p's powers are noted as sent now. -/
def State.noteLaunch (s : State) (p : Nat) : State := s.setPort p { s.port p with lastLaunch := s.time }

theorem launchPowerTimer_gives (up : s.portState p = 3) : Gives (.launchPowerTimer p) s fun t =>
    (s.port p).lastLaunch + 1000000 ≤ t.time ∧ (t.port p).lastLaunch = t.time ∧
    Sent s t p (.ctl p (.launchPower (s.port p).reading.bank)) ∧ t.regs = s.regs := by
  have run : exec (.launchPowerTimer p) s = .next (((s.due ((s.port p).lastLaunch + 1000000)).noteLaunch p).tx p
      (.ctl p (.launchPower (s.port p).reading.bank))) := congrArg _ (if_pos up)
  refine ⟨_, run, ?_⟩
  generalize due : s.due ((s.port p).lastLaunch + 1000000) = u
  have sent : Sent u ((u.noteLaunch p).tx p (.ctl p (.launchPower (s.port p).reading.bank))) p _ :=
    State.setPort_tx_sent rfl (State.linkUp_of_carrying (s := u.noteLaunch p) (.inl (by rw [← due]; exact up))) rfl
  obtain ⟨ps, l, frame⟩ := (u.noteLaunch p).tx_eq p (.ctl p (.launchPower (s.port p).reading.bank))
  refine ⟨?_, ?_, sent.of_same (by rw [← due]; rfl) (by rw [← due]; rfl), ?_⟩
  · rw [frame, ← due]
    exact Nat.le_max_right _ _
  · rw [State.tx_lastLaunch, frame]
    simp [State.noteLaunch]
  · rw [frame, ← due]
    rfl

end

/-! ## LOSS_LOCATION (R266, R267) -/

theorem State.recordLoss_regsOnly (s : State) (p : Nat) (l : Loss) : RegsOnly s (s.recordLoss p l) :=
  (((((RegsOnly.refl s).put _ _ _).put _ _ _).put _ _ _).put _ _ _).put _ _ _

/-- The port's register shows the loss: its stage, wavelength, excess in 0.01 dB up to what the field holds, and failed from 6 dB on. -/
theorem State.recordLoss_reads (s : State) (p : Nat) {l : Loss} (stage : l.stage < 8) (wavelength : l.wavelength < 32) :
    (s.recordLoss p l).get F.WIN_LOSS_STAT_stage p = l.stage ∧ (s.recordLoss p l).get F.WIN_LOSS_STAT_wavelength p = l.wavelength ∧
    (s.recordLoss p l).get F.WIN_LOSS_STAT_excess p = min l.excess.toNat 0x7FF ∧
    (s.recordLoss p l).isSet F.WIN_LOSS_STAT_failed p = decide (600 ≤ l.excess) ∧ (s.recordLoss p l).get F.WIN_PORT_STAT_loss_evt p = 1 := by
  simp (disch := decide) only [State.recordLoss, State.isSet, State.putB, State.put_get_same, State.put_get_apart]
  refine ⟨Nat.mod_eq_of_lt (stage.trans (by decide)), Nat.mod_eq_of_lt wavelength, Nat.mod_eq_of_lt ?_, ?_, rfl⟩
  · exact (Nat.min_le_right _ _).trans_lt (by decide)
  · cases decide (600 ≤ l.excess) <;> rfl

section
variable {s : State} {p : Fin 65} {r : OptRead} (dark : r.drop = [])
include dark

theorem exec_lossLocation_none (none : (s.port p).locate r = none) :
    exec (.lossLocation p r) s = .next (s.setPort p { s.port p with reading := r }) := by
  change execLossLocation p r s = _
  simp [execLossLocation, dark, none]

theorem exec_lossLocation_some {l : Loss} (found : (s.port p).locate r = some l) (own : l.stage ≠ 1) :
    exec (.lossLocation p r) s = .next ((s.setPort p { s.port p with reading := r }).recordLoss p l) := by
  change execLossLocation p r s = _
  simp [execLossLocation, dark, found, own]

theorem lossLocation_none (none : (s.port p).locate r = none) : Gives (.lossLocation p r) s fun t =>
    t.port p = { s.port p with reading := r } ∧ t = { s with ports := t.ports } :=
  ⟨_, exec_lossLocation_none dark none, s.setPort_same _ _, rfl⟩

theorem lossLocation_some {l : Loss} (found : (s.port p).locate r = some l) (own : l.stage ≠ 1) (stage : l.stage < 8)
    (wavelength : l.wavelength < 32) : Gives (.lossLocation p r) s fun t =>
      t.get F.WIN_LOSS_STAT_stage p = l.stage ∧ t.get F.WIN_LOSS_STAT_wavelength p = l.wavelength ∧
      t.get F.WIN_LOSS_STAT_excess p = min l.excess.toNat 0x7FF ∧ t.isSet F.WIN_LOSS_STAT_failed p = decide (600 ≤ l.excess) ∧
      t.get F.WIN_PORT_STAT_loss_evt p = 1 ∧ t = { s with ports := t.ports, regs := t.regs } := by
  obtain ⟨stageShown, wave, excess, failed, event⟩ :=
    (s.setPort p { s.port p with reading := r }).recordLoss_reads p stage wavelength
  have regsOnly := (s.setPort p { s.port p with reading := r }).recordLoss_regsOnly p l
  refine ⟨_, exec_lossLocation_some dark found own, stageShown, wave, excess, failed, event, ?_⟩
  rw [regsOnly]
  rfl

end

/-! ## The statement -/

/-- Settles O42: each command is one start or step of training, one way down, or one write of a ring's, a filter's or a port's readings. -/
theorem portTraining : Obligations.PortTraining := by
  unfold Obligations.PortTraining
  refine ⟨⟨fun s p r training => ⟨trainingStepDone_first r training, trainingStepDone_second r training, fun at_ => ?_⟩,
      fun s p => trainingStepTimeout_fourth, fun s p => trainingRetryTimer_gives, fun s p => partnerLightDetect_gives,
      fun s p carries => ⟨portDown_gives carries, retrain_gives carries, fun w i => portRetrainReq_gives carries⟩,
      fun s p => exec_portDown_idle, fun s i j w => recalReq_gives, fun s p off rings ready => ⟨?_, ?_⟩,
      fun s p h => portHoldExpire_gives⟩,
    fun s ring offset => tuningLoopUpdate_gives,
    fun s w a0 a1 a2 a3 => ⟨activityIndex_gives s w a0 a1 a2 a3, activityIndexAbsent_gives s w⟩,
    fun s p => launchPower_gives, fun s p => launchPowerTimer_gives,
    fun s p r dark => ⟨lossLocation_none dark, fun l => lossLocation_some dark⟩⟩
  · exact ⟨trainingStepDone_fifth r training at_, trainingStepDone_fails r training at_, trainingStepDone_failsShown r training at_⟩
  · exact ringCalibrationDone_trains off rings ready
  · exact ringCalibrationDone_reports off rings ready

end Sys2Proof.Machine

/-! SUPPORT. Collective sessions (R279-R287): what a session reads beside other changes, and what sending and ending work leave of the
machine. -/

namespace Sys2Proof.Machine

/-! ## A session as stored -/

section
variable (s : State) (k : Nat)

@[simp] theorem State.setSess_sess_same (v : ColSession) : (s.setSess k v).sess k = v := by simp [State.sess, State.setSess]

@[simp] theorem State.put_sess (f : Fld) (v i : Nat) : (s.put f v i).sess k = s.sess k := rfl

@[simp] theorem State.setSessState_sess (v j : Nat) : (s.setSessState j v).sess k = s.sess k := rfl

theorem State.setSessState_same {v : Nat} (small : v < 8) : (s.setSessState k v).sessState k = v :=
  (s.put_get_same _ v k).trans (Nat.mod_eq_of_lt small)

theorem State.setSessState_get {f : Fld} (low : f.code < 1024) (apart : f.code ≠ F.COL_SESSION_STAT_state.code) (v j : Nat) :
    (s.setSessState k v).get f j = s.get f j := s.put_get_apart (by decide) low apart v k j

end

/-! ## Steps that only send -/

/-- Nothing but ports and the record of what has left differs. -/
def SendsOnly (s t : State) : Prop := t = { s with ports := t.ports, out := t.out }

namespace SendsOnly
variable {s t u : State}

theorem refl (s : State) : SendsOnly s s := rfl

theorem trans (h : SendsOnly s t) (h' : SendsOnly t u) : SendsOnly s u :=
  Eq.trans h' (congrArg (fun x : State => { x with ports := u.ports, out := u.out }) h)

theorem foldl {α : Type} {f : State → α → State} (each : ∀ u a, SendsOnly u (f u a)) (l : List α) (s : State) :
    SendsOnly s (l.foldl f s) := by
  induction l generalizing s with
  | nil => exact refl s
  | cons a l ih => exact (each s a).trans (ih _)

theorem tx (s : State) (p : Nat) (o : Out) : SendsOnly s (s.tx p o) := by
  obtain ⟨ps, l, frame⟩ := s.tx_eq p o
  rw [SendsOnly, frame]

theorem colSend (s : State) (k tree seq : Nat) (p : ColPacket) : SendsOnly s (s.colSend k tree seq p) := by
  unfold State.colSend
  dsimp only
  split
  · exact refl s
  · exact tx s _ _

theorem sendJoin (s : State) (k : Nat) (e : ColEdge) : SendsOnly s (s.sendJoin k e) := by
  unfold State.sendJoin
  split
  · exact refl s
  · exact colSend s _ _ _ _

theorem sendAborts (s : State) (k cause : Nat) (except : Option Nat) : SendsOnly s (s.sendAborts k cause except) := by
  refine foldl (fun u n => ?_) _ s
  split
  · exact refl u
  · exact colSend u _ _ _ _

theorem sendCredit (s : State) (k : Nat) (e : ColEdge) : SendsOnly s (s.sendCredit k e) := colSend s _ _ _ _

variable (h : SendsOnly s t)
include h

theorem get (f : Fld) (i : Nat) : t.get f i = s.get f i := by rw [h]; rfl

theorem sess (k : Nat) : t.sess k = s.sess k := by rw [h]; rfl

theorem time : t.time = s.time := by rw [h]

theorem mem : t.mem = s.mem := by rw [h]

theorem item (w : Work) : t.item w = s.item w := by
  rw [h]
  exact State.item_congr rfl rfl rfl rfl

end SendsOnly

/-! ## Steps that only begin or end work -/

/-- Nothing but queues and graph slots differs. -/
def WorkOnly (s t : State) : Prop := t = { s with queues := t.queues, graphs := t.graphs }

namespace WorkOnly
variable {s t u : State}

theorem refl (s : State) : WorkOnly s s := rfl

theorem trans (h : WorkOnly s t) (h' : WorkOnly t u) : WorkOnly s u :=
  Eq.trans h' (congrArg (fun x : State => { x with queues := u.queues, graphs := u.graphs }) h)

theorem begin_ (s : State) (w : Work) : WorkOnly s (s.begin_ w) := by
  obtain ⟨q, g, frame⟩ := s.setPhase_eq w .busy
  rw [WorkOnly, State.begin_, frame]

theorem finish (s : State) (w : Work) (st : Status) (d : Nat) : WorkOnly s (s.finish w st d) := by
  obtain ⟨q, g, frame⟩ := s.finish_eq w st d
  rw [WorkOnly, frame]

/-- Runs that wait end one after another. -/
theorem finishAll (l : List ColRun) (st : Status) (d : Nat) (s : State) : WorkOnly s (l.foldl (fun s r => s.finish r.work st d) s) := by
  induction l generalizing s with
  | nil => exact refl s
  | cons r l ih => exact (finish s r.work st d).trans (ih _)

variable (h : WorkOnly s t)
include h

theorem get (f : Fld) (i : Nat) : t.get f i = s.get f i := by rw [h]; rfl

theorem sess (k : Nat) : t.sess k = s.sess k := by rw [h]; rfl

theorem sessState (k : Nat) : t.sessState k = s.sessState k := h.get _ k

theorem time : t.time = s.time := by rw [h]

theorem mem : t.mem = s.mem := by rw [h]

end WorkOnly

/-! ## Work that has ended keeps its end (R17) -/

theorem Queue.ent_upd_other {x : Queue} {i j : Nat} (apart : i ≠ j) {f : QEnt → QEnt} (idx : ∀ e, (f e).idx = e.idx) :
    (x.upd j f).ent i = x.ent i := by
  unfold Queue.upd
  split
  · rfl
  next e found =>
    have keeps (y : QEnt) : (if y.idx = j ∧ y.order = e.order then f y else y).idx = y.idx := by
      split
      · exact idx y
      · rfl
    have alike (y : QEnt) (own : y.idx = i) : (if y.idx = j ∧ y.order = e.order then f y else y) = y :=
      if_neg fun h => apart (own.symm.trans h.1)
    unfold Queue.ent
    dsimp only
    rw [List.filter_map]
    have same : ((fun y : QEnt => y.idx == i) ∘ fun y => if y.idx = j ∧ y.order = e.order then f y else y) = fun y => y.idx == i := by
      funext y
      simp only [Function.comp_apply, keeps]
    rw [same, List.map_congr_left (g := id) fun y hy => alike y (by simpa using (List.mem_filter.1 hy).2), List.map_id]

theorem GSlot.find_upd_other {x : GSlot} {k i k' i' : Nat} (apart : ¬(k = k' ∧ i = i')) {f : GInst → GInst}
    (name : ∀ e, (f e).node = e.node ∧ (f e).iter = e.iter) :
    ((x.upd k' i' f).insts.find? fun y => y.node == k && y.iter == i) = x.insts.find? fun y => y.node == k && y.iter == i := by
  have keeps (y : GInst) : (if y.node = k' ∧ y.iter = i' then f y else y).node = y.node ∧
      (if y.node = k' ∧ y.iter = i' then f y else y).iter = y.iter := by
    split
    · exact name y
    · exact ⟨rfl, rfl⟩
  have same : ((fun y : GInst => y.node == k && y.iter == i) ∘ fun y => if y.node = k' ∧ y.iter = i' then f y else y) =
      fun y => y.node == k && y.iter == i := by
    funext y
    simp only [Function.comp_apply, keeps]
  rw [GSlot.upd, List.find?_map, same]
  cases found : x.insts.find? fun y => y.node == k && y.iter == i with
  | none => rfl
  | some y =>
    have own : y.node = k ∧ y.iter = i := by simpa using List.find?_some found
    exact congrArg some (if_neg fun other => apart ⟨own.1.symm.trans other.1, own.2.symm.trans other.2⟩)

/-- The work has ended with this result. -/
def State.HasEnded (s : State) : Work → Result → Prop
  | .desc n i, r => ∃ e, (s.queue n).ent i = some e ∧ e.phase = .ended ∧ e.result = some r
  | .node g k i, r => ∃ x, ((s.graph g).insts.find? fun y => y.node == k && y.iter == i) = some x ∧ x.phase = .ended ∧
      x.result = some r

theorem State.HasEnded.resultOf {s : State} {w : Work} {r : Result} (h : s.HasEnded w r) : s.resultOf w = some r := by
  cases w with
  | desc n i =>
    obtain ⟨e, found, -, result⟩ := h
    simp only [State.resultOf, found, result]
  | node g k i =>
    obtain ⟨x, found, -, result⟩ := h
    simp only [State.resultOf, found, result]

theorem EndedAs.hasEnded {s t : State} {w : Work} {st : Status} {d : Nat} (h : EndedAs s t w st d) : t.HasEnded w ⟨st, d⟩ := by
  obtain ⟨⟨it, -, after⟩, result⟩ := h
  cases w with
  | desc n i =>
    obtain ⟨e, found, seen⟩ := State.item_desc_iff.1 after
    simp only [State.resultOf, found] at result
    exact ⟨e, found, congrArg Item.phase seen, result⟩
  | node g k i =>
    obtain ⟨x, found, seen⟩ := State.item_node_iff.1 after
    simp only [State.resultOf, found] at result
    exact ⟨x, found, congrArg Item.phase seen, result⟩

theorem State.HasEnded.congr {s t : State} {w : Work} {r : Result} (h : s.HasEnded w r) (queues : t.queues = s.queues)
    (graphs : t.graphs = s.graphs) : t.HasEnded w r := by
  cases w <;> simpa only [State.HasEnded, State.queue, State.graph, queues, graphs] using h

/-- Another end, or a second one, leaves the end that work has had. -/
theorem State.HasEnded.finish {s : State} {w : Work} {r : Result} (h : s.HasEnded w r) (w' : Work) (st : Status) (d : Nat) :
    (s.finish w' st d).HasEnded w r := by
  cases w with
  | desc n i =>
    obtain ⟨e, found, phase, result⟩ := h
    refine ⟨e, ?_, phase, result⟩
    cases w' with
    | node g k j => exact found
    | desc m j =>
      rw [State.finish]
      by_cases queue : n = m
      · subst queue
        rw [State.setQueue_same]
        by_cases index : i = j
        · subst index
          rw [Queue.ent_upd found fun e => by split <;> rfl, if_pos phase]
        · rw [Queue.ent_upd_other index fun e => by split <;> rfl, found]
      · rw [State.setQueue_other _ _ queue, found]
  | node g k i =>
    obtain ⟨x, found, phase, result⟩ := h
    refine ⟨x, ?_, phase, result⟩
    cases w' with
    | desc m j => exact found
    | node g' k' i' =>
      rw [State.finish]
      by_cases slot : g = g'
      · subst slot
        rw [State.setGraph_same]
        by_cases name : k = k' ∧ i = i'
        · obtain ⟨rfl, rfl⟩ := name
          rw [GSlot.find_upd found fun e => by split <;> exact ⟨rfl, rfl⟩, if_pos phase]
        · rw [GSlot.find_upd_other name fun e => by split <;> exact ⟨rfl, rfl⟩, found]
      · rw [State.setGraph_other _ _ slot, found]

theorem State.HasEnded.finishAll {s : State} {w : Work} {r : Result} (h : s.HasEnded w r) (l : List ColRun) (st : Status) (d : Nat) :
    (l.foldl (fun s x => s.finish x.work st d) s).HasEnded w r := by
  induction l generalizing s with
  | nil => exact h
  | cons x l ih => exact ih (h.finish x.work st d)

end Sys2Proof.Machine

/-! SUPPORT. The line of a session (R287): the runs that wait in it, the number the next takes, the last one started and the number that
COL_SESSION_STAT shows; and the parts of a run, none of which moves it. -/

namespace Sys2Proof.Machine

/-- The runs of session k that wait, the next run's number, the last run's operation, and the run number shown. -/
def State.line (s : State) (k : Nat) : List ColRun × Nat × Nat × Nat :=
  ((s.sess k).waiting, (s.sess k).nextRun, (s.sess k).lastOp, s.get F.COL_SESSION_STAT_run k)

section
variable (s : State) (k : Nat)

/-! ## What the line rests on -/

theorem SendsOnly.line {s t : State} (h : SendsOnly s t) (k : Nat) : t.line k = s.line k := by rw [h]; rfl

theorem WorkOnly.line {s t : State} (h : WorkOnly s t) (k : Nat) : t.line k = s.line k := by rw [h]; rfl

variable {s k} in
theorem line_ite {c : Prop} [Decidable c] {t u : State} (h : t.line k = s.line k) (h' : u.line k = s.line k) :
    (if c then t else u).line k = s.line k := by
  split <;> assumption

theorem State.put_line {f : Fld} (low : f.code < 1024) (apart : F.COL_SESSION_STAT_run.code ≠ f.code) (v i : Nat) :
    (s.put f v i).line k = s.line k := by
  simp only [State.line, State.put_sess, s.put_get_apart low (by decide) apart]

theorem State.setSess_line {v : ColSession} (waiting : v.waiting = (s.sess k).waiting) (next : v.nextRun = (s.sess k).nextRun)
    (last : v.lastOp = (s.sess k).lastOp) : (s.setSess k v).line k = s.line k := by
  simp only [State.line, State.setSess_sess_same, State.setSess_get, waiting, next, last]

@[simp] theorem State.setSessState_line (v : Nat) : (s.setSessState k v).line k = s.line k := s.put_line k (by decide) (by decide) v k

@[simp] theorem State.updRun_line (f : ColRun → ColRun) : (s.updRun k f).line k = s.line k := s.setSess_line k rfl rfl rfl

@[simp] theorem State.updEdge_line (tree node : Nat) (f : ColEdge → ColEdge) : (s.updEdge k tree node f).line k = s.line k :=
  s.setSess_line k rfl rfl rfl

/-! ## Engines and memory -/

theorem State.setEng_line (e : Nat) (v : Eng) : (s.setEng e v).line k = s.line k := by
  simp only [State.setEng, State.putB]
  rw [State.showSuspects_keeps _ (State.line · k) (fun u v i => u.put_line k (by decide) (by decide) v i)
    (fun u v i => u.put_line k (by decide) (by decide) v i), State.put_line _ _ (by decide) (by decide),
    State.put_line _ _ (by decide) (by decide)]
  rfl

@[simp] theorem State.engTake_line (e x : Nat) : (s.engTake e x).line k = s.line k := s.setEng_line k e _

@[simp] theorem State.engRelease_line (e x : Nat) : (s.engRelease e x).line k = s.line k := s.setEng_line k e _

@[simp] theorem State.engAdvance_line (e n : Nat) : (s.engAdvance e n).line k = s.line k :=
  s.engAdvance_keeps (State.line · k) (fun f hf u v i => u.put_line k (by revert f; decide) (by revert f; decide) v i) (fun _ _ => rfl) e n

@[simp] theorem State.memWrite_line (a : Nat) (bs : List Byte) : (s.memWrite a bs).1.line k = s.line k := by
  obtain ⟨m, r, frame⟩ := s.memWrite_eq a bs
  rw [frame]
  rfl

@[simp] theorem State.memPoison_line (a n : Nat) : (s.memPoison a n).line k = s.line k := by
  refine foldl_keeps (State.line · k) (fun u p => ?_) _ s
  split
  · rfl
  · obtain ⟨r, frame⟩ := State.dirtyAt_eq (u.setDram _) p.1
    rw [frame]
    rfl

/-! ## Runs that end -/

@[simp] theorem State.scrambleDst_line (r : ColRun) : (s.scrambleDst r).line k = s.line k := by
  unfold State.scrambleDst
  split
  · rfl
  · exact State.memWrite_line _ k _ _

@[simp] theorem State.endRun_line (st : Status) : (s.endRun k st).line k = s.line k := by
  unfold State.endRun
  dsimp only
  split
  · rfl
  next r running =>
    have released : (((s.setSess k { s.sess k with run := none, counter := (s.sess k).counter + (r.count + 1023) / 1024 * 1024 }).finish
        r.work st 0).engRelease 24 r.ctxId).line k = s.line k := by
      rw [State.engRelease_line, (WorkOnly.finish _ _ _ _).line]
      exact s.setSess_line k rfl rfl rfl
    rw [State.setSessState_line]
    split
    · exact released
    · exact (State.scrambleDst_line _ k r).trans released

@[simp] theorem State.settleRun_line : (s.settleRun k).line k = s.line k := by
  unfold State.settleRun
  dsimp only
  split
  · rfl
  · split
    · rfl
    · exact s.endRun_line k _

/-! ## Chunks that leave -/

@[simp] theorem State.colSend_line (tree seq : Nat) (p : ColPacket) : (s.colSend k tree seq p).line k = s.line k :=
  (SendsOnly.colSend s k tree seq p).line k

@[simp] theorem State.sendCredit_line (e : ColEdge) : (s.sendCredit k e).line k = s.line k := (SendsOnly.sendCredit s k e).line k

@[simp] theorem State.sendPiece_line (e : ColEdge) (seq piece : Nat) (again : Bool) :
    (s.sendPiece k e seq piece again).line k = s.line k := by
  unfold State.sendPiece
  split
  · rfl
  · simp only [State.updEdge_line, State.engAdvance_line, State.colSend_line]
    split
    · exact s.updRun_line k _
    · rfl

@[simp] theorem State.pumpEdge_line (tree node : Nat) : (s.pumpEdge k tree node).line k = s.line k := by
  unfold State.pumpEdge
  dsimp only
  split
  · refine foldl_keeps (State.line · k) (fun u t => ?_) _ s
    split
    · exact u.sendPiece_line k _ _ _ _
    · rfl
  · rfl

@[simp] theorem State.pump_line : (s.pump k).line k = s.line k := by
  unfold State.pump
  exact foldl_keeps (State.line · k) (fun u e => u.pumpEdge_line k _ _) _ s

/-! ## Slots -/

@[simp] theorem State.writeChunk_line (tree seq at_ : Nat) (bytes : List Byte) : (s.writeChunk k tree seq at_ bytes).line k = s.line k := by
  unfold State.writeChunk
  dsimp only
  split
  · rfl
  · split
    · rfl
    · split
      · rw [State.updRun_line, State.memPoison_line]
      · rw [State.updRun_line, State.memWrite_line]

@[simp] theorem State.openSlots_line (tree : Nat) : (s.openSlots k tree).line k = s.line k := by
  unfold State.openSlots
  dsimp only
  split
  · rfl
  · split
    · rfl
    · exact foldl_keeps (State.line · k) (fun u i => u.updRun_line k _) _ s

@[simp] theorem State.newGrants_line (tree : Nat) (force : Bool) : (s.newGrants k tree force).line k = s.line k := by
  unfold State.newGrants
  dsimp only
  split
  · rfl
  · refine foldl_keeps (State.line · k) (fun u e => line_ite ((State.sendCredit_line _ k _).trans (u.updEdge_line k _ _ _)) rfl) _ s

@[simp] theorem State.freeSlot_line (tree seq : Nat) : (s.freeSlot k tree seq).line k = s.line k := by
  simp only [State.freeSlot, State.newGrants_line, State.openSlots_line, State.updRun_line]

@[simp] theorem State.fillSlots_line (tree n : Nat) : (State.fillSlots k tree n s).line k = s.line k := by
  induction n generalizing s with
  | zero => rfl
  | succ n ih =>
    unfold State.fillSlots
    dsimp only
    split
    · rfl
    · split
      · rfl
      · rw [ih]
        split
        · rw [State.freeSlot_line, State.updRun_line, State.writeChunk_line, State.updRun_line]
        · exact s.updRun_line k _

end

end Sys2Proof.Machine

/-! O45: collective runs enter their session's line, and the first of a ready session starts (R283, R286, R287). -/

namespace Sys2Proof.Machine

/-! ## Operations enter the line (R283, R287) -/

/-- The four operations, each by its code (Table 10.3). -/
theorem exec_collective {s : State} {w : Work} {op : Nat} {c : Instr}
    (named : (op, c) ∈ [(1, Instr.allReduce w), (2, .reduce w), (3, .broadcast w), (4, .barrier w)]) :
    exec c s = .next (s.collective w op) := by
  simp only [List.mem_cons, Prod.mk.injEq, List.not_mem_nil, or_false] at named
  rcases named with ⟨rfl, rfl⟩ | ⟨rfl, rfl⟩ | ⟨rfl, rfl⟩ | ⟨rfl, rfl⟩ <;> rfl

/-- The run that an operation's payload asks for. -/
def Item.colRun (it : Item) (w : Work) (op : Nat) : ColRun :=
  { work := w, ctxId := it.ctxId, op := op, fmt := fieldAt it.payload 2 1
    stoch := bitAt (fieldAt it.payload 3 1) 0, sat := bitAt (fieldAt it.payload 3 1) 1
    src := fieldAt it.payload 8 8, dst := fieldAt it.payload 16 8, count := fieldAt it.payload 24 8 }

/-- A run joins the end of session k's line. -/
def State.lineUp (s : State) (k : Nat) (r : ColRun) : State := s.setSess k { s.sess k with waiting := (s.sess k).waiting ++ [r] }

/-- The context may read all of an operation's source and write all of its destination; a barrier has neither. -/
def State.colMayAccess (s : State) (it : Item) (op : Nat) : Prop :=
  op = 4 ∨ (s.mayLocal it.ctx (fieldAt it.payload 8 8) (fieldAt it.payload 24 8 * colElem (fieldAt it.payload 2 1)) false = true ∧
    s.mayLocal it.ctx (fieldAt it.payload 16 8) (fieldAt it.payload 24 8 * colElem (fieldAt it.payload 2 1)) true = true)

section
variable {s : State} {w : Work} {it : Item} {op : Nat} (h : s.fresh w 0x05 = some it) (code : fieldAt it.payload 0 1 = op)
include h code

theorem State.collective_of_illFormed {f : Nat} (bad : colFormat it.payload = some f) : s.collective w op = s.finish w .eFormat f := by
  simp [State.collective, h, code, bad]

variable (ok : colFormat it.payload = none) (open_ : s.isSet F.SEC_EXCL_STAT_shutter 0 = false)
include ok open_

theorem State.collective_of_idle (idle : s.sessState (fieldAt it.payload 1 1) = 0) : s.collective w op = s.finish w .eFormat 33 := by
  simp [State.collective, h, code, ok, open_, idle]

theorem State.collective_of_broken (may : s.colMayAccess it op) (broken : s.sessState (fieldAt it.payload 1 1) = 4) :
    s.collective w op = s.finish w .ePeerLost 0 := by
  rcases may with rfl | ⟨reads, writes⟩
  · simp [State.collective, h, code, ok, open_, broken]
  · simp [State.collective, h, code, ok, open_, broken, reads, writes]

theorem State.collective_of_live (may : s.colMayAccess it op) (used : s.sessState (fieldAt it.payload 1 1) ≠ 0)
    (whole : s.sessState (fieldAt it.payload 1 1) ≠ 4) :
    s.collective w op = (s.begin_ w).lineUp (fieldAt it.payload 1 1) (it.colRun w op) := by
  have enters : s.collective w op = (s.begin_ w).setSess (fieldAt it.payload 1 1)
      { s.sess (fieldAt it.payload 1 1) with waiting := (s.sess (fieldAt it.payload 1 1)).waiting ++ [it.colRun w op] } := by
    rcases may with rfl | ⟨reads, writes⟩
    · simp [State.collective, Item.colRun, h, code, ok, open_, used, whole]
    · simp [State.collective, Item.colRun, h, code, ok, open_, used, whole, reads, writes]
  rw [enters, State.lineUp, (WorkOnly.begin_ s w).sess]

end

/-- An operation begun stands last in its session's line, and its work goes on. -/
theorem State.lineUp_gives {s : State} {w : Work} {it : Item} (h : s.item w = some it) (k : Nat) (r : ColRun) :
    ((s.begin_ w).lineUp k r).item w = some { it with phase := .busy } ∧
    (((s.begin_ w).lineUp k r).sess k).waiting = (s.sess k).waiting ++ [r] ∧
    (s.begin_ w).lineUp k r = { s with col := ((s.begin_ w).lineUp k r).col, queues := ((s.begin_ w).lineUp k r).queues,
                                       graphs := ((s.begin_ w).lineUp k r).graphs } := by
  have begun := WorkOnly.begin_ s w
  refine ⟨?_, ?_, ?_⟩
  · exact (State.item_congr rfl rfl rfl rfl).trans (State.setPhase_item h .busy)
  · rw [State.lineUp, State.setSess_sess_same, begun.sess]
  · exact congrArg (fun x : State => { x with col := ((s.begin_ w).lineUp k r).col }) begun

/-! ## Runs start (R287) -/

section
variable {s : State} {k : Fin 8} {r : ColRun} {rest : List ColRun}

theorem exec_collectiveRunStart_of_next (line : (s.sess k).waiting = r :: rest) (ready : s.sessState k = 2) (may : s.colMay r.ctxId = true)
    (free : r.op = 4 ∨ (s.memHeld r.src (r.count * colElem r.fmt) = false ∧ s.memHeld r.dst (r.count * colElem r.fmt) = false)) :
    exec (.collectiveRunStart k) s = .next (s.startRun k r rest) := by
  change execCollectiveRunStart k s = _
  rcases free with barrier | ⟨src, dst⟩
  · simp [execCollectiveRunStart, line, ready, may, barrier]
  · simp [execCollectiveRunStart, line, ready, may, src, dst]

theorem exec_collectiveRunStart_of_none (none : (s.sess k).waiting = [] ∨ s.sessState k ≠ 2) :
    exec (.collectiveRunStart k) s = .next s := by
  change execCollectiveRunStart k s = _
  rcases none with empty | notReady
  · simp only [execCollectiveRunStart, empty]
  · simp only [execCollectiveRunStart]
    split
    · rfl
    · rw [if_pos (.inl notReady)]

end

/-- With lanes enough, a started run leaves the line, gives its number to the register, and leaves the next one to the next. -/
theorem State.startRun_line (s : State) (k : Nat) (r : ColRun) (rest : List ColRun) (lanes : 256 ≤ s.adderLanes) :
    (s.startRun k r rest).line k =
      (rest, ((s.sess k).nextRun + 1) % 65536, r.op, (s.sess k).nextRun % 2 ^ F.COL_SESSION_STAT_run.width) := by
  unfold State.startRun
  dsimp only
  rw [if_neg ?enough]
  case enough =>
    obtain ⟨regs, engines, taken⟩ := State.engTake_eq (((s.setSess k _).put F.COL_SESSION_STAT_run _ k).setSessState k 3) 24 r.ctxId
    rw [taken]
    exact fun few => Nat.not_lt.2 lanes few.2
  simp only [State.settleRun_line, State.pump_line, State.fillSlots_line, State.newGrants_line, State.openSlots_line, State.engTake_line,
    State.setSessState_line]
  simp only [State.line, State.put_sess, State.setSess_sess_same, State.put_get_same]

theorem collectiveRunStart_gives {s : State} {k : Fin 8} {r : ColRun} {rest : List ColRun} (line : (s.sess k).waiting = r :: rest)
    (ready : s.sessState k = 2) (may : s.colMay r.ctxId = true) (lanes : 256 ≤ s.adderLanes)
    (free : r.op = 4 ∨ (s.memHeld r.src (r.count * colElem r.fmt) = false ∧ s.memHeld r.dst (r.count * colElem r.fmt) = false)) :
    Gives (.collectiveRunStart k) s fun t =>
      (t.sess k).waiting = rest ∧ (t.sess k).nextRun = ((s.sess k).nextRun + 1) % 65536 ∧ (t.sess k).lastOp = r.op ∧
      t.get F.COL_SESSION_STAT_run k = (s.sess k).nextRun % 2 ^ F.COL_SESSION_STAT_run.width := by
  have moved := s.startRun_line k r rest lanes
  simp only [State.line, Prod.mk.injEq] at moved
  exact ⟨_, exec_collectiveRunStart_of_next line ready may free, moved⟩

/-! ## The statement -/

/-- Settles O45: an operation is refused by its format or its session's state, or stands last in the line; a run that starts leaves it. -/
theorem collectiveRuns : Obligations.CollectiveRuns := by
  unfold Obligations.CollectiveRuns
  refine ⟨fun s w it op c h code named => ?_, fun s k r rest => collectiveRunStart_gives, fun s k => exec_collectiveRunStart_of_none⟩
  have ends {st : Status} {d : Nat} (refused : s.collective w op = s.finish w st d) :
      Gives c s fun t => EndedAs s t w st d ∧ t = { s with queues := t.queues, graphs := t.graphs } :=
    State.finish_gives h ((exec_collective named).trans (congrArg _ refused))
  refine ⟨fun f bad => ends (State.collective_of_illFormed h code bad), fun ok open_ =>
    ⟨fun idle => ends (State.collective_of_idle h code ok open_ idle), fun may =>
      ⟨fun broken => ends (State.collective_of_broken h code ok open_ may broken), fun used whole => ?_⟩⟩⟩
  obtain ⟨busy, waits, frame⟩ := State.lineUp_gives (State.item_of_fresh h).1 (fieldAt it.payload 1 1) (it.colRun w op)
  exact ⟨_, (exec_collective named).trans (congrArg _ (State.collective_of_live h code ok open_ may used whole)), busy,
    ⟨_, waits, rfl, rfl, rfl, rfl, rfl, rfl⟩, frame⟩

end Sys2Proof.Machine

/-! SUPPORT. Collective sessions that form (R281-R284): the pool, the JOINs sent, the session that a descriptor gives. -/

namespace Sys2Proof.Machine

/-! ## The pool (R281, R282) -/

section
variable (s : State)

theorem State.addPool_free (n : Int) :
    (s.addPool n).get F.COL_POOL_free_units 0 = ((s.get F.COL_POOL_free_units 0 : Int) + n).toNat % 2 ^ F.COL_POOL_free_units.width :=
  s.put_get_same _ _ 0

theorem State.addPool_get {f : Fld} (low : f.code < 1024) (apart : f.code ≠ F.COL_POOL_free_units.code) (n : Int) (i : Nat) :
    (s.addPool n).get f i = s.get f i := s.put_get_apart (by decide) low apart _ 0 i

end

/-! ## JOINs sent (R284) -/

section
variable (s : State) (k : Nat)

theorem State.sendJoins_eq : ∃ u, SendsOnly s u ∧ s.sendJoins k = u.setSess k { s.sess k with lastJoin := s.time } := by
  have sent := SendsOnly.foldl (f := fun s e => s.sendJoin k e) (fun u e => .sendJoin u k e) ((s.sess k).edges.filter fun e => !e.joined) s
  exact ⟨_, sent, by simp only [State.sendJoins, sent.sess, sent.time]⟩

@[simp] theorem State.sendJoins_sess : (s.sendJoins k).sess k = { s.sess k with lastJoin := s.time } := by
  obtain ⟨u, -, joins⟩ := s.sendJoins_eq k
  rw [joins, State.setSess_sess_same]

@[simp] theorem State.sendJoins_get (f : Fld) (i : Nat) : (s.sendJoins k).get f i = s.get f i := by
  obtain ⟨u, sent, joins⟩ := s.sendJoins_eq k
  rw [joins, State.setSess_get, sent.get]

@[simp] theorem State.sendJoins_time : (s.sendJoins k).time = s.time := by
  obtain ⟨u, sent, joins⟩ := s.sendJoins_eq k
  rw [joins, State.setSess_time, sent.time]

@[simp] theorem State.sendJoins_mem : (s.sendJoins k).mem = s.mem := by
  obtain ⟨u, sent, joins⟩ := s.sendJoins_eq k
  rw [joins, State.setSess_mem, sent.mem]

@[simp] theorem State.sendJoins_item (w : Work) : (s.sendJoins k).item w = s.item w := by
  obtain ⟨u, sent, joins⟩ := s.sendJoins_eq k
  rw [joins, ← sent.item w]
  exact State.item_congr rfl rfl rfl rfl

end

/-! ## Sessions that become ready, or stay joining (R284) -/

theorem State.settleJoin_of_unjoined {s : State} {k : Nat} {e : ColEdge} (member : e ∈ (s.sess k).edges) (unjoined : e.joined = false) :
    s.settleJoin k = s := by
  refine if_neg fun all => ?_
  have joined := List.all_eq_true.1 all.2 e member
  simp [unjoined] at joined

theorem State.settleJoin_of_joined {s : State} {k : Nat} {w : Work} (joining : s.sessState k = 1)
    (all : ∀ e ∈ (s.sess k).edges, e.joined = true) (setup : (s.sess k).setup = some w) :
    s.settleJoin k = ((s.finish w .ok 0).setSess k { s.sess k with
      setup := none, lastKeep := (s.finish w .ok 0).time
      edges := (s.sess k).edges.map fun e => { e with heard := (s.finish w .ok 0).time } }).setSessState k 2 := by
  simp only [State.settleJoin]
  rw [if_pos ⟨joining, List.all_eq_true.2 all⟩, setup]

/-! ## The session of a descriptor (R282-R284) -/

theorem leNat_lt (bs : List Byte) : leNat bs < 256 ^ bs.length := by
  induction bs with
  | nil => exact Nat.one_pos
  | cons b bs ih =>
    have low := b.isLt
    rw [leNat, List.length_cons, Nat.pow_succ]
    omega

theorem fieldAt_lt (bs : List Byte) (off n : Nat) : fieldAt bs off n < 256 ^ n :=
  (leNat_lt _).trans_le (Nat.pow_le_pow_right (by decide) (List.length_take_le n _))

/-- No neighbour that a descriptor names has joined. -/
theorem joined_of_mem_sessionEdges {own : Nat} {d : List Byte} {es : List ColEdge} (h : sessionEdges own d = some es) {e : ColEdge}
    (member : e ∈ es) : e.joined = false := by
  unfold sessionEdges at h
  dsimp only at h
  split at h
  · cases h
  · split at h
    · cases h
    · split at h
      · cases h
      · cases h
        obtain ⟨v, -, made⟩ := List.mem_filterMap.1 member
        split at made
        · cases made
          rfl
        · cases made

/-- The session that a descriptor gives. -/
def State.sessionOf (s : State) (w : Work) (d : List Byte) : ColSession :=
  { edges := (sessionEdges s.ownNode d).getD [], key := fieldAt d 40 4, chunkKib := (s.sessionValues d).1, slots := (s.sessionValues d).2.1
    timeout := (s.sessionValues d).2.2, seed := fieldAt d 48 8, setup := some w
    joinMs := if fieldAt d 6 2 = 0 then 1000 else fieldAt d 6 2, since := s.time }

/-- Session k as its set-up begins: its staging taken, its registers set, no JOIN sent. -/
def State.joiningFrom (s : State) (w : Work) (k : Nat) (d : List Byte) : State :=
  let s' := ((s.begin_ w).addPool (-((s.sessionOf w d).footprint : Int))).setSess k (s.sessionOf w d)
  ((((s'.put F.COL_SESSION_STAT_generation (fieldAt d 4 2) k).put F.COL_SESSION_STAT_cause 0 k).put F.COL_SESSION_STAT_lost_node 0 k).put
    F.COL_SESSION_STAT_run 0 k).setSessState k 1

section
variable {s : State} {w : Work} {it : Item}

theorem State.sessionOf_footprint (d : List Byte) :
    (s.sessionOf w d).footprint = 2 * (s.sessionValues d).2.1 * (s.sessionValues d).1 / 128 := rfl

theorem State.setupSession_of_room (k : Nat) {d : List Byte} (room : (s.sessionOf w d).footprint ≤ s.get F.COL_POOL_free_units 0) :
    s.setupSession w k d = ((s.joiningFrom w k d).sendJoins k).settleJoin k := if_neg (Nat.not_lt.2 room)

theorem State.joiningFrom_sess (k : Nat) (d : List Byte) : (s.joiningFrom w k d).sess k = s.sessionOf w d := by
  simp only [State.joiningFrom, State.setSessState_sess, State.put_sess, State.setSess_sess_same]

theorem State.joiningFrom_mem (k : Nat) (d : List Byte) : (s.joiningFrom w k d).mem = s.mem := by
  simp only [State.joiningFrom, State.setSessState, State.addPool, State.put_mem, State.setSess_mem, (WorkOnly.begin_ s w).mem]

theorem State.joiningFrom_item (h : s.item w = some it) (k : Nat) (d : List Byte) :
    (s.joiningFrom w k d).item w = some { it with phase := .busy } := by
  refine (State.item_congr (s := s.begin_ w) ?_ ?_ ?_ ?_).trans (State.setPhase_item h .busy)
  · simp only [State.joiningFrom, State.setSessState, State.addPool, State.put_queues, State.setSess_queues]
  · simp only [State.joiningFrom, State.setSessState, State.addPool, State.put_graphs, State.setSess_graphs]
  · simp only [State.joiningFrom, State.setSessState, State.addPool, State.put_hubsp, State.setSess_hubsp]
  · simp (disch := decide) only [State.joiningFrom, State.setSessState_get, State.put_get_apart, State.setSess_get, State.addPool_get]

theorem State.joiningFrom_shows (k : Nat) (d : List Byte) (room : (s.sessionOf w d).footprint ≤ s.get F.COL_POOL_free_units 0) :
    (s.joiningFrom w k d).sessState k = 1 ∧ (s.joiningFrom w k d).get F.COL_SESSION_STAT_generation k = fieldAt d 4 2 ∧
    (s.joiningFrom w k d).get F.COL_POOL_free_units 0 =
      (s.get F.COL_POOL_free_units 0 - (s.sessionOf w d).footprint) % 2 ^ F.COL_POOL_free_units.width := by
  refine ⟨State.setSessState_same _ k (by decide), ?_, ?_⟩
  · simp (disch := decide) only [State.joiningFrom, State.setSessState_get, State.put_get_apart, State.put_get_same]
    exact Nat.mod_eq_of_lt (fieldAt_lt d 4 2)
  · simp (disch := decide) only [State.joiningFrom, State.setSessState_get, State.put_get_apart, State.setSess_get, State.addPool_free,
      (WorkOnly.begin_ s w).get]
    congr 1
    omega

/-- A set-up with room in the pool and a neighbour to wait for makes its session joining. -/
theorem State.setupSession_gives (h : s.item w = some it) (k : Nat) {d : List Byte} {es : List ColEdge}
    (edges : sessionEdges s.ownNode d = some es) (neighbours : es ≠ [])
    (room : 2 * (s.sessionValues d).2.1 * (s.sessionValues d).1 / 128 ≤ s.get F.COL_POOL_free_units 0) :
    (s.setupSession w k d).sessState k = 1 ∧ (s.setupSession w k d).get F.COL_SESSION_STAT_generation k = fieldAt d 4 2 ∧
    (s.setupSession w k d).get F.COL_POOL_free_units 0 =
      (s.get F.COL_POOL_free_units 0 - 2 * (s.sessionValues d).2.1 * (s.sessionValues d).1 / 128) % 2 ^ F.COL_POOL_free_units.width ∧
    some ((s.setupSession w k d).sess k).edges = sessionEdges s.ownNode d ∧ ((s.setupSession w k d).sess k).setup = some w ∧
    ((s.setupSession w k d).sess k).run = none ∧ (s.setupSession w k d).item w = some { it with phase := .busy } ∧
    (s.setupSession w k d).mem = s.mem := by
  rw [← State.sessionOf_footprint (w := w)] at room ⊢
  have given : (s.sessionOf w d).edges = es := by rw [State.sessionOf, edges, Option.getD_some]
  have session : ((s.joiningFrom w k d).sendJoins k).sess k = { s.sessionOf w d with lastJoin := (s.joiningFrom w k d).time } := by
    rw [State.sendJoins_sess, State.joiningFrom_sess]
  obtain ⟨e, member⟩ := List.exists_mem_of_ne_nil es neighbours
  have waits := State.settleJoin_of_unjoined (s := (s.joiningFrom w k d).sendJoins k) (k := k) (e := e)
    (by rw [session]; exact given ▸ member) (joined_of_mem_sessionEdges edges member)
  obtain ⟨state, generation, free⟩ := s.joiningFrom_shows (w := w) k d room
  rw [State.setupSession_of_room k room, waits, session]
  refine ⟨(State.sendJoins_get _ _ _ _).trans state, (State.sendJoins_get _ _ _ _).trans generation,
    (State.sendJoins_get _ _ _ _).trans free, ?_, rfl, rfl, ?_, ?_⟩
  · rw [edges, ← given]
  · rw [State.sendJoins_item, State.joiningFrom_item h]
  · rw [State.sendJoins_mem, State.joiningFrom_mem]

end

end Sys2Proof.Machine

/-! O44: collective sessions are set up, joined, torn down and broken (R281-R285, R299, R300). -/

namespace Sys2Proof.Machine

/-! ## COLLECTIVE_SETUP (R283, R284) -/

section
variable {s : State} {w : Work} {it : Item} (h : s.fresh w 0x05 = some it) (code : fieldAt it.payload 0 1 = 0)
include h code

theorem exec_collectiveSetup_of_illFormed {f : Nat} (bad : colFormat it.payload = some f) :
    exec (.collectiveSetup w) s = .next (s.finish w .eFormat f) := by
  change execCollectiveSetup w s = _
  simp [execCollectiveSetup, h, code, bad]

variable (ok : colFormat it.payload = none) (open_ : s.isSet F.SEC_EXCL_STAT_shutter 0 = false)
include ok open_

theorem exec_collectiveSetup_of_used (used : s.sessState (fieldAt it.payload 1 1) ≠ 0) :
    exec (.collectiveSetup w) s = .next (s.finish w .eFormat 33) := by
  change execCollectiveSetup w s = _
  simp [execCollectiveSetup, h, code, ok, open_, used]

theorem exec_collectiveSetup_of_sound (idle : s.sessState (fieldAt it.payload 1 1) = 0)
    (may : s.mayLocal it.ctx (fieldAt it.payload 8 8) 64 false = true) (free : s.memHeld (fieldAt it.payload 8 8) 64 = false)
    (clean : (s.memRead (fieldAt it.payload 8 8) 64).poisoned = false)
    (sound : s.sessionBad (fieldAt it.payload 1 1) (s.memRead (fieldAt it.payload 8 8) 64).bytes = false) :
    exec (.collectiveSetup w) s =
      .next (s.setupSession w (fieldAt it.payload 1 1) (s.memRead (fieldAt it.payload 8 8) 64).bytes) := by
  change execCollectiveSetup w s = _
  simp [execCollectiveSetup, h, code, ok, open_, idle, may, free, clean, sound]

end

/-- A sound descriptor names its neighbours. -/
theorem State.sessionEdges_of_sound {s : State} {k : Nat} {d : List Byte} (sound : s.sessionBad k d = false) :
    ∃ es, sessionEdges s.ownNode d = some es := by
  rw [← Option.isSome_iff_exists, ← Option.not_isNone]
  simp only [State.sessionBad, Bool.or_eq_false_iff] at sound
  simp [sound.1.2]

/-! ## Sessions that return to idle (R282, R284, R285) -/

/-- Session k is idle in t, with no neighbours, and its staging is back in the pool of s. -/
structure ReturnsIdle (s t : State) (k : Nat) : Prop where
  state : t.sessState k = 0
  edges : (t.sess k).edges = []
  free : t.get F.COL_POOL_free_units 0 = (s.get F.COL_POOL_free_units 0 + (s.sess k).footprint) % 2 ^ F.COL_POOL_free_units.width
  time : t.time = s.time

namespace ReturnsIdle
variable {s t u : State} {k : Nat}

theorem afterWork (work : WorkOnly s u) (h : ReturnsIdle u t k) : ReturnsIdle s t k where
  state := h.state
  edges := h.edges
  free := by rw [h.free, work.get, work.sess]
  time := h.time.trans work.time

theorem thenWork (h : ReturnsIdle s t k) (work : WorkOnly t u) : ReturnsIdle s u k where
  state := (work.sessState k).trans h.state
  edges := (congrArg ColSession.edges (work.sess k)).trans h.edges
  free := (work.get _ _).trans h.free
  time := work.time.trans h.time

end ReturnsIdle

section
variable (s : State) (k : Nat)

/-- The staging of session k given back and the runs that wait in its line ended. -/
def State.givenUp (s : State) (k : Nat) : State :=
  (s.sess k).waiting.foldl (fun s r => s.finish r.work .eFormat 33) (s.addPool (s.sess k).footprint)

theorem State.givenUp_workOnly : WorkOnly (s.addPool (s.sess k).footprint) (s.givenUp k) := WorkOnly.finishAll _ _ _ _

theorem State.idleSession_eq : s.idleSession k = ((s.givenUp k).setSess k { seed := (s.sess k).seed }).setSessState k 0 := rfl

theorem State.idleSession_returns : ReturnsIdle s (s.idleSession k) k where
  state := State.setSessState_same _ k (by decide)
  edges := by rw [State.idleSession_eq, State.setSessState_sess, State.setSess_sess_same]
  free := by
    rw [State.idleSession_eq, State.setSessState_get _ _ (by decide) (by decide), State.setSess_get, (s.givenUp_workOnly k).get,
      State.addPool_free]
    rfl
  time := (s.givenUp_workOnly k).time

variable {s k} in
theorem State.HasEnded.idleSession {w : Work} {r : Result} (h : s.HasEnded w r) : (s.idleSession k).HasEnded w r := by
  have pooled : (s.addPool (s.sess k).footprint).HasEnded w r := h.congr rfl rfl
  exact (pooled.finishAll (s.sess k).waiting .eFormat 33).congr rfl rfl

variable {s k} in
/-- A set-up that fails ends its work, and its session returns to idle. -/
theorem State.failSetup_gives {w : Work} {it : Item} (setup : (s.sess k).setup = some w) (h : s.item w = some it)
    (live : it.phase ≠ .ended) (st : Status) :
    ReturnsIdle s (s.failSetup k st) k ∧ (s.failSetup k st).resultOf w = some ⟨st, 0⟩ := by
  have fails : s.failSetup k st = (s.finish w st 0).idleSession k := by rw [State.failSetup, setup]
  have ended := (State.finish_endedAs h live st 0).hasEnded
  rw [fails]
  exact ⟨.afterWork (.finish s w st 0) (State.idleSession_returns _ k), ended.idleSession.resultOf⟩

end

/-! ## The timers of a set-up (R284) -/

theorem joinTimer_gives {s : State} {k : Fin 8} (joining : s.sessState k = 1) : Gives (.joinTimer k) s fun t =>
    (s.sess k).lastJoin + 100000 ≤ t.time ∧ (t.sess k).lastJoin = t.time ∧ t.sessState k = 1 ∧ t.mem = s.mem := by
  refine ⟨(s.due ((s.sess k).lastJoin + 100000)).sendJoins k, congrArg Host.Outcome.next (if_pos joining), ?_, ?_, ?_, ?_⟩
  · rw [State.sendJoins_time]
    exact Nat.le_max_right _ _
  · rw [State.sendJoins_sess, State.sendJoins_time]
  · exact (State.sendJoins_get _ _ _ _).trans joining
  · exact State.sendJoins_mem _ _

/-- JOIN_LIMIT_EXPIRE: the set-up ends at its limit. -/
theorem joinLimitExpire_gives {s : State} {k : Fin 8} {w : Work} {it : Item} (joining : s.sessState k = 1)
    (setup : (s.sess k).setup = some w) (h : s.item w = some it) (busy : it.phase = .busy) : Gives (.joinLimitExpire k) s fun t =>
      t.sessState k = 0 ∧ (s.sess k).since + (s.sess k).joinMs * 1000000 ≤ t.time ∧ t.resultOf w = some ⟨.eTimeout, 0⟩ ∧
      t.get F.COL_POOL_free_units 0 = (s.get F.COL_POOL_free_units 0 + (s.sess k).footprint) % 2 ^ F.COL_POOL_free_units.width ∧
      (t.sess k).edges = [] := by
  have found : (s.due ((s.sess k).since + (s.sess k).joinMs * 1000000)).item w = some it := (State.item_congr rfl rfl rfl rfl).trans h
  obtain ⟨idle, ended⟩ := State.failSetup_gives (s := s.due ((s.sess k).since + (s.sess k).joinMs * 1000000)) (k := k) setup found
    (by simp [busy]) .eTimeout
  refine ⟨_, congrArg Host.Outcome.next (if_pos joining), idle.state, ?_, ended, idle.free, idle.edges⟩
  rw [idle.time]
  exact Nat.le_max_right _ _

/-! ## TEARDOWN (R285) -/

section
variable {s : State} {w : Work} {it : Item} (h : s.fresh w 0x05 = some it) (code : fieldAt it.payload 0 1 = 5)
    (ok : colFormat it.payload = none)
include h code ok

theorem exec_teardown_of_quiet (state : s.sessState (fieldAt it.payload 1 1) = 2 ∨ s.sessState (fieldAt it.payload 1 1) = 4)
    (run : (s.sess (fieldAt it.payload 1 1)).run = none) (line : (s.sess (fieldAt it.payload 1 1)).waiting = []) :
    exec (.teardown w) s = .next ((s.idleSession (fieldAt it.payload 1 1)).finish w .ok 0) := by
  change execTeardown w s = _
  rcases state with ready | broken
  · simp [execTeardown, h, code, ok, run, line, ready]
  · simp [execTeardown, h, code, ok, run, line, broken]

theorem exec_teardown_of_running (ready : s.sessState (fieldAt it.payload 1 1) = 2) (run : (s.sess (fieldAt it.payload 1 1)).run ≠ none) :
    exec (.teardown w) s = .next (s.finish w .eFormat 33) := by
  change execTeardown w s = _
  simp [execTeardown, h, code, ok, ready, Option.isSome_iff_ne_none.2 run]

theorem teardown_gives (state : s.sessState (fieldAt it.payload 1 1) = 2 ∨ s.sessState (fieldAt it.payload 1 1) = 4)
    (run : (s.sess (fieldAt it.payload 1 1)).run = none) (line : (s.sess (fieldAt it.payload 1 1)).waiting = []) :
    Gives (.teardown w) s fun t =>
      t.sessState (fieldAt it.payload 1 1) = 0 ∧ t.resultOf w = some ⟨.ok, 0⟩ ∧
      t.get F.COL_POOL_free_units 0 =
        (s.get F.COL_POOL_free_units 0 + (s.sess (fieldAt it.payload 1 1)).footprint) % 2 ^ F.COL_POOL_free_units.width := by
  obtain ⟨found, phase⟩ := State.item_of_fresh h
  have given : s.givenUp (fieldAt it.payload 1 1) = s.addPool (s.sess (fieldAt it.payload 1 1)).footprint := by
    rw [State.givenUp, line, List.foldl_nil]
  have idle := (s.idleSession_returns (fieldAt it.payload 1 1)).thenWork (.finish _ w .ok 0)
  refine ⟨_, exec_teardown_of_quiet h code ok state run line, idle.state,
    State.finish_resultOf found (by simp [phase]) ?_ ?_ .ok 0, idle.free⟩ <;>
  · rw [State.idleSession_eq, given]
    rfl

end

/-! ## Collective packets that arrive (R304) -/

/-- A collective packet of a kind that passes its gate: no keeper answers, the port receives, header and length hold. -/
structure ColArrives (s : State) (port : Fin 64) (p : ColPacket) (kind : Nat) : Prop where
  kind : p.kind = kind
  kept : s.kept = false
  receives : s.portReceives port = true
  running : s.unitFrozen 0x40 = false
  rsv : p.rsv = false
  length : p.length = p.data.length
  dst : p.dst = s.ownNode
  tree : p.tree < 2
  session : p.session < 8

theorem ColArrives.colArrive {s : State} {port : Fin 64} {p : ColPacket} {kind : Nat} (h : ColArrives s port p kind) (f : State → State) :
    s.colArrive port p kind f = f s := by
  obtain ⟨own, kept, receives, running, rsv, length, dst, tree, session⟩ := h
  have sound : ¬(p.rsv = true ∨ p.length ≠ p.data.length ∨ p.dst ≠ s.ownNode ∨ 2 ≤ p.tree ∨ 8 ≤ p.session) := by
    simp [rsv, length, dst, tree, session]
  simp only [State.colArrive, own, kept, receives, running, sound, ne_eq, not_true, Bool.false_eq_true, Bool.not_true, if_false]

/-! ## JOIN (R284) -/

/-- An edge whose neighbour's JOIN has matched. -/
def ColEdge.joinedBy (e : ColEdge) (p : ColPacket) (now : Nat) : ColEdge := { e with joined := true, epoch := p.srcEpoch, heard := now }

section
variable {s : State} {port : Fin 64} {p : ColPacket} {e : ColEdge} {w : Work} {it : Item} (arrives : ColArrives s port p 0x93)
    (length : p.length = 8) (known : s.ownDigest ≠ 0) (digest : leNat p.data = s.ownDigest) (joining : s.sessState p.session = 1)
    (sole : (s.sess p.session).edges = [e]) (own : e.node = p.src)
include arrives length known digest joining sole own

theorem exec_join_of_match (matched : s.joinMatches p e = true) : exec (.join port p) s =
    .next ((s.setSess p.session { s.sess p.session with edges := [e.joinedBy p s.time] }).settleJoin p.session) := by
  change execJoin port p s = _
  rw [execJoin, arrives.colArrive]
  simp [joining, length, known, digest, ColSession.nodes, sole, own, matched, State.updEdge, ColEdge.joinedBy]

theorem exec_join_of_mismatch (other : s.joinMatches p e = false) : exec (.join port p) s = .next (s.failSetup p.session .eProtocol) := by
  change execJoin port p s = _
  rw [execJoin, arrives.colArrive]
  simp [joining, length, known, digest, ColSession.nodes, sole, own, other]

variable (setup : (s.sess p.session).setup = some w) (h : s.item w = some it) (busy : it.phase = .busy)
include setup h busy

/-- The last neighbour's JOIN makes the session ready and ends its set-up. -/
theorem join_readies (matched : s.joinMatches p e = true) : Gives (.join port p) s fun t =>
    t.sessState p.session = 2 ∧ t.resultOf w = some ⟨.ok, 0⟩ ∧ (t.sess p.session).setup = none ∧
    ∃ e', (t.sess p.session).edges = [e'] ∧ e'.joined = true ∧ e'.epoch = p.srcEpoch ∧ e'.node = e.node := by
  let u := s.setSess p.session { s.sess p.session with edges := [e.joinedBy p s.time] }
  have session : u.sess p.session = { s.sess p.session with edges := [e.joinedBy p s.time] } := State.setSess_sess_same _ _ _
  have settled : u.settleJoin p.session = _ :=
    State.settleJoin_of_joined joining (by simp [session, ColEdge.joinedBy]) (by rw [session]; exact setup)
  have result : (u.finish w .ok 0).resultOf w = some ⟨.ok, 0⟩ := State.finish_resultOf (u := u) h (by simp [busy]) rfl rfl .ok 0
  refine ⟨_, exec_join_of_match arrives length known digest joining sole own matched, ?_⟩
  change (u.settleJoin _).sessState _ = _ ∧ _
  rw [settled]
  refine ⟨State.setSessState_same _ _ (by decide), ?_, ?_, ?_⟩
  · exact result
  · rw [State.setSessState_sess, State.setSess_sess_same]
  · rw [State.setSessState_sess, State.setSess_sess_same, session]
    exact ⟨_, rfl, rfl, rfl, rfl⟩

theorem join_fails (other : s.joinMatches p e = false) : Gives (.join port p) s fun t =>
    t.sessState p.session = 0 ∧ t.resultOf w = some ⟨.eProtocol, 0⟩ := by
  obtain ⟨idle, ended⟩ := State.failSetup_gives setup h (by simp [busy]) .eProtocol
  exact ⟨_, exec_join_of_mismatch arrives length known digest joining sole own other, idle.state, ended⟩

end

/-! ## Sessions that break (R299, R300) -/

/-- Session k is broken in t, shows the first cause and node, and holds no run that waits; memory is as in s. -/
structure Breaks (s t : State) (k cause node : Nat) : Prop where
  state : t.sessState k = 4
  cause : t.get F.COL_SESSION_STAT_cause k = cause % 2 ^ F.COL_SESSION_STAT_cause.width
  node : t.get F.COL_SESSION_STAT_lost_node k = node % 2 ^ F.COL_SESSION_STAT_lost_node.width
  event : t.get F.COL_SESSION_STAT_abort_evt k = 1
  line : (t.sess k).waiting = []
  mem : t.mem = s.mem
  time : t.time = s.time

section
variable {s : State} {k : Nat} (idle : (s.sess k).run = none) (first : s.get F.COL_SESSION_STAT_cause k = 0)
include idle first

/-- Without a run, a break ends the work that waits and records its cause. -/
theorem State.breakSession_eq (cause node : Nat) (st : Status) : ∃ u, WorkOnly s u ∧ s.breakSession k cause node st =
    ((((u.setSess k { s.sess k with waiting := [], setup := none }).put F.COL_SESSION_STAT_cause cause k).put
      F.COL_SESSION_STAT_lost_node node k).put F.COL_SESSION_STAT_abort_evt 1 k).setSessState k 4 := by
  have kept : s.endRun k st = s := by simp only [State.endRun, idle]
  have line := WorkOnly.finishAll (s.sess k).waiting .ePeerLost 0 s
  simp only [State.breakSession, kept]
  cases setup : (s.sess k).setup with
  | none => exact ⟨_, line, by simp only [line.sess, State.setSess_get, line.get, first, if_true]⟩
  | some w =>
    have work := line.trans (.finish _ w .ePeerLost 0)
    exact ⟨_, work, by simp only [work.sess, State.setSess_get, work.get, first, if_true]⟩

theorem State.breakSession_breaks (cause node : Nat) (st : Status) : Breaks s (s.breakSession k cause node st) k cause node := by
  obtain ⟨u, work, broken⟩ := State.breakSession_eq idle first cause node st
  rw [broken]
  refine ⟨State.setSessState_same _ k (by decide), ?_, ?_, ?_, ?_, ?_, ?_⟩
  · simp (disch := decide) only [State.setSessState_get, State.put_get_apart, State.put_get_same]
  · simp (disch := decide) only [State.setSessState_get, State.put_get_apart, State.put_get_same]
  · simp (disch := decide) only [State.setSessState_get, State.put_get_same]
    rfl
  · simp only [State.setSessState_sess, State.put_sess, State.setSess_sess_same]
  · simp only [State.setSessState, State.put_mem, State.setSess_mem, work.mem]
  · simp only [State.setSessState, State.put_time, State.setSess_time, work.time]

/-- The same after the ABORTs that tell the neighbours. -/
theorem State.abortAndBreak_breaks (cause node : Nat) (except : Option Nat) (st : Status) :
    Breaks s ((s.sendAborts k cause except).breakSession k cause node st) k cause node := by
  have sent := SendsOnly.sendAborts s k cause except
  have broken := State.breakSession_breaks (s := s.sendAborts k cause except) (k := k) (by rw [sent.sess, idle])
    (by rw [sent.get, first]) cause node st
  exact { broken with mem := broken.mem.trans sent.mem, time := broken.time.trans sent.time }

end

theorem exec_abortChunk_of_own {s : State} {port : Fin 64} {p : ColPacket} (arrives : ColArrives s port p 0x92)
    (ready : s.sessState p.session = 2) (generation : p.generation = s.get F.COL_SESSION_STAT_generation p.session)
    (key : p.key = (s.sess p.session).key) : exec (.abortChunk port p) s =
      .next ((s.sendAborts p.session p.fmtCause (some p.src)).breakSession p.session p.fmtCause p.src .ePeerLost) := by
  change execAbortChunk port p s = _
  rw [execAbortChunk, arrives.colArrive]
  simp [ready, generation, key]

theorem exec_sessionTimeout_of_neighbour {s : State} {k : Fin 8} {n : Fin 1048576} {e : ColEdge}
    (neighbour : ((s.sess k).edges.find? fun e => e.node == n.val) = some e) (ready : s.sessState k = 2) :
    exec (.sessionTimeout k n) s = .next (((s.due (e.heard + (s.sess k).timeout * 100000)).sendAborts k 1 (some n.val)).breakSession k 1 n
      .ePeerLost) := by
  change execSessionTimeout k n s = _
  simp [execSessionTimeout, neighbour, ready]

theorem sessionTimeout_gives {s : State} {k : Fin 8} {n : Fin 1048576} {e : ColEdge}
    (neighbour : ((s.sess k).edges.find? fun e => e.node == n.val) = some e) (ready : s.sessState k = 2) (idle : (s.sess k).run = none)
    (first : s.get F.COL_SESSION_STAT_cause k = 0) : Gives (.sessionTimeout k n) s fun t =>
      t.sessState k = 4 ∧ t.get F.COL_SESSION_STAT_cause k = 1 ∧ t.get F.COL_SESSION_STAT_lost_node k = n ∧
      e.heard + (s.sess k).timeout * 100000 ≤ t.time ∧ t.mem = s.mem := by
  have broken := State.abortAndBreak_breaks (s := s.due (e.heard + (s.sess k).timeout * 100000)) (k := k) idle first 1 n (some n.val)
    .ePeerLost
  refine ⟨_, exec_sessionTimeout_of_neighbour neighbour ready, broken.state, broken.cause, ?_, ?_, broken.mem⟩
  · exact broken.node.trans (Nat.mod_eq_of_lt n.isLt)
  · rw [broken.time]
    exact Nat.le_max_right _ _

/-! ## The statement -/

/-- Settles O44: a session joins, becomes ready, returns to idle or breaks, each by the one event that says so. -/
theorem collectiveSessions : Obligations.CollectiveSessions := by
  unfold Obligations.CollectiveSessions
  refine ⟨fun s w it h code => ⟨fun f bad => State.finish_gives h (exec_collectiveSetup_of_illFormed h code bad),
      fun ok open_ used => State.finish_gives h (exec_collectiveSetup_of_used h code ok open_ used),
      fun ok open_ idle may free clean sound room neighbours => ?_⟩,
    fun s port p e w it kind kept receives running rsv length data dst tree session known digest joining sole own setup h busy => ?_,
    fun s k joining => ⟨joinTimer_gives joining, fun w it => joinLimitExpire_gives joining⟩,
    fun s w it h code ok => ⟨teardown_gives h code ok, fun ready run =>
      State.finish_gives h (exec_teardown_of_running h code ok ready run)⟩,
    fun s port p kind kept receives running rsv length dst tree session ready generation key first idle => ?_,
    fun s k n e => sessionTimeout_gives⟩
  · obtain ⟨es, edges⟩ := State.sessionEdges_of_sound sound
    exact ⟨_, exec_collectiveSetup_of_sound h code ok open_ idle may free clean sound,
      State.setupSession_gives (State.item_of_fresh h).1 _ edges (fun none => neighbours (none ▸ edges)) room⟩
  · have arrives : ColArrives s port p 0x93 := ⟨kind, kept, receives, running, rsv, length.trans data.symm, dst, tree, session⟩
    exact ⟨join_readies arrives length known digest joining sole own setup h busy,
      join_fails arrives length known digest joining sole own setup h busy⟩
  · have arrives : ColArrives s port p 0x92 := ⟨kind, kept, receives, running, rsv, length, dst, tree, session⟩
    have broken := State.abortAndBreak_breaks idle first p.fmtCause p.src (some p.src) .ePeerLost
    exact ⟨_, exec_abortChunk_of_own arrives ready generation key, broken.state, broken.cause, broken.node, broken.event,
      broken.line, broken.mem⟩

end Sys2Proof.Machine

/-! SUPPORT. The array clocks when none runs (R43, R307, R329): what stopping them writes, and what it leaves. -/

namespace Sys2Proof.Machine

/-- Instances of a field that are each given one value read it. -/
theorem State.putEach_get (f : Fld) (v : Nat) {c : Nat} (l : List Nat) {s : State} (h : c ∈ l ∨ s.get f c = v % 2 ^ f.width) :
    (l.foldl (fun s i => s.put f v i) s).get f c = v % 2 ^ f.width := by
  induction l generalizing s with
  | nil => exact h.resolve_left List.not_mem_nil
  | cons i l ih =>
    refine ih ?_
    by_cases hc : c = i
    · exact .inr (hc ▸ State.put_get_same s f v i)
    · rw [State.put_get_other _ (mt Fld.key_inj.1 hc)]
      exact h.imp_left fun m => (List.mem_cons.1 m).resolve_left hc

section
variable (s : State)

/-- Stopping the clocks changes their registers and the power controller's notes of their steps alone. -/
theorem State.clocksOff_eq : ∃ r, s.clocksOff = { s with regs := r, pwr := { s.pwr with stepAt := [], slow := [], parked := [] } } :=
  foldl_regs_eq (f := fun s c => s.put F.HUB_ARRAY_CLK_current_mhz 0 c) (fun _ _ => ⟨_, rfl⟩) (List.range 4)
    { s with pwr := { s.pwr with stepAt := [], slow := [], parked := [] } }

theorem State.clocksOff_stopped {c : Nat} (hc : c < 4) : s.clocksOff.get F.HUB_ARRAY_CLK_current_mhz c = 0 :=
  State.putEach_get _ 0 (List.range 4) (.inl (List.mem_range.2 hc))

end

end Sys2Proof.Machine

/-! SUPPORT. How a stop begins (R308, R321, R327, R334): the causes that act, what is recorded and announced, and the resets it finds. -/

namespace Sys2Proof.Machine

/-- A device in service where a stop cause begins a stop: no reset, stop or hold-up is under way, none waits, and no dump runs. -/
structure MayStop (s : State) : Prop where
  ready : s.boot.phase = .ready
  feed : s.get F.PWR_STAT_feed 0 ≠ 2
  keepers : s.rst.keepers = false
  settled : s.quiescing = false
  unstopped : s.stopState = 0
  run : s.rst.run = none
  queue : s.rst.queue = []
  absorbed : s.rst.absorbed = []
  dump : s.dump.running = false

/-- What leaves bring-up, resets, dump and registers as they are leaves it so that a stop may begin. -/
theorem MayStop.congr {s t : State} (h : MayStop s) (boot : t.boot = s.boot) (rst : t.rst = s.rst) (dump : t.dump = s.dump)
    (regs : t.regs = s.regs) : MayStop t := by
  have reads : t.get = s.get := by
    unfold State.get
    rw [regs]
  have quiescing : t.quiescing = s.quiescing := by
    unfold State.quiescing
    rw [rst, reads]
  exact ⟨boot ▸ h.ready, reads ▸ h.feed, rst ▸ h.keepers, quiescing.trans h.settled,
    (congrFun (congrFun reads _) 0).trans h.unstopped, rst ▸ h.run, rst ▸ h.queue, rst ▸ h.absorbed, dump ▸ h.dump⟩

section
variable (s : State) (cause unit : Nat)

/-- After the event and the record of a stop, what follows is reported and sent only. -/
theorem State.tellStop_after : ∃ m o, s.tellStop cause unit =
    { (s.put F.THM_STOP_STAT_stop_evt 1 0).logEvent 0x0008 unit [cause] with mgmt := m, out := o } := by
  obtain ⟨m, o, told⟩ := ((s.put F.THM_STOP_STAT_stop_evt 1 0).logEvent 0x0008 unit [cause]).pldm_eq .stop
  obtain ⟨o', raised⟩ := (((s.put F.THM_STOP_STAT_stop_evt 1 0).logEvent 0x0008 unit [cause]).pldm .stop).emit_eq (.msix 0 0)
  exact ⟨m, o', by rw [State.tellStop, State.vec0, raised, told]⟩

/-- The STOP event, record and notices change what is logged, reported and sent, and registers. -/
theorem State.tellStop_eq : ∃ r l m o, s.tellStop cause unit = { s with regs := r, log := l, mgmt := m, out := o } := by
  obtain ⟨m, o, told⟩ := s.tellStop_after cause unit
  obtain ⟨l, r, logged⟩ := (s.put F.THM_STOP_STAT_stop_evt 1 0).logEvent_eq 0x0008 unit [cause]
  rw [logged] at told
  exact ⟨r, l, m, o, told⟩

theorem State.tellStop_get {f : Fld} (low : f.code < 1024) (off : f.offLog = true) (apart : f.code ≠ F.THM_STOP_STAT_stop_evt.code)
    (i : Nat) : (s.tellStop cause unit).get f i = s.get f i := by
  obtain ⟨m, o, told⟩ := s.tellStop_after cause unit
  rw [told]
  exact (State.logEvent_get _ _ _ _ off i).trans (s.put_get_apart (by decide) low apart 1 0 i)

/-- The registers in which a stop that begins shows its state, cause and unit (Table 11.13). -/
theorem State.noteStop_shows (code : Nat) :
    ((s.noteStop cause unit).putStop code).stopState = code % 2 ^ F.THM_STOP_STAT_state.width ∧
    ((s.noteStop cause unit).putStop code).get F.THM_STOP_STAT_cause 0 = cause % 2 ^ F.THM_STOP_STAT_cause.width ∧
    ((s.noteStop cause unit).putStop code).get F.THM_STOP_STAT_unit 0 = unit % 2 ^ F.THM_STOP_STAT_unit.width := by
  refine ⟨State.put_get_same _ _ _ _, ?_, ?_⟩ <;>
  simp (disch := decide) only [State.putStop, State.noteStop, State.put_get_apart, State.put_get_same]

theorem State.noteStop_regsOnly (code : Nat) : RegsOnly s ((s.noteStop cause unit).putStop code) := by
  unfold State.putStop State.noteStop
  exact ((((((((RegsOnly.refl s).put _ _ _).put _ _ _).put _ _ _).put _ _ _).put _ _ _).put _ _ _).put _ _ _).put _ _ _

end

/-- A stop stands begun in t: its state, cause and unit are shown, and its steps count from now; memory is as in s. -/
structure StopBegins (s t : State) (cause unit code : Nat) : Prop where
  state : t.stopState = code % 2 ^ F.THM_STOP_STAT_state.width
  cause : t.get F.THM_STOP_STAT_cause 0 = cause % 2 ^ F.THM_STOP_STAT_cause.width
  unit : t.get F.THM_STOP_STAT_unit 0 = unit % 2 ^ F.THM_STOP_STAT_unit.width
  thm : t.thm = { s.thm with step := 1, since := s.time, checked := [] }
  mem : t.mem = s.mem
  time : t.time = s.time

/-- The state right after a stop is noted and announced. -/
def State.stopAnnounced (s : State) (cause unit code : Nat) : State :=
  let s := ((s.noteStop cause unit).putStop code).tellStop cause unit
  s.setThm { s.thm with step := 1, since := s.time, checked := [] }

/-- Beginning a stop leaves all but registers, what is logged, reported and sent, and the stop's step. -/
theorem State.stopAnnounced_eq (s : State) (cause unit code : Nat) : ∃ r l m o, s.stopAnnounced cause unit code =
    { s with regs := r, log := l, mgmt := m, out := o, thm := { s.thm with step := 1, since := s.time, checked := [] } } := by
  have noted := s.noteStop_regsOnly cause unit code
  unfold State.stopAnnounced
  generalize (s.noteStop cause unit).putStop code = u at noted ⊢
  obtain ⟨r, l, m, o, told⟩ := u.tellStop_eq cause unit
  refine ⟨r, l, m, o, ?_⟩
  rw [told, noted]
  rfl

theorem State.stopAnnounced_begins (s : State) (cause unit code : Nat) :
    StopBegins s (s.stopAnnounced cause unit code) cause unit code := by
  obtain ⟨state, cause', unit'⟩ := s.noteStop_shows cause unit code
  obtain ⟨r, l, m, o, begun⟩ := s.stopAnnounced_eq cause unit code
  have reads : ∀ f ∈ [F.THM_STOP_STAT_state, F.THM_STOP_STAT_cause, F.THM_STOP_STAT_unit],
      (s.stopAnnounced cause unit code).get f 0 = ((s.noteStop cause unit).putStop code).get f 0 := by
    simp (disch := decide) only [List.forall_mem_cons, State.stopAnnounced, State.setThm_get, State.tellStop_get, List.not_mem_nil,
      false_implies, implies_true, and_self]
  refine ⟨(reads _ (by decide)).trans state, (reads _ (by decide)).trans cause', (reads _ (by decide)).trans unit', ?_, ?_, ?_⟩ <;>
  rw [begun]

/-- Where no dump runs none is cut. -/
theorem State.cutDump_of_idle {s : State} (h : s.dump.running = false) (st : Status) : s.cutDump st = s := by
  simp [State.cutDump, h]

/-- Where no reset is under way none begins. -/
theorem State.tryChip_of_none {s : State} (h : s.rst.run = none) : s.tryChip = s := by
  simp only [State.tryChip, h]

/-- With no reset under way or waiting a stop absorbs none. -/
theorem State.absorbResets_of_none {s : State} (run : s.rst.run = none) (queue : s.rst.queue = []) (absorbed : s.rst.absorbed = []) :
    s.absorbResets = { s with rst := { s.rst with chain := [] } }.resetState 0 := by
  simp [State.absorbResets, run, queue, absorbed]

theorem MayStop.startStop_begins {s : State} (h : MayStop s) (cause unit : Nat) (emergency : Bool) :
    StopBegins s (s.startStop cause unit emergency) cause unit (if emergency then 2 else 1) := by
  have free : s.chipWaits = false := by simp only [State.chipWaits, h.run]
  let u : State := { s with rst := { s.rst with chain := [] } }.resetState 0
  have begun := u.stopAnnounced_begins cause unit (if emergency then 2 else 1)
  have starts : s.startStop cause unit emergency = u.stopAnnounced cause unit (if emergency then 2 else 1) := by
    unfold State.startStop
    rw [free, State.absorbResets_of_none h.run h.queue h.absorbed]
    cases emergency with
    | false => rfl
    | true =>
      obtain ⟨r, l, m, o, frame⟩ := u.stopAnnounced_eq cause unit 2
      have uncut : (u.stopAnnounced cause unit 2).cutDump (stopStatusOf cause) = u.stopAnnounced cause unit 2 :=
        State.cutDump_of_idle (by rw [frame]; exact h.dump) _
      exact (congrArg State.tryChip uncut).trans (State.tryChip_of_none (by rw [frame]; exact h.run))
  rw [starts]
  exact ⟨begun.state, begun.cause, begun.unit, begun.thm, begun.mem, begun.time⟩

theorem MayStop.stopCause {s : State} (h : MayStop s) (cause unit : Nat) (emergency : Bool) :
    s.stopCause cause unit emergency = s.startStop cause unit emergency := by
  simp [State.stopCause, h.ready, h.feed, h.keepers, h.unstopped, h.settled]

end Sys2Proof.Machine

/-! O49: stops begin, run and end (R308, R321, R327-R331, R333, R334, Table 11.5). -/

namespace Sys2Proof.Machine

/-! ## Causes (R308, R321, R334) -/

theorem exec_railFault {s : State} {rail : Fin 7} (h : MayStop s) (main : rail ≠ 0) (on : rail.val ∈ s.boot.rails)
    (sound : s.thm.rail = none) :
    exec (.railFault rail) s = .next ((s.setThm { s.thm with rail := some rail.val }).stopCause 6 rail true) := by
  change execRailFault rail s = _
  have main' : rail.val ≠ 0 := fun e => main (Fin.ext e)
  simp [execRailFault, main', h.ready, on, sound, h.keepers, h.unstopped]

/-- RAIL_FAULT: an emergency stop that names the rail. -/
theorem railFault_stops {s : State} {rail : Fin 7} (h : MayStop s) (main : rail ≠ 0) (on : rail.val ∈ s.boot.rails)
    (sound : s.thm.rail = none) : Gives (.railFault rail) s fun t =>
      t.stopState = 2 ∧ t.get F.THM_STOP_STAT_cause 0 = 6 ∧ t.get F.THM_STOP_STAT_unit 0 = rail ∧ t.thm.rail = some rail.val ∧
      t.thm.step = 1 ∧ t.mem.dram = s.mem.dram := by
  have may : MayStop (s.setThm { s.thm with rail := some rail.val }) := h.congr rfl rfl rfl rfl
  have begun := may.startStop_begins 6 rail true
  refine ⟨_, (exec_railFault h main on sound).trans (congrArg _ (may.stopCause 6 rail true)), begun.state, begun.cause, ?_, ?_, ?_, ?_⟩
  · exact begun.unit.trans (Nat.mod_eq_of_lt (rail.isLt.trans (by decide)))
  · rw [begun.thm]
    rfl
  · rw [begun.thm]
  · rw [begun.mem]
    rfl

/-- The coolant fault noted and reported. -/
def State.coolantTold (s : State) : State := (s.setThm { s.thm with coolant := true }).pldm .coolant

theorem exec_coolantFaultAssert_ready {s : State} (h : s.boot.phase = .ready) :
    exec .coolantFaultAssert s = .next (s.coolantTold.stopCause 7 noUnit true) := by
  change execCoolantFaultAssert s = _
  simp [execCoolantFaultAssert, h, State.coolantTold]

/-- COOLANT_FAULT_ASSERT in service: an emergency stop without a unit. -/
theorem coolantFaultAssert_stops {s : State} (h : MayStop s) : Gives .coolantFaultAssert s fun t =>
    t.stopState = 2 ∧ t.get F.THM_STOP_STAT_cause 0 = 7 ∧ t.get F.THM_STOP_STAT_unit 0 = 0x1F ∧ t.thm.coolant = true ∧
    t.mem.dram = s.mem.dram := by
  obtain ⟨m, o, told⟩ := (s.setThm { s.thm with coolant := true }).pldm_eq .coolant
  change s.coolantTold = _ at told
  have may : MayStop s.coolantTold := by
    rw [told]
    exact h.congr rfl rfl rfl rfl
  have begun := may.startStop_begins 7 noUnit true
  refine ⟨_, (exec_coolantFaultAssert_ready h.ready).trans (congrArg _ (may.stopCause 7 noUnit true)), begun.state, begun.cause,
    begun.unit, ?_, ?_⟩
  · rw [begun.thm, told]
    rfl
  · rw [begun.mem, told]
    rfl

theorem exec_powerExcess {s : State} {b : Nat} (since : s.pwr.excSince = some b) (ready : s.boot.phase = .ready) :
    exec .powerExcess s = .next ((s.due (b + 1000000)).stopCause 5 noUnit false) := by
  change execPowerExcess s = _
  simp [execPowerExcess, since, ready]

/-- POWER_EXCESS: an orderly stop, a millisecond after the measurement went above the estimate. -/
theorem powerExcess_stops {s : State} {b : Nat} (h : MayStop s) (since : s.pwr.excSince = some b) : Gives .powerExcess s fun t =>
    t.stopState = 1 ∧ t.get F.THM_STOP_STAT_cause 0 = 5 ∧ b + 1000000 ≤ t.time ∧ t.thm.since = t.time ∧ t.mem.dram = s.mem.dram := by
  have may : MayStop (s.due (b + 1000000)) := h.congr rfl rfl rfl rfl
  have begun := may.startStop_begins 5 noUnit false
  refine ⟨_, (exec_powerExcess since h.ready).trans (congrArg _ (may.stopCause 5 noUnit false)), begun.state, begun.cause, ?_, ?_, ?_⟩
  · rw [begun.time]
    exact Nat.le_max_right _ _
  · rw [begun.thm, begun.time]
  · rw [begun.mem]
    rfl

/-! ## The coolant fault outside a stop (R38, R334) -/

theorem exec_coolantFaultAssert_off {s : State} (h : s.boot.phase = .off) :
    exec .coolantFaultAssert s = .next { s with thm := { s.thm with coolant := true } } := by
  change execCoolantFaultAssert s = _
  simp [execCoolantFaultAssert, h, State.setThm]

theorem exec_coolantFaultDeassertHeld_ready {s : State} (h : s.boot.phase = .ready) :
    exec .coolantFaultDeassertHeld s = .next { s with thm := { s.thm with coolant := false } } := by
  change execCoolantFaultDeassertHeld s = _
  simp [execCoolantFaultDeassertHeld, h, State.setThm]

theorem exec_coolantFaultDeassertHeld_waiting {s : State} (h : s.boot.phase = .bringup) (waits : s.boot.coolantWait = true) :
    exec .coolantFaultDeassertHeld s =
      .next { s with thm := { s.thm with coolant := false }, boot := { s.boot with coolantWait := false, shift := s.time } } := by
  change execCoolantFaultDeassertHeld s = _
  simp [execCoolantFaultDeassertHeld, h, waits, State.setThm]

/-! ## The steps of an orderly stop (R329, Table 11.5) -/

/-- The end of a stop in t: stopped, no array clock runs, and every stack refreshes itself with what it held in s. -/
structure StopEnds (s t : State) : Prop where
  state : t.stopState = 3
  step : t.thm.step = 0
  refresh : t.mem.refresh = [0, 1, 2, 3]
  dram : t.mem.dram = s.mem.dram
  clocks : ∀ c < 4, t.get F.HUB_ARRAY_CLK_current_mhz c = 0
  time : t.time = s.time

/-- The stacks in self-refresh and the array clocks stopped. -/
def State.asleep (s : State) : State := { s with mem := { s.mem with refresh := [0, 1, 2, 3] } }.clocksOff

/-- What falling asleep leaves: all but the clocks, the power controller's notes of them and the stacks' refresh. -/
theorem State.asleep_eq (s : State) : ∃ r, s.asleep =
    { s with regs := r, mem := { s.mem with refresh := [0, 1, 2, 3] }, pwr := { s.pwr with stepAt := [], slow := [], parked := [] } } :=
  State.clocksOff_eq _

theorem State.stopped_eq {s : State} (sound : s.thm.rail = none) (free : s.chipWaits = false) :
    s.stopped = (s.asleep.putStop 3).setThm { s.thm with step := 0 } := by
  have kept : (s.asleep.putStop 3).thm = s.thm := by
    obtain ⟨r, frame⟩ := s.asleep_eq
    rw [frame]
    rfl
  unfold State.stopped
  simp only [free, Bool.false_eq_true, if_false]
  split
  next r fault =>
    have fault' : (s.asleep.putStop 3).thm.rail = some r := fault
    rw [kept, sound] at fault'
    cases fault'
  next => exact congrArg (fun v : Therm => (s.asleep.putStop 3).setThm { v with step := 0 }) kept

/-- Step 6 where no rail is at fault and no chip reset waits for the stop's end. -/
theorem State.stopped_ends {s : State} (sound : s.thm.rail = none) (free : s.chipWaits = false) : StopEnds s s.stopped := by
  obtain ⟨r, frame⟩ := s.asleep_eq
  have shown : (s.asleep.putStop 3).stopState = 3 := State.put_get_same _ _ _ _
  have clocks : ∀ c < 4, (s.asleep.putStop 3).get F.HUB_ARRAY_CLK_current_mhz c = 0 := fun c hc =>
    (State.put_get_apart _ (by decide) (by decide) (by decide) _ _ _).trans (State.clocksOff_stopped _ hc)
  rw [State.stopped_eq sound free]
  refine ⟨shown, rfl, ?_, ?_, clocks, ?_⟩ <;>
  · rw [State.setThm, State.putStop, frame]
    rfl

theorem State.endStep_six {s : State} (orderly : s.stopState = 1) (last : s.thm.step = 6) (done : Bool) : s.endStep done = s.stopped := by
  simp [State.endStep, State.orderlyStep, orderly, last]

theorem exec_stopStepDone_six {s : State} (orderly : s.stopState = 1) (last : s.thm.step = 6) :
    exec .stopStepDone s = .next s.stopped := by
  change execStopStepDone s = _
  simp [execStopStepDone, State.stepReady, orderly, last, State.endStep_six orderly last]

/-- The limit of the last step lies 400 µs after the stop's start. -/
theorem exec_stopStepLimit_six {s : State} (orderly : s.stopState = 1) (last : s.thm.step = 6) :
    exec .stopStepLimit s = .next (s.due (s.thm.since + 400000)).stopped := by
  change execStopStepLimit s = _
  have ends := State.endStep_six (s := s.due (s.thm.since + 400000)) orderly last s.stepReady
  simp [execStopStepLimit, stopLimit, orderly, last, ends]

theorem exec_stopStepDone_busy {s : State} (orderly : s.stopState = 1) (second : s.thm.step = 2) (busy : s.unitsIdle = false) :
    exec .stopStepDone s = .next s := by
  change execStopStepDone s = _
  simp [execStopStepDone, State.stepReady, orderly, second, busy]

theorem exec_stopStepLimit_unstopped {s : State} (orderly : s.stopState ≠ 1) (emergency : s.stopState ≠ 2) :
    exec .stopStepLimit s = .next s := by
  change execStopStepLimit s = _
  rw [execStopStepLimit, if_pos ⟨orderly, emergency⟩]

/-! ## The release of a held chip reset (R331), and the analogue trip (R333) -/

theorem exec_stopResetRelease_hot {s : State} (hot : s.coolEnough = false) : exec .stopResetRelease s = .next s := by
  change execStopResetRelease s = _
  simp [execStopResetRelease, hot]

theorem exec_stopResetRelease_held {s : State} (cool : s.coolEnough = true) (held : s.rst.causeHeld = true) (keepers : s.rst.keepers = true)
    (waits : s.get F.HUB_RESET_STAT_state 0 = 7) :
    exec .stopResetRelease s = .next ({ s with rst := { s.rst with causeHeld := false } }.resetState 5) := by
  change execStopResetRelease s = _
  unfold execStopResetRelease
  rw [cool, if_neg (by decide), if_pos held]
  exact congrArg Host.Outcome.next (if_pos ⟨waits, keepers⟩)

theorem exec_analogueThermTrip {s : State} (c : Fin 4) (on : s.boot.phase ≠ .off) (unlatched : s.boot.phase ≠ .offLatched) :
    exec (.analogueThermTrip c) s = .next { s with thm := { s.thm with thermTrip := true } } := by
  change execAnalogueThermTrip c s = _
  rw [execAnalogueThermTrip, if_neg (not_or.2 ⟨on, unlatched⟩)]
  rfl

/-! ## The statement -/

/-- Settles O49: each cause begins its stop on the device as it has noted it, and the last step ends one with the clocks off. -/
theorem stops : Obligations.Stops := by
  unfold Obligations.Stops
  refine ⟨fun s ready feed keepers settled unstopped run queue absorbed dump => ?_, fun s => exec_coolantFaultAssert_off,
    fun s => ⟨exec_coolantFaultDeassertHeld_ready, exec_coolantFaultDeassertHeld_waiting⟩,
    fun s orderly last sound free => ?_, fun s => exec_stopStepDone_busy, fun s => exec_stopStepLimit_unstopped,
    fun s => ⟨exec_stopResetRelease_hot, fun cool held keepers waits =>
      ⟨_, exec_stopResetRelease_held cool held keepers waits, State.put_get_same _ _ _ _, rfl, rfl⟩⟩,
    fun s c => exec_analogueThermTrip c⟩
  · have may : MayStop s := ⟨ready, feed, keepers, settled, unstopped, run, queue, absorbed, dump⟩
    exact ⟨fun rail => railFault_stops may, coolantFaultAssert_stops may, fun b => powerExcess_stops may⟩
  · have ended := State.stopped_ends sound free
    have limit := State.stopped_ends (s := s.due (s.thm.since + 400000)) sound free
    refine ⟨⟨_, exec_stopStepDone_six orderly last, ended.state, ended.step, ended.refresh, ended.dram, ended.clocks⟩,
      ⟨_, exec_stopStepLimit_six orderly last, ⟨limit.state, limit.step, limit.refresh, limit.dram, limit.clocks⟩, ?_⟩⟩
    rw [limit.time]
    exact Nat.le_max_right _ _

end Sys2Proof.Machine

/-! SUPPORT. What hold-up drops (R307): the log moved to flash and the hub's work cleared, beside the array clocks. -/

namespace Sys2Proof.Machine

section
variable (s : State) {f : Fld} (low : f.code < 1024)

include low in
theorem State.logToFlash_get (held : f.code ≠ F.TEL_LOG_STAT_held.code) (data : f.code ≠ F.TEL_LOG_DATA_data.code) (i : Nat) :
    s.logToFlash.get f i = s.get f i := by
  unfold State.logToFlash State.showLog
  refine (foldl_keeps (State.get · f i) (fun u k => u.put_get_apart (by decide) low data _ k i) (List.range 8) _).trans ?_
  exact State.put_get_apart _ (by decide) low held 0 0 i

include low in
theorem State.engReset_get (waiting : f.code ≠ F.HUB_PROGRESS_waiting.code) (apart : ∀ g ∈ progressFields, f.code ≠ g.code) (e i : Nat) :
    (s.engReset e).get f i = s.get f i := by
  simp only [progressFields, List.forall_mem_cons] at apart
  obtain ⟨-, busy, context, suspect, valid, -⟩ := apart
  simp only [State.engReset, State.engWaiting, State.setEng, State.putB]
  rw [State.put_get_apart _ (by decide) low waiting, State.showSuspects_keeps _ (State.get · f i)
    (fun u v j => u.put_get_apart (by decide) low suspect v j i) (fun u v j => u.put_get_apart (by decide) low valid v j i),
    State.put_get_apart _ (by decide) low context, State.put_get_apart _ (by decide) low busy]
  rfl

include low in
theorem State.clearWork_get (waiting : f.code ≠ F.HUB_PROGRESS_waiting.code) (apart : ∀ g ∈ progressFields, f.code ≠ g.code) (i : Nat) :
    s.clearWork.get f i = s.get f i := by
  have engines := foldl_keeps (State.get · f i) (fun u e => u.engReset_get low waiting apart e i) (List.range 30) s
  unfold State.clearWork
  generalize (List.range 30).foldl (fun s e => s.engReset e) s = u at engines ⊢
  exact engines

theorem State.clearWork_graphs : s.clearWork.graphs = [] := by
  unfold State.clearWork
  generalize (List.range 30).foldl (fun s e => s.engReset e) s = u
  rfl

theorem State.engReset_log (e : Nat) : (s.engReset e).log = s.log := by
  obtain ⟨r, m, set⟩ := s.setEng_eq e { active := [], suspects := (s.eng e).suspects, frozen := true }
  rw [State.engReset, set]
  rfl

theorem State.clearWork_log : s.clearWork.log = s.log := by
  have engines := foldl_keeps State.log (fun u e => u.engReset_log e) (List.range 30) s
  unfold State.clearWork
  generalize (List.range 30).foldl (fun s e => s.engReset e) s = u at engines ⊢
  exact engines

end

/-- Nothing is under way in t: no work, no reset, no log entry unwritten, no array clock; the stacks hold what they held in s. -/
structure WorkDropped (s t : State) : Prop where
  queues : t.queues = []
  launches : t.launches = []
  graphs : t.graphs = []
  run : t.rst.run = none
  staged : t.log.staged = []
  clocks : ∀ c < 4, t.get F.HUB_ARRAY_CLK_current_mhz c = 0
  dram : t.mem.dram = s.mem.dram

/-- The clocks stopped, and the loss of power logged and written to flash with the rest of the log. -/
def State.powerLossLogged (s : State) : State := (s.clocksOff.logEvent 0x0003 0 []).logToFlash

theorem State.powerLossLogged_staged (s : State) : s.powerLossLogged.log.staged = [] := by
  obtain ⟨r, l, flushed, staged⟩ := (s.clocksOff.logEvent 0x0003 0 []).logToFlash_eq
  rw [State.powerLossLogged, flushed]
  exact staged

theorem State.powerLossLogged_dram (s : State) : s.powerLossLogged.mem.dram = s.mem.dram := by
  obtain ⟨r, stopped⟩ := s.clocksOff_eq
  obtain ⟨l, r', logged⟩ := s.clocksOff.logEvent_eq 0x0003 0 []
  obtain ⟨r'', l', flushed, -⟩ := (s.clocksOff.logEvent 0x0003 0 []).logToFlash_eq
  rw [State.powerLossLogged, flushed, logged, stopped]

theorem State.powerLossLogged_stopped (s : State) {c : Nat} (hc : c < 4) : s.powerLossLogged.get F.HUB_ARRAY_CLK_current_mhz c = 0 :=
  calc s.powerLossLogged.get F.HUB_ARRAY_CLK_current_mhz c
    _ = (s.clocksOff.logEvent 0x0003 0 []).get F.HUB_ARRAY_CLK_current_mhz c :=
      State.logToFlash_get _ (by decide) (by decide) (by decide) c
    _ = s.clocksOff.get F.HUB_ARRAY_CLK_current_mhz c := State.logEvent_get _ _ _ _ (by decide) c
    _ = 0 := s.clocksOff_stopped hc

/-- What hold-up does at once where no dump runs (R307). -/
theorem State.flushAndStop_drops {s : State} (idle : s.dump.running = false) : WorkDropped s s.flushAndStop := by
  have flushes : s.flushAndStop = { s.powerLossLogged.clearWork with
      rst := { s.powerLossLogged.rst with run := none, queue := [], absorbed := [], chain := [] } } := by
    rw [State.flushAndStop, State.cutDump_of_idle idle]
    rfl
  have staged := s.powerLossLogged_staged
  have dram := s.powerLossLogged_dram
  have clocks : ∀ c < 4, s.powerLossLogged.get F.HUB_ARRAY_CLK_current_mhz c = 0 := fun c hc => s.powerLossLogged_stopped hc
  rw [flushes]
  generalize s.powerLossLogged = u at staged dram clocks ⊢
  have work := u.clearWork_hubWork
  have graphs := u.clearWork_graphs
  have log := u.clearWork_log
  have contents := u.clearWork_dram
  have reads := fun c => u.clearWork_get (f := F.HUB_ARRAY_CLK_current_mhz) (by decide) (by decide) (by decide) c
  generalize u.clearWork = v at work graphs log contents reads ⊢
  exact ⟨congrArg Prod.fst work, congrArg (·.2.2.2) work, graphs, rfl, (congrArg ErrorLog.staged log).trans staged,
    fun c hc => (reads c).trans (clocks c hc), contents.trans dram⟩

end Sys2Proof.Machine

/-! SUPPORT. Feeds (R305, R306): the voltages as they are read, what a feed counts as, and a switch between the two. -/

namespace Sys2Proof.Machine

theorem Pwr.without_overs {p : Pwr} (h : p.overs = []) : { p with overs := [] } = p := by
  cases p
  cases h
  rfl

section
variable (s : State) (va vb : Fin 8192)

/-- The voltages of both feeds, read. -/
def State.feedsRead : State := (s.put F.PWR_FEED_STAT_feed_a va 0).put F.PWR_FEED_STAT_feed_b vb 0

/-- The reading of one feed of the two. -/
def Feed.reading (f : Feed) : Nat :=
  match f with
  | .A => va.val
  | .B => vb.val

/-- Reading the feeds changes their registers and what counts as overvoltage alone. -/
theorem State.seeFeeds_eq : ∃ o, s.seeFeeds va vb = (s.feedsRead va vb).setPwr { s.pwr with overs := o } := ⟨_, rfl⟩

theorem State.seeFeeds_of_sound (sound : s.pwr.overs = []) : s.seeFeeds va vb = s.feedsRead va vb := by
  have none : s.seeFeeds va vb = (s.feedsRead va vb).setPwr { s.pwr with overs := [] } := by
    unfold State.seeFeeds
    simp only [State.put_pwr, sound, List.map_nil, List.filter_nil]
    rfl
  rw [none, Pwr.without_overs sound]
  rfl

theorem State.feedsRead_volts (f : Feed) : (s.feedsRead va vb).volts f = f.reading va vb := by
  cases f with
  | A =>
    exact (State.put_get_apart _ (by decide) (by decide) (by decide) _ _ _).trans
      ((State.put_get_same _ _ _ _).trans (Nat.mod_eq_of_lt va.isLt))
  | B => exact (State.put_get_same _ _ _ _).trans (Nat.mod_eq_of_lt vb.isLt)

theorem State.feedsRead_get {f : Fld} (low : f.code < 1024) (a : f.code ≠ F.PWR_FEED_STAT_feed_a.code)
    (b : f.code ≠ F.PWR_FEED_STAT_feed_b.code) (i : Nat) : (s.feedsRead va vb).get f i = s.get f i :=
  (State.put_get_apart _ (by decide) low b _ _ _).trans (State.put_get_apart _ (by decide) low a _ _ _)

theorem State.feedsRead_onlyRegs : OnlyRegs [F.PWR_FEED_STAT_feed_a.key 0, F.PWR_FEED_STAT_feed_b.key 0] s (s.feedsRead va vb) :=
  ((s.put_onlyRegs _ _ _).mono (by decide)).trans ((State.put_onlyRegs _ _ _ _).mono (by decide))

theorem State.feedAs_of_sound (sound : s.pwr.overs = []) (f : Feed) : s.feedAs f = s.volts f := by
  simp [State.feedAs, sound]

end

/-- A switch from feed f: the other is in use and shown, and the switch is counted and logged with both voltages. -/
structure FeedSwitched (s t : State) (f : Feed) : Prop where
  pwr : t.pwr = { s.pwr with inUse := some f.other }
  feed : t.get F.PWR_STAT_feed 0 = f.other.code % 2 ^ F.PWR_STAT_feed.width
  event : t.get F.PWR_FEED_STAT_switch_evt 0 = 1
  count : t.get F.PWR_FEED_STAT_switches 0 = s.get F.PWR_FEED_STAT_switches 0 + 1
  log : ∃ e, t.log.staged = s.log.staged ++ [e] ∧ e.body = .event 0x0002 0 [f.code, f.other.code, s.volts .A, s.volts .B]
  frame : t = { s with regs := t.regs, pwr := t.pwr, log := t.log }

theorem State.switchFeed_switches {s : State} (room : s.log.staged.length < 8192)
    (below : s.get F.PWR_FEED_STAT_switches 0 < 2 ^ F.PWR_FEED_STAT_switches.width - 1) (f : Feed) :
    FeedSwitched s (s.switchFeed f) f := by
  let u := (s.setPwr { s.pwr with inUse := some f.other }).put F.PWR_STAT_feed f.other.code 0
  let args := [f.code, f.other.code, s.volts .A, s.volts .B]
  have switches : s.switchFeed f =
      ((u.logEvent 0x0002 0 args).bump F.PWR_FEED_STAT_switches 1 0).put F.PWR_FEED_STAT_switch_evt 1 0 := rfl
  obtain ⟨e, staged, -, body⟩ := u.logEvent_staged 0x0002 0 args room
  obtain ⟨l, r, logged⟩ := u.logEvent_eq 0x0002 0 args
  have reads : ∀ g : Fld, g.offLog = true → (u.logEvent 0x0002 0 args).get g 0 = u.get g 0 := fun g off => State.logEvent_get _ _ _ _ off 0
  have counted : (u.logEvent 0x0002 0 args).get F.PWR_FEED_STAT_switches 0 = s.get F.PWR_FEED_STAT_switches 0 :=
    (reads _ (by decide)).trans (State.put_get_apart _ (by decide) (by decide) (by decide) _ _ _)
  have shown : (u.logEvent 0x0002 0 args).get F.PWR_STAT_feed 0 = f.other.code % 2 ^ F.PWR_STAT_feed.width :=
    (reads _ (by decide)).trans (State.put_get_same _ _ _ _)
  rw [switches]
  generalize u.logEvent 0x0002 0 args = v at staged logged counted shown
  refine ⟨?_, ?_, State.put_get_same _ _ _ _, ?_, ⟨e, staged, body⟩, ?_⟩
  · rw [logged]
    rfl
  · simp (disch := decide) only [State.put_get_apart, State.bump_get_apart, shown]
  · rw [State.put_get_apart _ (by decide) (by decide) (by decide), State.bump_get_same_of_lt _ (counted.symm ▸ below), counted]
  · rw [logged]
    rfl

end Sys2Proof.Machine

/-! SUPPORT. Announced heavy phases (R315): arrays updated one by one, and those of a die that are due. -/

namespace Sys2Proof.Machine

/-! ## Arrays updated one by one -/

/-- Every array of a list goes through g. -/
def State.updArrs (s : State) (l : List Nat) (g : Arr → Arr) : State := l.foldl (fun s i => s.setArr i (g (s.arr i))) s

section
variable (s : State) (l : List Nat) {g : Arr → Arr}

theorem State.updArrs_eq : ∃ m, s.updArrs l g = { s with arrays := m } := by
  induction l generalizing s with
  | nil => exact ⟨s.arrays, rfl⟩
  | cons i l ih =>
    obtain ⟨m, rest⟩ := ih (s.setArr i (g (s.arr i)))
    exact ⟨m, rest⟩

/-- What g keeps of an array stays at every array. -/
theorem State.updArrs_keeps {β : Type} (P : Arr → β) (keeps : ∀ x, P (g x) = P x) (a : Nat) : P ((s.updArrs l g).arr a) = P (s.arr a) := by
  refine foldl_keeps (fun s => P (s.arr a)) (fun u i => ?_) l s
  by_cases h : a = i
  · subst h
    rw [State.setArr_same, keeps]
  · rw [State.setArr_other _ _ h]

theorem State.updArrs_other {a : Nat} (h : a ∉ l) : (s.updArrs l g).arr a = s.arr a := by
  induction l generalizing s with
  | nil => rfl
  | cons i l ih =>
    obtain ⟨here, later⟩ := not_or.1 (mt List.mem_cons.2 h)
    exact (ih (s.setArr i (g (s.arr i))) later).trans (State.setArr_other _ _ here)

/-- An update that is the same twice as once is made at each array listed. -/
theorem State.updArrs_of_mem (idem : ∀ x, g (g x) = g x) {a : Nat} (h : a ∈ l) : (s.updArrs l g).arr a = g (s.arr a) := by
  induction l generalizing s with
  | nil => cases h
  | cons i l ih =>
    change ((s.setArr i (g (s.arr i))).updArrs l g).arr a = _
    by_cases later : a ∈ l
    · rw [ih _ later]
      by_cases here : a = i
      · rw [here, State.setArr_same, idem]
      · rw [State.setArr_other _ _ here]
    · rw [State.updArrs_other _ _ later, (List.mem_cons.1 h).resolve_right later, State.setArr_same]

end

/-! ## Announced arrays that are due -/

theorem mem_dieArrays {c i : Nat} : i ∈ dieArrays c ↔ 256 * c ≤ i ∧ i < 256 * c + 256 := by
  simp only [dieArrays, List.mem_map, List.mem_range]
  constructor
  · rintro ⟨k, hk, rfl⟩
    omega
  · rintro ⟨low, high⟩
    exact ⟨i - 256 * c, by omega, by omega⟩

theorem earliest_of_ne_nil {l : List Nat} (h : l ≠ []) : ∃ t, earliest l = some t := by
  cases l with
  | nil => exact absurd rfl h
  | cons a l =>
    unfold earliest
    split
    · exact ⟨_, rfl⟩
    · exact ⟨_, rfl⟩

section
variable {s : State} {c : Nat} {ph : RampPhase} {at_ : PreRamp → Nat}

theorem State.mem_preDue {i x : Nat} : (i, x) ∈ s.preDue c ph at_ ↔
    i ∈ dieArrays c ∧ ∃ p, (s.arr i).pre = some p ∧ p.phase = ph ∧ at_ p = x := by
  simp only [State.preDue, List.mem_filterMap]
  constructor
  · rintro ⟨j, hj, found⟩
    split at found
    next p hp =>
      split at found
      next phase =>
        cases found
        exact ⟨hj, p, hp, phase, rfl⟩
      next => cases found
    next => cases found
  · rintro ⟨hi, p, hp, phase, rfl⟩
    exact ⟨i, hi, by simp [hp, phase]⟩

/-- Announced arrays of die c in a phase that are due by now. -/
def State.rampDue (s : State) (c : Nat) (ph : RampPhase) (at_ : PreRamp → Nat) (now : Nat) : List Nat :=
  ((s.preDue c ph at_).filter fun e => decide (e.2 ≤ now)).map Prod.fst

theorem State.mem_rampDue {i now : Nat} : i ∈ s.rampDue c ph at_ now ↔
    i ∈ dieArrays c ∧ ∃ p, (s.arr i).pre = some p ∧ p.phase = ph ∧ at_ p ≤ now := by
  simp only [State.rampDue, List.mem_map, List.mem_filter, decide_eq_true_eq, Prod.exists, exists_and_right, exists_eq_right,
    State.mem_preDue]
  constructor
  · rintro ⟨x, ⟨hi, p, hp, phase, rfl⟩, due⟩
    exact ⟨hi, p, hp, phase, due⟩
  · rintro ⟨hi, p, hp, phase, due⟩
    exact ⟨_, ⟨hi, p, hp, phase, rfl⟩, due⟩

/-- The device has come to the moment at which the next announced arrays are due, and those have gone through g. -/
def State.rampsOn (s : State) (c : Nat) (ph : RampPhase) (at_ : PreRamp → Nat) (g : Arr → Arr) (x : Nat) : State :=
  (s.due x).updArrs (s.rampDue c ph at_ (s.due x).time) g

variable {g : Arr → Arr} {x : Nat}

theorem State.rampsOn_eq : ∃ m, s.rampsOn c ph at_ g x = { s.due x with arrays := m } := State.updArrs_eq _ _

theorem State.rampsOn_of_due (idem : ∀ a, g (g a) = g a) {i : Nat} {p : PreRamp} (hi : i ∈ dieArrays c) (hp : (s.arr i).pre = some p)
    (phase : p.phase = ph) (due : at_ p ≤ (s.rampsOn c ph at_ g x).time) : (s.rampsOn c ph at_ g x).arr i = g (s.arr i) := by
  obtain ⟨m, frame⟩ : ∃ m, s.rampsOn c ph at_ g x = { s.due x with arrays := m } := State.rampsOn_eq
  rw [frame] at due
  exact State.updArrs_of_mem _ _ idem (State.mem_rampDue.2 ⟨hi, p, hp, phase, due⟩)

theorem State.rampsOn_of_early {i : Nat} {p : PreRamp} (hp : (s.arr i).pre = some p) (early : (s.rampsOn c ph at_ g x).time < at_ p) :
    (s.rampsOn c ph at_ g x).arr i = s.arr i := by
  obtain ⟨m, frame⟩ : ∃ m, s.rampsOn c ph at_ g x = { s.due x with arrays := m } := State.rampsOn_eq
  rw [frame] at early
  refine State.updArrs_other _ _ fun due => ?_
  obtain ⟨-, p', hp', -, by_⟩ := State.mem_rampDue.1 due
  cases hp.symm.trans hp'
  exact absurd early (Nat.not_lt.2 by_)

theorem State.rampsOn_elsewhere {a : Nat} (h : a ∉ dieArrays c) : (s.rampsOn c ph at_ g x).arr a = s.arr a :=
  State.updArrs_other _ _ fun due => h (State.mem_rampDue.1 due).1

end

/-- The duty of an announced array begins to rise (R315). -/
def Arr.rampStarts (a : Arr) : Arr := { a with pre := a.pre.map fun p => { p with phase := .ramped } }

/-- The hold of an announced array ends: it has met real beats, or is past its threshold (R315). -/
def Arr.holdEnds (a : Arr) : Arr := { a with pre := a.pre.bind fun p => if p.met then none else some { p with phase := .past } }

theorem Arr.rampStarts_idem (a : Arr) : a.rampStarts.rampStarts = a.rampStarts := by
  cases h : a.pre <;> simp [Arr.rampStarts, h]

theorem Arr.holdEnds_idem (a : Arr) : a.holdEnds.holdEnds = a.holdEnds := by
  cases h : a.pre with
  | none => simp [Arr.holdEnds, h]
  | some p => cases met : p.met <;> simp [Arr.holdEnds, h, met]

end Sys2Proof.Machine

/-! O47: the feeds, hold-up, and the power controller (R305-R310, R315, R318-R321). -/

namespace Sys2Proof.Machine

/-! ## Feeds (R305) -/

section
variable {s : State} {va vb : Fin 8192} (on : s.powered = true) (sound : s.pwr.overs = [])

theorem exec_feedSwitch_unpowered (off : s.powered = false) (va vb : Fin 8192) : exec (.feedSwitch va vb) s = .next s := by
  change execFeedSwitch va vb s = _
  simp [execFeedSwitch, off]

theorem exec_feedSwitchBack_unpowered (off : s.powered = false) (va vb : Fin 8192) : exec (.feedSwitchBack va vb) s = .next s := by
  change execFeedSwitchBack va vb s = _
  simp [execFeedSwitchBack, off]

theorem State.feedsRead_pwr : (s.feedsRead va vb).pwr = s.pwr := rfl

theorem State.feedsRead_feedAs (sound : s.pwr.overs = []) (f : Feed) : (s.feedsRead va vb).feedAs f = f.reading va vb :=
  (State.feedAs_of_sound (s.feedsRead va vb) sound f).trans (s.feedsRead_volts va vb f)

/-- A switch after the feeds are read, seen from before. -/
theorem State.feedsRead_switches (below : s.get F.PWR_FEED_STAT_switches 0 < 2 ^ F.PWR_FEED_STAT_switches.width - 1)
    (room : s.log.staged.length < 8192) (va vb : Fin 8192) (f : Feed) :
    FeedSwitched (s.feedsRead va vb) ((s.feedsRead va vb).switchFeed f) f := by
  refine State.switchFeed_switches (s := s.feedsRead va vb) room ?_ f
  rw [s.feedsRead_get va vb (by decide) (by decide) (by decide)]
  exact below

include on sound

theorem exec_feedSwitch_of_low (inUse : s.pwr.inUse = some .A) (low : va.val < 4400) (other : 4400 ≤ vb.val) :
    exec (.feedSwitch va vb) s = .next ((s.feedsRead va vb).switchFeed .A) := by
  change execFeedSwitch va vb s = _
  have may : (s.feedsRead va vb).feedAs .A < 4400 ∧ 4400 ≤ (s.feedsRead va vb).feedAs Feed.A.other := by
    rw [State.feedsRead_feedAs sound, State.feedsRead_feedAs sound]
    exact ⟨low, other⟩
  simp [execFeedSwitch, on, s.seeFeeds_of_sound va vb sound, State.feedsRead_pwr, inUse, may]

theorem exec_feedSwitchBack_of_restored (inUse : s.pwr.inUse = some .B) (restored : 4800 ≤ va.val) :
    exec (.feedSwitchBack va vb) s = .next ((s.feedsRead va vb).switchFeed .B) := by
  change execFeedSwitchBack va vb s = _
  have may : 4800 ≤ (s.feedsRead va vb).feedAs .A := by
    rw [State.feedsRead_feedAs sound]
    exact restored
  simp [execFeedSwitchBack, on, s.seeFeeds_of_sound va vb sound, State.feedsRead_pwr, inUse, may]

theorem exec_feedSwitchBack_on_A (inUse : s.pwr.inUse = some .A) : exec (.feedSwitchBack va vb) s = .next (s.feedsRead va vb) := by
  change execFeedSwitchBack va vb s = _
  simp [execFeedSwitchBack, on, s.seeFeeds_of_sound va vb sound, State.feedsRead_pwr, inUse]

theorem exec_feedOvervoltage_of_high {f : Feed} (high : 6000 < f.reading va vb) : exec (.feedOvervoltage f va vb) s =
    .next ((s.feedsRead va vb).setPwr { s.pwr with overs := [(f, none)] }) := by
  change execFeedOvervoltage f va vb s = _
  simp [execFeedOvervoltage, on, s.seeFeeds_of_sound va vb sound, State.feedsRead_pwr, sound, s.feedsRead_volts va vb f, high]

/-- FEED_OVERVOLTAGE: the feed counts as none, and only readings and what counts as overvoltage change. -/
theorem feedOvervoltage_gives {f : Feed} (high : 6000 < f.reading va vb) : Gives (.feedOvervoltage f va vb) s fun t =>
    t.pwr = { s.pwr with overs := [(f, none)] } ∧ t.feedAs f = 0 ∧ t.get F.PWR_FEED_STAT_feed_a 0 = va ∧
    t.get F.PWR_FEED_STAT_feed_b 0 = vb ∧ t = { s with regs := t.regs, pwr := t.pwr } := by
  refine ⟨_, exec_feedOvervoltage_of_high on sound high, rfl, ?_, s.feedsRead_volts va vb .A, s.feedsRead_volts va vb .B, rfl⟩
  cases f <;> rfl

theorem feedSwitch_gives (below : s.get F.PWR_FEED_STAT_switches 0 < 2 ^ F.PWR_FEED_STAT_switches.width - 1)
    (room : s.log.staged.length < 8192) (inUse : s.pwr.inUse = some .A) (low : va.val < 4400) (other : 4400 ≤ vb.val) :
    Gives (.feedSwitch va vb) s fun t =>
      t.pwr = { s.pwr with inUse := some .B } ∧ t.get F.PWR_STAT_feed 0 = 1 ∧ t.get F.PWR_FEED_STAT_switch_evt 0 = 1 ∧
      t.get F.PWR_FEED_STAT_switches 0 = s.get F.PWR_FEED_STAT_switches 0 + 1 ∧
      (∃ e, t.log.staged = s.log.staged ++ [e] ∧ e.body = .event 0x0002 0 [0, 1, va, vb]) ∧
      t = { s with regs := t.regs, pwr := t.pwr, log := t.log } := by
  have switched := State.feedsRead_switches below room va vb .A
  obtain ⟨e, staged, body⟩ := switched.log
  rw [s.feedsRead_volts, s.feedsRead_volts] at body
  refine ⟨_, exec_feedSwitch_of_low on sound inUse low other, switched.pwr, switched.feed, switched.event, ?_, ⟨e, staged, body⟩, ?_⟩
  · rw [switched.count, s.feedsRead_get va vb (by decide) (by decide) (by decide)]
  · exact switched.frame

theorem feedSwitchBack_gives (below : s.get F.PWR_FEED_STAT_switches 0 < 2 ^ F.PWR_FEED_STAT_switches.width - 1)
    (room : s.log.staged.length < 8192) (inUse : s.pwr.inUse = some .B) (restored : 4800 ≤ va.val) :
    Gives (.feedSwitchBack va vb) s fun t =>
      t.pwr = { s.pwr with inUse := some .A } ∧ t.get F.PWR_STAT_feed 0 = 0 ∧
      (∃ e, t.log.staged = s.log.staged ++ [e] ∧ e.body = .event 0x0002 0 [1, 0, va, vb]) := by
  have switched := State.feedsRead_switches below room va vb .B
  obtain ⟨e, staged, body⟩ := switched.log
  rw [s.feedsRead_volts, s.feedsRead_volts] at body
  exact ⟨_, exec_feedSwitchBack_of_restored on sound inUse restored, switched.pwr, switched.feed, e, staged, body⟩

end

/-! ## Hold-up and the ways off (R307, R308) -/

section
variable {s : State} {va vb : Fin 8192}

theorem exec_holdUp_unpowered (off : s.powered = false) (va vb : Fin 8192) : exec (.holdUp va vb) s = .next s := by
  change execHoldUp va vb s = _
  simp [execHoldUp, off]

theorem exec_hubRailFault_unpowered (off : s.powered = false) : exec .hubRailFault s = .next s := by
  change execHubRailFault s = _
  simp [execHubRailFault, off]

theorem exec_holdUp_of_low (on : s.powered = true) (up : s.boot.phase ≠ .bringup) (sound : s.pwr.overs = []) (a : va.val < 4000)
    (b : vb.val < 4000) : exec (.holdUp va vb) s = .next ((s.feedsRead va vb).flushAndStop.put F.PWR_STAT_feed 2 0) := by
  change execHoldUp va vb s = _
  have both : (s.feedsRead va vb).feedAs .A < 4000 ∧ (s.feedsRead va vb).feedAs .B < 4000 := by
    rw [State.feedsRead_feedAs sound, State.feedsRead_feedAs sound]
    exact ⟨a, b⟩
  simp [execHoldUp, on, up, s.seeFeeds_of_sound va vb sound, both]

/-- HOLD_UP: everything under way is dropped, and the feed shows hold-up. -/
theorem holdUp_gives (on : s.powered = true) (up : s.boot.phase ≠ .bringup) (sound : s.pwr.overs = []) (a : va.val < 4000)
    (b : vb.val < 4000) (idle : s.dump.running = false) : Gives (.holdUp va vb) s fun t =>
      t.get F.PWR_STAT_feed 0 = 2 ∧ t.queues = [] ∧ t.launches = [] ∧ t.graphs = [] ∧ t.rst.run = none ∧ t.log.staged = [] ∧
      (∀ c < 4, t.get F.HUB_ARRAY_CLK_current_mhz c = 0) ∧ t.mem.dram = s.mem.dram := by
  have dropped := State.flushAndStop_drops (s := s.feedsRead va vb) idle
  have run := exec_holdUp_of_low on up sound a b
  generalize (s.feedsRead va vb).flushAndStop = u at dropped run
  refine ⟨_, run, State.put_get_same _ _ _ _, dropped.queues, dropped.launches, dropped.graphs, dropped.run, dropped.staged,
    fun c hc => ?_, dropped.dram⟩
  exact (State.put_get_apart _ (by decide) (by decide) (by decide) _ _ _).trans (dropped.clocks c hc)

theorem exec_holdUpRailsOff {s : State} (held : s.get F.PWR_STAT_feed 0 = 2) (ready : s.boot.phase = .ready) :
    exec .holdUpRailsOff s = .next (s.powerOff false) := by
  change execHoldUpRailsOff s = _
  simp [execHoldUpRailsOff, held, ready]

theorem exec_hubRailFault {s : State} (on : s.powered = true) (rail : 0 ∈ s.boot.rails) :
    exec .hubRailFault s = .next (s.flushAndStop.powerOff true) := by
  change execHubRailFault s = _
  simp [execHubRailFault, on, rail]

end

/-! ## POWER_CONTROL_TICK (R309, R310, R319) -/

section
variable (s : State)

/-- Another microsecond of lamplight duty leaves an array's stream and tiles. -/
theorem Arr.nextDuty_keeps (gap : Nat) (lamp emergency : Bool) (a : Arr) :
    (a.nextDuty gap lamp emergency).stream = a.stream ∧ (a.nextDuty gap lamp emergency).tiles = a.tiles := by
  unfold Arr.nextDuty
  dsimp only
  split <;> exact ⟨rfl, rfl⟩

theorem State.dutyTick_eq_updArrs : s.dutyTick = s.updArrs (s.arrays.map fun e => e.1)
    (Arr.nextDuty (s.get F.PWR_LAMP_CFG_gap_us 0) (s.isSet F.PWR_LAMP_CFG_lamp_en 0) (s.get F.THM_STOP_STAT_state 0 == 2)) := rfl

theorem State.dutyTick_eq : ∃ m, s.dutyTick = { s with arrays := m } := s.updArrs_eq _

theorem State.dutyTick_get (f : Fld) (i : Nat) : s.dutyTick.get f i = s.get f i := by
  obtain ⟨m, duties⟩ := s.dutyTick_eq
  rw [duties]
  rfl

theorem State.dutyTick_keeps (a : Nat) : (s.dutyTick.arr a).stream = (s.arr a).stream ∧ (s.dutyTick.arr a).tiles = (s.arr a).tiles := by
  rw [State.dutyTick_eq_updArrs]
  exact ⟨s.updArrs_keeps _ Arr.stream (fun x => (x.nextDuty_keeps _ _ _).1) a,
    s.updArrs_keeps _ Arr.tiles (fun x => (x.nextDuty_keeps _ _ _).2) a⟩

/-- The beats that the next microsecond may take. -/
def State.nextBudget : Nat := min (s.pwr.beats + stepBeats) (s.nextAllow * stepBeats)

/-- The microsecond's end, with its activity and its allowance shown. -/
def State.slopeShown : State :=
  ((s.due (s.pwr.tickAt + 1000)).put F.PWR_STAT_activity (in255 s.pwr.beats) 0).put F.PWR_STAT_allowance (in255 s.nextBudget) 0

/-- The microsecond's end before the duties move: activity and allowance shown, and the counts begun anew. -/
def State.slopeTicked : State :=
  s.slopeShown.setPwr
    { s.pwr with tickAt := s.slopeShown.time, allow := s.nextAllow, budget := s.nextBudget, beats := 0, demand := [], taken := []
                 shares := sharesOf s.nextBudget ((List.range 16).map fun q => SMap.get 0 s.pwr.demand q) }

theorem in255_le (n : Nat) : in255 n ≤ 255 := Nat.min_le_left _ _

theorem State.slopeTicked_get : s.slopeTicked.get F.PWR_STAT_activity 0 = in255 s.pwr.beats ∧
    s.slopeTicked.get F.PWR_STAT_allowance 0 = in255 s.nextBudget := by
  rw [State.slopeTicked, State.setPwr_get, State.setPwr_get, State.slopeShown, State.put_get_apart _ (by decide) (by decide) (by decide),
    State.put_get_same, State.put_get_same]
  exact ⟨Nat.mod_eq_of_lt ((in255_le _).trans_lt (by decide)), Nat.mod_eq_of_lt ((in255_le _).trans_lt (by decide))⟩

theorem exec_powerControlTick {s : State} (island : s.boot.island = true) : exec .powerControlTick s = .next s.slopeTicked.dutyTick := by
  change execPowerControlTick s = _
  rw [execPowerControlTick, island]
  rfl

theorem powerControlTick_gives {s : State} (island : s.boot.island = true) : Gives .powerControlTick s fun t =>
    t.get F.PWR_STAT_activity 0 = in255 s.pwr.beats ∧ t.get F.PWR_STAT_allowance 0 = in255 s.nextBudget ∧ t.pwr.budget = s.nextBudget ∧
    t.pwr.allow = s.nextAllow ∧ t.pwr.beats = 0 ∧ t.pwr.demand = [] ∧ s.pwr.tickAt + 1000 ≤ t.time ∧ t.pwr.tickAt = t.time ∧
    (∀ a, (t.arr a).stream = (s.arr a).stream ∧ (t.arr a).tiles = (s.arr a).tiles) ∧
    t = { s with time := t.time, regs := t.regs, pwr := t.pwr, arrays := t.arrays } := by
  have kept : ∀ a, (s.slopeTicked.dutyTick.arr a).stream = (s.arr a).stream ∧ (s.slopeTicked.dutyTick.arr a).tiles = (s.arr a).tiles :=
    s.slopeTicked.dutyTick_keeps
  obtain ⟨activity, allowance⟩ := s.slopeTicked_get
  rw [← State.dutyTick_get] at activity allowance
  obtain ⟨m, duties⟩ := s.slopeTicked.dutyTick_eq
  have run := exec_powerControlTick island
  rw [duties] at run kept activity allowance
  exact ⟨_, run, activity, allowance, rfl, rfl, rfl, rfl, Nat.le_max_right _ _, rfl, kept, rfl⟩

end

/-! ## Estimate, measurement and cap (R306, R318-R321) -/

section
variable {s : State}

/-- The limit on input power that follows from the cap and the feed in use (R33, R306, R320). -/
theorem State.powerLimit_of_feed {f : Feed} (inUse : s.pwr.inUse = some f) : s.powerLimit =
    min ((if s.isSet F.HUB_BOOT_STATUS_ready 0 then s.get F.PWR_CAP_cap_w 0 else 1200) * 100) (88 * s.volts f) := by
  simp only [State.powerLimit, inUse]

/-- The device at the moment of a power evaluation, its feeds read. -/
def State.atEvaluation (s : State) (va vb : Fin 8192) : State := (s.due (s.pwr.evalAt + 10000)).seeFeeds va vb

/-- Coming to the evaluation and reading the feeds changes time, the feeds' registers and what counts as overvoltage alone. -/
theorem State.atEvaluation_eq (va vb : Fin 8192) : ∃ o, s.atEvaluation va vb =
    ((s.due (s.pwr.evalAt + 10000)).feedsRead va vb).setPwr { s.pwr with overs := o } := State.seeFeeds_eq _ va vb

theorem State.atEvaluation_limit {f : Feed} (inUse : s.pwr.inUse = some f) (va vb : Fin 8192) : (s.atEvaluation va vb).powerLimit =
    min ((if s.isSet F.HUB_BOOT_STATUS_ready 0 then s.get F.PWR_CAP_cap_w 0 else 1200) * 100) (88 * f.reading va vb) := by
  obtain ⟨o, seen⟩ := s.atEvaluation_eq va vb
  let u := (s.due (s.pwr.evalAt + 10000)).feedsRead va vb
  have volts : (u.setPwr { s.pwr with overs := o }).volts f = f.reading va vb := by
    rw [← State.feedsRead_volts (s.due (s.pwr.evalAt + 10000)) va vb f]
    cases f <;> rfl
  have cap : u.get F.PWR_CAP_cap_w 0 = s.get F.PWR_CAP_cap_w 0 := State.feedsRead_get _ va vb (by decide) (by decide) (by decide) 0
  have ready : u.isSet F.HUB_BOOT_STATUS_ready 0 = s.isSet F.HUB_BOOT_STATUS_ready 0 :=
    congrArg (· != 0) (State.feedsRead_get _ va vb (by decide) (by decide) (by decide) 0)
  have limit := State.powerLimit_of_feed (s := u.setPwr { s.pwr with overs := o }) (f := f) inUse
  rw [volts] at limit
  rw [seen, ← ready, ← cap]
  exact limit

/-- Estimate and measurement shown in their registers, each held to its field's largest value. -/
def State.powerShown (s : State) (est meas : Nat) : State :=
  (s.put F.PWR_STAT_estimate_w (min 0x3FFF est) 0).put F.PWR_STAT_measured_w (min 0x3FFF meas) 0

theorem State.powerShown_get (s : State) (est meas : Nat) :
    (s.powerShown est meas).get F.PWR_STAT_estimate_w 0 = min 0x3FFF est ∧
    (s.powerShown est meas).get F.PWR_STAT_measured_w 0 = min 0x3FFF meas := by
  have fits : ∀ w, min 0x3FFF w % 2 ^ 14 = min 0x3FFF w := fun w =>
    Nat.mod_eq_of_lt (lt_of_le_of_lt (Nat.min_le_left _ _) (by decide))
  exact ⟨(State.put_get_apart _ (by decide) (by decide) (by decide) _ _ _).trans ((State.put_get_same _ _ _ _).trans (fits _)),
    (State.put_get_same _ _ _ _).trans (fits _)⟩

/-- What the power controller holds after an evaluation at u by which measurements are lost or not: the power counted, the limit, and
since when the measurement has been in excess. -/
structure Judged (u : State) (est meas : Nat) (lost : Bool) (p : Pwr) : Prop where
  evalAt : p.evalAt = u.time
  lastMeas : p.lastMeas = meas
  isLost : p.lost = lost
  used : p.used = if lost then 115 * est + 15000 else 100 * max est meas
  limit : p.limit = u.powerLimit
  excess : p.excSince = since (!lost && decide (14 * est < 10 * meas)) u.pwr.excSince u.time

/-- An evaluation shows both powers and judges them; nothing but the controller's part changes beside. -/
theorem exec_powerEvaluation (on : s.powered = true) (measured : Option Nat) (est : Nat) (va vb : Fin 8192) :
    ∃ p, exec (.powerEvaluation measured est va vb) s =
        .next (((s.atEvaluation va vb).powerShown est (measured.getD s.pwr.lastMeas)).setPwr p) ∧
      Judged (s.atEvaluation va vb) est (measured.getD s.pwr.lastMeas) (s.pwr.lost && measured.isNone) p :=
  ⟨_, congrArg Host.Outcome.next (if_neg (by simp [on])), rfl, rfl, rfl, rfl, rfl, rfl⟩

/-- POWER_EVALUATION with a measurement: the larger of both counts, against the limit of cap and feed. -/
theorem powerEvaluation_measured {f : Feed} (on : s.powered = true) (inUse : s.pwr.inUse = some f) (est m : Nat) (va vb : Fin 8192) :
    Gives (.powerEvaluation (some m) est va vb) s fun t =>
      t.pwr.used = 100 * max est m ∧ t.pwr.lastMeas = m ∧ t.pwr.lost = false ∧ s.pwr.evalAt + 10000 ≤ t.time ∧ t.pwr.evalAt = t.time ∧
      t.pwr.limit = min ((if s.isSet F.HUB_BOOT_STATUS_ready 0 then s.get F.PWR_CAP_cap_w 0 else 1200) * 100) (88 * f.reading va vb) ∧
      t.get F.PWR_STAT_estimate_w 0 = min 0x3FFF est ∧ t.get F.PWR_STAT_measured_w 0 = min 0x3FFF m ∧
      t = { s with time := t.time, regs := t.regs, pwr := t.pwr } := by
  obtain ⟨p, run, judged⟩ := exec_powerEvaluation on (some m) est va vb
  obtain ⟨shownEst, shownMeas⟩ := (s.atEvaluation va vb).powerShown_get est m
  have received : (s.pwr.lost && (some m).isNone) = false := Bool.and_false _
  rw [received] at judged
  exact ⟨_, run, judged.used, judged.lastMeas, judged.isLost, Nat.le_max_right _ _, judged.evalAt,
    judged.limit.trans (State.atEvaluation_limit inUse va vb), shownEst, shownMeas, rfl⟩

/-- POWER_EVALUATION while measurements are lost: 1.15 times the estimate and 150 W count. -/
theorem powerEvaluation_lost (on : s.powered = true) (lost : s.pwr.lost = true) (est : Nat) (va vb : Fin 8192) :
    Gives (.powerEvaluation none est va vb) s fun t =>
      t.pwr.used = 115 * est + 15000 ∧ t.pwr.lost = true ∧ t.pwr.excSince = none := by
  obtain ⟨p, run, judged⟩ := exec_powerEvaluation on none est va vb
  rw [lost] at judged
  exact ⟨_, run, judged.used, judged.isLost, judged.excess⟩

/-- MEASUREMENT_LOST: 100 µs without a measurement. -/
theorem measurementLost_gives (on : s.powered = true) (present : s.pwr.lost = false) : Gives .measurementLost s fun t =>
    t.pwr.lost = true ∧ t.pwr.used = 115 * s.get F.PWR_STAT_estimate_w 0 + 15000 ∧ t.get F.PWR_FEED_STAT_meas_lost_evt 0 = 1 ∧
    s.pwr.measAt + 100000 ≤ t.time ∧ t = { s with time := t.time, regs := t.regs, pwr := t.pwr } :=
  ⟨_, congrArg Host.Outcome.next (if_neg (by simp [on, present])), rfl, rfl, State.put_get_same _ _ _ _, Nat.le_max_right _ _, rfl⟩

/-- CAP_UNREACHABLE: logged once, 10 ms after power went above the limit with nothing left to lower. -/
theorem capUnreachable_gives {b : Nat} (above : s.pwr.capSince = some b) (room : s.log.staged.length < 8192)
    (first : s.pwr.capRaised = false) : Gives .capUnreachable s fun t =>
      t.pwr = { s.pwr with capRaised := true } ∧ b + 10000000 ≤ t.time ∧
      (∃ e, t.log.staged = s.log.staged ++ [e] ∧ e.body = .event 0x0004 0 []) ∧
      t = { s with time := t.time, regs := t.regs, pwr := t.pwr, log := t.log } := by
  let u := s.due (b + 10000000)
  have run : exec .capUnreachable s = .next ((u.logEvent 0x0004 0 []).setPwr { (u.logEvent 0x0004 0 []).pwr with capRaised := true }) := by
    change execCapUnreachable s = _
    simp only [execCapUnreachable, above, first, Bool.false_eq_true, if_false]
    rfl
  obtain ⟨e, staged, -, body⟩ := u.logEvent_staged 0x0004 0 [] room
  obtain ⟨l, r, logged⟩ := u.logEvent_eq 0x0004 0 []
  rw [logged] at run staged
  exact ⟨_, run, rfl, Nat.le_max_right _ _, ⟨e, staged, body⟩, rfl⟩

theorem exec_capUnreachable_again {b : Nat} (above : s.pwr.capSince = some b) (raised : s.pwr.capRaised = true) :
    exec .capUnreachable s = .next s := by
  change execCapUnreachable s = _
  simp [execCapUnreachable, above, raised]

/-- The moment at which a disagreement since b is to be logged: after 5 ms, then when the last record says. -/
def Pwr.mismatchDue (p : Pwr) (b : Nat) : Nat := if p.misNext = 0 then b + 5000000 else p.misNext

/-- ESTIMATE_MISMATCH: logged at its moment, and due again a second later. -/
theorem estimateMismatch_gives {b : Nat} (apart : s.pwr.misSince = some b) (room : s.log.staged.length < 8192) :
    Gives .estimateMismatch s fun t =>
      (s.pwr.misNext = 0 → b + 5000000 ≤ t.time) ∧ (s.pwr.misNext ≠ 0 → s.pwr.misNext ≤ t.time) ∧ t.pwr.misNext = t.time + 1000000000 ∧
      t.get F.PWR_FEED_STAT_mismatch_evt 0 = 1 ∧ (∃ e, t.log.staged = s.log.staged ++ [e] ∧ e.body = .event 0x0005 0 []) := by
  let u := s.due (s.pwr.mismatchDue b)
  have run : exec .estimateMismatch s = .next (((u.logEvent 0x0005 0 []).setPwr
      { (u.logEvent 0x0005 0 []).pwr with misNext := (u.logEvent 0x0005 0 []).time + 1000000000 }).put F.PWR_FEED_STAT_mismatch_evt 1 0) := by
    change execEstimateMismatch s = _
    simp only [execEstimateMismatch, apart]
    rfl
  obtain ⟨e, staged, -, body⟩ := u.logEvent_staged 0x0005 0 [] room
  obtain ⟨l, r, logged⟩ := u.logEvent_eq 0x0005 0 []
  rw [logged] at run staged
  have reached : s.pwr.mismatchDue b ≤ u.time := Nat.le_max_right _ _
  refine ⟨_, run, fun first => ?_, fun again => ?_, rfl, State.put_get_same _ _ _ _, e, staged, body⟩
  · rwa [Pwr.mismatchDue, if_pos first] at reached
  · rwa [Pwr.mismatchDue, if_neg again] at reached

end

/-! ## Announced heavy phases (R315) -/

section
variable {s : State} {die : Fin 4} {i : Nat} {p : PreRamp} (low : 256 * die.val ≤ i) (high : i < 256 * die.val + 256)
    (announced : (s.arr i).pre = some p)
include low high announced

/-- An announced array of the die has its moment among those due in its phase. -/
theorem State.earliest_preDue {ph : RampPhase} (phase : p.phase = ph) (at_ : PreRamp → Nat) :
    ∃ x, earliest ((s.preDue die ph at_).map fun e => e.2) = some x := by
  refine earliest_of_ne_nil fun none => ?_
  have listed : (i, at_ p) ∈ s.preDue die ph at_ := State.mem_preDue.2 ⟨mem_dieArrays.2 ⟨low, high⟩, p, announced, phase, rfl⟩
  rw [List.map_eq_nil_iff.1 none] at listed
  cases listed

theorem exec_preRampStart (waiting : p.phase = .waiting) : ∃ x, exec (.preRampStart die) s =
    .next (s.rampsOn die .waiting PreRamp.begins Arr.rampStarts x) := by
  obtain ⟨x, first⟩ := State.earliest_preDue low high announced waiting PreRamp.begins
  refine ⟨x, ?_⟩
  change execPreRampStart die s = _
  simp only [execPreRampStart, first, State.rampsOn, State.updArrs, State.rampDue, List.foldl_map]
  rfl

theorem exec_preRampHoldEnd (ramped : p.phase = .ramped) : ∃ x, exec (.preRampHoldEnd die) s =
    .next (s.rampsOn die .ramped PreRamp.stop Arr.holdEnds x) := by
  obtain ⟨x, first⟩ := State.earliest_preDue low high announced ramped PreRamp.stop
  refine ⟨x, ?_⟩
  change execPreRampHoldEnd die s = _
  simp only [execPreRampHoldEnd, first, State.rampsOn, State.updArrs, State.rampDue, List.foldl_map]
  rfl

/-- PRE_RAMP_START: arrays whose moment has come begin to rise; every other array stays, and no array's stream changes. -/
theorem preRampStart_gives (waiting : p.phase = .waiting) : Gives (.preRampStart die) s fun t =>
    (p.begins ≤ t.time → (t.arr i).pre = some { p with phase := .ramped }) ∧ (t.time < p.begins → (t.arr i).pre = some p) ∧
    (∀ a, (t.arr a).stream = (s.arr a).stream ∧ (a < 256 * die.val ∨ 256 * die.val + 256 ≤ a → t.arr a = s.arr a)) ∧
    t = { s with time := t.time, arrays := t.arrays } := by
  obtain ⟨x, run⟩ := exec_preRampStart low high announced waiting
  refine ⟨_, run, fun due => ?_, fun early => ?_, fun a => ⟨?_, fun outside => ?_⟩, ?_⟩
  · rw [State.rampsOn_of_due Arr.rampStarts_idem (mem_dieArrays.2 ⟨low, high⟩) announced waiting due]
    simp [Arr.rampStarts, announced]
  · rw [State.rampsOn_of_early announced early, announced]
  · exact State.updArrs_keeps (g := Arr.rampStarts) _ _ Arr.stream (fun _ => rfl) a
  · exact State.rampsOn_elsewhere fun inside => by have := mem_dieArrays.1 inside; omega
  · obtain ⟨m, frame⟩ := State.rampsOn_eq (s := s) (c := die) (ph := .waiting) (at_ := PreRamp.begins) (g := Arr.rampStarts) (x := x)
    rw [frame]
    rfl

/-- PRE_RAMP_HOLD_END: of the arrays whose hold has ended, those that met no real beat are past their threshold. -/
theorem preRampHoldEnd_gives (ramped : p.phase = .ramped) : Gives (.preRampHoldEnd die) s fun t =>
    (p.stop ≤ t.time → p.met = false → (t.arr i).pre = some { p with phase := .past }) ∧
    (p.stop ≤ t.time → p.met = true → (t.arr i).pre = none) ∧ (t.time < p.stop → (t.arr i).pre = some p) ∧
    t = { s with time := t.time, arrays := t.arrays } := by
  obtain ⟨x, run⟩ := exec_preRampHoldEnd low high announced ramped
  refine ⟨_, run, fun due unmet => ?_, fun due met => ?_, fun early => ?_, ?_⟩
  · rw [State.rampsOn_of_due Arr.holdEnds_idem (mem_dieArrays.2 ⟨low, high⟩) announced ramped due]
    simp [Arr.holdEnds, announced, unmet]
  · rw [State.rampsOn_of_due Arr.holdEnds_idem (mem_dieArrays.2 ⟨low, high⟩) announced ramped due]
    simp [Arr.holdEnds, announced, met]
  · rw [State.rampsOn_of_early announced early, announced]
  · obtain ⟨m, frame⟩ := State.rampsOn_eq (s := s) (c := die) (ph := .ramped) (at_ := PreRamp.stop) (g := Arr.holdEnds) (x := x)
    rw [frame]
    rfl

end

/-! ## The statement -/

/-- Settles O47: a feed that fails is left or ends everything, and the controller shows, judges and logs by the values it has read. -/
theorem feedsAndPower : Obligations.FeedsAndPower := by
  unfold Obligations.FeedsAndPower
  refine ⟨⟨fun s va vb on sound below room => ⟨feedSwitch_gives on sound below room, feedSwitchBack_gives on sound below room,
      fun inUse => ⟨_, exec_feedSwitchBack_on_A on sound inUse, rfl, s.feedsRead_onlyRegs va vb⟩,
      fun f high => feedOvervoltage_gives on sound (by cases f <;> exact high)⟩,
    fun s va vb => holdUp_gives,
    fun s held ready => ⟨_, exec_holdUpRailsOff held ready, rfl, rfl, rfl, rfl⟩,
    fun s on rail idle => ⟨_, exec_hubRailFault on rail, rfl, rfl, rfl, rfl⟩,
    fun s va vb off => ⟨exec_feedSwitch_unpowered off va vb, exec_feedSwitchBack_unpowered off va vb,
      exec_holdUp_unpowered off va vb, exec_hubRailFault_unpowered off⟩⟩,
    fun s => powerControlTick_gives, fun s est m va vb f on inUse ready => ⟨?_, fun lost => powerEvaluation_lost on lost est va vb⟩,
    fun s => measurementLost_gives, fun s b above room => ⟨capUnreachable_gives above room, exec_capUnreachable_again above⟩,
    fun s b => estimateMismatch_gives,
    fun s die i p low high announced => ⟨preRampStart_gives low high announced, preRampHoldEnd_gives low high announced⟩⟩
  cases f <;> exact powerEvaluation_measured on inUse est m va vb

end Sys2Proof.Machine

/-! O1: the command at the front of the queue (INDEX). -/

namespace Sys2Proof.Machine

/-- Settles O1: the step is its two cases on the queue. -/
theorem stepRunsFront : Obligations.StepRunsFront := by
  unfold Obligations.StepRunsFront
  refine ⟨fun c cs s front => ?_, fun s empty => ?_⟩
  · simp only [step, front]
  · simp only [step, empty]

end Sys2Proof.Machine

/-! O15: the functions of Table 5.10 on 64-bit words. -/

namespace Sys2Proof.Machine

/-- The signed reading of a word is its value as a two's complement integer. -/
theorem signed_toNat {w : Nat} (a : BitVec w) : signed w a.toNat = a.toInt := by
  rw [BitVec.toInt_eq_toNat_cond, signed, Nat.mod_eq_of_lt a.isLt]

/-- The code of an integer is the word it wraps to. -/
theorem unsigned_eq_toNat (w : Nat) (v : Int) : unsigned w v = (BitVec.ofInt w v).toNat := (BitVec.toNat_ofInt (i := v)).symm

theorem aluFn_sub (a b : BitVec 64) : aluFn 0x1 a.toNat b.toNat = some (a - b).toNat := by
  have inRange := b.isLt
  simp only [aluFn, BitVec.toNat_sub, Nat.mod_eq_of_lt inRange]
  congr 2
  omega

theorem aluFn_shiftLeft (a b : BitVec 64) : aluFn 0x6 a.toNat b.toNat = some (a <<< (b.toNat % 64)).toNat := by
  simp only [aluFn, BitVec.toNat_shiftLeft, Nat.shiftLeft_eq]

theorem aluFn_shiftRight (a b : BitVec 64) : aluFn 0x7 a.toNat b.toNat = some (a >>> (b.toNat % 64)).toNat := by
  simp only [aluFn, BitVec.toNat_ushiftRight, Nat.shiftRight_eq_div_pow]

theorem aluFn_sshiftRight (a b : BitVec 64) : aluFn 0x8 a.toNat b.toNat = some (a.sshiftRight (b.toNat % 64)).toNat := by
  simp only [aluFn, signed_toNat, unsigned_eq_toNat, BitVec.sshiftRight, Int.shiftRight_eq_div_pow]

theorem aluFn_min (a b : BitVec 64) : aluFn 0x9 a.toNat b.toNat = some (if a ≤ b then a else b).toNat := by
  simp only [aluFn, Nat.min_def, BitVec.le_def, apply_ite BitVec.toNat]

theorem aluFn_max (a b : BitVec 64) : aluFn 0xA a.toNat b.toNat = some (if a ≤ b then b else a).toNat := by
  simp only [aluFn, Nat.max_def, BitVec.le_def, apply_ite BitVec.toNat]

/-- The codes past the table name no function. -/
theorem aluFn_reserved {c : Nat} (past : 0xA < c) (a b : Nat) : aluFn c a b = none := by
  unfold aluFn
  split
  case h_12 => rfl
  all_goals omega

/-- Settles O15: function by function of the table, each by the library's law for that operation on words. -/
theorem aluMatches64Bit : Obligations.AluMatches64Bit := by
  unfold Obligations.AluMatches64Bit
  intro a b
  exact ⟨congrArg some (BitVec.toNat_add a b).symm, aluFn_sub a b, congrArg some (BitVec.toNat_mul a b).symm,
    congrArg some (BitVec.toNat_and a b).symm, congrArg some (BitVec.toNat_or a b).symm, congrArg some (BitVec.toNat_xor a b).symm,
    aluFn_shiftLeft a b, aluFn_shiftRight a b, aluFn_sshiftRight a b, aluFn_min a b, aluFn_max a b,
    fun c past => aluFn_reserved past _ _⟩

end Sys2Proof.Machine

/-! O60: the SPDM responder (R404, R410). -/

namespace Sys2Proof.Machine

/-! ## The session state of a transport -/

@[simp] theorem State.setSpdm_same (s : State) (tr : Transport) (x : Spdm) : (s.setSpdm tr x).spdmOf tr = x := by
  cases tr <;> rfl

theorem State.setSpdm_other (s : State) {tr o : Transport} (x : Spdm) (apart : o ≠ tr) : (s.setSpdm tr x).spdmOf o = s.spdmOf o := by
  cases tr with
  | i3c =>
    cases o with
    | i3c => exact absurd rfl apart
    | doe => rfl
  | doe =>
    cases o with
    | i3c => rfl
    | doe => exact absurd rfl apart

theorem State.setSpdm_frame (s : State) (tr : Transport) (x : Spdm) : s.setSpdm tr x = { s with mgmt := (s.setSpdm tr x).mgmt } := by
  cases tr <;> rfl

/-- A session that FINISH names and that waits for it is open afterwards. -/
theorem Spdm.open_finished {x : Spdm} {id : Nat} (waits : (id, false) ∈ x.sessions) :
    ({ x with sessions := x.sessions.map fun e => if e.1 = id then (e.1, true) else e } : Spdm).open_ id = true := by
  simp only [Spdm.open_, List.contains_iff_mem, List.mem_map]
  exact ⟨_, waits, if_pos rfl⟩

/-- A session that END_SESSION names is open no longer. -/
theorem Spdm.open_ended (x : Spdm) (id : Nat) :
    ({ x with sessions := x.sessions.filter fun e => e.1 != id } : Spdm).open_ id = false := by
  simp [Spdm.open_]

/-! ## One request -/

section
variable {s : State} {tr : Transport} (r : SpdmReq) (body : List Nat) (f : Spdm → Spdm)

theorem State.spdm_of_down (down : s.spdmUp tr = false) (ok : Bool) : s.spdm tr r ok body f = s := by
  simp [State.spdm, down]

variable (up : s.spdmUp tr = true)
include up

theorem State.spdm_of_rom (rom : s.romServes = true) (ok : Bool) :
    s.spdm tr r ok body f = { s with out := .spdmError tr :: s.out } := by
  simp [State.spdm, up, rom, State.emit_of_not_toHost s (o := .spdmError tr) rfl]

theorem State.spdm_of_disorder {ok : Bool} (disorder : ok = false) :
    s.spdm tr r ok body f = { s with out := .spdmError tr :: s.out } := by
  simp [State.spdm, up, disorder, State.emit_of_not_toHost s (o := .spdmError tr) rfl]

/-- An answered request changes its transport's session state and says the answer; nothing else moves. -/
theorem spdm_gives (firmware : s.romServes = false) {r : SpdmReq} {body : List Nat} {f : Spdm → Spdm} {ok : Bool} {c : Instr} {y : Spdm}
    (run : exec c s = .next (s.spdm tr r ok body f)) (order : ok = true) (becomes : f (s.spdmOf tr) = y) : Gives c s fun t =>
      t.spdmOf tr = y ∧ t.out = .spdm tr r body :: s.out ∧ t = { s with mgmt := t.mgmt, out := t.out } ∧
        ∀ o, o ≠ tr → t.spdmOf o = s.spdmOf o := by
  have answered : s.spdm tr r ok body f = { s.setSpdm tr (f (s.spdmOf tr)) with
      out := .spdm tr r body :: (s.setSpdm tr (f (s.spdmOf tr))).out } := by
    simp [State.spdm, up, firmware, order, State.emit_of_not_toHost _ (o := .spdm tr r body) rfl]
  rw [answered] at run
  subst becomes
  refine ⟨_, run, s.setSpdm_same tr _, ?_, ?_, fun o apart => s.setSpdm_other _ apart⟩
  · rw [s.setSpdm_frame]
  · rw [s.setSpdm_frame]

end

/-! ## The statement -/

/-- Settles O60: every request is one use of the responder; its place in the order decides between the answer and ERROR. -/
theorem spdmResponder : Obligations.SpdmResponder := by
  unfold Obligations.SpdmResponder
  intro s tr id x all answers error
  have uses : ∀ c ∈ all, ∃ r ok body f, exec c s = .next (s.spdm tr r ok body f) := by
    simp only [all, List.forall_mem_cons]
    exact ⟨⟨_, _, _, _, rfl⟩, ⟨_, _, _, _, rfl⟩, ⟨_, _, _, _, rfl⟩, ⟨_, _, _, _, rfl⟩, ⟨_, _, _, _, rfl⟩, ⟨_, _, _, _, rfl⟩,
      ⟨_, _, _, _, rfl⟩, ⟨_, _, _, _, rfl⟩, ⟨_, _, _, _, rfl⟩, ⟨_, _, _, _, rfl⟩, ⟨_, _, _, _, rfl⟩, ⟨_, _, _, _, rfl⟩,
      List.forall_mem_nil _⟩
  refine ⟨fun down c listed => ?_, fun up rom c listed => ?_, fun up firmware => ?_⟩
  · obtain ⟨r, ok, body, f, run⟩ := uses c listed
    rw [run, s.spdm_of_down r body f down]
  · obtain ⟨r, ok, body, f, run⟩ := uses c listed
    exact run.trans (congrArg _ (s.spdm_of_rom r body f up rom ok))
  have ends {c : Instr} {r : SpdmReq} {ok : Bool} {body : List Nat} {f : Spdm → Spdm}
      (run : exec c s = .next (s.spdm tr r ok body f)) (disorder : ok = false) : error c :=
    run.trans (congrArg _ (s.spdm_of_disorder r body f up disorder))
  have gives {c : Instr} {r : SpdmReq} {ok : Bool} {body : List Nat} {f : Spdm → Spdm} {y : Spdm}
      (run : exec c s = .next (s.spdm tr r ok body f)) (order : ok = true) (becomes : f x = y) : answers c r body y :=
    spdm_gives up firmware run order becomes
  refine ⟨gives rfl rfl rfl, fun one => ⟨_, gives rfl (decide_eq_true one) rfl⟩, fun two => ⟨_, gives rfl (decide_eq_true two) rfl⟩,
    fun three => ?_, fun waits => ?_, fun isOpen => ?_, fun closed => ⟨ends rfl closed, ends rfl closed, ends rfl closed⟩,
    fun early => ?_⟩
  · have agreed : decide (3 ≤ x.stage) = true := decide_eq_true three
    refine ⟨⟨_, gives rfl agreed rfl⟩, ⟨_, gives rfl agreed rfl⟩, ⟨_, gives rfl agreed rfl⟩, ⟨_, gives rfl agreed rfl⟩,
      fun room => ?_, fun full => ?_⟩
    · exact gives rfl (Bool.and_eq_true_iff.2 ⟨agreed, decide_eq_true room⟩) rfl
    · exact ends rfl (Bool.and_eq_false_iff.2 (.inr (decide_eq_false (Nat.not_lt.2 full))))
  · exact ⟨_, gives rfl (List.contains_iff_mem.2 waits) rfl, Spdm.open_finished waits⟩
  · exact ⟨gives rfl isOpen rfl, gives rfl isOpen rfl, _, gives rfl isOpen rfl, Spdm.open_ended x id⟩
  · have early : decide (3 ≤ x.stage) = false := decide_eq_false (Nat.not_le.2 early)
    exact ⟨ends rfl early, ends rfl early, ends rfl early, ends rfl (Bool.and_eq_false_iff.2 (.inl early))⟩

end Sys2Proof.Machine

/-! SUPPORT. Monitor units (R394-R399): a unit as stored, a window that has not ended, a sample taken, the alarm, and the bin of a sample. -/

namespace Sys2Proof.Machine

/-! ## Units as stored -/

@[simp] theorem State.setMonUnit_same (s : State) (u : Nat) (m : Mon) : (s.setMonUnit u m).monUnit u = m := by
  simp [State.monUnit, State.setMonUnit]

theorem State.setMonUnit_other (s : State) {u k : Nat} (m : Mon) (apart : k ≠ u) : (s.setMonUnit u m).monUnit k = s.monUnit k := by
  simp [State.monUnit, State.setMonUnit, SMap.get_set_other _ _ _ _ apart]

theorem State.monUnit_of_mon {s t : State} (h : t.mon = s.mon) (u : Nat) : t.monUnit u = s.monUnit u := by
  rw [State.monUnit, h, State.monUnit]

/-! ## A sample taken (R395, R396) -/

/-- The accumulators after a sample v whose bin is b. -/
def sampledMon (m : Mon) (b : Nat) (v : Int) : Mon :=
  { m with skipped := 0, min := min m.min v, max := max m.max v, count := min (m.count + 1) (2 ^ 32 - 1), sum := (satInt64 (m.sum + v)).1
           hist := SMap.set 0 m.hist b (min (SMap.get 0 m.hist b + 1) (2 ^ 32 - 1))
           saturated := m.saturated || (satInt64 (m.sum + v)).2 || decide (2 ^ 32 - 1 ≤ m.count) }

theorem satInt64_fst (v : Int) : (satInt64 v).1 = max (-(2 ^ 63 : Int)) (min (2 ^ 63 - 1) v) := by
  unfold satInt64
  split_ifs <;> dsimp only <;> omega

theorem satInt64_snd (v : Int) : (satInt64 v).2 = (decide (v < -(2 ^ 63 : Int)) || decide ((2 ^ 63 : Int) ≤ v)) := by
  unfold satInt64
  split_ifs with low high
  · rw [decide_eq_true low, Bool.true_or]
  · rw [decide_eq_true high, Bool.or_true]
  · rw [decide_eq_false low, decide_eq_false high, Bool.or_false]

/-- The state once unit u has taken sample v. -/
def State.sampled (s : State) (u : Nat) (v : Int) : State := (s.setMonUnit u { s.monUnit u with skipped := 0 }).monTake u v

theorem State.sampled_same (s : State) (u : Nat) (v : Int) : (s.sampled u v).monUnit u = sampledMon (s.monUnit u) (s.monBin u v) v := by
  rw [State.sampled, State.monTake, State.setMonUnit_same, State.setMonUnit_same]
  rfl

theorem State.sampled_other (s : State) {u k : Nat} (v : Int) (apart : k ≠ u) : (s.sampled u v).monUnit k = s.monUnit k := by
  rw [State.sampled, State.monTake, State.setMonUnit_other _ _ apart, State.setMonUnit_other _ _ apart]

/-! ## The alarm (R398) -/

/-- Whether sample v raises the alarm of unit u. -/
def State.alarms (s : State) (u : Nat) (v : Int) : Bool :=
  s.isSet F.TEL_MON_CFG_alarm_en u && !(s.monUnit u).alarmed && decide (s.getI F.TEL_MON_CFG_limit u ≤ v)

theorem State.alarms_iff {s : State} {u : Nat} {v : Int} : s.alarms u v = true ↔
    s.isSet F.TEL_MON_CFG_alarm_en u = true ∧ (s.monUnit u).alarmed = false ∧ s.getI F.TEL_MON_CFG_limit u ≤ v := by
  simp [State.alarms, and_assoc]

theorem State.not_alarms_iff {s : State} {u : Nat} {v : Int} : ¬ s.alarms u v = true ↔
    s.isSet F.TEL_MON_CFG_alarm_en u = false ∨ (s.monUnit u).alarmed = true ∨ v < s.getI F.TEL_MON_CFG_limit u := by
  rw [State.alarms_iff, not_and_or, not_and_or, Bool.not_eq_true, Bool.not_eq_false, not_le]

/-- The unit and its register once the alarm is raised. -/
def State.alarmed (s : State) (u : Nat) : State :=
  (s.setMonUnit u { s.monUnit u with alarmed := true }).put F.TEL_MON_STAT_alarm_evt 1 u

theorem State.monAlarm_eq (s : State) (u : Nat) (v : Int) : s.monAlarm u v =
    if s.alarms u v then ((s.alarmed u).logEvent 0x0012 u [unsigned 64 v]).pldm (.monitorAlarm u v) else s := rfl

/-- The record and the notice of an alarm leave the units and every field off the log as they are. -/
theorem State.reported_mon (s : State) (code unit : Nat) (args : List Nat) (e : PldmEvent) :
    ((s.logEvent code unit args).pldm e).mon = s.mon := by
  obtain ⟨l, r, logged⟩ := s.logEvent_eq code unit args
  obtain ⟨m, o, told⟩ := (s.logEvent code unit args).pldm_eq e
  rw [told, logged]

theorem State.reported_get (s : State) (code unit : Nat) (args : List Nat) (e : PldmEvent) {f : Fld} (off : f.offLog = true) (i : Nat) :
    ((s.logEvent code unit args).pldm e).get f i = s.get f i := by
  obtain ⟨m, o, told⟩ := (s.logEvent code unit args).pldm_eq e
  rw [told]
  exact s.logEvent_get code unit args off i

theorem State.reported_out (s : State) (code unit : Nat) (args : List Nat) (e : PldmEvent) :
    ((s.logEvent code unit args).pldm e).out = .pldm e :: s.out := by
  obtain ⟨l, r, logged⟩ := s.logEvent_eq code unit args
  rw [State.pldm_out, logged]

/-- An alarm changes no accumulator of its unit. -/
theorem State.monAlarm_same (s : State) (u : Nat) (v : Int) :
    (s.monAlarm u v).monUnit u = { s.monUnit u with alarmed := (s.monUnit u).alarmed || s.alarms u v } := by
  rw [s.monAlarm_eq u v]
  split
  next raised =>
    rw [State.monUnit_of_mon (State.reported_mon _ _ _ _ _), raised, Bool.or_true]
    exact s.setMonUnit_same u _
  next quiet =>
    rw [Bool.eq_false_iff.2 quiet, Bool.or_false]

theorem State.monAlarm_other (s : State) {u k : Nat} (v : Int) (apart : k ≠ u) : (s.monAlarm u v).monUnit k = s.monUnit k := by
  rw [s.monAlarm_eq u v]
  split
  · rw [State.monUnit_of_mon (State.reported_mon _ _ _ _ _)]
    exact s.setMonUnit_other _ apart
  · rfl

/-- Taking the sample does not change whether it raises the alarm. -/
theorem State.sampled_alarms (s : State) (u : Nat) (v : Int) : (s.sampled u v).alarms u v = s.alarms u v := by
  rw [State.alarms, s.sampled_same]
  rfl

/-! ## The commands -/

section
variable {s : State} {u : Fin 128} (within : s.time < (s.monUnit u).start + s.monWindow u)
include within

/-- Within a window, none has run out. -/
theorem State.monDue_of_within : s.monDue u = s := by
  have none : s.monWindow u = 0 ∨ (s.time - (s.monUnit u).start) / s.monWindow u = 0 := by
    rcases Nat.eq_zero_or_pos (s.monWindow u) with zero | pos
    · exact .inl zero
    · exact .inr (Nat.div_eq_of_lt (by omega))
  rw [State.monDue]
  exact if_pos none

variable (on : s.monOn u = true) (live : s.rst.keepers = false)
include on live

/-- The sample that decimation makes the unit take, and its alarm. -/
theorem exec_monitorSample_taken (x : BitVec 32) (turn : 2 ^ s.get F.TEL_MON_CFG_decimate u ≤ (s.monUnit u).skipped + 1) :
    exec (.monitorSample u x) s =
      .next ((s.sampled u x.toInt).monAlarm u x.toInt) := by
  change execMonitorSample u x s = _
  simp [execMonitorSample, State.sampled, on, live, State.monDue_of_within within, Nat.not_lt.2 turn]

/-- A sample that decimation passes over is counted only. -/
theorem exec_monitorSample_skipped (x : BitVec 32) (early : (s.monUnit u).skipped + 1 < 2 ^ s.get F.TEL_MON_CFG_decimate u) :
    exec (.monitorSample u x) s = .next (s.setMonUnit u { s.monUnit u with skipped := (s.monUnit u).skipped + 1 }) := by
  change execMonitorSample u x s = _
  simp [execMonitorSample, on, live, State.monDue_of_within within, early]

end

/-! ## The bin of a sample (R396) -/

section
variable (s : State) (u : Nat) (v : Int)

theorem State.monBin_linear (linear : s.get F.TEL_MON_CFG_log2 u = 0) : (s.monBin u v : Int) =
    max 0 (min 31 ((v - s.getI F.TEL_MON_CFG_lo u) / (2 ^ s.get F.TEL_MON_CFG_shift u : Nat))) := by
  simp only [State.monBin, State.isSet, linear]
  simp only [bne_self_eq_false, Bool.false_eq_true, if_false]
  omega

/-- The bin of the offset x from lo, where the bins are powers of two. -/
def log2Bin (sh x : Nat) : Nat := if x < 2 ^ sh then 0 else min 31 (Nat.log2 (x / 2 ^ sh) + 1)

theorem State.monBin_log2 (log2 : s.get F.TEL_MON_CFG_log2 u = 1) : s.monBin u v =
    log2Bin (s.get F.TEL_MON_CFG_shift u) (max (v - s.getI F.TEL_MON_CFG_lo u) 0).toNat := by
  simp only [State.monBin, State.isSet, log2]
  rfl

theorem log2Bin_le (sh x : Nat) : log2Bin sh x ≤ 31 := by
  unfold log2Bin
  split <;> omega

/-- A value lies in bin b or above where it reaches the bin's lower end. -/
theorem le_log2Bin_iff {sh x b : Nat} (one : 1 ≤ b) (last : b ≤ 31) : b ≤ log2Bin sh x ↔ 2 ^ (b - 1 + sh) ≤ x := by
  unfold log2Bin
  split
  next below =>
    have : 2 ^ sh ≤ 2 ^ (b - 1 + sh) := Nat.pow_le_pow_right (by decide) (by omega)
    omega
  next reached =>
    have some : x / 2 ^ sh ≠ 0 := (Nat.div_pos (Nat.not_lt.1 reached) (Nat.two_pow_pos sh)).ne'
    have digits : b - 1 ≤ Nat.log2 (x / 2 ^ sh) ↔ 2 ^ (b - 1 + sh) ≤ x := by
      rw [Nat.le_log2 some, Nat.le_div_iff_mul_le (Nat.two_pow_pos sh), Nat.pow_add]
    omega

end

/-! ## The statements -/

/-- Settles O56: the accumulators are those of `sampledMon`, which an alarm leaves, and the bin of a power of two is found by its
lower end. -/
theorem monitorAccumulates : Obligations.MonitorAccumulates := by
  unfold Obligations.MonitorAccumulates
  constructor
  · intro s u x on live within turn m v b full room
    refine ⟨_, exec_monitorSample_taken within on live x turn, ?_⟩
    dsimp only
    rw [State.monAlarm_same, State.sampled_same]
    refine ⟨rfl, rfl, rfl, satInt64_fst _, ?_, ?_, fun k apart => ?_, rfl, fun k apart => ?_⟩
    · change (m.saturated || (satInt64 (m.sum + v)).2 || decide (2 ^ 32 - 1 ≤ m.count)) = (m.saturated || full)
      rw [satInt64_snd, Bool.or_assoc, Bool.or_comm _ (decide (2 ^ 32 - 1 ≤ m.count)), ← Bool.or_assoc (decide (2 ^ 32 - 1 ≤ m.count))]
    · exact (SMap.get_set_same ..).trans (Nat.min_eq_left (Nat.succ_le_of_lt room))
    · exact SMap.get_set_other _ _ _ _ apart
    · rw [State.monAlarm_other _ _ apart, State.sampled_other _ _ apart]
  · intro s u v lo sh x
    refine ⟨s.monBin_linear u v, fun log2 => ?_⟩
    have reads : s.monBin u v = log2Bin sh x.toNat := s.monBin_log2 u v log2
    have inBin (b : Nat) (one : 1 ≤ b) (last : b ≤ 31) : b ≤ s.monBin u v ↔ ((2 ^ (b - 1 + sh) : Nat) : Int) ≤ x := by
      rw [reads, le_log2Bin_iff one last]
      omega
    have top : s.monBin u v ≤ 31 := reads ▸ log2Bin_le sh x.toNat
    refine ⟨?_, fun b one last => ?_, ?_⟩
    · have first := inBin 1 le_rfl (by decide)
      rw [Nat.sub_self, Nat.zero_add] at first
      omega
    · have this := inBin b one (by omega)
      have next := inBin (b + 1) (by omega) (by omega)
      rw [Nat.add_sub_cancel] at next
      omega
    · have final : 31 ≤ s.monBin u v ↔ ((2 ^ (30 + sh) : Nat) : Int) ≤ x := inBin 31 (by decide) le_rfl
      omega

end Sys2Proof.Machine

/-! SUPPORT. Signed fields, and runs of instances of one field written in turn. -/

namespace Sys2Proof.Machine

/-! ## Signed fields -/

theorem signed_mod (w v : Nat) : signed w (v % 2 ^ w) = signed w v := by
  rw [signed, signed, Nat.mod_mod]

/-- A field of n + 1 bits that was written a signed value which fits it reads as that value. -/
theorem State.getI_of_written {s : State} {f : Fld} {i n : Nat} {v : Int} (width : f.width = n + 1)
    (written : s.get f i = unsigned (n + 1) v % 2 ^ (n + 1)) (lo : -(2 ^ n : Int) ≤ v) (hi : v < 2 ^ n) : s.getI f i = v := by
  rw [State.getI, width, written, signed_mod, signed_unsigned] <;> push_cast <;> omega

theorem State.putI_get_same (s : State) (f : Fld) (v : Int) (i : Nat) : (s.putI f v i).get f i = unsigned f.width v % 2 ^ f.width :=
  s.put_get_same f _ i

theorem State.putI_get_apart (s : State) {f g : Fld} (hf : f.code < 1024) (hg : g.code < 1024) (h : g.code ≠ f.code) (v : Int) (i j : Nat) :
    (s.putI f v i).get g j = s.get g j := s.put_get_apart hf hg h _ i j

theorem RegsOnly.putB {s t : State} (h : RegsOnly s t) (f : Fld) (b : Bool) (i : Nat) : RegsOnly s (t.putB f b i) := h.put f _ i

theorem RegsOnly.putI {s t : State} (h : RegsOnly s t) (f : Fld) (v : Int) (i : Nat) : RegsOnly s (t.putI f v i) := h.put f _ i

theorem RegsOnly.monUnit {s t : State} (h : RegsOnly s t) (u : Nat) : t.monUnit u = s.monUnit u := by
  rw [h]
  rfl

/-! ## Runs of instances of one field -/

/-- Write g b into instance k b of a field, for each b below n in turn. -/
def State.putRun (s : State) (f : Fld) (g k : Nat → Nat) (n : Nat) : State := (List.range n).foldl (fun s b => s.put f (g b) (k b)) s

section
variable (s : State) (f : Fld) (g k : Nat → Nat) (n : Nat)

theorem State.putRun_succ : s.putRun f g k (n + 1) = (s.putRun f g k n).put f (g n) (k n) := by
  rw [State.putRun, List.range_succ, List.foldl_append]
  rfl

theorem State.putRun_regsOnly : RegsOnly s (s.putRun f g k n) := by
  induction n with
  | zero => exact RegsOnly.refl s
  | succ n ih =>
    rw [s.putRun_succ]
    exact ih.put f _ _

theorem State.putRun_get_apart {f h : Fld} (hf : f.code < 1024) (hh : h.code < 1024) (apart : h.code ≠ f.code) (j : Nat) :
    (s.putRun f g k n).get h j = s.get h j :=
  foldl_keeps (fun s => s.get h j) (fun s b => s.put_get_apart hf hh apart (g b) (k b) j) (List.range n) s

/-- Each instance written holds its value, where no two are the same instance. -/
theorem State.putRun_get (inj : ∀ a b, k a = k b → a = b) {b : Nat} (listed : b < n) :
    (s.putRun f g k n).get f (k b) = g b % 2 ^ f.width := by
  induction n with
  | zero => exact absurd listed (Nat.not_lt_zero b)
  | succ n ih =>
    rw [s.putRun_succ]
    by_cases last : b = n
    · rw [last, State.put_get_same]
    · rw [State.put_get_other _ fun same => last (inj _ _ (Fld.key_inj.1 same))]
      exact ih (by omega)

end

end Sys2Proof.Machine

/-! O57: alarms, decimation and the ends of windows (R397-R399). -/

namespace Sys2Proof.Machine

/-! ## Windows end (R397) -/

/-- The read bank of unit u as the end of a window writes it, but for the histogram. -/
def State.readBank (s : State) (u : Nat) (isPartial : Bool) : State :=
  let m := s.monUnit u
  (((((((s.put F.TEL_MON_STAT_seq (s.get F.TEL_MON_STAT_seq u + 1) u).put F.TEL_MON_STAT_count m.count u).putB
    F.TEL_MON_STAT_saturated m.saturated u).putB F.TEL_MON_STAT_partial (isPartial || m.cut) u).putI F.TEL_MON_MINMAX_min m.min u).putI
    F.TEL_MON_MINMAX_max m.max u).putI F.TEL_MON_SUM_sum m.sum u)

theorem State.monEnd_eq (s : State) (u t : Nat) (isPartial : Bool) : s.monEnd u t isPartial =
    ((s.readBank u isPartial).putRun F.TEL_MON_HIST_count (fun b => SMap.get 0 (s.monUnit u).hist b) (fun b => 32 * u + b) 32).setMonUnit u
      { start := t, skipped := (s.monUnit u).skipped } := rfl

section
variable (s : State) (u t : Nat) (isPartial : Bool)

theorem State.readBank_regsOnly : RegsOnly s (s.readBank u isPartial) := by
  unfold State.readBank
  exact (((RegsOnly.refl s).put _ _ _).put _ _ _).putB _ _ _ |>.putB _ _ _ |>.putI _ _ _ |>.putI _ _ _ |>.putI _ _ _

/-- The end of a window changes registers and its unit, nothing else. -/
theorem State.monEnd_frame : s.monEnd u t isPartial =
    { s with regs := (s.monEnd u t isPartial).regs, mon := (s.monEnd u t isPartial).mon } := by
  have run := (s.readBank_regsOnly u isPartial).trans
    (State.putRun_regsOnly _ F.TEL_MON_HIST_count (fun b => SMap.get 0 (s.monUnit u).hist b) (fun b => 32 * u + b) 32)
  rw [s.monEnd_eq, run]
  rfl

theorem State.monEnd_same : (s.monEnd u t isPartial).monUnit u = { start := t, skipped := (s.monUnit u).skipped } := by
  rw [s.monEnd_eq, State.setMonUnit_same]

theorem State.monEnd_other {k : Nat} (apart : k ≠ u) : (s.monEnd u t isPartial).monUnit k = s.monUnit k := by
  have run := (s.readBank_regsOnly u isPartial).trans
    (State.putRun_regsOnly _ F.TEL_MON_HIST_count (fun b => SMap.get 0 (s.monUnit u).hist b) (fun b => 32 * u + b) 32)
  rw [s.monEnd_eq, State.setMonUnit_other _ _ apart, run.monUnit]

/-- The bins move to the read bank. -/
theorem State.monEnd_hist {b : Nat} (bin : b < 32) : (s.monEnd u t isPartial).get F.TEL_MON_HIST_count (32 * u + b) =
    SMap.get 0 (s.monUnit u).hist b % 2 ^ F.TEL_MON_HIST_count.width := by
  rw [s.monEnd_eq, State.setMonUnit_get]
  exact State.putRun_get _ _ _ _ _ (fun a b same => Nat.add_left_cancel same) bin

/-- Every other field reads as the bank wrote it. -/
theorem State.monEnd_get {f : Fld} (low : f.code < 1024) (apart : f.code ≠ F.TEL_MON_HIST_count.code) (i : Nat) :
    (s.monEnd u t isPartial).get f i = (s.readBank u isPartial).get f i := by
  rw [s.monEnd_eq, State.setMonUnit_get]
  exact State.putRun_get_apart _ _ _ _ (by decide) low apart i

/-- What the read bank shows of a window. -/
theorem State.readBank_shows :
    (s.readBank u isPartial).get F.TEL_MON_STAT_seq u = (s.get F.TEL_MON_STAT_seq u + 1) % 2 ^ 24 ∧
    (s.readBank u isPartial).get F.TEL_MON_STAT_count u = (s.monUnit u).count % 2 ^ 32 ∧
    (s.readBank u isPartial).isSet F.TEL_MON_STAT_saturated u = (s.monUnit u).saturated ∧
    (s.readBank u isPartial).isSet F.TEL_MON_STAT_partial u = (isPartial || (s.monUnit u).cut) := by
  unfold State.readBank State.isSet
  simp (disch := decide) only [State.put_get_apart, State.putI_get_apart, State.put_get_same, State.putB]
  refine ⟨rfl, rfl, ?_, ?_⟩
  · cases (s.monUnit u).saturated <;> rfl
  · cases isPartial || (s.monUnit u).cut <;> rfl

/-- Minimum, maximum and sum as the read bank holds them. -/
theorem State.readBank_holds :
    (s.readBank u isPartial).get F.TEL_MON_MINMAX_min u = unsigned 32 (s.monUnit u).min % 2 ^ 32 ∧
    (s.readBank u isPartial).get F.TEL_MON_MINMAX_max u = unsigned 32 (s.monUnit u).max % 2 ^ 32 ∧
    (s.readBank u isPartial).get F.TEL_MON_SUM_sum u = unsigned 64 (s.monUnit u).sum % 2 ^ 64 := by
  unfold State.readBank
  simp (disch := decide) only [State.putI_get_apart, State.putI_get_same]
  exact ⟨rfl, rfl, rfl⟩

end

/-! ## The commands -/

/-- Where one window has run out, it ends at its time. -/
theorem State.monDue_once {s : State} {u : Nat} (some : s.monWindow u ≠ 0) (once : (s.time - (s.monUnit u).start) / s.monWindow u = 1) :
    s.monDue u = s.monEnd u ((s.monUnit u).start + s.monWindow u) false := by
  simp only [State.monDue, once]
  rw [if_neg (by simp [some]), if_pos trivial]

/-- At a window's end that has come, the window runs out exactly once. -/
theorem exec_monitorWindowEnd {s : State} {u : Fin 128} (on : s.monOn u = true) (live : s.rst.keepers = false) (some : 0 < s.monWindow u)
    (early : s.time ≤ (s.monUnit u).start + s.monWindow u) : exec (.monitorWindowEnd u) s =
      .next (State.monEnd { s with time := (s.monUnit u).start + s.monWindow u } u ((s.monUnit u).start + s.monWindow u) false) := by
  have arrives : s.due ((s.monUnit u).start + s.monWindow u) = { s with time := (s.monUnit u).start + s.monWindow u } := by
    rw [State.due, max_eq_right early]
  have once : ((s.monUnit u).start + s.monWindow u - (s.monUnit u).start) / s.monWindow u = 1 := by
    rw [Nat.add_sub_cancel_left, Nat.div_self some]
  change execMonitorWindowEnd u s = _
  simp only [execMonitorWindowEnd, on, live, arrives]
  exact congrArg _ (State.monDue_once some.ne' once)

/-- Settles O57: the alarm is raised by the first sample at the limit; a window's end moves what the unit holds to the read bank. -/
theorem monitors : Obligations.Monitors := by
  unfold Obligations.Monitors
  refine ⟨?_, fun s u x off => ?_, fun s u on live some early => ?_⟩
  · intro s u x on live within m v
    refine ⟨fun turn => ⟨fun enabled first reached => ?_, fun quiet => ?_⟩, fun early => ?_⟩
    · have run := exec_monitorSample_taken within on live x turn
      rw [State.monAlarm_eq, State.sampled_alarms, if_pos (State.alarms_iff.2 ⟨enabled, first, reached⟩)] at run
      refine ⟨_, run, ?_, ?_, State.reported_out _ _ _ _ _⟩
      · rw [State.reported_get _ _ _ _ _ (by decide)]
        exact State.put_get_same _ _ _ _
      · rw [State.monUnit_of_mon (State.reported_mon _ _ _ _ _)]
        exact congrArg Mon.alarmed (State.setMonUnit_same _ _ _)
    · have run := exec_monitorSample_taken within on live x turn
      rw [State.monAlarm_eq, State.sampled_alarms, if_neg (State.not_alarms_iff.2 quiet)] at run
      exact ⟨_, run, (congrArg Mon.alarmed (s.sampled_same u v)).trans rfl, rfl⟩
    · exact ⟨_, exec_monitorSample_skipped within on live x early, s.setMonUnit_same _ _, rfl⟩
  · constructor
    · change execMonitorSample u x s = _
      rcases off with off | off <;> simp [execMonitorSample, off]
    · change execMonitorWindowEnd u s = _
      rcases off with off | off <;> simp [execMonitorWindowEnd, off]
  · intro m
    refine ⟨_, exec_monitorWindowEnd on live some early, ?_⟩
    have frame := State.monEnd_frame { s with time := m.start + s.monWindow u } u (m.start + s.monWindow u) false
    have apart {f : Fld} (low : f.code < 1024) (other : f.code ≠ F.TEL_MON_HIST_count.code) (i : Nat) :=
      State.monEnd_get { s with time := m.start + s.monWindow u } u (m.start + s.monWindow u) false low other i
    obtain ⟨seq, count, saturated, isPartial⟩ := State.readBank_shows { s with time := m.start + s.monWindow u } u false
    obtain ⟨least, greatest, sum⟩ := State.readBank_holds { s with time := m.start + s.monWindow u } u false
    refine ⟨by rw [frame], (apart (by decide) (by decide) _).trans seq, (apart (by decide) (by decide) _).trans count,
      ?_, ?_, ?_, ?_, ?_, fun b bin => State.monEnd_hist _ _ _ _ bin, ?_, fun k other => State.monEnd_other _ _ _ _ other, ?_⟩
    · rw [State.isSet, apart (by decide) (by decide)]
      exact saturated
    · rw [State.isSet, apart (by decide) (by decide)]
      exact isPartial
    · exact State.getI_of_written (by decide) ((apart (by decide) (by decide) _).trans least)
    · exact State.getI_of_written (by decide) ((apart (by decide) (by decide) _).trans greatest)
    · exact State.getI_of_written (by decide) ((apart (by decide) (by decide) _).trans sum)
    · rw [State.monEnd_same, frame]
      rfl
    · exact frame

end Sys2Proof.Machine

/-! O58: margins, the error log and management reads (R400-R405). -/

namespace Sys2Proof.Machine

/-! ## Margins (R400, R402) -/

/-- A record that finds room is staged with the time of its writing. -/
theorem State.logPut_stagedNow {s : State} (b : LogBody) (room : s.log.staged.length < 8192) :
    ∃ e : LogEntry, (s.logPut b).log.staged = s.log.staged ++ [e] ∧ e.time = s.time ∧ e.body = b := by
  refine ⟨{ seq := s.log.nextSeq, time := s.time, cal := s.calNow, epoch := s.epoch, body := b }, ?_, rfl, rfl⟩
  rw [State.logPut, if_pos room]
  rfl

section
variable {s : State} {kind : MarginKind} {unit sub : Nat} {v : Int}

theorem exec_marginMeasurement_of_absent (absent : marginHas kind unit sub = false) :
    exec (.marginMeasurement kind unit sub v) s = .fault .illFormed := by
  change execMarginMeasurement kind unit sub v s = _
  simp [execMarginMeasurement, absent]

variable (has : marginHas kind unit sub = true) (island : s.boot.island = true)
include has island

/-- Outside the DRAM kinds a unit that is there is measured at once. -/
theorem exec_marginMeasurement (notV : kind ≠ .dramV) (notT : kind ≠ .dramT) (notRx : kind ≠ .optRx) :
    exec (.marginMeasurement kind unit sub v) s =
      .next (if v < ((s.marginSample kind unit sub v).marginLimits kind unit).2 then (s.marginSample kind unit sub v).marginFloor kind unit sub
        else s.marginSample kind unit sub v) := by
  change execMarginMeasurement kind unit sub v s = _
  simp [execMarginMeasurement, has, island, notV, notT, notRx]

end

/-- At or above both levels, a unit that has shown nothing stays so. -/
theorem State.marginSample_of_good {s : State} {kind : MarginKind} {unit sub : Nat} {v : Int}
    (fine : (SMap.get {} s.margins (marginKey kind.code unit sub)).severity = 0)
    (floor : (s.marginLimits kind unit).2 ≤ v) (warn : (s.marginLimits kind unit).1 ≤ v) : s.marginSample kind unit sub v = s := by
  simp [State.marginSample, State.marginAt, fine, Int.not_lt.2 floor, Int.not_lt.2 warn]

/-- The first measurement below the floor is recorded with severity 2 and announced. -/
theorem State.marginSample_of_low {s : State} {kind : MarginKind} {unit sub : Nat} {v : Int}
    (first : (SMap.get {} s.margins (marginKey kind.code unit sub)).severity < 2) (low : v < (s.marginLimits kind unit).2) :
    s.marginSample kind unit sub v =
      (State.logPut { s with margins := SMap.set {} s.margins (marginKey kind.code unit sub) { severity := 2, recorded := s.time } }
        (.margin kind.code 2 unit sub v (s.marginLimits kind unit).2)).pldm (.marginFloor kind.code unit sub) := by
  simp [State.marginSample, State.marginAt, low, first]

theorem marginMeasurement_low {s : State} {kind : MarginKind} {unit sub : Nat} {v : Int} (has : marginHas kind unit sub = true)
    (island : s.boot.island = true) (plain : kind = .laserTrend ∨ kind = .coreSlack)
    (first : (SMap.get {} s.margins (marginKey kind.code unit sub)).severity < 2) (room : s.log.staged.length < 8192)
    (low : v < (s.marginLimits kind unit).2) : Gives (.marginMeasurement kind unit sub v) s fun t =>
      (∃ e, t.log.staged = s.log.staged ++ [e] ∧ e.time = s.time ∧ e.body = .margin kind.code 2 unit sub v (s.marginLimits kind unit).2) ∧
      (SMap.get {} t.margins (marginKey kind.code unit sub)).severity = 2 ∧ t.out = .pldm (.marginFloor kind.code unit sub) :: s.out ∧
      t = { s with log := t.log, regs := t.regs, margins := t.margins, mgmt := t.mgmt, out := t.out } := by
  have harmless (u : State) : u.marginFloor kind unit sub = u := by
    rcases plain with rfl | rfl <;> rfl
  have run := exec_marginMeasurement (v := v) has island (by rintro rfl; simp at plain) (by rintro rfl; simp at plain)
    (by rintro rfl; simp at plain)
  rw [harmless, ite_self, State.marginSample_of_low first low] at run
  refine ⟨_, run, ?_⟩
  generalize marked : ({ s with margins := _ } : State) = u
  obtain ⟨e, staged, time, body⟩ := State.logPut_stagedNow (s := u) (.margin kind.code 2 unit sub v (s.marginLimits kind unit).2)
    (by rw [← marked]; exact room)
  obtain ⟨l, r, logged⟩ := u.logPut_eq (.margin kind.code 2 unit sub v (s.marginLimits kind unit).2)
  obtain ⟨m, o, told⟩ := (u.logPut (.margin kind.code 2 unit sub v (s.marginLimits kind unit).2)).pldm_eq (.marginFloor kind.code unit sub)
  subst marked
  refine ⟨⟨e, ?_, time, body⟩, ?_, ?_, ?_⟩
  · rw [told]
    exact staged
  · rw [told, logged]
    simp
  · rw [State.pldm_out, logged]
  · rw [told, logged]

/-! ## The error log (R403) -/

/-- The entry as TEL_LOG_DATA presents it. -/
def ErrorLog.image (l : ErrorLog) (seq : Nat) : List Byte :=
  match l.find seq with
  | some e => e.bytes
  | none => List.replicate 64 0

theorem State.showLog_eq (s : State) : s.showLog =
    s.putRun F.TEL_LOG_DATA_data (fun i => fieldAt (s.log.image (s.get F.TEL_LOG_SEL_seq 0)) (8 * i) 8) id 8 := rfl

theorem ErrorLog.image_of_found {l : ErrorLog} {seq : Nat} {e : LogEntry} (found : l.find seq = some e) : l.image seq = e.bytes := by
  rw [ErrorLog.image, found]

theorem ErrorLog.image_of_absent {l : ErrorLog} {seq : Nat} (absent : l.find seq = none) : l.image seq = List.replicate 64 0 := by
  rw [ErrorLog.image, absent]

theorem State.showLog_regsOnly (s : State) : RegsOnly s s.showLog := s.putRun_regsOnly _ _ _ _

theorem State.showLog_get_apart (s : State) {f : Fld} (low : f.code < 1024) (apart : f.code ≠ F.TEL_LOG_DATA_data.code) (i : Nat) :
    s.showLog.get f i = s.get f i := s.putRun_get_apart _ _ _ (by decide) low apart i

theorem State.showLog_data (s : State) {i : Nat} (word : i < 8) :
    s.showLog.get F.TEL_LOG_DATA_data i = fieldAt (s.log.image (s.get F.TEL_LOG_SEL_seq 0)) (8 * i) 8 := by
  rw [s.showLog_eq]
  exact (State.putRun_get _ _ _ _ _ (fun _ _ same => same) word).trans (Nat.mod_eq_of_lt (fieldAt_lt _ _ 8))

/-- Staged entries moved to the flash ring, before its status shows it. -/
def State.flushed (s : State) : State :=
  { s with log := { s.log with staged := [], flash := (s.log.flash ++ s.log.staged).drop ((s.log.flash ++ s.log.staged).length - logRing) } }

theorem State.logToFlash_shows (s : State) : s.logToFlash = (s.flushed.put F.TEL_LOG_STAT_held 0 0).showLog := rfl

theorem logFlush_gives {s : State} (island : s.boot.island = true) (written : s.mem.remapToWrite = []) : Gives .logFlush s fun t =>
    let l := s.log.flash ++ s.log.staged
    t.log = { s.log with staged := [], flash := l.drop (l.length - 753664) } ∧ t.get F.TEL_LOG_STAT_held 0 = 0 ∧
    t = { s with log := t.log, regs := t.regs } := by
  have run : exec .logFlush s = .next s.logToFlash := by
    change execLogFlush s = _
    simp [execLogFlush, island, written]
  have frame : s.logToFlash = { s.flushed with regs := s.logToFlash.regs } :=
    (RegsOnly.put (RegsOnly.refl s.flushed) F.TEL_LOG_STAT_held 0 0).trans (State.showLog_regsOnly _)
  refine ⟨_, run, ?_, ?_, ?_⟩
  · rw [frame]
    rfl
  · rw [s.logToFlash_shows, State.showLog_get_apart _ (by decide) (by decide), State.put_get_same]
    rfl
  · rw [frame]
    generalize s.logToFlash.regs = r
    rfl

theorem logSelectWrite_gives {s : State} {w : BarAcc} (reaches : Reaches s .TEL_LOG_SEL 0 w 0) : Gives (.logSelectWrite w) s fun t =>
    t.get F.TEL_LOG_SEL_seq 0 = w.merge F.TEL_LOG_SEL_seq (s.get F.TEL_LOG_SEL_seq 0) % 2 ^ F.TEL_LOG_SEL_seq.width ∧
    (∀ e, s.log.find (t.get F.TEL_LOG_SEL_seq 0) = some e → ∀ i < 8, t.get F.TEL_LOG_DATA_data i = fieldAt e.bytes (8 * i) 8) ∧
    (s.log.find (t.get F.TEL_LOG_SEL_seq 0) = none → ∀ i < 8, t.get F.TEL_LOG_DATA_data i = 0) ∧ t = { s with regs := t.regs } := by
  have run : exec (.logSelectWrite w) s =
      .next (s.put F.TEL_LOG_SEL_seq (w.merge F.TEL_LOG_SEL_seq (s.get F.TEL_LOG_SEL_seq 0)) 0).showLog := by
    change execLogSelectWrite w s = _
    rw [execLogSelectWrite, reaches.onWrite]
  refine ⟨_, run, ?_⟩
  generalize selected : s.put F.TEL_LOG_SEL_seq _ 0 = u
  have only : RegsOnly s u.showLog := by
    refine RegsOnly.trans ?_ u.showLog_regsOnly
    rw [← selected]
    exact (RegsOnly.refl s).put _ _ _
  have shows : u.showLog.get F.TEL_LOG_SEL_seq 0 = u.get F.TEL_LOG_SEL_seq 0 := u.showLog_get_apart (by decide) (by decide) 0
  have log : u.log = s.log := by rw [← selected]; rfl
  refine ⟨?_, fun e found i word => ?_, fun absent i word => ?_, only⟩
  · rw [shows, ← selected, State.put_get_same]
  · rw [shows, ← log] at found
    rw [u.showLog_data word, ErrorLog.image_of_found found]
  · rw [shows, ← log] at absent
    rw [u.showLog_data word, ErrorLog.image_of_absent absent]
    have : ∀ i < 8, fieldAt (List.replicate 64 0) (8 * i) 8 = 0 := by decide
    exact this i word

/-! ## Management reads (R404, R405) -/

theorem exec_pldmSensorRead {s : State} (up : s.mgmtUp = true) (item : PldmItem) : exec (.pldmSensorRead item) s =
    .next (s.emit (if s.romServes && !item.rom then .pldmRefused else s.pldmItem item)) := by
  change execPldmSensorRead item s = _
  simp [execPldmSensorRead, up]

/-! ## The statement -/

/-- Settles O58: a margin is judged by the levels of its kind, the log goes to flash whole, and reads answer what the registers hold. -/
theorem marginsAndLog : Obligations.MarginsAndLog := by
  unfold Obligations.MarginsAndLog
  refine ⟨fun s kind unit sub v => exec_marginMeasurement_of_absent, ?_, fun s kind unit sub v => marginMeasurement_low,
    fun s => logFlush_gives, fun s owed => ?_, fun s w => logSelectWrite_gives, fun s i up => ⟨fun firmware low => ?_, fun rom => ?_, ?_⟩⟩
  · intro s kind unit sub v has island notV notT notRx fine floor warn
    rw [exec_marginMeasurement has island notV notT notRx, State.marginSample_of_good fine floor warn, if_neg (Int.not_lt.2 floor)]
  · change execLogFlush s = _
    simp [execLogFlush, owed]
  · rw [exec_pldmSensorRead up, firmware, Bool.false_and, if_neg Bool.false_ne_true, State.pldmItem, if_pos low,
      State.emit_of_not_toHost s rfl]
  · have unserved : (PldmItem.temperature i).rom = false := rfl
    rw [exec_pldmSensorRead up, rom, unserved, Bool.not_false, Bool.and_self, if_pos rfl, State.emit_of_not_toHost s rfl]
  · intro boot
    rw [exec_pldmSensorRead up, PldmItem.rom, Bool.not_true, Bool.and_false, if_neg Bool.false_ne_true,
      State.emit_of_not_toHost s rfl]
    rfl

end Sys2Proof.Machine

/-! O59: firmware update and anti-rollback (R406, R407, R411, R413). -/

namespace Sys2Proof.Machine

/-! ## Slots -/

theorem State.otherSlot_lt (s : State) : s.otherSlot < 2 := by
  rw [State.otherSlot]
  omega

/-- A slot shows what it was marked. -/
theorem State.setSlotValid_same (s : State) {k : Nat} (slot : k < 2) (b : Bool) : (s.setSlotValid k b).slotValid k = b := by
  rw [State.slotValid, State.setSlotValid, State.put_get_same]
  generalize s.slotValid (1 - k) = other
  have : k = 0 ∨ k = 1 := by omega
  rcases this with rfl | rfl <;> cases b <;> cases other <;> decide

/-- Whether a slot is valid depends on its register field alone. -/
theorem State.slotValid_congr {s t : State} (h : t.get F.SEC_FW_STAT_valid 0 = s.get F.SEC_FW_STAT_valid 0) (k : Nat) :
    t.slotValid k = s.slotValid k := by
  rw [State.slotValid, h, State.slotValid]

theorem State.slotSv_congr {s t : State} (a : t.get F.SEC_FW_STAT_sv_a 0 = s.get F.SEC_FW_STAT_sv_a 0)
    (b : t.get F.SEC_FW_STAT_sv_b 0 = s.get F.SEC_FW_STAT_sv_b 0) (k : Nat) : t.slotSv k = s.slotSv k := by
  rw [State.slotSv, State.slotSv]
  split
  · exact a
  · exact b

theorem State.setSlotSv_get_apart (s : State) (k v : Nat) {f : Fld} (low : f.code < 1024) (a : f.code ≠ F.SEC_FW_STAT_sv_a.code)
    (b : f.code ≠ F.SEC_FW_STAT_sv_b.code) (i : Nat) : (s.setSlotSv k v).get f i = s.get f i := by
  rw [State.setSlotSv]
  split
  · exact s.put_get_apart (by decide) low a _ _ _
  · exact s.put_get_apart (by decide) low b _ _ _

theorem State.setSlotSv_same (s : State) (k : Nat) {v : Nat} (fits : v < 2 ^ 7) : (s.setSlotSv k v).slotSv k = v := by
  rw [State.slotSv, State.setSlotSv, State.put_get_same]
  have width : (if k = 0 then F.SEC_FW_STAT_sv_a else F.SEC_FW_STAT_sv_b).width = 7 := by split <;> rfl
  rw [width, Nat.mod_eq_of_lt fits]

/-! ## Measurements and records of firmware (R408, R413) -/

section
variable (s : State) (slot what : Nat)

/-- A measurement changes the list of measurements and what a log entry changes. -/
theorem State.measure_frame (i : Nat) (content : List Nat) :
    ∃ r l m, s.measure i content = { s with regs := r, log := l, mgmt := { s.mgmt with meas := m } } := by
  simp only [State.measure]
  split
  · obtain ⟨l, r, logged⟩ := State.logEvent_eq { s with mgmt := { s.mgmt with meas := SMap.set [] s.mgmt.meas i content } } 0x0014 0 [i]
    exact ⟨r, l, _, logged⟩
  · exact ⟨s.regs, s.log, _, rfl⟩

theorem State.measureFw_eq : ∃ r l m, s.measureFw = { s with regs := r, log := l, mgmt := { s.mgmt with meas := m } } :=
  s.measure_frame 3 _

theorem State.measureFw_mgmt : ∃ m, s.measureFw.mgmt = { s.mgmt with meas := m } := by
  obtain ⟨r, l, m, frame⟩ := s.measureFw_eq
  exact ⟨m, by rw [frame]⟩

theorem State.logFw_eq : ∃ l r, s.logFw slot what = { s with log := l, regs := r } := s.logEvent_eq _ _ _

theorem State.logFw_mgmt : (s.logFw slot what).mgmt = s.mgmt := by
  obtain ⟨l, r, frame⟩ := s.logFw_eq slot what
  rw [frame]

theorem State.measureFw_get {f : Fld} (off : f.offLog = true) (i : Nat) : s.measureFw.get f i = s.get f i := s.measure_get 3 _ off i

theorem State.logFw_get {f : Fld} (off : f.offLog = true) (i : Nat) : (s.logFw slot what).get f i = s.get f i :=
  s.logEvent_get _ _ _ off i

end

/-! ## FW_UPDATE_TRANSFER (R411) -/

/-- The slot that is not active made invalid, with the update shown and recorded. -/
def State.updateBegun (s : State) : State :=
  ((s.setSlotValid s.otherSlot false).put F.SEC_FW_STAT_updating 1 0).logFw s.otherSlot 0

theorem State.updateBegun_eq (s : State) : ∃ l r, s.updateBegun = { s with log := l, regs := r } := State.logFw_eq _ _ _

theorem State.updateBegun_get (s : State) {f : Fld} (off : f.offLog = true) (updating : f.code ≠ F.SEC_FW_STAT_updating.code)
    (valid : f.code ≠ F.SEC_FW_STAT_valid.code) (low : f.code < 1024) (i : Nat) : s.updateBegun.get f i = s.get f i := by
  rw [State.updateBegun, State.logFw_get _ _ _ off, State.put_get_apart _ (by decide) low updating]
  exact s.put_get_apart (by decide) low valid _ _ _

theorem State.updateBegun_shows (s : State) :
    s.updateBegun.slotValid s.otherSlot = false ∧ s.updateBegun.get F.SEC_FW_STAT_updating 0 = 1 := by
  constructor
  · refine (State.slotValid_congr (s := s.setSlotValid s.otherSlot false) ?_ _).trans (s.setSlotValid_same s.otherSlot_lt false)
    rw [State.updateBegun, State.logFw_get _ _ _ (by decide), State.put_get_apart _ (by decide) (by decide) (by decide)]
  · rw [State.updateBegun, State.logFw_get _ _ _ (by decide), State.put_get_same]
    rfl

/-- The bytes of the image received so far, and how far the transfer has come. -/
def State.received (s : State) (n : Nat) (fw : FwPhase) : State := { s with mgmt := { s.mgmt with fwBytes := n, fw := fw } }

/-- Bytes that reach slot k: refused beyond the slot's size; the last ones bring the security version. -/
def State.receive (s : State) (k n sv : Nat) (last : Bool) : State :=
  if 2 ^ 25 < s.mgmt.fwBytes + n then s.emit .pldmRefused
  else if last then ((s.received (s.mgmt.fwBytes + n) .written).setSlotSv k sv).measureFw
  else s.received (s.mgmt.fwBytes + n) .transferring

section
variable {s : State} {n : Nat} {sv : Fin 65} {last : Bool} (up : s.mgmtUp = true)
include up

theorem exec_fwUpdateTransfer_of_idle (idle : s.mgmt.fw = .idle) : exec (.fwUpdateTransfer n sv last) s =
    .next ((State.updateBegun { s with mgmt := { s.mgmt with fwBytes := 0 } }).receive s.otherSlot n sv last) := by
  change execFwUpdateTransfer n sv last s = _
  simp only [execFwUpdateTransfer, up, idle]
  cases last <;> rfl

theorem exec_fwUpdateTransfer_of_moving (moving : s.mgmt.fw = .transferring) : exec (.fwUpdateTransfer n sv last) s =
    .next (s.receive s.otherSlot n sv last) := by
  change execFwUpdateTransfer n sv last s = _
  simp only [execFwUpdateTransfer, up, moving]
  cases last <;> rfl

theorem exec_fwUpdateTransfer_refused (refused : s.mgmt.fw = .written ∨ s.mgmt.fw = .verified ∨
    (s.mgmt.fw = .transferring ∧ 2 ^ 25 < s.mgmt.fwBytes + n)) (last : Bool) :
    exec (.fwUpdateTransfer n sv last) s = .next { s with out := .pldmRefused :: s.out } := by
  change execFwUpdateTransfer n sv last s = _
  rw [← State.emit_of_not_toHost s rfl]
  rcases refused with written | verified | ⟨moving, long⟩
  · simp [execFwUpdateTransfer, up, written]
  · simp [execFwUpdateTransfer, up, verified]
  · exact (exec_fwUpdateTransfer_of_moving up moving).trans (congrArg _ (if_pos long))

theorem fwUpdateTransfer_begins (idle : s.mgmt.fw = .idle) (fits : n ≤ 2 ^ 25) : Gives (.fwUpdateTransfer n sv false) s fun t =>
    t.mgmt = { s.mgmt with fw := .transferring, fwBytes := n } ∧ t.slotValid s.otherSlot = false ∧ t.get F.SEC_FW_STAT_updating 0 = 1 ∧
    t.activeSlot = s.activeSlot ∧ t = { s with regs := t.regs, log := t.log, mgmt := t.mgmt } := by
  have run := exec_fwUpdateTransfer_of_idle (n := n) (sv := sv) (last := false) up idle
  generalize cleared : ({ s with mgmt := { s.mgmt with fwBytes := 0 } } : State) = u at run
  obtain ⟨l, r, frame⟩ := u.updateBegun_eq
  obtain ⟨invalid, updating⟩ := u.updateBegun_shows
  have active : u.updateBegun.activeSlot = u.activeSlot := u.updateBegun_get (by decide) (by decide) (by decide) (by decide) 0
  have count : u.updateBegun.mgmt.fwBytes + n = n := by
    rw [frame, ← cleared]
    exact Nat.zero_add n
  rw [State.receive, count, if_neg (Nat.not_lt.2 fits), if_neg Bool.false_ne_true] at run
  refine ⟨_, run, ?_, ?_, updating, ?_, ?_⟩
  · rw [frame, ← cleared]
    rfl
  · rw [← cleared] at invalid ⊢
    exact invalid
  · rw [← cleared] at active ⊢
    exact active
  · rw [frame, ← cleared]
    rfl

theorem fwUpdateTransfer_ends (moving : s.mgmt.fw = .transferring) (fits : s.mgmt.fwBytes + n ≤ 2 ^ 25) :
    Gives (.fwUpdateTransfer n sv true) s fun t =>
      t.mgmt.fw = .written ∧ t.mgmt.fwBytes = s.mgmt.fwBytes + n ∧ t.slotSv s.otherSlot = sv ∧ t.activeSlot = s.activeSlot := by
  refine ⟨_, (exec_fwUpdateTransfer_of_moving up moving).trans (congrArg _ (if_neg (Nat.not_lt.2 fits))), ?_⟩
  rw [if_pos rfl]
  generalize written : (s.received _ _).setSlotSv _ _ = u
  have mgmt : u.mgmt = { s.mgmt with fwBytes := s.mgmt.fwBytes + n, fw := .written } := by
    rw [← written]
    rfl
  obtain ⟨m, measured⟩ := u.measureFw_mgmt
  have small : sv.val < 2 ^ 7 := by omega
  have version : u.slotSv s.otherSlot = sv := by
    rw [← written]
    exact State.setSlotSv_same _ _ small
  have active : u.activeSlot = s.activeSlot := by
    rw [← written]
    exact State.setSlotSv_get_apart _ _ _ (by decide) (by decide) (by decide) 0
  refine ⟨by rw [measured, mgmt], by rw [measured, mgmt], ?_, (u.measureFw_get (by decide) 0).trans active⟩
  exact (State.slotSv_congr (u.measureFw_get (by decide) 0) (u.measureFw_get (by decide) 0) _).trans version

end

/-! ## FW_VERIFY, ACTIVATE_FIRMWARE, FIRMWARE_SLOT_SELECT (R406, R407, R411) -/

/-- The update at another point of its course. -/
def State.fwAt (s : State) (fw : FwPhase) : State := { s with mgmt := { s.mgmt with fw := fw } }

section
variable {s : State} (up : s.mgmtUp = true)
include up

theorem exec_fwVerify (written : s.mgmt.fw = .written) (keyOk sigOk : Bool) : exec (.fwVerify keyOk sigOk) s =
    .next (if keyOk && sigOk && decide (s.fused ≤ s.slotSv s.otherSlot) then
      ((s.fwAt .verified).setSlotValid s.otherSlot true).logFw s.otherSlot 1
      else (((s.fwAt .idle).setSlotValid s.otherSlot false).put F.SEC_FW_STAT_updating 0 0).logFw s.otherSlot 2) := by
  change execFwVerify keyOk sigOk s = _
  simp [execFwVerify, up, written, State.fwAt]

theorem fwVerify_passes (written : s.mgmt.fw = .written) {keyOk sigOk : Bool} (key : keyOk = true) (sig : sigOk = true)
    (new : s.fused ≤ s.slotSv s.otherSlot) : Gives (.fwVerify keyOk sigOk) s fun t =>
      t.mgmt = { s.mgmt with fw := .verified } ∧ t.slotValid s.otherSlot = true ∧ t = { s with regs := t.regs, log := t.log, mgmt := t.mgmt } := by
  have run := exec_fwVerify up written keyOk sigOk
  rw [if_pos (by simp [key, sig, new])] at run
  refine ⟨_, run, State.logFw_mgmt _ _ _, ?_, ?_⟩
  · exact (State.slotValid_congr (State.logFw_get _ _ _ (by decide) 0) _).trans (State.setSlotValid_same _ s.otherSlot_lt true)
  · obtain ⟨l, r, frame⟩ := State.logFw_eq ((s.fwAt .verified).setSlotValid s.otherSlot true) s.otherSlot 1
    rw [frame]
    rfl

theorem fwVerify_fails (written : s.mgmt.fw = .written) {keyOk sigOk : Bool}
    (bad : keyOk = false ∨ sigOk = false ∨ s.slotSv s.otherSlot < s.fused) : Gives (.fwVerify keyOk sigOk) s fun t =>
      t.mgmt = { s.mgmt with fw := .idle } ∧ t.slotValid s.otherSlot = false ∧ t.get F.SEC_FW_STAT_updating 0 = 0 ∧
      t = { s with regs := t.regs, log := t.log, mgmt := t.mgmt } := by
  have run := exec_fwVerify up written keyOk sigOk
  have fails : ¬ (keyOk && sigOk && decide (s.fused ≤ s.slotSv s.otherSlot)) = true := by
    rcases bad with bad | bad | bad <;> simp [bad]
  rw [if_neg fails] at run
  refine ⟨_, run, State.logFw_mgmt _ _ _, ?_, ?_, ?_⟩
  · refine (State.slotValid_congr (s := (s.fwAt .idle).setSlotValid s.otherSlot false) ?_ _).trans
      (State.setSlotValid_same _ s.otherSlot_lt false)
    rw [State.logFw_get _ _ _ (by decide), State.put_get_apart _ (by decide) (by decide) (by decide)]
  · rw [State.logFw_get _ _ _ (by decide), State.put_get_same]
    rfl
  · obtain ⟨l, r, frame⟩ := State.logFw_eq (((s.fwAt .idle).setSlotValid s.otherSlot false).put F.SEC_FW_STAT_updating 0 0) s.otherSlot 2
    rw [frame]
    rfl

theorem exec_activateFirmware : exec .activateFirmware s = .next (if s.mgmt.fw = .verified ∧ s.fused ≤ s.slotSv s.otherSlot then
    ((s.fwAt .idle).put F.SEC_FW_STAT_updating 0 0).markPending 3 else { s with out := .pldmRefused :: s.out }) := by
  change execActivateFirmware s = _
  rw [← State.emit_of_not_toHost s rfl]
  simp only [execActivateFirmware, up]
  rfl

theorem exec_firmwareSlotSelect : exec .firmwareSlotSelect s =
    .next (if s.slotValid s.otherSlot && decide (s.fused ≤ s.slotSv s.otherSlot) then s.markPending 5
      else { s with out := .pldmRefused :: s.out }) := by
  change execFirmwareSlotSelect s = _
  rw [← State.emit_of_not_toHost s rfl]
  simp only [execFirmwareSlotSelect, up]
  rfl

end

/-- Marking the other slot shows it pending, and leaves the phase of the update and the registers of the slots. -/
theorem State.markPending_shows (s : State) (what : Nat) : (s.markPending what).mgmt.fw = s.mgmt.fw ∧
    (s.markPending what).get F.SEC_FW_STAT_pending 0 = 1 ∧
    ∀ {f : Fld}, f.offLog = true → f.code < 1024 → f.code ≠ F.SEC_FW_STAT_pending.code → ∀ i, (s.markPending what).get f i = s.get f i := by
  obtain ⟨m, measured⟩ := (s.put F.SEC_FW_STAT_pending 1 0).measureFw_mgmt
  refine ⟨?_, ?_, fun off low apart i => ?_⟩
  · rw [State.markPending, State.logFw_mgmt, measured]
    rfl
  · rw [State.markPending, State.logFw_get _ _ _ (by decide), State.measureFw_get _ (by decide), State.put_get_same]
    rfl
  · rw [State.markPending, State.logFw_get _ _ _ off, State.measureFw_get _ off, State.put_get_apart _ (by decide) low apart]

theorem activateFirmware_marks {s : State} (up : s.mgmtUp = true) (verified : s.mgmt.fw = .verified)
    (new : s.fused ≤ s.slotSv s.otherSlot) : Gives .activateFirmware s fun t =>
      t.mgmt.fw = .idle ∧ t.get F.SEC_FW_STAT_pending 0 = 1 ∧ t.get F.SEC_FW_STAT_updating 0 = 0 ∧ t.activeSlot = s.activeSlot := by
  refine ⟨_, (exec_activateFirmware up).trans (congrArg _ (if_pos ⟨verified, new⟩)), ?_⟩
  obtain ⟨phase, pending, apart⟩ := ((s.fwAt .idle).put F.SEC_FW_STAT_updating 0 0).markPending_shows 3
  refine ⟨phase, pending, ?_, ?_⟩
  · rw [apart (by decide) (by decide) (by decide), State.put_get_same]
    rfl
  · rw [State.activeSlot, apart (by decide) (by decide) (by decide), State.put_get_apart _ (by decide) (by decide) (by decide)]
    rfl

theorem firmwareSlotSelect_marks {s : State} (up : s.mgmtUp = true) (valid : s.slotValid s.otherSlot = true)
    (new : s.fused ≤ s.slotSv s.otherSlot) : Gives .firmwareSlotSelect s fun t =>
      t.get F.SEC_FW_STAT_pending 0 = 1 ∧ t.activeSlot = s.activeSlot ∧ t.mgmt.fw = s.mgmt.fw := by
  refine ⟨_, (exec_firmwareSlotSelect up).trans (congrArg _ (if_pos (by simp [valid, new]))), ?_⟩
  obtain ⟨phase, pending, apart⟩ := s.markPending_shows 5
  exact ⟨pending, apart (by decide) (by decide) (by decide) 0, phase⟩

/-! ## Anti-rollback (R407) -/

theorem exec_rollbackAdvance {s : State} (up : s.mgmtUp = true) (v : Nat) : exec (.rollbackAdvance v) s =
    .next (if s.mayAdvance v then s.beginAdvance v else { s with out := .pldmRefused :: s.out }) := by
  change execRollbackAdvance v s = _
  rw [← State.emit_of_not_toHost s rfl]
  simp only [execRollbackAdvance, up]
  rfl

theorem exec_rollbackCtrlWrite {s : State} {w : BarAcc} (reaches : Reaches s .SEC_ROLLBACK_CTRL 0 w 0)
    (target : w.touches F.SEC_ROLLBACK_CTRL_target = true) : exec (.rollbackCtrlWrite w) s =
    .next (if s.mayAdvance (w.bits F.SEC_ROLLBACK_CTRL_target) then s.beginAdvance (w.bits F.SEC_ROLLBACK_CTRL_target) else s) := by
  change execRollbackCtrlWrite w s = _
  rw [execRollbackCtrlWrite, reaches.onWrite, target, Bool.true_and]

/-- An advance that begins is under way to its target. -/
theorem State.beginAdvance_shows (s : State) (v : Nat) : (s.beginAdvance v).mgmt = { s.mgmt with advance := some v } ∧
    (s.beginAdvance v).get F.SEC_ROLLBACK_CTRL_busy 0 = 1 ∧
    s.beginAdvance v = { s with regs := (s.beginAdvance v).regs, mgmt := (s.beginAdvance v).mgmt } :=
  ⟨rfl, State.put_get_same _ _ _ _, rfl⟩

/-- One more fuse blown. -/
def State.fuseCounted (s : State) : State := s.put F.SEC_ROLLBACK_CTRL_count (s.fused + 1) 0

/-- The advance ended. -/
def State.advanceEnded (s : State) : State := State.put { s with mgmt := { s.mgmt with advance := none } } F.SEC_ROLLBACK_CTRL_busy 0 0

theorem exec_fuseStepDone {s : State} {v : Nat} (advance : s.mgmt.advance = some v) : exec .fuseStepDone s =
    .next (if v ≤ s.fuseCounted.fused then s.fuseCounted.advanceEnded else s.fuseCounted).measureFw := by
  change execFuseStepDone s = _
  simp only [execFuseStepDone, advance]
  rfl

theorem State.fuseCounted_fused {s : State} (room : s.fused < 255) : s.fuseCounted.fused = s.fused + 1 :=
  (State.put_get_same _ _ _ _).trans (Nat.mod_eq_of_lt (show s.fused + 1 < 2 ^ 8 by omega))

theorem fuseStepDone_gives {s : State} {v : Nat} (advance : s.mgmt.advance = some v) (room : s.fused < 255) :
    Gives .fuseStepDone s fun t =>
      t.fused = s.fused + 1 ∧ (v ≤ s.fused + 1 → t.mgmt.advance = none ∧ t.get F.SEC_ROLLBACK_CTRL_busy 0 = 0) ∧
      (s.fused + 1 < v → t.mgmt.advance = some v) ∧ t = { s with regs := t.regs, mgmt := t.mgmt, log := t.log } := by
  have run := exec_fuseStepDone advance
  have count := State.fuseCounted_fused room
  rw [count] at run
  by_cases last : v ≤ s.fused + 1
  · rw [if_pos last] at run
    have fused : s.fuseCounted.advanceEnded.fused = s.fuseCounted.fused :=
      State.put_get_apart _ (by decide) (by decide) (by decide) _ _ _
    obtain ⟨r, l, m, frame⟩ := s.fuseCounted.advanceEnded.measureFw_eq
    refine ⟨_, run, (State.measureFw_get _ (by decide) 0).trans (fused.trans count), fun _ => ⟨?_, ?_⟩, fun more => absurd last (Nat.not_le.2 more), ?_⟩
    · rw [frame]
      rfl
    · exact (State.measureFw_get _ (by decide) 0).trans (State.put_get_same _ _ _ _)
    · rw [frame]
      rfl
  · rw [if_neg last] at run
    obtain ⟨r, l, m, frame⟩ := s.fuseCounted.measureFw_eq
    refine ⟨_, run, (s.fuseCounted.measureFw_get (by decide) 0).trans count, fun ends => absurd ends last, fun _ => ?_, ?_⟩
    · rw [frame]
      exact advance
    · rw [frame]
      rfl

/-! ## The statement -/

/-- Settles O59: what a slot, an update and the fused count show after each command, and what is refused. -/
theorem firmwareAndRollback : Obligations.FirmwareAndRollback := by
  unfold Obligations.FirmwareAndRollback
  refine ⟨fun s n sv up => ⟨fwUpdateTransfer_begins up, fwUpdateTransfer_ends up, fun refused last => exec_fwUpdateTransfer_refused up refused last⟩,
    fun s keyOk sigOk up written => ⟨fwVerify_passes up written, fwVerify_fails up written⟩,
    fun s up => ⟨activateFirmware_marks up, fun other => ?_, firmwareSlotSelect_marks up, fun invalid => ?_, fun v may => ?_, fun v not => ?_⟩,
    fun s w reaches target => ⟨fun may => ?_, fun not => ?_⟩, fun s v => fuseStepDone_gives, fun s idle => ?_⟩
  · exact (exec_activateFirmware up).trans (congrArg _ (if_neg fun both => other both.1))
  · exact (exec_firmwareSlotSelect up).trans (congrArg _ (if_neg (by simp [invalid])))
  · exact ⟨_, (exec_rollbackAdvance up v).trans (congrArg _ (if_pos may)), s.beginAdvance_shows v⟩
  · exact (exec_rollbackAdvance up v).trans (congrArg _ (if_neg (by simp [not])))
  · exact ⟨_, (exec_rollbackCtrlWrite reaches target).trans (congrArg _ (if_pos may)), s.beginAdvance_shows _⟩
  · exact (exec_rollbackCtrlWrite reaches target).trans (congrArg _ (if_neg (by simp [not])))
  · change execFuseStepDone s = _
    simp only [execFuseStepDone, idle]

end Sys2Proof.Machine

/-! O26: crash dumps from a descriptor and from the registers, their sections and their ends (R360-R363, Table 12.13). -/

namespace Sys2Proof.Machine

/-! ## A dump starts (R360, R362) -/

/-- The dump engine at the start of a dump. -/
def State.dumpAtStart (s : State) (trigger : Nat) (work : Option Work) (buffer size : Nat) (freeze : Bool) : Dump :=
  { running := true, trigger := trigger, work := work, buffer := buffer, size := size, freeze := freeze, since := s.time
    calendar := s.calNow.word, readAt := s.time, written := 4096, frozen := s.dump.frozen }

section
variable (s : State) (trigger : Nat) (work : Option Work) (buffer size : Nat) (freeze : Bool)

/-- The start of a dump changes the dump engine and registers. -/
theorem State.startDump_eq : ∃ r, s.startDump trigger work buffer size freeze =
    { s with dump := s.dumpAtStart trigger work buffer size freeze, regs := r } := ⟨_, rfl⟩

/-- Registers other than HUB_DUMP_STAT stay. -/
theorem State.startDump_get_apart {f : Fld} (low : f.code < 1024)
    (apart : ∀ g ∈ [F.HUB_DUMP_STAT_state, F.HUB_DUMP_STAT_unresponsive, F.HUB_DUMP_STAT_frozen, F.HUB_DUMP_STAT_written], f.code ≠ g.code)
    (i : Nat) : (s.startDump trigger work buffer size freeze).get f i = s.get f i := by
  simp only [List.forall_mem_cons] at apart
  obtain ⟨state, unresponsive, frozen, written, -⟩ := apart
  unfold State.startDump
  dsimp only
  rw [State.put_get_apart _ (by decide) low written, State.put_get_apart _ (by decide) low frozen,
    State.put_get_apart _ (by decide) low unresponsive, State.put_get_apart _ (by decide) low state]
  rfl

end

section
variable {s : State} {w : Work} {it : Item} (h : s.fresh w 0x0F = some it)
include h

theorem exec_dump_of_illegal {d : Nat} (bad : dumpFormat it.payload = some d) : exec (.dump w) s = .next (s.finish w .eFormat d) := by
  change execDump w s = _
  simp only [execDump, h, bad]

theorem exec_dump_of_legal (ok : dumpFormat it.payload = none) : exec (.dump w) s =
    .next (if s.dump.running ∨ s.quiescing ∨ s.stopActive then s else (s.begin_ w).startDump 0 (some w) (fieldAt it.payload 0 8)
      (fieldAt it.payload 8 4) (bitAt (fieldAt it.payload 12 1) 0)) := by
  change execDump w s = _
  simp only [execDump, h, ok]

/-- A legal DUMP starts its dump and goes on. -/
theorem dump_starts (ok : dumpFormat it.payload = none) (free : s.dump.running = false) (calm : s.quiescing = false)
    (going : s.stopActive = false) : Gives (.dump w) s fun t =>
      t.dump.running = true ∧ t.dump.work = some w ∧ t.dump.buffer = fieldAt it.payload 0 8 ∧ t.dump.size = fieldAt it.payload 8 4 ∧
      t.item w = some { it with phase := .busy } ∧ t.mem = s.mem ∧ t.spad = s.spad ∧ t.hubsp = s.hubsp := by
  have run := exec_dump_of_legal h ok
  rw [if_neg (by simp [free, calm, going])] at run
  obtain ⟨q, g, begun⟩ := s.setPhase_eq w .busy
  refine ⟨_, run, ?_⟩
  have busy : (s.begin_ w).item w = some { it with phase := .busy } := State.setPhase_item (State.item_of_fresh h).1 .busy
  generalize bitAt (fieldAt it.payload 12 1) 0 = freeze
  have store := (s.begin_ w).startDump_get_apart 0 (some w) (fieldAt it.payload 0 8) (fieldAt it.payload 8 4) freeze
    (f := F.HUB_GRAPH_STORE_base_mib) (by decide) (by decide) 0
  obtain ⟨r, started⟩ := (s.begin_ w).startDump_eq 0 (some w) (fieldAt it.payload 0 8) (fieldAt it.payload 8 4) freeze
  generalize (s.begin_ w).startDump 0 (some w) (fieldAt it.payload 0 8) (fieldAt it.payload 8 4) freeze = t at store started ⊢
  have item : t.item w = (s.begin_ w).item w :=
    State.item_congr (by rw [started]) (by rw [started]) (by rw [started]) store
  refine ⟨?_, ?_, ?_, ?_, item.trans busy, ?_, ?_, ?_⟩ <;> rw [started]
  case refine_1 | refine_2 | refine_3 | refine_4 => rfl
  all_goals rw [State.begin_, begun]

end

/-! ## DUMP_START (R360) -/

section
variable {s : State} {w : BarAcc} (reaches : Reaches s .HUB_DUMP_CTRL 0 w 0)
include reaches

theorem exec_dumpStart : exec (.dumpStart w) s =
    .next (if w.bits F.HUB_DUMP_CTRL_start = 1 then (s.writeReg .HUB_DUMP_CTRL 0 w).regDump 1 else s) := by
  change execDumpStart w s = _
  rw [execDumpStart, reaches.onWrite]

theorem dumpStart_starts (start : w.bits F.HUB_DUMP_CTRL_start = 1) (up : s.host.up = true) (free : s.dump.running = false)
    (buffer : s.get F.HUB_DUMP_ADDR_addr 0 ≠ 0) (size : 0x100 ≤ (s.writeReg .HUB_DUMP_CTRL 0 w).get F.HUB_DUMP_CTRL_size_4k 0) :
    Gives (.dumpStart w) s fun t =>
      t.dump.running = true ∧ t.dump.work = none ∧ t.dump.buffer = s.get F.HUB_DUMP_ADDR_addr 0 * 4096 ∧
      t.dump.size = (s.writeReg .HUB_DUMP_CTRL 0 w).get F.HUB_DUMP_CTRL_size_4k 0 * 4096 ∧ t.mem = s.mem ∧ t.spad = s.spad ∧
      t.hubsp = s.hubsp := by
  have wrote := s.writeReg_onlyRegs (r := .HUB_DUMP_CTRL) 0 w rfl
  have run := exec_dumpStart reaches
  rw [if_pos start] at run
  generalize s.writeReg .HUB_DUMP_CTRL 0 w = u at run size wrote ⊢
  have addr : u.get F.HUB_DUMP_ADDR_addr 0 = s.get F.HUB_DUMP_ADDR_addr 0 := wrote.get_eq (by decide)
  have frame := wrote.1
  have may : u.mayDump = true := by
    have free' : u.dump.running = false := by rw [frame]; exact free
    have up' : u.host.up = true := by rw [frame]; exact up
    simp [State.mayDump, free', up', addr, buffer, size]
  rw [State.regDump_of_may may] at run
  obtain ⟨r, started⟩ := u.startDump_eq 1 none (u.get F.HUB_DUMP_ADDR_addr 0 * 4096) (u.get F.HUB_DUMP_CTRL_size_4k 0 * 4096)
    (u.isSet F.HUB_DUMP_CTRL_allow_freeze 0)
  refine ⟨_, run, ?_⟩
  rw [started, ← addr]
  refine ⟨rfl, rfl, rfl, rfl, ?_, ?_, ?_⟩ <;> rw [frame]

end

/-! ## The end of a dump (R360, R363) -/

/-- The end of a dump that the registers started, while no reset waits for it. -/
theorem State.dumpOver_of_register {s : State} (own : s.dump.work = none) (idle : s.rst.run = none) (st : Status) :
    (s.dumpOver true st).dump.running = false ∧ (s.dumpOver true st).get F.HUB_DUMP_STAT_state 0 = 3 ∧
    (s.dumpOver true st).get F.HUB_DUMP_STAT_done_evt 0 = 1 ∧
    s.dumpOver true st = { s with dump := (s.dumpOver true st).dump, regs := (s.dumpOver true st).regs, out := (s.dumpOver true st).out } := by
  obtain ⟨u, shown, ended⟩ : ∃ u : State, u = ((State.put { s with dump := { s.dump with running := false, work := none } }
      F.HUB_DUMP_STAT_state 3 0).put F.HUB_DUMP_STAT_written s.dump.written 0).put F.HUB_DUMP_STAT_done_evt 1 0 ∧
      s.endDump true st = u.vec0 := ⟨_, rfl, by simp only [State.endDump, own, if_true]⟩
  obtain ⟨o, sent⟩ := u.emit_eq (.msix 0 0)
  rw [State.dumpOver, ended, State.vec0, sent, State.tryChip_of_none (by rw [shown]; exact idle)]
  refine ⟨by rw [shown]; rfl, ?_, ?_, by rw [shown]; rfl⟩
  · change u.get F.HUB_DUMP_STAT_state 0 = 3
    simp (disch := decide) only [shown, State.put_get_apart, State.put_get_same]
    rfl
  · change u.get F.HUB_DUMP_STAT_done_evt 0 = 1
    rw [shown, State.put_get_same]
    rfl

/-! ## Sections (R361, R362) -/

/-- A section written goes into the table, and the next unit is read. -/
theorem State.dumpSection_eq (s : State) (code n flags : Nat) : s.dumpSection code n flags = { s with
    dump := { s.dump with next := s.dump.next + 1, written := s.dump.written + ceilDiv (32 + n) 4096 * 4096
                          sections := s.dump.sections ++ [DumpEntry.mk code flags s.dump.written (32 + n) s.dump.readAt]
                          readAt := s.time, unresponsive := false, frozenNow := false, during := false }
    out := .dumpSection code flags s.dump.written (32 + n) s.dump.readAt :: s.out } := by
  rw [State.dumpSection, State.emit_of_not_toHost _ rfl]

section
variable {s : State} (on : s.dump.running = true) {n code kib : Nat} (here : dumpSections[s.dump.next]? = some (code, kib))
include on here

theorem exec_dumpSectionDone_of_lost : exec (.dumpSectionDone n false) s = .next (s.dumpOver true .eBounds) := by
  change execDumpSectionDone n false s = _
  simp only [execDumpSectionDone, on, here, if_true]
  rfl

/-- A section of a unit that answers, not the last, which the buffer holds, is written whole. -/
theorem exec_dumpSectionDone_of_room (more : s.dump.next + 1 < dumpSections.length) (answers : s.dump.unresponsive = false)
    (present : s.unitAbsent code = false) (fits : n ≤ 1024 * kib - 32)
    (room : s.dump.written + ceilDiv (32 + n) 4096 * 4096 ≤ s.dump.size) :
    exec (.dumpSectionDone n true) s = .next (s.dumpSection code n (s.dumpFlags code)) := by
  have body : (if (s.dump.unresponsive && !s.dump.frozenNow) || s.unitAbsent code then 0 else min n (1024 * kib - 32)) = n := by
    rw [answers, present, Bool.false_and, Bool.or_self, if_neg Bool.false_ne_true, Nat.min_eq_left fits]
  have next : (s.dumpSection code n (s.dumpFlags code)).dump.next = s.dump.next + 1 := by rw [s.dumpSection_eq]
  change execDumpSectionDone n true s = _
  simp only [execDumpSectionDone, on, here, if_true, body]
  rw [if_neg (by simp), if_neg (Nat.not_lt.2 room), if_neg]
  rw [next]
  omega

end

/-! ## Units that do not answer (R361) -/

/-- The unit counted as one that does not answer. -/
def State.countedSilent (s : State) : State :=
  State.bump { s with dump := { s.dump with unresponsive := true } } F.HUB_DUMP_STAT_unresponsive 1 0

/-- The clock of the unit stopped for its read. -/
def State.frozenRead (s : State) (code : Nat) : State :=
  { s with dump := { s.dump with frozenNow := true, frozen := s.dump.frozen ++ [code] }
           mgmt := { s.mgmt with frozenReads := s.mgmt.frozenReads + 1 } }

section
variable {s : State} {code : Nat} (unit : s.dump.unit = some code) (first : s.dump.unresponsive = false)
include unit first

theorem exec_dumpUnitUnresponsive : exec .dumpUnitUnresponsive s =
    .next (if !s.dump.freeze ∨ !freezable code then
s.countedSilent
    else ((s.countedSilent.frozenRead code).bump F.HUB_DUMP_STAT_frozen 1 0).measureLock) := by
  change execDumpUnitUnresponsive s = _
  simp only [execDumpUnitUnresponsive, unit, first]
  rfl

theorem dumpUnitUnresponsive_counts (room : s.get F.HUB_DUMP_STAT_unresponsive 0 < 63)
    (keep : s.dump.freeze = false ∨ freezable code = false) : Gives .dumpUnitUnresponsive s fun t =>
      t.get F.HUB_DUMP_STAT_unresponsive 0 = s.get F.HUB_DUMP_STAT_unresponsive 0 + 1 ∧
      t.dump = { s.dump with unresponsive := true } ∧ t = { s with dump := t.dump, regs := t.regs } := by
  have run := exec_dumpUnitUnresponsive unit first
  rw [if_pos (by simpa using keep)] at run
  exact ⟨_, run, State.bump_get_same_of_lt (s := { s with dump := { s.dump with unresponsive := true } }) room, rfl, rfl⟩

theorem dumpUnitUnresponsive_freezes (may : s.dump.freeze = true) (clocked : freezable code = true) : Gives .dumpUnitUnresponsive s fun t =>
    t.dump = { s.dump with unresponsive := true, frozenNow := true, frozen := s.dump.frozen ++ [code] } ∧
    t.mgmt.frozenReads = s.mgmt.frozenReads + 1 ∧ t.unitFrozen code = true ∧ t.mem = s.mem ∧ t.seqs = s.seqs := by
  have run := exec_dumpUnitUnresponsive unit first
  rw [if_neg (by simp [may, clocked])] at run
  obtain ⟨r, l, m, frame⟩ := ((s.countedSilent.frozenRead code).bump F.HUB_DUMP_STAT_frozen 1 0).measure_frame 5
    [((s.countedSilent.frozenRead code).bump F.HUB_DUMP_STAT_frozen 1 0).get F.HUB_SETUP_LOCK_locked 0,
      ((s.countedSilent.frozenRead code).bump F.HUB_DUMP_STAT_frozen 1 0).mgmt.frozenReads]
  refine ⟨_, run, ?_⟩
  rw [State.measureLock, frame]
  refine ⟨rfl, rfl, ?_, rfl, rfl⟩
  exact List.contains_iff_mem.2 (List.mem_append_right _ (List.mem_singleton.2 rfl))

end

/-! ## The limit of 1 s (R363) -/

/-- Sections written in turn change the dump engine's table and what leaves; its descriptor stays. -/
theorem State.dumpSections_eq (l : List (Nat × Nat)) (s : State) : ∃ d o,
    l.foldl (fun s e => s.dumpSection e.1 0 (4 + s.dumpFlags e.1)) s = { s with dump := d, out := o } ∧ d.work = s.dump.work := by
  induction l generalizing s with
  | nil => exact ⟨s.dump, s.out, rfl, rfl⟩
  | cons e l ih =>
    obtain ⟨d, o, run, work⟩ := ih (s.dumpSection e.1 0 (4 + s.dumpFlags e.1))
    rw [s.dumpSection_eq] at run work
    refine ⟨d, o, ?_, work⟩
    rw [List.foldl_cons, s.dumpSection_eq]
    exact run

theorem dumpTimeLimit_ends {s : State} (on : s.dump.running = true) (own : s.dump.work = none) (idle : s.rst.run = none) :
    Gives .dumpTimeLimit s fun t =>
      t.dump.running = false ∧ t.get F.HUB_DUMP_STAT_state 0 = 3 ∧ s.dump.since + 1000000000 ≤ t.time ∧
      t.mem = s.mem ∧ t.spad = s.spad ∧ t.hubsp = s.hubsp ∧ t.seqs = s.seqs := by
  obtain ⟨d, o, sections, work⟩ := State.dumpSections_eq (dumpSections.drop s.dump.next) (s.due (s.dump.since + 1000000000))
  have run : exec .dumpTimeLimit s =
      .next (State.dumpOver (State.writeHeader { s.due (s.dump.since + 1000000000) with dump := d, out := o } 2) true .ok) := by
    rw [← sections]
    change execDumpTimeLimit s = _
    simp [execDumpTimeLimit, on]
  obtain ⟨o', header⟩ := State.emit_eq { s.due (s.dump.since + 1000000000) with dump := d, out := o }
    (.hostWrite d.buffer (State.dumpHeader { s.due (s.dump.since + 1000000000) with dump := d, out := o } 2))
  generalize written : State.writeHeader { s.due (s.dump.since + 1000000000) with dump := d, out := o } 2 = u at run
  have frame : u = { s.due (s.dump.since + 1000000000) with dump := d, out := o' } := written.symm.trans header
  obtain ⟨stopped, state, -, ends⟩ := State.dumpOver_of_register (s := u) (by rw [frame]; exact work.trans own) (by rw [frame]; exact idle) .ok
  refine ⟨_, run, stopped, state, ?_, ?_, ?_, ?_, ?_⟩
  · rw [ends, frame]
    exact Nat.le_max_right _ _
  all_goals rw [ends, frame]; rfl

/-! ## The statement -/

/-- Settles O26: the ways a dump starts, goes on and ends, row by row. -/
theorem dumps : Obligations.Dumps := by
  unfold Obligations.Dumps
  refine ⟨⟨fun s w it h => ⟨fun d bad => State.finish_gives h (exec_dump_of_illegal h bad), fun ok on => ?_, dump_starts h⟩,
      fun s w reaches none => (exec_dumpStart reaches).trans (congrArg _ (if_neg (by rw [none]; decide))),
      fun s w reaches start up free buffer => dumpStart_starts reaches start up free buffer⟩,
    ?_, ?_, fun s n ok off => ?_, fun s code unit first room => ⟨dumpUnitUnresponsive_counts unit first room, dumpUnitUnresponsive_freezes unit first⟩,
    fun s on own idle => dumpTimeLimit_ends on own idle, fun s off => ?_⟩
  · exact (exec_dump_of_legal h ok).trans (congrArg _ (if_pos (.inl on)))
  · intro s n code kib on here more answers present fits len room
    refine ⟨_, exec_dumpSectionDone_of_room on here more answers present fits room, ?_⟩
    rw [s.dumpSection_eq]
    exact ⟨rfl, rfl, on, ⟨_, rfl⟩, rfl⟩
  · intro s n on here own idle
    obtain ⟨⟨code, kib⟩, entry⟩ : ∃ e, dumpSections[s.dump.next]? = some e := ⟨_, List.getElem?_eq_getElem here⟩
    exact ⟨_, exec_dumpSectionDone_of_lost on entry, State.dumpOver_of_register own idle .eBounds⟩
  · change execDumpSectionDone n ok s = _
    simp [execDumpSectionDone, off]
  · change execDumpTimeLimit s = _
    simp [execDumpTimeLimit, off]

end Sys2Proof.Machine

/-! SUPPORT. Hellos and endpoint notices (R350, R352, R365-R371): what recording, reporting and answering a hello leave of the port and of
the registers. -/

namespace Sys2Proof.Machine

/-! ## What is told of a port -/

/-- A port's part in the hello exchange is as it was. -/
structure Port.SameHello (v v' : Port) : Prop where
  step : v'.step = v.step
  dark : v'.dark = v.dark
  partner : v'.partner = v.partner
  done : v'.helloDone = v.helloDone

theorem Port.SameHello.trans {v v' v'' : Port} (h : v.SameHello v') (h' : v'.SameHello v'') : v.SameHello v'' :=
  ⟨h'.step.trans h.step, h'.dark.trans h.dark, h'.partner.trans h.partner, h'.done.trans h.done⟩

/-- Memory, the fabric, the pair and the job are as they were, and so are port p's part in the exchange and every register field but the
log's status and those with these codes. -/
structure Tells (codes : List Nat) (p : Nat) (s t : State) : Prop where
  mem : t.mem = s.mem
  fab : t.fab = s.fab
  refl : t.refl = s.refl
  job : t.job = s.job
  port : (s.port p).SameHello (t.port p)
  reads : ∀ f : Fld, f.offLog = true → f.code ∉ codes → ∀ i, t.get f i = s.get f i

theorem Fld.offLog_low {f : Fld} (h : f.offLog = true) : f.code < 1024 := by
  simp only [Fld.offLog, Bool.and_eq_true, decide_eq_true_eq] at h
  exact h.1

namespace Tells
variable {codes : List Nat} {p : Nat} {s t u : State}

theorem refl' (codes : List Nat) (p : Nat) (s : State) : Tells codes p s s :=
  ⟨rfl, rfl, rfl, rfl, ⟨rfl, rfl, rfl, rfl⟩, fun _ _ _ _ => rfl⟩

theorem trans (h : Tells codes p s t) (h' : Tells codes p t u) : Tells codes p s u :=
  ⟨h'.mem.trans h.mem, h'.fab.trans h.fab, h'.refl.trans h.refl, h'.job.trans h.job, h.port.trans h'.port,
    fun f off apart i => (h'.reads f off apart i).trans (h.reads f off apart i)⟩

theorem mono {codes' : List Nat} (h : Tells codes p s t) (more : codes ⊆ codes') : Tells codes' p s t :=
  { h with reads := fun f off apart i => h.reads f off (fun c => apart (more c)) i }

theorem put {f : Fld} (low : f.code < 1024) (listed : f.code ∈ codes) (s : State) (v i : Nat) : Tells codes p s (s.put f v i) :=
  ⟨rfl, rfl, rfl, rfl, ⟨rfl, rfl, rfl, rfl⟩, fun _ off apart j =>
    s.put_get_apart low (Fld.offLog_low off) (fun same => apart (same ▸ listed)) v i j⟩

theorem putB {f : Fld} (low : f.code < 1024) (listed : f.code ∈ codes) (s : State) (b : Bool) (i : Nat) :
    Tells codes p s (s.putB f b i) := put low listed s _ i

theorem logEvent (s : State) (code unit : Nat) (args : List Nat) : Tells codes p s (s.logEvent code unit args) := by
  have reads := fun (f : Fld) off i => s.logEvent_get code unit args (f := f) off i
  obtain ⟨l, r, frame⟩ := s.logEvent_eq code unit args
  rw [frame] at reads ⊢
  exact ⟨rfl, rfl, rfl, rfl, ⟨rfl, rfl, rfl, rfl⟩, fun f off _ i => reads f off i⟩

theorem pldm (s : State) (e : PldmEvent) : Tells codes p s (s.pldm e) := by
  obtain ⟨m, l, frame⟩ := s.pldm_eq e
  rw [frame]
  exact ⟨rfl, rfl, rfl, rfl, ⟨rfl, rfl, rfl, rfl⟩, fun _ _ _ _ => rfl⟩

theorem setPort {v : Port} (same : (s.port p).SameHello v) : Tells codes p s (s.setPort p v) :=
  ⟨rfl, rfl, rfl, rfl, by rwa [State.setPort_same], fun _ _ _ _ => rfl⟩

theorem tx (s : State) (p : Nat) (o : Out) : Tells codes p s (s.tx p o) := by
  obtain ⟨items, wait, next, ack, port⟩ := s.tx_port p o
  obtain ⟨ps, l, frame⟩ := s.tx_eq p o
  refine ⟨by rw [frame], by rw [frame], by rw [frame], by rw [frame], ?_, fun _ _ _ _ => by rw [frame]; rfl⟩
  rw [port]
  exact ⟨rfl, rfl, rfl, rfl⟩

theorem txAll {α : Type} (o : α → Out) (l : List α) (s : State) : Tells codes p s (l.foldl (fun s a => s.tx p (o a)) s) := by
  induction l generalizing s with
  | nil => exact refl' codes p s
  | cons a l ih => exact (tx s p (o a)).trans (ih _)

theorem sendHello (s : State) (p : Nat) : Tells codes p s (s.sendHello p) := by
  refine .trans ?_ (tx _ p _)
  exact setPort ⟨rfl, rfl, rfl, rfl⟩

/-- A series of notices sends fragments, and its end may be logged (R378). -/
theorem sendNotices (p n : Nat) : ∀ (g : Nat) (s : State), Tells codes p s (State.sendNotices p n g s) := by
  induction n with
  | zero => exact fun g s => refl' codes p s
  | succ n ih =>
    intro g s
    unfold State.sendNotices
    split
    · exact logEvent s _ _ _
    · exact (txAll (fun f => .ctl p (.signedNotice f)) _ s).trans (ih _ _)

theorem forwardTo (s : State) (p : Nat) : Tells codes p s (s.forwardTo p) := by
  unfold State.forwardTo
  split
  · exact refl' codes p s
  · split
    · exact refl' codes p s
    · exact sendNotices p _ _ s

end Tells

/-! ## A hello recorded and reported (R367, Tables 13.2, 13.3) -/

/-- The codes of the fields that report how two ends differ. -/
def reportCodes : List Nat :=
  [F.FAB_HELLO_STAT_digest_diff, F.FAB_HELLO_STAT_gen_diff, F.FAB_HELLO_STAT_calendar_skew, F.FAB_HELLO_STAT_stepping_diff].map Fld.code

/-- The codes of the fields that show a hello. -/
def helloCodes : List Nat := RegName.FAB_HELLO_STAT.fields.map Fld.code

theorem State.helloReports_tells (s : State) (p : Nat) (h : Hello) : Tells reportCodes p s (s.helloReports p h) := by
  unfold State.helloReports
  dsimp only
  split
  · exact (((Tells.put (by decide) (by decide) _ _ _).trans (.put (by decide) (by decide) _ _ _)).trans
      (.put (by decide) (by decide) _ _ _)).trans (.put (by decide) (by decide) _ _ _)
  · have shown (a b c d : Bool) : Tells reportCodes p s ((((s.putB F.FAB_HELLO_STAT_digest_diff a p).putB F.FAB_HELLO_STAT_gen_diff b p).putB
        F.FAB_HELLO_STAT_calendar_skew c p).putB F.FAB_HELLO_STAT_stepping_diff d p) :=
      (((Tells.putB (by decide) (by decide) _ _ _).trans (.putB (by decide) (by decide) _ _ _)).trans
        (.putB (by decide) (by decide) _ _ _)).trans (.putB (by decide) (by decide) _ _ _)
    refine iteInduction (motive := Tells reportCodes p s) (fun _ => ?_) fun _ => shown _ _ _ _
    refine .trans ?_ (.logEvent _ _ _ _)
    refine .trans ?_ (.setPort ⟨rfl, rfl, rfl, rfl⟩)
    exact shown _ _ _ _

/-- A hello's node, epoch and outcome stand in FAB_HELLO_STAT. -/
structure Records (s : State) (p : Nat) (h : Hello) (code : Nat) (t : State) : Prop where
  tells : Tells helloCodes p s t
  node : t.get F.FAB_HELLO_STAT_node p = h.node % 2 ^ F.FAB_HELLO_STAT_node.width
  epoch : t.get F.FAB_HELLO_STAT_epoch p = h.epoch % 2 ^ F.FAB_HELLO_STAT_epoch.width
  outcome : t.get F.FAB_HELLO_STAT_outcome p = code % 2 ^ F.FAB_HELLO_STAT_outcome.width

/-- What changes none of the fields that show the node, the epoch and the outcome keeps the record. -/
theorem Records.then {s t u : State} {p : Nat} {h : Hello} {code : Nat} {codes : List Nat} (r : Records s p h code t)
    (tells : Tells codes p t u) (some_ : codes ⊆ helloCodes) (node : F.FAB_HELLO_STAT_node.code ∉ codes)
    (epoch : F.FAB_HELLO_STAT_epoch.code ∉ codes) (outcome : F.FAB_HELLO_STAT_outcome.code ∉ codes) : Records s p h code u :=
  ⟨r.tells.trans (tells.mono some_), (tells.reads _ (by decide) node p).trans r.node, (tells.reads _ (by decide) epoch p).trans r.epoch,
    (tells.reads _ (by decide) outcome p).trans r.outcome⟩

/-- The fields of FAB_HELLO_STAT that a hello's record writes. -/
def State.recorded (s : State) (p : Nat) (h : Hello) (o : HelloOut) : State :=
  let s := (s.put F.FAB_HELLO_STAT_node h.node p).put F.FAB_HELLO_STAT_epoch h.epoch p
  let s := (s.put F.FAB_HELLO_STAT_firmware (256 * h.fwMajor + h.fwMinor) p).putB F.FAB_HELLO_STAT_version_diff o.version p
  let s := (s.putB F.FAB_HELLO_STAT_excluded o.excluded p).putB F.FAB_HELLO_STAT_unassigned o.unassigned p
  s.put F.FAB_HELLO_STAT_outcome o.code p

theorem State.recorded_records (s : State) (p : Nat) (h : Hello) (o : HelloOut) : Records s p h o.code (s.recorded p h o) := by
  refine ⟨?_, ?_, ?_, State.put_get_same _ _ _ _⟩
  · exact ((((((Tells.put (by decide) (by decide) _ _ _).trans (.put (by decide) (by decide) _ _ _)).trans
      (.put (by decide) (by decide) _ _ _)).trans (.putB (by decide) (by decide) _ _ _)).trans (.putB (by decide) (by decide) _ _ _)).trans
      (.putB (by decide) (by decide) _ _ _)).trans (.put (by decide) (by decide) _ _ _)
  · simp (disch := decide) only [State.recorded, State.put_get_apart, State.putB_get_apart, State.put_get_same]
  · simp (disch := decide) only [State.recorded, State.put_get_apart, State.putB_get_apart, State.put_get_same]

/-- What a row of Table 13.2 logs keeps the record. -/
theorem Records.logged {s u : State} {p : Nat} {h : Hello} {code : Nat} (r : Records s p h code u) {conflict twice differs : Prop}
    [Decidable conflict] [Decidable twice] [Decidable differs] :
    Records s p h code (if conflict then u.logEvent 0x000F p [0]
      else if twice then (u.logEvent 0x000F p [1, h.node, h.setId]).pldm (.dupNode p)
      else if differs then u.logEvent 0x000F p [2, h.fwMajor, h.fwMinor] else u) := by
  have later {v : State} (tells : Tells [] p u v) : Records s p h code v :=
    r.then tells (List.nil_subset _) List.not_mem_nil List.not_mem_nil List.not_mem_nil
  split
  · exact later (.logEvent _ _ _ _)
  · split
    · exact later ((Tells.logEvent _ _ _ _).trans (.pldm _ _))
    · split
      · exact later (.logEvent _ _ _ _)
      · exact r

theorem State.helloRecord_records (s : State) (p : Nat) (h : Hello) (o : HelloOut) : Records s p h o.code (s.helloRecord p h o) := by
  have shown : Records s p h o.code
      (if s.get F.FAB_HELLO_STAT_outcome p = o.code then s.recorded p h o else (s.recorded p h o).put F.FAB_HELLO_STAT_hello_evt 1 p) := by
    split
    · exact s.recorded_records p h o
    · exact (s.recorded_records p h o).then (codes := [F.FAB_HELLO_STAT_hello_evt.code]) (.put (by decide) (by decide) _ _ _) (by decide)
        (by decide) (by decide) (by decide)
  exact shown.logged

/-- A hello recorded and reported. -/
theorem State.hello_records (s : State) (p : Nat) (h : Hello) (o : HelloOut) :
    Records s p h o.code ((s.helloRecord p h o).helloReports p h) :=
  (s.helloRecord_records p h o).then (State.helloReports_tells _ p h) (by decide) (by decide) (by decide) (by decide)

/-! ## The exchange completes (R366) -/

section
variable {s t : State} {p : Nat} {h : Hello} {codes : List Nat}

/-- Whether a hello completes the exchange is told by the node ID alone. -/
theorem State.helloCompletes_congr (assigned : t.get F.FAB_NODE_ID_assigned 0 = s.get F.FAB_NODE_ID_assigned 0)
    (own : t.ownNode = s.ownNode) (h : Hello) : t.helloCompletes h = s.helloCompletes h := by
  rw [State.helloCompletes, State.isSet, assigned, own]
  rfl

theorem State.endDark_of_none (none_ : (s.port p).dark = none) (st : Status) : s.endDark p st = s := by
  simp [State.endDark, none_]

/-- A port in training is up once its exchange completes; nothing else of the exchange and of the registers changes. -/
theorem State.helloUp_of_training (training : s.portState p = 2) (light : (s.port p).dark = none) :
    ∃ v v' : Port, s.helloUp p = ((s.setPort p v).setPort p v').setPortState p 3 ∧ v'.helloDone = true ∧ v'.partner = (s.port p).partner := by
  have up : s.helloUp p = State.endDark (if s.portState p = 2 then
      (((s.setPort p { s.port p with helloDone := true, fails := 0, trainFail := false }).setPort p
        { (s.setPort p { s.port p with helloDone := true, fails := 0, trainFail := false }).port p with step := 0 }).setPortState p 3)
      else s.setPort p { s.port p with helloDone := true, fails := 0, trainFail := false }) p .ok := rfl
  rw [up, if_pos training, State.endDark_of_none (by simp [light])]
  exact ⟨_, _, rfl, by simp, by simp⟩

/-- A pair that is not bound notes no epoch. -/
theorem State.reflEpoch_of_unbound (unbound : s.reflState = 0) (n epoch : Nat) : s.reflEpoch n epoch = s := by
  simp [State.reflEpoch, State.reflBound, unbound]

theorem State.reflPause_of_unbound (unbound : s.reflState = 0) (n : Nat) : s.reflPause n = s := by
  simp [State.reflPause, State.reflBound, unbound]

theorem State.reflLost_of_unbound (unbound : s.reflState = 0) (cause : Nat) : s.reflLost cause = s := by
  simp [State.reflLost, State.reflBound, unbound]

/-- A hello of a node that no flow names and no pair binds announces nothing new. -/
theorem State.helloEpoch_of_new (src : (s.flow h.node).src = none) (tgt : (s.flow h.node).tgt = none) (unbound : s.reflState = 0) :
    s.helloEpoch h = s := by
  simp [State.helloEpoch, src, tgt, State.reflEpoch_of_unbound unbound]

/-- What completes an exchange on port p of a state that records its hello. -/
structure CameUp (s : State) (p : Nat) (h : Hello) (t : State) : Prop where
  state : t.portState p = 3
  done : (t.port p).helloDone = true
  partner : (t.port p).partner = some h
  outcome : t.get F.FAB_HELLO_STAT_outcome p = 1
  node : t.get F.FAB_HELLO_STAT_node p = h.node % 2 ^ F.FAB_HELLO_STAT_node.width
  epoch : t.get F.FAB_HELLO_STAT_epoch p = h.epoch % 2 ^ F.FAB_HELLO_STAT_epoch.width
  mem : t.mem = s.mem
  fab : t.fab = s.fab
  refl : t.reflState = s.reflState

theorem CameUp.then {t u : State} (c : CameUp s p h t) (tells : Tells [] p t u) : CameUp s p h u where
  state := (tells.reads _ (by decide) List.not_mem_nil p).trans c.state
  done := tells.port.done.trans c.done
  partner := tells.port.partner.trans c.partner
  outcome := (tells.reads _ (by decide) List.not_mem_nil p).trans c.outcome
  node := (tells.reads _ (by decide) List.not_mem_nil p).trans c.node
  epoch := (tells.reads _ (by decide) List.not_mem_nil p).trans c.epoch
  mem := tells.mem.trans c.mem
  fab := tells.fab.trans c.fab
  refl := (tells.reads _ (by decide) List.not_mem_nil 0).trans c.refl

theorem Records.helloUp {u : State} (r : Records s p h 1 u) (partner : (s.port p).partner = some h) (light : (s.port p).dark = none)
    (training : s.portState p = 2) : CameUp s p h (u.helloUp p) := by
  have state : u.portState p = 2 := (r.tells.reads _ (by decide) (by decide) p).trans training
  obtain ⟨v, v', up, done, same⟩ := u.helloUp_of_training state (r.tells.port.dark.trans light)
  rw [up]
  have apart {f : Fld} (low : f.code < 1024) (other : f.code ≠ F.WIN_PORT_STAT_state.code) :
      (((u.setPort p v).setPort p v').setPortState p 3).get f p = u.get f p := State.put_get_apart _ (by decide) low other _ _ _
  exact {
    state := State.setPortState_same _ _ (by decide)
    done := by simpa using done
    partner := by simp [same, r.tells.port.partner, partner]
    outcome := (apart (by decide) (by decide)).trans r.outcome
    node := (apart (by decide) (by decide)).trans r.node
    epoch := (apart (by decide) (by decide)).trans r.epoch
    mem := r.tells.mem
    fab := r.tells.fab
    refl := (State.put_get_apart _ (by decide) (by decide) (by decide) _ _ _).trans (r.tells.reads _ (by decide) (by decide) 0) }

end

/-! ## HELLO (R366-R371) -/

section
variable {s : State} {port : Fin 64} {h : Hello}

/-- A hello arrives and is in order. -/
structure HelloArrives (s : State) (port : Fin 64) (h : Hello) : Prop where
  up : s.linkUp port = true
  late : s.portState port = 2 → (s.port port).step = 7
  own : s.kept = false
  version : h.version = 1
  clean : h.rsv = false

theorem exec_hello_down (down : s.linkUp port = false) : exec (.hello port h) s = .next s :=
  congrArg _ (if_pos (.inl (by simp [down])))

/-- The state that holds the partner's hello. -/
def State.withPartner (s : State) (p : Nat) (h : Hello) : State := s.setPort p { s.port p with partner := some h }

/-- A hello that is in order passes the checks of its arrival. -/
theorem HelloArrives.asked (a : HelloArrives s port h) : ¬(!s.linkUp port ∨ (s.portState port = 2 ∧ (s.port port).step ≠ 7)) := by
  simpa [a.up] using a.late

/-- A hello that finds its own node ID holds the port (R368). -/
theorem HelloArrives.exec_of_conflict (a : HelloArrives s port h) (free : s.portState port ≠ 6)
    (conflict : (s.helloOutcome h).code = 3 ∨ (s.helloOutcome h).code = 4) : exec (.hello port h) s =
    .next ((((s.withPartner port h).helloRecord port h (s.helloOutcome h)).helloReports port h).holdPort port) :=
  congrArg _ ((if_neg a.asked).trans ((if_neg (by simp [a.own])).trans ((if_neg (by simp [a.version, a.clean])).trans
    ((if_neg free).trans (if_pos conflict)))))

/-- What follows an outcome that does not hold the port. -/
def State.helloGoesOn (s : State) (p : Nat) (h : Hello) (o : HelloOut) (answers : Prop) [Decidable answers] : State :=
  let s := if answers then s.sendHello p else s
  let s := if s.helloCompletes h then s.helloUp p else s
  let s := if o.code = 6 then s.peerResets h.node else s
  let s := s.helloEpoch h
  let s := if o.code = 2 ∨ o.code = 6 then s.movePort p else s
  s.forwardTo p

theorem HelloArrives.exec_of_fit (a : HelloArrives s port h) (free : s.portState port ≠ 6) (fit : s.helloOutcome h = { code := 1 })
    (light : (s.port port).dark = none) : ∃ (answers : Prop) (_ : Decidable answers), exec (.hello port h) s =
    .next ((((s.withPartner port h).helloRecord port h { code := 1 }).helloReports port h).helloGoesOn port h { code := 1 } answers) := by
  have clean : ¬((s.helloOutcome h).code = 3 ∨ (s.helloOutcome h).code = 4) := by rw [fit]; decide
  have goesOn : ∃ (answers : Prop) (_ : Decidable answers), exec (.hello port h) s = .next
      ((((s.withPartner port h).helloRecord port h (s.helloOutcome h)).helloReports port h).helloGoesOn port h (s.helloOutcome h) answers) :=
    ⟨_, _, congrArg _ ((if_neg a.asked).trans ((if_neg (by simp [a.own])).trans ((if_neg (by simp [a.version, a.clean])).trans
      ((if_neg free).trans ((if_neg clean).trans (if_neg (by simp [light])))))))⟩
  rwa [fit] at goesOn

/-- A hello that completes the exchange of a port in training brings it up (R366). -/
theorem Records.helloGoesOn {u : State} (r : Records s port h 1 u) (partner : (s.port port).partner = some h)
    (light : (s.port port).dark = none) (training : s.portState port = 2) (completes : s.helloCompletes h = true)
    (src : (s.flow h.node).src = none) (tgt : (s.flow h.node).tgt = none) (unbound : s.reflState = 0)
    (answers : Prop) [Decidable answers] : CameUp s port h (u.helloGoesOn port h { code := 1 } answers) := by
  have answered : Records s port h 1 (if answers then u.sendHello port else u) := by
    split
    · exact r.then (codes := []) (.sendHello u port) (by decide) (by decide) (by decide) (by decide)
    · exact r
  unfold State.helloGoesOn
  generalize (if answers then u.sendHello port else u) = v at answered
  have reads {f : Fld} (off : f.offLog = true) (other : f.code ∉ helloCodes) : v.get f 0 = s.get f 0 := answered.tells.reads f off other 0
  have done : v.helloCompletes h = true :=
    (State.helloCompletes_congr (reads (by decide) (by decide)) (reads (by decide) (by decide)) h).trans completes
  have up := answered.helloUp partner light training
  have same (n : Nat) : (v.helloUp port).flow n = s.flow n := by rw [State.flow, up.fab]; rfl
  dsimp only
  rw [if_pos done, if_neg (by decide), if_neg (by decide),
    State.helloEpoch_of_new (by rw [same, src]) (by rw [same, tgt]) (up.refl.trans unbound)]
  exact up.then (.forwardTo _ _)

/-! ## A held port (R368) -/

/-- A port that goes down keeps the record of its hello. -/
theorem State.portDownNow_get (s : State) (p : Nat) {f : Fld} (low : f.code < 1024) (count : f.code ≠ F.FAB_EVT_CNT_count.code)
    (event : f.code ≠ F.WIN_PORT_STAT_down_evt.code) (state : f.code ≠ F.WIN_PORT_STAT_state.code) (i : Nat) :
    (s.portDownNow p).get f i = s.get f i := by
  by_cases carries : s.portState p = 3 ∨ s.portState p = 4
  · rw [State.portDownNow_of_carrying carries, (State.movePort_resends _ p).reads f low count, State.setPortState,
      State.put_get_apart _ (by decide) low state, State.put_get_apart _ (by decide) low event]
  · rw [not_or] at carries
    simp [State.portDownNow, carries]

theorem State.holdPort_get_outcome (s : State) (p i : Nat) :
    (s.holdPort p).get F.FAB_HELLO_STAT_outcome i = s.get F.FAB_HELLO_STAT_outcome i := by
  change ((((s.portDownNow p).setPort p _).setPortState p 6).get F.FAB_HELLO_STAT_outcome i) = _
  rw [State.setPortState, State.put_get_apart _ (by decide) (by decide) (by decide), State.setPort_get,
    State.portDownNow_get s p (by decide) (by decide) (by decide) (by decide)]

theorem State.holdPort_mem (s : State) (p : Nat) : (s.holdPort p).mem = s.mem := s.portDownNow_mem p

theorem hello_completes (a : HelloArrives s port h) (training : s.portState port = 2) (fit : s.helloOutcome h = { code := 1 })
    (light : (s.port port).dark = none) (completes : s.helloCompletes h = true) (src : (s.flow h.node).src = none)
    (tgt : (s.flow h.node).tgt = none) (unbound : s.reflState = 0) : Gives (.hello port h) s (CameUp (s.withPartner port h) port h) := by
  obtain ⟨answers, _, run⟩ := a.exec_of_fit (by omega) fit light
  have recorded := (s.withPartner port h).hello_records port h { code := 1 }
  exact ⟨_, run, recorded.helloGoesOn (by simp [State.withPartner]) (by simpa [State.withPartner] using light) training completes src tgt
    unbound answers⟩

theorem hello_conflict (a : HelloArrives s port h) (free : s.portState port ≠ 6)
    (conflict : (s.helloOutcome h).code = 3 ∨ (s.helloOutcome h).code = 4) : Gives (.hello port h) s fun t =>
    t.portState port = 6 ∧ t.get F.FAB_HELLO_STAT_outcome port = (s.helloOutcome h).code ∧ t.mem = s.mem := by
  have recorded := (s.withPartner port h).hello_records port h (s.helloOutcome h)
  refine ⟨_, a.exec_of_conflict free conflict, State.setPortState_same _ _ (by decide), ?_, ?_⟩
  · rw [State.holdPort_get_outcome, recorded.outcome]
    exact Nat.mod_eq_of_lt (by rcases conflict with c | c <;> rw [c] <;> decide)
  · rw [State.holdPort_mem, recorded.tells.mem]
    rfl

/-! ## Violations, the keepers' answer and the hello timer (R278, R365, R370) -/

/-- A link violation counts in its counter of WIN_EVT_CNT and is noted at the port. -/
theorem State.linkViolation_onlyRegs (s : State) (p j : Nat) :
    OnlyRegs [F.WIN_EVT_CNT_count.key (16 * p + j)] { s with ports := (s.linkViolation p j).ports } (s.linkViolation p j) :=
  State.put_onlyRegs { s with ports := (s.linkViolation p j).ports } _ _ _

theorem State.linkViolation_partner (s : State) (p j : Nat) : ((s.linkViolation p j).port p).partner = (s.port p).partner := by
  rw [State.linkViolation, State.setPort_same]

theorem hello_violation (up : s.linkUp port = true) (late : s.portState port = 2 → (s.port port).step = 7) (own : s.kept = false)
    (bad : h.version ≠ 1 ∨ h.rsv = true) : exec (.hello port h) s = .next (s.linkViolation port 3) :=
  congrArg _ ((if_neg (by simpa [up] using late)).trans ((if_neg (by simp [own])).trans (if_pos bad)))

theorem hello_kept {b : Hello} (up : s.linkUp port = true) (late : s.portState port = 2 → (s.port port).step = 7)
    (kept : s.kept = true) (last : (s.port port).lastBody = some b) : exec (.hello port h) s =
    .next (s.tx port (.ctl port (.hello { b with
      resetting := true, epoch := s.rst.prevEpoch, ack := true, seen := if h.unassigned then 0xFFFFFF else h.node }))) := by
  have answer : exec (.hello port h) s = .next (s.keeperHello port h) :=
    congrArg _ ((if_neg (by simpa [up] using late)).trans (if_pos kept))
  rw [answer, State.keeperHello, last]

theorem exec_helloTimer (up : s.portState port = 3) (own : s.kept = false) :
    exec (.helloTimer port) s = .next ((s.due ((s.port port).lastHello + 100000000)).sendHello port) :=
  congrArg _ (if_pos ⟨up, by simp [own]⟩)

/-- A hello leaves, and the port notes it and its time. -/
theorem State.sendHello_sends {p : Nat} (up : s.linkUp p = true) :
    Sent s (s.sendHello p) p (.ctl p (.hello (s.helloBody p))) ∧ ((s.sendHello p).port p).lastHello = s.time := by
  obtain ⟨items, wait, next, ack, port⟩ := (s.setPort p { s.port p with lastBody := some (s.helloBody p), lastHello := s.time }).tx_port p
    (.ctl p (.hello (s.helloBody p)))
  refine ⟨State.setPort_tx_sent rfl (by simpa [State.linkUp] using up) rfl, ?_⟩
  rw [State.sendHello, port]
  simp

theorem helloTimer_gives (up : s.portState port = 3) (own : s.kept = false) : Gives (.helloTimer port) s fun t =>
    (s.port port).lastHello + 100000000 ≤ t.time ∧ (t.port port).lastHello = t.time ∧
    (∃ h : Hello, Sent s t port (.ctl port (.hello h)) ∧ h.epoch = s.epoch ∧ h.digest = s.ownDigest) ∧
    t = { s with time := t.time, ports := t.ports, out := t.out } := by
  have link : (s.due ((s.port port).lastHello + 100000000)).linkUp port = true := State.linkUp_of_carrying (.inl up)
  obtain ⟨sent, noted⟩ := State.sendHello_sends link
  obtain ⟨ps, l, frame⟩ := (s.due ((s.port port).lastHello + 100000000)).sendHello_eq port
  have time : ((s.due ((s.port port).lastHello + 100000000)).sendHello port).time = max s.time ((s.port port).lastHello + 100000000) := by
    rw [frame]
    rfl
  refine ⟨_, exec_helloTimer up own, ?_, ?_, ⟨_, sent, rfl, rfl⟩, ?_⟩
  · exact time ▸ Nat.le_max_right _ _
  · exact noted.trans time.symm
  · rw [frame]
    rfl

end

/-! ## Notices of peers (R243, R350, R352) -/

section
variable {s : State} {port : Fin 64} {n : EndNotice}

/-- A notice arrives on a port that takes it. -/
structure NoticeArrives (s : State) (port : Fin 64) : Prop where
  up : s.linkUp port = true
  free : s.portState port ≠ 6
  own : s.kept = false

theorem NoticeArrives.asked (a : NoticeArrives s port) : ¬(!s.linkUp port ∨ s.portState port = 6 ∨ s.kept) := by
  simp [a.up, a.free, a.own]

theorem NoticeArrives.exec_of_stranger (a : NoticeArrives s port) (stranger : ((s.port port).partner.map fun h => h.node) ≠ some n.node) :
    exec (.endpointNotice port n) s = .next (s.linkViolation port 3) :=
  congrArg _ ((if_neg a.asked).trans (if_pos stranger))

theorem NoticeArrives.exec_of_ready (a : NoticeArrives s port) (partner : ((s.port port).partner.map fun h => h.node) = some n.node)
    (ready : n.kind = .ready) : exec (.endpointNotice port n) s = .next (s.peerReady n.node n.epoch) := by
  refine congrArg _ ((if_neg a.asked).trans ((if_neg (not_not.2 partner)).trans ?_))
  rw [ready]

theorem NoticeArrives.exec_of_unbound (a : NoticeArrives s port) (partner : ((s.port port).partner.map fun h => h.node) = some n.node)
    (leaves : n.kind ≠ .ready) (unbound : s.reflState = 0) : exec (.endpointNotice port n) s = .next (s.peerResets n.node) := by
  change execEndpointNotice port n s = _
  rw [execEndpointNotice, if_neg a.asked, if_neg (not_not.2 partner), State.reflLost_of_unbound unbound, ite_self]
  cases kind : n.kind with
  | ready => exact absurd kind leaves
  | powerCycling => rfl
  | resetting => rfl
  | stopping => rfl

end

/-! ## The flow to a peer (R229, R369) -/

section
variable (s : State) (n : Nat)

theorem State.setSrc_srcFlow (v : FlowSrc) : (s.setSrc n v).srcFlow n = v := by
  simp [State.setSrc, State.srcFlow, State.flow, State.setFlow, State.setFab, SMap.get_set_same]

theorem State.setSrc_flow_other (v : FlowSrc) {k : Nat} (other : k ≠ n) : (s.setSrc n v).flow k = s.flow k := by
  simp [State.setSrc, State.flow, State.setFlow, State.setFab, SMap.get_set_other _ _ _ _ other]

/-- The source of a flow, where it has one, changes as given. -/
def State.updSrc (f : FlowSrc → FlowSrc) : State := if (s.flow n).src.isSome then s.setSrc n (f (s.srcFlow n)) else s

theorem State.updSrc_srcFlow (f : FlowSrc → FlowSrc) (source : (s.flow n).src.isSome = true) :
    (s.updSrc n f).srcFlow n = f (s.srcFlow n) := by
  rw [State.updSrc, if_pos source, State.setSrc_srcFlow]

theorem State.updSrc_flow_other (f : FlowSrc → FlowSrc) {k : Nat} (other : k ≠ n) : (s.updSrc n f).flow k = s.flow k := by
  rw [State.updSrc]
  split
  · exact s.setSrc_flow_other n _ other
  · rfl

theorem State.updSrc_eq (f : FlowSrc → FlowSrc) : ∃ fl, s.updSrc n f = { s with fab := { s.fab with flows := fl } } := by
  rw [State.updSrc]
  split
  · exact ⟨_, rfl⟩
  · exact ⟨_, rfl⟩

/-- With no request and no operation under way, the end of all of them closes the flow alone. -/
theorem State.endAllTo_of_idle (reqs : s.fab.reqs = []) (ops : s.fab.ops = []) (reason : Nat) (unsent : Status) :
    s.endAllTo n reason unsent = s.updSrc n fun x => { x with opened := false, opening := false } := by
  have sent : s.endSent n reason .eTimeout = s := by simp [State.endSent, reqs]
  have waiting : s.endUnissued n unsent = s := by simp [State.endUnissued, reqs, ops]
  rw [State.endAllTo, sent, waiting]
  have settled : (s.updSrc n fun x => { x with opened := false, opening := false }).opsSettled := by
    obtain ⟨fl, frame⟩ := s.updSrc_eq n fun x => { x with opened := false, opening := false }
    rw [frame, State.opsSettled]
    dsimp only
    rw [ops]
    exact fun _ listed => absurd listed List.not_mem_nil
  exact State.settleOps_of_settled settled

/-- With every session idle no session has a peer. -/
theorem State.colPeer_of_idle (idle : ∀ k < 8, s.sessState k = 0) (cause : Nat) : s.colPeer n cause = s := by
  refine List.foldlRecOn (motive := fun u => u = s) _ _ rfl fun u same k listed => ?_
  subst same
  exact if_pos (.inl (idle k (List.mem_range.1 listed)))

/-- A peer that resets or stops while nothing is under way to it: its flow closes and it is noted. -/
theorem State.peerResets_of_idle (reqs : s.fab.reqs = []) (ops : s.fab.ops = []) (idle : ∀ k < 8, s.sessState k = 0)
    (unbound : s.reflState = 0) : s.peerResets n =
      (s.updSrc n fun x => { x with opened := false, opening := false }).setFab
        { (s.updSrc n fun x => { x with opened := false, opening := false }).fab with
          noticed := if s.fab.noticed.contains n then s.fab.noticed else n :: s.fab.noticed } := by
  rw [State.peerResets, State.endAllTo_of_idle s n reqs ops]
  obtain ⟨fl, frame⟩ := s.updSrc_eq n fun x => { x with opened := false, opening := false }
  rw [frame, State.colPeer_of_idle _ n (by exact idle), State.reflPause_of_unbound (by exact unbound)]

theorem peerResets_gives (reqs : s.fab.reqs = []) (ops : s.fab.ops = []) (idle : ∀ k < 8, s.sessState k = 0) (unbound : s.reflState = 0) :
    n ∈ (s.peerResets n).fab.noticed ∧ ((s.flow n).src.isSome = true → ((s.peerResets n).srcFlow n).opened = false) ∧
    (∀ k, k ≠ n → (s.peerResets n).flow k = s.flow k) ∧ s.peerResets n = { s with fab := (s.peerResets n).fab } := by
  rw [s.peerResets_of_idle n reqs ops idle unbound]
  refine ⟨?_, fun source => ?_, fun k other => s.updSrc_flow_other n _ other, ?_⟩
  · change n ∈ if s.fab.noticed.contains n then s.fab.noticed else n :: s.fab.noticed
    split
    next listed => simpa using listed
    next => exact List.mem_cons_self
  · exact congrArg FlowSrc.opened (s.updSrc_srcFlow n _ source)
  · obtain ⟨fl, frame⟩ := s.updSrc_eq n fun x => { x with opened := false, opening := false }
    rw [frame]
    rfl

/-- Node n is no longer noted as resetting. -/
def State.unnoticed : State := s.setFab { s.fab with noticed := s.fab.noticed.erase n }

theorem peerReady_gives (unbound : s.reflState = 0) (epoch : Nat) :
    ((s.flow n).src.isSome = true → ((s.peerReady n epoch).srcFlow n).opened = false ∧ ((s.peerReady n epoch).srcFlow n).epoch = epoch) ∧
    (∀ k, k ≠ n → (s.peerReady n epoch).flow k = s.flow k) ∧ s.peerReady n epoch = { s with fab := (s.peerReady n epoch).fab } := by
  have opens : s.peerReady n epoch =
      ((s.unnoticed n).updSrc n fun x => { x with opened := false, opening := false, epoch := epoch }).reflEpoch n epoch := rfl
  obtain ⟨fl, frame⟩ := (s.unnoticed n).updSrc_eq n fun x => { x with opened := false, opening := false, epoch := epoch }
  rw [opens, State.reflEpoch_of_unbound (by rw [frame]; exact unbound)]
  refine ⟨fun source => ?_, fun k other => State.updSrc_flow_other _ n _ other, ?_⟩
  · rw [(s.unnoticed n).updSrc_srcFlow n _ source]
    exact ⟨rfl, rfl⟩
  · rw [frame]
    rfl

end

/-- Settles O52: a hello recorded and reported keeps the port's part in the exchange, which its completion ends; the notices of an idle
peer reach its flow alone. -/
theorem helloExchange : Obligations.HelloExchange := by
  refine ⟨?_, ?_, ?_, ?_, ?_, ?_, ?_⟩
  · intro s port h training late own version clean fit light completes src tgt unbound
    have up : s.linkUp port = true := State.linkUp_of_training training (by omega)
    obtain ⟨t, run, c⟩ := hello_completes ⟨up, fun _ => late, own, version, clean⟩ training fit light completes src tgt unbound
    exact ⟨t, run, c.state, c.done, c.partner, c.outcome, c.node, c.epoch, c.mem, c.fab⟩
  · exact fun s port h up late free own version clean conflict => hello_conflict ⟨up, late, own, version, clean⟩ free conflict
  · exact fun s port h up late own bad =>
      ⟨_, hello_violation up late own bad, s.linkViolation_onlyRegs port 3, s.linkViolation_partner port 3⟩
  · intro s port h b up late kept last
    refine ⟨_, hello_kept up late kept last, ⟨_, State.tx_leaves up rfl, rfl, rfl, rfl, rfl⟩, ?_⟩
    obtain ⟨ps, l, frame⟩ := s.tx_eq port (.ctl port (.hello { b with
      resetting := true, epoch := s.rst.prevEpoch, ack := true, seen := if h.unassigned then 0xFFFFFF else h.node }))
    rw [frame]
  · exact fun s port h down => exec_hello_down down
  · exact fun s port up own => helloTimer_gives up own
  · intro s port n up free own
    have a : NoticeArrives s port := ⟨up, free, own⟩
    refine ⟨fun stranger => ⟨_, a.exec_of_stranger stranger, s.linkViolation_onlyRegs port 3⟩, fun partner unbound => ⟨fun ready => ?_, ?_⟩⟩
    · exact ⟨_, a.exec_of_ready partner ready, peerReady_gives s n.node unbound n.epoch⟩
    · exact fun leaves reqs ops idle => ⟨_, a.exec_of_unbound partner leaves unbound, peerResets_gives s n.node reqs ops idle unbound⟩

end Sys2Proof.Machine

/-! O53. Jobs and signed notices (R372-R379): installing and clearing a job, the paths to the verification queue, and what a verified
notice does. -/

namespace Sys2Proof.Machine

/-! ## The digest follows the job (R365, R373) -/

section
variable (s : State)

/-- What a new digest leaves: registers, the log, the measurements and what the ports send. -/
theorem State.redigest_eq : ∃ r l m ps o, s.redigest = { s with regs := r, log := l, mgmt := { s.mgmt with meas := m }, ports := ps, out := o } := by
  obtain ⟨r, l, m, measured⟩ := (s.put F.SEC_CFG_DIGEST_digest s.configDigest 0).measure_frame 6 [s.configDigest]
  unfold State.redigest
  dsimp only
  split
  · exact ⟨r, l, m, s.ports, s.out, measured⟩
  · obtain ⟨ps, o, told⟩ := ((s.put F.SEC_CFG_DIGEST_digest s.configDigest 0).measure 6 [s.configDigest]).sendHellos_eq
    rw [told, measured]
    exact ⟨r, l, m, ps, o, rfl⟩

theorem State.redigest_reads (f : Fld) (off : f.offLog = true) (i : Nat) :
    s.redigest.get f i = (s.put F.SEC_CFG_DIGEST_digest s.configDigest 0).get f i := by
  unfold State.redigest
  dsimp only
  split
  · exact State.measure_get _ 6 _ off i
  · rw [State.sendHellos_get, State.measure_get _ 6 _ off i]

theorem State.redigest_get {f : Fld} (off : f.offLog = true) (apart : f.code ≠ F.SEC_CFG_DIGEST_digest.code) (i : Nat) :
    s.redigest.get f i = s.get f i :=
  (s.redigest_reads f off i).trans (s.put_get_apart (by decide) (Fld.offLog_low off) apart _ _ _)

/-- Without a job the digest is 0. -/
theorem State.redigest_ownDigest_of_none (none_ : s.job.block = []) : s.redigest.ownDigest = 0 := by
  rw [State.ownDigest, s.redigest_reads _ (by decide), State.put_get_same, State.configDigest, none_]
  rfl

theorem State.redigest_job : s.redigest.job = s.job := by
  obtain ⟨r, l, m, ps, o, frame⟩ := s.redigest_eq
  rw [frame]

theorem State.redigest_mem : s.redigest.mem = s.mem := by
  obtain ⟨r, l, m, ps, o, frame⟩ := s.redigest_eq
  rw [frame]

end

/-! ## JOB_INSTALL and JOB_CLEAR (R372) -/

section
variable {s : State} {w : BarAcc}

/-- The job of a block stands installed, its digest still to be taken. -/
def State.jobHeld (s : State) (b : List Byte) : State :=
  let s := { s with job := { s.job with block := b.take 3904 } }
  let s := (s.put F.SEC_JOB_STAT_installed 1 0).put F.SEC_JOB_STAT_k (fieldAt b 8 1) 0
  (s.put F.SEC_JOB_STAT_n (fieldAt b 9 1) 0).clearList.put F.SEC_EXCL_STAT_generation 0 0

/-- No job stands installed, the digest still to be taken. -/
def State.jobDropped (s : State) : State :=
  let s := { s with job := { s.job with block := [] } }
  let s := ((s.put F.SEC_JOB_STAT_result 1 0).put F.SEC_JOB_STAT_installed 0 0).put F.SEC_JOB_STAT_k 0 0
  (s.put F.SEC_JOB_STAT_n 0 0).clearList

theorem State.clearList_get (s : State) {f : Fld} (low : f.code < 1024) (entries : f.code ≠ F.SEC_EXCL_STAT_entries.code)
    (pending : f.code ≠ F.SEC_EXCL_STAT_pending.code) (i : Nat) : s.clearList.get f i = s.get f i :=
  (State.put_get_apart _ (by decide) low pending _ _ _).trans (State.put_get_apart _ (by decide) low entries _ _ _)

theorem State.clearList_entries (s : State) : s.clearList.get F.SEC_EXCL_STAT_entries 0 = 0 :=
  (State.put_get_apart _ (by decide) (by decide) (by decide) _ _ _).trans (State.put_get_same _ _ _ _)

/-- A block that is installed names at most seven managers and a quorum among them. -/
theorem jobBad_bounds {b : List Byte} (good : jobBad b = false) : fieldAt b 8 1 < 8 ∧ fieldAt b 9 1 < 8 := by
  simp only [jobBad, Bool.or_eq_false_iff, decide_eq_false_iff_not] at good
  omega

/-- An install that is done reads a block that keeps its layout. -/
theorem State.installResult_good {a : Nat} (done : s.installResult a = 1) : jobBad (s.memRead a 4096).bytes = false := by
  cases bad : jobBad (s.memRead a 4096).bytes with
  | false => rfl
  | true =>
    revert done
    simp only [State.installResult, bad, Bool.or_true, if_true]
    split
    · decide
    · split <;> decide

theorem exec_jobInstall (reaches : Reaches s .SEC_JOB_CTRL 0 w 0) (asked : w.bits F.SEC_JOB_CTRL_install = 1) {u : State} {a r : Nat}
    (written : s.writeReg .SEC_JOB_CTRL 0 w = u) (addr : u.get F.SEC_JOB_CTRL_addr 0 * 4096 = a) (result : u.installResult a = r) :
    exec (.jobInstall w) s = .next (if r ≠ 1 then u.put F.SEC_JOB_STAT_result r 0
      else ((u.put F.SEC_JOB_STAT_result r 0).jobHeld ((u.put F.SEC_JOB_STAT_result r 0).memRead a 4096).bytes).redigest) := by
  subst result addr written
  exact congrArg _ ((reaches.onWrite _).trans (if_neg (not_not.2 asked)))

/-- A good block is installed with its k and n, an empty list and generation 0. -/
theorem State.jobHeld_holds (u : State) (b : List Byte) (good : jobBad b = false) :
    let t := ((u.put F.SEC_JOB_STAT_result 1 0).jobHeld b).redigest
    t.get F.SEC_JOB_STAT_installed 0 = 1 ∧ t.get F.SEC_JOB_STAT_result 0 = 1 ∧ t.get F.SEC_JOB_STAT_k 0 = fieldAt b 8 1 ∧
    t.get F.SEC_JOB_STAT_n 0 = fieldAt b 9 1 ∧ t.get F.SEC_EXCL_STAT_generation 0 = 0 ∧ t.get F.SEC_EXCL_STAT_entries 0 = 0 ∧
    t.job = { u.job with block := b.take 3904, excl := [], held := [] } ∧ t.mem = u.mem := by
  obtain ⟨k, n⟩ := jobBad_bounds good
  intro t
  refine ⟨?_, ?_, ?_, ?_, ?_, ?_, State.redigest_job _, State.redigest_mem _⟩
  · rw [State.redigest_get _ (by decide) (by decide)]
    simp (disch := decide) only [State.jobHeld, State.put_get_apart, State.clearList_get, State.put_get_same]
    rfl
  · rw [State.redigest_get _ (by decide) (by decide)]
    simp (disch := decide) only [State.jobHeld, State.put_get_apart, State.clearList_get]
    exact State.put_get_same u F.SEC_JOB_STAT_result 1 0
  · rw [State.redigest_get _ (by decide) (by decide)]
    simp (disch := decide) only [State.jobHeld, State.put_get_apart, State.clearList_get, State.put_get_same]
    exact Nat.mod_eq_of_lt k
  · rw [State.redigest_get _ (by decide) (by decide)]
    simp (disch := decide) only [State.jobHeld, State.put_get_apart, State.clearList_get, State.put_get_same]
    exact Nat.mod_eq_of_lt n
  · rw [State.redigest_get _ (by decide) (by decide)]
    simp (disch := decide) only [State.jobHeld, State.put_get_same]
    rfl
  · rw [State.redigest_get _ (by decide) (by decide)]
    simp (disch := decide) only [State.jobHeld, State.put_get_apart, State.clearList_entries]

theorem jobInstall_done (reaches : Reaches s .SEC_JOB_CTRL 0 w 0) (asked : w.bits F.SEC_JOB_CTRL_install = 1) {u : State} {a : Nat}
    (written : s.writeReg .SEC_JOB_CTRL 0 w = u) (addr : u.get F.SEC_JOB_CTRL_addr 0 * 4096 = a) (done : u.installResult a = 1) :
    Gives (.jobInstall w) s fun t =>
      t.get F.SEC_JOB_STAT_installed 0 = 1 ∧ t.get F.SEC_JOB_STAT_result 0 = 1 ∧
      t.get F.SEC_JOB_STAT_k 0 = fieldAt (u.memRead a 4096).bytes 8 1 ∧ t.get F.SEC_JOB_STAT_n 0 = fieldAt (u.memRead a 4096).bytes 9 1 ∧
      t.get F.SEC_EXCL_STAT_generation 0 = 0 ∧ t.get F.SEC_EXCL_STAT_entries 0 = 0 ∧
      t.job = { s.job with block := (u.memRead a 4096).bytes.take 3904, excl := [], held := [] } ∧ t.mem = s.mem := by
  have run := exec_jobInstall reaches asked written addr done
  have same : (u.put F.SEC_JOB_STAT_result 1 0).memRead a 4096 = u.memRead a 4096 :=
    State.memRead_congr (u.put_memMap (by unfold Fld.offMemory Fld.offMap; decide) 1 0) rfl a 4096
  rw [if_neg (by decide), same] at run
  have frame := s.writeReg_regsOnly (r := .SEC_JOB_CTRL) 0 w rfl
  rw [written] at frame
  have holds := u.jobHeld_holds _ (State.installResult_good done)
  rw [show u.job = s.job by rw [frame], show u.mem = s.mem by rw [frame]] at holds
  exact ⟨_, run, holds⟩

theorem jobInstall_refused (reaches : Reaches s .SEC_JOB_CTRL 0 w 0) (asked : w.bits F.SEC_JOB_CTRL_install = 1) {u : State} {a : Nat}
    (written : s.writeReg .SEC_JOB_CTRL 0 w = u) (addr : u.get F.SEC_JOB_CTRL_addr 0 * 4096 = a) (not_ : u.installResult a ≠ 1) :
    Gives (.jobInstall w) s fun t => t.get F.SEC_JOB_STAT_result 0 = u.installResult a ∧ t = { s with regs := t.regs } := by
  have run := exec_jobInstall reaches asked written addr rfl
  rw [if_pos not_] at run
  have small : u.installResult a < 8 := by
    unfold State.installResult
    dsimp only
    repeat' split
    all_goals decide
  have frame := s.writeReg_regsOnly (r := .SEC_JOB_CTRL) 0 w rfl
  rw [written] at frame
  exact ⟨_, run, (State.put_get_same _ _ _ _).trans (Nat.mod_eq_of_lt small), RegsOnly.put frame _ _ _⟩

/-- What refuses a clear: the shutter, a session that is not idle or a pair that is not unbound. -/
def State.clearRefused (s : State) : Bool :=
  s.isSet F.SEC_EXCL_STAT_shutter 0 || ((List.range 8).any fun k => s.sessState k != 0) || s.reflState != 0

theorem State.clearRefused_writeReg (s : State) (w : BarAcc) : (s.writeReg .SEC_JOB_CTRL 0 w).clearRefused = s.clearRefused := by
  have only := s.writeReg_onlyRegs (r := .SEC_JOB_CTRL) 0 w rfl
  have reads {f : Fld} (low : f.code < 1024) (apart : ∀ g ∈ F.HUB_SETUP_LOCK_blocked_writes :: RegName.SEC_JOB_CTRL.fields, g.code < 1024 ∧ f.code ≠ g.code) (i : Nat) :
      (s.writeReg .SEC_JOB_CTRL 0 w).get f i = s.get f i := by
    refine only.get_eq fun listed => ?_
    obtain ⟨g, hg, same⟩ := List.mem_map.1 (show f.key i ∈ (F.HUB_SETUP_LOCK_blocked_writes :: RegName.SEC_JOB_CTRL.fields).map fun g => g.key 0 from listed)
    exact Fld.key_ne (apart g hg).1 low (apart g hg).2 same.symm
  have idle : (fun k => (s.writeReg .SEC_JOB_CTRL 0 w).sessState k != 0) = fun k => s.sessState k != 0 :=
    funext fun k => congrArg (· != 0) (reads (by decide) (by decide) k)
  rw [State.clearRefused, idle, State.isSet, State.reflState, reads (by decide) (by decide), reads (by decide) (by decide)]
  rfl

theorem exec_jobClear (reaches : Reaches s .SEC_JOB_CTRL 0 w 0) (asked : w.bits F.SEC_JOB_CTRL_clear = 1)
    (alone : w.bits F.SEC_JOB_CTRL_install ≠ 1) : exec (.jobClear w) s =
    .next (if s.clearRefused then (s.writeReg .SEC_JOB_CTRL 0 w).put F.SEC_JOB_STAT_result 4 0
      else (s.writeReg .SEC_JOB_CTRL 0 w).jobDropped.redigest) := by
  rw [← s.clearRefused_writeReg w]
  exact congrArg _ ((reaches.onWrite _).trans (if_neg (by simp [asked, alone])))

theorem jobClear_done (reaches : Reaches s .SEC_JOB_CTRL 0 w 0) (asked : w.bits F.SEC_JOB_CTRL_clear = 1)
    (alone : w.bits F.SEC_JOB_CTRL_install ≠ 1) (free : s.clearRefused = false) : Gives (.jobClear w) s fun t =>
    t.get F.SEC_JOB_STAT_installed 0 = 0 ∧ t.get F.SEC_JOB_STAT_result 0 = 1 ∧ t.job = { s.job with block := [], excl := [], held := [] } ∧
    t.ownDigest = 0 ∧ t.mem = s.mem := by
  have run := exec_jobClear reaches asked alone
  rw [if_neg (by simp [free])] at run
  have frame := s.writeReg_regsOnly (r := .SEC_JOB_CTRL) 0 w rfl
  generalize s.writeReg .SEC_JOB_CTRL 0 w = u at run frame
  refine ⟨_, run, ?_, ?_, ?_, State.redigest_ownDigest_of_none _ rfl, ?_⟩
  · rw [State.redigest_get _ (by decide) (by decide)]
    simp (disch := decide) only [State.jobDropped, State.put_get_apart, State.clearList_get, State.put_get_same]
    rfl
  · rw [State.redigest_get _ (by decide) (by decide)]
    simp (disch := decide) only [State.jobDropped, State.put_get_apart, State.clearList_get, State.put_get_same]
    rfl
  · rw [State.redigest_job, show s.job = u.job by rw [frame]]
    rfl
  · rw [State.redigest_mem, show s.mem = u.mem by rw [frame]]
    rfl

theorem jobClear_refused (reaches : Reaches s .SEC_JOB_CTRL 0 w 0) (asked : w.bits F.SEC_JOB_CTRL_clear = 1)
    (alone : w.bits F.SEC_JOB_CTRL_install ≠ 1) (refused : s.clearRefused = true) : Gives (.jobClear w) s fun t =>
    t.get F.SEC_JOB_STAT_result 0 = 4 ∧ t = { s with regs := t.regs } := by
  have run := exec_jobClear reaches asked alone
  rw [if_pos refused] at run
  exact ⟨_, run, State.put_get_same _ _ _ _, RegsOnly.put (s.writeReg_regsOnly 0 w rfl) _ _ _⟩

end

/-! ## The ways to the verification queue (R377) -/

section
variable (s : State)

theorem State.queueNotice_of_room (room : s.job.queue.length < 16) (b : List Byte) :
    s.queueNotice b = { s with job := { s.job with queue := s.job.queue ++ [b] } } := if_neg (by omega)

/-- The result of a notice stands in SEC_EXCL_STAT and in the log; one that no conflict ends changes nothing else. -/
theorem State.noticeResult_eq {code : Nat} (fit : code ≠ 6) (b : List Byte) (valid : List Nat) :
    ∃ r l, s.noticeResult code b valid = { s with regs := r, log := l } := by
  obtain ⟨l, r, frame⟩ := (s.put F.SEC_EXCL_STAT_last_result code 0).logEvent_eq 0x0010 0
    [code, fieldAt b 4 4, fieldAt b 16 3, (valid.map fun m => 2 ^ m).sum, fieldAt b 3 1 - valid.length]
  exact ⟨r, l, (if_neg fit).trans frame⟩

theorem State.noticeResult_get {code : Nat} (fit : code ≠ 6) (b : List Byte) (valid : List Nat) {f : Fld} (off : f.offLog = true) (i : Nat) :
    (s.noticeResult code b valid).get f i = (s.put F.SEC_EXCL_STAT_last_result code 0).get f i := by
  rw [State.noticeResult, if_neg fit, State.logEvent_get _ _ _ _ off]

theorem State.noticeResult_told {code : Nat} (fit : code < 6 ∨ code = 7 ∨ code = 8) (b : List Byte) (valid : List Nat) :
    (s.noticeResult code b valid).get F.SEC_EXCL_STAT_last_result 0 = code := by
  rw [s.noticeResult_get (by omega) b valid (by decide), State.put_get_same]
  exact Nat.mod_eq_of_lt (Nat.lt_of_lt_of_le (by omega : code < 9) (by decide))

variable {s}

theorem exec_noticeSubmit {w : BarAcc} {a n : Nat} (reaches : Reaches s .SEC_NOTICE_SUBMIT 0 w 0)
    (asked : w.touches F.SEC_NOTICE_SUBMIT_addr = true) (addr : w.bits F.SEC_NOTICE_SUBMIT_addr * 4096 = a)
    (blocks : fieldAt (s.memRead a 64).bytes 3 1 = n) (some_ : 0 < n) (few : n ≤ 7) (head : s.mapped a 64 = true)
    (all : s.mapped a (64 + 516 * n) = true) (clean : (s.memRead a (64 + 516 * n)).poisoned = false) :
    exec (.noticeSubmit w) s = .next (s.queueNotice (s.memRead a (64 + 516 * n)).bytes) := by
  subst blocks addr
  refine congrArg _ ((reaches.onWrite _).trans ((if_neg (by simp [asked])).trans ((if_neg ?_).trans ?_)))
  · simp only [head, all, Bool.not_true, Bool.false_eq_true, false_or, or_false]
    omega
  · exact congrArg s.queueNotice (if_neg (by simp [clean]))

theorem exec_pldmNotice_kept {n : List Byte} (kept : s.kept = true) : exec (.pldmNotice n) s = .next { s with out := .pldmRefused :: s.out } :=
  congrArg _ (if_pos (.inr kept))

theorem exec_pldmNotice {n : List Byte} (up : s.mgmtUp = true) (own : s.kept = false) : exec (.pldmNotice n) s = .next (s.queueNotice n) :=
  congrArg _ (if_neg (by simp [up, own]))

/-! ## Fragments of a notice (R377, Table 13.10) -/

/-- A fragment that a port takes, within the bounds of Table 13.10. -/
structure FragFits (s : State) (port : Fin 64) (f : NoticeFrag) : Prop extends NoticeArrives s port where
  clean : f.rsv = false
  index : f.index < f.count
  count : f.count ≤ 16
  short : f.data.length ≤ 232
  whole : f.index + 1 < f.count → f.data.length = 232

variable {port : Fin 64} {f : NoticeFrag}

theorem FragFits.fits (a : FragFits s port f) : ¬(f.rsv ∨ f.count = 0 ∨ 16 < f.count ∨ f.count ≤ f.index ∨ 232 < f.data.length ∨
    (f.index + 1 < f.count ∧ f.data.length ≠ 232)) := by
  have index := a.index
  have count := a.count
  have short := a.short
  have whole := a.whole
  simp only [a.clean, Bool.false_eq_true, false_or]
  omega

/-- A port without a notice under way. -/
def State.noFrag (s : State) (p : Nat) : State := s.setPort p { s.port p with frag := none }

/-- What taking a fragment leaves: the notice queued by its last one, else kept with what came before. -/
def State.takeFrag (s : State) (p : Nat) (f : NoticeFrag) (sofar : List Byte) : State :=
  if f.index + 1 = f.count then (s.noFrag p).queueNotice (sofar ++ f.data)
  else s.setPort p { s.port p with frag := some (sofar ++ f.data, f.index + 1, f.count, s.time) }

theorem FragFits.exec_of_first (a : FragFits s port f) (first : f.index = 0) : exec (.signedNotice port f) s = .next (s.takeFrag port f []) :=
  congrArg _ ((if_neg a.asked).trans ((if_neg a.fits).trans (if_pos first)))

theorem FragFits.exec_of_later (a : FragFits s port f) {bs : List Byte} {t0 : Nat} (later : 0 < f.index)
    (frag : (s.port port).frag = some (bs, f.index, f.count, t0)) : exec (.signedNotice port f) s =
    .next (if f.generation ≠ fieldAt bs 4 4 ∨ t0 + 1000000 < s.time then s.noFrag port else s.takeFrag port f bs) := by
  change execSignedNotice port f s = _
  simp only [execSignedNotice]
  rw [if_neg a.asked, if_neg a.fits, if_neg (by omega), frag]
  simp only [ne_eq, not_true_eq_false, false_or]
  rfl

theorem signedNotice_only (a : FragFits s port f) (first : f.index = 0) (one : f.count = 1) (room : s.job.queue.length < 16) :
    Gives (.signedNotice port f) s fun t =>
      t.job = { s.job with queue := s.job.queue ++ [f.data] } ∧ (t.port port).frag = none ∧ t = { s with job := t.job, ports := t.ports } := by
  have run := a.exec_of_first first
  rw [State.takeFrag, if_pos (by omega), State.queueNotice_of_room (s.noFrag port) room] at run
  exact ⟨_, run, rfl, congrArg Port.frag (s.setPort_same port _), rfl⟩

theorem State.takeFrag_keeps (more : f.index + 1 < f.count) (sofar : List Byte) :
    ((s.takeFrag port f sofar).port port).frag = some (sofar ++ f.data, f.index + 1, f.count, s.time) ∧
    s.takeFrag port f sofar = { s with ports := (s.takeFrag port f sofar).ports } := by
  rw [State.takeFrag, if_neg (by omega)]
  exact ⟨congrArg Port.frag (s.setPort_same port _), rfl⟩

theorem fragmentGapTimeout_gives {bs : List Byte} {i n t0 : Nat} (frag : (s.port port).frag = some (bs, i, n, t0)) :
    Gives (.fragmentGapTimeout port) s fun t =>
      t.port port = { s.port port with frag := none } ∧ t0 + 1000000 < t.time ∧ t = { s with time := t.time, ports := t.ports } := by
  refine ⟨(s.due (t0 + 1000001)).setPort port { s.port port with frag := none }, ?_, State.setPort_same _ _ _, ?_, rfl⟩
  · change execFragmentGapTimeout port s = _
    rw [execFragmentGapTimeout, frag]
  · exact Nat.lt_of_lt_of_le (by omega) (Nat.le_max_right s.time (t0 + 1000001))

end

/-! ## What a step leaves of the job (R379) -/

/-- The job is as it was, and so is every register field but the log's status and those with these codes. -/
structure KeepsJob (codes : List Nat) (s t : State) : Prop where
  job : t.job = s.job
  reqs : t.fab.reqs = s.fab.reqs
  reads : ∀ f : Fld, f.offLog = true → f.code ∉ codes → ∀ i, t.get f i = s.get f i

theorem Tells.keepsJob {codes : List Nat} {p : Nat} {s t : State} (h : Tells codes p s t) : KeepsJob codes s t :=
  ⟨h.job, by rw [h.fab], h.reads⟩

namespace KeepsJob
variable {codes : List Nat} {s t u : State}

theorem refl (codes : List Nat) (s : State) : KeepsJob codes s s := ⟨rfl, rfl, fun _ _ _ _ => rfl⟩

theorem trans (h : KeepsJob codes s t) (h' : KeepsJob codes t u) : KeepsJob codes s u :=
  ⟨h'.job.trans h.job, h'.reqs.trans h.reqs, fun f off apart i => (h'.reads f off apart i).trans (h.reads f off apart i)⟩

theorem foldl {α : Type} {f : State → α → State} (l : List α) (each : ∀ u, KeepsJob codes s u → ∀ a, KeepsJob codes u (f u a)) :
    KeepsJob codes s (l.foldl f s) :=
  List.foldlRecOn (motive := KeepsJob codes s) l f (refl codes s) fun u before a _ => before.trans (each u before a)

theorem put {f : Fld} (low : f.code < 1024) (listed : f.code ∈ codes) (s : State) (v i : Nat) : KeepsJob codes s (s.put f v i) :=
  ⟨rfl, rfl, fun _ off apart j => s.put_get_apart low (Fld.offLog_low off) (fun same => apart (same ▸ listed)) v i j⟩

theorem memWrite (s : State) (a : Nat) (bs : List Byte) : KeepsJob codes s (s.memWrite a bs).1 := by
  rw [s.memWrite_frame]
  exact ⟨rfl, rfl, fun _ _ _ _ => rfl⟩

theorem sendHellos (s : State) : KeepsJob codes s s.sendHellos := by
  obtain ⟨ps, l, frame⟩ := s.sendHellos_eq
  rw [frame]
  exact ⟨rfl, rfl, fun _ _ _ _ => rfl⟩

theorem forwardAll (ps : List Nat) (s : State) : KeepsJob codes s (ps.foldl (fun s p => s.forwardTo p) s) :=
  foldl ps fun u _ p => (Tells.forwardTo u p).keepsJob

/-- The ports of an excluded node show it, and no flow moves while no request is under way. -/
theorem exclPort (reqs : s.fab.reqs = []) (n p : Nat) : KeepsJob helloCodes s (s.exclPort n p) := by
  unfold State.exclPort
  split
  · exact refl _ s
  · split
    · have shown : KeepsJob helloCodes s (((s.put F.FAB_HELLO_STAT_outcome 2 p).put F.FAB_HELLO_STAT_excluded 1 p).put F.FAB_HELLO_STAT_hello_evt 1 p) :=
        ((put (by decide) (by decide) _ _ _).trans (put (by decide) (by decide) _ _ _)).trans (put (by decide) (by decide) _ _ _)
      generalize (((s.put F.FAB_HELLO_STAT_outcome 2 p).put F.FAB_HELLO_STAT_excluded 1 p).put F.FAB_HELLO_STAT_hello_evt 1 p) = u at shown
      have stays : u.movePort p = u := by simp [State.movePort, shown.reqs, reqs]
      rwa [stays]
    · exact refl _ s

end KeepsJob

/-! ## An accepted notice (R376, R379) -/

/-- A notice's EXCLUDE finds nothing under way: no request, no operation, no session, no pair. -/
structure NothingUnderWay (s : State) : Prop where
  reqs : s.fab.reqs = []
  ops : s.fab.ops = []
  idle : ∀ k < 8, s.sessState k = 0
  unbound : s.reflState = 0

/-- The node stands on the list, and the count of entries follows. -/
def State.listed (s : State) (n : Nat) : State :=
  { s with job := { s.job with excl := s.job.excl ++ [n] } }.put F.SEC_EXCL_STAT_entries (s.job.excl.length + 1) 0

/-- What the exclusion of a node leaves of the job and of its registers. -/
structure Excludes (s : State) (n : Nat) (t : State) : Prop where
  job : t.job = { s.job with excl := s.job.excl ++ [n] }
  entries : t.get F.SEC_EXCL_STAT_entries 0 = (s.job.excl.length + 1) % 2 ^ F.SEC_EXCL_STAT_entries.width
  event : t.get F.SEC_EXCL_STAT_excl_evt 0 = 1
  result : t.get F.SEC_EXCL_STAT_last_result 0 = s.get F.SEC_EXCL_STAT_last_result 0

theorem Excludes.then {s t u : State} {n : Nat} {codes : List Nat} (h : Excludes s n t) (keeps : KeepsJob codes t u)
    (entries : F.SEC_EXCL_STAT_entries.code ∉ codes) (event : F.SEC_EXCL_STAT_excl_evt.code ∉ codes)
    (result : F.SEC_EXCL_STAT_last_result.code ∉ codes) : Excludes s n u :=
  ⟨keeps.job.trans h.job, (keeps.reads _ (by decide) entries 0).trans h.entries, (keeps.reads _ (by decide) event 0).trans h.event,
    (keeps.reads _ (by decide) result 0).trans h.result⟩

/-- A state whose requests to a node have ended, whose sessions with it are broken and whose ports to it show it. -/
def State.cutOff (s : State) (n : Nat) : State :=
  (List.range 64).foldl (fun s p => s.exclPort n p) (((s.listed n).endAllTo n 3 .eExcluded).colPeer n 6)

theorem State.excludeNode_eq (s : State) (n : Nat) :
    s.excludeNode n = (if (s.cutOff n).reflPartner = n then (s.cutOff n).reflLost 3 else s.cutOff n).exclEvent := by
  simp only [State.excludeNode, State.cutOff, State.listed, List.length_append, List.length_singleton]
  rfl

theorem NothingUnderWay.cutOff {s : State} (h : NothingUnderWay s) (n : Nat) : KeepsJob helloCodes (s.listed n) (s.cutOff n) := by
  have same : KeepsJob helloCodes (s.listed n) (((s.listed n).endAllTo n 3 .eExcluded).colPeer n 6) := by
    rw [State.endAllTo_of_idle (s.listed n) n h.reqs h.ops]
    obtain ⟨fl, frame⟩ := (s.listed n).updSrc_eq n fun x => { x with opened := false, opening := false }
    rw [frame, State.colPeer_of_idle _ n (fun k small => ?_) 6]
    · exact ⟨rfl, rfl, fun _ _ _ _ => rfl⟩
    · exact (State.put_get_apart _ (by decide) (by decide) (by decide) _ _ _).trans (h.idle k small)
  exact same.trans (.foldl _ fun u before p => .exclPort (before.reqs.trans (same.reqs.trans h.reqs)) n p)

theorem NothingUnderWay.excludeNode {s : State} (h : NothingUnderWay s) (n : Nat) : Excludes s n (s.excludeNode n) := by
  have cut := h.cutOff n
  rw [State.excludeNode_eq]
  generalize s.cutOff n = u at cut
  have unbound : u.reflState = 0 := (cut.reads _ (by decide) (by decide) 0).trans
    ((State.put_get_apart _ (by decide) (by decide) (by decide) _ _ _).trans h.unbound)
  rw [State.reflLost_of_unbound unbound, ite_self, State.exclEvent, State.vec0]
  have event : (u.put F.SEC_EXCL_STAT_excl_evt 1 0).get F.SEC_EXCL_STAT_excl_evt 0 = 1 := State.put_get_same _ _ _ _
  have other {f : Fld} (low : f.code < 1024) (apart : f.code ≠ F.SEC_EXCL_STAT_excl_evt.code) :
      (u.put F.SEC_EXCL_STAT_excl_evt 1 0).get f 0 = u.get f 0 := State.put_get_apart _ (by decide) low apart _ _ _
  obtain ⟨l, frame⟩ := (u.put F.SEC_EXCL_STAT_excl_evt 1 0).emit_eq (.msix 0 0)
  rw [frame]
  exact {
    job := cut.job
    entries := (other (by decide) (by decide)).trans ((cut.reads _ (by decide) (by decide) 0).trans (State.put_get_same _ _ _ _))
    event := event
    result := (other (by decide) (by decide)).trans ((cut.reads _ (by decide) (by decide) 0).trans
      (State.put_get_apart _ (by decide) (by decide) (by decide) _ _ _)) }

theorem State.acceptNotice_eq {s u : State} {b : List Byte}
    (applied : (s.applyNotice (fieldAt b 2 1 == 2) (fieldAt b 16 3)).put F.SEC_EXCL_STAT_generation (fieldAt b 4 4) 0 = u) : s.acceptNotice b =
      (List.range 64).foldl (fun s p => s.forwardTo p) ((u.memWrite (u.noticeSlot (fieldAt b 4 4)) b).1).sendHellos := by
  subst applied
  rfl

/-- An accepted EXCLUDE of another node stands on the list under its generation. -/
theorem NothingUnderWay.acceptNotice {s : State} (h : NothingUnderWay s) {b : List Byte} {n g : Nat} (node : fieldAt b 16 3 = n)
    (gen : fieldAt b 4 4 = g) (exclude : fieldAt b 2 1 = 1) (other : n ≠ s.ownNode) (new : n ∉ s.job.excl) (room : s.job.excl.length < 4096) :
    Excludes s n (s.acceptNotice b) ∧ (s.acceptNotice b).get F.SEC_EXCL_STAT_generation 0 = g := by
  have applied : s.applyNotice (fieldAt b 2 1 == 2) n = s.excludeNode n := by
    rw [State.applyNotice, exclude, if_neg (by decide), if_neg (by simp [other]), if_neg (by simpa using new), if_neg (by omega)]
  have small : g < 2 ^ 32 := gen ▸ fieldAt_lt b 4 4
  have excludes := (h.excludeNode n).then (codes := [F.SEC_EXCL_STAT_generation.code])
    (.put (f := F.SEC_EXCL_STAT_generation) (by decide) (by decide) _ g 0) (by decide) (by decide) (by decide)
  have shown : ((s.excludeNode n).put F.SEC_EXCL_STAT_generation g 0).get F.SEC_EXCL_STAT_generation 0 = g :=
    (State.put_get_same _ _ _ _).trans (Nat.mod_eq_of_lt small)
  have takes := State.acceptNotice_eq (s := s) (b := b) rfl
  rw [node, gen, applied] at takes
  rw [takes]
  generalize (s.excludeNode n).put F.SEC_EXCL_STAT_generation g 0 = u at excludes shown
  have told : KeepsJob [] u ((List.range 64).foldl (fun s p => s.forwardTo p) ((u.memWrite (u.noticeSlot g) b).1).sendHellos) :=
    ((KeepsJob.memWrite u _ b).trans (.sendHellos _)).trans (.forwardAll _ _)
  exact ⟨excludes.then told List.not_mem_nil List.not_mem_nil List.not_mem_nil, (told.reads _ (by decide) List.not_mem_nil 0).trans shown⟩

/-! ## NOTICE_VERIFIED (R374-R376, Table 13.9) -/

section
variable {s : State} {b : List Byte} {rest : List (List Byte)} {good : List Nat}

/-- The state without the notice that has been verified. -/
def State.dequeued (s : State) (rest : List (List Byte)) : State := { s with job := { s.job with queue := rest } }

theorem exec_noticeVerified (queue : s.job.queue = b :: rest) : exec (.noticeVerified good) s = .next ((s.dequeued rest).judgeNotice b good) := by
  change execNoticeVerified good s = _
  rw [execNoticeVerified, queue]
  rfl

/-- A notice that only has its result told. -/
def Told (s : State) (rest : List (List Byte)) (code : Nat) (t : State) : Prop :=
  t.get F.SEC_EXCL_STAT_last_result 0 = code ∧ t.job = { s.job with queue := rest } ∧ t = { s with regs := t.regs, log := t.log, job := t.job }

theorem State.noticeResult_tells {code : Nat} (fit : code < 6 ∨ code = 7) (valid : List Nat) :
    Told s rest code ((s.dequeued rest).noticeResult code b valid) := by
  refine ⟨State.noticeResult_told _ (by omega) b valid, ?_⟩
  obtain ⟨r, l, frame⟩ := (s.dequeued rest).noticeResult_eq (code := code) (by omega) b valid
  rw [frame]
  exact ⟨rfl, rfl⟩

/-- A notice with a job installed, in its layout and of that job. -/
structure OfJob (s : State) (b : List Byte) : Prop where
  installed : s.isSet F.SEC_JOB_STAT_installed 0 = true
  good : noticeBad b = false
  job : fieldAt b 8 8 = fieldAt s.job.block 0 8

theorem judgeNotice_without (none_ : s.isSet F.SEC_JOB_STAT_installed 0 = false) : s.judgeNotice b good = s.noticeResult 7 b [] :=
  if_pos (by simp [none_])

theorem judgeNotice_malformed (installed : s.isSet F.SEC_JOB_STAT_installed 0 = true) (bad : noticeBad b = true) :
    s.judgeNotice b good = s.noticeResult 5 b [] := (if_neg (by simp [installed])).trans (if_pos bad)

theorem judgeNotice_foreign (installed : s.isSet F.SEC_JOB_STAT_installed 0 = true) (fit : noticeBad b = false)
    (other : fieldAt b 8 8 ≠ fieldAt s.job.block 0 8) : s.judgeNotice b good = s.noticeResult 4 b [] :=
  (if_neg (by simp [installed])).trans ((if_neg (by simp [fit])).trans (if_pos other))

/-- The next generation waits for its quorum. -/
theorem OfJob.judgeNotice_short (h : OfJob s b) (next : fieldAt b 4 4 = s.get F.SEC_EXCL_STAT_generation 0 + 1)
    (short : (noticeManagers b good (s.get F.SEC_JOB_STAT_n 0)).length < s.get F.SEC_JOB_STAT_k 0) :
    s.judgeNotice b good = s.noticeResult 3 b (noticeManagers b good (s.get F.SEC_JOB_STAT_n 0)) :=
  (if_neg (by simp [h.installed])).trans ((if_neg (by simp [h.good])).trans ((if_neg (not_not.2 h.job)).trans
    ((if_neg (fun old => by omega)).trans (if_pos (by simpa using short)))))

theorem OfJob.judgeNotice_next (h : OfJob s b) (next : fieldAt b 4 4 = s.get F.SEC_EXCL_STAT_generation 0 + 1)
    (quorum : s.get F.SEC_JOB_STAT_k 0 ≤ (noticeManagers b good (s.get F.SEC_JOB_STAT_n 0)).length) {u : State}
    (accepted : (s.noticeResult 0 b (noticeManagers b good (s.get F.SEC_JOB_STAT_n 0))).acceptNotice b = u) :
    s.judgeNotice b good = State.applyHeld u.job.held.length u := by
  subst accepted
  exact (if_neg (by simp [h.installed])).trans ((if_neg (by simp [h.good])).trans ((if_neg (not_not.2 h.job)).trans
    ((if_neg (fun old => by omega)).trans ((if_neg (by simpa using quorum)).trans ((if_neg (by omega)).trans (if_pos next))))))

/-- The next generation with a quorum: its node is excluded, and all that shows it. -/
theorem OfJob.judgeNotice_applies (own : OfJob s b) (next : fieldAt b 4 4 = s.get F.SEC_EXCL_STAT_generation 0 + 1)
    (quorum : s.get F.SEC_JOB_STAT_k 0 ≤ (noticeManagers b good (s.get F.SEC_JOB_STAT_n 0)).length) (exclude : fieldAt b 2 1 = 1)
    (other : fieldAt b 16 3 ≠ s.ownNode) (new : fieldAt b 16 3 ∉ s.job.excl) (room : s.job.excl.length < 4096) (held : s.job.held = [])
    (idle : NothingUnderWay s) :
    (s.judgeNotice b good).job = { s.job with excl := s.job.excl ++ [fieldAt b 16 3] } ∧
    (s.judgeNotice b good).get F.SEC_EXCL_STAT_generation 0 = fieldAt b 4 4 ∧
    (s.judgeNotice b good).get F.SEC_EXCL_STAT_entries 0 = s.job.excl.length + 1 ∧
    (s.judgeNotice b good).get F.SEC_EXCL_STAT_last_result 0 = 0 ∧ (s.judgeNotice b good).get F.SEC_EXCL_STAT_excl_evt 0 = 1 := by
  have judged := own.judgeNotice_next (good := good) next quorum rfl
  generalize noticeManagers b good (s.get F.SEC_JOB_STAT_n 0) = valid at judged
  have told := s.noticeResult_told (code := 0) (by omega) b valid
  have reads := fun (f : Fld) off i => s.noticeResult_get (code := 0) (by decide) b valid (f := f) off i
  obtain ⟨r, l, frame⟩ := s.noticeResult_eq (code := 0) (by decide) b valid
  have job : (s.noticeResult 0 b valid).job = s.job := by rw [frame]
  have fab : (s.noticeResult 0 b valid).fab = s.fab := by rw [frame]
  rw [judged]
  generalize s.noticeResult 0 b valid = u at told reads job fab
  have same {f : Fld} (off : f.offLog = true) (apart : f.code ≠ F.SEC_EXCL_STAT_last_result.code) (i : Nat) : u.get f i = s.get f i :=
    (reads f off i).trans (State.put_get_apart _ (by decide) (Fld.offLog_low off) apart _ _ _)
  have free : NothingUnderWay u := ⟨by rw [fab, idle.reqs], by rw [fab, idle.ops],
    fun k small => (same (by decide) (by decide) k).trans (idle.idle k small), (same (by decide) (by decide) 0).trans idle.unbound⟩
  obtain ⟨excludes, gen⟩ := free.acceptNotice (b := b) rfl rfl exclude (fun e => other (e.trans (same (by decide) (by decide) 0)))
    (by rwa [job]) (by rwa [job])
  have none_ : (u.acceptNotice b).job.held = [] := by rw [excludes.job, job, held]
  rw [none_, List.length_nil, State.applyHeld]
  refine ⟨by rw [excludes.job, job], gen, excludes.entries.trans ?_, excludes.result.trans told, excludes.event⟩
  rw [job]
  exact Nat.mod_eq_of_lt (Nat.lt_of_le_of_lt room (by decide))

theorem pendingNoticeExpire_gives {g : BitVec 32} {e : List Byte × Nat} (held : (s.job.held.find? fun e => fieldAt e.1 4 4 == g.toNat) = some e) :
    Gives (.pendingNoticeExpire g) s fun t =>
      t.job = { s.job with held := s.job.held.erase e } ∧ e.2 + 10000000000 ≤ t.time ∧ t = { s with time := t.time, job := t.job, regs := t.regs } := by
  refine ⟨(s.due (e.2 + 10000000000)).setHeld (s.job.held.erase e), ?_, rfl, Nat.le_max_right _ _, rfl⟩
  change execPendingNoticeExpire g s = _
  rw [execPendingNoticeExpire, held]

end

/-- Settles O53: the job's registers follow its block; the three ways lead to the queue; of a verified notice the first result of Table 13.9
that applies is told, and the next generation with a quorum excludes its node. -/
theorem jobsAndNotices : Obligations.JobsAndNotices := by
  refine ⟨?_, ?_, ?_, ?_, ?_, ?_, ?_, ?_, ?_⟩
  · intro s w reaches asked u a b
    exact ⟨jobInstall_done reaches asked rfl rfl, jobInstall_refused reaches asked rfl rfl⟩
  · intro s w reaches asked alone
    refine ⟨fun shutter idle unbound => jobClear_done reaches asked alone ?_, fun refused => jobClear_refused reaches asked alone ?_⟩
    · simpa [State.clearRefused, shutter, unbound] using idle
    · rcases refused with shut | bound
      · simp [State.clearRefused, shut]
      · simp [State.clearRefused, bound]
  · intro s w reaches asked a n d some_ few head all clean
    have run := exec_noticeSubmit reaches asked rfl rfl some_ few head all clean
    refine ⟨fun room => run.trans (congrArg _ (s.queueNotice_of_room room d.bytes)), fun full => ?_⟩
    rw [State.queueNotice, if_pos full] at run
    obtain ⟨r, l, frame⟩ := s.noticeResult_eq (code := 8) (by decide) d.bytes []
    exact ⟨_, run, s.noticeResult_told (by omega) _ _, by rw [frame]⟩
  · exact fun s n up => ⟨fun own room => (exec_pldmNotice up own).trans (congrArg _ (s.queueNotice_of_room room n)), exec_pldmNotice_kept⟩
  · intro s port f up free own clean
    refine ⟨fun first one short room => ?_, fun first more few whole => ?_, fun bs t0 frag later more few whole => ?_⟩
    · exact signedNotice_only ⟨⟨up, free, own⟩, clean, by omega, by omega, short, by omega⟩ first one room
    · have a : FragFits s port f := ⟨⟨up, free, own⟩, clean, by omega, few, by omega, fun _ => whole⟩
      have kept := s.takeFrag_keeps (port := port) (f := f) (by omega) []
      exact ⟨_, a.exec_of_first first, by rw [kept.1, first, List.nil_append], kept.2⟩
    · have a : FragFits s port f := ⟨⟨up, free, own⟩, clean, by omega, few, by omega, fun _ => whole⟩
      have run := a.exec_of_later later frag
      refine ⟨fun inTime same => ?_, fun late => ?_⟩
      · rw [if_neg (by omega)] at run
        exact ⟨_, run, s.takeFrag_keeps more bs⟩
      · rw [if_pos (.inr late)] at run
        exact ⟨_, run, congrArg Port.frag (s.setPort_same port _), rfl⟩
  · exact fun s port bs i n t0 frag => fragmentGapTimeout_gives frag
  · intro s b rest good queue valid n g told
    have run := exec_noticeVerified (good := good) queue
    refine ⟨fun none_ => ?_, fun installed bad => ?_, fun installed fit other => ?_, fun installed fit job next short => ?_, ?_⟩
    · exact ⟨_, run, (judgeNotice_without (s := s.dequeued rest) none_).symm ▸ State.noticeResult_tells (by omega) []⟩
    · exact ⟨_, run, (judgeNotice_malformed (s := s.dequeued rest) installed bad).symm ▸ State.noticeResult_tells (by omega) []⟩
    · exact ⟨_, run, (judgeNotice_foreign (s := s.dequeued rest) installed fit other).symm ▸ State.noticeResult_tells (by omega) []⟩
    · have own : OfJob (s.dequeued rest) b := ⟨installed, fit, job⟩
      exact ⟨_, run, (own.judgeNotice_short next short).symm ▸ State.noticeResult_tells (by omega) _⟩
    · intro installed fit job next quorum exclude other new room held reqs ops idle unbound
      have own : OfJob (s.dequeued rest) b := ⟨installed, fit, job⟩
      exact ⟨_, run, own.judgeNotice_applies next quorum exclude other new room held ⟨reqs, ops, idle, unbound⟩⟩
  · intro s good queue
    change execNoticeVerified good s = _
    rw [execNoticeVerified, queue]
  · exact fun s g e held => pendingNoticeExpire_gives held

end Sys2Proof.Machine

/-! SUPPORT. The units that a reset reaches (R84, R343, R344): a quadrant whose fabric operations have ended, and a context without work. -/

namespace Sys2Proof.Machine

/-! ## A quadrant is reset (R84, R344) -/

section
variable (s : State)

theorem State.arraysReset_eq (q : Nat) : ∃ r ar ac ab vr, s.arraysReset q =
    { s with regs := r, arrays := ar, acc := ac, accBad := ab, vreg := vr } := by
  have rows (l : List Nat) (u : State) :
      RegsOnly u (l.foldl (fun s k => arrayStat.foldl (fun s f => s.put f f.reset (64 * q + k)) s) u) :=
    List.foldlRecOn (motive := RegsOnly u) l _ (.refl u) fun v before k _ =>
      List.foldlRecOn (motive := RegsOnly u) arrayStat _ before fun v before f _ => before.put f _ _
  unfold State.arraysReset
  dsimp only
  exact ⟨_, _, _, _, _, rows _ _⟩

theorem State.arraysReset_get (q : Nat) {f : Fld} (low : f.code < 1024) (apart : f.code ∉ arrayStat.map Fld.code) (i : Nat) :
    (s.arraysReset q).get f i = s.get f i := by
  have stat (u : State) (k : Nat) : (arrayStat.foldl (fun s f => s.put f f.reset (64 * q + k)) u).get f i = u.get f i := by
    simp only [arrayStat, List.map_cons, List.map_nil, List.mem_cons, List.not_mem_nil, or_false, not_or] at apart
    obtain ⟨operation, rows, credits, buf, lamp⟩ := apart
    simp only [arrayStat, List.foldl_cons, List.foldl_nil]
    rw [State.put_get_apart _ (by decide) low lamp, State.put_get_apart _ (by decide) low buf,
      State.put_get_apart _ (by decide) low credits, State.put_get_apart _ (by decide) low rows,
      State.put_get_apart _ (by decide) low operation]
  exact (foldl_keeps (State.get · f i) stat _ _).trans rfl

theorem State.engReset_eq (e : Nat) : ∃ r m, s.engReset e = { s with regs := r, engines := m } := by
  obtain ⟨r, m, set⟩ := s.setEng_eq e { active := [], suspects := (s.eng e).suspects, frozen := true }
  refine ⟨(s.engReset e).regs, m, ?_⟩
  rw [State.engReset, set]
  rfl

/-- The end of the launch that runs on a quadrant. -/
def State.quadEnds (s : State) (q : Nat) (st : Status) : State :=
  match (s.seq q).launch with | some id => s.endQuad q id st | none => s

theorem State.quadEnds_eq (q : Nat) (st : Status) : ∃ r qs gs ls, s.quadEnds q st = { s with regs := r, queues := qs, graphs := gs, launches := ls } := by
  unfold State.quadEnds
  split
  · obtain ⟨qs, gs, ls, frame⟩ := s.endQuad_eq q _ st
    exact ⟨_, qs, gs, ls, frame⟩
  · exact ⟨s.regs, s.queues, s.graphs, s.launches, rfl⟩

variable {s}

/-- With no fabric operation under way a quadrant's reset is the end of its launch, its sequencer and arrays cleared. -/
theorem State.quadReset_of_idle (ops : s.fab.ops = []) (q : Nat) (st : Status) : s.quadReset q st =
    ((((s.quadEnds q st).setSeq q { nextId := (s.seq q).nextId }).arraysReset q).showSeq q).engReset q := by
  have none_ : (s.quadEnds q st).fab.ops = [] := by
    obtain ⟨r, qs, gs, ls, frame⟩ := s.quadEnds_eq q st
    rw [frame, ops]
  have settled : (s.quadEnds q st).settleOps = s.quadEnds q st :=
    State.settleOps_of_settled fun o listed => absurd (none_ ▸ listed) List.not_mem_nil
  change (((((((s.quadEnds q st).fab.ops.filter fun o => o.ofQuad q).foldl (fun s o => s.opDrop o) (s.quadEnds q st)).settleOps).setSeq q
    { nextId := (s.seq q).nextId }).arraysReset q).showSeq q).engReset q = _
  rw [none_, List.filter_nil, List.foldl_nil, settled]

/-- What a reset of quadrants leaves: of the sequencers those not reset, and what is no part of a quadrant. -/
structure QuadsReset (qs : List Nat) (s t : State) : Prop where
  seq : ∀ q, t.seq q = if q ∈ qs then { nextId := (s.seq q).nextId } else s.seq q
  frame : t = { s with regs := t.regs, queues := t.queues, graphs := t.graphs, launches := t.launches, seqs := t.seqs, arrays := t.arrays,
                       acc := t.acc, accBad := t.accBad, vreg := t.vreg, engines := t.engines }

theorem State.quadReset_resets (ops : s.fab.ops = []) (q : Nat) (st : Status) : QuadsReset [q] s (s.quadReset q st) := by
  rw [State.quadReset_of_idle ops]
  obtain ⟨r, qs, gs, ls, ended⟩ := s.quadEnds_eq q st
  obtain ⟨r', ar, ac, ab, vr, cleared⟩ := ((s.quadEnds q st).setSeq q { nextId := (s.seq q).nextId }).arraysReset_eq q
  obtain ⟨r'', shown⟩ := (((s.quadEnds q st).setSeq q { nextId := (s.seq q).nextId }).arraysReset q).showSeq_eq q
  obtain ⟨r''', m, reset⟩ := ((((s.quadEnds q st).setSeq q { nextId := (s.seq q).nextId }).arraysReset q).showSeq q).engReset_eq q
  rw [reset, shown, cleared, ended]
  refine ⟨fun k => ?_, rfl⟩
  change (s.setSeq q { nextId := (s.seq q).nextId }).seq k = _
  by_cases own : k = q
  · subst own
    simp
  · rw [State.setSeq_other s _ own, if_neg (by simpa using own)]

theorem QuadsReset.nil (s : State) : QuadsReset [] s s := ⟨fun _ => rfl, rfl⟩

theorem QuadsReset.trans {qs qs' : List Nat} {t u : State} (h : QuadsReset qs s t) (h' : QuadsReset qs' t u) : QuadsReset (qs ++ qs') s u := by
  refine ⟨fun k => ?_, ?_⟩
  · rw [h'.seq, h.seq]
    simp only [List.mem_append]
    by_cases first : k ∈ qs <;> by_cases later : k ∈ qs' <;> simp [first, later]
  · have frame := h.frame
    generalize t.regs = r at frame
    generalize t.queues = q at frame
    generalize t.graphs = g at frame
    generalize t.launches = l at frame
    generalize t.seqs = x at frame
    generalize t.arrays = a at frame
    generalize t.acc = b at frame
    generalize t.accBad = c at frame
    generalize t.vreg = v at frame
    generalize t.engines = e at frame
    have frame' := h'.frame
    rw [frame] at frame'
    exact frame'

theorem QuadsReset.fab {qs : List Nat} {t : State} (h : QuadsReset qs s t) : t.fab = s.fab := by rw [h.frame]
theorem QuadsReset.mem {qs : List Nat} {t : State} (h : QuadsReset qs s t) : t.mem = s.mem := by rw [h.frame]
theorem QuadsReset.spad {qs : List Nat} {t : State} (h : QuadsReset qs s t) : t.spad = s.spad := by rw [h.frame]
theorem QuadsReset.rst {qs : List Nat} {t : State} (h : QuadsReset qs s t) : t.rst = s.rst := by rw [h.frame]

/-- The quadrants of a die are reset one after another. -/
theorem State.dieReset_resets (ops : s.fab.ops = []) (c : Nat) (st : Status) :
    QuadsReset [4 * c, 4 * c + 1, 4 * c + 2, 4 * c + 3] s (s.dieReset c st) := by
  have die : s.dieReset c st = List.foldl (fun s k => s.quadReset (4 * c + k) st) s [0, 1, 2, 3] := rfl
  rw [die]
  simp only [List.foldl_cons, List.foldl_nil, Nat.add_zero]
  have first := s.quadReset_resets ops (4 * c) st
  generalize s.quadReset (4 * c) st = t at first
  have second := State.quadReset_resets (s := t) (by rw [first.fab, ops]) (4 * c + 1) st
  generalize t.quadReset (4 * c + 1) st = u at second
  have third := State.quadReset_resets (s := u) (by rw [second.fab, first.fab, ops]) (4 * c + 2) st
  generalize u.quadReset (4 * c + 2) st = v at third
  have fourth := State.quadReset_resets (s := v) (by rw [third.fab, second.fab, first.fab, ops]) (4 * c + 3) st
  exact ((first.trans second).trans third).trans fourth

/-- The launch that ran shows its outcome at the quadrant. -/
theorem State.quadReset_status (ops : s.fab.ops = []) {q id : Nat} (run : (s.seq q).launch = some id) (st : Status) :
    (s.quadReset q st).get F.QD_SEQ_STAT_last_status q = st.code := by
  have shown : (s.quadEnds q st).get F.QD_SEQ_STAT_last_status q = st.code := by
    obtain ⟨qs, gs, ls, frame⟩ := s.endQuad_eq q id st
    rw [State.quadEnds, run]
    dsimp only
    rw [frame]
    exact (s.put_get_same F.QD_SEQ_STAT_last_status st.code q).trans (Nat.mod_eq_of_lt st.code_lt)
  rw [State.quadReset_of_idle ops, State.engReset_get _ (by decide) (by decide) (by decide), State.showSeq_get _ (by decide) (by decide),
    State.arraysReset_get _ _ (by decide) (by decide), State.setSeq_get, shown]

end

/-! ## A context without work (R343) -/

section
variable {s : State}

/-- A queue without descriptors that closes leaves nothing but its registers. -/
theorem State.closeQueue_of_none (none_ : s.queues = []) (n : Nat) : s.closeQueue n = (s.put F.HUB_Q_CFG_enable 0 n).put F.HUB_Q_STAT_state 0 n := by
  have empty : s.queue n = {} := by rw [State.queue, none_, SMap.get_nil]
  rw [State.closeQueue_eq, empty]
  have emptied : (({} : Queue).closed).ents = [] := rfl
  have back : { ({} : Queue).closed with closing := false } = ({} : Queue) := rfl
  dsimp only
  rw [if_pos emptied, back]
  have gone (v : Queue) : SMap.set {} (SMap.set {} ([] : SMap Queue) n v) n {} = [] := by
    rw [SMap.set, if_pos rfl, SMap.set]
    split <;> simp [SMap.erase, SMap.insert]
  have queues : ((((s.put F.HUB_Q_CFG_enable 0 n).setQueue n ({} : Queue).closed).put F.HUB_Q_STAT_state 0 n).setQueue n {}).queues = s.queues := by
    change SMap.set ({} : Queue) (SMap.set ({} : Queue) s.queues n ({} : Queue).closed) n ({} : Queue) = s.queues
    rw [none_, gone]
  calc _ = { (s.put F.HUB_Q_CFG_enable 0 n).put F.HUB_Q_STAT_state 0 n with
      queues := ((((s.put F.HUB_Q_CFG_enable 0 n).setQueue n ({} : Queue).closed).put F.HUB_Q_STAT_state 0 n).setQueue n {}).queues } := rfl
    _ = _ := by rw [queues]; rfl

end

end Sys2Proof.Machine

/-! O50. Context, engine and partition resets (R340, R341, R343-R345). -/

namespace Sys2Proof.Machine

/-! ## A context's queues close (R343) -/

/-- A key that does not read as an unlisted one stands in the map. -/
theorem mem_of_get_ne {α : Type} {d : α} {m : SMap α} {k : Nat} (changed : SMap.get d m k ≠ d) : (k, SMap.get d m k) ∈ m := by
  induction m with
  | nil => exact absurd rfl changed
  | cons e m ih =>
    obtain ⟨j, v⟩ := e
    simp only [SMap.get] at changed ⊢
    split
    next own => exact own ▸ List.mem_cons_self
    next other =>
      rw [if_neg other] at changed
      exact List.mem_cons_of_mem _ (ih changed)

theorem State.mem_indicesWith {s : State} {f : Fld} (low : f.code < 1024) {n v : Nat} (reads : s.get f n = v) (changed : v ≠ f.reset) :
    n ∈ s.indicesWith f v := by
  subst reads
  refine List.mem_filterMap.2 ⟨_, mem_of_get_ne changed, ?_⟩
  have code : f.key n % 1024 = f.code := by simp only [Fld.key]; omega
  have index : f.key n / 1024 = n := by simp only [Fld.key]; omega
  dsimp only
  rw [index]
  exact if_pos ⟨code, rfl⟩

/-- Queues without descriptors close: they read disabled, and nothing but their registers changes. -/
structure Closes (ns : List Nat) (s t : State) : Prop where
  only : RegsOnly s t
  off : ∀ n ∈ ns, t.get F.HUB_Q_CFG_enable n = 0
  still : ∀ n, s.get F.HUB_Q_CFG_enable n = 0 → t.get F.HUB_Q_CFG_enable n = 0
  reads : ∀ f : Fld, f.code < 1024 → f.code ≠ F.HUB_Q_CFG_enable.code → f.code ≠ F.HUB_Q_STAT_state.code → ∀ i, t.get f i = s.get f i

theorem State.closeQueue_closes {s : State} (none_ : s.queues = []) (n : Nat) : Closes [n] s (s.closeQueue n) := by
  rw [State.closeQueue_of_none none_]
  have enable (m : Nat) : ((s.put F.HUB_Q_CFG_enable 0 n).put F.HUB_Q_STAT_state 0 n).get F.HUB_Q_CFG_enable m =
      (s.put F.HUB_Q_CFG_enable 0 n).get F.HUB_Q_CFG_enable m := State.put_get_apart _ (by decide) (by decide) (by decide) _ _ _
  have own : (s.put F.HUB_Q_CFG_enable 0 n).get F.HUB_Q_CFG_enable n = 0 := (s.put_get_same _ _ _).trans (Nat.zero_mod _)
  refine ⟨((RegsOnly.refl s).put _ _ _).put _ _ _, fun m listed => ?_, fun m off => ?_, fun f low apart apart' i => ?_⟩
  · rw [enable, List.mem_singleton.1 listed, own]
  · rw [enable]
    by_cases same : m = n
    · rw [same, own]
    · rw [State.put_get_other s (fun e => same (Fld.key_inj.1 e)), off]
  · rw [State.put_get_apart _ (by decide) low apart', State.put_get_apart _ (by decide) low apart]

theorem Closes.trans {ns ms : List Nat} {s t u : State} (h : Closes ns s t) (h' : Closes ms t u) : Closes (ns ++ ms) s u :=
  ⟨h.only.trans h'.only, fun n listed => (List.mem_append.1 listed).elim (fun own => h'.still n (h.off n own)) (h'.off n),
    fun n off => h'.still n (h.still n off),
    fun f low apart apart' i => (h'.reads f low apart apart' i).trans (h.reads f low apart apart' i)⟩

theorem State.closeQueues_closes (ns : List Nat) : ∀ {s : State}, s.queues = [] → Closes ns s (ns.foldl (fun s n => s.closeQueue n) s) := by
  induction ns with
  | nil => exact fun {s} _ => ⟨rfl, fun _ none_ => absurd none_ List.not_mem_nil, fun _ off => off, fun _ _ _ _ _ => rfl⟩
  | cons n ns ih =>
    intro s none_
    have first := State.closeQueue_closes none_ n
    exact first.trans (ih ((congrArg State.queues first.only).trans none_))

/-- Steps 1 and 2 of the reset of a context that has no work: its queues read disabled, and its replay point is kept. -/
structure ContextEnds (x : Nat) (s t : State) : Prop where
  only : RegsOnly s t
  off : ∀ n, s.get F.HUB_Q_CFG_enable n = 1 → s.get F.HUB_Q_CFG_context n = x → t.get F.HUB_Q_CFG_enable n = 0
  reads : ∀ f : Fld, f.code < 1024 → f.code ∉ [F.HUB_Q_CFG_enable, F.HUB_Q_STAT_state, F.HUB_CTX_REPLAY_frozen].map Fld.code →
    ∀ i, t.get f i = s.get f i

theorem State.endContext_ends {s : State} (none_ : s.queues = []) (x : Nat) : ContextEnds x s (s.endContext x) := by
  have frozen := s.freezeReplay_regsOnly x
  have frozenReads {f : Fld} (low : f.code < 1024) (apart : f.code ≠ F.HUB_CTX_REPLAY_frozen.code) (i : Nat) := s.freezeReplay_get x low apart i
  unfold State.endContext
  dsimp only
  generalize s.freezeReplay x = u at frozen frozenReads
  have closes := State.closeQueues_closes ((u.indicesWith F.HUB_Q_CFG_enable 1).filter fun n => u.get F.HUB_Q_CFG_context n == x)
    ((congrArg State.queues frozen).trans none_)
  have own {n : Nat} (on : s.get F.HUB_Q_CFG_enable n = 1) (ctx : s.get F.HUB_Q_CFG_context n = x) :
      n ∈ (u.indicesWith F.HUB_Q_CFG_enable 1).filter fun n => u.get F.HUB_Q_CFG_context n == x := by
    refine List.mem_filter.2 ⟨State.mem_indicesWith (by decide) ((frozenReads (by decide) (by decide) n).trans on) (by decide), ?_⟩
    simpa using (frozenReads (by decide) (by decide) n).trans ctx
  generalize (u.indicesWith F.HUB_Q_CFG_enable 1).filter (fun n => u.get F.HUB_Q_CFG_context n == x) = ns at closes own
  generalize ns.foldl (fun s n => s.closeQueue n) u = v at closes
  have open_ : v.openOf x = [] := by
    rw [State.openOf, (congrArg State.queues closes.only).trans ((congrArg State.queues frozen).trans none_), List.flatMap_nil]
  rw [open_, List.foldl_nil]
  refine ⟨(frozen.trans closes.only).put _ _ _, fun n on ctx => ?_, fun f low apart i => ?_⟩
  · rw [State.putB_get_apart _ (by decide) (by decide) (by decide), closes.off n (own on ctx)]
  · simp only [List.map_cons, List.map_nil, List.mem_cons, List.not_mem_nil, or_false, not_or] at apart
    obtain ⟨enable, state, replay⟩ := apart
    rw [State.putB_get_apart _ (by decide) low replay, closes.reads f low enable state, frozenReads low replay]

/-! ## CONTEXT_RESET (R343) -/

section
variable {s : State} {w : BarAcc}

theorem exec_contextReset (h : AsksReset s w .context) : exec (.contextReset w) s = .next (s.request (resetReq w .context)) :=
  congrArg _ (h.onReset s.request)

theorem resetReq_target_lt (w : BarAcc) (k : RKind) : (resetReq w k).target < 2 ^ 12 := Nat.mod_lt _ (by decide)

/-- The reset in progress is this one, as its state register shows. -/
def State.resetting (s : State) (r : RReq) (state : Nat) : State :=
  { s with rst := { s.rst with run := some { req := r, since := s.time } } }.resetState state

theorem State.settleContexts_ends {r : RRun} (running : s.rst.run = some r) (kind : r.req.kind = .context) (none_ : s.rst.ctxEnding = [])
    (quiet : s.ctxQuiet r.req.target = true) : s.settleContexts = (s.zeroSync r.req.target).finishReset 0 := by
  simp [State.settleContexts, none_, running, kind, quiet]

theorem State.zeroSync_syncVal (s : State) (x i : Nat) : (s.zeroSync x).syncVal i = if (s.ctxOf x).maySync i then 0 else s.syncVal i :=
  SMap.get_drop 0 s.sync _ i

theorem State.maySync_congr {t : State} {x : Nat} (first : t.get F.CTX_sync_first x = s.get F.CTX_sync_first x)
    (count : t.get F.CTX_sync_count x = s.get F.CTX_sync_count x) (i : Nat) : (t.ctxOf x).maySync i = (s.ctxOf x).maySync i := by
  simp only [Ctx.maySync, State.ctxOf, first, count]
  rfl

/-- What the reset of an idle device's context leaves. -/
structure ContextReset (s : State) (x : Nat) (t : State) : Prop where
  sync : ∀ i, t.syncVal i = if (s.ctxOf x).maySync i then 0 else s.syncVal i
  off : ∀ n, s.get F.HUB_Q_CFG_enable n = 1 → s.get F.HUB_Q_CFG_context n = x → t.get F.HUB_Q_CFG_enable n = 0
  shows : ShowsEnd t 1 x 0
  state : t.get F.HUB_RESET_STAT_state 0 = 0
  rst : t.rst = s.rst
  rest : t.mem = s.mem ∧ t.spad = s.spad ∧ t.hubsp = s.hubsp ∧ t.seqs = s.seqs

theorem State.request_context {q : RReq} (kind : q.kind = .context) (small : q.target < 2 ^ 12) (idle : s.resetsIdle) (work : s.idleWork) :
    ContextReset s q.target (s.request q) := by
  obtain ⟨run, followers, ending, -, -⟩ := id idle
  obtain ⟨queues, launches, graphs, -⟩ := work
  have starts : s.request q = ((s.resetting q 1).endContext q.target).settleContexts := by
    rw [State.request_of_idle idle, State.startReset, kind]
    rfl
  have ends := (s.resetting q 1).endContext_ends queues q.target
  have other {f : Fld} (low : f.code < 1024) (apart : f.code ≠ F.HUB_RESET_STAT_state.code) (i : Nat) :
      (s.resetting q 1).get f i = s.get f i := State.put_get_apart _ (by decide) low apart _ _ _
  generalize (s.resetting q 1).endContext q.target = u at starts ends
  have only := ends.only
  have running : u.rst.run = some { req := q, since := s.time } := by rw [only]; rfl
  have quiet : u.ctxQuiet q.target = true := by
    have none_ : u.queues = [] ∧ u.launches = [] ∧ u.graphs = [] := by
      rw [only]
      exact ⟨queues, launches, graphs⟩
    simp [State.ctxQuiet, none_]
  have noneEnding : u.rst.ctxEnding = [] := by
    rw [only]
    exact ending
  have settled := u.settleContexts_ends running kind noneEnding quiet
  have running' : (u.zeroSync q.target).rst.run = some { req := q, since := s.time } := running
  have noneFollows : (u.zeroSync q.target).noFollowers := by
    rw [State.noFollowers, State.zeroSync, only]
    exact followers
  have alone := State.finishReset_of_noFollowers running' noneFollows 0
  obtain ⟨shows, state⟩ := (u.zeroSync q.target).endedAlone_shows q (result := 0) (by decide)
  rw [kind, Nat.mod_eq_of_lt small, RKind.code] at shows
  have reads (n : Nat) : ((u.zeroSync q.target).endedAlone q 0).get F.HUB_Q_CFG_enable n = u.get F.HUB_Q_CFG_enable n := by
    rw [State.endedAlone_get _ _ _ (by decide) (by decide)]
    simp (disch := decide) only [State.showEnd, State.put_get_apart]
    rfl
  have zeroed (i : Nat) : (u.zeroSync q.target).syncVal i = if (s.ctxOf q.target).maySync i then 0 else s.syncVal i := by
    rw [u.zeroSync_syncVal, State.maySync_congr ((ends.reads _ (by decide) (by decide) q.target).trans (other (by decide) (by decide) q.target))
      ((ends.reads _ (by decide) (by decide) q.target).trans (other (by decide) (by decide) q.target)), only]
    rfl
  obtain ⟨regs, l, o, frame⟩ := (u.zeroSync q.target).endedAlone_eq q 0
  rw [starts, settled, alone]
  refine ⟨fun i => ?_, fun n on ctx => ?_, shows, state, ?_, ?_⟩
  · rw [frame]
    exact zeroed i
  · rw [reads]
    exact ends.off n ((other (by decide) (by decide) n).trans on) ((other (by decide) (by decide) n).trans ctx)
  · have same : u.rst = { s.rst with run := some { req := q, since := s.time } } := by rw [only]; rfl
    rw [frame]
    change { u.rst with run := none } = s.rst
    rw [same, ← run]
  · rw [frame, only]
    exact ⟨rfl, rfl, rfl, rfl⟩

/-! ## ENGINE_RESET and ENGINE_RESET_END (R344) -/

theorem exec_engineReset (h : AsksReset s w .engine) : exec (.engineReset w) s = .next (s.request (resetReq w .engine)) :=
  congrArg _ (h.onReset s.request)

theorem State.freezeEngine_regsOnly (s : State) (e : Nat) : RegsOnly s (s.freezeEngine e) := State.freezeReplays_regsOnly _ s

theorem State.dumpMark_eq (s : State) (codes : List Nat) : ∃ d, s.dumpMark codes = { s with dump := d } := by
  unfold State.dumpMark
  split
  · split
    · exact ⟨_, rfl⟩
    · exact ⟨s.dump, rfl⟩
  · exact ⟨s.dump, rfl⟩

/-- A quadrant before its reset: the dump is told of it, and the replay points of the contexts at work on it are kept. -/
def State.engineFrozen (s : State) (e : Nat) : State := (s.dumpMark [0x20 + e]).freezeEngine e

theorem State.engineFrozen_eq (s : State) (e : Nat) : ∃ r d, s.engineFrozen e = { s with regs := r, dump := d } := by
  obtain ⟨d, marked⟩ := s.dumpMark_eq [0x20 + e]
  have frozen := (s.dumpMark [0x20 + e]).freezeEngine_regsOnly e
  rw [State.engineFrozen, frozen, marked]
  exact ⟨_, d, rfl⟩

theorem State.startReset_quadrant {r : RReq} (kind : r.kind = .engine) (quad : r.target < 16) : ∃ d, s.startReset r =
    State.resetState { (s.engineFrozen r.target).quadReset r.target .eAborted with
      dump := d, rst := { ((s.engineFrozen r.target).quadReset r.target .eAborted).rst with
        run := some { req := r, since := ((s.engineFrozen r.target).quadReset r.target .eAborted).time } } } 2 := by
  simp only [State.startReset, kind, State.resetEngine, quad, if_true, State.engineFrozen]
  exact ⟨_, rfl⟩

/-- A request that starts anything but a context reset leaves nothing of one to settle. -/
theorem State.request_starts {q : RReq} (idle : s.resetsIdle) {run : RRun} (running : (s.startReset q).rst.run = some run)
    (kind : run.req.kind ≠ .context) (ending : (s.startReset q).rst.ctxEnding = []) : s.request q = s.startReset q := by
  rw [State.request_of_idle idle]
  refine State.settleContexts_of_none ending fun v same => ?_
  rw [running] at same
  exact Option.some.inj same ▸ kind

/-- What the reset of a quadrant leaves. -/
structure EngineReset (s : State) (q : RReq) (t : State) : Prop where
  own : t.seq q.target = { nextId := (s.seq q.target).nextId }
  others : ∀ k, k ≠ q.target → t.seq k = s.seq k
  status : ∀ id, (s.seq q.target).launch = some id → t.get F.QD_SEQ_STAT_last_status q.target = Status.eAborted.code
  state : t.get F.HUB_RESET_STAT_state 0 = 2
  rst : t.rst = { s.rst with run := some { req := q, since := s.time } }
  spad : t.spad = s.spad
  mem : t.mem = s.mem

theorem State.startReset_engine {q : RReq} (kind : q.kind = .engine) (quad : q.target < 16) (ops : s.fab.ops = []) :
    EngineReset s q (s.startReset q) := by
  obtain ⟨r, d, frozen⟩ := s.engineFrozen_eq q.target
  have ops' : (s.engineFrozen q.target).fab.ops = [] := by rw [frozen, ops]
  have resets := State.quadReset_resets ops' q.target .eAborted
  have status (id : Nat) (run : (s.seq q.target).launch = some id) :
      ((s.engineFrozen q.target).quadReset q.target .eAborted).get F.QD_SEQ_STAT_last_status q.target = Status.eAborted.code :=
    State.quadReset_status ops' (by rw [frozen]; exact run) .eAborted
  have same (k : Nat) : (s.engineFrozen q.target).seq k = s.seq k := by
    rw [frozen]
    rfl
  have time : ((s.engineFrozen q.target).quadReset q.target .eAborted).time = s.time := by
    rw [resets.frame, frozen]
  have rst : ((s.engineFrozen q.target).quadReset q.target .eAborted).rst = s.rst := by
    rw [resets.frame, frozen]
  have kept : ((s.engineFrozen q.target).quadReset q.target .eAborted).spad = s.spad ∧
      ((s.engineFrozen q.target).quadReset q.target .eAborted).mem = s.mem := by
    rw [resets.frame, frozen]
    exact ⟨rfl, rfl⟩
  obtain ⟨d', starts⟩ := s.startReset_quadrant kind quad
  rw [starts]
  have seqs := resets.seq
  generalize (s.engineFrozen q.target).quadReset q.target .eAborted = u at seqs status time rst kept
  exact {
    own := (seqs q.target).trans (by rw [if_pos (List.mem_singleton_self _), same])
    others := fun k other => (seqs k).trans (by rw [if_neg (by simpa using other), same])
    status := fun id run => (State.put_get_apart _ (by decide) (by decide) (by decide) _ _ _).trans (status id run)
    state := State.put_get_same _ _ _ _
    rst := by
      change { u.rst with run := some { req := q, since := u.time } } = _
      rw [rst, time]
    spad := kept.1
    mem := kept.2 }

theorem engineReset_gives (h : AsksReset s w .engine) (idle : s.resetsIdle) (ops : s.fab.ops = []) (quad : (resetReq w .engine).target < 16) :
    Gives (.engineReset w) s (EngineReset s (resetReq w .engine)) := by
  have starts := State.startReset_engine (s := s) (q := resetReq w .engine) rfl quad ops
  have running : (s.startReset (resetReq w .engine)).rst.run = some { req := resetReq w .engine, since := s.time } := by rw [starts.rst]
  obtain ⟨-, -, ending, -, -⟩ := id idle
  have none_ : (s.startReset (resetReq w .engine)).rst.ctxEnding = [] := by rw [starts.rst, ending]
  have only := State.request_starts idle running (by change RKind.engine ≠ .context; decide) none_
  exact ⟨_, (exec_engineReset h).trans (congrArg _ only), starts⟩

theorem exec_engineResetEnd {r : RRun} (running : s.rst.run = some r) (kind : r.req.kind = .engine) :
    exec .engineResetEnd s = .next (s.finishReset 0) := by
  change execEngineResetEnd s = _
  simp only [execEngineResetEnd, running, kind, if_true]

theorem engineResetEnd_gives {r : RRun} (running : s.rst.run = some r) (kind : r.req.kind = .engine) (followers : s.noFollowers) :
    Gives .engineResetEnd s fun t =>
      ShowsEnd t 2 (r.req.target % 2 ^ 12) 0 ∧ t.get F.HUB_RESET_STAT_state 0 = 0 ∧ t.rst = { s.rst with run := none } ∧
      t = { s with regs := t.regs, log := t.log, rst := t.rst, out := t.out } := by
  have alone := State.finishReset_of_noFollowers running followers 0
  obtain ⟨shows, state⟩ := s.endedAlone_shows r.req (result := 0) (by decide)
  obtain ⟨regs, l, o, frame⟩ := s.endedAlone_eq r.req 0
  rw [kind, RKind.code] at shows
  refine ⟨_, (exec_engineResetEnd running kind).trans (congrArg _ alone), shows, state, s.endedAlone_rst _ _, ?_⟩
  rw [frame]

/-! ## PARTITION_RESET and its stages (R345) -/

theorem exec_partitionReset (h : AsksReset s w .partition) : exec (.partitionReset w) s = .next (s.request (resetReq w .partition)) :=
  congrArg _ (h.onReset s.request)

theorem State.partitionFrozen_eq (s : State) (c : Nat) : ∃ r d, s.partitionFrozen c = { s with regs := r, dump := d } := by
  obtain ⟨d, marked⟩ := s.dumpMark_eq ((0x70 + c) :: (List.range 4).map (fun k => 0x20 + 4 * c + k))
  have frozen : RegsOnly (s.dumpMark ((0x70 + c) :: (List.range 4).map (fun k => 0x20 + 4 * c + k))) (s.partitionFrozen c) :=
    List.foldlRecOn (motive := RegsOnly _) _ _ (.refl _) fun u before k _ => before.trans (u.freezeEngine_regsOnly _)
  rw [frozen, marked]
  exact ⟨_, d, rfl⟩

theorem partitionReset_gives (h : AsksReset s w .partition) (idle : s.resetsIdle) : Gives (.partitionReset w) s fun t =>
    t.get F.HUB_RESET_STAT_state 0 = 3 ∧ t.rst = { s.rst with run := some { req := resetReq w .partition, stage := 1, since := s.time } } ∧
    t = { s with regs := t.regs, rst := t.rst, dump := t.dump } := by
  obtain ⟨r, d, frozen⟩ := s.partitionFrozen_eq (resetReq w .partition).target
  have starts := s.startReset_partition (r := resetReq w .partition) rfl
  have rst : (s.startReset (resetReq w .partition)).rst =
      { s.rst with run := some { req := resetReq w .partition, stage := 1, since := s.time } } := by
    rw [starts, frozen]
    rfl
  have running : (s.startReset (resetReq w .partition)).rst.run = some { req := resetReq w .partition, stage := 1, since := s.time } := by
    rw [rst]
  obtain ⟨-, -, ending, -, -⟩ := id idle
  have none_ : (s.startReset (resetReq w .partition)).rst.ctxEnding = [] := by rw [rst, ending]
  have only := State.request_starts idle running (by change RKind.partition ≠ .context; decide) none_
  refine ⟨_, (exec_partitionReset h).trans (congrArg _ only), ?_, rst, ?_⟩
  · rw [starts]
    exact State.put_get_same _ _ _ _
  · rw [starts, frozen]
    rfl

/-! ## Stages of a partition reset (Table 12.6) -/

theorem State.trainBundle_eq (s : State) (b : Nat) (bad : List Nat) : ∃ v r, s.trainBundle b bad = { s with bundles := v, regs := r } :=
  ⟨_, _, rfl⟩

theorem State.trainBundles_eq (s : State) (first n : Nat) (short : ShortLanes) :
    ∃ b r, s.trainBundles first n short = { s with bundles := b, regs := r } := by
  refine List.foldlRecOn (motive := fun u : State => ∃ b r, u = { s with bundles := b, regs := r }) _ _ ⟨s.bundles, s.regs, rfl⟩
    fun u before k _ => ?_
  obtain ⟨b, r, frame⟩ := before
  obtain ⟨b', r', trained⟩ := u.trainBundle_eq (first + k)
    (((short.filter fun e => e.1 == first + k).flatMap fun e => e.2).filter fun l => decide (l < 66))
  refine ⟨b', r', trained.trans ?_⟩
  rw [frame]

theorem State.serveAll_of_none (held : s.fab.held = []) : s.serveAll = s := by
  have none_ (f : Packet → Bool) : s.serveHeld f = s := State.serveHeld_of_none (by rw [held]; rfl)
  rw [State.serveAll, none_, none_]

/-- Die c's stacks in self-refresh, their held writes performed. -/
def State.enterRefresh (s : State) (c : Nat) : State :=
  { s with mem := { s.mem with
      refresh := if s.mem.refresh.contains c then s.mem.refresh else s.mem.refresh ++ [c]
      holds := s.mem.holds.filter fun h => h.stack / 4 != c } }

/-- Die c's stacks out of self-refresh. -/
def State.leaveRefresh (s : State) (c : Nat) : State := { s with mem := { s.mem with refresh := s.mem.refresh.filter (· != c) } }

/-- A clearing of a range leaves 0 there and every other byte as it was. -/
theorem Mem.byte_clearRange (m : Mem) (lo hi k : Nat) : (m.clearRange lo hi).byte k = if lo ≤ k ∧ k < hi then 0 else m.byte k := by
  have dropped := SMap.get_drop 0 m.bytes (fun k => decide (lo ≤ k) && decide (k < hi)) k
  simp only [Bool.and_eq_true, decide_eq_true_eq] at dropped
  exact dropped

variable {r : RRun} {c : Fin 4} {short : ShortLanes} {bad : List Nat}

/-- A partition reset of die c runs. -/
structure Partition (s : State) (r : RRun) (c : Fin 4) : Prop where
  running : s.rst.run = some r
  kind : r.req.kind = .partition
  target : r.req.target = c.val

theorem Partition.exec (h : Partition s r c) {t : State} (stage : (if r.stage = 1 then (s.dieReset c .eAborted).setStage 2
    else if r.stage = 2 then ((s.enterRefresh c).parkClock c).setStage 3
    else if r.stage = 3 then
      if (s.trainBundles (64 * c) 64 short).linkHalves (computeLink c) < (computeLink c).boot then
        (s.trainBundles (64 * c) 64 short).failReset
      else (s.trainBundles (64 * c) 64 short).setStage 4
    else if r.stage = 4 then (((s.poisonSectors (bad.filter fun k => sectorOnDie c k)).leaveRefresh c).serveAll).setStage 5
    else if r.stage = 5 then (s.clearSpads c).setStage 6
    else (s.unparkClock c).finishReset 0) = t) : exec (.partitionStageDone c short bad) s = .next t := by
  have own : ¬(r.req.kind ≠ .partition ∨ r.req.target ≠ c.val) := by simp [h.kind, h.target]
  change execPartitionStageDone c short bad s = _
  rw [execPartitionStageDone, h.running]
  exact congrArg _ ((if_neg own).trans stage)

theorem Partition.stage1 (h : Partition s r c) (stage : r.stage = 1) (ops : s.fab.ops = []) : Gives (.partitionStageDone c short bad) s fun t =>
    (∀ k < 4, t.seq (4 * c + k) = { nextId := (s.seq (4 * c + k)).nextId }) ∧ t.rst.run = some { r with stage := 2 } ∧
    t.spad = s.spad ∧ t.mem = s.mem := by
  have run := h.exec (short := short) (bad := bad) (if_pos stage)
  have resets := State.dieReset_resets ops c .eAborted
  have running : (s.dieReset c .eAborted).rst.run = some r := by rw [resets.rst, h.running]
  have seqs := resets.seq
  have spad := resets.spad
  have mem := resets.mem
  rw [State.setStage_of_run running] at run
  generalize s.dieReset c .eAborted = u at run seqs spad mem
  refine ⟨_, run, fun k small => (seqs (4 * c + k)).trans (if_pos ?_), rfl, spad, mem⟩
  simp only [List.mem_cons, List.not_mem_nil, or_false]
  omega

theorem State.parkClock_eq (s : State) (c : Nat) : ∃ p, s.parkClock c = { s with pwr := p }.put F.HUB_ARRAY_CLK_current_mhz 0 c := by
  unfold State.parkClock
  dsimp only
  split
  · exact ⟨s.pwr, rfl⟩
  · exact ⟨_, rfl⟩

theorem Partition.stage2 (h : Partition s r c) (stage : r.stage = 2) : Gives (.partitionStageDone c short bad) s fun t =>
    c.val ∈ t.mem.refresh ∧ t.get F.HUB_ARRAY_CLK_current_mhz c = 0 ∧ t.rst.run = some { r with stage := 3 } ∧
    t.mem.dram = s.mem.dram ∧ t = { s with mem := t.mem, pwr := t.pwr, regs := t.regs, rst := t.rst } := by
  have run := h.exec (short := short) (bad := bad) ((if_neg (by omega)).trans (if_pos stage))
  obtain ⟨p, parks⟩ := (s.enterRefresh c).parkClock_eq c
  have running : ((s.enterRefresh c).parkClock c).rst.run = some r := by
    rw [parks]
    exact h.running
  have listed : c.val ∈ (s.enterRefresh c).mem.refresh := by
    unfold State.enterRefresh
    dsimp only
    split
    next listed => simpa using listed
    next => simp
  have stopped : ((s.enterRefresh c).parkClock c).get F.HUB_ARRAY_CLK_current_mhz c = 0 := by
    rw [parks, State.put_get_same]
    exact Nat.zero_mod _
  rw [State.setStage_of_run running] at run
  refine ⟨_, run, ?_, stopped, rfl, ?_⟩
  · rw [parks]
    exact listed
  · rw [parks]
    exact ⟨rfl, rfl⟩

theorem Partition.stage3 (h : Partition s r c) (stage : r.stage = 3)
    (wide : (computeLink c).boot ≤ (s.trainBundles (64 * c) 64 short).linkHalves (computeLink c)) :
    Gives (.partitionStageDone c short bad) s fun t =>
      t.rst.run = some { r with stage := 4 } ∧ t = { s with bundles := t.bundles, regs := t.regs, rst := t.rst } := by
  have run := h.exec (short := short) (bad := bad)
    ((if_neg (by omega)).trans ((if_neg (by omega)).trans ((if_pos stage).trans (if_neg (by omega)))))
  obtain ⟨b, regs, frame⟩ := s.trainBundles_eq (64 * c) 64 short
  have running : (s.trainBundles (64 * c) 64 short).rst.run = some r := by
    rw [frame]
    exact h.running
  rw [State.setStage_of_run running] at run
  refine ⟨_, run, rfl, ?_⟩
  rw [frame]

theorem Partition.stage3_fails (h : Partition s r c) (stage : r.stage = 3)
    (narrow : (s.trainBundles (64 * c) 64 short).linkHalves (computeLink c) < (computeLink c).boot) (stays : r.req.escalate = false)
    (followers : s.noFollowers) : Gives (.partitionStageDone c short bad) s fun t => t.rst.run = none ∧ ShowsEnd t 3 c 1 := by
  have run := h.exec (short := short) (bad := bad)
    ((if_neg (by omega)).trans ((if_neg (by omega)).trans ((if_pos stage).trans (if_pos narrow))))
  obtain ⟨b, regs, frame⟩ := s.trainBundles_eq (64 * c) 64 short
  have running : (s.trainBundles (64 * c) 64 short).rst.run = some r := by
    rw [frame]
    exact h.running
  have noneFollows : (s.trainBundles (64 * c) 64 short).noFollowers := by
    rw [frame]
    exact followers
  have alone := State.failReset_alone running stays noneFollows
  rw [if_neg (by rw [h.kind]; decide)] at alone
  obtain ⟨shows, -⟩ := (s.trainBundles (64 * c) 64 short).endedAlone_shows r.req (result := 1) (by decide)
  rw [h.kind, RKind.code, h.target, Nat.mod_eq_of_lt (by omega)] at shows
  exact ⟨_, run.trans (congrArg _ alone), by rw [State.endedAlone_rst], shows⟩

theorem Partition.stage4 (h : Partition s r c) (stage : r.stage = 4) (held : s.fab.held = []) : Gives (.partitionStageDone c short []) s fun t =>
    c.val ∉ t.mem.refresh ∧ t.mem.dram = s.mem.dram ∧ t.rst.run = some { r with stage := 5 } ∧ t = { s with mem := t.mem, rst := t.rst } := by
  have run := h.exec (short := short) (bad := [])
    ((if_neg (by omega)).trans ((if_neg (by omega)).trans ((if_neg (by omega)).trans (if_pos stage))))
  have clean : s.poisonSectors ([].filter fun k => sectorOnDie c k) = s := rfl
  have left_ : c.val ∉ (s.leaveRefresh c).mem.refresh := by simp [State.leaveRefresh]
  rw [clean, State.serveAll_of_none (s := s.leaveRefresh c) held, State.setStage_of_run (s := s.leaveRefresh c) h.running] at run
  exact ⟨_, run, left_, rfl, rfl, rfl⟩

theorem Partition.stage5 (h : Partition s r c) (stage : r.stage = 5) : Gives (.partitionStageDone c short bad) s fun t =>
    (∀ k, spadKey (4 * c) 0 ≤ k → k < spadKey (4 * c + 4) 0 → t.spad.byte k = 0) ∧
    (∀ k, k < spadKey (4 * c) 0 ∨ spadKey (4 * c + 4) 0 ≤ k → t.spad.byte k = s.spad.byte k) ∧
    t.rst.run = some { r with stage := 6 } ∧ t = { s with spad := t.spad, rst := t.rst } := by
  have run := h.exec (short := short) (bad := bad)
    ((if_neg (by omega)).trans ((if_neg (by omega)).trans ((if_neg (by omega)).trans ((if_neg (by omega)).trans (if_pos stage)))))
  rw [State.setStage_of_run (s := s.clearSpads c) h.running] at run
  refine ⟨_, run, fun k low high => ?_, fun k outside => ?_, rfl, rfl⟩
  · exact (s.spad.byte_clearRange _ _ k).trans (if_pos ⟨low, high⟩)
  · exact (s.spad.byte_clearRange _ _ k).trans (if_neg fun inside => by omega)

theorem Partition.stage6 (h : Partition s r c) (stage : r.stage = 6) (followers : s.noFollowers) :
    Gives (.partitionStageDone c short bad) s fun t => ShowsEnd t 3 c 0 ∧ t.rst = { s.rst with run := none } ∧ t.mem = s.mem := by
  have run := h.exec (short := short) (bad := bad)
    ((if_neg (by omega)).trans ((if_neg (by omega)).trans ((if_neg (by omega)).trans ((if_neg (by omega)).trans (if_neg (by omega))))))
  have alone := State.finishReset_of_noFollowers (s := s.unparkClock c) h.running followers 0
  obtain ⟨shows, -⟩ := (s.unparkClock c).endedAlone_shows r.req (result := 0) (by decide)
  rw [h.kind, RKind.code, h.target, Nat.mod_eq_of_lt (by omega)] at shows
  refine ⟨_, run.trans (congrArg _ alone), shows, ?_, ?_⟩
  · rw [State.endedAlone_rst]
    rfl
  · rw [State.endedAlone_mem]
    rfl

/-! ## Requests that no reset of their own follows (R340, R341) -/

theorem engineReset_absorbed {v : RRun} (h : AsksReset s w .engine) (free : s.stopActive = false) (cycle : s.rst.cycleWait = false)
    (running : s.rst.run = some v) (inside : (resetReq w .engine).inside v.req = true) :
    exec (.engineReset w) s = .next { s with rst := { s.rst with absorbed := s.rst.absorbed ++ [resetReq w .engine] } } := by
  rw [exec_engineReset h]
  simp [State.request, free, cycle, running, inside]

theorem contextReset_stopped (stop : s.stopActive = true) (h : AsksReset s w .context) : Gives (.contextReset w) s fun t =>
    ShowsEnd t 1 (resetReq w .context).target 3 ∧ t = { s with regs := t.regs, log := t.log, out := t.out } := by
  have ends : s.request (resetReq w .context) = s.resetEnds (resetReq w .context) 3 :=
    if_pos ⟨stop, by change RKind.context ≠ .chip; decide, by change RKind.context ≠ .powerCycle; decide⟩
  have shows := s.resetEnds_shows (resetReq w .context) (result := 3) (by decide)
  obtain ⟨regs, l, o, frame⟩ := s.resetEnds_eq (resetReq w .context) 3
  have kind : (resetReq w .context).kind.code = 1 := rfl
  rw [kind, Nat.mod_eq_of_lt (resetReq_target_lt w .context)] at shows
  refine ⟨_, (exec_contextReset h).trans (congrArg _ ends), shows, ?_⟩
  rw [frame]

/-- A write with a field that must be 0 is counted, whatever kind it names. -/
theorem onReset_bad (reaches : Reaches s .HUB_RESET_CTRL 0 w 0) (bad : w.resetBad = true) {k : RKind} (kind : w.resetKind = k.code)
    (f : RReq → State) : s.onReset w k f = s.badAccess :=
  (reaches.onWrite _).trans ((if_neg (by simp [kind])).trans (if_pos bad))

end

/-- Settles O50: without work a context ends at once; a quadrant without fabric operations is cleared but for its scratchpad; a partition
reset runs through its stages; each end is shown with its result. -/
theorem workResets : Obligations.WorkResets := by
  refine ⟨?_, ?_, ?_, ?_, ?_, ?_, ?_, ?_, ?_⟩
  · intro s w h idle work
    have reset := State.request_context (q := resetReq w .context) rfl (resetReq_target_lt w .context) idle work
    refine ⟨_, exec_contextReset h, fun i own => ?_, fun i foreign => ?_, reset.off, reset.shows, reset.state, reset.rst, reset.rest⟩
    · rw [reset.sync, if_pos own]
    · rw [reset.sync, if_neg (by simp [foreign])]
  · intro s w h idle ops e quad
    obtain ⟨t, run, reset⟩ := engineReset_gives h idle ops quad
    exact ⟨t, run, reset.own, reset.others, reset.status, reset.state, by rw [reset.rst], reset.spad, reset.mem⟩
  · exact fun s r running kind followers => engineResetEnd_gives running kind followers
  · intro s none_
    change execEngineResetEnd s = _
    rw [execEngineResetEnd, none_]
  · exact fun s w h idle => partitionReset_gives h idle
  · intro s r c short bad running kind target
    have h : Partition s r c := ⟨running, kind, target⟩
    exact ⟨h.stage1, h.stage2, h.stage3, h.stage3_fails, h.stage4, h.stage5, h.stage6⟩
  · exact fun s w v h free cycle running inside => engineReset_absorbed h free cycle running inside
  · exact fun s w stop h => contextReset_stopped stop h
  · intro s w reaches bad c listed kind
    have counted : exec c.2 s = .next s.badAccess := by
      simp only [List.mem_cons, List.not_mem_nil, or_false] at listed
      rcases listed with rfl | rfl | rfl | rfl | rfl <;> exact congrArg _ (onReset_bad reaches bad kind _)
    exact ⟨_, counted, s.badAccess_onlyRegs⟩

end Sys2Proof.Machine

/-! SUPPORT. What issuing towards a node leaves when a request waits to be sent (R225, R229, R231, R234): memory, the reflection pair and
work are as they were, and every request that was stored is still stored, sent or not. -/

namespace Sys2Proof.Machine

/-! ## Requests that stay stored -/

/-- Request r' is r, but for its sequence numbers and its attempts. -/
def FabReq.Repeats (r r' : FabReq) : Prop :=
  r' = { r with fseq := r'.fseq, aseq := r'.aseq, attempts := r'.attempts, first := r'.first, last := r'.last, port := r'.port
                resend := r'.resend }

namespace FabReq.Repeats
variable {r r' r'' : FabReq}

theorem rfl' : r.Repeats r := rfl

theorem trans (h : r.Repeats r') (h' : r'.Repeats r'') : r.Repeats r'' := by
  unfold FabReq.Repeats at *
  rw [h'] at *
  rw [h]

theorem serial (h : r.Repeats r') : r'.serial = r.serial := by rw [h]
theorem node (h : r.Repeats r') : r'.node = r.node := by rw [h]
theorem kind (h : r.Repeats r') : r'.kind = r.kind := by rw [h]
theorem key (h : r.Repeats r') : r'.key = r.key := by rw [h]
theorem off (h : r.Repeats r') : r'.off = r.off := by rw [h]
theorem data (h : r.Repeats r') : r'.data = r.data := by rw [h]
theorem poison (h : r.Repeats r') : r'.poison = r.poison := by rw [h]

end FabReq.Repeats

/-- Request r is stored, numbered by the engine, and the only one of its serial number. -/
structure Fabric.Holds (f : Fabric) (r : FabReq) : Prop where
  stored : r ∈ f.reqs
  numbered : r.serial < f.serial
  only : ∀ x ∈ f.reqs, x.serial = r.serial → x = r

theorem Fabric.Holds.congr {f g : Fabric} {r : FabReq} (h : f.Holds r) (reqs : g.reqs = f.reqs) (serial : g.serial = f.serial) :
    g.Holds r := ⟨reqs ▸ h.stored, serial ▸ h.numbered, reqs ▸ h.only⟩

/-! ## What issuing leaves -/

/-- Only the fabric engine, its counters, ports and output differ, and every stored request stays. -/
structure OnlyIssues (s t : State) : Prop where
  frame : t = { s with fab := t.fab, regs := t.regs, ports := t.ports, out := t.out }
  reads : ∀ g : Fld, g.code < 1024 → g.code ≠ F.FAB_EVT_CNT_count.code → ∀ i, t.get g i = s.get g i
  kept : ∀ r, s.fab.Holds r → ∃ r', t.fab.Holds r' ∧ r.Repeats r'

namespace OnlyIssues
variable {s t u : State}

theorem rfl' (s : State) : OnlyIssues s s := ⟨rfl, fun _ _ _ _ => rfl, fun r h => ⟨r, h, rfl⟩⟩

theorem trans (h : OnlyIssues s t) (h' : OnlyIssues t u) : OnlyIssues s u where
  frame := h'.frame.trans (congrArg (fun x : State => { x with fab := u.fab, regs := u.regs, ports := u.ports, out := u.out }) h.frame)
  reads g low apart i := (h'.reads g low apart i).trans (h.reads g low apart i)
  kept r held := by
    obtain ⟨r', held', same⟩ := h.kept r held
    obtain ⟨r'', held'', same'⟩ := h'.kept r' held'
    exact ⟨r'', held'', same.trans same'⟩

theorem mem (h : OnlyIssues s t) : t.mem = s.mem := by rw [h.frame]
theorem refl (h : OnlyIssues s t) : t.refl = s.refl := by rw [h.frame]
theorem time (h : OnlyIssues s t) : t.time = s.time := by rw [h.frame]

theorem setFlow (s : State) (n : Nat) (v : Flow) : OnlyIssues s (s.setFlow n v) :=
  ⟨rfl, fun _ _ _ _ => rfl, fun r h => ⟨r, h.congr rfl rfl, rfl⟩⟩

theorem fabCount (s : State) (j : Nat) : OnlyIssues s (s.fabCount j) :=
  ⟨rfl, fun _ low apart i => s.bump_get_apart (by decide) low apart 1 j i, fun r h => ⟨r, h, rfl⟩⟩

theorem tx (s : State) (p : Nat) (o : Out) : OnlyIssues s (s.tx p o) := by
  obtain ⟨ps, l, frame⟩ := s.tx_eq p o
  rw [frame]
  exact ⟨rfl, fun _ _ _ _ => rfl, fun r h => ⟨r, h, rfl⟩⟩

theorem updReq {r r' : FabReq} (stored : r ∈ s.fab.reqs) (same : r.Repeats r') : OnlyIssues s (s.updReq r.serial fun _ => r') := by
  refine ⟨rfl, fun _ _ _ _ => rfl, fun x held => ?_⟩
  have here : (if x.serial = r.serial then r' else x) ∈ (s.updReq r.serial fun _ => r').fab.reqs :=
    List.mem_map.2 ⟨x, held.stored, rfl⟩
  have alike : x.Repeats (if x.serial = r.serial then r' else x) := by
    split
    next own => rwa [← held.only r stored own.symm]
    · rfl
  refine ⟨_, ⟨here, by rw [alike.serial]; exact held.numbered, fun y hy own => ?_⟩, alike⟩
  obtain ⟨z, hz, rfl⟩ := List.mem_map.1 hy
  have serial : (if z.serial = r.serial then r' else z).serial = z.serial := by
    split
    next own' => rw [same.serial, own']
    · rfl
  rw [held.only z hz (serial.symm.trans (own.trans alike.serial))]

theorem withReq (s : State) (r : FabReq) : OnlyIssues s (s.withReq r) := by
  refine ⟨rfl, fun _ _ _ _ => rfl, fun x held => ⟨x, ⟨List.mem_append_left _ held.stored, Nat.lt_succ_of_lt held.numbered,
    fun y hy own => ?_⟩, rfl⟩⟩
  rcases List.mem_append.1 hy with old | new
  · exact held.only y old own
  · have number : y.serial = s.fab.serial := by rw [List.mem_singleton.1 new]; rfl
    have := held.numbered
    omega

theorem sendReq {r : FabReq} (stored : r ∈ s.fab.reqs) (q : Nat) : OnlyIssues s (s.sendReq r q) := by
  unfold State.sendReq
  extract_lets f first numbered r' v noted counted
  have same : r.Repeats r' := by
    change r.Repeats { numbered with attempts := _, first := _, last := _, port := _, resend := _ }
    have numbers : numbered = { r with fseq := numbered.fseq, aseq := numbered.aseq } := by
      simp only [numbered]
      repeat' split
      all_goals rfl
    rw [numbers]
    rfl
  have toNoted : OnlyIssues s noted := (setFlow s _ _).trans (updReq stored same)
  refine OnlyIssues.trans ?_ (tx _ _ _)
  exact iteInduction (motive := OnlyIssues s) (fun _ => toNoted) fun _ => toNoted.trans (fabCount _ _)

theorem startReq (s : State) (r : FabReq) : OnlyIssues s (s.startReq r) := by
  cases port : s.reqPort r with
  | none =>
    have waits : s.startReq r = s.withReq r := by
      have stored : (s.withReq r).reqPort (s.numbered r) = none := port
      change (match (s.withReq r).reqPort (s.numbered r) with
        | none => s.withReq r
        | some p => (s.withReq r).sendReq (s.numbered r) p) = _
      rw [stored]
    rw [waits]
    exact withReq s r
  | some q =>
    rw [State.startReq_of_port port]
    exact (withReq s r).trans (sendReq (List.mem_append_right _ (List.mem_singleton_self _)) q)

theorem evict (s : State) : OnlyIssues s s.evict := by
  unfold State.evict
  extract_lets l cand
  refine iteInduction (motive := OnlyIssues s) (fun _ => rfl' s) fun _ => ?_
  split
  · exact rfl' s
  · exact setFlow s _ _

theorem evict_reqs (s : State) : s.evict.fab.reqs = s.fab.reqs := by
  unfold State.evict
  extract_lets l cand
  split
  · rfl
  · split <;> rfl

theorem needCtx (s : State) (n : Nat) : OnlyIssues s (s.needCtx n).2 := by
  unfold State.needCtx
  extract_lets f
  split
  · exact setFlow s _ _
  · exact rfl' s
  · exact iteInduction (motive := fun x : Bool × State => OnlyIssues s x.2) (fun _ => rfl' s) fun _ => (fabCount s 11).trans (setFlow _ _ _)

theorem needCtx_reqs (s : State) (n : Nat) : (s.needCtx n).2.fab.reqs = s.fab.reqs := by
  unfold State.needCtx
  extract_lets f
  split
  · rfl
  · rfl
  · split <;> rfl

/-- A request that waits to be sent is served before any operation: no operation is touched. -/
theorem issueTo {n : Nat} {r : FabReq} (waits : (s.fab.reqs.find? fun r => r.node == n && (r.attempts == 0 || r.resend)) = some r) :
    OnlyIssues s (s.issueTo n) := by
  unfold State.issueTo
  extract_lets f wait op c u x
  have context : OnlyIssues s u ∧ u.fab.reqs = s.fab.reqs := by
    refine iteInduction (motive := fun c : Bool × State => OnlyIssues s c.2 ∧ c.2.fab.reqs = s.fab.reqs) (fun _ => ?_) fun _ => ?_
    · exact ⟨needCtx s n, needCtx_reqs s n⟩
    · exact ⟨evict s, evict_reqs s⟩
  obtain ⟨toU, reqs⟩ := context
  have send {y : FabReq} (stored : y ∈ s.fab.reqs) (q : Nat) : OnlyIssues s (u.sendReq y q) := toU.trans (sendReq (reqs ▸ stored) q)
  have first : wait = some r := waits
  clear_value u wait op
  refine iteInduction (motive := OnlyIssues s) (fun _ => rfl' s) fun _ => ?_
  refine iteInduction (motive := OnlyIssues s) (fun _ => rfl' s) fun _ => ?_
  refine iteInduction (motive := OnlyIssues s) (fun _ => toU) fun _ => ?_
  refine iteInduction (motive := OnlyIssues s) (fun _ => toU) fun _ => ?_
  refine iteInduction (motive := OnlyIssues s) (fun _ => ?_) fun _ => ?_
  · split
    next y found =>
      refine iteInduction (motive := OnlyIssues s) (fun _ => ?_) fun _ => toU
      split
      · exact toU
      · exact send (List.mem_of_find?_eq_some found) _
    · exact (toU.trans (setFlow u _ _)).trans (startReq _ _)
  · rw [first]
    dsimp only
    refine iteInduction (motive := OnlyIssues s) (fun _ => toU) fun _ => ?_
    split
    · exact send (List.mem_of_find?_eq_some waits) _
    · exact toU

end OnlyIssues

/-! ## A reflection packet entered (R384) -/

section
variable {s : State} {r : FabReq}

/-- A reflection packet as it is stored: towards the partner, under a number of its own. -/
def State.reflReq (s : State) (r : FabReq) : FabReq :=
  { r with node := s.reflPartner, serial := s.fab.serial, tag := s.fab.freeTag, op := none, first := s.time }

/-- Once a reflection packet is stored, before anything is issued. -/
def State.reflEntered (s : State) (r : FabReq) : State :=
  (s.setFab { s.fab with reqs := s.fab.reqs ++ [s.reflReq r], serial := s.fab.serial + 1 }).setRefl { s.refl with lastSent := s.time }

/-- Sending a reflection packet moves no memory and nothing of the pair but the time of the last one sent. -/
structure ReflSends (s t : State) : Prop where
  frame : t = { s with fab := t.fab, regs := t.regs, ports := t.ports, out := t.out, refl := t.refl }
  refl : t.refl = { s.refl with lastSent := s.time }
  reads : ∀ g : Fld, g.code < 1024 → g.code ≠ F.FAB_EVT_CNT_count.code → ∀ i, t.get g i = s.get g i

theorem ReflSends.mem {t : State} (h : ReflSends s t) : t.mem = s.mem := by rw [h.frame]
theorem ReflSends.time {t : State} (h : ReflSends s t) : t.time = s.time := by rw [h.frame]
theorem ReflSends.reflState {t : State} (h : ReflSends s t) : t.reflState = s.reflState := h.reads _ (by decide) (by decide) 0
theorem ReflSends.reflPartner {t : State} (h : ReflSends s t) : t.reflPartner = s.reflPartner := h.reads _ (by decide) (by decide) 0

theorem State.reflSend_issues (new : r.attempts = 0) : OnlyIssues (s.reflEntered r) (s.reflSend r) := by
  change OnlyIssues _ ((s.reflEntered r).issueTo s.reflPartner)
  have mine : s.reflReq r ∈ (s.reflEntered r).fab.reqs := List.mem_append_right _ (List.mem_singleton_self _)
  have some_ : ((s.reflEntered r).fab.reqs.find? fun r => r.node == s.reflPartner && (r.attempts == 0 || r.resend)).isSome = true :=
    List.find?_isSome.2 ⟨_, mine, by simp [State.reflReq, new]⟩
  obtain ⟨_, waits⟩ := Option.isSome_iff_exists.1 some_
  exact .issueTo waits

theorem State.reflSend_sends (new : r.attempts = 0) : ReflSends s (s.reflSend r) := by
  have issues := State.reflSend_issues (s := s) new
  refine ⟨?_, issues.refl, issues.reads⟩
  rw [issues.refl]
  exact issues.frame

/-- What is sent is stored, and stands as it was entered but for what its first attempt notes. -/
theorem State.reflSend_stored (new : r.attempts = 0) (serials : ∀ x ∈ s.fab.reqs, x.serial < s.fab.serial) :
    ∃ r' ∈ (s.reflSend r).fab.reqs, (s.reflReq r).Repeats r' := by
  have held : (s.reflEntered r).fab.Holds (s.reflReq r) := by
    refine ⟨List.mem_append_right _ (List.mem_singleton_self _), Nat.lt_succ_self _, fun x hx own => ?_⟩
    rcases List.mem_append.1 hx with old | last
    · exact absurd own (Nat.ne_of_lt (serials x old))
    · exact List.mem_singleton.1 last
  obtain ⟨r', held', same⟩ := (State.reflSend_issues new).kept _ held
  exact ⟨r', held'.stored, same⟩

end

end Sys2Proof.Machine

/-! O54: reflection, what this device asks for and sends (R383-R392). -/

namespace Sys2Proof.Machine

/-! ## REFLECT_BURST_SEND, RKEEP_TIMER, RBIND_TIMER (R384-R386, R388, R391) -/

section
variable {s : State} {r : FabReq}

/-- The engine may send to its partner: nothing of the pair waits for a first attempt, and the stored requests bear their numbers. -/
structure ReflReady (s : State) : Prop where
  bound : s.reflBound = true
  may : s.reflMay = true
  free : s.reflWaiting = false
  serials : ∀ x ∈ s.fab.reqs, x.serial < s.fab.serial

theorem exec_reflectBurstSend_quiet (quiet : s.reflBound = false ∨ s.reflMay = false) : exec .reflectBurstSend s = .next s := by
  change execReflectBurstSend s = _
  rcases quiet with quiet | quiet <;> simp [execReflectBurstSend, quiet]

namespace ReflReady
variable {g b a : Nat}

theorem exec_paused (h : ReflReady s) (paused : s.reflState = 4) :
    exec .reflectBurstSend s = .next (if s.refl.owe then s.sendRresume else s) := by
  change execReflectBurstSend s = _
  simp [execReflectBurstSend, h.bound, h.may, h.free, paused]

theorem exec_mark (h : ReflReady s) (runs : s.reflState ≠ 4) (due : s.refl.markDue = some g) :
    exec .reflectBurstSend s = .next (s.sendRmark g) := by
  change execReflectBurstSend s = _
  simp [execReflectBurstSend, h.bound, h.may, h.free, runs, due]

theorem exec_dirty (h : ReflReady s) (runs : s.reflState ≠ 4) (due : s.refl.markDue = none) (next : s.refl.nextDirty = some b)
    (address : reflAddr s.refl.regions b = some a) (free : s.memHeld a 2048 = false) :
    exec .reflectBurstSend s = .next (s.sendBurst b) := by
  change execReflectBurstSend s = _
  simp [execReflectBurstSend, h.bound, h.may, h.free, runs, due, next, address, free]

theorem exec_keep (h : ReflReady s) (runs : s.reflState ≠ 4) : exec .rkeepTimer s =
    .next ((s.due (s.refl.lastSent + 100000)).reflSend { serial := 0, tag := 0, op := none, node := 0, kind := 0xA3 }) := by
  change execRkeepTimer s = _
  simp [execRkeepTimer, h.bound, h.may, h.free, runs]

end ReflReady

/-- A burst in flight, and no longer among those that a generation waits for. -/
def Refl.inFlight (r : Refl) (b serial : Nat) : Refl :=
  { r with dirty := SMap.set 0 r.dirty b (2 + serial), marks := r.marks.map fun m => { m with left := m.left.erase b } }

/-- The packet of a burst with its present content. -/
def State.burstReq (s : State) (b a : Nat) : FabReq :=
  { serial := 0, tag := 0, op := none, node := 0, kind := 0xA1, off := 2048 * b, len := 2048, poison := (s.memRead a 2048).poisoned
    data := (s.memRead a 2048).bytes }

theorem State.sendBurst_of_address {b a : Nat} (address : reflAddr s.refl.regions b = some a) :
    s.sendBurst b = (s.setRefl (s.refl.inFlight b s.fab.serial)).reflSend (s.burstReq b a) := by
  simp only [State.sendBurst, address]
  rfl

theorem State.sendBurst_refl {b a : Nat} (address : reflAddr s.refl.regions b = some a) :
    (s.sendBurst b).refl = { s.refl.inFlight b s.fab.serial with lastSent := s.time } := by
  rw [State.sendBurst_of_address address]
  exact (State.reflSend_sends rfl).refl

theorem ReflReady.exec_copy {c a : Nat} (h : ReflReady s) (runs : s.reflState ≠ 4) (due : s.refl.markDue = none) (next : s.refl.nextDirty = none)
    (copies : s.refl.copyAt = some c) (more : c + 1 < s.refl.total * 1024) (address : reflAddr s.refl.regions c = some a)
    (free : s.memHeld a 2048 = false) : exec .reflectBurstSend s =
      .next ((s.sendBurst c).setRefl { (s.sendBurst c).refl with copyAt := some (c + 1) }) := by
  have last : c + 1 ≠ (s.sendBurst c).refl.total * 1024 := by
    rw [State.sendBurst_refl address]
    exact more.ne
  change execReflectBurstSend s = _
  simp [execReflectBurstSend, h.bound, h.may, h.free, runs, due, next, copies, Nat.not_le.2 (Nat.lt_of_succ_lt more), address, free, last]

theorem ReflReady.resume (h : ReflReady s) (paused : s.reflState = 4) (owes : s.refl.owe = true) : Gives .reflectBurstSend s fun t =>
    t.refl.owe = false ∧ t.mem = s.mem ∧ ∃ r ∈ t.fab.reqs, r.kind = 0xA4 ∧ r.node = s.reflPartner ∧
      r.data = leBytes 4 (s.get F.FAB_REFLECT_STAT_shadow_gen 0) := by
  refine ⟨s.sendRresume, (h.exec_paused paused).trans (by rw [if_pos owes]), ?_⟩
  let u := s.setRefl { s.refl with owe := false }
  let r : FabReq := { serial := 0, tag := 0, op := none, node := 0, kind := 0xA4, len := 4,
                      data := leBytes 4 (s.get F.FAB_REFLECT_STAT_shadow_gen 0) }
  have sends : ReflSends u (u.reflSend r) := State.reflSend_sends rfl
  obtain ⟨r', stored, same⟩ := State.reflSend_stored (s := u) (r := r) rfl h.serials
  exact ⟨congrArg Refl.owe sends.refl, sends.mem, r', stored, same.kind, same.node, same.data⟩

theorem ReflReady.mark {g : Nat} (h : ReflReady s) (runs : s.reflState ≠ 4) (due : s.refl.markDue = some g) :
    Gives .reflectBurstSend s fun t => t.mem = s.mem ∧
      ∃ r ∈ t.fab.reqs, r.kind = 0xA2 ∧ r.node = s.reflPartner ∧ r.key = g ∧ r.off = if g = 1 then 1 else 0 := by
  refine ⟨_, h.exec_mark runs due, ?_⟩
  let u := s.setRefl { s.refl with marks := s.refl.marks.map fun m => if m.gen = g then { m with sent := true } else m }
  let r : FabReq := { serial := 0, tag := 0, op := none, node := 0, kind := 0xA2, key := g, off := if g = 1 then 1 else 0 }
  have sends : ReflSends u (u.reflSend r) := State.reflSend_sends rfl
  obtain ⟨r', stored, same⟩ := State.reflSend_stored (s := u) (r := r) rfl h.serials
  exact ⟨sends.mem, r', stored, same.kind, same.node, same.key, same.off⟩

/-- A burst with its content is sent, and stands in flight. -/
theorem ReflReady.sendBurst {b a : Nat} (h : ReflReady s) (address : reflAddr s.refl.regions b = some a) :
    (s.sendBurst b).mem = s.mem ∧ SMap.get 0 (s.sendBurst b).refl.dirty b = 2 + s.fab.serial ∧
    ∃ r ∈ (s.sendBurst b).fab.reqs, r.kind = 0xA1 ∧ r.node = s.reflPartner ∧ r.off = 2048 * b ∧ r.data = (s.memRead a 2048).bytes ∧
      r.poison = (s.memRead a 2048).poisoned := by
  have flight : SMap.get 0 (s.sendBurst b).refl.dirty b = 2 + s.fab.serial := by
    rw [State.sendBurst_refl address]
    exact SMap.get_set_same 0 s.refl.dirty b _
  rw [State.sendBurst_of_address address] at flight ⊢
  generalize moved : s.setRefl (s.refl.inFlight b s.fab.serial) = u
  have sends : ReflSends u (u.reflSend (s.burstReq b a)) := State.reflSend_sends rfl
  obtain ⟨r', stored, same⟩ := State.reflSend_stored (s := u) (r := s.burstReq b a) rfl (by rw [← moved]; exact h.serials)
  exact ⟨by rw [sends.mem, ← moved]; rfl, moved ▸ flight, r', stored, same.kind, by rw [same.node, ← moved]; rfl, same.off, same.data,
    same.poison⟩

theorem ReflReady.keep (h : ReflReady s) (runs : s.reflState ≠ 4) : Gives .rkeepTimer s fun t =>
    s.refl.lastSent + 100000 ≤ t.time ∧ t.refl.lastSent = t.time ∧ t.mem = s.mem ∧
      ∃ r ∈ t.fab.reqs, r.kind = 0xA3 ∧ r.node = s.reflPartner ∧ r.data = [] := by
  refine ⟨_, h.exec_keep runs, ?_⟩
  let u := s.due (s.refl.lastSent + 100000)
  let r : FabReq := { serial := 0, tag := 0, op := none, node := 0, kind := 0xA3 }
  have sends : ReflSends u (u.reflSend r) := State.reflSend_sends rfl
  obtain ⟨r', stored, same⟩ := State.reflSend_stored (s := u) (r := r) rfl h.serials
  refine ⟨?_, ?_, sends.mem, r', stored, same.kind, same.node, same.data⟩
  · rw [sends.time]
    exact Nat.le_max_right _ _
  · rw [sends.time, sends.refl]

/-! ### RBIND_TIMER (R384) -/

/-- The RBIND that this device sends. -/
def State.rbindReq (s : State) : FabReq :=
  { serial := 0, tag := 0, op := none, node := 0, kind := 0xA0, len := 16
    data := leBytes 8 s.ownDigest ++ leBytes 4 s.refl.total ++ leBytes 4 s.refl.shadowSize }

theorem State.sendRbind_of_join (join : s.mayJoin s.reflPartner = true) (free : s.reflWaiting = false) :
    s.sendRbind = s.reflSend s.rbindReq := by
  rw [State.sendRbind, if_neg (by simp [join, free])]
  rfl

/-- Whether an RBIND leaves or not, only the time of the last one sent moves in the pair. -/
theorem State.sendRbind_sends (s : State) : ReflSends s s.sendRbind := by
  rw [State.sendRbind]
  exact iteInduction (motive := ReflSends s) (fun _ => ⟨rfl, rfl, fun _ _ _ _ => rfl⟩) fun _ => State.reflSend_sends rfl

theorem rbindTimer_gives (binding : s.reflState = 1) (may : s.reflMay = true) (serials : ∀ x ∈ s.fab.reqs, x.serial < s.fab.serial) :
    Gives .rbindTimer s fun t => s.refl.lastSent + 100000 ≤ t.time ∧ t.refl.lastSent = t.time ∧ t.reflState = 1 ∧ t.mem = s.mem ∧
      (s.mayJoin s.reflPartner = true → s.reflWaiting = false → ∃ r ∈ t.fab.reqs, r.kind = 0xA0 ∧ r.node = s.reflPartner ∧
        r.data = leBytes 8 s.ownDigest ++ leBytes 4 s.refl.total ++ leBytes 4 s.refl.shadowSize) := by
  let u := s.due (s.refl.lastSent + 100000)
  have sends : ReflSends u u.sendRbind := u.sendRbind_sends
  refine ⟨u.sendRbind, congrArg Host.Outcome.next (if_pos ⟨binding, may⟩), ?_, ?_, sends.reflState.trans binding, sends.mem, ?_⟩
  · rw [sends.time]
    exact Nat.le_max_right _ _
  · rw [sends.time, sends.refl]
  · intro join free
    have sent : u.sendRbind = u.reflSend u.rbindReq := State.sendRbind_of_join join free
    rw [sent]
    obtain ⟨r', stored, same⟩ := State.reflSend_stored (s := u) (r := u.rbindReq) rfl serials
    exact ⟨r', stored, same.kind, same.node, same.data⟩

end

/-! ## REFLECT_REPLY (R385, R386) -/

section
variable {s : State} {port : Fin 64} {p : Packet} {r : FabReq}

/-- The one generation not yet durable is so: its MARK ends, and the pair may be bound rather than copying. -/
theorem State.durable_of_one {u : State} {m : ReflMark} {w : Work} {g : Nat} (marks : u.refl.marks = [m]) (gen : m.gen = g)
    (work : m.work = some w) (later : u.get F.FAB_REFLECT_GEN_durable 0 < g) (small : g < 2 ^ 32) :
    ∃ regs, u.durable g = { u.finish w .ok 0 with refl := { u.refl with marks := [] }, regs := regs } ∧
      (u.durable g).get F.FAB_REFLECT_GEN_durable 0 = g := by
  have ended : u.durable g = (let v := ((u.finish w .ok 0).setRefl { u.refl with marks := [] }).put F.FAB_REFLECT_GEN_durable g 0
      if v.reflState = 2 ∧ v.get F.FAB_REFLECT_GEN_durable 0 ≠ 0 then v.setReflState 3 else v) := by
    obtain ⟨q, x, frame⟩ := u.finish_eq w .ok 0
    have before : (u.finish w .ok 0).get F.FAB_REFLECT_GEN_durable 0 < g := by
      rw [frame]
      exact later
    have pair : (u.finish w .ok 0).refl = u.refl := by rw [frame]
    simp [State.durable, marks, gen, work, pair, before]
  have shown : (((u.finish w .ok 0).setRefl { u.refl with marks := [] }).put F.FAB_REFLECT_GEN_durable g 0).get
      F.FAB_REFLECT_GEN_durable 0 = g := (State.put_get_same _ _ _ _).trans (Nat.mod_eq_of_lt small)
  rw [ended]
  dsimp only
  generalize put : ((u.finish w .ok 0).setRefl { u.refl with marks := [] }).put F.FAB_REFLECT_GEN_durable g 0 = v at shown
  have frame : v = { u.finish w .ok 0 with refl := { u.refl with marks := [] }, regs := v.regs } := by
    rw [← put]
    rfl
  split
  · refine ⟨(v.setReflState 3).regs, ?_, ?_⟩
    · conv_lhs => rw [State.setReflState, frame]
      rfl
    · exact (v.put_get_apart (by decide) (by decide) (by decide) 3 0 0).trans shown
  · exact ⟨v.regs, frame, shown⟩

/-- A good reply arrives to the one request that is out, a reflection packet to the bound partner, and no operation runs. -/
structure GoodReflReply (s : State) (port : Fin 64) (p : Packet) (r : FabReq) : Prop where
  arrives : ReplyArrives s port p
  reqs : s.fab.reqs = [r]
  ops : s.fab.ops = []
  tag : r.tag = p.tag
  sent : r.attempts ≠ 0
  node : r.node = p.src
  data : r.opn = false
  own : r.op = none
  partner : r.node = s.reflPartner
  ok : p.status = Status.ok.code
  fits : r.fits p .ok = true
  bound : s.reflBound = true
  kind : r.kind = 0xA1 ∨ r.kind = 0xA2

namespace GoodReflReply

theorem exec (h : GoodReflReply s port p r) : exec (.reflectReply port p) s =
    .next ((s.endReq r ⟨.ok, 0⟩ p.data p.poison).ackPosted r.node p.fseq).settleOps := by
  have found : (s.fab.reqs.find? fun r => r.tag == p.tag && r.attempts != 0 && r.node == p.src) = some r := by
    simp [h.reqs, h.tag, h.sent, h.node]
  have reflects : isReflection r.kind = true := by rcases h.kind with kind | kind <;> rw [kind] <;> rfl
  have ends : r.endsAs .ok = ⟨.ok, 0⟩ := by rcases h.kind with kind | kind <;> simp [FabReq.endsAs, kind]
  have status : Status.ofCode p.status = some .ok := by rw [h.ok]; rfl
  change Host.Outcome.next (s.reply port p true) = _
  simp [State.reply, h.arrives.kind, h.arrives.served, h.arrives.receives, found, reflects, h.data, status, h.fits, ends]

/-- What is left once the request is gone. -/
structure Gone (s u : State) : Prop where
  frame : u = { s with fab := u.fab, regs := u.regs, engines := u.engines }
  reqs : u.fab.reqs = []
  ops : u.fab.ops = []
  state : u.reflState = s.reflState
  partner : u.reflPartner = s.reflPartner
  durable : u.get F.FAB_REFLECT_GEN_durable 0 = s.get F.FAB_REFLECT_GEN_durable 0

theorem reqGone (h : GoodReflReply s port p r) : Gone s (s.reqGone r) := by
  obtain ⟨f, g, m, gone, reqs, ops⟩ := s.reqGone_eq r
  have reads {f : Fld} (low : f.code < 1024) (apart : ∀ g ∈ progressFields, f.code ≠ g.code) (i : Nat) :
      (s.reqGone r).get f i = s.get f i := by
    refine Eq.trans ?_ (State.engAdvance_get (s := s.setFab { s.fab with reqs := s.fab.reqs.filter fun x => x.serial != r.serial }) low
      apart 28 1 i)
    rw [State.reqGone]
    dsimp only
    split <;> rfl
  refine ⟨by rw [gone], ?_, by rw [gone]; exact ops.trans h.ops, reads (by decide) (by decide) 0, reads (by decide) (by decide) 0,
    reads (by decide) (by decide) 0⟩
  rw [gone]
  simp [reqs, h.reqs]

theorem exec_of_end (h : GoodReflReply s port p r) (reqs : ((s.reqGone r).reflEnd r .ok).fab.reqs = [])
    (ops : ((s.reqGone r).reflEnd r .ok).fab.ops = []) :
    Machine.exec (.reflectReply port p) s = .next ((s.reqGone r).reflEnd r .ok) := by
  have reflects : isReflection r.kind = true := by rcases h.kind with kind | kind <;> rw [kind] <;> rfl
  have ended : s.endReq r ⟨.ok, 0⟩ p.data p.poison = (s.reqGone r).reflEnd r .ok := by
    have none_ : r.op.bind (s.reqGone r).fabOp = none := by rw [h.own, Option.bind_none]
    change (match r.op.bind (s.reqGone r).fabOp with
      | some o => (s.reqGone r).opEnd r o ⟨.ok, 0⟩ p.data p.poison
      | none => _) = _
    rw [none_]
    exact if_pos reflects
  rw [h.exec, ended, State.ackPosted_of_none reqs, State.settleOps_of_settled]
  intro o ho
  rw [ops] at ho
  cases ho

/-- The end of a reflection packet of the bound partner goes by its kind. -/
theorem Gone.bound {u : State} (h : Gone s u) : u.reflBound = s.reflBound := by
  unfold State.reflBound
  rw [h.state, h.frame]

theorem burst (h : GoodReflReply s port p r) (kind : r.kind = 0xA1)
    (flight : SMap.get 0 s.refl.dirty (r.off / 2048) = 2 + r.serial) : Gives (.reflectReply port p) s fun t =>
      SMap.get 0 t.refl.dirty (r.off / 2048) = 0 ∧ (∀ b, b ≠ r.off / 2048 → SMap.get 0 t.refl.dirty b = SMap.get 0 s.refl.dirty b) ∧
      t.fab.reqs = [] ∧ t.mem = s.mem := by
  have gone := h.reqGone
  have ended : (s.reqGone r).reflEnd r .ok = (s.reqGone r).setRefl { (s.reqGone r).refl with
      dirty := SMap.set 0 (s.reqGone r).refl.dirty (r.off / 2048) 0 } := by
    have pair : (s.reqGone r).refl = s.refl := by rw [gone.frame]
    have inFlight : SMap.get 0 (s.reqGone r).refl.dirty (r.off / 2048) = 2 + r.serial := by rw [pair, flight]
    simp [State.reflEnd, gone.partner, h.partner, kind, gone.bound, h.bound, inFlight, Status.good]
  refine ⟨_, h.exec_of_end ?_ ?_, ?_⟩
  · rw [ended]; exact gone.reqs
  · rw [ended]; exact gone.ops
  · rw [ended]
    generalize s.reqGone r = u at gone
    have pair : u.refl = s.refl := by rw [gone.frame]
    refine ⟨?_, fun b other => ?_, gone.reqs, by rw [gone.frame]; rfl⟩
    · exact SMap.get_set_same 0 u.refl.dirty (r.off / 2048) 0
    · rw [← pair]
      exact SMap.get_set_other 0 0 u.refl.dirty 0 other

theorem mark {m : ReflMark} {w : Work} {it : Item} (h : GoodReflReply s port p r) (kind : r.kind = 0xA2) (marks : s.refl.marks = [m])
    (gen : m.gen = r.key) (work : m.work = some w) (item : s.item w = some it) (busy : it.phase = .busy) (small : r.key < 2 ^ 32)
    (later : s.get F.FAB_REFLECT_GEN_durable 0 < r.key) : Gives (.reflectReply port p) s fun t =>
      t.get F.FAB_REFLECT_GEN_durable 0 = r.key ∧ t.resultOf w = some ⟨.ok, 0⟩ ∧ t.refl.marks = [] ∧ t.fab.reqs = [] ∧ t.mem = s.mem := by
  have gone := h.reqGone
  have ended : (s.reqGone r).reflEnd r .ok = (s.reqGone r).durable r.key := by
    simp [State.reflEnd, gone.partner, h.partner, kind, gone.bound, h.bound, Status.good]
  have ends := h.exec_of_end
  rw [ended] at ends
  generalize s.reqGone r = u at gone ends
  have pair : u.refl = s.refl := by rw [gone.frame]
  obtain ⟨regs, frame, shown⟩ := State.durable_of_one (u := u) (by rw [pair]; exact marks) gen work
    (by rw [gone.durable]; exact later) small
  have result := State.finish_resultOf (u := u) item (by simp [busy]) (by rw [gone.frame]) (by rw [gone.frame]) .ok 0
  obtain ⟨q, g, kept⟩ := u.finish_eq w .ok 0
  have fab : (u.durable r.key).fab = u.fab := by rw [frame, kept]
  refine ⟨_, ends (by rw [fab]; exact gone.reqs) (by rw [fab]; exact gone.ops), shown, ?_, by rw [frame], by rw [fab]; exact gone.reqs, ?_⟩
  · rw [frame]
    exact result
  · rw [frame, kept, gone.frame]

end GoodReflReply

end

end Sys2Proof.Machine

namespace Sys2Proof.Machine

/-! ## BIND (R383, R384) -/

section
variable {s : State} {w : Work} {it : Item}

/-- A REFLECT_MARK descriptor of operation op has reached the engine. -/
structure AsksRefl (s : State) (w : Work) (it : Item) (op : Nat) : Prop where
  fresh : s.fresh w 0x0C = some it
  op : fieldAt it.payload 0 1 = op

theorem AsksRefl.ends {op : Nat} {c : Instr} (h : AsksRefl s w it op) {st : Status} {d : Nat} (ran : exec c s = .next (s.finish w st d)) :
    Gives c s fun t => EndedAs s t w st d ∧ t = { s with queues := t.queues, graphs := t.graphs } := State.finish_gives h.fresh ran

theorem AsksRefl.bind_bad (h : AsksRefl s w it 1) {d : Nat} (bad : reflFormat it.payload = some d) :
    exec (.bind w) s = .next (s.finish w .eFormat d) := by
  change execBind w s = _
  simp [execBind, h.fresh, h.op, bad]

theorem AsksRefl.bind_bound (h : AsksRefl s w it 1) (fine : reflFormat it.payload = none) (bound : s.reflState ≠ 0) :
    exec (.bind w) s = .next (s.finish w .eFormat 40) := by
  change execBind w s = _
  simp [execBind, h.fresh, h.op, fine, bound]

theorem AsksRefl.bind_bounds (h : AsksRefl s w it 1) (fine : reflFormat it.payload = none) (unbound : s.reflState = 0)
    (outside : s.mayLocal it.ctx (fieldAt it.payload 8 8) 64 false = false) :
    exec (.bind w) s = .next (s.finish w .eBounds 0) := by
  change execBind w s = _
  simp [execBind, h.fresh, h.op, fine, unbound, outside]

/-- A BIND of an unbound device whose block, at a with n regions, can be read and is d. -/
structure BindBlock (s : State) (w : Work) (it : Item) (a n : Nat) (d : ReadOut) : Prop where
  asks : AsksRefl s w it 1
  fine : reflFormat it.payload = none
  unbound : s.reflState = 0
  address : fieldAt it.payload 8 8 = a
  head : s.mayLocal it.ctx a 64 false = true
  headFree : s.memHeld a 64 = false
  regions : fieldAt (s.memRead a 64).bytes 6 2 = n
  some_ : 0 < n
  few : n ≤ 64
  whole : s.mayLocal it.ctx a (64 + 16 * n) false = true
  free : s.memHeld a (64 + 16 * n) = false
  block : s.memRead a (64 + 16 * n) = d
  sound : d.poisoned = false

namespace BindBlock
variable {a n : Nat} {d : ReadOut}

theorem exec_bad (h : BindBlock s w it a n d) (bad : s.blockBad d.bytes = true) :
    exec (.bind w) s = .next (s.finish w .eFormat 40) := by
  change execBind w s = _
  simp [execBind, h.asks.fresh, h.asks.op, h.fine, h.unbound, h.address, h.head, h.headFree, h.regions, h.some_.ne', Nat.not_lt.2 h.few,
    h.whole, h.free, h.block, h.sound, bad]

theorem exec_good (h : BindBlock s w it a n d) (good : s.blockBad d.bytes = false)
    (mapped : ∀ x ∈ blockRegions d.bytes ++ blockAreas d.bytes, s.areaMapped x = true)
    (apart : anyOverlap (blockRegions d.bytes ++ blockAreas d.bytes) = false) (included : fieldAt d.bytes 0 4 ∉ s.job.excl)
    (shutter : s.isSet F.SEC_EXCL_STAT_shutter 0 = false) : exec (.bind w) s = .next (s.startBind w d.bytes) := by
  have areas : ((blockRegions d.bytes ++ blockAreas d.bytes).all fun x => s.areaMapped x) = true := List.all_eq_true.2 mapped
  have listed : s.job.excl.contains (fieldAt d.bytes 0 4) = false := by simpa using included
  change execBind w s = _
  simp only [execBind, h.asks.fresh, h.asks.op, h.fine, h.unbound, h.address, h.head, h.headFree, h.regions, h.some_.ne',
    Nat.not_lt.2 h.few, h.whole, h.free, h.block, h.sound, good, areas, apart, listed, shutter, Bool.not_true, Bool.false_eq_true, or_self,
    if_false, ne_eq, not_true, one_ne_zero, OfNat.one_ne_ofNat]

end BindBlock

/-- The engine's own state once a BIND is accepted. -/
def bindRefl (w : Work) (b : List Byte) (now : Nat) : Refl :=
  { work := some w, since := now, timeout := if fieldAt b 4 2 = 0 then 20 else fieldAt b 4 2, ports := fieldAt b 8 8
    regions := blockRegions b, shadow := fieldAt b 16 8, shadowSize := fieldAt b 24 4, undoAt := fieldAt b 32 8, undoSize := fieldAt b 28 4
    track := fieldAt b 40 8 }

/-- A device is binding once its BIND's block is accepted, with the partner the block names. -/
theorem State.startBind_binds (s : State) (w : Work) (b : List Byte) (node : fieldAt b 0 4 < 2 ^ 20) :
    (s.startBind w b).reflState = 1 ∧ (s.startBind w b).reflPartner = fieldAt b 0 4 ∧
    (s.startBind w b).get F.FAB_REFLECT_STAT_cause 0 = 0 ∧
    (s.startBind w b).refl = { bindRefl w b s.time with lastSent := s.time } := by
  obtain ⟨q, g, begun⟩ := s.setPhase_eq w .busy
  let v := (s.begin_ w).setRefl (bindRefl w b s.time)
  let u := ((v.put F.FAB_REFLECT_STAT_partner (fieldAt b 0 4) 0).put F.FAB_REFLECT_STAT_cause 0 0).setReflState 1
  have sends : ReflSends u (s.startBind w b) := u.sendRbind_sends
  have time : (s.begin_ w).time = s.time := by rw [State.begin_, begun]
  have state : u.reflState = 1 := State.put_get_same _ _ _ _
  have partner : u.reflPartner = fieldAt b 0 4 := by
    simp (disch := decide) only [u, State.reflPartner, State.setReflState, State.put_get_apart, State.put_get_same]
    exact Nat.mod_eq_of_lt node
  have cause : u.get F.FAB_REFLECT_STAT_cause 0 = 0 := by
    simp (disch := decide) only [u, State.setReflState, State.put_get_apart, State.put_get_same]
    rfl
  refine ⟨sends.reflState.trans state, sends.reflPartner.trans partner, (sends.reads _ (by decide) (by decide) 0).trans cause, ?_⟩
  rw [sends.refl]
  exact congrArg (fun now => { bindRefl w b s.time with lastSent := now }) time

theorem State.blockBad_node {b : List Byte} (good : s.blockBad b = false) : fieldAt b 0 4 < 2 ^ 20 := by
  simp only [State.blockBad, Bool.or_eq_false_iff, decide_eq_false_iff_not] at good
  omega

/-! ## MARK (R386) -/

theorem AsksRefl.mark_bad (h : AsksRefl s w it 0) {d : Nat} (bad : reflFormat it.payload = some d) :
    exec (.mark w) s = .next (s.finish w .eFormat d) := by
  change execMark w s = _
  simp [execMark, h.fresh, h.op, bad]

theorem AsksRefl.mark_lost (h : AsksRefl s w it 0) (fine : reflFormat it.payload = none) (lost : s.reflState = 5) :
    exec (.mark w) s = .next (s.finish w .ePeerLost 0) := by
  change execMark w s = _
  simp [execMark, h.fresh, h.op, fine, lost]

theorem State.reflBound_iff : s.reflBound = true ↔ (s.reflState = 2 ∨ s.reflState = 3 ∨ s.reflState = 4) ∧ s.refl.rolling = none := by
  simp [State.reflBound, or_assoc]

theorem AsksRefl.mark_unbound (h : AsksRefl s w it 0) (fine : reflFormat it.payload = none) (unbound : s.reflState < 2)
    (still : s.refl.rolling = none) : exec (.mark w) s = .next (s.finish w .eFormat 0) := by
  have notLost : s.reflState ≠ 5 := by omega
  have notBound : s.reflBound = false := by
    rw [← Bool.not_eq_true, State.reflBound_iff]
    omega
  change execMark w s = _
  simp [execMark, h.fresh, h.op, fine, notLost, still, notBound]

theorem AsksRefl.mark_order (h : AsksRefl s w it 0) (fine : reflFormat it.payload = none) (bound : s.reflBound = true)
    (order : fieldAt it.payload 16 4 ≠ s.get F.FAB_REFLECT_GEN_created 0 + 1) :
    exec (.mark w) s = .next (s.finish w .eFormat 48) := by
  obtain ⟨state, still⟩ := State.reflBound_iff.1 bound
  have notLost : s.reflState ≠ 5 := by omega
  change execMark w s = _
  simp [execMark, h.fresh, h.op, fine, notLost, still, bound, order]

/-- The generation that a MARK creates. -/
def State.newMark (s : State) (w : Work) (g : Nat) : ReflMark :=
  { gen := g, work := some w, left := (s.refl.dirty.filter fun e => e.2 == 1).map fun e => e.1 }

theorem AsksRefl.mark_exec (h : AsksRefl s w it 0) (fine : reflFormat it.payload = none) (bound : s.reflBound = true)
    (order : fieldAt it.payload 16 4 = s.get F.FAB_REFLECT_GEN_created 0 + 1) : exec (.mark w) s =
      .next (((s.begin_ w).put F.FAB_REFLECT_GEN_created (fieldAt it.payload 16 4) 0).setRefl
        { (s.begin_ w).refl with marks := (s.begin_ w).refl.marks ++ [s.newMark w (fieldAt it.payload 16 4)] }) := by
  obtain ⟨state, still⟩ := State.reflBound_iff.1 bound
  have notLost : s.reflState ≠ 5 := by omega
  change execMark w s = _
  simp only [execMark, h.fresh, h.op, fine, notLost, still, bound, order, zero_ne_one, OfNat.zero_ne_ofNat, Option.isSome_none, or_self,
    if_false, Bool.not_true, Bool.false_eq_true, ne_eq, not_true]
  rfl

theorem AsksRefl.mark_creates (h : AsksRefl s w it 0) (fine : reflFormat it.payload = none) (bound : s.reflBound = true)
    (order : fieldAt it.payload 16 4 = s.get F.FAB_REFLECT_GEN_created 0 + 1) : Gives (.mark w) s fun t =>
      t.get F.FAB_REFLECT_GEN_created 0 = fieldAt it.payload 16 4 ∧ t.item w = some { it with phase := .busy } ∧
      (∃ m, t.refl.marks = s.refl.marks ++ [m] ∧ m.gen = fieldAt it.payload 16 4 ∧ m.work = some w ∧ m.sent = false) ∧
      t = { s with regs := t.regs, refl := t.refl, queues := t.queues, graphs := t.graphs } := by
  have begun : (s.begin_ w).item w = some { it with phase := .busy } := State.setPhase_item (State.item_of_fresh h.fresh).1 .busy
  obtain ⟨q, g, frame⟩ := s.setPhase_eq w .busy
  have pair : (s.begin_ w).refl = s.refl := by rw [State.begin_, frame]
  refine ⟨_, h.mark_exec fine bound order, ?_, ?_, ⟨_, congrArg (· ++ [_]) (congrArg Refl.marks pair), rfl, rfl, rfl⟩, ?_⟩
  · have shown := (s.begin_ w).put_get_same F.FAB_REFLECT_GEN_created (fieldAt it.payload 16 4) 0
    have small : fieldAt it.payload 16 4 < 2 ^ F.FAB_REFLECT_GEN_created.width := (fieldAt_lt it.payload 16 4).trans_eq (by decide)
    rw [State.setRefl_get, shown]
    exact Nat.mod_eq_of_lt small
  · rw [← begun]
    generalize s.begin_ w = v
    have store := v.put_get_apart (f := F.FAB_REFLECT_GEN_created) (g := F.HUB_GRAPH_STORE_base_mib) (by decide) (by decide) (by decide)
      (fieldAt it.payload 16 4) 0 0
    generalize put : v.put F.FAB_REFLECT_GEN_created (fieldAt it.payload 16 4) 0 = u at store
    have regs : u = { v with regs := u.regs } := by
      rw [← put]
      rfl
    refine State.item_congr ?_ ?_ ?_ store
    all_goals
      rw [regs]
      rfl
  · rw [State.begin_, frame]
    rfl

/-! ## UNBIND (R392) -/

theorem AsksRefl.unbind_bad (h : AsksRefl s w it 2) {d : Nat} (bad : reflFormat it.payload = some d) :
    exec (.unbind w) s = .next (s.finish w .eFormat d) := by
  change execUnbind w s = _
  simp [execUnbind, h.fresh, h.op, bad]

theorem AsksRefl.unbind_exec (h : AsksRefl s w it 2) (fine : reflFormat it.payload = none) :
    exec (.unbind w) s = .next (s.unbindNow.finish w .ok 0) := by
  change execUnbind w s = _
  simp [execUnbind, h.fresh, h.op, fine]

/-- A device is unbound, without a BIND or MARK to end: the shadow area is not touched. -/
structure Unbinds (s t : State) : Prop where
  frame : t = { s with fab := t.fab, refl := {}, regs := t.regs }
  state : t.reflState = 0
  partner : t.reflPartner = 0
  shadow : t.get F.FAB_REFLECT_STAT_shadow 0 = 0
  store : t.get F.HUB_GRAPH_STORE_base_mib 0 = s.get F.HUB_GRAPH_STORE_base_mib 0

theorem State.unbindNow_unbinds (marks : s.refl.marks = []) (work : s.refl.work = none) : Unbinds s s.unbindNow := by
  let gone := s.setFab { s.fab with reqs := s.fab.reqs.filter fun r => !(isReflection r.kind && r.attempts == 0) }
  have plain : s.unbindNow = (((((((gone.setRefl {}).setReflState 0).put F.FAB_REFLECT_STAT_shadow 0 0).put F.FAB_REFLECT_STAT_cause 0
      0).put F.FAB_REFLECT_STAT_partner 0 0).put F.FAB_REFLECT_STAT_overflow 0 0).put F.FAB_REFLECT_STAT_shadow_gen 0 0) := by
    simp only [State.unbindNow, marks, work, List.foldl_nil]
    rfl
  rw [plain]
  have changed : RegsOnly (gone.setRefl {}) _ := ((((((RegsOnly.refl (gone.setRefl {})).put F.FAB_REFLECT_STAT_state 0 0).put
    F.FAB_REFLECT_STAT_shadow 0 0).put F.FAB_REFLECT_STAT_cause 0 0).put F.FAB_REFLECT_STAT_partner 0 0).put
      F.FAB_REFLECT_STAT_overflow 0 0).put F.FAB_REFLECT_STAT_shadow_gen 0 0
  refine ⟨changed, ?_, ?_, ?_, ?_⟩
  · clear_value gone
    simp (disch := decide) only [State.reflState, State.setReflState, State.put_get_apart, State.put_get_same, Nat.zero_mod]
  · clear_value gone
    simp (disch := decide) only [State.reflPartner, State.put_get_apart, State.put_get_same, Nat.zero_mod]
  · clear_value gone
    simp (disch := decide) only [State.put_get_apart, State.put_get_same, Nat.zero_mod]
  · simp (disch := decide) only [State.setReflState, State.put_get_apart]
    rfl

theorem AsksRefl.unbind_gives (h : AsksRefl s w it 2) (fine : reflFormat it.payload = none) (marks : s.refl.marks = [])
    (work : s.refl.work = none) : Gives (.unbind w) s fun t =>
      EndedAs s t w .ok 0 ∧ t.reflState = 0 ∧ t.reflPartner = 0 ∧ t.get F.FAB_REFLECT_STAT_shadow 0 = 0 ∧ t.refl = {} ∧
      t = { s with fab := t.fab, refl := t.refl, regs := t.regs, queues := t.queues, graphs := t.graphs } := by
  have unbinds := State.unbindNow_unbinds marks work
  obtain ⟨item, live⟩ := State.item_of_fresh h.fresh
  refine ⟨_, h.unbind_exec fine, ?_⟩
  generalize s.unbindNow = u at unbinds
  have same : u.item w = s.item w :=
    State.item_congr (by rw [unbinds.frame]) (by rw [unbinds.frame]) (by rw [unbinds.frame]) unbinds.store
  have ended := State.finish_endedAs_of_item same item (by simp [live]) .ok 0
  obtain ⟨q, g, frame⟩ := u.finish_eq w .ok 0
  rw [frame] at ended ⊢
  refine ⟨ended, unbinds.state, unbinds.partner, unbinds.shadow, by rw [unbinds.frame], ?_⟩
  conv_lhs => rw [unbinds.frame]
  rw [show u.refl = {} by rw [unbinds.frame]]

end

/-! ## The obligation -/

/-- Settles O54: refusals end the descriptor and change nothing else; what issuing keeps of a stored request (`OnlyIssues`) shows every
packet that is owed stored towards the partner, sent or not. -/
theorem reflectionSends : Obligations.ReflectionSends := by
  refine ⟨?_, fun s => exec_reflectBurstSend_quiet, ?_, fun s binding may serials => rbindTimer_gives binding may serials, ?_⟩
  · intro s w it fresh op a g only
    refine ⟨fun isOp => ?_, fun isOp => ?_, fun isOp => ?_⟩
    · have h : AsksRefl s w it 1 := ⟨fresh, isOp⟩
      refine ⟨fun d bad => h.ends (h.bind_bad bad), fun fine bound => h.ends (h.bind_bound fine bound),
        fun fine unbound outside => h.ends (h.bind_bounds fine unbound outside), ?_⟩
      intro n d fine unbound head headFree some_ few whole free sound
      have block : BindBlock s w it a n d := ⟨h, fine, unbound, rfl, head, headFree, rfl, some_, few, whole, free, rfl, sound⟩
      clear_value d n
      refine ⟨fun bad => h.ends (block.exec_bad bad), fun good mapped apart included shutter => ?_⟩
      obtain ⟨state, partner, cause, pair⟩ := s.startBind_binds w d.bytes (State.blockBad_node good)
      refine ⟨_, block.exec_good good mapped apart included shutter, state, partner, cause, ?_⟩
      rw [pair]
      exact ⟨rfl, rfl, rfl, rfl, rfl, rfl⟩
    · have h : AsksRefl s w it 0 := ⟨fresh, isOp⟩
      exact ⟨fun d bad => h.ends (h.mark_bad bad), fun fine lost => h.ends (h.mark_lost fine lost),
        fun fine unbound still => h.ends (h.mark_unbound fine unbound still),
        fun fine bound order => h.ends (h.mark_order fine bound order), fun fine bound order => h.mark_creates fine bound order⟩
    · have h : AsksRefl s w it 2 := ⟨fresh, isOp⟩
      exact ⟨fun d bad => h.ends (h.unbind_bad bad), h.unbind_gives⟩
  · intro s bound may free serials carries
    have h : ReflReady s := ⟨bound, may, free, serials⟩
    refine ⟨h.resume, fun paused owes => ?_, fun g => h.mark, ?_, ?_, h.keep⟩
    · rw [h.exec_paused paused, owes]
      rfl
    · intro b a runs due next address held
      exact ⟨_, h.exec_dirty runs due next address held, h.sendBurst address⟩
    · intro c a runs due next copies more address held
      obtain ⟨mem, -, r, stored, kind, node, off, data, -⟩ := h.sendBurst address
      exact ⟨_, h.exec_copy runs due next copies more address held, mem, rfl, r, stored, kind, node, off, data⟩
  · intro s port p r kept receives reply reqs ops tag sent node data own partner ok fits bound
    have h (kind : r.kind = 0xA1 ∨ r.kind = 0xA2) : GoodReflReply s port p r :=
      ⟨⟨kept, receives, reply⟩, reqs, ops, tag, sent, node, data, own, partner, ok, fits, bound, kind⟩
    exact ⟨fun m w it kind => (h (.inr kind)).mark kind, fun kind => (h (.inl kind)).burst kind⟩

end Sys2Proof.Machine

/-! SUPPORT. What a store to memory leaves of the reflection pair, and a reflection packet that the target's flow takes (R384, R387). -/

namespace Sys2Proof.Machine

/-! ## Stores beside the pair -/

/-- Only memory differs, and which reflected bursts are dirty. -/
def DirtiesOnly (s t : State) : Prop := t = { s with mem := t.mem, refl := { s.refl with dirty := t.refl.dirty } }

namespace DirtiesOnly
variable {s t u : State}

theorem rfl' (s : State) : DirtiesOnly s s := rfl

theorem trans (h : DirtiesOnly s t) (h' : DirtiesOnly t u) : DirtiesOnly s u :=
  Eq.trans h' (congrArg (fun x : State => { x with mem := u.mem, refl := { x.refl with dirty := u.refl.dirty } }) h)

theorem dirtyAt (h : DirtiesOnly s t) (a : Nat) : DirtiesOnly s (t.dirtyAt a) := by
  refine h.trans ?_
  unfold State.dirtyAt
  split
  · exact rfl' t
  · split
    · exact rfl' t
    · rfl

theorem setDram (s : State) (m : Mem) : DirtiesOnly s (s.setDram m) := rfl

theorem storeMedia (s : State) (k : Nat) (bs : List Byte) : DirtiesOnly s (s.storeMedia k bs) := rfl

theorem writePiece (x : State × Status) (a : Nat) (bs : List Byte) : DirtiesOnly x.1 (State.writePiece x a bs).1 := by
  unfold State.writePiece
  extract_lets s
  split
  · exact rfl' _
  next l _ =>
    extract_lets first last edge
    split
    · exact rfl' _
    · exact (storeMedia s l.key bs).dirtyAt a

theorem writePieces (ps : List (Nat × Nat)) (x : State × Status) (bs : List Byte) :
    DirtiesOnly x.1 (State.writePieces x ps bs).1 := by
  induction ps generalizing x bs with
  | nil => exact rfl' _
  | cons p ps ih => exact (writePiece x p.1 _).trans (ih _ _)

theorem memWrite (s : State) (a : Nat) (bs : List Byte) : DirtiesOnly s (s.memWrite a bs).1 := writePieces _ (s, .ok) bs

theorem memPoison (s : State) (a n : Nat) : DirtiesOnly s (s.memPoison a n) := by
  refine List.foldlRecOn (motive := fun u : State => DirtiesOnly s u) _ _ (rfl' s) fun u hu p _ => ?_
  split
  · exact hu
  next l _ => exact hu.trans ((setDram u _).dirtyAt p.1)

theorem memWriteBad (s : State) (a : Nat) (r : ReadOut) : DirtiesOnly s (s.memWriteBad a r).1 := by
  refine List.foldlRecOn (motive := fun u : State => DirtiesOnly s u) _ _ (memWrite s a r.bytes) fun u hu k _ => ?_
  split
  · exact hu.trans (memPoison u _ _)
  · exact hu

theorem log (h : DirtiesOnly s t) : t.refl.log = s.refl.log := by
  unfold DirtiesOnly at h
  rw [h]

end DirtiesOnly

/-- The rollback writes memory and empties the undo log. -/
theorem State.rollback_eq (s : State) :
    ∃ m d, s.rollback = { s with mem := m, refl := { s.refl with dirty := d, log := [] } } := by
  have only : DirtiesOnly s (s.refl.log.foldl (fun s u => (s.memWriteBad (s.refl.shadow + 2048 * u.burst) ⟨u.bytes, u.bad⟩).1) s) :=
    List.foldlRecOn (motive := fun u : State => DirtiesOnly s u) _ _ (.rfl' s) fun u hu e _ => hu.trans (.memWriteBad u _ _)
  rw [State.rollback]
  generalize s.refl.log.foldl _ s = u at only
  unfold DirtiesOnly at only
  rw [only]
  exact ⟨_, _, rfl⟩

/-! ## A reflection packet taken (R231, R384) -/

section
variable {s u : State} {port : Nat} {p : Packet} {x y : FlowTgt} {st : Status}

/-- A reflection packet in order is taken and answered as the engine says, and the pair is left as the engine leaves it. -/
theorem Admits.reflection (h : Admits s port p x) (kind : isReflection p.kind = true) (inOrder : p.fseq = x.expected)
    (small : x.expected < 2 ^ 32) (takes : (s.touch p.src).takeReflection p = (u, st)) (left : Checked s u p.src x y) :
    Stored s u (s.arrive port p) port p x y st [] ∧ (s.arrive port p).refl = u.refl := by
  have high : 0xA0 ≤ p.kind := by
    simp only [isReflection, Bool.and_eq_true, decide_eq_true_eq] at kind
    exact kind.1
  have notRead : p.kind ≠ 1 := by omega
  have notFence : ¬p.kind = 6 := by omega
  have checks : (s.touch p.src).serveChecks p x = ⟨u, st, [], false⟩ := by
    simp [State.serveChecks, notFence, kind, takes]
  refine ⟨h.stores notRead (fun both => notFence both.1) inOrder small checks left, ?_⟩
  have ran : s.serveFlow port p = (u.setTgt p.src (y.served p.fseq st u.time)).answer port p st [] false := by
    rw [h.serveFlow_store notRead (fun both => notFence both.1) inOrder, State.serveStore_eq checks left.target]
  obtain ⟨g, ps, l, frame⟩ := (u.setTgt p.src (y.served p.fseq st u.time)).answer_eq port p st [] false
  rw [h.arrive_eq (by rw [ran, State.answer_fab]; exact left.held), ran, frame]
  rfl

end

end Sys2Proof.Machine

/-! O55: reflection, what arrives from the partner, and the loss of the partner (R384, R387-R391). -/

namespace Sys2Proof.Machine

/-! ## What the engine does with a packet (R384, R387, R388) -/

section
variable {v : State} {p : Packet}

theorem State.reflState_of_bound (bound : v.reflBound = true) : v.reflState ≠ 1 := by
  have := (State.reflBound_iff.1 bound).1
  omega

/-- The partner has just been heard. -/
def State.hears (s : State) : State := s.setRefl { s.refl with heard := s.time }

/-- Packet p comes from the bound partner, at the epoch it last announced. -/
structure FromPartner (v : State) (p : Packet) : Prop where
  bound : v.reflBound = true
  partner : v.reflPartner = p.src
  epoch : v.refl.epoch = p.srcEpoch

theorem FromPartner.takes_burst (h : FromPartner v p) (kind : p.kind = 0xA1) : v.takeReflection p = v.hears.takeRburst p := by
  simp [State.takeReflection, kind, State.reflState_of_bound h.bound, h.bound, h.partner, h.epoch, State.hears]

theorem FromPartner.takes_mark (h : FromPartner v p) (kind : p.kind = 0xA2) : v.takeReflection p = v.hears.takeRmark p := by
  simp [State.takeReflection, kind, State.reflState_of_bound h.bound, h.bound, h.partner, h.epoch, State.hears]

theorem FromPartner.takes_keep (h : FromPartner v p) (kind : p.kind = 0xA3) : v.takeReflection p = (v.hears, .ok) := by
  simp [State.takeReflection, kind, State.reflState_of_bound h.bound, h.bound, h.partner, h.epoch, State.hears]

theorem FromPartner.takes_resume (h : FromPartner v p) (kind : p.kind = 0xA4) :
    v.takeReflection p = ((v.hears.durable (fieldAt p.data 0 4)).reflResume, .ok) := by
  simp [State.takeReflection, kind, State.reflState_of_bound h.bound, h.bound, h.partner, h.epoch, State.hears]

theorem State.takeReflection_of_stranger (stranger : v.reflPartner ≠ p.src) : v.takeReflection p = (v, .eNotExported) := by
  by_cases kind : p.kind = 0xA0
  · rw [State.takeReflection, if_pos kind, State.takeRbind, if_pos (.inl stranger)]
  · simp [State.takeReflection, kind, stranger]

/-- An RBIND that fits is accepted; nothing forms while this device's own RBIND has no answer. -/
theorem State.takeReflection_of_rbind (binding : v.reflState = 1) (partner : v.reflPartner = p.src) (kind : p.kind = 0xA0)
    (given : v.refl.given = false) (shadow : fieldAt p.data 8 4 ≤ v.refl.shadowSize) (total : v.refl.total ≤ fieldAt p.data 12 4) :
    v.takeReflection p = (v.setRefl { v.refl with took := true, epoch := p.srcEpoch }, .ok) := by
  have unbound : v.reflBound = false := by simp [State.reflBound, binding]
  simp [State.takeReflection, State.takeRbind, kind, partner, binding, unbound, Nat.not_lt.2 shadow, Nat.not_lt.2 total, State.formBinding,
    given, State.setRefl]

/-! ### A burst (R387, R388) -/

/-- A burst reaches the shadow; before it the pair notes it in state u. -/
theorem State.takeRburst_of_noted {u : State} (inside : p.offset + 2048 ≤ v.refl.shadowSize * 2 ^ 21)
    (mapped : v.mapped (v.refl.shadow + p.offset) 2048 = true) (clean : p.poison = false)
    (noted : (if v.get F.FAB_REFLECT_STAT_shadow 0 = 1 then
        v.put F.FAB_REFLECT_COPIED_bytes (v.get F.FAB_REFLECT_COPIED_bytes 0 + 2048) 0
      else if v.refl.log.any fun u => u.burst == p.offset / 2048 then v
      else if v.refl.undoMax ≤ v.refl.log.length then v.put F.FAB_REFLECT_STAT_overflow 1 0
      else v.setRefl { v.refl with log := ⟨p.offset / 2048, (v.memRead (v.refl.shadow + p.offset) 2048).bytes,
        (v.memRead (v.refl.shadow + p.offset) 2048).bad⟩ :: v.refl.log }) = u) :
    v.takeRburst p = u.memWrite (v.refl.shadow + p.offset) p.data := by
  have bounds : ¬(v.refl.shadowSize * 2 ^ 21 < p.offset + 2048 ∨ (!v.mapped (v.refl.shadow + p.offset) 2048) = true) := by
    rw [mapped]
    simpa using inside
  simp only [State.takeRburst, if_neg bounds, clean, noted]
  rfl

end

section
variable {s u : State} {port : Fin 64} {p : Packet} {x : FlowTgt}

theorem exec_rbind (kind : p.kind = 0xA0) : exec (.rbind port p) s = .next (s.arrive port p) := congrArg _ (if_pos kind)
theorem exec_rburst (kind : p.kind = 0xA1) : exec (.rburst port p) s = .next (s.arrive port p) := congrArg _ (if_pos kind)
theorem exec_rmark (kind : p.kind = 0xA2) : exec (.rmark port p) s = .next (s.arrive port p) := congrArg _ (if_pos kind)
theorem exec_rkeep (kind : p.kind = 0xA3) : exec (.rkeep port p) s = .next (s.arrive port p) := congrArg _ (if_pos kind)
theorem exec_rresume (kind : p.kind = 0xA4) : exec (.rresume port p) s = .next (s.arrive port p) := congrArg _ (if_pos kind)

/-- A reflection packet in order, from a flow that is open. -/
structure ReflArrives (s : State) (port : Fin 64) (p : Packet) (x : FlowTgt) : Prop where
  admits : Admits s port p x
  inOrder : p.fseq = x.expected
  small : x.expected < 2 ^ 32

/-- What leaves memory's map, what answers go by, and the flows as they are. -/
structure Notes (s u : State) : Prop where
  answers : AnswersAs s u
  fab : u.fab = s.fab
  map : u.memMap = s.memMap
  mem : u.mem = s.mem
  spad : u.spad = s.spad
  hubsp : u.hubsp = s.hubsp

theorem Notes.setRefl (s : State) (r : Refl) : Notes s (s.setRefl r) := ⟨.of_regs rfl rfl rfl, rfl, rfl, rfl, rfl, rfl⟩

theorem Notes.put (s : State) {f : Fld} (low : f.code < 1024) (apart : ∀ g ∈ answerFields, g.code ≠ f.code) (off : f.offMemory)
    (v i : Nat) : Notes s (s.put f v i) := ⟨.put low apart v i, rfl, s.put_memMap off v i, rfl, rfl, rfl⟩

theorem Notes.trans {t : State} (h : Notes s t) (h' : Notes t u) : Notes s u :=
  ⟨h.answers.trans h'.answers, h'.fab.trans h.fab, h'.map.trans h.map, h'.mem.trans h.mem, h'.spad.trans h.spad, h'.hubsp.trans h.hubsp⟩

theorem Notes.checked (h : Notes (s.touch p.src) u) (admits : Admits s port p x) : Checked s u p.src x x :=
  (Checked.touch admits.target).next h.answers (by rw [h.fab]) (by rw [h.fab])

/-- A burst whose noting leaves state u is stored as a write of the shadow. -/
theorem ReflArrives.burst (h : ReflArrives s port p x) (kind : p.kind = 0xA1) {a : Nat}
    (takes : (s.touch p.src).takeReflection p = u.memWrite a p.data) (notes : Notes (s.touch p.src) u) :
    (s.arrive port p).mem = (s.memWrite a p.data).1.mem ∧ (s.arrive port p).refl.log = u.refl.log ∧
    Replies s (s.arrive port p) port p (s.memWrite a p.data).2 p.fseq [] ∧ (s.arrive port p).spad = s.spad ∧
    (s.arrive port p).hubsp = s.hubsp := by
  have checked : Checked s (u.memWrite a p.data).1 p.src x x :=
    (notes.checked h.admits).next (.memWrite u _ _) (by simp) (by simp)
  obtain ⟨stored, pair⟩ := h.admits.reflection (u := (u.memWrite a p.data).1) (st := (u.memWrite a p.data).2)
    (by rw [kind]; rfl) h.inOrder h.small takes checked
  have map : u.memMap = s.memMap := notes.map.trans (s.touch_memMap _)
  have mem : u.mem = s.mem := notes.mem.trans (s.touch_mem _)
  refine ⟨stored.mem.trans (State.memWrite_mem_congr map mem _ _), ?_, ?_, ?_, ?_⟩
  · rw [pair]
    exact (DirtiesOnly.memWrite u _ _).log
  · rw [← State.memWrite_status_congr map mem]
    exact stored.replies
  · rw [stored.spad, State.memWrite_spad, notes.spad, State.touch_spad]
  · rw [stored.hubsp, State.memWrite_hubsp, notes.hubsp, State.touch_hubsp]

/-- A reflection packet that stores nothing is taken, and answered OK. -/
theorem ReflArrives.takes (h : ReflArrives s port p x) (kind : isReflection p.kind = true)
    (takes : (s.touch p.src).takeReflection p = (u, .ok)) (checked : Checked s u p.src x x) (mem : u.mem = s.mem) :
    (s.arrive port p).refl = u.refl ∧ (s.arrive port p).regs = u.regs ∧ (s.arrive port p).mem = s.mem ∧
    Replies s (s.arrive port p) port p .ok p.fseq [] := by
  obtain ⟨stored, pair⟩ := h.admits.reflection kind h.inOrder h.small takes checked
  exact ⟨pair, stored.regs rfl, stored.mem.trans mem, stored.replies⟩

/-- A reflection packet of a node that is not the partner. -/
theorem ReflArrives.stranger (h : ReflArrives s port p x) (kind : isReflection p.kind = true) (stranger : s.reflPartner ≠ p.src) :
    (s.arrive port p).mem = s.mem ∧ (s.arrive port p).refl = s.refl ∧
    Replies s (s.arrive port p) port p .eNotExported p.fseq [] := by
  obtain ⟨stored, pair⟩ := h.admits.reflection kind h.inOrder h.small (State.takeReflection_of_stranger stranger)
    (Checked.touch h.admits.target)
  exact ⟨stored.mem, pair, stored.replies⟩

/-! ### The shadow while it is copied, and once it is durable (R387, R388) -/

/-- A burst of the bound partner that lies in the shadow, clean and stored locally. -/
structure BurstArrives (s : State) (port : Fin 64) (p : Packet) (x : FlowTgt) : Prop extends ReflArrives s port p x where
  partner : FromPartner s p
  kind : p.kind = 0xA1
  inside : p.offset + 2048 ≤ s.refl.shadowSize * 2 ^ 21
  mapped : s.mapped (s.refl.shadow + p.offset) 2048 = true
  clean : p.poison = false

theorem BurstArrives.takes (h : BurstArrives s port p x) : (s.touch p.src).takeReflection p = (s.touch p.src).hears.takeRburst p :=
  FromPartner.takes_burst (v := s.touch p.src) ⟨h.partner.bound, h.partner.partner, h.partner.epoch⟩ h.kind

/-- The initial copy counts a burst. -/
def State.countsCopy (v : State) : State := v.put F.FAB_REFLECT_COPIED_bytes (v.get F.FAB_REFLECT_COPIED_bytes 0 + 2048) 0

theorem State.countsCopy_log (v : State) : v.countsCopy.refl.log = v.refl.log := rfl

theorem BurstArrives.copied (h : BurstArrives s port p x) (copies : s.get F.FAB_REFLECT_STAT_shadow 0 = 1) :
    Gives (.rburst port p) s fun t =>
      t.mem = (s.memWrite (s.refl.shadow + p.offset) p.data).1.mem ∧ t.refl.log = s.refl.log ∧
      Replies s t port p (s.memWrite (s.refl.shadow + p.offset) p.data).2 p.fseq [] ∧ t.spad = s.spad ∧ t.hubsp = s.hubsp := by
  let v := (s.touch p.src).hears
  have notes : Notes (s.touch p.src) v.countsCopy :=
    (Notes.setRefl _ _).trans (.put v (by decide) (by decide) (by unfold Fld.offMemory Fld.offMap; decide) _ _)
  have takes := State.takeRburst_of_noted (v := v) (u := v.countsCopy) h.inside h.mapped h.clean (if_pos copies)
  obtain ⟨mem, log, rest⟩ := h.toReflArrives.burst h.kind (h.takes.trans takes) notes
  exact ⟨_, exec_rburst h.kind, mem, log.trans v.countsCopy_log, rest⟩

theorem BurstArrives.logged (h : BurstArrives s port p x) (durable : s.get F.FAB_REFLECT_STAT_shadow 0 ≠ 1)
    (fresh : (s.refl.log.any fun u => u.burst == p.offset / 2048) = false) (room : s.refl.log.length < s.refl.undoMax) :
    Gives (.rburst port p) s fun t =>
      t.mem = (s.memWrite (s.refl.shadow + p.offset) p.data).1.mem ∧
      (∃ u, t.refl.log = u :: s.refl.log ∧ u.burst = p.offset / 2048 ∧ u.bytes = (s.memRead (s.refl.shadow + p.offset) 2048).bytes ∧
        u.bad = (s.memRead (s.refl.shadow + p.offset) 2048).bad) ∧
      Replies s t port p (s.memWrite (s.refl.shadow + p.offset) p.data).2 p.fseq [] ∧ t.spad = s.spad ∧ t.hubsp = s.hubsp := by
  let v := (s.touch p.src).hears
  have old : v.memRead (v.refl.shadow + p.offset) 2048 = s.memRead (s.refl.shadow + p.offset) 2048 :=
    State.memRead_congr (s := s) (t := v) rfl rfl (s.refl.shadow + p.offset) 2048
  have takes := State.takeRburst_of_noted (v := v) h.inside h.mapped h.clean
    ((if_neg durable).trans ((if_neg (Bool.eq_false_iff.1 fresh)).trans (if_neg (Nat.not_le.2 room))))
  obtain ⟨mem, log, replies, spad, hubsp⟩ := h.toReflArrives.burst h.kind (h.takes.trans takes) ((Notes.setRefl _ _).trans (.setRefl v _))
  refine ⟨_, exec_rburst h.kind, mem, ⟨⟨p.offset / 2048, _, _⟩, ?_, rfl, rfl, rfl⟩, replies, spad, hubsp⟩
  rw [log, ← old]
  rfl

/-! ### RMARK, RKEEP, RBIND (R384, R387, R389) -/

theorem ReflArrives.fromPartner (partner : FromPartner s p) : FromPartner (s.touch p.src) p :=
  ⟨partner.bound, partner.partner, partner.epoch⟩

/-- The fields that an RMARK's generation is shown in. -/
def State.markApplied (s : State) (g : Nat) : State :=
  ((((s.setRefl { s.refl with log := [] }).put F.FAB_REFLECT_STAT_shadow_gen g 0).put F.FAB_REFLECT_STAT_overflow 0 0).put
    F.FAB_REFLECT_STAT_shadow 2 0)

theorem State.markApplied_notes (s : State) (g : Nat) : Notes s (s.markApplied g) :=
  (((Notes.setRefl s _).trans (.put _ (by decide) (by decide) (by unfold Fld.offMemory Fld.offMap; decide) _ _)).trans
    (.put _ (by decide) (by decide) (by unfold Fld.offMemory Fld.offMap; decide) _ _)).trans
      (.put _ (by decide) (by decide) (by unfold Fld.offMemory Fld.offMap; decide) _ _)

theorem State.markApplied_shown (s : State) {g : Nat} (small : g < 2 ^ 32) :
    (s.markApplied g).get F.FAB_REFLECT_STAT_shadow_gen 0 = g ∧ (s.markApplied g).get F.FAB_REFLECT_STAT_shadow 0 = 2 := by
  unfold State.markApplied
  simp (disch := decide) only [State.put_get_apart, State.put_get_same]
  exact ⟨Nat.mod_eq_of_lt small, rfl⟩

theorem ReflArrives.mark (h : ReflArrives s port p x) (partner : FromPartner s p) (kind : p.kind = 0xA2)
    (later : s.get F.FAB_REFLECT_STAT_shadow_gen 0 < p.key) (small : p.key < 2 ^ 32)
    (done : s.get F.FAB_REFLECT_STAT_shadow 0 = 1 → p.offset ≠ 0) : Gives (.rmark port p) s fun t =>
      t.get F.FAB_REFLECT_STAT_shadow_gen 0 = p.key ∧ t.get F.FAB_REFLECT_STAT_shadow 0 = 2 ∧ t.refl.log = [] ∧ t.mem = s.mem ∧
      Replies s t port p .ok p.fseq [] := by
  let v := (s.touch p.src).hears
  have applies : ¬(p.key ≤ v.get F.FAB_REFLECT_STAT_shadow_gen 0 ∨ (v.get F.FAB_REFLECT_STAT_shadow 0 = 1 ∧ p.offset = 0)) := by
    rintro (early | ⟨copies, first⟩)
    · exact absurd later (Nat.not_lt.2 early)
    · exact done copies first
  have takes : (s.touch p.src).takeReflection p = (v.markApplied p.key, .ok) :=
    ((ReflArrives.fromPartner partner).takes_mark kind).trans (if_neg applies)
  have notes : Notes (s.touch p.src) (v.markApplied p.key) := (Notes.setRefl _ _).trans (v.markApplied_notes _)
  obtain ⟨pair, regs, mem, replies⟩ := h.takes (by rw [kind]; rfl) takes (notes.checked h.admits) notes.mem
  obtain ⟨gen, shadow⟩ := v.markApplied_shown small
  refine ⟨_, exec_rmark kind, ?_, ?_, by rw [pair]; rfl, mem, replies⟩
  · rw [State.get, regs]
    exact gen
  · rw [State.get, regs]
    exact shadow

theorem ReflArrives.keep (h : ReflArrives s port p x) (partner : FromPartner s p) (kind : p.kind = 0xA3) :
    Gives (.rkeep port p) s fun t => t.refl.heard = s.time ∧ t.mem = s.mem ∧ Replies s t port p .ok p.fseq [] := by
  have notes : Notes (s.touch p.src) (s.touch p.src).hears := .setRefl _ _
  obtain ⟨pair, -, mem, replies⟩ := h.takes (by rw [kind]; rfl) ((ReflArrives.fromPartner partner).takes_keep kind)
    (notes.checked h.admits) notes.mem
  exact ⟨_, exec_rkeep kind, by rw [pair]; rfl, mem, replies⟩

theorem ReflArrives.bind (h : ReflArrives s port p x) (binding : s.reflState = 1) (partner : s.reflPartner = p.src) (kind : p.kind = 0xA0)
    (given : s.refl.given = false) (shadow : fieldAt p.data 8 4 ≤ s.refl.shadowSize) (total : s.refl.total ≤ fieldAt p.data 12 4) :
    Gives (.rbind port p) s fun t =>
      t.reflState = 1 ∧ t.refl.took = true ∧ t.refl.epoch = p.srcEpoch ∧ t.mem = s.mem ∧ Replies s t port p .ok p.fseq [] := by
  have takes := State.takeReflection_of_rbind (v := s.touch p.src) binding partner kind given shadow total
  obtain ⟨pair, regs, mem, replies⟩ := h.takes (by rw [kind]; rfl) takes ((Notes.setRefl _ _).checked h.admits) rfl
  refine ⟨_, exec_rbind kind, ?_, by rw [pair]; rfl, by rw [pair]; rfl, mem, replies⟩
  rw [State.reflState, State.get, regs]
  exact binding

end

end Sys2Proof.Machine

namespace Sys2Proof.Machine

/-! ### RRESUME (R391) -/

section
variable {s t u : State} {port : Fin 64} {p : Packet} {x : FlowTgt}

/-- Making generations durable ends MARKs, and shows the generation and perhaps that the pair is bound. -/
structure MakesDurable (s t : State) : Prop where
  frame : t = { s with queues := t.queues, graphs := t.graphs, regs := t.regs, refl := { s.refl with marks := t.refl.marks } }
  reads : ∀ f : Fld, f.code < 1024 → f.code ≠ F.FAB_REFLECT_GEN_durable.code → f.code ≠ F.FAB_REFLECT_STAT_state.code →
    ∀ i, t.get f i = s.get f i

theorem MakesDurable.rfl' (s : State) : MakesDurable s s := ⟨rfl, fun _ _ _ _ _ => rfl⟩

theorem MakesDurable.trans (h : MakesDurable s t) (h' : MakesDurable t u) : MakesDurable s u where
  frame := h'.frame.trans (congrArg (fun x : State =>
    { x with queues := u.queues, graphs := u.graphs, regs := u.regs, refl := { x.refl with marks := u.refl.marks } }) h.frame)
  reads f low gen state i := (h'.reads f low gen state i).trans (h.reads f low gen state i)

theorem MakesDurable.finish (s : State) (w : Work) (st : Status) (d : Nat) : MakesDurable s (s.finish w st d) := by
  obtain ⟨q, g, frame⟩ := s.finish_eq w st d
  rw [frame]
  exact ⟨rfl, fun _ _ _ _ _ => rfl⟩

theorem State.durable_makes (s : State) (g : Nat) : MakesDurable s (s.durable g) := by
  unfold State.durable
  extract_lets done ended pair kept shown
  have toEnded : MakesDurable s ended := by
    refine List.foldlRecOn (motive := fun u : State => MakesDurable s u) _ _ (.rfl' s) fun u hu m _ => ?_
    split
    · exact hu.trans (.finish u _ _ _)
    · exact hu
  have toKept : MakesDurable s kept := toEnded.trans ⟨rfl, fun _ _ _ _ _ => rfl⟩
  have toShown : MakesDurable s shown := by
    refine iteInduction (motive := MakesDurable s) (fun _ => ?_) fun _ => toKept
    exact toKept.trans ⟨rfl, fun f low gen _ i => kept.put_get_apart (by decide) low gen g 0 i⟩
  refine iteInduction (motive := MakesDurable s) (fun _ => ?_) fun _ => toShown
  exact toShown.trans ⟨rfl, fun f low _ state i => shown.put_get_apart (by decide) low state 3 0 i⟩

theorem MakesDurable.answers (h : MakesDurable s t) : AnswersAs s t :=
  ⟨by rw [h.frame], by rw [h.frame], fun f hf i => h.reads f (by revert f; decide) (by revert f; decide) (by revert f; decide) i⟩

theorem MakesDurable.partner (h : MakesDurable s t) : t.reflPartner = s.reflPartner :=
  h.reads _ (by decide) (by decide) (by decide) 0

/-- Streaming that resumes opens the flow afresh: its target side and the other flows are as they were. -/
structure Resumes (s t : State) : Prop where
  answers : AnswersAs s t
  held : t.fab.held = s.fab.held
  target : ∀ k, (t.flow k).tgt = (s.flow k).tgt
  others : ∀ k, k ≠ s.reflPartner → t.flow k = s.flow k
  mem : t.mem = s.mem
  state : t.reflState = 2 ∨ t.reflState = 3
  quiet : t.refl.quiet = none
  owe : t.refl.owe = false

theorem State.setReflState_reflState (s : State) {v : Nat} (small : v < 8) : (s.setReflState v).reflState = v :=
  (s.put_get_same F.FAB_REFLECT_STAT_state v 0).trans (Nat.mod_eq_of_lt small)

theorem State.reflResume_resumes (s : State) : Resumes s s.reflResume := by
  unfold State.reflResume
  extract_lets n f fabric opened pair again
  have flow : ∀ k, (opened.flow k).tgt = (s.flow k).tgt ∧ (k ≠ n → opened.flow k = s.flow k) := fun k => by
    by_cases own : k = n
    · rw [own]
      refine ⟨?_, fun other => absurd rfl other⟩
      have afresh : opened.flow n = { f with src := f.src.map fun (x : FlowSrc) => { x with opened := false, opening := false } } :=
        SMap.get_set_same _ s.fab.flows n _
      rw [afresh]
      rfl
    · have same : opened.flow k = s.flow k := SMap.get_set_other _ _ s.fab.flows _ own
      exact ⟨congrArg Flow.tgt same, fun _ => same⟩
  have answers : AnswersAs s again := .of_regs rfl rfl rfl
  generalize value : (if again.get F.FAB_REFLECT_GEN_durable 0 = 0 then 2 else 3) = v
  have small : v = 2 ∨ v = 3 := by
    rw [← value]
    split <;> simp
  refine ⟨answers.trans (.put (f := F.FAB_REFLECT_STAT_state) (by decide) (by decide) v 0), rfl, fun k => (flow k).1,
    fun k => (flow k).2, rfl, ?_, rfl, rfl⟩
  rw [again.setReflState_reflState (by omega)]
  exact small

theorem Resumes.checked {v : State} {y : FlowTgt} {n : Nat} (h : Checked s v n x y) (resumes : Resumes v u) (partner : v.reflPartner = n) :
    Checked s u n x y :=
  ⟨h.answers.trans resumes.answers, resumes.held.trans h.held, (resumes.target n).trans h.target, h.epoch, h.expected,
    fun k other => (resumes.others k (partner ▸ other)).trans (h.others k other)⟩

theorem ReflArrives.resume (h : ReflArrives s port p x) (partner : FromPartner s p) (kind : p.kind = 0xA4) :
    Gives (.rresume port p) s fun t => (t.reflState = 2 ∨ t.reflState = 3) ∧ t.refl.quiet = none ∧ t.refl.owe = false ∧ t.mem = s.mem ∧
      Replies s t port p .ok p.fseq [] := by
  have takes := (ReflArrives.fromPartner partner).takes_resume kind
  have durable := (s.touch p.src).hears.durable_makes (fieldAt p.data 0 4)
  generalize (s.touch p.src).hears.durable (fieldAt p.data 0 4) = v at takes durable
  have resumes := v.reflResume_resumes
  have fab : v.fab = (s.touch p.src).fab := by
    rw [durable.frame]
    rfl
  have heard : AnswersAs (s.touch p.src) (s.touch p.src).hears := .of_regs rfl rfl rfl
  have checked : Checked s v p.src x x :=
    (Checked.touch h.admits.target).next (heard.trans durable.answers) (by rw [fab]) (by rw [fab])
  have mem : v.mem = s.mem := by
    rw [durable.frame]
    rfl
  obtain ⟨pair, regs, mem', replies⟩ := h.takes (by rw [kind]; rfl) takes
    (Resumes.checked checked resumes (durable.partner.trans partner.partner)) (resumes.mem.trans mem)
  refine ⟨_, exec_rresume kind, ?_, by rw [pair]; exact resumes.quiet, by rw [pair]; exact resumes.owe, mem', replies⟩
  rw [State.reflState, State.get, regs]
  exact resumes.state

end

/-! ## BIND_TIMEOUT (R384) -/

section
variable {s : State}

theorem bindTimeout_gives {w : Work} {it : Item} (binding : s.reflState = 1) (work : s.refl.work = some w) (item : s.item w = some it)
    (busy : it.phase = .busy) : Gives .bindTimeout s fun t =>
      t.resultOf w = some ⟨.eTimeout, 0⟩ ∧ t.reflState = 0 ∧ t.reflPartner = 0 ∧ t.refl = {} ∧ s.refl.since + 1000000000 ≤ t.time ∧
      t.mem = s.mem := by
  let v := s.due (s.refl.since + 1000000000)
  have failed : v.failBind .eTimeout = (((v.finish w .eTimeout 0).setRefl {}).put F.FAB_REFLECT_STAT_partner 0 0).setReflState 0 := by
    have mine : v.refl.work = some w := work
    simp only [State.failBind, mine]
  have result := State.finish_resultOf (u := v) item (by simp [busy]) rfl rfl .eTimeout 0
  obtain ⟨q, g, frame⟩ := v.finish_eq w .eTimeout 0
  refine ⟨v.failBind .eTimeout, congrArg Host.Outcome.next (if_pos binding), ?_⟩
  rw [failed]
  refine ⟨result, State.setReflState_reflState _ (by decide), ?_, rfl, ?_, ?_⟩
  · generalize (v.finish w .eTimeout 0).setRefl {} = u
    simp (disch := decide) only [State.reflPartner, State.setReflState, State.put_get_apart, State.put_get_same, Nat.zero_mod]
  · rw [frame]
    exact Nat.le_max_right _ _
  · rw [frame]
    rfl

/-! ## The partner is lost (R389, R390) -/

theorem Tells.emit {codes : List Nat} {p : Nat} (s : State) (o : Out) : Tells codes p s (s.emit o) := by
  obtain ⟨l, frame⟩ := s.emit_eq o
  rw [frame]
  exact ⟨rfl, rfl, rfl, rfl, ⟨rfl, rfl, rfl, rfl⟩, fun _ _ _ _ => rfl⟩

/-- What the pair's end leaves: the state lost with its cause, memory as it was. -/
structure GoneFor (s t : State) (cause : Nat) : Prop where
  state : t.reflState = 5
  cause : t.get F.FAB_REFLECT_STAT_cause 0 = cause
  lost : t.get F.FAB_REFLECT_STAT_lost_evt 0 = 1
  refl : t.refl = { s.refl with rolling := none }
  mem : t.mem = s.mem
  time : t.time = s.time

theorem State.reflGone_goneFor (s : State) {cause : Nat} (small : cause < 8) : GoneFor s (s.reflGone cause) cause := by
  unfold State.reflGone
  extract_lets pair unrolled shown
  have frame : shown = { s with refl := { s.refl with rolling := none }, regs := shown.regs } := rfl
  have state : shown.reflState = 5 := by
    simp (disch := decide) only [shown, State.reflState, State.put_get_apart]
    exact State.setReflState_reflState _ (by decide)
  have cause' : shown.get F.FAB_REFLECT_STAT_cause 0 = cause := by
    have fits : cause < 2 ^ F.FAB_REFLECT_STAT_cause.width := small.trans_le (by decide)
    simp (disch := decide) only [shown, State.put_get_apart, State.put_get_same]
    exact Nat.mod_eq_of_lt fits
  have lost : shown.get F.FAB_REFLECT_STAT_lost_evt 0 = 1 := State.put_get_same _ F.FAB_REFLECT_STAT_lost_evt 1 0
  clear_value shown
  have tells (args : List Nat) : Tells [] 0 shown (((shown.vec0).pldm .reflectLost).logEvent 0x0011 0 args) :=
    ((Tells.emit shown _).trans (.pldm _ _)).trans (.logEvent _ _ _ _)
  have time (args : List Nat) : (((shown.vec0).pldm .reflectLost).logEvent 0x0011 0 args).time = shown.time := by
    obtain ⟨l, signalled⟩ := State.emit_eq shown (.msix 0 0)
    obtain ⟨m, l', notified⟩ := (shown.vec0).pldm_eq .reflectLost
    obtain ⟨g, r, logged⟩ := ((shown.vec0).pldm .reflectLost).logEvent_eq 0x0011 0 args
    rw [logged, notified, State.vec0, signalled]
  refine ⟨?_, ?_, ?_, ?_, ?_, ?_⟩
  · exact ((tells _).reads F.FAB_REFLECT_STAT_state (by decide) (by decide) 0).trans state
  · exact ((tells _).reads F.FAB_REFLECT_STAT_cause (by decide) (by decide) 0).trans cause'
  · exact ((tells _).reads F.FAB_REFLECT_STAT_lost_evt (by decide) (by decide) 0).trans lost
  · exact (tells _).refl.trans (by rw [frame])
  · exact (tells _).mem.trans (by rw [frame])
  · exact (time _).trans (by rw [frame])

/-- The pair's streaming has stopped: what was to be sent, and what was followed, is dropped. -/
def State.unpaired (s : State) : State :=
  (s.setRefl { s.refl with marks := [], tracking := false, dirty := [], copyAt := none, quiet := none, owe := false }).setFab
    { s.fab with reqs := s.fab.reqs.filter fun r => !(decide (0xA0 ≤ r.kind) && r.attempts == 0) }

theorem State.reflLost_of_bound (bound : s.reflBound = true) (marks : s.refl.marks = []) (cause : Nat) : s.reflLost cause =
    if s.get F.FAB_REFLECT_STAT_shadow 0 = 1 then s.unpaired.reflGone cause
    else if s.isSet F.FAB_REFLECT_STAT_overflow 0 then (s.unpaired.put F.FAB_REFLECT_STAT_shadow 3 0).reflGone cause
    else s.unpaired.setRefl { s.unpaired.refl with rolling := some (cause, s.time) } := by
  simp only [State.reflLost, bound, marks, List.foldl_nil, Bool.not_true, Bool.false_eq_true, if_false]
  rfl

/-- A partner lost while the shadow is being copied: nothing is rolled back. -/
theorem State.reflLost_copying (bound : s.reflBound = true) (marks : s.refl.marks = []) (copies : s.get F.FAB_REFLECT_STAT_shadow 0 = 1)
    {cause : Nat} (small : cause < 8) : GoneFor s.unpaired (s.reflLost cause) cause := by
  rw [State.reflLost_of_bound bound marks, if_pos copies]
  exact State.reflGone_goneFor _ small

theorem exec_partnerLossTimeout_quiet (bound : s.reflBound = true) {q : Nat} (quiet : s.refl.quiet = some q) :
    exec .partnerLossTimeout s = .next ((s.due (q + 1000000000)).reflLost 4) := by
  change execPartnerLossTimeout s = _
  simp [execPartnerLossTimeout, bound, quiet]

theorem exec_partnerLossTimeout_unheard (bound : s.reflBound = true) (quiet : s.refl.quiet = none) (owe : s.refl.owe = false) :
    exec .partnerLossTimeout s = .next ((s.due (s.refl.heard + s.refl.timeout * 100000)).reflLost 1) := by
  change execPartnerLossTimeout s = _
  simp [execPartnerLossTimeout, bound, quiet, owe]

theorem partnerLossTimeout_copying (bound : s.reflBound = true) (marks : s.refl.marks = []) (quiet : s.refl.quiet = none)
    (owe : s.refl.owe = false) (copies : s.get F.FAB_REFLECT_STAT_shadow 0 = 1) : Gives .partnerLossTimeout s fun t =>
      t.reflState = 5 ∧ t.get F.FAB_REFLECT_STAT_cause 0 = 1 ∧ t.get F.FAB_REFLECT_STAT_lost_evt 0 = 1 ∧ t.refl.tracking = false ∧
      s.refl.heard + s.refl.timeout * 100000 ≤ t.time ∧ t.mem = s.mem := by
  have gone := State.reflLost_copying (s := s.due (s.refl.heard + s.refl.timeout * 100000)) bound marks copies (cause := 1) (by decide)
  refine ⟨_, exec_partnerLossTimeout_unheard bound quiet owe, gone.state, gone.cause, gone.lost, by rw [gone.refl]; rfl, ?_, gone.mem⟩
  rw [gone.time]
  exact Nat.le_max_right _ _

theorem partnerLossTimeout_resuming (bound : s.reflBound = true) (marks : s.refl.marks = []) {q : Nat} (quiet : s.refl.quiet = some q)
    (copies : s.get F.FAB_REFLECT_STAT_shadow 0 = 1) : Gives .partnerLossTimeout s fun t =>
      t.reflState = 5 ∧ t.get F.FAB_REFLECT_STAT_cause 0 = 4 ∧ q + 1000000000 ≤ t.time ∧ t.mem = s.mem := by
  have gone := State.reflLost_copying (s := s.due (q + 1000000000)) bound marks copies (cause := 4) (by decide)
  refine ⟨_, exec_partnerLossTimeout_quiet bound quiet, gone.state, gone.cause, ?_, gone.mem⟩
  rw [gone.time]
  exact Nat.le_max_right _ _

theorem partnerLossTimeout_durable (bound : s.reflBound = true) (marks : s.refl.marks = []) (quiet : s.refl.quiet = none)
    (owe : s.refl.owe = false) (durable : s.get F.FAB_REFLECT_STAT_shadow 0 = 2) (whole : s.isSet F.FAB_REFLECT_STAT_overflow 0 = false) :
    Gives .partnerLossTimeout s fun t => t.refl.rolling = some (1, t.time) ∧ t.refl.log = s.refl.log ∧ t.refl.tracking = false ∧
      t.reflBound = false ∧ t.mem = s.mem := by
  let v := s.due (s.refl.heard + s.refl.timeout * 100000)
  have copied : ¬v.get F.FAB_REFLECT_STAT_shadow 0 = 1 := fun copies => absurd (durable.symm.trans copies) (by decide)
  have lost : v.reflLost 1 = v.unpaired.setRefl { v.unpaired.refl with rolling := some (1, v.time) } :=
    (State.reflLost_of_bound (s := v) bound marks 1).trans ((if_neg copied).trans (if_neg (Bool.eq_false_iff.1 whole)))
  refine ⟨v.reflLost 1, exec_partnerLossTimeout_unheard bound quiet owe, ?_⟩
  rw [lost]
  exact ⟨rfl, rfl, rfl, Bool.and_false _, rfl⟩

/-! ## ROLLBACK_DONE (R390) -/

theorem rollbackDone_gives {cause t0 : Nat} (rolling : s.refl.rolling = some (cause, t0)) (small : cause < 8) :
    Gives .rollbackDone s fun t => t.reflState = 5 ∧ t.refl.rolling = none ∧ t.refl.log = [] ∧
      t.get F.FAB_REFLECT_STAT_cause 0 = cause ∧ t0 + 32 * s.refl.log.length ≤ t.time ∧
      t.mem = ({ s with time := t.time }).rollback.mem := by
  let v := s.due (t0 + 32 * s.refl.log.length)
  have ran : exec .rollbackDone s = .next (v.rollback.reflGone cause) := by
    change execRollbackDone s = _
    rw [execRollbackDone, rolling]
  have gone := v.rollback.reflGone_goneFor small
  obtain ⟨m, d, frame⟩ := v.rollback_eq
  have time : (v.rollback.reflGone cause).time = v.time := by rw [gone.time, frame]
  refine ⟨_, ran, gone.state, by rw [gone.refl], ?_, gone.cause, ?_, ?_⟩
  · rw [gone.refl, frame]
  · rw [time]
    exact Nat.le_max_right _ _
  · rw [gone.mem, time]
    rfl

end

/-! ## The obligation -/

/-- Settles O55: what a packet leaves is what its checks leave (`Admits.reflection`); a store beside the pair dirties bursts only, and
the pair's end moves no memory. -/
theorem reflectionReceives : Obligations.ReflectionReceives := by
  refine ⟨?_, fun s binding w it work item busy => bindTimeout_gives binding work item busy, ?_, ?_, fun s cause t0 => rollbackDone_gives, ?_⟩
  · intro s port p x admits inOrder small
    have h : ReflArrives s port p x := ⟨admits, inOrder, small⟩
    refine ⟨fun bound partner epoch => ?_, fun binding partner kind given shadow total => h.bind binding partner kind given shadow total,
      fun stranger c hc kind => ?_⟩
    · have partner' : FromPartner s p := ⟨bound, partner, epoch⟩
      refine ⟨?_, fun kind => h.mark partner' kind, h.keep partner', h.resume partner'⟩
      intro kind inside mapped clean m old
      have burst : BurstArrives s port p x :=
        { h with partner := partner', kind := kind, inside := inside, mapped := mapped, clean := clean }
      exact ⟨burst.copied, burst.logged⟩
    · have reflects : isReflection p.kind = true ∧ exec c.2 s = .next (s.arrive port p) := by
        simp only [List.mem_cons, List.not_mem_nil, or_false] at hc
        rcases hc with rfl | rfl | rfl | rfl | rfl
        · exact ⟨by rw [kind]; rfl, exec_rbind kind⟩
        · exact ⟨by rw [kind]; rfl, exec_rburst kind⟩
        · exact ⟨by rw [kind]; rfl, exec_rmark kind⟩
        · exact ⟨by rw [kind]; rfl, exec_rkeep kind⟩
        · exact ⟨by rw [kind]; rfl, exec_rresume kind⟩
      exact ⟨_, reflects.2, h.stranger reflects.1 stranger⟩
  · intro s bound marks
    exact ⟨partnerLossTimeout_copying bound marks, fun q => partnerLossTimeout_resuming bound marks,
      partnerLossTimeout_durable bound marks⟩
  · intro s unbound
    change execPartnerLossTimeout s = _
    simp [execPartnerLossTimeout, unbound]
  · intro s still
    change execRollbackDone s = _
    rw [execRollbackDone, still]

end Sys2Proof.Machine
